-- ==== Sys2Proof/Word.lean ====
section
/-! DEFINITION. The word types of the KP-7 panel: a byte and a 32-bit register word (R3, R5). -/

namespace Sys2Proof

/-- One byte (R3). -/
abbrev Byte := BitVec 8

/-- One 32-bit word of a CSR window (R5) or of a 32-bit container (R155). -/
abbrev Word := BitVec 32

end Sys2Proof
end

