-- ==== Sys2Proof/Types.lean ====
section
/-! DEFINITION. The record types that commands carry as operands and that the state also holds: fault records, proof
reports, tack control payloads, fabric packets, link frames and their parts. -/

namespace Sys2Proof

/-- The severities of R8, lowest first. -/
inductive Severity where
  | notice | suspect | foxed | regionAbort | computeReset | panelHalt
deriving DecidableEq, Repr

/-- The fault record of R527: code, severity, cluster, region, count, detail, stroke and panel time; and the die that
raised it (the frame's ORIGIN, R522). -/
structure FaultRec where
  code : Nat := 0
  sev : Severity := .notice
  site : Nat := 0
  cluster : Nat := 0
  region : Nat := 0
  count : Nat := 1
  detail : Nat := 0
  stroke : Nat := 0
  time : Nat := 0
deriving DecidableEq, Repr

/-- What a tester reports of a unit (R37). -/
inductive ProofOutcome where
  | matched | mismatch | noResponse
deriving DecidableEq, Repr

/-- One report of proof: a tester's outcome for a unit of a target (R37); `tester = target` is the self verdict. -/
structure ProofReport where
  tester : Nat
  target : Nat
  unit : Nat
  outcome : ProofOutcome
deriving DecidableEq, Repr

/-- The payloads of a tack CONTROL frame (R522). -/
inductive Control where
  /-- R309: the epoch flips to a routing-table version. -/
  | epochFlip (version : Nat)
  /-- R309: a router holds no flit of the old epoch. -/
  | epochDrained (site : Nat)
  /-- R353: the port-table version flips. -/
  | portFlip (version : Nat)
  /-- R353: a link die has switched its port-table version. -/
  | portFlipped (site : Nat)
  /-- R316, R498: one entry of the broadcast tree. -/
  | treeParent (site parent : Nat)
  /-- R37, R42: a proof report. -/
  | proofReport (r : ProofReport)
  /-- R317: a die's result of broadcast verification. -/
  | bcastResult (site : Nat) (ok : Bool)
  /-- R481: a coolant sample (inlet and outlet in 0.25 °C, flow in 0.1 l/min, 1,024 when it is invalid). -/
  | coolant (inlet outlet flow : Nat)
  /-- R525: the value of ERR_HB_CFG.MISS. -/
  | heartbeat (miss : Nat)
deriving DecidableEq, Repr

/-- A manager's entry in the panel settings (R535, TCK_MGR). -/
structure ManagerEntry where
  addr : Nat
  write : Bool
deriving DecidableEq, Repr

/-- The reply to GetPanelSettings (R535): panel ID, the role and ETH_MODE of ports, what TIME_IN is enabled for (bit 0 PPS, bit 1
stroke lock; R73) and for which region, the PTP domain, port and enable, the management addresses and the port modes. -/
structure PanelSettings where
  panelId : Nat
  rigging : List (Nat × Nat × Nat)
  timeIn : Nat
  lockRegion : Nat
  ptpDomain : Nat
  ptpPort : Nat
  ptpEnable : Bool
  address : Nat
  managers : List ManagerEntry
  portModes : Nat
  /-- R261: the LPDDR5X data rate that rigging sets for all channels, in MT/s. -/
  memRate : Nat := 10667
deriving DecidableEq, Repr

/-- The header of a tack frame as far as an agent acts on it (R522, R523). -/
structure TackHeader where
  origin : Nat
  dst : Nat
  id : Nat
deriving DecidableEq, Repr

/-- A PTP message as the servo takes it (R70, R71), with the management port that it came in on, times in 1/16 nominal cycles
and the sync interval as the power of two of seconds: a one-step sync, which carries its origin time; a two-step sync, whose
origin time comes in its Follow_Up; or a delay exchange, with the transmit timestamp and the master's receive time. -/
inductive PtpMsg where
  | sync (port domain : Nat) (interval : Int) (origin received : Int)
  | followUp (port domain : Nat) (interval : Int) (origin received : Int)
  | delay (port domain : Nat) (sent received : Int)
deriving DecidableEq, Repr

/-- A compositor thread: thread 0–3 of core 0–7 of cluster 0–3 of a compute site (R135). -/
structure ThreadId where
  site : Nat
  cluster : Nat
  core : Nat
  thread : Nat
deriving DecidableEq, Repr

/-- Bytes with one fox bit: a 64 B row, or what a read delivered (R256, R257). -/
structure Delivered where
  data : List Byte
  fox : Bool
deriving DecidableEq, Repr

/-- A panel-link frame (R342). `crcOk` says whether its CRC holds. -/
structure PlFrame where
  type : Nat
  epoch : Nat := 0
  signal : Bool := false
  dst : Nat := 0
  src : Nat := 0
  ctx : Nat := 0
  psn : Nat := 0
  hops : Nat := 0
  reason : Nat := 0
  addr : Nat := 0
  rows : List Delivered := []
  crcOk : Bool := true
deriving DecidableEq, Repr

/-- A feeder frame (R355); a CREDIT frame has no payload. -/
structure FeedFrame where
  stream : Nat
  seq : Nat
  offset : Nat := 0
  data : List Byte := []
  crcOk : Bool := true
deriving DecidableEq, Repr

/-- The header of a fabric packet (R299), but for BODY, which is zero where its type defines none. -/
structure PacketHead where
  type : Nat
  cls : Nat := 0
  epoch : Nat := 0
  dst : Nat := 0
  dstCluster : Nat := 0
  src : Nat := 0
  srcCluster : Nat := 0
  len : Nat := 0
  hops : Nat := 0
  region : Nat := 0
  galley : Nat := 0
  trace : Nat := 0
  tag : Nat := 0
  seq : Nat := 0
  addr : Nat := 0
  imm : Nat := 0
deriving DecidableEq, Repr

/-- A 64 B unit that crosses a bundle, with its 128-bit sideband (R290): a flit, or a mesh word. -/
structure Flit where
  data : List Byte
  side : Nat
deriving DecidableEq, Repr

/-- An Azrolane frame on bundle `bundle` (16e + b) of die `site`, which receives it: what its wires carry, one UI after another: the
16 data wires and the 8 sideband wires (R319). -/
structure AzFrame where
  site : Nat
  bundle : Nat
  uis : List (Nat × Nat)
deriving DecidableEq, Repr

/-- A galley request as its packets name it (R270, R299): issuing die, cluster (4: the line galley), galley, number. -/
structure GalKey where
  site : Nat
  unit : Nat
  galley : Nat
  seq : Nat
deriving DecidableEq, Repr

/-- A message or packet on the packet fabric between two dies, as the units at its ends see it (R103). -/
inductive NetMsg where
  /-- R130: an SADD on its way to its home. -/
  | sadd (src home idx delta : Nat)
  /-- R131: a watch on its way to its home. -/
  | watch (src home idx target slot : Nat)
  /-- R131: a reached message on its way to the waiter. -/
  | reached (src dst slot : Nat)
  /-- R132: a last-arrival notice. -/
  | lastArrival (src dst : Nat)
  /-- R430: a claim of reprint `slot` of `site` for a reserve cluster. -/
  | reprintClaim (site slot reserve cluster : Nat)
  /-- R430, R431: the reserve's answer to a claim. -/
  | reprintGrant (site slot : Nat) (granted : Bool)
  /-- R431: the operands and the entry list of a reprint, on their way to its reserve. -/
  | reprintOperands (site slot : Nat)
  /-- R431: a reprint's rows and check results, on their way back. -/
  | reprintResult (site slot : Nat)
  /-- R245, R252: rows of a PUT for byte `off` of the slice of `cluster` of `dst`. -/
  | put (src srcCluster dst cluster off : Nat) (rows : List Delivered)
  /-- R299: a galley read request for rows at an address; a nonzero trace names the trace that returns them, and `row`
  where they land. -/
  | grdReq (k : GalKey) (addr rows trace row : Nat)
  /-- R299: galley read data. -/
  | grdRsp (k : GalKey) (rows : List Delivered)
  /-- R299, R262: a galley write, with the rows that carry a wrong CRC. -/
  | gwrReq (k : GalKey) (addr : Nat) (rows : List Delivered) (badCrc : List Nat)
  /-- R299: a galley write's acceptance. -/
  | gwrAck (k : GalKey)
  /-- R315: completion of a GREAD returned on a trace. -/
  | gtrDone (k : GalKey)
  /-- R285: a set-off copy of a shard's rows from a memory die to the link die of a context. -/
  | setoff (md ctx shard addr : Nat) (rows : List Delivered)
  /-- R289: the copy of a granule of a shard that is being resynchronised: its rows are read as it is handed over. -/
  | resync (md ctx shard addr : Nat)
  /-- R344: a stream copy; the write it belongs to completes when it is stored. -/
  | streamCopy (md ctx addr : Nat) (rows : List Delivered) (k : GalKey)
  /-- R287: PD's notice of a sheet of a region to a memory die. -/
  | setmark (md region sheet : Nat)
  /-- R287: a memory die's report that a sheet's copies for a context are all acknowledged. -/
  | sheetEnd (md ctx sheet : Nat)
  /-- R349: the partner's acknowledgement of a sheet marker, from the link die to PD. -/
  | setmarkAck (ctx sheet : Nat)
  /-- R346: a received set-off copy on its way to its memory die. -/
  | setoffIn (ctx psn addr : Nat) (rows : List Delivered) (signal : Bool)
  /-- R352: a transit frame on its way from a link die to that of its egress port. -/
  | transit (src link port : Nat) (f : PlFrame)
  /-- R351: a frame to this panel, for the context it names. -/
  | linkLocal (link : Nat) (f : PlFrame)
  /-- R309: the epoch flip to a version on its way to a die. -/
  | epoch (site version : Nat)
  /-- R309: the drain notice on its way to a die. -/
  | drained (site : Nat)
  /-- R312, R314: flit `index` of a trace packet that is due at a die on an arrival bundle, 64 at its source; `done` names the GREAD
  whose last flit it is (R315). -/
  | traceFlit (site bundle : Nat) (head : PacketHead) (index : Nat) (flit : Flit) (done : Option GalKey)
  /-- R317: a flit of the image, and its end, on their way to a die by unicast. -/
  | bcastAgain (site off : Nat) (data : List Byte)
  | bcastEndAgain (site crc : Nat)
  /-- R316: a flit of a broadcast on its way to a die: CSR offset and payload. -/
  | bcast (site off : Nat) (data : List Byte)
  /-- R317: the end of a broadcast, with the CRC of the image. -/
  | bcastEnd (site crc : Nat)
deriving DecidableEq, Repr

end Sys2Proof
end

