-- ==== Sys2Proof/Syntax.lean ====
section
/-! DEFINITION. The commands of the block, one constructor per row of spec/opcode_table.json: the events, register accesses,
schedule slots, messages and operations that the specification describes, each with the operands its effect depends on.
A physical outcome that the specification leaves to the world (an upset, a failing wire, a sensor's reading) is an operand. -/

namespace Sys2Proof

/-- A command. -/
inductive Instr where
  /-- COLD_RESET (R492): PWR_GOOD rising, or PANEL_RST_N rising while PWR_GOOD is high, starts a cold reset. Corner
  dies turn on, PD boots and the cold bring-up sequence of R496 runs. -/
  | coldReset (failed : List (Nat × Nat)) (streams : List (Nat × List Nat))
  /-- PANEL_RST_ASSERT (R492): PANEL_RST_N held low for at least 1 µs holds the panel in cold reset. Every domain
  except the corner domains goes dark. -/
  | panelRstAssert
  /-- FLASH_FREE (R495): On the flash-free message, AD takes the flash and reads and verifies the image PD booted. It
  sets or clears AD_STANDBY. -/
  | flashFree
  /-- POWER_WAVE_SLOT (R42): At each 2 ms slot boundary, wave w is powered, the dies of wave w-1 are proved and the
  edge dies of wave w-2 are proved. -/
  | powerWaveSlot (failed channels : List (Nat × Nat)) (wires : List (Nat × Nat × Nat))
  /-- PROOF_REPORT_DEADLINE (R42): At 1.90 ms into a proof run, testers report to PD. A tester still silent counts as
  no response. -/
  | proofReportDeadline
  /-- CORNER_PROOF_SLOT (R43): In slot 40, the testers fold the corner BIST logs and proof ends. -/
  | cornerProofSlot (raws : List (Nat × Nat × Nat)) (delays : List (Nat × Nat)) (silent : List Nat)
  /-- BRING_UP_READY (R496): When port rigging ends or its bound expires, READY is set and reported over tack. -/
  | bringUpReady
  /-- FIELD_BIST_START (R50): BST_CTRL.START asks for a field BIST, which is accepted or refused with 0x0E05, 0x0E0F
  or 0x0E10. -/
  | fieldBistStart (site mode kinds units : Nat)
  /-- FIELD_BIST_ABORT (R52): BST_CTRL.ABORT, or a thermal emergency on the target, stops a running BIST. The floor
  plan is unchanged and 0x0E0D is raised. -/
  | fieldBistAbort (site : Nat)
  /-- FIELD_BIST_DONE (R52): A field BIST run completes. In neighbour mode PD evaluates the reports, writes BST_RESULT
  and updates errata and floor plan. -/
  | fieldBistDone (site : Nat) (loopback : List Nat)
  /-- CLK_PERIOD_WRITE (R62): A write to CLK_PERIOD latches a target period for the next tick. It is ignored from
  other sources on a locked-up region. -/
  | clkPeriodWrite (site value : Nat) (draw : Bool)
  /-- MARGIN_STRETCH (R56): A monitor margin below TRIGGER stretches that period. Coupling stretches the other domains
  and the slip counters advance. -/
  | marginStretch (site domain margin sixteenths period : Nat)
  /-- DOMAIN_SKEW_FAULT (R60): Domain cycle indices that differ by more than 2 raise 0x030C. -/
  | domainSkewFault (site : Nat) (indices : List Nat)
  /-- OSCILLATOR_STOP (R53): An adaptive oscillator gives no edge for 64 reference cycles. Its domain is lost and
  0x030B is raised. -/
  | oscillatorStop (site domain : Nat)
  /-- CLK_FORCED_WRITE (R63): A write to CLK_FORCED.STRETCH forces every period longer within 1 µs, until 0 is
  written. -/
  | clkForcedWrite (site value : Nat)
  /-- REF_CLK_LOSS (R54): Loss of REF_CLK at the acting primary die moves the tree reference to the other corner. Loss
  at both halts the panel. -/
  | refClkLoss (site : Nat)
  /-- TIME_BEACON_SEND (R65): Every 131,072 nominal cycles, PD sends a time beacon with its panel time and rate word.
  -/
  | timeBeaconSend
  /-- TIME_BEACON (R65): A die compares a received beacon with its own count and leaves it, slews, or invalidates and
  reloads its panel time. -/
  | timeBeacon (site launch rate : Nat)
  /-- TICK_SEND (R91): PD computes the region's next tick stamp and draw values and sends the tick message at least 1
  µs ahead. -/
  | tickSend (region : Nat)
  /-- TICK_MESSAGE (R66): A die receives a tick message. A message that arrives after its stamp acts at once and
  raises 0x0306. -/
  | tickMessage (site region : Nat)
  /-- STROKE_TICK (R92): A die's panel time reaches a tick stamp. The die begins its next stroke, or slurs when it has
  not ended the current one. -/
  | strokeTick (site region : Nat) (peaks : List Nat)
  /-- PTP_MESSAGE (R71): A PTP sync or delay message updates the TD servo: offset, rate word, LOCKED state and a
  possible time step. -/
  | ptpMessage (m : PtpMsg)
  /-- PTP_HOLDOVER (R71): Four sync intervals pass without a valid sync. The servo enters HOLDOVER and raises 0x030D.
  -/
  | ptpHoldover
  /-- TIME_IN_EDGE (R72): A rising edge on TIME_IN is timestamped. It gives PPS phase, or stamps the locked region's
  next tick. -/
  | timeInEdge
  /-- STROKE_LOCK_LOST (R72): Three strokes pass without a valid edge. The region returns to internal timing and
  0x030F is raised. -/
  | strokeLockLost
  /-- TIME_OUT_PPS (R74): At each whole second of panel time, TD drives a 10 µs pulse on TIME_OUT. -/
  | timeOutPps
  /-- MESH_WORD_ARRIVE (R78): A scheduled-mesh word enters the crossing's elastic receive buffer with its stamp. -/
  | meshWordArrive (site bundle : Nat)
  /-- HOLD_END (R81): Awaited crossing data, a credit, a bank row, scoreboard entries or a galley entry become
  available. The held cycle issues. -/
  | holdEnd (site cycles late : Nat)
  /-- HOLD_TIMEOUT (R83): A single hold outlasts CLK_HOLD_TIMEOUT and raises 0x0301, 0x0302, 0x0704 or 0x0803. -/
  | holdTimeout (site : Nat)
  /-- END_OF_STROKE (R88): A die meets every end-of-stroke condition and reports its end on the tick-tree return wire.
  -/
  | endOfStroke (site : Nat)
  /-- STROKE_END_REPORT (R89): PD receives a die's end report. It fixes B_k and counts and reports any slur and slur
  alarm. -/
  | strokeEndReport (site : Nat)
  /-- SLUR_LIMIT_EXPIRED (R97): A die has not ended its stroke by the tick plus the slur limit. 0x0202 aborts the
  region. -/
  | slurLimitExpired (region : Nat)
  /-- STEP_ANNOUNCE (R94): A write of D to STK_R_STEP delays line 0 of the next stroke. It is a planned extension when
  longer than the gutter. -/
  | stepAnnounce (region d : Nat)
  /-- SHEET_COMMIT (R99): Once every die has ended the sheet-ending stroke, PD commits the sheet, or skips it for open
  marks. -/
  | sheetCommit (region : Nat) (writeOk : Bool)
  /-- LINE_ISSUE (R113): A decoded line issues all its slots in one die cycle. A decode fault raises 0x0220, and
  waits, holds and overdraw stop issue. -/
  | lineIssue (site late : Nat)
  /-- SLOT_NOP (R111): A slot holding NOP does nothing. -/
  | slotNop (site slot : Nat)
  /-- QUAD (R115): A quad record issues COUNT empty lines. -/
  | quad (site late : Nat)
  /-- LOOP_BEGIN (R118): A loop-begin marker opens a loop of COUNT iterations at DEPTH. -/
  | loopBegin (site : Nat)
  /-- LOOP_END (R118): A loop-end marker closes the innermost loop, jumping back or falling through. A broken rule
  raises 0x0226. -/
  | loopEnd (site : Nat)
  /-- SCHEDULE_LENGTH_REACHED (R114): The die-cycle index reaches N without ENDS and raises 0x0225. -/
  | scheduleLengthReached (site : Nat)
  /-- ENDS (R124): ENDS marks the last scheduled line and chooses where the next stroke begins. -/
  | ends (site : Nat) (w : BitVec 58)
  /-- LAUNCH (R137): LAUNCH starts an idle compositor thread at PC with x1 = ARG. It raises 0x0229 on a running
  thread. -/
  | launch (site : Nat) (w : BitVec 58)
  /-- PAGE (R120): PAGE loads a page into a line-buffer half through 64 line-galley reads. -/
  | page (site : Nat) (w : BitVec 58)
  /-- PAGE_LOAD_COMPLETE (R121): Every read of a page load completes. The half becomes valid, or foxed when any read
  completed foxed. -/
  | pageLoadComplete (site half : Nat)
  /-- JUMPP (R124): JUMPP moves the next record to an offset in a half, checking that the half is loaded and holds the
  right page. -/
  | jumpp (site : Nat) (w : BitVec 58)
  /-- WAITL (R121): WAITL stalls issue until the load into its half completes. -/
  | waitl (site : Nat) (w : BitVec 58)
  /-- XIMM (R125): XIMM supplies an extended field value to the named slot's operation. -/
  | ximm (site slot : Nat) (value : BitVec 54)
  /-- MARK (R125): MARK records TAG, the die-cycle index and panel time in the trace ring when TRACE is 1. -/
  | mark (site : Nat) (w : BitVec 58)
  /-- SADD (R129): SADD adds DELTA to a sync counter, locally or through a P0 message to its home. -/
  | sadd (site idx home delta : Nat)
  /-- SSET (R129): SSET sets a local counter and its cursor to VALUE. -/
  | sset (site idx value : Nat)
  /-- SWAIT (R128): SWAIT waits until a local counter reaches the effective target, then updates the cursor. -/
  | swait (site : Nat) (w : BitVec 58)
  /-- SWAITB (R134): SWAITB waits like SWAIT, bounded by BOUND die cycles of wait stall. -/
  | swaitb (site : Nat) (w : BitVec 58)
  /-- SWATCH (R131): SWATCH arms a watch slot and sends a P0 watch to the counter's home. -/
  | swatch (site idx home slot : Nat) (abs : Bool) (target : Nat)
  /-- SWAITW (R131): SWAITW waits until a watch slot is ready, then clears it. -/
  | swaitw (site : Nat) (w : BitVec 58)
  /-- WAIT_PASS (R133): Every wait of a stalled line passes, and the line issues at the next die-clock edge. -/
  | waitPass (site cycles : Nat)
  /-- SWAITB_BOUND_EXPIRED (R134): SWAITB's bound runs out with its condition unmet and raises 0x0228. -/
  | swaitbBoundExpired (site : Nat)
  /-- SYNC_WAIT_TIMEOUT (R134): SWAIT or SWAITW exceeds STK_SEQ_SYNC_TIMEOUT and raises 0x0227. -/
  | syncWaitTimeout (site : Nat)
  /-- SADD_ARRIVE (R130): A remote SADD reaches its home and is applied, or discarded with 0x022C. -/
  | saddArrive (home idx delta src : Nat)
  /-- WATCH_ARRIVE (R131): A watch reaches its home and is registered, answered at once, or refused with 0x022A when
  the table is full. -/
  | watchArrive (home idx target waiter slot : Nat)
  /-- REACHED_ARRIVE (R131): A reached message marks the waiter's watch slot ready. -/
  | reachedArrive (home waiter slot : Nat)
  /-- LAST_ARRIVAL_NOTICE (R132): A last-arrival notice increments STK_SEQ_LAST_ARR on the die that made the
  completing add. -/
  | lastArrivalNotice (home site : Nat)
  /-- CMP_ADD (R140): Compositor ADD: rd = rs1 + rs2. -/
  | cmpAdd (t : ThreadId) (rd rs1 rs2 : BitVec 5)
  /-- CMP_SUB (R140): Compositor SUB: rd = rs1 - rs2. -/
  | cmpSub (t : ThreadId) (rd rs1 rs2 : BitVec 5)
  /-- CMP_AND (R140): Compositor AND. -/
  | cmpAnd (t : ThreadId) (rd rs1 rs2 : BitVec 5)
  /-- CMP_OR (R140): Compositor OR. -/
  | cmpOr (t : ThreadId) (rd rs1 rs2 : BitVec 5)
  /-- CMP_XOR (R140): Compositor XOR. -/
  | cmpXor (t : ThreadId) (rd rs1 rs2 : BitVec 5)
  /-- CMP_SLL (R140): Compositor logical shift left. -/
  | cmpSll (t : ThreadId) (rd rs1 rs2 : BitVec 5)
  /-- CMP_SRL (R140): Compositor logical shift right. -/
  | cmpSrl (t : ThreadId) (rd rs1 rs2 : BitVec 5)
  /-- CMP_SRA (R140): Compositor arithmetic shift right. -/
  | cmpSra (t : ThreadId) (rd rs1 rs2 : BitVec 5)
  /-- CMP_SLT (R140): Compositor signed set-less-than. -/
  | cmpSlt (t : ThreadId) (rd rs1 rs2 : BitVec 5)
  /-- CMP_SLTU (R140): Compositor unsigned set-less-than. -/
  | cmpSltu (t : ThreadId) (rd rs1 rs2 : BitVec 5)
  /-- CMP_MUL (R140): Compositor MUL: the low 32 bits of the product. -/
  | cmpMul (t : ThreadId) (rd rs1 rs2 : BitVec 5)
  /-- CMP_MULHU (R140): Compositor MULHU: the high 32 bits of the unsigned product. -/
  | cmpMulhu (t : ThreadId) (rd rs1 rs2 : BitVec 5)
  /-- CMP_MIN (R140): Compositor signed minimum. -/
  | cmpMin (t : ThreadId) (rd rs1 rs2 : BitVec 5)
  /-- CMP_MAX (R140): Compositor signed maximum. -/
  | cmpMax (t : ThreadId) (rd rs1 rs2 : BitVec 5)
  /-- CMP_ADDI (R140): Compositor add immediate. -/
  | cmpAddi (t : ThreadId) (rd rs1 : BitVec 5) (imm : BitVec 16)
  /-- CMP_ANDI (R140): Compositor AND with a zero-extended immediate. -/
  | cmpAndi (t : ThreadId) (rd rs1 : BitVec 5) (imm : BitVec 16)
  /-- CMP_ORI (R140): Compositor OR with a zero-extended immediate. -/
  | cmpOri (t : ThreadId) (rd rs1 : BitVec 5) (imm : BitVec 16)
  /-- CMP_XORI (R140): Compositor XOR with a zero-extended immediate. -/
  | cmpXori (t : ThreadId) (rd rs1 : BitVec 5) (imm : BitVec 16)
  /-- CMP_SLLI (R140): Compositor shift left by an immediate. -/
  | cmpSlli (t : ThreadId) (rd rs1 : BitVec 5) (sh : BitVec 5)
  /-- CMP_SRLI (R140): Compositor logical shift right by an immediate. -/
  | cmpSrli (t : ThreadId) (rd rs1 : BitVec 5) (sh : BitVec 5)
  /-- CMP_SRAI (R140): Compositor arithmetic shift right by an immediate. -/
  | cmpSrai (t : ThreadId) (rd rs1 : BitVec 5) (sh : BitVec 5)
  /-- CMP_LUI (R140): Compositor LUI: rd = imm << 16. -/
  | cmpLui (t : ThreadId) (rd : BitVec 5) (imm : BitVec 16)
  /-- CMP_LW (R138): Compositor word load from the cluster slice at the thread's port cycle. -/
  | cmpLw (t : ThreadId) (rd rs1 : BitVec 5) (imm : BitVec 16)
  /-- CMP_LBU (R138): Compositor zero-extended byte load from the slice. -/
  | cmpLbu (t : ThreadId) (rd rs1 : BitVec 5) (imm : BitVec 16)
  /-- CMP_SW (R138): Compositor word store to the slice, as a read-modify-write. -/
  | cmpSw (t : ThreadId) (rs rs1 : BitVec 5) (imm : BitVec 16)
  /-- CMP_SB (R138): Compositor byte store to the slice. -/
  | cmpSb (t : ThreadId) (rs rs1 : BitVec 5) (imm : BitVec 16)
  /-- CMP_BEQ (R140): Compositor branch if equal. -/
  | cmpBeq (t : ThreadId) (rs1 rs2 : BitVec 5) (off : BitVec 16)
  /-- CMP_BNE (R140): Compositor branch if not equal. -/
  | cmpBne (t : ThreadId) (rs1 rs2 : BitVec 5) (off : BitVec 16)
  /-- CMP_BLT (R140): Compositor branch if less than, signed. -/
  | cmpBlt (t : ThreadId) (rs1 rs2 : BitVec 5) (off : BitVec 16)
  /-- CMP_BGE (R140): Compositor branch if greater than or equal, signed. -/
  | cmpBge (t : ThreadId) (rs1 rs2 : BitVec 5) (off : BitVec 16)
  /-- CMP_BLTU (R140): Compositor branch if less than, unsigned. -/
  | cmpBltu (t : ThreadId) (rs1 rs2 : BitVec 5) (off : BitVec 16)
  /-- CMP_JAL (R140): Compositor jump and link. -/
  | cmpJal (t : ThreadId) (rd : BitVec 5) (target : BitVec 14)
  /-- CMP_JALR (R140): Compositor jump and link through a register. -/
  | cmpJalr (t : ThreadId) (rd rs1 : BitVec 5) (imm : BitVec 16)
  /-- CMP_SIG (R140): Compositor SIG adds to a local sync counter. -/
  | cmpSig (t : ThreadId) (rs : BitVec 5) (idx imm8 : BitVec 8)
  /-- CMP_SRD (R140): Compositor SRD reads a local sync counter. -/
  | cmpSrd (t : ThreadId) (rs : BitVec 5) (idx : BitVec 8)
  /-- CMP_RDS (R140): Compositor RDS reads a system item: panel time, index, site, identity or stroke. -/
  | cmpRds (t : ThreadId) (rs : BitVec 5) (item : BitVec 8)
  /-- CMP_END (R137): Compositor END optionally adds to a counter, then ends the thread. -/
  | cmpEnd (t : ThreadId) (rs : BitVec 5) (idx imm8 : BitVec 8)
  /-- CMP_VLD (R138): Compositor 64-byte vector load. -/
  | cmpVld (t : ThreadId) (vd rs1 : BitVec 5) (imm8 : BitVec 8)
  /-- CMP_VST (R138): Compositor 64-byte vector store. -/
  | cmpVst (t : ThreadId) (vs rs1 : BitVec 5) (imm8 : BitVec 8)
  /-- CMP_VADD (R141): Compositor lane-wise vector add. -/
  | cmpVadd (t : ThreadId) (vd vs1 vs2 : BitVec 5) (ty : BitVec 3)
  /-- CMP_VSUB (R141): Compositor lane-wise vector subtract. -/
  | cmpVsub (t : ThreadId) (vd vs1 vs2 : BitVec 5) (ty : BitVec 3)
  /-- CMP_VMUL (R141): Compositor lane-wise vector multiply. -/
  | cmpVmul (t : ThreadId) (vd vs1 vs2 : BitVec 5) (ty : BitVec 3)
  /-- CMP_VFMA (R141): Compositor lane-wise fused multiply-add. -/
  | cmpVfma (t : ThreadId) (vd vs1 vs2 : BitVec 5) (ty : BitVec 3)
  /-- CMP_VMAX (R141): Compositor lane-wise maximum. -/
  | cmpVmax (t : ThreadId) (vd vs1 vs2 : BitVec 5) (ty : BitVec 3)
  /-- CMP_VCMP (R141): Compositor lane-wise compare. -/
  | cmpVcmp (t : ThreadId) (vd vs1 vs2 : BitVec 5) (ty : BitVec 3) (op : BitVec 8)
  /-- CMP_VSEL (R140): Compositor lane-wise select. -/
  | cmpVsel (t : ThreadId) (vd vs1 vs2 : BitVec 5) (ty : BitVec 3)
  /-- CMP_VCVT (R141): Compositor lane-wise format conversion. -/
  | cmpVcvt (t : ThreadId) (vd vs1 : BitVec 5) (ty : BitVec 3) (imm8 : BitVec 8)
  /-- CMP_VRED (R141): Compositor pairwise reduction of all lanes. -/
  | cmpVred (t : ThreadId) (vd vs1 : BitVec 5) (ty : BitVec 3)
  /-- CMP_VPERM (R140): Compositor lane permutation. -/
  | cmpVperm (t : ThreadId) (vd vs1 vs2 : BitVec 5) (ty : BitVec 3)
  /-- CMP_VSPL (R141): Compositor splat of a scalar to every lane. -/
  | cmpVspl (t : ThreadId) (vd rs1 : BitVec 5) (ty : BitVec 3)
  /-- CMP_VEXT (R141): Compositor extraction of one lane to a scalar. -/
  | cmpVext (t : ThreadId) (rd vs1 : BitVec 5) (ty : BitVec 3) (imm8 : BitVec 8)
  /-- CMP_ILLEGAL (R140): An illegal compositor instruction raises 0x022D. -/
  | cmpIllegal (t : ThreadId)
  /-- WLOAD (R180): WLOAD loads a weight tile into a DE bank, forming its check values. -/
  | wload (site cluster : Nat) (w : BitVec 58) (ximm : Option (BitVec 54))
  /-- STREAM (R175): STREAM multiplies input rows by a DE bank into accumulator rows, charging 8 tokens per row. -/
  | stream (site cluster : Nat) (w : BitVec 58) (ximm : Option (BitVec 54))
  /-- DRAIN (R173): DRAIN writes accumulator rows to the slice and checks them. -/
  | drain (site cluster : Nat) (w : BitVec 58)
  /-- AINIT (R175): AINIT loads accumulator rows from 32-bit containers. -/
  | ainit (site cluster : Nat) (w : BitVec 58)
  /-- WLOAD_READY (R180): A WLOAD's bank becomes ready, or foxed if it read foxed data. -/
  | wloadReady (site cluster : Nat)
  /-- STREAM_DONE (R180): A STREAM's rows become valid and its bank is no longer in use. -/
  | streamDone (site cluster : Nat) (parity : Bool)
  /-- AINIT_DONE (R180): An AINIT's rows become valid. -/
  | ainitDone (site cluster : Nat)
  /-- DRAIN_DONE (R189): A DRAIN's writes become visible and its checks become final. Failing rows open suspect
  entries and marks. -/
  | drainDone (site cluster : Nat) (upset : List (Nat × Nat × Nat))
  /-- DEN_INJECT (R192): DEN_CTRL.INJECT makes the next checksum check on INJ_CL fail. -/
  | denInject (site cluster : Nat)
  /-- SLOAD (R204): SLOAD loads a compressed tile with metadata into an SE bank and runs the metadata checker. -/
  | sload (site cluster : Nat) (w : BitVec 58) (ximm : Option (BitVec 54))
  /-- SSTREAM (R202): SSTREAM multiplies input rows by an SE bank, charging 4 tokens per row. -/
  | sstream (site cluster : Nat) (w : BitVec 58) (ximm : Option (BitVec 54))
  /-- SDRAIN (R202): SDRAIN writes SE accumulator rows and checks them. -/
  | sdrain (site cluster : Nat) (w : BitVec 58)
  /-- SAINIT (R202): SAINIT loads SE accumulator rows. -/
  | sainit (site cluster : Nat) (w : BitVec 58)
  /-- SLOAD_READY (R208): An SLOAD's bank is ready and the checker verdict is final. A failed bank raises the first
  checker code at foxed. -/
  | sloadReady (site cluster : Nat)
  /-- SSTREAM_DONE (R204): An SSTREAM's rows become valid, or foxed on a failed bank. -/
  | sstreamDone (site cluster : Nat) (parity : Bool)
  /-- SAINIT_DONE (R204): An SAINIT's rows become valid. -/
  | sainitDone (site cluster : Nat)
  /-- SDRAIN_DONE (R210): An SDRAIN's writes are visible and its checks are final, with suspect entries and marks. -/
  | sdrainDone (site cluster : Nat) (upset : List (Nat × Nat × Nat))
  /-- SPA_INJECT (R210): SPA_CTRL.INJECT fails the next SE checksum check on INJ_CL. -/
  | spaInject (site cluster : Nat)
  /-- SPA_META_INJECT (R207): SPA_CTRL.META_INJECT fails the next SLOAD's group 0 under rule 1. -/
  | spaMetaInject (site cluster : Nat)
  /-- GATE (R226): GATE ranks scores, assigns capacity slots, carries or leaves choices residual, and writes the
  output area. -/
  | gate (site : Nat) (w : BitVec 58) (ximm : Option (BitVec 54))
  /-- JUST (R234): JUST packs the valid records of its input runs into balanced output runs in global order. -/
  | just (site : Nat) (w : BitVec 58)
  /-- MERGE (R235): MERGE sorts and optionally combines up to four input runs by key. -/
  | merge (site : Nat) (w : BitVec 58)
  /-- SLOT12_DONE (R222): A GATE, JUST or MERGE output becomes visible and the unit is free. -/
  | slot12Done (site unit : Nat)
  /-- COPY (R245): COPY copies LEN rows within the slice, with their fox bits. -/
  | copy (site cluster : Nat) (w : BitVec 58)
  /-- ZERO (R245): ZERO writes LEN zero rows and clears their fox bits. -/
  | zero (site cluster : Nat) (w : BitVec 58)
  /-- STORE (R246): STORE converts and packs 32-bit containers into a narrower format, optionally with stochastic
  rounding. -/
  | store (site cluster : Nat) (w : BitVec 58) (ximm : Option (BitVec 54))
  /-- CSTORE (R247): CSTORE performs a compressing store: pruning or strict, with metadata, shadow and twin. -/
  | cstore (site cluster : Nat) (w : BitVec 58)
  /-- PUT (R245): PUT sends rows at P3 to a window in another cluster's slice. -/
  | put (site cluster : Nat) (w : BitVec 58) (ximm : Option (BitVec 54))
  /-- WOPEN (R251): WOPEN opens a window and zeroes its landed count. It raises 0x0712 when illegal. -/
  | wopen (site cluster : Nat) (w : BitVec 58)
  /-- WCLOSE (R251): WCLOSE closes a window. -/
  | wclose (site cluster : Nat) (w : BitVec 58)
  /-- SCRATCH_OP_DONE (R248): A COPY, ZERO, STORE or CSTORE's writes become visible. -/
  | scratchOpDone (site cluster : Nat)
  /-- PUT_ARRIVE (R252): A PUT packet at the owner lands in an admitting window or is rejected with 0x0710. It updates
  the landed count and signal counter. -/
  | putArrive (src srcCluster site cluster row : Nat) (rows : List Delivered)
  /-- SCOREBOARD_RETIRE (R254): A scoreboard range retires when its port occupancy ends or its writes become visible.
  -/
  | scoreboardRetire (site cluster id : Nat)
  /-- SCRUB_ACCESS (R258): The scrubber reads a row at phase 14 and foxes it on a parity failure, raising 0x0721. -/
  | scrubAccess (site cluster row upset : Nat)
  /-- PAR_INJECT (R256): SPR_CTRL.PAR_INJECT stores the next full-row write with inverted parity on word 0. -/
  | parInject (site cluster : Nat)
  /-- FOX_FILL_DONE (R259): A cluster finishes fox-filling its slice and begins accepting slots and ports. -/
  | foxFillDone (site cluster : Nat)
  /-- GREAD (R267): GREAD issues a galley read into the slice, taking a sequence number. -/
  | gread (site cluster : Nat) (w : BitVec 58)
  /-- GWRITE (R267): GWRITE issues a galley write from the slice. -/
  | gwrite (site cluster : Nat) (w : BitVec 58)
  /-- GWAIT (R271): GWAIT waits until COMPLETED reaches the effective target, or raises 0x0804 when the target lies
  beyond ISSUED. -/
  | gwait (site cluster : Nat) (w : BitVec 58)
  /-- GDRAIN (R267): GDRAIN waits until COMPLETED equals ISSUED for the named galleys. -/
  | gdrain (site cluster : Nat) (w : BitVec 58)
  /-- GALLEY_REQUEST_SEND (R274): A request waiting for quota is sent when an earlier request completes. -/
  | galleyRequestSend (site cluster : Nat)
  /-- MD_READ_REQUEST (R279): A memory die serves a read: fox table, link ECC with retries, CRC, then a response or
  trace data. -/
  | mdReadRequest (k : GalKey) (corrected retries : Nat) (failed : List Nat)
  /-- MD_WRITE_REQUEST (R279): A memory die checks a write's CRC, accepts it into the write buffer, updates the fox
  table and makes set-off or stream copies. -/
  | mdWriteRequest (k : GalKey) (noise : List (Nat × Nat))
  /-- READ_DATA_LAND (R270): Galley read data lands in the slice. Its CRC is checked and COMPLETED may advance. -/
  | readDataLand (k : GalKey) (hostRows : List Delivered) (noise : List (Nat × Nat))
  /-- WRITE_ACK_ARRIVE (R270): A write acceptance arrives and COMPLETED may advance. -/
  | writeAckArrive (k : GalKey)
  /-- GALLEY_TIMEOUT (R278): A request does not complete within GAL_TIMEOUT. A read completes foxed and a write raises
  0x0812. -/
  | galleyTimeout (k : GalKey)
  /-- FOX_SUMMARY_SWEEP (R281): Every 1 µs per channel, the sweep visits a set summary segment and clears it when it
  reads zero. -/
  | foxSummarySweep (md channel : Nat)
  /-- ODECC_POLL (R261): Every 10 ms, the memory die reads the on-die ECC counts and latches the channel counts. -/
  | odeccPoll (md : Nat) (odecc refresh temp : List Nat)
  /-- GAL_CRC_INJECT (R262): GAL_CTRL.CRC_INJECT sends the next GWRITE row with an inverted CRC. -/
  | galCrcInject (site cluster : Nat)
  /-- SETOFF_COPY_ACK (R287): A link die acknowledges a set-off copy once it holds a PSN, freeing the write-buffer
  entry. -/
  | setoffCopyAck (md ctx : Nat)
  /-- SETMARK_NOTICE (R287): A memory die receives a SETMARK for a sheet and reports sheet end once prior copies are
  acknowledged. -/
  | setmarkNotice (md region sheet : Nat)
  /-- SHEET_END_REPORT (R287): The link die collects the reports and sends the context's MARK frame when all have
  arrived. -/
  | sheetEndReport (md ctx sheet : Nat)
  /-- SETOFF_ACK_WAIT_EXPIRED (R287): GAL_SO_ACK_WAIT elapses and PD writes the commit record without the acknowledged
  flag. -/
  | setoffAckWaitExpired (region : Nat)
  /-- SETOFF_RECEIVE (R288): A received set-off copy is written into its receive shard or discarded with 0x0822. -/
  | setoffReceive (ctx psn : Nat)
  /-- SETOFF_RESYNC (R289): GAL_SO_CTRL.RESYNC copies an unmirrored shard's whole contents again. -/
  | setoffResync (shard : Nat)
  /-- MSEND (R294): MSEND sends rows on a mesh crossing every SPACE cycles, each stamped. -/
  | msend (site cluster : Nat) (w : BitVec 58)
  /-- MRECV (R295): MRECV makes scheduled reads of a mesh crossing, checking stamp and KA. -/
  | mrecv (site cluster : Nat) (w : BitVec 58)
  /-- TSEND (R313): TSEND sends rows onto a trace sourced at this die. -/
  | tsend (site cluster : Nat) (w : BitVec 58)
  /-- PACKET_HOP (R302): A head flit is routed at a router by its epoch's table, or discarded for no route, hops,
  class or a down edge. -/
  | packetHop (site input cls : Nat)
  /-- REIN_ALARM (R311): P2 injection is reined longer than REIN_ALARM in a stroke and raises 0x0908. -/
  | reinAlarm (site cls cycles : Nat)
  /-- FAB_FLIP (R309): FAB_CTRL.FLIP on the acting primary die sends an EPOCH flip along the broadcast tree. -/
  | fabFlip
  /-- EPOCH_FLIP_MSG (R309): A die receives the flip and switches its injection epoch. -/
  | epochFlipMsg (site version : Nat)
  /-- ROUTER_DRAIN_REPORT (R309): A router reports holding no old-epoch flit. When all have reported, PD sets
  OLD_DRAINED and sends a drain notice. -/
  | routerDrainReport (site : Nat)
  /-- DRAIN_NOTICE (R309): A die receives the drain notice and its old version becomes idle. -/
  | drainNotice (site : Nat)
  /-- FAB_RT_WRITE (R308): A routing-table write to a non-idle version is ignored with 0x090B. -/
  | fabRtWrite (site dst value : Nat)
  /-- TRACE_FLIT (R314): A trace flit advances to its OUT bundles and lands in the DELIVER clusters, or is discarded
  with 0x090A. -/
  | traceFlit (site bundle trace noise : Nat)
  /-- TRACE_CREDIT_TIMEOUT (R314): A trace flit waits for credit longer than the hold timeout and raises 0x0909. -/
  | traceCreditTimeout (site trace : Nat)
  /-- GTR_DONE (R315): GTR_DONE completes the galley entry of a trace GREAD. -/
  | gtrDone (k : GalKey)
  /-- BCAST (R316): A broadcast packet is written locally and forwarded to its children. -/
  | bcast (site off : Nat) (data : List Byte)
  /-- BCAST_END (R317): A die checks the image CRC and reports the result over tack. -/
  | bcastEnd (site crc : Nat)
  /-- BCAST_VERIFY_REPORT (R317): PD resends the image by unicast to a failing die, up to three times, then marks it
  unusable. -/
  | bcastVerifyReport (site : Nat) (ok : Bool)
  /-- AZ_IDLE (R322): An IDLE frame carries credits, ACK and liveness. -/
  | azIdle (f : AzFrame)
  /-- AZ_DATA (R322): A DATA frame delivers a 64 B unit, in SEQ order, consuming a credit. -/
  | azData (f : AzFrame) (cls : Nat)
  /-- AZ_KA (R322): A KA frame delivers a KA-packed unit. -/
  | azKa (f : AzFrame) (cls : Nat)
  /-- AZ_NAK (R325): A NAK makes the sender replay from ACK + 1. Eight NAKs on one SEQ trigger a retrain. -/
  | azNak (f : AzFrame)
  /-- AZ_TIE (R331): A TIE frame shows the peer tied. Mesh reads on that crossing complete with tie rows. -/
  | azTie (f : AzFrame)
  /-- AZ_CUT (R333): A CUT frame shows the peer has cut the edge. -/
  | azCut (f : AzFrame)
  /-- AZ_TRUNC (R333): A TRUNC frame discards the packet open on its class and passes TRUNC on. -/
  | azTrunc (f : AzFrame)
  /-- AZ_CRC_FAIL (R325): A frame fails its CRC, or is of reserved kind. Later frames are discarded and a NAK is sent.
  -/
  | azCrcFail (f : AzFrame)
  /-- AZ_NO_GOOD_FRAME (R326): No frame passes its CRC for 256 UI, and the bundle retrains. -/
  | azNoGoodFrame (site bundle : Nat)
  /-- AZ_RETRAIN (R326): AZL_CTRL.RETRAIN retrains a bundle. -/
  | azRetrain (site edge bundle : Nat)
  /-- AZ_RETRAIN_DONE (R326): A retrain ends. A mesh or trace bundle raises 0x0A0C, and three failures make the bundle
  bad. -/
  | azRetrainDone (site bundle : Nat) (ok : Bool) (tx rx : List Nat) (raw : Nat)
  /-- AZ_CUT_TIMEOUT (R332): No valid frame, or no LIVE change, for AZL_CUT_TIMEOUT cuts the edge. -/
  | azCutTimeout (site edge : Nat)
  /-- AZ_CUT_ORDER (R333): AZL_CTRL.CUT cuts an edge by firmware order and raises 0x0A08. -/
  | azCutOrder (site edge : Nat)
  /-- AZ_REJOIN (R334): AZL_CTRL.REJOIN retrains a cut edge from step 1. -/
  | azRejoin (site edge : Nat) (wires : List (Nat × Nat))
  /-- TIE_MASK_WRITE (R331): Writing TIE_MASK ties or unties edges. -/
  | tieMaskWrite (site mask : Nat)
  /-- TC_DESCRIPTOR (R329): A capability descriptor on the test channel fixes the edge's profile and roles, or marks
  the edge untested. -/
  | tcDescriptor (site edge : Nat) (frame : List Byte)
  /-- TC_SNAPSHOT (R37): A BIST snapshot frame is folded into a tester's signature register. -/
  | tcSnapshot (tester target : Nat) (frame : List Byte)
  /-- TC_LOOPBACK (R330): A loopback-control frame runs bundle loopback. -/
  | tcLoopback (site bundle : Nat) (tx rx : List Nat)
  /-- TC_FRAME_CRC_FAIL (R327): A test-channel frame fails its CRC. It is discarded and 0x0A0B is raised. -/
  | tcFrameCrcFail (tester target : Nat) (frame : List Byte)
  /-- PL_FRAME_ROUTE (R351): A panel-link frame is looked up in the port table and delivered locally, switched to
  PRIMARY or ALT, or discarded. -/
  | plFrameRoute (port : Nat) (words : List (List Byte))
  /-- TRANSIT_PACKET (R352): A TRANSIT packet reaches the egress link die and leaves on its port. -/
  | transitPacket (src port : Nat) (f : PlFrame)
  /-- PL_DATA (R346): A receive context checks a DATA frame, writes it to memory, signals, or NAKs it. -/
  | plData (f : PlFrame)
  /-- PL_ACK (R348): An ACK frees acknowledged frames from the send context's retry store. -/
  | plAck (f : PlFrame)
  /-- PL_NAK (R348): A NAK makes the sender resend missing PSNs, wait, or fail the context. -/
  | plNak (f : PlFrame)
  /-- PL_MARK (R349): A MARK frame is answered with MARK_ACK once every lower PSN has been received. -/
  | plMark (f : PlFrame)
  /-- PL_MARK_ACK (R349): A MARK_ACK is passed to PD as a set-off sheet acknowledgement. -/
  | plMarkAck (f : PlFrame)
  /-- SETMARK_ACK (R287): PD receives a shard's sheet acknowledgement. It writes the commit record when all shards are
  in, or counts a late ack with 0x0821. -/
  | setmarkAck (ctx sheet : Nat)
  /-- PL_KEEPALIVE (R354): A KEEPALIVE frame brings a trained port up, or keeps it up. -/
  | plKeepalive (port src : Nat)
  /-- PL_KEEPALIVE_SEND (R341): A port idle for 10 µs sends a KEEPALIVE. -/
  | plKeepaliveSend (port : Nat)
  /-- PL_ACK_TIMER (R347): A receive context sends an ACK at least every 2 µs while frames are outstanding. -/
  | plAckTimer (ctx : Nat)
  /-- PL_GAP_TIMEOUT (R347): A gap that persists for 10 µs sends NAK reason 0. -/
  | plGapTimeout (ctx : Nat)
  /-- PL_RTO_EXPIRE (R348): An unacknowledged frame is resent after RTO, or the context fails at MAX_RETRY with
  0x0B08. -/
  | plRtoExpire (ctx psn : Nat)
  /-- STREAM_COPY_STORED (R344): A stream copy enters the retry store, and the withheld galley write completes. -/
  | streamCopyStored (md ctx : Nat)
  /-- PL_PORT_LOSS (R354): Loss of signal or alignment for 2 µs takes a port down and raises 0x0B01. -/
  | plPortLoss (port : Nat)
  /-- PL_PORT_IDLE_TIMEOUT (R354): No frame for 100 µs takes a port down. -/
  | plPortIdleTimeout (port : Nat)
  /-- LNK_FLIP (R353): LNK_CTRL.FLIP sends a port-table flip over tack to every link die. -/
  | lnkFlip
  /-- PT_FLIP_MSG (R353): A link die switches its port-table version and reports. -/
  | ptFlipMsg (link version : Nat)
  /-- PT_OLD_IDLE (R353): 10 µs after all flip reports, the old port-table version becomes idle. -/
  | ptOldIdle
  /-- LNK_PT_WRITE (R353): A port-table write to a non-idle version is ignored with 0x0B0F. -/
  | lnkPtWrite (link panel value : Nat)
  /-- LNK_RERIG (R340): LNK_CTRL.RERIG re-rigs ports, or is refused while a port carries a running region's context.
  -/
  | lnkRerig (link mask : Nat)
  /-- PORT_TRAINING_DONE (R339): A port finishes lane training, or fails with 0x0B0E. -/
  | portTrainingDone (port : Nat) (ok : Bool)
  /-- FEED_FRAME (R355): A feeder FEED frame is written to its window and credited, or refused with a CREDIT naming
  the resend. -/
  | feedFrame (port : Nat) (words : List (List Byte))
  /-- ETH_FRAME (R357): An accepted Ethernet frame is written to its ring and signalled, or dropped when the ring is
  full. -/
  | ethFrame (port iface : Nat) (data : List Byte) (fcsOk : Bool)
  /-- ETH_CONS_POLL (R357): Every 1 µs, the link die reads CONS and starts or stops PAUSE. -/
  | ethConsPoll (port iface : Nat)
  /-- LANE_MARGIN_SAMPLE (R358): Every 1 ms, a lane's eye and symbol errors are judged, raising 0x0B0A or 0x0B0B. -/
  | laneMarginSample (link lane eye errors : Nat)
  /-- FRM_START (R391): FRM_CTRL.START reads, verifies and checks a forme, then begins a full or partial lock-up, or
  rejects it. -/
  | frmStart
  /-- FRM_ABORT (R406): FRM_CTRL.ABORT abandons a lock-up in phases 1 to 3, and is ignored later. -/
  | frmAbort
  /-- LOCKUP_DETOUR_DRAINED (R404): With the detour version drained, the lock-up waits for the region's stop tick. -/
  | lockupDetourDrained
  /-- LOCKUP_TIED_DRAINED (R396): With galleys drained, PD loads the region: registers, pages, relocation, compositor
  code, constants, counters, power, entry page and initial record. -/
  | lockupTiedDrained
  /-- LOCKUP_FINAL_DRAINED (R404): After untie and the final flip drain, PD stamps stroke 0 of the region. -/
  | lockupFinalDrained
  /-- IMPOSITION_REQUEST (R407): FRM_R_IMP.REQ, or the draw controller, latches an imposition request, replacing or
  discarding others with 0x0122. -/
  | impositionRequest (region imp : Nat) (draw : Bool)
  /-- OVERDRAW_RETRY (R414): After an overdraw hold period, the line tries again against the token window. -/
  | overdrawRetry (site : Nat)
  /-- ERR_ACCEPT (R425): ERR_R_CFG.ACCEPT settles every open entry and check mark of the region, raising 0x1207. -/
  | errAccept (region : Nat)
  /-- REPRINT_CLAIM (R430): A reserve die grants or refuses a claim at once. -/
  | reprintClaim (site slot reserve cluster : Nat)
  /-- REPRINT_GRANT (R431): On a grant, the original die checks operand CRCs and sends operands. On refusal it tries
  the next cluster or raises 0x1204. -/
  | reprintGrant (site slot : Nat) (granted : Bool)
  /-- REPRINT_OPERANDS (R566): Operand packets land at the reserve, which replays logged operations as they become
  ready. -/
  | reprintOperands (site slot : Nat)
  /-- REPRINT_REPLAY_DONE (R431): The reserve drains the replayed range and returns rows with its check results. -/
  | reprintReplayDone (site slot : Nat) (upset : List (Nat × Nat × Nat))
  /-- REPRINT_RESULT (R432): The original compares the returned rows bitwise. It settles, arbitrates, corrects, or
  leaves the mark open. -/
  | reprintResult (site slot : Nat)
  /-- REPRINT_TIMEOUT (R431): A reprint passes its timeout. It is cancelled and retried once, or the mark is left
  open. -/
  | reprintTimeout (site slot : Nat)
  /-- ERR_RP_INJECT (R431): ERR_CTRL.RP_INJECT inverts bit 0 of row 0 in the next reprint served as reserve. -/
  | errRpInject (site : Nat)
  /-- STROKE_ABORT_MSG (R440): A STROKE abort stops issue on a die and discards its threads, marks and reprints. -/
  | strokeAbortMsg (site : Nat)
  /-- REGION_ABORT (R440): PD begins a region restart: abort message, drains and settle wait. -/
  | regionAbort (region code : Nat)
  /-- ABORT_SETTLE_EXPIRED (R440): The settle time ends. PD picks the restart point and imposition and reloads, or
  leaves the region out of service. -/
  | abortSettleExpired (region : Nat)
  /-- RESTART_RELOAD_DONE (R440): The reload completes. The stroke number is restored and PD stamps the restart tick
  with 0x1214. -/
  | restartReloadDone (region : Nat)
  /-- PWR_REQ_ON (R457): PWR_DOM.REQ_ON asks for a domain to turn on at the next attempt. -/
  | pwrReqOn (site domain : Nat)
  /-- PWR_REQ_OFF (R460): PWR_DOM.REQ_OFF asks for a domain to switch off at the next tick. -/
  | pwrReqOff (site domain : Nat)
  /-- TURN_ON_ATTEMPT (R458): At a tick or 125,000-cycle boundary, a requested domain is granted against the ledgers,
  deferred, or forced. -/
  | turnOnAttempt (site domain groupPeak railPeak : Nat)
  /-- HEADER_STAGE_STEP (R456): After each STAGE_INT, the next header stage closes. -/
  | headerStageStep (site domain : Nat) (ok : Bool)
  /-- DOMAIN_POWER_GOOD (R456): A domain reaches power good, its oscillator starts and a cluster fox-fills. -/
  | domainPowerGood (site domain : Nat)
  /-- POWER_GOOD_TIMEOUT (R456): No power good within 200 µs. The domain is marked failed with 0x0C0F. -/
  | powerGoodTimeout (site domain : Nat)
  /-- RESERVATION_RELEASE (R458): 100 µs after power good, the domain's reservation is released from the ledgers. -/
  | reservationRelease (site domain : Nat)
  /-- PHASE_LOSS (R463): A regulator phase is lost. Depending on the count, nothing happens, the cluster is derated or
  it goes dark. -/
  | phaseLoss (site cluster phase : Nat)
  /-- PH_INJECT (R462): PWR_CTRL.PH_INJECT disables one more phase as if it were lost. -/
  | phInject (site cluster : Nat)
  /-- UNCORE_REGULATOR_FAIL (R465): One or both duplicated regulators fail. 0x0C05 or 0x0C0E is raised, or the die is
  lost with 0x0C06. -/
  | uncoreRegulatorFail (site : Nat) (io b : Bool)
  /-- PWR_VSET_WRITE (R455): PWR_VSET latches VCLUSTER for the next tick, then slews at 25 mV/µs. -/
  | pwrVsetWrite (site mv : Nat)
  /-- GROUP_SENSE_LOW (R452): A group sense falls below 1.71 V and raises 0x0C0A. -/
  | groupSenseLow (group mv : Nat)
  /-- GROUP_UNDERVOLT (R452): A group below 1.62 V for 10 µs switches off and its dies are lost. -/
  | groupUndervolt (group : Nat)
  /-- RAIL_FAIL (R452): The rail failing or PWR_GOOD withdrawn switches off every domain and raises 0x0C0D. -/
  | railFail (withdrawn : Bool)
  /-- GROUP_OVER_LIMIT (R458): A group's current exceeds LIMIT for a 100 µs window and raises 0x0C0C. -/
  | groupOverLimit (group amps : Nat)
  /-- DRW_SP_TACK_WRITE (R468): A tack setpoint or mode write updates S_req and the effective mode, and renews the
  lease. -/
  | drwSpTackWrite (setpoint mode : Nat)
  /-- DRW_SP_HOST_WRITE (R468): A host setpoint or mode write updates S_req, with 0x1302 when above tack. -/
  | drwSpHostWrite (setpoint mode : Nat)
  /-- TACK_LEASE_EXPIRED (R468): No tack write for LEASE seconds keeps the last values and raises 0x1306. -/
  | tackLeaseExpired
  /-- BUDGET_RAMP_STEP (R469): Every 2.5 ms, B rises by 1 toward S_req. -/
  | budgetRampStep
  /-- DIE_POWER_REPORT (R471): Each die reports its 1 ms mean power to PD. -/
  | diePowerReport (site power : Nat)
  /-- DRAW_TRIM_UPDATE (R474): Every 1 ms, PD recomputes W_trim from the measured draw and checks overdraw, with R477
  scaling. -/
  | drawTrimUpdate
  /-- WARM_WAIT_EXPIRED (R479): A region that has not committed within WARM_WAIT aborts and stops, with 0x1305. -/
  | warmWaitExpired (region : Nat)
  /-- WARM_DUTY_UPDATE (R478): Every 1 ms, the keep-warm duty moves toward TARGET. -/
  | warmDutyUpdate (site : Nat)
  /-- COOLANT_SAMPLE (R481): Every 1 ms, TD samples inlet, outlet and flow, and updates the flow cap. -/
  | coolantSample (tin tout flow : Option Nat)
  /-- THERMAL_FORECAST (R485): Every 1 ms, each die forecasts its temperature 5 ms ahead. -/
  | thermalForecast (site : Nat)
  /-- THERMAL_SUSTAIN_EXPIRED (R487): W_therm above 0 for THM_SUSTAIN lowers C_r by 5, with 0x0D02. -/
  | thermalSustainExpired (region : Nat)
  /-- SENSOR_READ (R484): Every 10 µs, the junction sensors are read. -/
  | sensorRead (site : Nat) (sensors : List (List (Option Nat)))
  /-- HOT_TRIP (R490): The analogue comparator pulls HOT_TRIP_N at 115 °C, and TD records 0x0D06. -/
  | hotTrip (site : Nat)
  /-- RESET_COLD_REQUEST (R502): Tack or PLDM requests a cold reset. -/
  | resetColdRequest (streams : List (Nat × List Nat))
  /-- RESET_WARM (R503): A warm-scope reset stops regions and reruns bring-up from the waves. -/
  | resetWarm (src : Nat)
  /-- RESET_COMPUTE (R503): A compute-scope reset clears compute state while the routers and the links stay up. -/
  | resetCompute (src : Nat)
  /-- RESET_REGION (R503): A region-scope reset ties off the region, resets its state and releases its claims. -/
  | resetRegion (src region : Nat)
  /-- RESET_DIE (R503): A die-scope reset power-cycles, proves, retrains and reloads one die. -/
  | resetDie (src site : Nat) (failed : List (Nat × Nat)) (reports : List ProofReport) (wires raws : List (Nat × Nat))
  /-- RESET_CLUSTER (R503): A cluster-scope reset power-cycles one cluster and fox-fills its slice. -/
  | resetCluster (src site cluster : Nat)
  /-- PERST (R520): PERST# resets HD's PCIe function and HST registers. DMA in flight ends. -/
  | perst
  /-- PCIE_LINK_DOWN (R520): The PCIe link goes down without PERST#. Polling resumes when it returns. -/
  | pcieLinkDown
  /-- PCIE_POWER_STATE (R507): Entering D3hot stops BAR decoding, DMA and polling. -/
  | pciePowerState (d3 : Bool)
  /-- BAR0_ACCESS (R510): A BAR0 access reaches a CSR window, or is refused with all ones and 0x1001. -/
  | bar0Access (write : Bool) (off size data : Nat)
  /-- BAR2_ACCESS (R511): A BAR2 access reaches panel memory at P5, with poisoning for foxed or unpopulated addresses.
  -/
  | bar2Access (off : Nat) (data : Option (List Byte)) (length : Nat)
  /-- HST_B2_BASE_WRITE (R512): A new BAR2 base takes effect after the accepted BAR2 requests complete. -/
  | hstB2BaseWrite (base : Nat)
  /-- RING_POLL (R514): At POLL_PHASE, PD reads a job ring and accepts or refuses new descriptors. -/
  | ringPoll (ring prod : Nat) (descs : List (List Byte)) (ok : Bool)
  /-- COPY_IN (R516): COPY_IN DMA-moves host memory into panel memory. -/
  | copyIn (ring seq : Nat) (rows : List Delivered)
  /-- COPY_OUT (R516): COPY_OUT DMA-moves panel memory into host memory. -/
  | copyOut (ring seq : Nat)
  /-- HOST_SIGNAL (R516): SIGNAL sends an SADD to a counter once every earlier descriptor has completed. -/
  | hostSignal (ring seq : Nat)
  /-- HOST_WAIT (R516): WAIT completes when the counter reaches VALUE. -/
  | hostWait (ring seq : Nat)
  /-- NOTE (R516): NOTE only completes. -/
  | note (ring seq : Nat)
  /-- HOST_COPY_DONE (R517): A COPY finishes, and the completion record and MSI-X are written. -/
  | hostCopyDone (ring seq : Nat)
  /-- HOST_WAIT_TIMEOUT (R516): A WAIT exceeds WAIT_TIMEOUT and completes with STATUS 3. -/
  | hostWaitTimeout (ring seq : Nat)
  /-- TACK_HB_SEND (R525): At each heartbeat slot, an agent sends HB on every up link. -/
  | tackHbSend (site : Nat)
  /-- TACK_HB_MISS (R525): MISS consecutive missed slots flood a LOSS frame. -/
  | tackHbMiss (site link : Nat)
  /-- LOSS_FRAME (R526): PD, or AD, evaluates LOSS frames. It declares a die lost or marks a tack link down. -/
  | lossFrame (watcher lost slot : Nat)
  /-- FAULT_FRAME (R527): A FAULT frame reaches PD, which acts under R9, and TD, which queues an event. -/
  | faultFrame (dst : Nat) (r : FaultRec) (via : List Nat)
  /-- FAULT_FOLD_EXPIRED (R528): At the end of a 1 ms fold, one FAULT frame with the count is sent. -/
  | faultFoldExpired (site code : Nat)
  /-- CSR_RD (R522): A tack CSR read frame reads a register and answers with CSR_RSP. -/
  | csrRd (requester site off : Nat)
  /-- CSR_WR (R522): A tack CSR write frame writes a register. -/
  | csrWr (requester site off : Nat) (value : Word)
  /-- CSR_RSP (R522): A CSR response is delivered to the requesting corner. -/
  | csrRsp (dst site off : Nat) (value : Word)
  /-- DIST_BEACON (R523): A DIST beacon updates an agent's distances to PD, AD and TD. -/
  | distBeacon (site origin id hops : Nat)
  /-- TACK_CONTROL (R522): A CONTROL frame carries flips, drains, tree entries, proof reports, coolant samples or
  heartbeat settings. -/
  | tackControl (site : Nat) (h : TackHeader) (c : Control)
  /-- MGMT_PORT_DOWN (R529): The active management port loses link. TD fails over within 10 ms with 0x1104 and 0x1105.
  -/
  | mgmtPortDown (port : Nat)
  /-- DATAGRAM_REFUSED (R530): A datagram from an unknown address, or with a bad CRC, version or panel, is refused
  with 0x1106. -/
  | datagramRefused (addr : Nat) (bytes : List Byte)
  /-- IDENT (R531): IDENT returns the panel identity and state. -/
  | ident (mgr txid : Nat)
  /-- IDENT_UNSOLICITED (R531): Every 1 s, TD sends an unsolicited IDENT. -/
  | identUnsolicited
  /-- DRAW (R531): The DRAW datagram writes the tack setpoint and mode. -/
  | draw (mgr txid setpoint mode : Nat) (late : Bool)
  /-- CSR_READ (R531): The CSR_READ datagram reads CSR words. -/
  | csrRead (mgr txid site off words : Nat) (late : Bool)
  /-- CSR_WRITE (R531): The CSR_WRITE datagram writes CSR words. -/
  | csrWrite (mgr txid site off : Nat) (values : List Word) (late : Bool)
  /-- MEM_READ (R531): The MEM_READ datagram reads panel memory as debug access. -/
  | memRead (mgr txid addr len : Nat) (late : Bool)
  /-- MEM_WRITE (R531): The MEM_WRITE datagram writes panel memory at P5. -/
  | memWrite (mgr txid addr : Nat) (data : List Byte) (late : Bool)
  /-- RESET (R531): The RESET datagram requests a reset scope. -/
  | reset (mgr txid scope region site cl : Nat) (late : Bool)
  /-- BIST (R531): The BIST datagram starts a field BIST. -/
  | bist (mgr txid site value : Nat) (late : Bool)
  /-- LOCKUP (R531): The LOCKUP datagram writes the forme source and starts a lock-up. -/
  | lockup (mgr txid addr len : Nat) (atSheet late : Bool)
  /-- SUBSCRIBE (R531): SUBSCRIBE sets a manager's events and telemetry. -/
  | subscribe (mgr txid minSev events telemMs : Nat)
  /-- EVENT_ACK (R532): EVENT_ACK acknowledges events up to SEQ. -/
  | eventAck (mgr seq : Nat)
  /-- EVENT_RESEND (R532): Every 100 ms, unacknowledged events are resent, and dropped after 10 sends with 0x1108. -/
  | eventResend (mgr : Nat)
  /-- TELEM (R533): Every TELEM_MS, TD sends a telemetry datagram to the manager. -/
  | telem (mgr : Nat)
  /-- ATTEST (R550): An attestation request signs a 320-byte report over the nonce, or is refused as busy. -/
  | attest (mgr txid : Nat) (nonce : List Byte) (late : Bool)
  /-- FIRMWARE_WRITE_CHUNK (R531): FIRMWARE SUB 0 writes a chunk of the image that is not running. -/
  | firmwareWriteChunk (mgr txid off : Nat) (data : List Byte) (late : Bool)
  /-- FIRMWARE_COMMIT (R542): FIRMWARE SUB 1 verifies the image and sets PREFER and TRIAL, or is refused. -/
  | firmwareCommit (mgr txid : Nat) (late : Bool)
  /-- GET_PANEL_SETTINGS (R535): TD requests panel settings over PLDM and writes the panel ID and rigging, retrying
  every second with 0x110A. -/
  | getPanelSettings (reply : Option PanelSettings)
  /-- PLDM_EFFECTER (R535): A PLDM effecter sets the tack setpoint, the mode or a reset scope. -/
  | pldmEffecter (effecter value : Nat)
  /-- PLDM_FIRMWARE_UPDATE (R535): PLDM type 5 writes the image that is not running, or a recovery image. -/
  | pldmFirmwareUpdate (off : Nat) (data : List Byte) (last : Bool)
  /-- OWNER_RECORD (R546): An owner enrol or revoke record is checked, and fuses are programmed and read back, or
  refused with 0x0F08. -/
  | ownerRecord (pldm : Bool) (record : List Byte) (readBack : Bool)
  /-- REGISTER_WRITE (R5): A write to a register with no row of its own stores the value under its field types. -/
  | registerWrite (src site off : Nat) (value : Word)
  /-- PCIE_LINK_UP (R520): The PCIe link trains up after PERST# deassertion or a link-down, and HD resumes
  configuration answers, DMA and ring polling. -/
  | pcieLinkUp (speed width : Nat)
  /-- MGMT_PORT_UP (R529): A management port's link comes up, making it the standby or, by PREFER, the active port. -/
  | mgmtPortUp (port : Nat)
  /-- THERMAL_CAP_RISE (R487): Each second in which W_therm is 0 and no die forecasts above PRED minus 5 °C, C_r rises
  by 1 up to 100. -/
  | thermalCapRise (region : Nat)
  /-- PORT_COUNT_LATCH (R358): Every 10 ms, the port counters are latched and more than 1,024 uncorrectable codewords
  or CRC failures raises 0x0B06. -/
  | portCountLatch (link : Nat) (corrected uncorrectable : List Nat)
  /-- TACK_LERR_LATCH (R522): Every 1 ms, TCK_LERR is latched and more than 16 tack frame CRC failures raises 0x1102.
  -/
  | tackLerrLatch (site failures : Nat)
deriving DecidableEq, Repr

end Sys2Proof
end

