-- ==== Sys2Proof/Decode.lean ====
section
/-! DEFINITION. The command that a word spells by the opcode table's bits. Every row of spec/opcode_table.json has an empty
list of fields and gives no bits, so no word spells a command. The encodings that the specification does give (schedule slots
of R111, compositor words of R136, packets and frames) are read by the meanings that take them. -/

namespace Sys2Proof

/-- The command that a word spells: none, since the table gives no bits to any row. -/
def decodeTableWord (_nbits _w : Nat) : Option Instr := none

end Sys2Proof
end

