-- ==== Sys2Proof/Config.lean ====
section
/-! DEFINITION. What an implementation fixes, and the free values: opaque constants, so that no proof can see what they
are and every claim holds for every value of them. -/

namespace Sys2Proof.Config

/-- SHA-384 over bytes, as 48 bytes (R49, R538): an uninterpreted function (notes/assumptions/8.md). -/
opaque sha384 : List Byte → List Byte

/-- ECDSA on brainpoolP384r1 (R538): whether a 96-byte signature over a 48-byte hash verifies under a 49-byte
compressed public key (notes/assumptions/8.md). -/
opaque ecdsaValid : List Byte → List Byte → List Byte → Bool

/-- ECDSA signing with the identity key of PD (0) or AD (1): the 96 signature bytes over a hash (R540, R550). -/
opaque ecdsaSign : Nat → List Byte → List Byte

/-- The compressed identity public key of PD (0) or AD (1), 49 bytes (R540). -/
opaque identityKey : Nat → List Byte

/-- The fused 64-bit panel serial (R539). -/
opaque serial : BitVec 64

/-- The fused MAC address of management port 0 or 1 (R529, TCK_MAC). -/
opaque mac : Nat → BitVec 48

/-- The signature register after one more 64-bit BIST snapshot is folded in (R37); the spec gives no polynomial. -/
opaque foldSnapshot : Nat → Nat → Nat

/-- The golden signature in the BIST ROM for a die type, a stepping and a unit (R37). -/
opaque goldenSignature : Nat → Nat → Nat → Nat

/-- The golden signature of a unit of a guest that the signed firmware image, named by its SHA-384, carries for a SIGSET
(R336); `none` when the image carries no such set. -/
opaque guestSignature : List Byte → Nat → Nat → Option Nat

/-- PART, STEPPING and SIGSET of a die's capability descriptor, 16, 8 and 32 bits from the lowest (R328). -/
opaque dieIdent : Nat → BitVec 56

/-- The panel address in LPDDR5X where PD places the floor-plan record (R48). -/
opaque floorPlanAddr : BitVec 48

/-- How many entries the trace ring of a compute die holds (R125): the spec gives the ring no size. -/
opaque traceDepth : Nat

/-- A free value of 64 bits: the `k`-th draw, for a purpose named by `tag` (a fault code, or a rule number). -/
opaque freeValue : Nat → Nat → BitVec 64

end Sys2Proof.Config
end

