-- ==== Sys2Proof/Machine/Severity.lean ====
section
/-! DEFINITION. The severity of every fault code of the spec (R7, R8 and the code table of each class's chapter). -/

namespace Sys2Proof.Machine

/-- Severities of class 0x01; a code not listed is a notice. -/
def sevClass01 (n : Nat) : Severity :=
  if [0x13, 0x14].contains n then .regionAbort
  else .notice

/-- Severities of class 0x02; a code not listed is a notice. -/
def sevClass02 (n : Nat) : Severity :=
  if [0x2, 0x20, 0x21, 0x22, 0x23, 0x24, 0x25, 0x26, 0x27, 0x28, 0x29, 0x2a, 0x2b, 0x2c, 0x2d, 0x2e, 0x2f].contains n then .regionAbort
  else .notice

/-- Severities of class 0x03; a code not listed is a notice. -/
def sevClass03 (n : Nat) : Severity :=
  if [0xa].contains n then .suspect
  else if [0x1, 0x2, 0x3, 0x8, 0xb, 0xc].contains n then .regionAbort
  else if [0x12].contains n then .panelHalt
  else .notice

/-- Severities of class 0x04; a code not listed is a notice. -/
def sevClass04 (n : Nat) : Severity :=
  if [0x10, 0x11, 0x12, 0x13, 0x19].contains n then .suspect
  else if [0x18].contains n then .foxed
  else if [0x1, 0x2, 0x3, 0x4, 0x5, 0x6, 0x7, 0x17].contains n then .regionAbort
  else .notice

/-- Severities of class 0x05; a code not listed is a notice. -/
def sevClass05 (n : Nat) : Severity :=
  if [0x10, 0x11, 0x12, 0x13, 0x19].contains n then .suspect
  else if [0x1, 0x2, 0x3, 0x4, 0x5, 0x6, 0x18, 0x20].contains n then .foxed
  else if [0x7, 0x8, 0x9, 0xa, 0xb, 0xc, 0xd, 0x17, 0x21].contains n then .regionAbort
  else .notice

/-- Severities of class 0x06; a code not listed is a notice. -/
def sevClass06 (n : Nat) : Severity :=
  if [0x8, 0x11, 0x12, 0x13, 0x20, 0x21].contains n then .foxed
  else if [0x1, 0x2, 0x3, 0x4, 0x9].contains n then .regionAbort
  else .notice

/-- Severities of class 0x07; a code not listed is a notice. -/
def sevClass07 (n : Nat) : Severity :=
  if [0x22].contains n then .suspect
  else if [0x20].contains n then .foxed
  else if [0x1, 0x2, 0x3, 0x4, 0x5, 0x10, 0x11, 0x12].contains n then .regionAbort
  else .notice

/-- Severities of class 0x08; a code not listed is a notice. -/
def sevClass08 (n : Nat) : Severity :=
  if [0x1, 0x2, 0x3, 0x4, 0x5, 0x12].contains n then .regionAbort
  else .notice

/-- Severities of class 0x09; a code not listed is a notice. -/
def sevClass09 (n : Nat) : Severity :=
  if [0x1, 0x2, 0x3, 0x9, 0xa, 0xd].contains n then .regionAbort
  else .notice

/-- Severities of class 0x0A; a code not listed is a notice. -/
def sevClass0A (n : Nat) : Severity :=
  if [0x7, 0xa, 0xc].contains n then .regionAbort
  else .notice

/-- Severities of class 0x0B; a code not listed is a notice. -/
def sevClass0B (_n : Nat) : Severity :=
  .notice

/-- Severities of class 0x0C; a code not listed is a notice. -/
def sevClass0C (n : Nat) : Severity :=
  if [0x3, 0x6, 0xb, 0xf].contains n then .regionAbort
  else if [0xd].contains n then .panelHalt
  else .notice

/-- Severities of class 0x0D; a code not listed is a notice. -/
def sevClass0D (n : Nat) : Severity :=
  if [0x5, 0x8].contains n then .regionAbort
  else if [0x6].contains n then .panelHalt
  else .notice

/-- Severities of class 0x0E; a code not listed is a notice. -/
def sevClass0E (n : Nat) : Severity :=
  if [0xc].contains n then .panelHalt
  else .notice

/-- Severities of class 0x0F; a code not listed is a notice. -/
def sevClass0F (n : Nat) : Severity :=
  if [0x4].contains n then .panelHalt
  else .notice

/-- Severities of class 0x10; a code not listed is a notice. -/
def sevClass10 (_n : Nat) : Severity :=
  .notice

/-- Severities of class 0x11; a code not listed is a notice. -/
def sevClass11 (_n : Nat) : Severity :=
  .notice

/-- Severities of class 0x12; a code not listed is a notice. -/
def sevClass12 (n : Nat) : Severity :=
  if [0x3, 0x6, 0x10, 0x11].contains n then .regionAbort
  else if [0x21].contains n then .panelHalt
  else .notice

/-- Severities of class 0x13; a code not listed is a notice. -/
def sevClass13 (n : Nat) : Severity :=
  if [0x5].contains n then .regionAbort
  else .notice

/-- The severity of a fault code. The codes with two severities (0x0414, 0x0415, 0x0514, 0x0515, 0x0810, 0x0811, 0x0813,
0x0B08, 0x0C04) take theirs where they are raised. -/
def severityOf (code : Nat) : Severity :=
  match code / 256 with
  | 1 => sevClass01 (code % 256)
  | 2 => sevClass02 (code % 256)
  | 3 => sevClass03 (code % 256)
  | 4 => sevClass04 (code % 256)
  | 5 => sevClass05 (code % 256)
  | 6 => sevClass06 (code % 256)
  | 7 => sevClass07 (code % 256)
  | 8 => sevClass08 (code % 256)
  | 9 => sevClass09 (code % 256)
  | 10 => sevClass0A (code % 256)
  | 11 => sevClass0B (code % 256)
  | 12 => sevClass0C (code % 256)
  | 13 => sevClass0D (code % 256)
  | 14 => sevClass0E (code % 256)
  | 15 => sevClass0F (code % 256)
  | 16 => sevClass10 (code % 256)
  | 17 => sevClass11 (code % 256)
  | 18 => sevClass12 (code % 256)
  | 19 => sevClass13 (code % 256)
  | _ => .notice

/-- The order of the severities (R8). -/
def sevRank : Severity → Nat
  | .notice => 0 | .suspect => 1 | .foxed => 2 | .regionAbort => 3 | .computeReset => 4 | .panelHalt => 5

end Sys2Proof.Machine
end

