-- ==== Sys2Proof/Machine/FormeParts.lean ====
section
/-! DEFINITION. What the acting primary die keeps of a forme in force and of a lock-up in progress (spec/15, spec/16). -/

namespace Sys2Proof.Machine

/-- A section of a forme (R362): its type, region, imposition, place in LPDDR5X, length, CRC and table index. -/
structure FormeSection where
  type : Nat
  region : Nat
  imp : Nat
  addr : Nat
  len : Nat
  crc : Nat
  index : Nat
deriving DecidableEq, Repr

/-- A line image's descriptor (R376); `at_` is the panel address of its section. -/
structure ImageDesc where
  image : Nat
  work : Nat
  home : Nat
  pages : Nat
  clusters : Nat
  addr : Nat
  cores : Nat
  at_ : Nat
deriving DecidableEq, Repr

/-- An imposition (R373): placements (image, site) and idle records (site, clusters held warm). -/
structure Imposition where
  num : Nat := 0
  ikind : Nat := 0
  lost : Nat := 0xFFFF
  schedLen : Nat := 0
  places : List (Nat × Nat) := []
  idle : List (Nat × Nat) := []
deriving DecidableEq, Repr

/-- A band of the DRAW_MAP (R375). -/
structure Band where
  lo : Nat
  hi : Nat
  imp : Nat
  period : Nat
  stretch : Nat
  vset : Nat
deriving DecidableEq, Repr

/-- A POWER_BUDGET record (R372) of the section for an imposition (0xFF: every one without its own). -/
structure Budget where
  imp : Nat
  kind : Nat
  image : Nat
  allowance : Nat
  share : Nat
deriving DecidableEq, Repr

/-- A claim (R394): the resource's kind, its index (a range up to `hi` for kind 8), its claimant (0xFF: transit or the
panel), and the section and record that make it. -/
structure Claim where
  kind : Nat
  index : Nat
  hi : Nat
  who : Nat
  section_ : Nat
  record : Nat
deriving DecidableEq, Repr

/-- A dense shadow (R382 KIND 3): the SLOAD slot word at byte `off` of an image's pages, in slot 4 + cl. -/
structure Shadow where
  image : Nat
  cl : Nat
  off : Nat
  delta : Int
  hstride : Nat
deriving DecidableEq, Repr

/-- A region record after header defaults (R366, R367). -/
structure RegionRec where
  align : Bool := false
  margin : Nat := 0
  slurAlarm : Nat := 0
  period : Nat := 0
  schedLen : Nat := 0
  minGutter : Nat := 0
  sheetLen : Nat := 0
  slurLimit : Nat := 0
  syncTimeout : Nat := 0
  holdTimeout : Nat := 0
  impCount : Nat := 0
  defaultImp : Nat := 0
  images : Nat := 0
  commitAddr : Nat := 0
  seed : Nat := 0
  sites : List Nat := []
deriving DecidableEq, Repr

/-- What PD keeps of the forme of a region (R365–R385). -/
structure FormeRegion where
  region : Nat := 0
  rec_ : RegionRec := {}
  sections : List FormeSection := []
  images : List ImageDesc := []
  imps : List Imposition := []
  bands : List Band := []
  budgets : List Budget := []
  /-- R368: clusters of a site that may be derated: (site, mask [4:1]). -/
  derateOk : List (Nat × Nat) := []
  /-- R382 KIND 4: (site, clusters offered). -/
  reserves : List (Nat × Nat) := []
  shadows : List Shadow := []
  claims : List Claim := []
  /-- The claims that RIGGING makes for the region, which a KIND 2 forme leaves. -/
  rigClaims : List Claim := []
  /-- The RIGGING section, and its records for the region's streams, feeder windows and rings (R369), which a KIND 2 forme
  leaves. -/
  rigging : List FormeSection := []
  rigs : List Nat := []
deriving DecidableEq, Repr

/-- The lock-up in progress (R387–R406) beside FRM_STATUS. -/
structure LockUp where
  kind : Nat := 0
  /-- The forme's regions, as they will be. -/
  defs : List FormeRegion := []
  /-- The forme's panel-wide sections. -/
  panel : List FormeSection := []
  contain : Nat := 0
  /-- R393: the merge sequence noted at the floor-plan check. -/
  mergeSeq : Nat := 0
  exact : Bool := false
  hasRoutes : Bool := false
  /-- R405: the digest of R548, which the regions take when they are loaded. -/
  digest : List (BitVec 8) := []
  /-- R396: step 6 waits for clusters to turn on. -/
  powering : Bool := false
  /-- R388, R404: the flip of this phase waits for a flip that was in progress before. -/
  flipWaits : Bool := false
deriving DecidableEq, Repr

end Sys2Proof.Machine
end

