-- ==== Sys2Proof/Machine/Bits.lean ====
section
/-! DEFINITION. Bit fields, little-endian byte order, sign extension and the cyclic redundancy checks of the spec:
CRC-32C (R323) and CRC-16 (R352). -/

namespace Sys2Proof.Machine

/-- Bits [lsb + width - 1 : lsb] of `x`. -/
def bitsOf (x lsb width : Nat) : Nat := x / 2 ^ lsb % 2 ^ width

/-- Bit `i` of `x`. -/
def bitOf (x i : Nat) : Bool := x / 2 ^ i % 2 = 1

/-- `x` with bits [lsb + width - 1 : lsb] replaced by the low bits of `v`. -/
def putBits (x lsb width v : Nat) : Nat :=
  x - bitsOf x lsb width * 2 ^ lsb + v % 2 ^ width * 2 ^ lsb

/-- The bit of a flag. -/
def flag (b : Bool) : Nat := if b then 1 else 0

/-- The signed reading of the low `w` bits of `x`. -/
def signed (w x : Nat) : Int :=
  let y := x % 2 ^ w
  if y < 2 ^ (w - 1) then (y : Int) else (y : Int) - (2 ^ w : Nat)

/-- The two's-complement code of `x` in `w` bits. -/
def unsigned (w : Nat) (x : Int) : Nat := (x % (2 ^ w : Nat)).toNat

/-- `⌈a / b⌉`. -/
def ceilDiv (a b : Nat) : Nat := (a + b - 1) / b

/-- `x` moved into [lo, hi]; `hi = 0` means that no range is given (R564). -/
def clampTo (lo hi x : Nat) : Nat := if hi = 0 then x else if x < lo then lo else if hi < x then hi else x

/-- A number as `n` bytes, the least significant first (R3). -/
def leBytes : Nat → Nat → List Byte
  | 0, _ => []
  | n + 1, x => BitVec.ofNat 8 x :: leBytes n (x / 256)

/-- The number that bytes hold, the least significant first (R3). -/
def leNat : List Byte → Nat
  | [] => 0
  | b :: bs => b.toNat + 256 * leNat bs

/-- `n` bytes of `l` from offset `i`, zero beyond its end. -/
def sliceBytes (l : List Byte) (i n : Nat) : List Byte :=
  let t := (l.drop i).take n
  t ++ List.replicate (n - t.length) 0

/-- The little-endian number in `n` bytes of `l` at offset `i`. -/
def leAt (l : List Byte) (i n : Nat) : Nat := leNat (sliceBytes l i n)

/-- Eight steps of a reflected 32-bit CRC with the polynomial `poly` (already reflected). -/
def crcStep32 (poly : Nat) : Nat → Nat → Nat
  | 0, c => c
  | n + 1, c => crcStep32 poly n (if c % 2 = 1 then Nat.xor (c / 2) poly else c / 2)

/-- CRC-32C over bytes (R323): polynomial 0x1EDC6F41 reflected, initial value and final inversion all ones. -/
def crc32c (bs : List Byte) : Nat :=
  Nat.xor (bs.foldl (fun c b => crcStep32 0x82F63B78 8 (Nat.xor c b.toNat)) 0xFFFFFFFF) 0xFFFFFFFF

/-- Eight steps of a 16-bit CRC that shifts left with the polynomial 0x1021. -/
def crcStep16 : Nat → Nat → Nat
  | 0, c => c
  | n + 1, c => crcStep16 n (if 0x8000 ≤ c then Nat.xor (c * 2 % 0x10000) 0x1021 else c * 2)

/-- CRC-16 over bytes: polynomial 0x1021, initial value 0xFFFF, no final inversion (R262). -/
def crc16 (bs : List Byte) : Nat :=
  bs.foldl (fun c b => crcStep16 8 (Nat.xor c (b.toNat * 256))) 0xFFFF

/-- Whether a list holds a number. -/
def hasNat (l : List Nat) (n : Nat) : Bool := l.any (fun m => m = n)

/-- The `i`-th element, or `d`. -/
def nth {α : Type} (l : List α) (i : Nat) (d : α) : α := (l[i]?).getD d

/-- The list with its `i`-th element replaced, unchanged when there is none. -/
def setNth {α : Type} (l : List α) (i : Nat) (v : α) : List α := l.set i v

/-- Parity of the number of one bits among the low `n` bits of `x`. -/
def parityOf : Nat → Nat → Bool
  | 0, _ => false
  | n + 1, x => (decide (x % 2 = 1)) != parityOf n (x / 2)

end Sys2Proof.Machine
end

