-- ==== Sys2Proof/Machine/Mem.lean ====
section
/-! DEFINITION. The panel's memory: LPDDR5X and the SRAM slices in one 48-bit address space (R16), with a fox bit and
eight parity bits for each 64 B row (R256, R281), and the fox summaries of the memory dies. -/

namespace Sys2Proof.Machine

/-- The panel's memory. -/
structure Mem where
  /-- R16: the bytes that differ from what an unlisted address reads as (0), by panel address, rising. -/
  bytes : List Host.Cell := []
  /-- R256, R281: the fox bit of each 64 B row, by row number; an unlisted row is foxed (R259, R282). -/
  fox : SMap Bool := []
  /-- R256: which of a row's eight parity bits are stored inverted, by row number; unlisted is none. -/
  badParity : SMap Nat := []
  /-- R281: the fox summary bit of each 64 KiB segment of a channel, by channel * 2^17 + segment; unlisted is set. -/
  summary : SMap Bool := []
deriving DecidableEq, Repr

/-- What an address that nothing has written reads as (DESIGN CHOICE, notes/assumptions/7.md). -/
def memByte0 : Nat → Byte := fun _ => 0

/-- A row that nothing has written is foxed (R259, R282). -/
def memFox0 : Nat → Bool := fun _ => true

/-- No parity bit is inverted. -/
def memPar0 : Nat → Nat := fun _ => 0

/-- Every summary bit is set at cold reset (R282). -/
def memSum0 : Nat → Bool := fun _ => true

/-- One write to memory: bytes at an address, at least how many rows it touches (a write of no bytes only sets the bits of
those rows), the fox bit that every touched row takes and the parity bits stored inverted (`none`: kept). Before that,
`clear` bytes from the address return to what unlisted memory holds (the fox-fill of R259), and every row of the LPDDR5X
channels named is foxed with its summary set (R282). -/
structure MemWrite where
  addr : Nat := 0
  data : List Byte := []
  rows : Nat := 0
  fox : Option Bool := some false
  parity : Option Nat := some 0
  clear : Nat := 0
  foxChannels : List Nat := []
  /-- R281: the summary bit that the sweep clears. -/
  clean : Option Nat := none
deriving DecidableEq, Repr

/-- The byte at a panel address. -/
def Mem.byte (m : Mem) (a : Nat) : Byte := SMap.get memByte0 m.bytes a

/-- `n` bytes from a panel address. -/
def Mem.read (m : Mem) : Nat → Nat → List Byte
  | _, 0 => []
  | a, n + 1 => m.byte a :: m.read (a + 1) n

/-- The little-endian number in `n` bytes at an address. -/
def Mem.nat (m : Mem) (a n : Nat) : Nat := leNat (m.read a n)

/-- The fox bit of the row that holds an address. -/
def Mem.foxAt (m : Mem) (a : Nat) : Bool := SMap.get memFox0 m.fox (a / 64)

/-- Whether a read of the row that holds `a` finds bad parity (R257). -/
def Mem.parityBad (m : Mem) (a : Nat) : Bool := SMap.get memPar0 m.badParity (a / 64) != 0

/-- Whether any of `n` rows from the row of `a` is foxed or has bad parity: what a read of them delivers (R257). -/
def Mem.rowsFoxed (m : Mem) (a : Nat) : Nat → Bool
  | 0 => false
  | n + 1 => m.foxAt a || m.parityBad a || m.rowsFoxed (a + 64) n

/-- Sets bytes one after another. -/
def putBytes (b : List Host.Cell) : Nat → List Byte → List Host.Cell
  | _, [] => b
  | a, x :: xs => putBytes (SMap.set memByte0 b a x) (a + 1) xs

/-- The channel and the 64 KiB segment of an LPDDR5X address (R263, R281). -/
def channelOf (a : Nat) : Nat :=
  let g := a / 1024
  Nat.xor (Nat.xor (g % 256) (g / 256 % 256)) (Nat.xor (g / 65536 % 256) (g / 16777216 % 128))

/-- The local granule index of an LPDDR5X address within its channel (R263). -/
def localGranule (a : Nat) : Nat := a / 1024 / 256 % 2 ^ 23

/-- The key of the summary bit of an LPDDR5X address (R281). -/
def summaryKey (a : Nat) : Nat := channelOf a * 2 ^ 17 + localGranule a / 64

/-- Whether an address lies in the populated LPDDR5X range (R264). -/
def isLpddr (a : Nat) : Bool := a < 0x01FF00000000

/-- An address of host memory (R16). -/
def isHostAddr (a : Nat) : Bool := 0x400000000000 ≤ a && a < 2 ^ 48

/-- Sets the fox bit of `n` rows from the row of `a`; a set bit in LPDDR5X sets its summary bit (R281). -/
def Mem.setFox (m : Mem) (a : Nat) (f : Bool) : Nat → Mem
  | 0 => m
  | n + 1 =>
    let m := { m with fox := SMap.set memFox0 m.fox (a / 64) f }
    let m := if f && isLpddr a then { m with summary := SMap.set memSum0 m.summary (summaryKey a) true } else m
    m.setFox (a + 64) f n

/-- Sets the inverted parity bits of `n` rows from the row of `a`. -/
def Mem.setParity (m : Mem) (a v : Nat) : Nat → Mem
  | 0 => m
  | n + 1 => ({ m with badParity := SMap.set memPar0 m.badParity (a / 64) v } : Mem).setParity (a + 64) v n

/-- How many rows `n` bytes at `a` touch. -/
def rowsTouched (a n : Nat) : Nat := if n = 0 then 0 else (a + n - 1) / 64 - a / 64 + 1

/-- `n` bytes from `a`, with their rows' bits, return to what unlisted memory holds: zero and foxed (R259). -/
def Mem.clearRange (m : Mem) (a n : Nat) : Mem :=
  let out (k : Nat) : Bool := k < a || a + n ≤ k
  { m with bytes := m.bytes.filter fun x => out x.1, fox := m.fox.filter fun x => out (64 * x.1),
           badParity := m.badParity.filter fun x => out (64 * x.1) }

/-- The fox tables of channels become all ones, with every summary bit set (R282). -/
def Mem.foxChannels (m : Mem) (cs : List Nat) : Mem :=
  { m with fox := m.fox.filter fun x => !(isLpddr (64 * x.1) && cs.contains (channelOf (64 * x.1))),
           summary := m.summary.filter fun x => !cs.contains (x.1 / 2 ^ 17) }

/-- One write: the bytes, the fox bits and the parity bits of the touched rows. -/
def Mem.write (m : Mem) (w : MemWrite) : Mem :=
  let m := if w.clear = 0 then m else m.clearRange w.addr w.clear
  let m := if w.foxChannels.isEmpty then m else m.foxChannels w.foxChannels
  let m := match w.clean with
    | some k => { m with summary := SMap.set memSum0 m.summary k false }
    | none => m
  let n := max (rowsTouched w.addr w.data.length) w.rows
  let m := { m with bytes := putBytes m.bytes w.addr w.data }
  let m := match w.parity with
    | some v => m.setParity w.addr v n
    | none => m
  match w.fox with
  | some f => m.setFox w.addr f n
  | none => m

/-- Writes in order. -/
def Mem.apply (m : Mem) : List MemWrite → Mem
  | [] => m
  | w :: ws => (m.write w).apply ws

/-- The canonical form of memory. -/
def Mem.wf (m : Mem) : Bool :=
  SMap.wf memByte0 m.bytes && SMap.wf memFox0 m.fox && SMap.wf memPar0 m.badParity && SMap.wf memSum0 m.summary

end Sys2Proof.Machine
end

