-- ==== Sys2Proof/Machine/Parts.lean ====
section
/-! DEFINITION. The parts of the panel's state beside its CSR registers and its memory: tack, boot flash and bring-up,
fuses and proof, clocks, power. Each field's docstring names the rule of spec/ that gives it. -/

namespace Sys2Proof.Machine

/-! ### Tack (spec/23_tack_management.md) -/

/-- A tack frame on its way (R522): FAULT, LOSS, CSR_RSP, DIST, HB and CONTROL frames that an agent has sent. -/
inductive TackFrame where
  | hb (site link slot : Nat)
  | loss (watcher lost slot : Nat)
  | fault (dst : Nat) (r : FaultRec)
  | csrRsp (dst site off : Nat) (value : Word)
  | dist (origin : Nat)
  | control (h : TackHeader) (c : Control)
  | flashFree
deriving DecidableEq, Repr

/-- One fold of R528: a code that an agent has reported less than 1 ms ago. -/
structure Fold where
  code : Nat
  since : Nat
  sev : Severity
  count : Nat
  /-- The record that was last raised. -/
  last : FaultRec
deriving DecidableEq, Repr

/-- A tack agent (R521–R528). -/
structure Agent where
  /-- R522, 8 bits, reset 0: the sequence number of the agent's next frame. -/
  nextId : Nat := 0
  /-- R523, 9 bits each, reset none: last accepted ID + 1 of each origin. -/
  seen : SMap Nat := []
  /-- R525, reset 0: slots missed in a row on each link. -/
  misses : SMap Nat := []
  /-- R528, reset none: folds open. -/
  folds : List Fold := []
  /-- R525, 4 bits, reset 3: the value of ERR_HB_CFG.MISS that PD last flooded. -/
  miss : Nat := 3
  /-- R526, reset none: links that PD has marked down. -/
  down : List Nat := []
deriving DecidableEq, Repr

/-- One cached reply of R530. -/
structure Reply where
  txid : Nat
  op : Nat
  status : Nat
  body : List Byte
deriving DecidableEq, Repr

/-- What TD keeps for one manager (R530, R532, R533). -/
structure Manager where
  /-- R530, reset none: the replies to its last 64 requests, newest first. -/
  cache : List Reply := []
  /-- R532, reset none: SEQ and number of sends of its unacknowledged events. -/
  unacked : List (Nat × Nat) := []
  /-- R533, reset 0: TELEM datagrams sent. -/
  telems : Nat := 0
  /-- R533, reset none: slur counts of the regions at the last TELEM. -/
  slurBase : SMap Nat := []
deriving DecidableEq, Repr

/-- The state of the tack side (R521–R537). -/
structure Tack where
  /-- R521, reset none: the agents by site. -/
  agents : SMap Agent := []
  /-- R522, reset none: frames sent and not yet delivered. -/
  frames : List TackFrame := []
  /-- R526, reset none: LOSS frames received and not yet resolved: (watcher, lost die, slot). -/
  losses : List (Nat × Nat × Nat) := []
  /-- R526, reset none: dies that were dark or in a reset and have sent no HB since. -/
  awaitHb : List Nat := []
  /-- R532, 1,024 records, reset none: TD's event queue, oldest first, with SEQ. -/
  events : List (Nat × FaultRec) := []
  /-- R532, 32 bits, reset 0: SEQ of the next event. -/
  nextSeq : Nat := 0
  /-- R532, reset none: panel time of the last 0x1107. -/
  overflowAt : Option Nat := none
  /-- R530, reset none: panel time of the last 0x1106. -/
  refusedAt : Option Nat := none
  /-- R532, reset none: change events noted for managers (mode, READY, lock-up phase, merge, takeover by bit number). -/
  changes : List Nat := []
  /-- R530–R533, reset none: TD's record of each manager. -/
  managers : SMap Manager := []
  /-- R531, reset 0: unsolicited IDENT datagrams sent. -/
  idents : Nat := 0
  /-- R535, reset false: panel settings have been obtained. -/
  settings : Bool := false
  /-- R340, R499, R535, reset none: the rigging settings: role + 4 × ETH_MODE of each port. -/
  rigging : SMap Nat := []
  /-- R342, R535, 12 bits, reset 0xFFF: the panel ID that tack writes to the link dies before rigging. -/
  panelId : Nat := 0xFFF
  /-- R261, R535, reset 10,667: the LPDDR5X data rate of the rigging settings, in MT/s. -/
  memRate : Nat := 10667
deriving DecidableEq, Repr

/-! ### Boot, flash, fuses and proof (spec/02, 21, 24) -/

/-- What the panel is doing at bring-up (R492, R496). -/
inductive BootPhase where
  /-- Unpowered, or PANEL_RST_N low: only the corner domains are up (R492). -/
  | held
  /-- The boot ROM waits for a recovery image (R494). -/
  | rom
  /-- Steps 7 and 8: power waves and proof (R42). -/
  | waves
  /-- Steps 9 to 14 (R496). -/
  | rigging
  /-- Step 15: READY. -/
  | ready
  /-- Both PD and AD bad: no step after 9 runs (R44). -/
  | stopped
deriving DecidableEq, Repr

/-- Bring-up and the pins of power and reset (R491–R505). -/
structure Boot where
  /-- R491, reset low: PWR_GOOD. -/
  pwrGood : Bool := false
  /-- R491, reset false: PANEL_RST_N is low. -/
  rstLow : Bool := false
  /-- R54, reset present: REF_CLK at PD and at AD. -/
  refPD : Bool := true
  refAD : Bool := true
  /-- R54, reset PD: the corner site that drives REF_CLK onto the tick tree. -/
  refFrom : Nat := 464
  /-- R447, reset PD: the acting primary die. -/
  primary : Nat := 464
  /-- R496, reset held: the phase of bring-up. -/
  phase : BootPhase := .held
  /-- R496, 64 bits, reset 0: panel time of the reference of the last cold or warm reset. -/
  ref : Nat := 0
  /-- R42, 6 bits, reset 0: the next slot of proof. -/
  slot : Nat := 0
  /-- R43, reset true: slot 40 proves the corner dies (omitted in a warm reset, R503). -/
  cornerSlot : Bool := true
  /-- R495, 1 bit, reset low: FLASH_SEL connects the flash to AD. -/
  flashSel : Bool := false
  /-- R494, 48 bytes, reset none: SHA-384 of the running image, its SVN and its vendor slot (R550). -/
  imageHash : List Byte := []
  imageSvn : Nat := 0
  imageSlot : Nat := 0
  imageRevoke : Nat := 0
  /-- R550, reset 0: panel time until which the last attestation request is in progress. -/
  attestUntil : Nat := 0
  /-- R8, reset false: a panel-halt fault is in force; no stroke begins until a warm or cold reset. -/
  halted : Bool := false
  /-- R490, reset false: HOT_TRIP_N is pulled. -/
  hotTrip : Bool := false
  /-- The MODEL's own field, reset false: the command in progress begins a cold reset, so that panel time becomes zero. -/
  cold : Bool := false
  /-- R503, reset none: the reset in progress (scope, site or region, cluster). -/
  resetting : Option (Nat × Nat × Nat) := none
  /-- R504, reset none: a die or cluster reset that waits for a lock-up to end. -/
  resetWaits : Option (Nat × Nat × Nat) := none
  /-- R502, reset false: a cold reset was requested and waits for its BIST snapshots (RESET_COLD_REQUEST). -/
  coldAsked : Bool := false
deriving DecidableEq, Repr

/-- The unit states of R25. -/
inductive UnitState where
  | good | derated | bad | unproven
deriving DecidableEq, Repr

/-- The fuse errata of one die (R31): its bad units and its do-not-power bit. -/
structure DieFuse where
  bad : List Nat := []
  doNotPower : Bool := false
deriving DecidableEq, Repr

/-- A field BIST in progress (R50). -/
structure BistRun where
  site : Nat
  neighbour : Bool
  kinds : Nat
  units : Nat
  /-- R52: the bundles that a loopback run has taken out of service. -/
  looped : List Nat := []
  /-- R37, R38: what testers had reported of the die before the run; it holds again when the run says nothing new. -/
  before : List ProofReport := []
deriving DecidableEq, Repr

/-- Fuses, proof and the floor plan (R25–R52). -/
structure FloorPlan where
  /-- R31, reset none: each die's own fuse errata. -/
  dieFuse : SMap DieFuse := []
  /-- R31, up to 64 entries, reset none: the panel fuse banks of PD and AD: (site, unit). -/
  panelFuse : List (Nat × Nat) := []
  /-- R37, 64 bits each, reset none: signature registers that a snapshot reached, by (tester * 468 + target) * 128 + unit. -/
  signatures : SMap (Option Nat) := []
  /-- R37, R327, reset none: SEQ of the last frame of snapshots that a target folded for its own verdict, by site. -/
  selfSeq : SMap (Option Nat) := []
  /-- R37, R43, reset none: reports of the proof in progress and of the last proof. -/
  reports : List ProofReport := []
  /-- R40, reset good: the pass-2 verdict of each unit, by site * 128 + unit. -/
  verdict : SMap UnitState := []
  /-- R45, reset good: the merged state of each unit, by site * 128 + unit. -/
  unit : SMap UnitState := []
  /-- R76, R77, R317, R497, reset none: units marked bad for this boot without a field entry (site, unit). -/
  bootBad : List (Nat × Nat) := []
  /-- R35, reset none: defects that found a copy of the field errata full, as (site, unit, state); they hold until the next cold
  or warm reset. -/
  unstored : List (Nat × Nat × Nat) := []
  /-- R48, 64 bits, reset 0: the merge time. -/
  mergeTime : Nat := 0
  /-- R48 flags [0] to [4], reset 0. -/
  flags : Nat := 0
  /-- R50, reset none: field BISTs in progress. -/
  bists : List BistRun := []
deriving DecidableEq, Repr

/-- A vendor or owner key slot of the fuse banks (R539). -/
structure KeySlot where
  /-- Vendor: SHA-384 of the key; owner: the compressed key; empty when none. -/
  data : List Byte := []
  enrolled : Bool := false
  revoked : Bool := false
deriving DecidableEq, Repr

/-- The fuse banks of PD and AD, held identically (R539), and attestation (R550). -/
structure Fuses where
  /-- R539, four slots, reset empty: vendor keys. -/
  vendor : List KeySlot := [{}, {}, {}, {}]
  /-- R539, four slots, reset empty: owner keys. -/
  owner : List KeySlot := [{}, {}, {}, {}]
  /-- R539, 0 to 64, reset 0: MIN_SVN. -/
  minSvn : Nat := 0
  /-- R548, reset none: the digest of each region's verified forme, by region. -/
  formeDigest : SMap (List Byte) := []
deriving DecidableEq, Repr

/-! ### Clocks and panel time (spec/03) -/

/-- Panel time as the reference and the acting primary die's rate word advance it (R64); each die's own copy is this plus its
`offset`. -/
structure TimeBase where
  /-- R64, 64 bits, reset 0: nominal cycles. -/
  now : Nat := 0
  /-- R64, 32 bits, reset 0: the fraction below the count. -/
  frac : Nat := 0
deriving DecidableEq, Repr

/-- The clock state of one die (R53–R84) beside its CLK registers. -/
structure ClockDie where
  /-- R55, R62, 8 bits, reset 64: the target period in force, in 1/64 of the nominal period. -/
  period : Nat := 64
  /-- R64, R65, signed, reset 0: this die's own count with its fraction, less the panel's, in units of 2^-32 nominal cycles. -/
  offset : Int := 0
  /-- R64, R65, signed, 32 bits, reset 0: the rate word that the die last took from a beacon. -/
  rate : Int := 0
  /-- R65, signed, reset 0: the correction being slewed in, in nominal cycles, and the reference cycles of the 1,024 already
  past. -/
  slew : Int := 0
  slewAt : Nat := 0
  /-- R65, R69, reset true: the die loads its panel time at the next beacon. -/
  reload : Bool := true
  /-- R61, reset 0: slips and slip time (sixteenths) of the current stroke. -/
  slips : Nat := 0
  slipTime : Nat := 0
  /-- R61, reset 0: forced-stretched periods of the current stroke. -/
  forced : Nat := 0
  /-- R59, reset 0: the sixteenths by which each domain's clock has stretched in the current stroke. -/
  stretched : SMap Nat := []
  /-- R59, R61, reset none: the last uncore period in which a monitor stretched a domain, and each domain's stretch in it. -/
  lastSlip : Option (Nat × SMap Nat) := none
  /-- R83, reset 0: holds of the current stroke and the die cycles they lasted. -/
  holds : Nat := 0
  holdCycles : Nat := 0
  /-- R57, 8 bits each, reset 0xFF: the lowest margin of each monitor (c0–c3, uncore) in the stroke. -/
  minMargin : SMap Nat := []
  /-- R89, 64 bits, reset 0: panel time of the tick of the die's current stroke, and of its last end of stroke. -/
  strokeTick : Nat := 0
  strokeEnd : Nat := 0
  /-- R89, reset false: an end report is on its way to PD. -/
  endDue : Bool := false
  /-- R66, reset none: ticks received and not yet acted on: (stamp, region mask). -/
  ticks : List (Nat × Nat) := []
  /-- R76, reset none: raw latency of each registered bundle, by edge * 16 + bundle. -/
  raw : SMap Nat := []
deriving DecidableEq, Repr

/-- The PTP servo of TD and stroke lock (R70–R74). -/
structure Servo where
  /-- R71, reset 0: consecutive offsets within ±40 ns. -/
  inside : Nat := 0
  /-- R71, reset 0: consecutive offsets beyond ±80 ns. -/
  outside : Nat := 0
  /-- R71, 64 bits, reset 0: panel time of the last valid sync. -/
  lastSync : Nat := 0
  /-- R71, signed, 1/16 cycles, reset 0: the measured path delay. -/
  delay : Int := 0
  /-- R72, reset none: panel time of the last PPS edge on TIME_IN. -/
  ppsEdge : Option Nat := none
  /-- R72, reset none: panel time of the last valid stroke-lock edge. -/
  lockEdge : Option Nat := none
  /-- R72, reset false: a slur or a planned extension has kept the locked region from a stamped time, so that its next tick waits
  for the first later valid edge. -/
  edgeReady : Bool := false
  /-- R72, reset 0: strokes in a row without a valid edge. -/
  missed : Nat := 0
  /-- R72, reset false: stroke lock has fallen back to internal timing. -/
  fallback : Bool := false
  /-- R74, reset none: the last pulse driven on TIME_OUT: panel time and length in nominal cycles. -/
  timeOut : Option (Nat × Nat) := none
  /-- R65, reset none: the last beacon on the tick tree: panel time at launch and rate word. -/
  beacon : Option (Nat × Nat) := none
  /-- R66, reset none: the last tick message of each region, as sent: (stamp, region mask). -/
  tickMsgs : List (Nat × Nat) := []
  /-- R70, signed, reset 0: the sync interval of the last valid sync, as a power of two of seconds. -/
  interval : Int := 0
deriving DecidableEq, Repr

/-! ### Power (spec/19) -/

/-- One power domain (R453–R460) beside its PWR_DOM register. -/
structure Domain where
  /-- R457, reset false: a turn-on is requested. -/
  reqOn : Bool := false
  /-- R460, reset false: a switch-off is requested. -/
  reqOff : Bool := false
  /-- R478, reset false: the domain turns on to keep-warm. -/
  warm : Bool := false
  /-- R458, in A, reset 0: its reservation in the ledgers. -/
  reserved : Nat := 0
  /-- R456, reset 0: panel time of stage 1. -/
  since : Nat := 0
  /-- R456, reset none: the time of power good. -/
  good : Option Nat := none
  /-- R259, reset false: a cluster's slice is being fox-filled. -/
  filling : Bool := false
deriving DecidableEq, Repr

/-- The power side (R449–R466) beside its registers. -/
structure Power where
  /-- R454, reset dark: the domains, by site * 8 + domain. -/
  domains : SMap Domain := []
  /-- R455, mV, reset none: VCLUSTER latched for the next tick, by site. -/
  nextVset : SMap Nat := []
  /-- R463, reset none: clusters that become derated at the next tick (site * 4 + cluster). -/
  derateAtTick : List (Nat × Nat) := []
deriving DecidableEq, Repr

/-! ### Draw control and cooling (spec/20) -/

/-- What the draw controller, TD and the dies' thermal controllers keep (R467–R490) beside their registers. -/
structure DrawSide where
  /-- R473, reset none: the LO of the band applied at each region's last tick, + 1. -/
  band : SMap Nat := []
  /-- R473, mV, reset 750: VCLUSTER applied at each region's last tick. -/
  volts : SMap Nat := []
  /-- R477, ms, reset 0: how long the panel's draw has exceeded B by more than 2 %, and each region's its budget. -/
  overdraw : Nat := 0
  overRegion : SMap Nat := []
  /-- R482, reset false: the caps of 25 and of 60 are in force. -/
  cap25 : Bool := false
  cap60 : Bool := false
  /-- R482, reset none: panel time since which the flow has stayed at 14 and at 22 L/min or more. -/
  above14 : Option Nat := none
  above22 : Option Nat := none
  /-- R483, 100 samples, reset none: the flow samples of the last 100 ms, newest first. -/
  flows : List Nat := []
  /-- R481, reset none: panel time of the last valid flow sample. -/
  flowAt : Option Nat := none
  /-- R481, reset none: panel time since which the inlet has lain outside 20–45 °C; whether 0x0D0D has been raised. -/
  inletSince : Option Nat := none
  inletNoted : Bool := false
  /-- R478, reset none: panel time since which a die's keep-warm has run at its duty cap below 45 °C, by site. -/
  shortSince : SMap Nat := []
  /-- R488, reset none: panel time since which a die has measured at or below EMERG - 3 °C, by site. -/
  coolSince : SMap Nat := []
deriving DecidableEq, Repr

/-! ### Strokes, marks and reprint (spec/04, 18) -/

/-- A region beside its STK_R, FRM_R and ERR_R registers (R85–R102, R440). -/
structure Region where
  /-- R21, reset none: the sites of the region. -/
  sites : List Nat := []
  /-- R91, 64 bits, reset 0: the tick time of the current stroke. -/
  tickAt : Nat := 0
  /-- R91, 64 bits, reset 0: the start B_k of the current stroke. -/
  begun : Nat := 0
  /-- R89, reset none: end times reported for the current stroke, by site. -/
  ended : SMap Nat := []
  /-- R96, reset none: sites that still owe the end report of the stroke before, whose tick has passed (a slurred stroke). -/
  lateEnds : List Nat := []
  /-- R98, reset 0: slurred strokes in a row. -/
  slurRun : Nat := 0
  /-- R94, 24 bits, reset none: D announced for the next tick. -/
  step : Option Nat := none
  /-- R94, reset 0: the extension E of the current stroke. -/
  extension : Nat := 0
  /-- R91, reset false: the next tick message has been sent. -/
  tickSent : Bool := false
  /-- R90, reset 0: the draw stretch and the target period of the current stroke. -/
  stretch : Nat := 0
  period : Nat := 64
  /-- R96, reset false: the stroke before the current one slurred and its start is not fixed yet. -/
  slurOpen : Bool := false
  /-- R99, reset none: the sheet whose commit is due. -/
  commitDue : Option Nat := none
  /-- R401, reset false: the next tick stops the region for a lock-up. -/
  stopAtTick : Bool := false
  /-- R401, R479, reset false: the tick message sent ends the region's last stroke before it stops. -/
  stopTick : Bool := false
  /-- R94, nominal cycles, reset 0: D of the current stroke, without a switch gap. -/
  stepNow : Nat := 0
  /-- R440, reset none: panel time of the abort whose settle time runs. -/
  abortAt : Option Nat := none
  /-- R440 step 6, reset none: the stroke and the imposition that the restart reloads. -/
  restart : Option (Nat × Nat) := none
  /-- R444, reset none: the lost site whose single-loss imposition every restart uses until a sheet commits on it. -/
  lostSite : Option Nat := none
  /-- R408, reset none: the imposition latched by a request and who asked (0 software, 1 draw). -/
  impRequest : Option (Nat × Nat) := none
  /-- R479, reset none: panel time from which WARM_WAIT runs for a mode change. -/
  warmSince : Option Nat := none
  /-- R87, R440, reset false: the next tick begins the stroke that STK_R_STROKE names. -/
  first : Bool := false
  /-- R479, R480, reset 0: stopped by a draw mode (1 at a commit tick, 2 to restart from its restart point). -/
  stopped : Nat := 0
  /-- R440, reset 0: panel time at which the last restart began; later reports of earlier faults abort nothing. -/
  restartedAt : Nat := 0
  /-- R102, R408, reset false: an imposition switch is due at the tick just past. -/
  commitOk : Bool := false
  /-- R360–R385, reset none: the region's forme in force. -/
  forme : FormeRegion := {}
  /-- R374, reset none: the imposition in force, as it was when it was loaded. -/
  inForce : Option Imposition := none
  /-- R363, R397, reset false: a KIND 2 forme has brought records of RELOC that no load has applied yet. -/
  newRelocs : Bool := false
deriving DecidableEq, Repr

/-- The kinds of mark of R423. -/
inductive MarkKind where
  | entry | check | fox
deriving DecidableEq, Repr

/-- An open question about the work of one stroke of one region (R423). -/
structure Mark where
  kind : MarkKind
  region : Nat
  site : Nat
  stroke : Nat
  /-- The fault code that opened it. -/
  code : Nat
  cluster : Nat := 0
  /-- 0 DE, 1 SE. -/
  engine : Nat := 0
  /-- The drained range, its bound entry, its CHK bit, the slice address it was written to and the DRAIN's die cycle. -/
  row : Nat := 0
  count : Nat := 0
  bound : Nat := 0
  chk : Bool := false
  addr : Nat := 0
  cycle : Nat := 0
  /-- Whether the original failed its checksum check, and the first failing row. -/
  checksum : Bool := false
  firstFail : Nat := 0
  /-- R433: a registered read has overlapped the range. -/
  touched : Bool := false
  /-- R425, R434: the SE bank load (die cycle of its SLOAD) whose failure foxed the range or opened the fox mark. -/
  load : Option Nat := none
deriving DecidableEq, Repr

/-- One entry of a pass log (R428). -/
structure PassEntry where
  word : Nat
  ximm : Nat
  crc : Nat
  cycle : Nat
  load : Bool
  foxed : Bool
deriving DecidableEq, Repr

/-- One reprint in flight (R431), held by the original die's agent under one of its four ERR_RP numbers. -/
structure Reprint where
  site : Nat
  slot : Nat
  cluster : Nat
  engine : Nat
  /-- The die cycle of the original DRAIN and its range. -/
  cycle : Nat
  row : Nat
  count : Nat
  /-- The reserve clusters in the order claimed: (site, cluster). -/
  tried : List (Nat × Nat) := []
  /-- The reserve now claimed or serving. -/
  peer : Nat := 0
  peerCluster : Nat := 0
  /-- 1 claiming, 2 sending, 3 replaying, 4 comparing, 5 arbitrating (ERR_RP.STATE). -/
  state : Nat := 1
  /-- R431: panel time of the grant. -/
  granted : Nat := 0
  timeouts : Nat := 0
  /-- R431: the ERR_RP register of the reserve that shows the reprint. -/
  peerSlot : Nat := 0
  /-- R431, R566: the operands sent: slice offset and what was read there. -/
  operands : List (Nat × Delivered) := []
  /-- R431: what the reserve returned: one image of 1 KiB with its fox bit for each drained row, and whether its checksum
  check failed. -/
  result : Option (List Delivered × Bool) := none
  /-- R432, R434: the rows that the first reserve returned, while a second one runs. -/
  first : Option (List Delivered) := none
  /-- R434: this is a dense shadow reprint. -/
  shadow : Bool := false
deriving DecidableEq, Repr

/-- Marks, reprints and die scores (R422–R435). -/
structure Contain where
  /-- R423, reset none: open marks. -/
  marks : List Mark := []
  /-- R431, reset none: reprints in flight. -/
  reprints : List Reprint := []
  /-- R430, reset none: reserve clusters serving a reprint (site * 4 + cluster). -/
  claimed : List Nat := []
  /-- R428, 32 entries each, reset none: pass logs by ((site * 4 + cluster) * 2 + engine) * 2 + half, oldest first. -/
  logs : SMap (List PassEntry) := []
  /-- R426, reset 0: synchronisation score of each die in its window. -/
  syncScore : SMap Nat := []
  /-- R427, reset 0: strokes of the window in which the die showed a margin symptom. -/
  marginScore : SMap Nat := []
  /-- R426, R427, reset 0: stroke of the region at which the die's window began. -/
  windowAt : SMap Nat := []
  /-- R426, R427, reset none: dies already reported in the window (site * 2, + 1 for margin). -/
  reported : List Nat := []
  /-- R427, reset none: dies with a margin symptom in the current stroke. -/
  symptom : List Nat := []
  /-- R435, reset 0: corrections of each die within the sheet. -/
  sheetCorrections : SMap Nat := []
  /-- ERR_MARK_LAST, reset 0: confirmed reprints and corrections of the current stroke, by site. -/
  strokeCounts : SMap (Nat × Nat) := []
  /-- R425, reset none: accumulator rows that a failed SE bank foxed in the current stroke and that no shadow reprint has
  replaced: (site * 4 + cluster, die cycle of the SLOAD, row). -/
  badRows : List (Nat × Nat × Nat) := []
  /-- R438, reset none: regions that a compute reset of standalone containment has still to restart. -/
  resetRegions : List Nat := []
  /-- R443, reset none: dies declared lost and not powered again since. -/
  lost : List Nat := []
deriving DecidableEq, Repr

/-! ### The compute die: threads and sequencer (spec/05) -/

/-- The registers of one compositor thread (R135, R139). -/
structure Thread where
  /-- R135, 14 bits, reset 0: word address of the next instruction. -/
  pc : Nat := 0
  /-- R135, 32 bits each, reset 0: x1 to x31. -/
  x : SMap Word := []
  /-- R135, 1 bit each, reset 0: fox bits of x1 to x31. -/
  xFox : SMap Bool := []
  /-- R135, 512 bits each, reset 0: v0 to v15. -/
  v : SMap Nat := []
  /-- R135, 1 bit each, reset 0: fox bits of v0 to v15. -/
  vFox : SMap Bool := []
  /-- R138, R140, reset false: a fault has stopped the thread; it issues nothing further. -/
  stopped : Bool := false
deriving DecidableEq, Repr

/-- A watch pending at its home (R131). -/
structure Watch where
  idx : Nat
  target : Nat
  waiter : Nat
  slot : Nat
deriving DecidableEq, Repr

/-- A decoded line: its slots that are not NOP, by slot number, with their 64-bit words (R111, R116). -/
abbrev Line := List (Nat × Nat)

/-- The sequencer of a compute die (R114–R134) beside its STK_SEQ registers. -/
structure Seq where
  /-- R180, R248, reset 0: issuing die cycles since lock-up or restart, which the engines' timings count. -/
  cycles : Nat := 0
  /-- R160, 64 bits and 16 bits, reset 0: the region's rounding seed and the image's work identifier W. -/
  seed : Nat := 0
  work : Nat := 0
  /-- The number of the next operation issued; scoreboard entries carry it. -/
  nextOp : Nat := 0
  /-- R115, reset 0: the next record to decode: its half and its offset / 4. -/
  half : Nat := 0
  pos : Nat := 0
  /-- R412, 255 periods, reset none: what each of the last periods charged, newest first. -/
  tokens : List Nat := []
  /-- R415, reset false: an overdraw hold has occurred in the stroke. -/
  overdrawn : Bool := false
  /-- R255, reset none: clusters whose scoreboard holds the line (c), or lacks entries (4 + c), or whose bank row is late
  (8 + c, R243), and galleys of which it lacks an entry (16 + i, R269). -/
  holdBy : List Nat := []
  /-- R118, reset none: open loops, innermost first: (offset of the body / 4, half, iterations left). -/
  loops : List (Nat × Nat × Nat) := []
  /-- R118, reset false: the innermost body has held a line or quad. -/
  bodyHasLine : Bool := false
  /-- R117, reset false: a marker has just been met with no line or quad since. -/
  markerRun : Bool := false
  /-- R115, reset none: lines left of the quad in progress. -/
  quadLeft : Nat := 0
  /-- R229, reset false: the stroke is the first of its sheet. -/
  firstOfSheet : Bool := false
  /-- R124, reset false: ENDS has issued in this stroke. -/
  ended : Bool := false
  /-- R123, reset none: where the next stroke begins: an entry, or an offset and half after ENDS with FALL. -/
  nextEntry : Nat := 0
  nextPos : Option (Nat × Nat) := none
  /-- R121, 1 bit each, reset false: the halves that hold a complete page; that are foxed; that are loading. -/
  complete : List Bool := [false, false]
  foxed : List Bool := [false, false]
  loading : List Bool := [false, false]
  /-- R120, reset 0: reads of each half's load still out. -/
  readsLeft : List Nat := [0, 0]
  /-- R113, R133, reset none: the line that a wait, a hold or an overdraw keeps from issuing. -/
  stalled : Option Line := none
  /-- R113: the stalled line is a record of the stream, so that issuing it advances the die-cycle index. -/
  stalledRecord : Bool := false
  /-- R81, reset none: why the die holds: 1 crossing data, 2 send credit, 3 bank row, 4 scoreboard, 5 galley full,
  6 overdraw, 7 slot 12. -/
  holdCause : Nat := 0
  /-- R133, R134, reset 0: wait stalls and wait cycles of the stroke, and cycles of the wait in progress. -/
  waits : Nat := 0
  waitCycles : Nat := 0
  thisWait : Nat := 0
  /-- R125, reset none: the trace ring: (tag, die-cycle index, panel time), newest first. -/
  trace : List (Nat × Nat × Nat) := []
  /-- R88, reset none: threads launched in this stroke that run (32 × cluster + 4 × core + thread). -/
  launched : List Nat := []
deriving DecidableEq, Repr

end Sys2Proof.Machine
end

