-- ==== Sys2Proof/Machine/ComputeParts.lean ====
section
/-! DEFINITION. The parts of a compute die's state beside its registers: accumulator rows, weight banks, operations in
flight, the range scoreboard, the mover, the outbound queue and the units of slot 12 (spec/07 to spec/10). -/

namespace Sys2Proof.Machine

/-- A run of 64 B rows of a slice, by row number, inclusive (R254). -/
structure Span where
  lo : Nat
  hi : Nat
deriving DecidableEq, Repr

/-- An accumulator row (R177). -/
structure Row where
  /-- R177, reset invalid. -/
  valid : Bool := false
  /-- R177: 0 binary32, 1 KA, 2 INT32. -/
  type : Nat := 0
  /-- R177: COLS. -/
  cols : Nat := 0
  /-- R177: the group count G. -/
  groups : Nat := 0
  /-- R177: the fox bit, the saturation flag and the weight-parity flag. -/
  fox : Bool := false
  sat : Bool := false
  wpar : Bool := false
  /-- R177, R185: S_C and S_M: binary32 codes, or exact integers for an INT32 row. -/
  sc : Int := 0
  sm : Int := 0
  /-- R169, 32 bits each: the values of the first COLS columns, as the containers of R173. -/
  vals : List Nat := []
  /-- R208: the die cycle of the SLOAD whose failed bank foxed the row. -/
  failedLoad : Option Nat := none
  /-- R429: an operation of the current stroke initialised the row. -/
  fresh : Bool := false
deriving DecidableEq, Repr

/-- The first failing group that the metadata checker found (R207, R208). -/
structure MetaFail where
  rule : Nat
  column : Nat
  group : Nat
  injected : Bool
deriving DecidableEq, Repr

/-- A weight bank (R169, R193), its tile held decompressed (R166). -/
structure Bank where
  /-- R180, reset false: the bank is ready. -/
  ready : Bool := false
  /-- R181, reset false: the bank is loading. -/
  loading : Bool := false
  /-- R170: the tile's format and shape. -/
  wfmt : Nat := 0
  klen : Nat := 0
  nlen : Nat := 0
  /-- R195: the pattern of an SE tile. -/
  pat : Nat := 0
  /-- R171: the element codes of each column along k, and the scale bytes of each column's blocks. -/
  cols : List (List Nat) := []
  scales : List (List Nat) := []
  /-- R185: c_k and m_k. -/
  sumC : List Int := []
  sumM : List Int := []
  /-- R190: the bank is foxed. -/
  fox : Bool := false
  /-- R208: the bank failed the checker, and how. -/
  failed : Option MetaFail := none
  /-- R428: the load as the pass log takes it: word, XIMM, CRC of the bytes read and die cycle. -/
  word : Nat := 0
  ximm : Nat := 0
  crc : Nat := 0
  cycle : Nat := 0
deriving DecidableEq, Repr

/-- The four operations of an engine (R174, R200). -/
inductive EngineKind where
  | load | stream | drain | init
deriving DecidableEq, Repr

/-- An operation of an engine in flight (R180, R204). -/
structure EngineOp where
  kind : EngineKind
  /-- The number that its scoreboard entries carry. -/
  id : Nat
  bank : Nat := 0
  row : Nat := 0
  /-- Rows named, or 0 for a load. -/
  count : Nat := 0
  /-- R180: t₁, in issuing die cycles. -/
  portEnd : Nat
  /-- R180: the end of a STREAM's use of its bank. -/
  bankEnd : Nat := 0
  /-- R184, reset false: a STREAM enters one row every second die cycle. -/
  slow : Bool := false
  /-- The die-cycle index of its line. -/
  cycle : Nat
  /-- STREAM, AINIT: the rows as they become valid. DRAIN: the rows drained. -/
  rows : List Row := []
  /-- DRAIN: its bound entry, its CHK bit and its address in 64 B units. -/
  bound : Nat := 0
  chk : Bool := false
  addr : Nat := 0
deriving DecidableEq, Repr

/-- A dense or sparse engine (R169, R193). -/
structure Engine where
  /-- R169, R193, reset not ready: banks 0 and 1. -/
  banks : List Bank := [{}, {}]
  /-- R169, R193, reset invalid: the accumulator rows. -/
  rows : SMap Row := []
  /-- R180, reset none: operations in flight, oldest first. -/
  ops : List EngineOp := []
deriving DecidableEq, Repr

/-- One entry of a cluster's range scoreboard (R254). -/
structure SbEntry where
  span : Span
  write : Bool
  /-- The operation that registered it. -/
  id : Nat
  /-- A read range retires at the end of its port occupancy; a write range when its writes are visible. -/
  until_ : Option Nat
deriving DecidableEq, Repr

/-- A scratchpad operation of a mover in flight, with the rows that it writes (R245–R248). -/
structure MoverOp where
  id : Nat
  portEnd : Nat
  writes : List (Nat × List Delivered)
  /-- R215: the code raised as its writes become visible. -/
  code : Option Nat := none
deriving DecidableEq, Repr

/-- A PUT of the outbound queue (R248): its rows are read as it leaves. -/
structure PutReq where
  id : Nat
  src : Nat
  dst : Nat
  len : Nat
  site : Nat
  cluster : Nat
  /-- R313: a TSEND's trace, and whether its rows are KA-packed; 0 for a PUT. -/
  trace : Nat := 0
  ka : Bool := false
deriving DecidableEq, Repr

/-- The mover of a cluster (R244–R248). -/
structure Mover where
  /-- R248, reset none: operations in flight. -/
  ops : List MoverOp := []
  /-- R248, 8 PUTs, reset none: the outbound queue, oldest first. -/
  outbound : List PutReq := []
  /-- R160, 64 bits, reset 0: the generator's counter n. -/
  draws : Nat := 0
  /-- R248, reset 0: the issuing die cycle at which a PUT, WOPEN or WCLOSE frees the copy engine. -/
  busyTo : Nat := 0
  /-- R258, reset 0: the scrubber's next access: 64 times a bank index, and the bank. -/
  scrub : Nat := 0
deriving DecidableEq, Repr

/-- An operation of slot 12 in flight (R219, R222). -/
structure Slot12Op where
  /-- 0 the gate, 1 the justifier, 2 the sort-merge unit. -/
  unit : Nat
  id : Nat
  portEnd : Nat
  /-- The clusters whose ports it uses. -/
  ports : List Nat
  /-- What it writes: cluster, first row, rows. -/
  writes : List (Nat × Nat × List Delivered)
  /-- The codes that it raises as its outputs become visible, with its descriptor index and its line's die cycle. -/
  codes : List Nat := []
  index : Nat := 0
  cycle : Nat := 0
  /-- What it adds to JUS_GATE_LAST (served, carried, residual, foxed), JUS_JUST_LAST (written, dropped) and
  JUS_MERGE_LAST. -/
  counts : List Nat := []
deriving DecidableEq, Repr

end Sys2Proof.Machine
end

