-- ==== Sys2Proof/Machine/FabricParts.lean ====
section
/-! DEFINITION. The parts of the panel's state outside the compute engines: galleys and memory dies (spec/11), the
scheduled mesh, broadcasts (spec/12), Azrolane bundle ends (spec/13), panel-link contexts and ports (spec/14). -/

namespace Sys2Proof.Machine

/-- A galley request that has not completed (R266, R270). -/
structure GalReq where
  key : GalKey
  write : Bool
  /-- R268: KIND 1, host memory. -/
  host : Bool
  trace : Nat
  addr : Nat
  /-- The slice row of SADDR; for the line galley, the byte offset in the line buffer / 64. -/
  row : Nat
  rows : Nat
  /-- R274: it has left its cluster; a GWRITE's rows have then been read (R272). -/
  sent : Bool := false
  /-- R275: its region has aborted, so that what it brings is discarded. -/
  dropped : Bool := false
  /-- The CRC of one of its rows is sent inverted (GAL_CTRL.CRC_INJECT). -/
  inject : Bool := false
deriving DecidableEq, Repr

/-- A write-buffer entry held for a copy that no link die has acknowledged yet (R285, R287). -/
structure Copy where
  shard : Nat
  ctx : Nat
  addr : Nat
deriving DecidableEq, Repr

/-- A SETMARK notice that waits for earlier copies (R287): region, sheet, and by context how many copies that the die accepted
before it are not yet acknowledged. -/
structure SheetNotice where
  region : Nat
  sheet : Nat
  waits : SMap Nat
deriving DecidableEq, Repr

/-- A memory die (R260–R289) beside its GAL registers. -/
structure MemDie where
  /-- R285, up to 1,024 entries, reset none: copies handed to no link die yet, oldest first. -/
  copies : List Copy := []
  /-- R287, reset none: notices not yet answered. -/
  notices : List SheetNotice := []
  /-- R286, reset none: shards whose copying has stopped. -/
  stopped : List Nat := []
  /-- R274, reset false: 0x0816 has been raised in this stroke. -/
  slotsFull : Bool := false
  /-- R281, reset 0: the next segment that the sweep visits, by channel 0–7. -/
  sweep : SMap Nat := []
  /-- R261, R282, reset false: the die's LPDDR5X is in self-refresh (PARK, warm and compute reset). -/
  selfRefresh : Bool := false
deriving DecidableEq, Repr

/-- A set-off shard or a stream range in force (R284, R344, R383). -/
structure Shard where
  region : Nat
  /-- R284: the shard number; for a stream range, 64 and up. -/
  shard : Nat
  ctx : Nat
  /-- Send shard or stream range; otherwise a receive shard. -/
  send : Bool
  stream : Bool := false
  base : Nat
  limit : Nat
  /-- R383: the contexts that a receive shard accepts. -/
  accept : List Nat := []
deriving DecidableEq, Repr

/-- A row on a scheduled-mesh crossing with its sideband (R78, R290). -/
structure MeshWord where
  stamp : Nat
  ka : Bool
  row : Delivered
deriving DecidableEq, Repr

/-- A running MSEND or MRECV (R294, R295). -/
structure MeshOp where
  recv : Bool
  cluster : Nat
  /-- 16 × edge + bundle. -/
  bundle : Nat
  row : Nat
  count : Nat
  space : Nat
  ka : Bool
  stamp : Nat
  /-- The issuing die cycle of its issue. -/
  start : Nat
  /-- Rows sent or read so far. -/
  done : Nat := 0
  id : Nat
  /-- R257, reset false: an MSEND's reads have raised 0x0720. -/
  noted : Bool := false
  /-- R295: rows read and not yet visible: (die cycle at which they are, slice row, data). -/
  landing : List (Nat × Nat × Delivered) := []
deriving DecidableEq, Repr

/-- A frame of a replay buffer (R325): its SEQ and kind, its payload P, its flit sideband, and the CVC of a TRUNC. -/
structure SentFrame where
  seq : Nat
  kind : Nat
  payload : Nat
  side : Nat
  cvc : Nat
deriving DecidableEq, Repr

/-- One end of an Azrolane bundle (R318–R326) beside its AZL_BUNDLE register. -/
structure BundleEnd where
  /-- R330, 9 bits, reset 511: SEQ of the last replayable frame sent, and the last one acknowledged. -/
  txSeq : Nat := 511
  txAck : Nat := 511
  /-- R325, up to 32 frames, reset none: the replay buffer: the frames not acknowledged, oldest first. -/
  replay : List SentFrame := []
  /-- R330, 9 bits, reset 511: SEQ of the last replayable frame received in order and intact. -/
  rxSeq : Nat := 511
  /-- R325, reset false: frames are discarded until the replay arrives. -/
  discarding : Bool := false
  /-- R324, reset 0: credits in use of buffer 0–5 (P0–P5) and 6 (mesh or trace). -/
  used : SMap Nat := []
  /-- R326, reset none: the SEQ that the last NAKs named, and how many in a row did. -/
  nakSeq : Nat := 0
  nakCount : Nat := 0
  /-- R332, 4 bits, reset 0: LIVE of the last valid frame, and the panel times of the last change and the last valid frame. -/
  live : Nat := 0
  liveAt : Nat := 0
  goodAt : Nat := 0
  /-- R326, reset none: panel times of the retrains of the last second. -/
  retrainAt : List Nat := []
  /-- R324, reset 0: credits of buffer 0–6 to be returned to the peer. -/
  owed : SMap Nat := []
  /-- R314, reset none: the header of the trace packet that arrives here, and the flits of it that have arrived. -/
  tracing : Option (PacketHead × Nat) := none
  /-- R314, reset 0: trace flits that have come in by their frames and have not advanced. -/
  arrived : Nat := 0
deriving DecidableEq, Repr

/-- A packet that passes a router, wormhole-fashion (R302, R303): the output that its head took, and what is still to pass. -/
structure OpenPacket where
  /-- The output bundle 0–63; 64 the die itself, 65 nowhere: its flits are discarded. -/
  out : Nat
  head : PacketHead
  /-- Flits that have left, and those still to leave; with none still to leave, a TRUNC is due on its output (R333). -/
  gone : Nat
  left : Nat
deriving DecidableEq, Repr

/-- A flit that waits at a router input, and whether it is a head. -/
structure QueuedFlit where
  head : Bool
  flit : Flit
deriving DecidableEq, Repr

/-- A router (R299–R311). Its inputs are the bundles 0–63 and 64, the die's own; an input's class is keyed 8 * input + class. -/
structure Router where
  /-- R302, reset none: the flits that wait, oldest first. -/
  queues : SMap (List QueuedFlit) := []
  /-- R299, reset 0: data flits of the packet at an input's class that have not arrived. -/
  coming : SMap Nat := []
  /-- R302, reset none: the packet of which an input's class has sent the head. -/
  sending : SMap (Option OpenPacket) := []
  /-- R104, reset none: the input edge (4 the die's own) that an output's class served last, + 1, by 8 * output + class. -/
  served : SMap Nat := []
deriving DecidableEq, Repr

/-- A frame of a send context's retry store (R345). -/
structure Stored where
  psn : Nat
  /-- R286: the memory die whose copy it holds, and the copy's shard (0 for a MARK). -/
  md : Nat := 0
  shard : Nat := 0
  /-- R349: a MARK frame of this sheet. -/
  mark : Option Nat := none
  addr : Nat := 0
  signal : Bool := false
  rows : List Delivered := []
  /-- R348: received according to the bitmap of an ACK or NAK. -/
  seen : Bool := false
  resends : Nat := 0
  sentAt : Nat := 0
deriving DecidableEq, Repr

/-- A connection context (R343–R349) beside its LNK_CTX register. -/
structure Context where
  /-- R345, up to 1,024 frames, reset none: a send context's retry store, in PSN order. -/
  store : List Stored := []
  /-- R347, reset none: PSNs received beyond the lowest missing one. -/
  received : List Nat := []
  /-- R349, reset none: MARK frames received and not yet answered: (PSN, sheet). -/
  marks : List (Nat × Nat) := []
  /-- R347, reset 0: frames received since the last ACK. -/
  unacked : Nat := 0
  /-- R342, R347, reset 0: SRC_PANEL of the last intact frame for a receive context. -/
  peer : Nat := 0
  /-- R287, reset none: sheet-end reports: (sheet, memory die). -/
  reports : List (Nat × Nat) := []
deriving DecidableEq, Repr

/-- A port of a link die (R338–R358) beside its LNK_P registers. -/
structure Port where
  /-- R355, 32 bits, reset 0: the next SEQ of a feeder port. -/
  feedSeq : Nat := 0
  /-- R354, reset false: training has completed, and the port waits for its first frame. -/
  trained : Bool := false
  /-- R351, reset false: 0x0B03 has been raised since the port went down. -/
  altNoted : Bool := false
  /-- R357, reset false: the interfaces on which PAUSE is being sent. -/
  pausing : List Nat := []
  /-- R357, 32 bits each, reset 0: CONS of each interface's ring as last read. -/
  cons : SMap Nat := []
  /-- R357, reset none: panel time of the last 0x0B0C. -/
  fullAt : Option Nat := none
deriving DecidableEq, Repr

/-- A link die (R338–R358) beside its LNK registers. -/
structure LinkDie where
  /-- R345, reset none: panel time of the last 0x0B09. -/
  storeFullAt : Option Nat := none
  /-- R353: the old version is idle again; reset none is idle. -/
  flipping : Bool := false
deriving DecidableEq, Repr

/-- A sheet of a region that waits for its partners (R287). -/
structure SheetWait where
  region : Nat
  sheet : Nat
  /-- The contexts whose acknowledgement is awaited. -/
  ctxs : List Nat
  /-- The commit record's other contents: the next stroke, the imposition, and the tick that ended the sheet. -/
  stroke : Nat
  imposition : Nat
  tick : Nat
deriving DecidableEq, Repr

/-- The panel-wide side of flips, broadcasts and set-off (R287, R309, R316, R353), held by the acting primary die. -/
structure FabricSide where
  /-- R309, reset none: dies that have reported their routers drained in the flip in progress. -/
  drainedBy : List Nat := []
  /-- R353, reset none: link dies that have reported the port-table flip, and the panel time of the last report. -/
  portFlippedBy : List Nat := []
  portFlipAt : Option Nat := none
  /-- R284, R344, reset none: shards and stream ranges in force. -/
  shards : List Shard := []
  /-- R287, reset none: sheets that wait for acknowledgements. -/
  waits : List SheetWait := []
  /-- R289, reset none: shards being resynchronised, and the first sheet whose marker was sent after the RESYNC. -/
  resync : List (Nat × Option Nat) := []
  /-- R261, reset 10,667: the data rate of every LPDDR5X channel, in MT/s. -/
  memRate : Nat := 10667
  /-- R317, reset none: each die's running CRC-32C of the broadcast, by site. -/
  bcastCrc : SMap Nat := []
  /-- R317, reset none: the image that the acting primary die broadcast, as (CSR offset, bytes), and its CRC once it has ended. -/
  bcastImage : List (Nat × List Byte) := []
  bcastEnded : Option Nat := none
  /-- R327, reset 0: test-channel frames that failed their CRC, by the receiving tester. -/
  tcErrors : SMap Nat := []
  /-- R314, reset none: data flits of the trace packet that lands on a die, by site * 256 + trace. -/
  landingTraces : SMap (List Delivered) := []
  /-- R317, reset 0: unicast resends of each die. -/
  bcastTries : SMap Nat := []
  /-- R444, reset none: lost dies that a flip in progress, or a lock-up, keeps PD from routing around. -/
  avoid : List Nat := []
  /-- R280, reset fabric (0): the containment mode in force. -/
  containMode : Nat := 0
  /-- R308, reset none: dies whose other version is not idle: they have flipped and await the drain notice. -/
  notIdle : List Nat := []
deriving DecidableEq, Repr

/-- A descriptor that a job ring has accepted and not completed (R515, R516). -/
structure HostDesc where
  op : Nat
  fence : Bool
  irq : Bool
  vector : Nat
  tag : Nat
  hostAddr : Nat
  panelAddr : Nat
  length : Nat
  home : Nat
  idx : Nat
  value : Nat
  compl : Nat
  seq : Nat
  /-- R516: it has started, at a panel time. -/
  started : Option Nat := none
  /-- R517: rows that it moved were foxed or poisoned. -/
  foxed : Bool := false
deriving DecidableEq, Repr

/-- A BAR2 access that waits for LPDDR5X to leave self-refresh (R520): its panel address, and the data of a write or the
length of a read. -/
structure HeldAccess where
  addr : Nat
  data : Option (List Byte)
  length : Nat
deriving DecidableEq, Repr

/-- The host side (R506–R520) beside the HST registers. -/
structure HostSide where
  /-- R513, R516, reset none: descriptors accepted and not completed, by ring, oldest first. -/
  rings : SMap (List HostDesc) := []
  /-- R520, reset none: BAR2 accesses that wait. -/
  held : List HeldAccess := []
  /-- R512, reset none: the BAR2 base that takes effect once those have completed. -/
  newBase : Option Nat := none
deriving DecidableEq, Repr

/-- What a command drives out of the panel at its pins, ports and connectors. -/
inductive Out where
  /-- R341, R355: the words of a frame on a port (0–127), each with its lane. -/
  | frame (port : Nat) (words : List (Nat × List Byte))
  /-- R357: PAUSE starts (or stops) on an interface of a port. -/
  | pause (port iface : Nat) (on : Bool)
  /-- R319: a frame that an Azrolane end sends, UI by UI: its 16 data wires and its 8 sideband wires. -/
  | azFrame (site bundle : Nat) (uis : List (Nat × Nat))
  /-- R327, R328: a test-channel frame that a die sends on an edge. -/
  | tcFrame (site edge : Nat) (frame : List Byte)
  /-- R530–R533: the bytes of a datagram or reply to a manager. -/
  | datagram (manager : Nat) (bytes : List Byte)
  /-- R519: an MSI-X vector. -/
  | msix (vector : Nat)
  /-- R510, R511: what a host read returned, and whether it is poisoned. -/
  | hostData (data : List Byte) (poison : Bool)
  /-- R510: a BAR0 access of another size or alignment completes with Unsupported Request. -/
  | unsupported
  /-- R516, R517: bytes written to host memory, and whether they are poisoned. -/
  | hostWrite (addr : Nat) (data : List Byte) (poison : Bool)
  /-- R535: a PLDM message. -/
  | pldm (kind : Nat) (body : List Byte)
  /-- R522: a word read over tack or by firmware. -/
  | word (v : Word)
deriving DecidableEq, Repr

end Sys2Proof.Machine
end

