-- ==== Sys2Proof/Machine/Regs.lean ====
section
/-! DEFINITION. The CSR registers of every die: one named field constant per register field the chapters give, and one
table row per register with its block, width, the dies that implement it, its field types and its reset value. The block
bases are R509's (spec/22_host_interface.md); the base of AZL is a DESIGN CHOICE (notes/assumptions/3.md). -/

namespace Sys2Proof.Machine

/-- The seven kinds of die (R10, R13). -/
inductive DieClass where
  | compute | link | memory | pd | hd | td | ad
deriving DecidableEq, Repr

/-- The register field types of R5. -/
inductive FieldType where
  | rw | ro | w1c | w1s | wo | rc
deriving DecidableEq, Repr

/-- A register field: byte offset of its register in the die's CSR window, its lowest bit, its width, and the range of
R564 (`hi = 0`: the description gives none). -/
structure Fld where
  off : Nat
  lsb : Nat
  width : Nat
  lo : Nat := 0
  hi : Nat := 0
deriving DecidableEq, Repr

/-- A field of a register with its type and its reset value. -/
structure FieldRow where
  lsb : Nat
  width : Nat
  type : FieldType
  reset : Nat
deriving DecidableEq, Repr

/-- One register, or an array of registers: the offset of the first in the CSR window, the width of one in bits, the
dies that implement it, whether AD's copy follows PD's, and up to two array dimensions (count, stride in bytes). -/
structure RegRow where
  off : Nat
  bits : Nat
  dies : List DieClass
  mirror : Bool
  dims : List (Nat × Nat)
  fields : List FieldRow
deriving DecidableEq, Repr

namespace Csr

/-! STK_STATUS: 04_strokes_gutter_priorities.md R96, 32 bits. -/
def STK_STATUS_IN_STROKE : Fld := ⟨0x0, 0, 1, 0, 0⟩
def STK_STATUS_ENDED : Fld := ⟨0x0, 1, 1, 0, 0⟩
def STK_STATUS_SLURRING : Fld := ⟨0x0, 2, 1, 0, 0⟩
def STK_STATUS_SHEET_END : Fld := ⟨0x0, 3, 1, 0, 0⟩
def STK_STATUS_REGION : Fld := ⟨0x0, 4, 4, 0, 0⟩
def STK_STATUS_IN_REGION : Fld := ⟨0x0, 8, 1, 0, 0⟩
def STK_STATUS : Fld := ⟨0x0, 0, 32, 0, 0⟩
/-! STK_END_LAST: 04_strokes_gutter_priorities.md R89, 32 bits. -/
def STK_END_LAST : Fld := ⟨0x4, 0, 32, 0, 0⟩
/-! STK_GUTTER_MIN: 04_strokes_gutter_priorities.md R93, 32 bits. -/
def STK_GUTTER_MIN : Fld := ⟨0x8, 0, 32, 0, 0⟩
/-! STK_SLUR_COUNT: 04_strokes_gutter_priorities.md R96, 32 bits. -/
def STK_SLUR_COUNT : Fld := ⟨0xc, 0, 32, 0, 0⟩
/-! STK_STROKE: 04_strokes_gutter_priorities.md R87, 64 bits. -/
def STK_STROKE : Fld := ⟨0x10, 0, 64, 0, 0⟩
/-! STK_FAULT: 04_strokes_gutter_priorities.md R7, 32 bits. -/
def STK_FAULT : Fld := ⟨0x18, 0, 16, 0, 0⟩
/-! STK_R_CTRL: 04_strokes_gutter_priorities.md R85, 32 bits. -/
def STK_R_CTRL_ENABLE (i : Nat) : Fld := ⟨0x100 + 0x80 * i, 0, 1, 0, 0⟩
def STK_R_CTRL_ALIGN (i : Nat) : Fld := ⟨0x100 + 0x80 * i, 1, 1, 0, 0⟩
def STK_R_CTRL_RUNNING (i : Nat) : Fld := ⟨0x100 + 0x80 * i, 2, 1, 0, 0⟩
def STK_R_CTRL_SLUR_ALARM (i : Nat) : Fld := ⟨0x100 + 0x80 * i, 4, 8, 0, 0⟩
def STK_R_CTRL (i : Nat) : Fld := ⟨0x100 + 0x80 * i, 0, 32, 0, 0⟩
/-! STK_R_PERIOD: 04_strokes_gutter_priorities.md R85, 32 bits. -/
def STK_R_PERIOD (i : Nat) : Fld := ⟨0x104 + 0x80 * i, 0, 32, 12500, 12500000⟩
/-! STK_R_SCHED_LEN: 04_strokes_gutter_priorities.md R85, 32 bits. -/
def STK_R_SCHED_LEN (i : Nat) : Fld := ⟨0x108 + 0x80 * i, 0, 32, 0, 0⟩
/-! STK_R_SHEET_LEN: 04_strokes_gutter_priorities.md R87, 32 bits. -/
def STK_R_SHEET_LEN (i : Nat) : Fld := ⟨0x10c + 0x80 * i, 0, 16, 1, 65535⟩
/-! STK_R_DRAW_STRETCH: 04_strokes_gutter_priorities.md R90, 32 bits. -/
def STK_R_DRAW_STRETCH (i : Nat) : Fld := ⟨0x110 + 0x80 * i, 0, 32, 0, 0⟩
/-! STK_R_STEP: 04_strokes_gutter_priorities.md R94, 32 bits. -/
def STK_R_STEP (i : Nat) : Fld := ⟨0x114 + 0x80 * i, 0, 24, 0, 0⟩
/-! STK_R_SLUR_LIMIT: 04_strokes_gutter_priorities.md R97, 32 bits. -/
def STK_R_SLUR_LIMIT (i : Nat) : Fld := ⟨0x118 + 0x80 * i, 0, 14, 1, 10000⟩
/-! STK_R_SLUR_LAST: 04_strokes_gutter_priorities.md R96, 32 bits. -/
def STK_R_SLUR_LAST (i : Nat) : Fld := ⟨0x11c + 0x80 * i, 0, 32, 0, 0⟩
/-! STK_R_NEXT_TICK: 04_strokes_gutter_priorities.md R91, 64 bits. -/
def STK_R_NEXT_TICK (i : Nat) : Fld := ⟨0x120 + 0x80 * i, 0, 64, 0, 0⟩
/-! STK_R_STROKE: 04_strokes_gutter_priorities.md R87, 64 bits. -/
def STK_R_STROKE (i : Nat) : Fld := ⟨0x128 + 0x80 * i, 0, 64, 0, 0⟩
/-! STK_R_SLURS: 04_strokes_gutter_priorities.md R96, 32 bits. -/
def STK_R_SLURS (i : Nat) : Fld := ⟨0x130 + 0x80 * i, 0, 32, 0, 0⟩
/-! STK_R_SHEET: 04_strokes_gutter_priorities.md R99, 32 bits. -/
def STK_R_SHEET (i : Nat) : Fld := ⟨0x134 + 0x80 * i, 0, 32, 0, 0⟩
/-! STK_R_COMMIT_ADDR: 04_strokes_gutter_priorities.md R100, 64 bits. -/
def STK_R_COMMIT_ADDR (i : Nat) : Fld := ⟨0x138 + 0x80 * i, 0, 64, 0, 0⟩
/-! STK_R_EXT_LAST: 04_strokes_gutter_priorities.md R94, 32 bits. -/
def STK_R_EXT_LAST (i : Nat) : Fld := ⟨0x140 + 0x80 * i, 0, 16, 0, 0⟩
/-! STK_SEQ_CTRL: 05_compute_die_and_line_stream.md R125, 32 bits. -/
def STK_SEQ_CTRL_TRACE : Fld := ⟨0x40, 0, 1, 0, 0⟩
def STK_SEQ_CTRL : Fld := ⟨0x40, 0, 32, 0, 0⟩
/-! STK_SEQ_STATUS: 05_compute_die_and_line_stream.md R133, 32 bits. -/
def STK_SEQ_STATUS_ISSUING : Fld := ⟨0x44, 0, 1, 0, 0⟩
def STK_SEQ_STATUS_WAITING : Fld := ⟨0x44, 1, 1, 0, 0⟩
def STK_SEQ_STATUS_WAIT_KIND : Fld := ⟨0x44, 2, 3, 0, 0⟩
def STK_SEQ_STATUS_H0_VALID : Fld := ⟨0x44, 5, 1, 0, 0⟩
def STK_SEQ_STATUS_H1_VALID : Fld := ⟨0x44, 6, 1, 0, 0⟩
def STK_SEQ_STATUS_LOADING : Fld := ⟨0x44, 7, 1, 0, 0⟩
def STK_SEQ_STATUS_EXEC_HALF : Fld := ⟨0x44, 8, 1, 0, 0⟩
def STK_SEQ_STATUS_LOOPS : Fld := ⟨0x44, 9, 4, 0, 0⟩
def STK_SEQ_STATUS : Fld := ⟨0x44, 0, 32, 0, 0⟩
/-! STK_SEQ_IMAGE: 05_compute_die_and_line_stream.md R119, 64 bits. -/
def STK_SEQ_IMAGE : Fld := ⟨0x48, 0, 48, 0, 0⟩
/-! STK_SEQ_PAGES: 05_compute_die_and_line_stream.md R120, 32 bits. -/
def STK_SEQ_PAGES : Fld := ⟨0x50, 0, 16, 0, 0⟩
/-! STK_SEQ_SYNC_TIMEOUT: 05_compute_die_and_line_stream.md R134, 32 bits. -/
def STK_SEQ_SYNC_TIMEOUT : Fld := ⟨0x54, 0, 10, 1, 1000⟩
/-! STK_SEQ_WAIT_LAST: 05_compute_die_and_line_stream.md R133, 64 bits. -/
def STK_SEQ_WAIT_LAST_STALLS : Fld := ⟨0x58, 0, 16, 0, 0⟩
def STK_SEQ_WAIT_LAST_CYCLES : Fld := ⟨0x58, 16, 32, 0, 0⟩
def STK_SEQ_WAIT_LAST : Fld := ⟨0x58, 0, 64, 0, 0⟩
/-! STK_SEQ_POS: 05_compute_die_and_line_stream.md R124, 64 bits. -/
def STK_SEQ_POS_OFFSET : Fld := ⟨0x60, 0, 14, 0, 0⟩
def STK_SEQ_POS_HALF : Fld := ⟨0x60, 14, 1, 0, 0⟩
def STK_SEQ_POS_CYCLE : Fld := ⟨0x60, 32, 32, 0, 0⟩
def STK_SEQ_POS : Fld := ⟨0x60, 0, 64, 0, 0⟩
/-! STK_SEQ_FAULT_POS: 05_compute_die_and_line_stream.md R112, 64 bits. -/
def STK_SEQ_FAULT_POS_OFFSET : Fld := ⟨0x68, 0, 14, 0, 0⟩
def STK_SEQ_FAULT_POS_HALF : Fld := ⟨0x68, 14, 1, 0, 0⟩
def STK_SEQ_FAULT_POS_PAGE : Fld := ⟨0x68, 16, 16, 0, 0⟩
def STK_SEQ_FAULT_POS_CYCLE : Fld := ⟨0x68, 32, 32, 0, 0⟩
def STK_SEQ_FAULT_POS : Fld := ⟨0x68, 0, 64, 0, 0⟩
/-! STK_SEQ_LAST_ARR: 05_compute_die_and_line_stream.md R132, 32 bits. -/
def STK_SEQ_LAST_ARR : Fld := ⟨0x70, 0, 32, 0, 0⟩
/-! STK_SEQ_HALF_PAGE: 05_compute_die_and_line_stream.md R121, 32 bits. -/
def STK_SEQ_HALF_PAGE_H0 : Fld := ⟨0x74, 0, 16, 0, 0⟩
def STK_SEQ_HALF_PAGE_H1 : Fld := ⟨0x74, 16, 16, 0, 0⟩
def STK_SEQ_HALF_PAGE : Fld := ⟨0x74, 0, 32, 0, 0⟩
/-! STK_CMP_FAULT: 05_compute_die_and_line_stream.md R140, 64 bits. -/
def STK_CMP_FAULT_THREAD : Fld := ⟨0x78, 0, 2, 0, 0⟩
def STK_CMP_FAULT_CORE : Fld := ⟨0x78, 2, 3, 0, 0⟩
def STK_CMP_FAULT_CLUSTER : Fld := ⟨0x78, 5, 2, 0, 0⟩
def STK_CMP_FAULT_PC : Fld := ⟨0x78, 7, 14, 0, 0⟩
def STK_CMP_FAULT_WORD : Fld := ⟨0x78, 32, 32, 0, 0⟩
def STK_CMP_FAULT : Fld := ⟨0x78, 0, 64, 0, 0⟩
/-! STK_SEQ_ENTRY: 05_compute_die_and_line_stream.md R123, 32 bits. -/
def STK_SEQ_ENTRY_OFFSET (i : Nat) : Fld := ⟨0x80 + 0x4 * i, 0, 14, 0, 0⟩
def STK_SEQ_ENTRY_HALF (i : Nat) : Fld := ⟨0x80 + 0x4 * i, 14, 1, 0, 0⟩
def STK_SEQ_ENTRY_VALID (i : Nat) : Fld := ⟨0x80 + 0x4 * i, 15, 1, 0, 0⟩
def STK_SEQ_ENTRY_PAGE (i : Nat) : Fld := ⟨0x80 + 0x4 * i, 16, 16, 0, 0⟩
def STK_SEQ_ENTRY (i : Nat) : Fld := ⟨0x80 + 0x4 * i, 0, 32, 0, 0⟩
/-! STK_CMP_THREADS: 05_compute_die_and_line_stream.md R137, 128 bits. -/
def STK_CMP_THREADS : Fld := ⟨0xc0, 0, 128, 0, 0⟩
/-! STK_SYNC_CTR: 05_compute_die_and_line_stream.md R126, 32 bits. -/
def STK_SYNC_CTR (i : Nat) : Fld := ⟨0x1000 + 0x4 * i, 0, 32, 0, 0⟩
/-! STK_SYNC_CUR: 05_compute_die_and_line_stream.md R126, 32 bits. -/
def STK_SYNC_CUR (i : Nat) : Fld := ⟨0x1400 + 0x4 * i, 0, 32, 0, 0⟩
/-! STK_SYNC_WCUR: 05_compute_die_and_line_stream.md R131, 32 bits. -/
def STK_SYNC_WCUR (i : Nat) : Fld := ⟨0x1800 + 0x4 * i, 0, 32, 0, 0⟩
/-! STK_SYNC_WSTATE: 05_compute_die_and_line_stream.md R131, 32 bits. -/
def STK_SYNC_WSTATE_READY : Fld := ⟨0x1840, 0, 16, 0, 0⟩
def STK_SYNC_WSTATE_PENDING : Fld := ⟨0x1840, 16, 16, 0, 0⟩
def STK_SYNC_WSTATE : Fld := ⟨0x1840, 0, 32, 0, 0⟩
/-! LINE_BUFFER: 05_compute_die_and_line_stream.md R119, 32 bits. -/
def LINE_BUFFER (i : Nat) : Fld := ⟨0x100000 + 0x4 * i, 0, 32, 0, 0⟩
/-! CMP_IMEM: 05_compute_die_and_line_stream.md R135, 32 bits. -/
def CMP_IMEM (i : Nat) : Fld := ⟨0x200000 + 0x4 * i, 0, 32, 0, 0⟩
/-! CLK_CTRL: 03_clocks_and_panel_time.md R76, 32 bits. -/
def CLK_CTRL_FIXED : Fld := ⟨0x10000, 0, 1, 0, 0⟩
def CLK_CTRL_COUPLE_OFF : Fld := ⟨0x10000, 1, 1, 0, 0⟩
def CLK_CTRL : Fld := ⟨0x10000, 0, 32, 0, 0⟩
/-! CLK_STATUS: 03_clocks_and_panel_time.md R81, 32 bits. -/
def CLK_STATUS_HOLDING : Fld := ⟨0x10004, 0, 1, 0, 0⟩
def CLK_STATUS_PTIME_VALID : Fld := ⟨0x10004, 1, 1, 0, 0⟩
def CLK_STATUS_REGISTERED : Fld := ⟨0x10004, 2, 1, 0, 0⟩
def CLK_STATUS_DOMAIN_UP : Fld := ⟨0x10004, 3, 5, 0, 0⟩
def CLK_STATUS : Fld := ⟨0x10004, 0, 32, 0, 0⟩
/-! CLK_PERIOD: 03_clocks_and_panel_time.md R55, 32 bits. -/
def CLK_PERIOD : Fld := ⟨0x10008, 0, 8, 0, 0⟩
/-! CLK_HOLD_TIMEOUT: 03_clocks_and_panel_time.md R83, 32 bits. -/
def CLK_HOLD_TIMEOUT : Fld := ⟨0x1000c, 0, 6, 1, 50⟩
/-! CLK_MARGIN_CFG: 03_clocks_and_panel_time.md R56, 32 bits. -/
def CLK_MARGIN_CFG_TRIGGER : Fld := ⟨0x10010, 0, 8, 0, 0⟩
def CLK_MARGIN_CFG_WARN : Fld := ⟨0x10010, 8, 8, 0, 0⟩
def CLK_MARGIN_CFG_SUSPECT : Fld := ⟨0x10010, 16, 8, 0, 0⟩
def CLK_MARGIN_CFG : Fld := ⟨0x10010, 0, 32, 0, 0⟩
/-! CLK_FORCED: 03_clocks_and_panel_time.md R63, 32 bits. -/
def CLK_FORCED_STRETCH : Fld := ⟨0x10014, 0, 4, 0, 8⟩
def CLK_FORCED_COUNT : Fld := ⟨0x10014, 8, 24, 0, 0⟩
def CLK_FORCED : Fld := ⟨0x10014, 0, 32, 0, 0⟩
/-! CLK_SLIP_LAST: 03_clocks_and_panel_time.md R61, 32 bits. -/
def CLK_SLIP_LAST : Fld := ⟨0x10018, 0, 32, 0, 0⟩
/-! CLK_SLIP_TIME_LAST: 03_clocks_and_panel_time.md R61, 32 bits. -/
def CLK_SLIP_TIME_LAST : Fld := ⟨0x1001c, 0, 32, 0, 0⟩
/-! CLK_HOLD_LAST: 03_clocks_and_panel_time.md R83, 64 bits. -/
def CLK_HOLD_LAST_HOLDS : Fld := ⟨0x10020, 0, 16, 0, 0⟩
def CLK_HOLD_LAST_CYCLES : Fld := ⟨0x10020, 16, 32, 0, 0⟩
def CLK_HOLD_LAST : Fld := ⟨0x10020, 0, 64, 0, 0⟩
/-! CLK_MARGIN_MIN: 03_clocks_and_panel_time.md R57, 32 bits. -/
def CLK_MARGIN_MIN (i : Nat) : Fld := ⟨0x10028 + 0x4 * i, 0, 8, 0, 0⟩
/-! CLK_XING: 03_clocks_and_panel_time.md R76, 32 bits. -/
def CLK_XING_LAT (i : Nat) : Fld := ⟨0x10040 + 0x4 * i, 0, 5, 0, 0⟩
def CLK_XING_RAW (i : Nat) : Fld := ⟨0x10040 + 0x4 * i, 5, 5, 0, 0⟩
def CLK_XING_HIGH_WATER (i : Nat) : Fld := ⟨0x10040 + 0x4 * i, 10, 5, 0, 0⟩
def CLK_XING (i : Nat) : Fld := ⟨0x10040 + 0x4 * i, 0, 32, 0, 0⟩
/-! CLK_PTIME: 03_clocks_and_panel_time.md R64, 64 bits. -/
def CLK_PTIME : Fld := ⟨0x10050, 0, 64, 0, 0⟩
/-! CLK_TREE_DELAY: 03_clocks_and_panel_time.md R77, 32 bits. -/
def CLK_TREE_DELAY : Fld := ⟨0x10058, 0, 10, 0, 0⟩
/-! CLK_FAULT: 03_clocks_and_panel_time.md R7, 32 bits. -/
def CLK_FAULT : Fld := ⟨0x1005c, 0, 16, 0, 0⟩
/-! CLK_TIME_CTRL: 03_clocks_and_panel_time.md R73, 32 bits. -/
def CLK_TIME_CTRL_TIN_PPS : Fld := ⟨0x10100, 0, 1, 0, 0⟩
def CLK_TIME_CTRL_TIN_LOCK : Fld := ⟨0x10100, 1, 1, 0, 0⟩
def CLK_TIME_CTRL_TOUT_MODE : Fld := ⟨0x10100, 2, 2, 0, 0⟩
def CLK_TIME_CTRL_TOUT_REGION : Fld := ⟨0x10100, 4, 4, 0, 0⟩
def CLK_TIME_CTRL_LOCK_REGION : Fld := ⟨0x10100, 8, 4, 0, 0⟩
def CLK_TIME_CTRL : Fld := ⟨0x10100, 0, 32, 0, 0⟩
/-! CLK_PTP_STATUS: 03_clocks_and_panel_time.md R71, 32 bits. -/
def CLK_PTP_STATUS_STATE : Fld := ⟨0x10104, 0, 2, 0, 0⟩
def CLK_PTP_STATUS_PORT : Fld := ⟨0x10104, 2, 1, 0, 0⟩
def CLK_PTP_STATUS : Fld := ⟨0x10104, 0, 32, 0, 0⟩
/-! CLK_PTP_OFFSET: 03_clocks_and_panel_time.md R71, 64 bits. -/
def CLK_PTP_OFFSET : Fld := ⟨0x10108, 0, 64, 0, 0⟩
/-! CLK_RATE: 03_clocks_and_panel_time.md R64, 32 bits. -/
def CLK_RATE : Fld := ⟨0x10110, 0, 32, 0, 0⟩
/-! CLK_LOCK_OFFSET: 03_clocks_and_panel_time.md R72, 32 bits. -/
def CLK_LOCK_OFFSET : Fld := ⟨0x10114, 0, 32, 0, 0⟩
/-! DRW_CTRL: 20_draw_control_and_cooling.md R474, 32 bits. -/
def DRW_CTRL_TRIM_EN : Fld := ⟨0x20000, 0, 1, 0, 0⟩
def DRW_CTRL_LEASE : Fld := ⟨0x20000, 8, 8, 0, 0⟩
def DRW_CTRL_WARM_WAIT : Fld := ⟨0x20000, 16, 16, 0, 0⟩
def DRW_CTRL : Fld := ⟨0x20000, 0, 32, 0, 0⟩
/-! DRW_STATUS: 20_draw_control_and_cooling.md R467, 32 bits. -/
def DRW_STATUS_MODE : Fld := ⟨0x20004, 0, 2, 0, 0⟩
def DRW_STATUS_CHANGING : Fld := ⟨0x20004, 2, 1, 0, 0⟩
def DRW_STATUS_S_REQ : Fld := ⟨0x20004, 3, 7, 0, 0⟩
def DRW_STATUS_BUDGET : Fld := ⟨0x20004, 10, 7, 0, 0⟩
def DRW_STATUS_FLOW_CAP : Fld := ⟨0x20004, 17, 7, 0, 0⟩
def DRW_STATUS_LEASE_EXP : Fld := ⟨0x20004, 24, 1, 0, 0⟩
def DRW_STATUS_RAMPING : Fld := ⟨0x20004, 25, 1, 0, 0⟩
def DRW_STATUS_SCALED : Fld := ⟨0x20004, 26, 1, 0, 0⟩
def DRW_STATUS : Fld := ⟨0x20004, 0, 32, 0, 0⟩
/-! DRW_FAULT: 20_draw_control_and_cooling.md R7, 32 bits. -/
def DRW_FAULT : Fld := ⟨0x20008, 0, 16, 0, 0⟩
/-! DRW_SP_TACK: 20_draw_control_and_cooling.md R468, 32 bits. -/
def DRW_SP_TACK_SETPOINT : Fld := ⟨0x2000c, 0, 7, 0, 0⟩
def DRW_SP_TACK_MODE : Fld := ⟨0x2000c, 8, 2, 0, 0⟩
def DRW_SP_TACK : Fld := ⟨0x2000c, 0, 32, 0, 0⟩
/-! DRW_SP_HOST: 20_draw_control_and_cooling.md R468, 32 bits. -/
def DRW_SP_HOST_SETPOINT : Fld := ⟨0x20010, 0, 7, 0, 0⟩
def DRW_SP_HOST_MODE : Fld := ⟨0x20010, 8, 2, 0, 0⟩
def DRW_SP_HOST : Fld := ⟨0x20010, 0, 32, 0, 0⟩
/-! DRW_MEASURED: 20_draw_control_and_cooling.md R471, 32 bits. -/
def DRW_MEASURED_PANEL : Fld := ⟨0x20014, 0, 16, 0, 0⟩
def DRW_MEASURED_OUTSIDE : Fld := ⟨0x20014, 16, 16, 0, 0⟩
def DRW_MEASURED : Fld := ⟨0x20014, 0, 32, 0, 0⟩
/-! DRW_R_STATE: 20_draw_control_and_cooling.md R470, 32 bits. -/
def DRW_R_STATE_S (i : Nat) : Fld := ⟨0x20100 + 0x20 * i, 0, 7, 0, 0⟩
def DRW_R_STATE_C (i : Nat) : Fld := ⟨0x20100 + 0x20 * i, 7, 7, 0, 0⟩
def DRW_R_STATE_BAND_LO (i : Nat) : Fld := ⟨0x20100 + 0x20 * i, 14, 7, 0, 0⟩
def DRW_R_STATE_BAND_IMP (i : Nat) : Fld := ⟨0x20100 + 0x20 * i, 21, 3, 0, 0⟩
def DRW_R_STATE (i : Nat) : Fld := ⟨0x20100 + 0x20 * i, 0, 32, 0, 0⟩
/-! DRW_R_DRAW: 20_draw_control_and_cooling.md R470, 32 bits. -/
def DRW_R_DRAW_B (i : Nat) : Fld := ⟨0x20104 + 0x20 * i, 0, 16, 0, 0⟩
def DRW_R_DRAW_M (i : Nat) : Fld := ⟨0x20104 + 0x20 * i, 16, 16, 0, 0⟩
def DRW_R_DRAW (i : Nat) : Fld := ⟨0x20104 + 0x20 * i, 0, 32, 0, 0⟩
/-! DRW_R_TRIM: 20_draw_control_and_cooling.md R473, 32 bits. -/
def DRW_R_TRIM (i : Nat) : Fld := ⟨0x20108 + 0x20 * i, 0, 24, 0, 0⟩
/-! DRW_R_THERM: 20_draw_control_and_cooling.md R486, 32 bits. -/
def DRW_R_THERM (i : Nat) : Fld := ⟨0x2010c + 0x20 * i, 0, 24, 0, 0⟩
/-! DRW_R_STEP: 20_draw_control_and_cooling.md R475, 32 bits. -/
def DRW_R_STEP (i : Nat) : Fld := ⟨0x20110 + 0x20 * i, 0, 24, 0, 0⟩
/-! DRW_DIE_POWER: 20_draw_control_and_cooling.md R471, 32 bits. -/
def DRW_DIE_POWER : Fld := ⟨0x20300, 0, 16, 0, 0⟩
/-! DRW_TOK_ALLOW: 17_compiler_contract.md R413, 32 bits. -/
def DRW_TOK_ALLOW_ALLOWANCE : Fld := ⟨0x20400, 0, 14, 1, 10240⟩
def DRW_TOK_ALLOW_EFFECTIVE : Fld := ⟨0x20400, 16, 14, 0, 0⟩
def DRW_TOK_ALLOW : Fld := ⟨0x20400, 0, 32, 0, 0⟩
/-! DRW_TOK_LAST: 17_compiler_contract.md R414, 32 bits. -/
def DRW_TOK_LAST_HELD : Fld := ⟨0x20404, 0, 16, 0, 0⟩
def DRW_TOK_LAST_HOLDS : Fld := ⟨0x20404, 16, 16, 0, 0⟩
def DRW_TOK_LAST : Fld := ⟨0x20404, 0, 32, 0, 0⟩
/-! DRW_TOK_PEAK: 17_compiler_contract.md R412, 32 bits. -/
def DRW_TOK_PEAK : Fld := ⟨0x20408, 0, 14, 0, 0⟩
/-! DRW_TOK_USED: 17_compiler_contract.md R412, 32 bits. -/
def DRW_TOK_USED : Fld := ⟨0x2040c, 0, 32, 0, 0⟩
/-! TCK_STATUS: 23_tack_management.md R521, 32 bits. -/
def TCK_STATUS_LINK_UP : Fld := ⟨0x30000, 0, 5, 0, 0⟩
def TCK_STATUS_HB_OK : Fld := ⟨0x30000, 5, 5, 0, 0⟩
def TCK_STATUS_FALLBACK : Fld := ⟨0x30000, 10, 1, 0, 0⟩
def TCK_STATUS : Fld := ⟨0x30000, 0, 32, 0, 0⟩
/-! TCK_FAULT: 23_tack_management.md R7, 32 bits. -/
def TCK_FAULT : Fld := ⟨0x30004, 0, 16, 0, 0⟩
/-! TCK_DIST: 23_tack_management.md R523, 32 bits. -/
def TCK_DIST_PD : Fld := ⟨0x30008, 0, 8, 0, 0⟩
def TCK_DIST_AD : Fld := ⟨0x30008, 8, 8, 0, 0⟩
def TCK_DIST_TD : Fld := ⟨0x30008, 16, 8, 0, 0⟩
def TCK_DIST : Fld := ⟨0x30008, 0, 32, 0, 0⟩
/-! TCK_LERR: 23_tack_management.md R522, 32 bits. -/
def TCK_LERR : Fld := ⟨0x3000c, 0, 32, 0, 0⟩
/-! TCK_NET_CTRL: 23_tack_management.md R529, 32 bits. -/
def TCK_NET_CTRL_MODE0 : Fld := ⟨0x30100, 0, 1, 0, 0⟩
def TCK_NET_CTRL_MODE1 : Fld := ⟨0x30100, 1, 1, 0, 0⟩
def TCK_NET_CTRL_PREFER : Fld := ⟨0x30100, 2, 1, 0, 0⟩
def TCK_NET_CTRL : Fld := ⟨0x30100, 0, 32, 0, 0⟩
/-! TCK_NET_STATUS: 23_tack_management.md R529, 32 bits. -/
def TCK_NET_STATUS_LINK : Fld := ⟨0x30104, 0, 2, 0, 0⟩
def TCK_NET_STATUS_ACTIVE : Fld := ⟨0x30104, 2, 1, 0, 0⟩
def TCK_NET_STATUS : Fld := ⟨0x30104, 0, 32, 0, 0⟩
/-! TCK_MAC: 23_tack_management.md R529, 64 bits. -/
def TCK_MAC (i : Nat) : Fld := ⟨0x30108 + 0x8 * i, 0, 48, 0, 0⟩
/-! TCK_IP: 23_tack_management.md R529, 128 bits. -/
def TCK_IP : Fld := ⟨0x30120, 0, 128, 0, 0⟩
/-! TCK_MGR: 23_tack_management.md R530, 256 bits. -/
def TCK_MGR_ADDR (i : Nat) : Fld := ⟨0x30140 + 0x20 * i, 0, 128, 0, 0⟩
def TCK_MGR_VALID (i : Nat) : Fld := ⟨0x30140 + 0x20 * i, 128, 1, 0, 0⟩
def TCK_MGR_WRITE (i : Nat) : Fld := ⟨0x30140 + 0x20 * i, 129, 1, 0, 0⟩
def TCK_MGR_MIN_SEV (i : Nat) : Fld := ⟨0x30140 + 0x20 * i, 130, 3, 0, 5⟩
def TCK_MGR_EVENTS (i : Nat) : Fld := ⟨0x30140 + 0x20 * i, 133, 16, 0, 0⟩
def TCK_MGR_TELEM_MS (i : Nat) : Fld := ⟨0x30140 + 0x20 * i, 149, 16, 0, 0⟩
def TCK_MGR (i : Nat) : Fld := ⟨0x30140 + 0x20 * i, 0, 256, 0, 0⟩
/-! TCK_PTP: 23_tack_management.md R70, 32 bits. -/
def TCK_PTP_DOMAIN : Fld := ⟨0x301c0, 0, 8, 0, 0⟩
def TCK_PTP_PORT : Fld := ⟨0x301c0, 8, 1, 0, 0⟩
def TCK_PTP_ENABLE : Fld := ⟨0x301c0, 9, 1, 0, 0⟩
def TCK_PTP : Fld := ⟨0x301c0, 0, 32, 0, 0⟩
/-! TCK_SMB: 23_tack_management.md R534, 32 bits. -/
def TCK_SMB_ADDR : Fld := ⟨0x301c4, 0, 7, 0, 0⟩
def TCK_SMB_FAST : Fld := ⟨0x301c4, 7, 1, 0, 0⟩
def TCK_SMB_MIN_SEV : Fld := ⟨0x301c4, 8, 3, 0, 5⟩
def TCK_SMB : Fld := ⟨0x301c4, 0, 32, 0, 0⟩
/-! TCK_EVQ: 23_tack_management.md R532, 32 bits. -/
def TCK_EVQ_QUEUED : Fld := ⟨0x301c8, 0, 11, 0, 0⟩
def TCK_EVQ_DROPPED : Fld := ⟨0x301c8, 16, 16, 0, 0⟩
def TCK_EVQ : Fld := ⟨0x301c8, 0, 32, 0, 0⟩
/-! TCK_BLOG: 23_tack_management.md R43, 32 bits. -/
def TCK_BLOG (i : Nat) : Fld := ⟨0x31000 + 0x4 * i, 0, 32, 0, 0⟩
/-! HST_CTRL: 22_host_interface.md R516, 32 bits. -/
def HST_CTRL_DMA_EN : Fld := ⟨0x40000, 0, 1, 0, 0⟩
def HST_CTRL : Fld := ⟨0x40000, 0, 32, 0, 0⟩
/-! HST_STATUS: 22_host_interface.md R507, 32 bits. -/
def HST_STATUS_LINK_UP : Fld := ⟨0x40004, 0, 1, 0, 0⟩
def HST_STATUS_SPEED : Fld := ⟨0x40004, 1, 3, 0, 0⟩
def HST_STATUS_WIDTH : Fld := ⟨0x40004, 4, 5, 0, 0⟩
def HST_STATUS_D3 : Fld := ⟨0x40004, 9, 1, 0, 0⟩
def HST_STATUS_RING_EN : Fld := ⟨0x40004, 10, 16, 0, 0⟩
def HST_STATUS : Fld := ⟨0x40004, 0, 32, 0, 0⟩
/-! HST_FAULT: 22_host_interface.md R7, 32 bits. -/
def HST_FAULT : Fld := ⟨0x40008, 0, 16, 0, 0⟩
/-! HST_IRQ_CFG: 22_host_interface.md R519, 32 bits. -/
def HST_IRQ_CFG_ENABLE : Fld := ⟨0x4000c, 0, 6, 0, 0⟩
def HST_IRQ_CFG_MIN_SEV : Fld := ⟨0x4000c, 8, 3, 0, 5⟩
def HST_IRQ_CFG : Fld := ⟨0x4000c, 0, 32, 0, 0⟩
/-! HST_B2_BASE: 22_host_interface.md R512, 64 bits. -/
def HST_B2_BASE : Fld := ⟨0x40010, 0, 64, 0, 0⟩
/-! HST_AP: 22_host_interface.md R508, 32 bits. -/
def HST_AP_SITE (i : Nat) : Fld := ⟨0x40020 + 0x4 * i, 0, 9, 0, 0⟩
def HST_AP_VALID (i : Nat) : Fld := ⟨0x40020 + 0x4 * i, 9, 1, 0, 0⟩
def HST_AP (i : Nat) : Fld := ⟨0x40020 + 0x4 * i, 0, 32, 0, 0⟩
/-! HST_RING: 22_host_interface.md R513, 256 bits. -/
def HST_RING_BASE (i : Nat) : Fld := ⟨0x40100 + 0x20 * i, 0, 64, 0, 0⟩
def HST_RING_SIZE (i : Nat) : Fld := ⟨0x40100 + 0x20 * i, 64, 4, 4, 14⟩
def HST_RING_ENABLE (i : Nat) : Fld := ⟨0x40100 + 0x20 * i, 68, 1, 0, 0⟩
def HST_RING_POLL_PHASE (i : Nat) : Fld := ⟨0x40100 + 0x20 * i, 96, 24, 0, 0⟩
def HST_RING_WAIT_TIMEOUT (i : Nat) : Fld := ⟨0x40100 + 0x20 * i, 128, 20, 1, 1000000⟩
def HST_RING_CONS (i : Nat) : Fld := ⟨0x40100 + 0x20 * i, 160, 32, 0, 0⟩
def HST_RING_DONE (i : Nat) : Fld := ⟨0x40100 + 0x20 * i, 192, 32, 0, 0⟩
def HST_RING_POLLS (i : Nat) : Fld := ⟨0x40100 + 0x20 * i, 224, 32, 0, 0⟩
def HST_RING (i : Nat) : Fld := ⟨0x40100 + 0x20 * i, 0, 256, 0, 0⟩
/-! HST_MSIX: 22_host_interface.md R506, 32 bits. -/
def HST_MSIX (i : Nat) : Fld := ⟨0x48000 + 0x4 * i, 0, 32, 0, 0⟩
/-! HST_PBA: 22_host_interface.md R506, 64 bits. -/
def HST_PBA : Fld := ⟨0x49000, 0, 64, 0, 0⟩
/-! FAB_CTRL: 12_on_panel_fabric.md R309, 32 bits. -/
def FAB_CTRL_FLIP : Fld := ⟨0x50000, 0, 1, 0, 0⟩
def FAB_CTRL_REIN_EN : Fld := ⟨0x50000, 1, 1, 0, 0⟩
def FAB_CTRL_REIN_ALARM : Fld := ⟨0x50000, 4, 16, 0, 0⟩
def FAB_CTRL : Fld := ⟨0x50000, 0, 32, 0, 0⟩
/-! FAB_STATUS: 12_on_panel_fabric.md R307, 32 bits. -/
def FAB_STATUS_EPOCH : Fld := ⟨0x50004, 0, 1, 0, 0⟩
def FAB_STATUS_FLIPPING : Fld := ⟨0x50004, 1, 1, 0, 0⟩
def FAB_STATUS_OLD_DRAINED : Fld := ⟨0x50004, 2, 1, 0, 0⟩
def FAB_STATUS_REINED : Fld := ⟨0x50004, 8, 6, 0, 0⟩
def FAB_STATUS_EDGE_DOWN : Fld := ⟨0x50004, 14, 4, 0, 0⟩
def FAB_STATUS : Fld := ⟨0x50004, 0, 32, 0, 0⟩
/-! FAB_FAULT: 12_on_panel_fabric.md R7, 32 bits. -/
def FAB_FAULT : Fld := ⟨0x50008, 0, 16, 0, 0⟩
/-! FAB_REIN_CFG: 12_on_panel_fabric.md R311, 64 bits. -/
def FAB_REIN_CFG : Fld := ⟨0x50010, 0, 64, 0, 0⟩
/-! FAB_REIN_LAST: 12_on_panel_fabric.md R311, 32 bits. -/
def FAB_REIN_LAST (i : Nat) : Fld := ⟨0x50020 + 0x4 * i, 0, 32, 0, 0⟩
/-! FAB_DROP_LAST: 12_on_panel_fabric.md R310, 32 bits. -/
def FAB_DROP_LAST_DOWN : Fld := ⟨0x50038, 0, 16, 0, 0⟩
def FAB_DROP_LAST_NOROUTE : Fld := ⟨0x50038, 16, 16, 0, 0⟩
def FAB_DROP_LAST : Fld := ⟨0x50038, 0, 32, 0, 0⟩
/-! FAB_MESH_LAST: 12_on_panel_fabric.md R294, 32 bits. -/
def FAB_MESH_LAST_SENT : Fld := ⟨0x5003c, 0, 16, 0, 0⟩
def FAB_MESH_LAST_READ : Fld := ⟨0x5003c, 16, 16, 0, 0⟩
def FAB_MESH_LAST : Fld := ⟨0x5003c, 0, 32, 0, 0⟩
/-! FAB_RIG: 12_on_panel_fabric.md R292, 32 bits. -/
def FAB_RIG (i : Nat) : Fld := ⟨0x50040 + 0x4 * i, 0, 32, 0, 0⟩
/-! FAB_BTREE: 12_on_panel_fabric.md R316, 32 bits. -/
def FAB_BTREE_LOCAL : Fld := ⟨0x50050, 0, 1, 0, 0⟩
def FAB_BTREE_CHILD : Fld := ⟨0x50050, 1, 4, 0, 0⟩
def FAB_BTREE_PARENT : Fld := ⟨0x50050, 5, 3, 0, 0⟩
def FAB_BTREE_VALID : Fld := ⟨0x50050, 8, 1, 0, 0⟩
def FAB_BTREE : Fld := ⟨0x50050, 0, 32, 0, 0⟩
/-! FAB_RT: 12_on_panel_fabric.md R306, 8 bits. -/
def FAB_RT (i : Nat) : Fld := ⟨0x51000 + 0x1 * i, 0, 8, 0, 0⟩
/-! FAB_TRACE: 12_on_panel_fabric.md R312, 32 bits. -/
def FAB_TRACE_IN (i : Nat) : Fld := ⟨0x52000 + 0x4 * i, 0, 6, 0, 0⟩
def FAB_TRACE_OUT0 (i : Nat) : Fld := ⟨0x52000 + 0x4 * i, 6, 6, 0, 0⟩
def FAB_TRACE_OUT0_V (i : Nat) : Fld := ⟨0x52000 + 0x4 * i, 12, 1, 0, 0⟩
def FAB_TRACE_OUT1 (i : Nat) : Fld := ⟨0x52000 + 0x4 * i, 13, 6, 0, 0⟩
def FAB_TRACE_OUT1_V (i : Nat) : Fld := ⟨0x52000 + 0x4 * i, 19, 1, 0, 0⟩
def FAB_TRACE_DELIVER (i : Nat) : Fld := ⟨0x52000 + 0x4 * i, 20, 4, 0, 0⟩
def FAB_TRACE_REGION (i : Nat) : Fld := ⟨0x52000 + 0x4 * i, 24, 4, 0, 0⟩
def FAB_TRACE_VALID (i : Nat) : Fld := ⟨0x52000 + 0x4 * i, 28, 1, 0, 0⟩
def FAB_TRACE (i : Nat) : Fld := ⟨0x52000 + 0x4 * i, 0, 32, 0, 0⟩
/-! GAL_CTRL: 11_external_memory_galleys.md R262, 32 bits. -/
def GAL_CTRL_CRC_INJECT : Fld := ⟨0x60000, 0, 1, 0, 0⟩
def GAL_CTRL_INJ_CL : Fld := ⟨0x60000, 1, 2, 0, 0⟩
def GAL_CTRL : Fld := ⟨0x60000, 0, 32, 0, 0⟩
/-! GAL_TIMEOUT: 11_external_memory_galleys.md R278, 32 bits. -/
def GAL_TIMEOUT : Fld := ⟨0x60004, 0, 10, 5, 1000⟩
/-! GAL_TIMEOUT_HOST: 11_external_memory_galleys.md R278, 32 bits. -/
def GAL_TIMEOUT_HOST : Fld := ⟨0x60008, 0, 10, 0, 0⟩
/-! GAL_QUOTA: 11_external_memory_galleys.md R274, 32 bits. -/
def GAL_QUOTA : Fld := ⟨0x6000c, 0, 32, 0, 0⟩
/-! GAL_FAULT: 11_external_memory_galleys.md R7, 32 bits. -/
def GAL_FAULT : Fld := ⟨0x60010, 0, 16, 0, 0⟩
/-! GAL_G_ISSUED: 11_external_memory_galleys.md R270, 32 bits. -/
def GAL_G_ISSUED (i : Nat) : Fld := ⟨0x60040 + 0x20 * i, 0, 32, 0, 0⟩
/-! GAL_G_COMPLETED: 11_external_memory_galleys.md R270, 32 bits. -/
def GAL_G_COMPLETED (i : Nat) : Fld := ⟨0x60044 + 0x20 * i, 0, 32, 0, 0⟩
/-! GAL_G_CURSOR: 11_external_memory_galleys.md R271, 32 bits. -/
def GAL_G_CURSOR (i : Nat) : Fld := ⟨0x60048 + 0x20 * i, 0, 32, 0, 0⟩
/-! GAL_G_FULL: 11_external_memory_galleys.md R269, 32 bits. -/
def GAL_G_FULL (i : Nat) : Fld := ⟨0x6004c + 0x20 * i, 0, 32, 0, 0⟩
/-! GAL_G_QWAIT: 11_external_memory_galleys.md R274, 32 bits. -/
def GAL_G_QWAIT_QWAIT (i : Nat) : Fld := ⟨0x60050 + 0x20 * i, 0, 16, 0, 0⟩
def GAL_G_QWAIT_FOXED (i : Nat) : Fld := ⟨0x60050 + 0x20 * i, 16, 16, 0, 0⟩
def GAL_G_QWAIT (i : Nat) : Fld := ⟨0x60050 + 0x20 * i, 0, 32, 0, 0⟩
/-! GAL_DESC: 11_external_memory_galleys.md R268, 128 bits. -/
def GAL_DESC_BASE (i : Nat) : Fld := ⟨0x60800 + 0x10 * i, 0, 38, 0, 0⟩
def GAL_DESC_LIMIT (i : Nat) : Fld := ⟨0x60800 + 0x10 * i, 38, 32, 0, 0⟩
def GAL_DESC_KIND (i : Nat) : Fld := ⟨0x60800 + 0x10 * i, 70, 1, 0, 0⟩
def GAL_DESC_TRACE (i : Nat) : Fld := ⟨0x60800 + 0x10 * i, 71, 8, 0, 0⟩
def GAL_DESC_VALID (i : Nat) : Fld := ⟨0x60800 + 0x10 * i, 79, 1, 0, 0⟩
def GAL_DESC (i : Nat) : Fld := ⟨0x60800 + 0x10 * i, 0, 128, 0, 0⟩
/-! GAL_MD_STATUS: 11_external_memory_galleys.md R274, 32 bits. -/
def GAL_MD_STATUS_SLOTS : Fld := ⟨0x61000, 0, 12, 0, 0⟩
def GAL_MD_STATUS_WBUF : Fld := ⟨0x61000, 12, 11, 0, 0⟩
def GAL_MD_STATUS_REBUILD : Fld := ⟨0x61000, 23, 1, 0, 0⟩
def GAL_MD_STATUS : Fld := ⟨0x61000, 0, 32, 0, 0⟩
/-! GAL_CH_LECC: 11_external_memory_galleys.md R279, 32 bits. -/
def GAL_CH_LECC (i : Nat) : Fld := ⟨0x61100 + 0x20 * i, 0, 32, 0, 0⟩
/-! GAL_CH_RETRY: 11_external_memory_galleys.md R279, 32 bits. -/
def GAL_CH_RETRY (i : Nat) : Fld := ⟨0x61104 + 0x20 * i, 0, 32, 0, 0⟩
/-! GAL_CH_CRC: 11_external_memory_galleys.md R279, 32 bits. -/
def GAL_CH_CRC (i : Nat) : Fld := ⟨0x61108 + 0x20 * i, 0, 32, 0, 0⟩
/-! GAL_CH_ODECC: 11_external_memory_galleys.md R261, 32 bits. -/
def GAL_CH_ODECC (i : Nat) : Fld := ⟨0x6110c + 0x20 * i, 0, 32, 0, 0⟩
/-! GAL_CH_REFCOL: 11_external_memory_galleys.md R261, 32 bits. -/
def GAL_CH_REFCOL (i : Nat) : Fld := ⟨0x61110 + 0x20 * i, 0, 32, 0, 0⟩
/-! GAL_CH_FOXRD: 11_external_memory_galleys.md R281, 32 bits. -/
def GAL_CH_FOXRD (i : Nat) : Fld := ⟨0x61114 + 0x20 * i, 0, 32, 0, 0⟩
/-! GAL_CH_TEMP: 11_external_memory_galleys.md R261, 32 bits. -/
def GAL_CH_TEMP (i : Nat) : Fld := ⟨0x61118 + 0x20 * i, 0, 32, 0, 0⟩
/-! GAL_SO_LAG: 11_external_memory_galleys.md R286, 32 bits. -/
def GAL_SO_LAG (i : Nat) : Fld := ⟨0x61200 + 0x4 * i, 0, 32, 0, 0⟩
/-! GAL_SO_CTRL: 11_external_memory_galleys.md R289, 32 bits. -/
def GAL_SO_CTRL_SHARD : Fld := ⟨0x62000, 0, 6, 0, 0⟩
def GAL_SO_CTRL_RESYNC : Fld := ⟨0x62000, 6, 1, 0, 0⟩
def GAL_SO_CTRL : Fld := ⟨0x62000, 0, 32, 0, 0⟩
/-! GAL_SO_ACK_WAIT: 11_external_memory_galleys.md R287, 32 bits. -/
def GAL_SO_ACK_WAIT : Fld := ⟨0x62004, 0, 16, 0, 1000⟩
/-! GAL_SO_UNMIRRORED: 11_external_memory_galleys.md R286, 64 bits. -/
def GAL_SO_UNMIRRORED : Fld := ⟨0x62008, 0, 64, 0, 0⟩
/-! GAL_SO_ACKED: 11_external_memory_galleys.md R287, 32 bits. -/
def GAL_SO_ACKED (i : Nat) : Fld := ⟨0x62100 + 0x4 * i, 0, 32, 0, 0⟩
/-! SPR_CTRL: 10_scratchpad_sram.md R258, 32 bits. -/
def SPR_CTRL_SCRUB : Fld := ⟨0x70000, 0, 1, 0, 0⟩
def SPR_CTRL_PAR_INJECT : Fld := ⟨0x70000, 1, 1, 0, 0⟩
def SPR_CTRL_INJ_CL : Fld := ⟨0x70000, 2, 2, 0, 0⟩
def SPR_CTRL_PAR_LIMIT : Fld := ⟨0x70000, 4, 12, 0, 0⟩
def SPR_CTRL : Fld := ⟨0x70000, 0, 32, 0, 0⟩
/-! SPR_STATUS: 10_scratchpad_sram.md R248, 32 bits. -/
def SPR_STATUS_COPY_BUSY : Fld := ⟨0x70004, 0, 4, 0, 0⟩
def SPR_STATUS_FILLING : Fld := ⟨0x70004, 4, 4, 0, 0⟩
def SPR_STATUS : Fld := ⟨0x70004, 0, 32, 0, 0⟩
/-! SPR_FAULT: 10_scratchpad_sram.md R7, 32 bits. -/
def SPR_FAULT : Fld := ⟨0x70008, 0, 16, 0, 0⟩
/-! SPR_PAR_LOG: 10_scratchpad_sram.md R257, 64 bits. -/
def SPR_PAR_LOG_ROW : Fld := ⟨0x70010, 0, 21, 0, 0⟩
def SPR_PAR_LOG_CLUSTER : Fld := ⟨0x70010, 21, 2, 0, 0⟩
def SPR_PAR_LOG_MASK : Fld := ⟨0x70010, 23, 8, 0, 0⟩
def SPR_PAR_LOG_CYCLE : Fld := ⟨0x70010, 32, 32, 0, 0⟩
def SPR_PAR_LOG : Fld := ⟨0x70010, 0, 64, 0, 0⟩
/-! SPR_SB_USED: 10_scratchpad_sram.md R254, 32 bits. -/
def SPR_SB_USED : Fld := ⟨0x70018, 0, 32, 0, 0⟩
/-! SPR_C_BANK_HOLD: 10_scratchpad_sram.md R243, 32 bits. -/
def SPR_C_BANK_HOLD (i : Nat) : Fld := ⟨0x70040 + 0x20 * i, 0, 32, 0, 0⟩
/-! SPR_C_SB_HOLD: 10_scratchpad_sram.md R255, 32 bits. -/
def SPR_C_SB_HOLD (i : Nat) : Fld := ⟨0x70044 + 0x20 * i, 0, 32, 0, 0⟩
/-! SPR_C_SB_FULL: 10_scratchpad_sram.md R255, 32 bits. -/
def SPR_C_SB_FULL (i : Nat) : Fld := ⟨0x70048 + 0x20 * i, 0, 32, 0, 0⟩
/-! SPR_C_PAR: 10_scratchpad_sram.md R257, 32 bits. -/
def SPR_C_PAR (i : Nat) : Fld := ⟨0x7004c + 0x20 * i, 0, 32, 0, 0⟩
/-! SPR_C_NAN_SQUASH: 10_scratchpad_sram.md R246, 32 bits. -/
def SPR_C_NAN_SQUASH (i : Nat) : Fld := ⟨0x70050 + 0x20 * i, 0, 32, 0, 0⟩
/-! SPR_C_REJECT: 10_scratchpad_sram.md R252, 32 bits. -/
def SPR_C_REJECT (i : Nat) : Fld := ⟨0x70054 + 0x20 * i, 0, 32, 0, 0⟩
/-! SPR_C_LANDED: 10_scratchpad_sram.md R252, 32 bits. -/
def SPR_C_LANDED (i : Nat) : Fld := ⟨0x70058 + 0x20 * i, 0, 32, 0, 0⟩
/-! SPR_WIN: 10_scratchpad_sram.md R250, 128 bits. -/
def SPR_WIN_BASE (i j : Nat) : Fld := ⟨0x70800 + 0x200 * i + 0x10 * j, 0, 21, 0, 0⟩
def SPR_WIN_LENGTH (i j : Nat) : Fld := ⟨0x70800 + 0x200 * i + 0x10 * j, 21, 21, 0, 0⟩
def SPR_WIN_SRC_SITE (i j : Nat) : Fld := ⟨0x70800 + 0x200 * i + 0x10 * j, 42, 9, 0, 0⟩
def SPR_WIN_SRC_ANY (i j : Nat) : Fld := ⟨0x70800 + 0x200 * i + 0x10 * j, 51, 1, 0, 0⟩
def SPR_WIN_SRC_CL (i j : Nat) : Fld := ⟨0x70800 + 0x200 * i + 0x10 * j, 52, 2, 0, 0⟩
def SPR_WIN_CL_ANY (i j : Nat) : Fld := ⟨0x70800 + 0x200 * i + 0x10 * j, 54, 1, 0, 0⟩
def SPR_WIN_SIG_IDX (i j : Nat) : Fld := ⟨0x70800 + 0x200 * i + 0x10 * j, 55, 8, 0, 0⟩
def SPR_WIN_SIG_EN (i j : Nat) : Fld := ⟨0x70800 + 0x200 * i + 0x10 * j, 63, 1, 0, 0⟩
def SPR_WIN_EXPECT (i j : Nat) : Fld := ⟨0x70800 + 0x200 * i + 0x10 * j, 64, 21, 0, 0⟩
def SPR_WIN_VALID (i j : Nat) : Fld := ⟨0x70800 + 0x200 * i + 0x10 * j, 85, 1, 0, 0⟩
def SPR_WIN (i j : Nat) : Fld := ⟨0x70800 + 0x200 * i + 0x10 * j, 0, 128, 0, 0⟩
/-! SPR_WSTATE: 10_scratchpad_sram.md R251, 32 bits. -/
def SPR_WSTATE_LANDED (i j : Nat) : Fld := ⟨0x71000 + 0x80 * i + 0x4 * j, 0, 21, 0, 0⟩
def SPR_WSTATE_OPEN (i j : Nat) : Fld := ⟨0x71000 + 0x80 * i + 0x4 * j, 21, 1, 0, 0⟩
def SPR_WSTATE (i j : Nat) : Fld := ⟨0x71000 + 0x80 * i + 0x4 * j, 0, 32, 0, 0⟩
/-! SPR_CDESC: 10_scratchpad_sram.md R247, 256 bits. -/
def SPR_CDESC_SRC (i : Nat) : Fld := ⟨0x71200 + 0x20 * i, 0, 21, 0, 0⟩
def SPR_CDESC_SSTRIDE (i : Nat) : Fld := ⟨0x71200 + 0x20 * i, 21, 12, 0, 0⟩
def SPR_CDESC_VADDR (i : Nat) : Fld := ⟨0x71200 + 0x20 * i, 33, 21, 0, 0⟩
def SPR_CDESC_VSTRIDE (i : Nat) : Fld := ⟨0x71200 + 0x20 * i, 54, 12, 0, 0⟩
def SPR_CDESC_MADDR (i : Nat) : Fld := ⟨0x71200 + 0x20 * i, 66, 21, 0, 0⟩
def SPR_CDESC_SADDR (i : Nat) : Fld := ⟨0x71200 + 0x20 * i, 87, 21, 0, 0⟩
def SPR_CDESC_HADDR (i : Nat) : Fld := ⟨0x71200 + 0x20 * i, 108, 21, 0, 0⟩
def SPR_CDESC_HSTRIDE (i : Nat) : Fld := ⟨0x71200 + 0x20 * i, 129, 12, 0, 0⟩
def SPR_CDESC_TADDR (i : Nat) : Fld := ⟨0x71200 + 0x20 * i, 141, 21, 0, 0⟩
def SPR_CDESC_TMADDR (i : Nat) : Fld := ⟨0x71200 + 0x20 * i, 162, 21, 0, 0⟩
def SPR_CDESC_TSADDR (i : Nat) : Fld := ⟨0x71200 + 0x20 * i, 183, 21, 0, 0⟩
def SPR_CDESC_KLEN_M1 (i : Nat) : Fld := ⟨0x71200 + 0x20 * i, 204, 8, 0, 0⟩
def SPR_CDESC_NLEN_M1 (i : Nat) : Fld := ⟨0x71200 + 0x20 * i, 212, 8, 0, 0⟩
def SPR_CDESC_PAT (i : Nat) : Fld := ⟨0x71200 + 0x20 * i, 220, 3, 0, 0⟩
def SPR_CDESC_MODE (i : Nat) : Fld := ⟨0x71200 + 0x20 * i, 223, 1, 0, 0⟩
def SPR_CDESC_FMT (i : Nat) : Fld := ⟨0x71200 + 0x20 * i, 224, 4, 0, 0⟩
def SPR_CDESC_STYPE (i : Nat) : Fld := ⟨0x71200 + 0x20 * i, 228, 2, 0, 0⟩
def SPR_CDESC_SHADOW (i : Nat) : Fld := ⟨0x71200 + 0x20 * i, 230, 1, 0, 0⟩
def SPR_CDESC_TWIN (i : Nat) : Fld := ⟨0x71200 + 0x20 * i, 231, 1, 0, 0⟩
def SPR_CDESC_VALID (i : Nat) : Fld := ⟨0x71200 + 0x20 * i, 232, 1, 0, 0⟩
def SPR_CDESC_TSTRIDE (i : Nat) : Fld := ⟨0x71200 + 0x20 * i, 233, 12, 0, 0⟩
def SPR_CDESC (i : Nat) : Fld := ⟨0x71200 + 0x20 * i, 0, 256, 0, 0⟩
/-! JUS_STATUS: 09_conditional_computation.md R219, 32 bits. -/
def JUS_STATUS_GATE_BUSY : Fld := ⟨0x80000, 0, 1, 0, 0⟩
def JUS_STATUS_JUST_BUSY : Fld := ⟨0x80000, 1, 1, 0, 0⟩
def JUS_STATUS_MERGE_BUSY : Fld := ⟨0x80000, 2, 1, 0, 0⟩
def JUS_STATUS_PORT_BUSY : Fld := ⟨0x80000, 3, 4, 0, 0⟩
def JUS_STATUS : Fld := ⟨0x80000, 0, 32, 0, 0⟩
/-! JUS_FAULT: 09_conditional_computation.md R221, 64 bits. -/
def JUS_FAULT_CODE : Fld := ⟨0x80008, 0, 16, 0, 0⟩
def JUS_FAULT_INDEX : Fld := ⟨0x80008, 16, 4, 0, 0⟩
def JUS_FAULT_CYCLE : Fld := ⟨0x80008, 32, 32, 0, 0⟩
def JUS_FAULT : Fld := ⟨0x80008, 0, 64, 0, 0⟩
/-! JUS_GATE_LAST: 09_conditional_computation.md R232, 64 bits. -/
def JUS_GATE_LAST_SERVED : Fld := ⟨0x80010, 0, 16, 0, 0⟩
def JUS_GATE_LAST_CARRIED : Fld := ⟨0x80010, 16, 16, 0, 0⟩
def JUS_GATE_LAST_RESIDUAL : Fld := ⟨0x80010, 32, 16, 0, 0⟩
def JUS_GATE_LAST_FOXED : Fld := ⟨0x80010, 48, 16, 0, 0⟩
def JUS_GATE_LAST : Fld := ⟨0x80010, 0, 64, 0, 0⟩
/-! JUS_JUST_LAST: 09_conditional_computation.md R234, 64 bits. -/
def JUS_JUST_LAST_WRITTEN : Fld := ⟨0x80018, 0, 32, 0, 0⟩
def JUS_JUST_LAST_DROPPED : Fld := ⟨0x80018, 32, 32, 0, 0⟩
def JUS_JUST_LAST : Fld := ⟨0x80018, 0, 64, 0, 0⟩
/-! JUS_MERGE_LAST: 09_conditional_computation.md R235, 32 bits. -/
def JUS_MERGE_LAST : Fld := ⟨0x80020, 0, 32, 0, 0⟩
/-! JUS_GATE: 09_conditional_computation.md R225, 64 bits. -/
def JUS_GATE_E_M1 (i : Nat) : Fld := ⟨0x80100 + 0x8 * i, 0, 10, 0, 0⟩
def JUS_GATE_K (i : Nat) : Fld := ⟨0x80100 + 0x8 * i, 10, 4, 0, 0⟩
def JUS_GATE_ETAB (i : Nat) : Fld := ⟨0x80100 + 0x8 * i, 14, 14, 0, 0⟩
def JUS_GATE_S (i : Nat) : Fld := ⟨0x80100 + 0x8 * i, 28, 15, 0, 0⟩
def JUS_GATE_CQ (i : Nat) : Fld := ⟨0x80100 + 0x8 * i, 43, 11, 0, 0⟩
def JUS_GATE_CARRY_MAX (i : Nat) : Fld := ⟨0x80100 + 0x8 * i, 54, 2, 0, 0⟩
def JUS_GATE_POLICY (i : Nat) : Fld := ⟨0x80100 + 0x8 * i, 56, 1, 0, 0⟩
def JUS_GATE_WMODE (i : Nat) : Fld := ⟨0x80100 + 0x8 * i, 57, 1, 0, 0⟩
def JUS_GATE_CL (i : Nat) : Fld := ⟨0x80100 + 0x8 * i, 58, 2, 0, 0⟩
def JUS_GATE_VALID (i : Nat) : Fld := ⟨0x80100 + 0x8 * i, 60, 1, 0, 0⟩
def JUS_GATE (i : Nat) : Fld := ⟨0x80100 + 0x8 * i, 0, 64, 0, 0⟩
/-! JUS_JDESC: 09_conditional_computation.md R233, 128 bits. -/
def JUS_JDESC_ICLM (i : Nat) : Fld := ⟨0x80200 + 0x10 * i, 0, 4, 0, 0⟩
def JUS_JDESC_OCLM (i : Nat) : Fld := ⟨0x80200 + 0x10 * i, 4, 4, 0, 0⟩
def JUS_JDESC_RLEN_M1 (i : Nat) : Fld := ⟨0x80200 + 0x10 * i, 8, 6, 0, 0⟩
def JUS_JDESC_ORDER (i : Nat) : Fld := ⟨0x80200 + 0x10 * i, 14, 1, 0, 0⟩
def JUS_JDESC_VALID (i : Nat) : Fld := ⟨0x80200 + 0x10 * i, 15, 1, 0, 0⟩
def JUS_JDESC_ICAP (i : Nat) : Fld := ⟨0x80200 + 0x10 * i, 16, 13, 0, 0⟩
def JUS_JDESC_OCAP (i : Nat) : Fld := ⟨0x80200 + 0x10 * i, 29, 13, 0, 0⟩
def JUS_JDESC_IADDR (i : Nat) : Fld := ⟨0x80200 + 0x10 * i, 42, 21, 0, 0⟩
def JUS_JDESC_OADDR (i : Nat) : Fld := ⟨0x80200 + 0x10 * i, 63, 21, 0, 0⟩
def JUS_JDESC (i : Nat) : Fld := ⟨0x80200 + 0x10 * i, 0, 128, 0, 0⟩
/-! JUS_MDESC: 09_conditional_computation.md R235, 256 bits. -/
def JUS_MDESC_CL (i : Nat) : Fld := ⟨0x80400 + 0x20 * i, 0, 2, 0, 0⟩
def JUS_MDESC_NIN (i : Nat) : Fld := ⟨0x80400 + 0x20 * i, 2, 3, 0, 0⟩
def JUS_MDESC_RLEN_M1 (i : Nat) : Fld := ⟨0x80400 + 0x20 * i, 5, 6, 0, 0⟩
def JUS_MDESC_VFMT (i : Nat) : Fld := ⟨0x80400 + 0x20 * i, 11, 4, 0, 0⟩
def JUS_MDESC_COMBINE (i : Nat) : Fld := ⟨0x80400 + 0x20 * i, 15, 1, 0, 0⟩
def JUS_MDESC_VALID (i : Nat) : Fld := ⟨0x80400 + 0x20 * i, 16, 1, 0, 0⟩
def JUS_MDESC_OCAP (i : Nat) : Fld := ⟨0x80400 + 0x20 * i, 17, 15, 0, 0⟩
def JUS_MDESC_OADDR (i : Nat) : Fld := ⟨0x80400 + 0x20 * i, 32, 21, 0, 0⟩
def JUS_MDESC_ICAP0 (i : Nat) : Fld := ⟨0x80400 + 0x20 * i, 64, 13, 0, 0⟩
def JUS_MDESC_IADDR0 (i : Nat) : Fld := ⟨0x80400 + 0x20 * i, 77, 21, 0, 0⟩
def JUS_MDESC_ICAP1 (i : Nat) : Fld := ⟨0x80400 + 0x20 * i, 98, 13, 0, 0⟩
def JUS_MDESC_IADDR1 (i : Nat) : Fld := ⟨0x80400 + 0x20 * i, 111, 21, 0, 0⟩
def JUS_MDESC_ICAP2 (i : Nat) : Fld := ⟨0x80400 + 0x20 * i, 132, 13, 0, 0⟩
def JUS_MDESC_IADDR2 (i : Nat) : Fld := ⟨0x80400 + 0x20 * i, 145, 21, 0, 0⟩
def JUS_MDESC_ICAP3 (i : Nat) : Fld := ⟨0x80400 + 0x20 * i, 166, 13, 0, 0⟩
def JUS_MDESC_IADDR3 (i : Nat) : Fld := ⟨0x80400 + 0x20 * i, 179, 21, 0, 0⟩
def JUS_MDESC (i : Nat) : Fld := ⟨0x80400 + 0x20 * i, 0, 256, 0, 0⟩
/-! JUS_ETAB: 09_conditional_computation.md R225, 32 bits. -/
def JUS_ETAB_BASE (i : Nat) : Fld := ⟨0x90000 + 0x4 * i, 0, 14, 0, 0⟩
def JUS_ETAB_SHARE (i : Nat) : Fld := ⟨0x90000 + 0x4 * i, 14, 12, 0, 0⟩
def JUS_ETAB_ENABLED (i : Nat) : Fld := ⟨0x90000 + 0x4 * i, 26, 1, 0, 0⟩
def JUS_ETAB (i : Nat) : Fld := ⟨0x90000 + 0x4 * i, 0, 32, 0, 0⟩
/-! ERR_CTRL: 18_silent_errors_and_containment.md R431, 32 bits. -/
def ERR_CTRL_RP_EN : Fld := ⟨0xa0000, 0, 1, 0, 0⟩
def ERR_CTRL_RP_INJECT : Fld := ⟨0xa0000, 1, 1, 0, 0⟩
def ERR_CTRL : Fld := ⟨0xa0000, 0, 32, 0, 0⟩
/-! ERR_STATUS: 18_silent_errors_and_containment.md R423, 32 bits. -/
def ERR_STATUS_OPEN : Fld := ⟨0xa0004, 0, 5, 0, 0⟩
def ERR_STATUS_RSV_BUSY : Fld := ⟨0xa0004, 5, 4, 0, 0⟩
def ERR_STATUS_LOG_OVF : Fld := ⟨0xa0004, 16, 16, 0, 0⟩
def ERR_STATUS : Fld := ⟨0xa0004, 0, 32, 0, 0⟩
/-! ERR_FAULT: 18_silent_errors_and_containment.md R7, 32 bits. -/
def ERR_FAULT : Fld := ⟨0xa0008, 0, 16, 0, 0⟩
/-! ERR_MARK_LAST: 18_silent_errors_and_containment.md R432, 32 bits. -/
def ERR_MARK_LAST_CONFIRMED : Fld := ⟨0xa000c, 0, 8, 0, 0⟩
def ERR_MARK_LAST_CORRECTED : Fld := ⟨0xa000c, 8, 8, 0, 0⟩
def ERR_MARK_LAST_LEFT_OPEN : Fld := ⟨0xa000c, 16, 8, 0, 0⟩
def ERR_MARK_LAST_FOX : Fld := ⟨0xa000c, 24, 8, 0, 0⟩
def ERR_MARK_LAST : Fld := ⟨0xa000c, 0, 32, 0, 0⟩
/-! ERR_RP_CFG: 18_silent_errors_and_containment.md R431, 32 bits. -/
def ERR_RP_CFG_TIMEOUT : Fld := ⟨0xa0010, 0, 8, 5, 200⟩
def ERR_RP_CFG : Fld := ⟨0xa0010, 0, 32, 0, 0⟩
/-! ERR_RSV: 18_silent_errors_and_containment.md R430, 32 bits. -/
def ERR_RSV_SITE (i : Nat) : Fld := ⟨0xa0020 + 0x4 * i, 0, 9, 0, 0⟩
def ERR_RSV_CLUSTERS (i : Nat) : Fld := ⟨0xa0020 + 0x4 * i, 9, 4, 0, 0⟩
def ERR_RSV_VALID (i : Nat) : Fld := ⟨0xa0020 + 0x4 * i, 13, 1, 0, 0⟩
def ERR_RSV (i : Nat) : Fld := ⟨0xa0020 + 0x4 * i, 0, 32, 0, 0⟩
/-! ERR_RP: 18_silent_errors_and_containment.md R431, 128 bits. -/
def ERR_RP_STATE (i : Nat) : Fld := ⟨0xa0040 + 0x10 * i, 0, 3, 0, 0⟩
def ERR_RP_ROLE (i : Nat) : Fld := ⟨0xa0040 + 0x10 * i, 3, 1, 0, 0⟩
def ERR_RP_PEER (i : Nat) : Fld := ⟨0xa0040 + 0x10 * i, 4, 9, 0, 0⟩
def ERR_RP_CLUSTER (i : Nat) : Fld := ⟨0xa0040 + 0x10 * i, 13, 2, 0, 0⟩
def ERR_RP_ENGINE (i : Nat) : Fld := ⟨0xa0040 + 0x10 * i, 15, 1, 0, 0⟩
def ERR_RP_ROW (i : Nat) : Fld := ⟨0xa0040 + 0x10 * i, 16, 9, 0, 0⟩
def ERR_RP_COUNT (i : Nat) : Fld := ⟨0xa0040 + 0x10 * i, 25, 9, 0, 0⟩
def ERR_RP_TOUCHED (i : Nat) : Fld := ⟨0xa0040 + 0x10 * i, 34, 1, 0, 0⟩
def ERR_RP_CYCLE (i : Nat) : Fld := ⟨0xa0040 + 0x10 * i, 64, 32, 0, 0⟩
def ERR_RP (i : Nat) : Fld := ⟨0xa0040 + 0x10 * i, 0, 128, 0, 0⟩
/-! ERR_HB_CFG: 18_silent_errors_and_containment.md R443, 32 bits. -/
def ERR_HB_CFG_MISS : Fld := ⟨0xa0100, 0, 4, 2, 15⟩
def ERR_HB_CFG_SETTLE : Fld := ⟨0xa0100, 8, 8, 20, 255⟩
def ERR_HB_CFG : Fld := ⟨0xa0100, 0, 32, 0, 0⟩
/-! ERR_LA_CFG: 18_silent_errors_and_containment.md R426, 32 bits. -/
def ERR_LA_CFG_LA_LIMIT : Fld := ⟨0xa0104, 0, 16, 0, 0⟩
def ERR_LA_CFG_WINDOW : Fld := ⟨0xa0104, 16, 16, 0, 0⟩
def ERR_LA_CFG : Fld := ⟨0xa0104, 0, 32, 0, 0⟩
/-! ERR_ML_CFG: 18_silent_errors_and_containment.md R427, 32 bits. -/
def ERR_ML_CFG_ML_LIMIT : Fld := ⟨0xa0108, 0, 8, 0, 0⟩
def ERR_ML_CFG : Fld := ⟨0xa0108, 0, 32, 0, 0⟩
/-! ERR_LOST: 18_silent_errors_and_containment.md R444, 64 bits. -/
def ERR_LOST_SITE : Fld := ⟨0xa0110, 0, 9, 0, 0⟩
def ERR_LOST_CAUSE : Fld := ⟨0xa0110, 9, 3, 0, 0⟩
def ERR_LOST_TIME : Fld := ⟨0xa0110, 16, 48, 0, 0⟩
def ERR_LOST : Fld := ⟨0xa0110, 0, 64, 0, 0⟩
/-! ERR_R_CFG: 18_silent_errors_and_containment.md R425, 32 bits. -/
def ERR_R_CFG_OPEN_SHEETS (i : Nat) : Fld := ⟨0xa0200 + 0x10 * i, 0, 4, 0, 0⟩
def ERR_R_CFG_ABORT_LIMIT (i : Nat) : Fld := ⟨0xa0200 + 0x10 * i, 4, 4, 1, 15⟩
def ERR_R_CFG_REPEAT (i : Nat) : Fld := ⟨0xa0200 + 0x10 * i, 8, 4, 1, 15⟩
def ERR_R_CFG_ACCEPT (i : Nat) : Fld := ⟨0xa0200 + 0x10 * i, 12, 1, 0, 0⟩
def ERR_R_CFG (i : Nat) : Fld := ⟨0xa0200 + 0x10 * i, 0, 32, 0, 0⟩
/-! ERR_R_STATE: 18_silent_errors_and_containment.md R425, 32 bits. -/
def ERR_R_STATE_OPEN (i : Nat) : Fld := ⟨0xa0204 + 0x10 * i, 0, 8, 0, 0⟩
def ERR_R_STATE_FOX (i : Nat) : Fld := ⟨0xa0204 + 0x10 * i, 8, 8, 0, 0⟩
def ERR_R_STATE_ABORTS (i : Nat) : Fld := ⟨0xa0204 + 0x10 * i, 16, 4, 0, 0⟩
def ERR_R_STATE_SKIPPED (i : Nat) : Fld := ⟨0xa0204 + 0x10 * i, 20, 4, 0, 0⟩
def ERR_R_STATE (i : Nat) : Fld := ⟨0xa0204 + 0x10 * i, 0, 32, 0, 0⟩
/-! ERR_R_COUNT: 18_silent_errors_and_containment.md R440, 32 bits. -/
def ERR_R_COUNT_CORRECTIONS (i : Nat) : Fld := ⟨0xa0208 + 0x10 * i, 0, 16, 0, 0⟩
def ERR_R_COUNT_RESTARTS (i : Nat) : Fld := ⟨0xa0208 + 0x10 * i, 16, 16, 0, 0⟩
def ERR_R_COUNT (i : Nat) : Fld := ⟨0xa0208 + 0x10 * i, 0, 32, 0, 0⟩
/-! ERR_R_LAST: 18_silent_errors_and_containment.md R440, 32 bits. -/
def ERR_R_LAST_CODE (i : Nat) : Fld := ⟨0xa020c + 0x10 * i, 0, 16, 0, 0⟩
def ERR_R_LAST_STROKE (i : Nat) : Fld := ⟨0xa020c + 0x10 * i, 16, 16, 0, 0⟩
def ERR_R_LAST (i : Nat) : Fld := ⟨0xa020c + 0x10 * i, 0, 32, 0, 0⟩
/-! ERR_SUSPECT: 18_silent_errors_and_containment.md R426, 16 bits. -/
def ERR_SUSPECT_SYNC (i : Nat) : Fld := ⟨0xa1000 + 0x2 * i, 0, 1, 0, 0⟩
def ERR_SUSPECT_MARGIN (i : Nat) : Fld := ⟨0xa1000 + 0x2 * i, 1, 1, 0, 0⟩
def ERR_SUSPECT_REPEAT (i : Nat) : Fld := ⟨0xa1000 + 0x2 * i, 2, 1, 0, 0⟩
def ERR_SUSPECT_CORRECTIONS (i : Nat) : Fld := ⟨0xa1000 + 0x2 * i, 3, 13, 0, 0⟩
def ERR_SUSPECT (i : Nat) : Fld := ⟨0xa1000 + 0x2 * i, 0, 16, 0, 0⟩
/-! ERR_PASSLOG: 18_silent_errors_and_containment.md R428, 256 bits. -/
def ERR_PASSLOG_WORD (i j : Nat) : Fld := ⟨0xa4000 + 0x400 * i + 0x20 * j, 0, 64, 0, 0⟩
def ERR_PASSLOG_XIMM (i j : Nat) : Fld := ⟨0xa4000 + 0x400 * i + 0x20 * j, 64, 64, 0, 0⟩
def ERR_PASSLOG_CRC (i j : Nat) : Fld := ⟨0xa4000 + 0x400 * i + 0x20 * j, 128, 32, 0, 0⟩
def ERR_PASSLOG_CYCLE (i j : Nat) : Fld := ⟨0xa4000 + 0x400 * i + 0x20 * j, 160, 32, 0, 0⟩
def ERR_PASSLOG_LOAD (i j : Nat) : Fld := ⟨0xa4000 + 0x400 * i + 0x20 * j, 192, 1, 0, 0⟩
def ERR_PASSLOG_FOXREAD (i j : Nat) : Fld := ⟨0xa4000 + 0x400 * i + 0x20 * j, 193, 1, 0, 0⟩
def ERR_PASSLOG (i j : Nat) : Fld := ⟨0xa4000 + 0x400 * i + 0x20 * j, 0, 256, 0, 0⟩
/-! DEN_CTRL: 07_dense_engine.md R192, 32 bits. -/
def DEN_CTRL_INJECT : Fld := ⟨0xa8000, 0, 1, 0, 0⟩
def DEN_CTRL_INJ_CL : Fld := ⟨0xa8000, 1, 2, 0, 0⟩
def DEN_CTRL : Fld := ⟨0xa8000, 0, 32, 0, 0⟩
/-! DEN_STATUS: 07_dense_engine.md R184, 32 bits. -/
def DEN_STATUS_DERATED : Fld := ⟨0xa8004, 0, 4, 0, 0⟩
def DEN_STATUS_BANK_READY : Fld := ⟨0xa8004, 4, 8, 0, 0⟩
def DEN_STATUS_STREAMING : Fld := ⟨0xa8004, 12, 4, 0, 0⟩
def DEN_STATUS_DRAINING : Fld := ⟨0xa8004, 16, 4, 0, 0⟩
def DEN_STATUS_BANK_FOXED : Fld := ⟨0xa8004, 20, 4, 0, 0⟩
def DEN_STATUS : Fld := ⟨0xa8004, 0, 32, 0, 0⟩
/-! DEN_CHECK_CFG: 07_dense_engine.md R186, 32 bits. -/
def DEN_CHECK_CFG_TOL_MULT : Fld := ⟨0xa8008, 0, 4, 0, 0⟩
def DEN_CHECK_CFG_CHECK_EN : Fld := ⟨0xa8008, 4, 1, 0, 0⟩
def DEN_CHECK_CFG_NONFINITE_SUSPECT : Fld := ⟨0xa8008, 5, 1, 0, 0⟩
def DEN_CHECK_CFG_SAT_SUSPECT : Fld := ⟨0xa8008, 6, 1, 0, 0⟩
def DEN_CHECK_CFG : Fld := ⟨0xa8008, 0, 32, 0, 0⟩
/-! DEN_FAULT: 07_dense_engine.md R7, 32 bits. -/
def DEN_FAULT : Fld := ⟨0xa800c, 0, 16, 0, 0⟩
/-! DEN_SUSPECT_COUNT: 07_dense_engine.md R189, 32 bits. -/
def DEN_SUSPECT_COUNT : Fld := ⟨0xa8010, 0, 5, 0, 0⟩
/-! DEN_C_ROWS: 07_dense_engine.md R183, 32 bits. -/
def DEN_C_ROWS (i : Nat) : Fld := ⟨0xa8040 + 0x20 * i, 0, 32, 0, 0⟩
/-! DEN_C_CHECKS: 07_dense_engine.md R186, 32 bits. -/
def DEN_C_CHECKS (i : Nat) : Fld := ⟨0xa8044 + 0x20 * i, 0, 32, 0, 0⟩
/-! DEN_C_MISMATCH: 07_dense_engine.md R186, 32 bits. -/
def DEN_C_MISMATCH (i : Nat) : Fld := ⟨0xa8048 + 0x20 * i, 0, 32, 0, 0⟩
/-! DEN_C_BOUND_FAIL: 07_dense_engine.md R188, 32 bits. -/
def DEN_C_BOUND_FAIL (i : Nat) : Fld := ⟨0xa804c + 0x20 * i, 0, 32, 0, 0⟩
/-! DEN_C_SAT: 07_dense_engine.md R187, 32 bits. -/
def DEN_C_SAT (i : Nat) : Fld := ⟨0xa8050 + 0x20 * i, 0, 32, 0, 0⟩
/-! DEN_C_NONFINITE: 07_dense_engine.md R187, 32 bits. -/
def DEN_C_NONFINITE (i : Nat) : Fld := ⟨0xa8054 + 0x20 * i, 0, 32, 0, 0⟩
/-! DEN_C_FOXED: 07_dense_engine.md R190, 32 bits. -/
def DEN_C_FOXED (i : Nat) : Fld := ⟨0xa8058 + 0x20 * i, 0, 32, 0, 0⟩
/-! DEN_BOUND: 07_dense_engine.md R188, 128 bits. -/
def DEN_BOUND_RMAX (i : Nat) : Fld := ⟨0xa8200 + 0x10 * i, 0, 32, 0, 0⟩
def DEN_BOUND_LO (i : Nat) : Fld := ⟨0xa8200 + 0x10 * i, 32, 32, 0, 0⟩
def DEN_BOUND_HI (i : Nat) : Fld := ⟨0xa8200 + 0x10 * i, 64, 32, 0, 0⟩
def DEN_BOUND_ZMAX (i : Nat) : Fld := ⟨0xa8200 + 0x10 * i, 96, 9, 0, 256⟩
def DEN_BOUND_VALID (i : Nat) : Fld := ⟨0xa8200 + 0x10 * i, 105, 1, 0, 0⟩
def DEN_BOUND (i : Nat) : Fld := ⟨0xa8200 + 0x10 * i, 0, 128, 0, 0⟩
/-! DEN_SUSPECT: 07_dense_engine.md R189, 128 bits. -/
def DEN_SUSPECT_CYCLE (i : Nat) : Fld := ⟨0xa8300 + 0x10 * i, 0, 32, 0, 0⟩
def DEN_SUSPECT_ROW (i : Nat) : Fld := ⟨0xa8300 + 0x10 * i, 32, 9, 0, 0⟩
def DEN_SUSPECT_COUNT_FIELD (i : Nat) : Fld := ⟨0xa8300 + 0x10 * i, 41, 9, 0, 0⟩
def DEN_SUSPECT_CLUSTER (i : Nat) : Fld := ⟨0xa8300 + 0x10 * i, 50, 2, 0, 0⟩
def DEN_SUSPECT_CAUSE (i : Nat) : Fld := ⟨0xa8300 + 0x10 * i, 52, 5, 0, 0⟩
def DEN_SUSPECT_INJECTED (i : Nat) : Fld := ⟨0xa8300 + 0x10 * i, 57, 1, 0, 0⟩
def DEN_SUSPECT_STROKE (i : Nat) : Fld := ⟨0xa8300 + 0x10 * i, 64, 32, 0, 0⟩
def DEN_SUSPECT (i : Nat) : Fld := ⟨0xa8300 + 0x10 * i, 0, 128, 0, 0⟩
/-! SPA_CTRL: 08_sparse_engine.md R210, 32 bits. -/
def SPA_CTRL_INJECT : Fld := ⟨0xac000, 0, 1, 0, 0⟩
def SPA_CTRL_INJ_CL : Fld := ⟨0xac000, 1, 2, 0, 0⟩
def SPA_CTRL_META_INJECT : Fld := ⟨0xac000, 3, 1, 0, 0⟩
def SPA_CTRL : Fld := ⟨0xac000, 0, 32, 0, 0⟩
/-! SPA_STATUS: 08_sparse_engine.md R208, 32 bits. -/
def SPA_STATUS_BANK_READY : Fld := ⟨0xac004, 0, 8, 0, 0⟩
def SPA_STATUS_BANK_FAILED : Fld := ⟨0xac004, 8, 8, 0, 0⟩
def SPA_STATUS_BANK_FOXED : Fld := ⟨0xac004, 16, 8, 0, 0⟩
def SPA_STATUS_STREAMING : Fld := ⟨0xac004, 24, 4, 0, 0⟩
def SPA_STATUS_DRAINING : Fld := ⟨0xac004, 28, 4, 0, 0⟩
def SPA_STATUS : Fld := ⟨0xac004, 0, 32, 0, 0⟩
/-! SPA_FAULT: 08_sparse_engine.md R7, 32 bits. -/
def SPA_FAULT : Fld := ⟨0xac008, 0, 16, 0, 0⟩
/-! SPA_SUSPECT_COUNT: 08_sparse_engine.md R210, 32 bits. -/
def SPA_SUSPECT_COUNT : Fld := ⟨0xac00c, 0, 5, 0, 0⟩
/-! SPA_META_FAULT: 08_sparse_engine.md R208, 64 bits. -/
def SPA_META_FAULT_CYCLE : Fld := ⟨0xac010, 0, 32, 0, 0⟩
def SPA_META_FAULT_CLUSTER : Fld := ⟨0xac010, 32, 2, 0, 0⟩
def SPA_META_FAULT_BANK : Fld := ⟨0xac010, 34, 1, 0, 0⟩
def SPA_META_FAULT_COLUMN : Fld := ⟨0xac010, 35, 8, 0, 0⟩
def SPA_META_FAULT_GROUP : Fld := ⟨0xac010, 43, 6, 0, 0⟩
def SPA_META_FAULT_RULE : Fld := ⟨0xac010, 49, 3, 0, 0⟩
def SPA_META_FAULT_INJECTED : Fld := ⟨0xac010, 52, 1, 0, 0⟩
def SPA_META_FAULT : Fld := ⟨0xac010, 0, 64, 0, 0⟩
/-! SPA_C_ROWS: 08_sparse_engine.md R206, 32 bits. -/
def SPA_C_ROWS (i : Nat) : Fld := ⟨0xac040 + 0x20 * i, 0, 32, 0, 0⟩
/-! SPA_C_CHECKS: 08_sparse_engine.md R210, 32 bits. -/
def SPA_C_CHECKS (i : Nat) : Fld := ⟨0xac044 + 0x20 * i, 0, 32, 0, 0⟩
/-! SPA_C_MISMATCH: 08_sparse_engine.md R210, 32 bits. -/
def SPA_C_MISMATCH (i : Nat) : Fld := ⟨0xac048 + 0x20 * i, 0, 32, 0, 0⟩
/-! SPA_C_BOUND_FAIL: 08_sparse_engine.md R210, 32 bits. -/
def SPA_C_BOUND_FAIL (i : Nat) : Fld := ⟨0xac04c + 0x20 * i, 0, 32, 0, 0⟩
/-! SPA_C_META_FAIL: 08_sparse_engine.md R208, 32 bits. -/
def SPA_C_META_FAIL (i : Nat) : Fld := ⟨0xac050 + 0x20 * i, 0, 32, 0, 0⟩
/-! SPA_C_PRUNED: 08_sparse_engine.md R213, 32 bits. -/
def SPA_C_PRUNED (i : Nat) : Fld := ⟨0xac054 + 0x20 * i, 0, 32, 0, 0⟩
/-! SPA_C_FOXED: 08_sparse_engine.md R210, 32 bits. -/
def SPA_C_FOXED (i : Nat) : Fld := ⟨0xac058 + 0x20 * i, 0, 32, 0, 0⟩
/-! SPA_C_NONFIN_SAT: 08_sparse_engine.md R210, 32 bits. -/
def SPA_C_NONFIN_SAT_NONFIN (i : Nat) : Fld := ⟨0xac05c + 0x20 * i, 0, 16, 0, 0⟩
def SPA_C_NONFIN_SAT_SAT (i : Nat) : Fld := ⟨0xac05c + 0x20 * i, 16, 16, 0, 0⟩
def SPA_C_NONFIN_SAT (i : Nat) : Fld := ⟨0xac05c + 0x20 * i, 0, 32, 0, 0⟩
/-! SPA_SUSPECT: 08_sparse_engine.md R210, 128 bits. -/
def SPA_SUSPECT_CYCLE (i : Nat) : Fld := ⟨0xac300 + 0x10 * i, 0, 32, 0, 0⟩
def SPA_SUSPECT_ROW (i : Nat) : Fld := ⟨0xac300 + 0x10 * i, 32, 8, 0, 0⟩
def SPA_SUSPECT_COUNT_FIELD (i : Nat) : Fld := ⟨0xac300 + 0x10 * i, 40, 8, 0, 0⟩
def SPA_SUSPECT_CLUSTER (i : Nat) : Fld := ⟨0xac300 + 0x10 * i, 48, 2, 0, 0⟩
def SPA_SUSPECT_CAUSE (i : Nat) : Fld := ⟨0xac300 + 0x10 * i, 50, 5, 0, 0⟩
def SPA_SUSPECT_INJECTED (i : Nat) : Fld := ⟨0xac300 + 0x10 * i, 55, 1, 0, 0⟩
def SPA_SUSPECT_STROKE (i : Nat) : Fld := ⟨0xac300 + 0x10 * i, 64, 32, 0, 0⟩
def SPA_SUSPECT (i : Nat) : Fld := ⟨0xac300 + 0x10 * i, 0, 128, 0, 0⟩
/-! PWR_CTRL: 19_power_delivery.md R462, 32 bits. -/
def PWR_CTRL_PH_INJECT : Fld := ⟨0xb0000, 0, 1, 0, 0⟩
def PWR_CTRL_INJ_CL : Fld := ⟨0xb0000, 1, 2, 0, 0⟩
def PWR_CTRL : Fld := ⟨0xb0000, 0, 32, 0, 0⟩
/-! PWR_STATUS: 19_power_delivery.md R465, 32 bits. -/
def PWR_STATUS_REG_A_OK : Fld := ⟨0xb0004, 0, 1, 0, 0⟩
def PWR_STATUS_REG_B_OK : Fld := ⟨0xb0004, 1, 1, 0, 0⟩
def PWR_STATUS_IO_A_OK : Fld := ⟨0xb0004, 2, 1, 0, 0⟩
def PWR_STATUS_IO_B_OK : Fld := ⟨0xb0004, 3, 1, 0, 0⟩
def PWR_STATUS_DERATED : Fld := ⟨0xb0004, 4, 4, 0, 0⟩
def PWR_STATUS_SEQ_BUSY : Fld := ⟨0xb0004, 8, 1, 0, 0⟩
def PWR_STATUS : Fld := ⟨0xb0004, 0, 32, 0, 0⟩
/-! PWR_FAULT: 19_power_delivery.md R7, 32 bits. -/
def PWR_FAULT : Fld := ⟨0xb0008, 0, 16, 0, 0⟩
/-! PWR_SEQ_CFG: 19_power_delivery.md R456, 32 bits. -/
def PWR_SEQ_CFG_STAGE_INT : Fld := ⟨0xb000c, 0, 4, 2, 15⟩
def PWR_SEQ_CFG_DEFER_MAX : Fld := ⟨0xb000c, 4, 4, 1, 8⟩
def PWR_SEQ_CFG_CL_RSV : Fld := ⟨0xb000c, 8, 8, 0, 0⟩
def PWR_SEQ_CFG_UNC_RSV : Fld := ⟨0xb000c, 16, 8, 0, 0⟩
def PWR_SEQ_CFG_HEAD_WARN : Fld := ⟨0xb000c, 24, 7, 0, 0⟩
def PWR_SEQ_CFG : Fld := ⟨0xb000c, 0, 32, 0, 0⟩
/-! PWR_TRIM: 19_power_delivery.md R455, 32 bits. -/
def PWR_TRIM : Fld := ⟨0xb0010, 0, 32, 0, 0⟩
/-! PWR_VSET: 19_power_delivery.md R455, 32 bits. -/
def PWR_VSET_VCLUSTER : Fld := ⟨0xb0014, 0, 10, 550, 900⟩
def PWR_VSET : Fld := ⟨0xb0014, 0, 32, 0, 0⟩
/-! PWR_DOM: 19_power_delivery.md R454, 32 bits. -/
def PWR_DOM_STATE (i : Nat) : Fld := ⟨0xb0020 + 0x4 * i, 0, 3, 0, 0⟩
def PWR_DOM_STAGE (i : Nat) : Fld := ⟨0xb0020 + 0x4 * i, 3, 3, 0, 0⟩
def PWR_DOM_DEFERRALS (i : Nat) : Fld := ⟨0xb0020 + 0x4 * i, 6, 4, 0, 0⟩
def PWR_DOM_FORCED (i : Nat) : Fld := ⟨0xb0020 + 0x4 * i, 10, 1, 0, 0⟩
def PWR_DOM_REQ_ON (i : Nat) : Fld := ⟨0xb0020 + 0x4 * i, 11, 1, 0, 0⟩
def PWR_DOM_REQ_OFF (i : Nat) : Fld := ⟨0xb0020 + 0x4 * i, 12, 1, 0, 0⟩
def PWR_DOM (i : Nat) : Fld := ⟨0xb0020 + 0x4 * i, 0, 32, 0, 0⟩
/-! PWR_REG: 19_power_delivery.md R462, 64 bits. -/
def PWR_REG_PHASE_OK (i : Nat) : Fld := ⟨0xb0040 + 0x8 * i, 0, 8, 0, 0⟩
def PWR_REG_LOST (i : Nat) : Fld := ⟨0xb0040 + 0x8 * i, 8, 4, 0, 0⟩
def PWR_REG_PEAK (i : Nat) : Fld := ⟨0xb0040 + 0x8 * i, 16, 12, 0, 0⟩
def PWR_REG_SHARE (i : Nat) : Fld := ⟨0xb0040 + 0x8 * i, 28, 7, 0, 0⟩
def PWR_REG_VOUT (i : Nat) : Fld := ⟨0xb0040 + 0x8 * i, 48, 10, 0, 0⟩
def PWR_REG (i : Nat) : Fld := ⟨0xb0040 + 0x8 * i, 0, 64, 0, 0⟩
/-! PWR_GRP: 19_power_delivery.md R458, 128 bits. -/
def PWR_GRP_LIMIT (i : Nat) : Fld := ⟨0xb1000 + 0x10 * i, 0, 16, 0, 0⟩
def PWR_GRP_PEAK_LAST (i : Nat) : Fld := ⟨0xb1000 + 0x10 * i, 16, 16, 0, 0⟩
def PWR_GRP_RESERVED (i : Nat) : Fld := ⟨0xb1000 + 0x10 * i, 32, 16, 0, 0⟩
def PWR_GRP_NOW (i : Nat) : Fld := ⟨0xb1000 + 0x10 * i, 48, 16, 0, 0⟩
def PWR_GRP_SENSE (i : Nat) : Fld := ⟨0xb1000 + 0x10 * i, 64, 12, 0, 0⟩
def PWR_GRP_LOW (i : Nat) : Fld := ⟨0xb1000 + 0x10 * i, 76, 1, 0, 0⟩
def PWR_GRP (i : Nat) : Fld := ⟨0xb1000 + 0x10 * i, 0, 128, 0, 0⟩
/-! PWR_RAIL: 19_power_delivery.md R458, 64 bits. -/
def PWR_RAIL_CURRENT : Fld := ⟨0xb1800, 0, 16, 0, 0⟩
def PWR_RAIL_LIMIT : Fld := ⟨0xb1800, 16, 16, 0, 0⟩
def PWR_RAIL_PEAK_LAST : Fld := ⟨0xb1800, 32, 16, 0, 0⟩
def PWR_RAIL_RESERVED : Fld := ⟨0xb1800, 48, 16, 0, 0⟩
def PWR_RAIL : Fld := ⟨0xb1800, 0, 64, 0, 0⟩
/-! PWR_RST_CTRL: 21_bring_up_and_reset.md R502, 32 bits. -/
def PWR_RST_CTRL_SCOPE : Fld := ⟨0xb0080, 0, 3, 0, 0⟩
def PWR_RST_CTRL_GO : Fld := ⟨0xb0080, 3, 1, 0, 0⟩
def PWR_RST_CTRL_REGION : Fld := ⟨0xb0080, 4, 4, 0, 0⟩
def PWR_RST_CTRL_SITE : Fld := ⟨0xb0080, 8, 9, 0, 0⟩
def PWR_RST_CTRL_CL : Fld := ⟨0xb0080, 17, 2, 0, 0⟩
def PWR_RST_CTRL : Fld := ⟨0xb0080, 0, 32, 0, 0⟩
/-! PWR_RST_STATUS: 21_bring_up_and_reset.md R502, 32 bits. -/
def PWR_RST_STATUS_READY : Fld := ⟨0xb0084, 0, 1, 0, 0⟩
def PWR_RST_STATUS_STEP : Fld := ⟨0xb0084, 1, 4, 0, 0⟩
def PWR_RST_STATUS_BUSY : Fld := ⟨0xb0084, 5, 1, 0, 0⟩
def PWR_RST_STATUS_REFUSED : Fld := ⟨0xb0084, 6, 1, 0, 0⟩
def PWR_RST_STATUS_LAST_SCOPE : Fld := ⟨0xb0084, 7, 3, 0, 0⟩
def PWR_RST_STATUS_AD_PRIMARY : Fld := ⟨0xb0084, 10, 1, 0, 0⟩
def PWR_RST_STATUS_AD_STANDBY : Fld := ⟨0xb0084, 11, 1, 0, 0⟩
def PWR_RST_STATUS_IMAGE : Fld := ⟨0xb0084, 12, 1, 0, 0⟩
def PWR_RST_STATUS_TRIAL : Fld := ⟨0xb0084, 13, 1, 0, 0⟩
def PWR_RST_STATUS_FAILED : Fld := ⟨0xb0084, 14, 1, 0, 0⟩
def PWR_RST_STATUS : Fld := ⟨0xb0084, 0, 32, 0, 0⟩
/-! PWR_BOOT: 21_bring_up_and_reset.md R494, 32 bits. -/
def PWR_BOOT : Fld := ⟨0xb0088, 0, 32, 0, 0⟩
/-! PWR_BU_LOG: 21_bring_up_and_reset.md R496, 32 bits. -/
def PWR_BU_LOG (i : Nat) : Fld := ⟨0xb00c0 + 0x4 * i, 0, 24, 0, 0⟩
/-! THM_STATUS: 20_draw_control_and_cooling.md R485, 32 bits. -/
def THM_STATUS_PRED : Fld := ⟨0xb4000, 0, 1, 0, 0⟩
def THM_STATUS_EMERG : Fld := ⟨0xb4000, 1, 1, 0, 0⟩
def THM_STATUS_WARM_SHORT : Fld := ⟨0xb4000, 2, 1, 0, 0⟩
def THM_STATUS_DUTY : Fld := ⟨0xb4000, 4, 5, 0, 0⟩
def THM_STATUS : Fld := ⟨0xb4000, 0, 32, 0, 0⟩
/-! THM_TEMP: 20_draw_control_and_cooling.md R484, 32 bits. -/
def THM_TEMP_NOW : Fld := ⟨0xb4004, 0, 10, 0, 0⟩
def THM_TEMP_FORECAST : Fld := ⟨0xb4004, 16, 10, 0, 0⟩
def THM_TEMP : Fld := ⟨0xb4004, 0, 32, 0, 0⟩
/-! THM_CL: 20_draw_control_and_cooling.md R484, 32 bits. -/
def THM_CL_TEMP (i : Nat) : Fld := ⟨0xb4008 + 0x4 * i, 0, 10, 0, 0⟩
def THM_CL_VALID (i : Nat) : Fld := ⟨0xb4008 + 0x4 * i, 10, 4, 0, 0⟩
def THM_CL (i : Nat) : Fld := ⟨0xb4008 + 0x4 * i, 0, 32, 0, 0⟩
/-! THM_MODEL: 20_draw_control_and_cooling.md R485, 32 bits. -/
def THM_MODEL_THETA : Fld := ⟨0xb4020, 0, 12, 0, 0⟩
def THM_MODEL_TAU : Fld := ⟨0xb4020, 12, 8, 1, 255⟩
def THM_MODEL_POSF : Fld := ⟨0xb4020, 20, 8, 0, 0⟩
def THM_MODEL : Fld := ⟨0xb4020, 0, 32, 0, 0⟩
/-! THM_WARM: 20_draw_control_and_cooling.md R478, 32 bits. -/
def THM_WARM_TARGET : Fld := ⟨0xb4024, 0, 8, 45, 70⟩
def THM_WARM_DUTY_MAX : Fld := ⟨0xb4024, 8, 5, 0, 0⟩
def THM_WARM : Fld := ⟨0xb4024, 0, 32, 0, 0⟩
/-! THM_FAULT: 20_draw_control_and_cooling.md R7, 32 bits. -/
def THM_FAULT : Fld := ⟨0xb4028, 0, 16, 0, 0⟩
/-! THM_CFG: 20_draw_control_and_cooling.md R486, 32 bits. -/
def THM_CFG_PRED : Fld := ⟨0xb4100, 0, 8, 85, 100⟩
def THM_CFG_EMERG : Fld := ⟨0xb4100, 8, 8, 95, 104⟩
def THM_CFG_HALT : Fld := ⟨0xb4100, 16, 8, 100, 110⟩
def THM_CFG_COOLDOWN : Fld := ⟨0xb4100, 24, 8, 0, 0⟩
def THM_CFG : Fld := ⟨0xb4100, 0, 32, 0, 0⟩
/-! THM_COOL: 20_draw_control_and_cooling.md R481, 32 bits. -/
def THM_COOL_INLET : Fld := ⟨0xb4104, 0, 10, 0, 0⟩
def THM_COOL_OUTLET : Fld := ⟨0xb4104, 16, 10, 0, 0⟩
def THM_COOL : Fld := ⟨0xb4104, 0, 32, 0, 0⟩
/-! THM_FLOW: 20_draw_control_and_cooling.md R482, 32 bits. -/
def THM_FLOW_FLOW : Fld := ⟨0xb4108, 0, 10, 0, 0⟩
def THM_FLOW_VALID : Fld := ⟨0xb4108, 10, 1, 0, 0⟩
def THM_FLOW_ROW : Fld := ⟨0xb4108, 11, 2, 0, 0⟩
def THM_FLOW_STOPPED : Fld := ⟨0xb4108, 13, 1, 0, 0⟩
def THM_FLOW : Fld := ⟨0xb4108, 0, 32, 0, 0⟩
/-! THM_SUSTAIN: 20_draw_control_and_cooling.md R487, 32 bits. -/
def THM_SUSTAIN : Fld := ⟨0xb410c, 0, 16, 0, 0⟩
/-! BST_CTRL: 02_defects_proof_self_test.md R50, 32 bits. -/
def BST_CTRL_START : Fld := ⟨0xb8000, 0, 1, 0, 0⟩
def BST_CTRL_ABORT : Fld := ⟨0xb8000, 1, 1, 0, 0⟩
def BST_CTRL_MODE : Fld := ⟨0xb8000, 2, 2, 0, 0⟩
def BST_CTRL_KIND : Fld := ⟨0xb8000, 4, 3, 0, 0⟩
def BST_CTRL_UNITS : Fld := ⟨0xb8000, 8, 5, 0, 0⟩
def BST_CTRL : Fld := ⟨0xb8000, 0, 32, 0, 0⟩
/-! BST_STATUS: 02_defects_proof_self_test.md R50, 32 bits. -/
def BST_STATUS_BUSY : Fld := ⟨0xb8004, 0, 1, 0, 0⟩
def BST_STATUS_DONE : Fld := ⟨0xb8004, 1, 1, 0, 0⟩
def BST_STATUS_REFUSED : Fld := ⟨0xb8004, 2, 1, 0, 0⟩
def BST_STATUS_ABORTED : Fld := ⟨0xb8004, 3, 1, 0, 0⟩
def BST_STATUS : Fld := ⟨0xb8004, 0, 32, 0, 0⟩
/-! BST_RESULT: 02_defects_proof_self_test.md R52, 32 bits. -/
def BST_RESULT_UNCORE : Fld := ⟨0xb8008, 0, 2, 0, 0⟩
def BST_RESULT_CLUSTER : Fld := ⟨0xb8008, 2, 8, 0, 0⟩
def BST_RESULT : Fld := ⟨0xb8008, 0, 32, 0, 0⟩
/-! BST_SEED: 02_defects_proof_self_test.md R37, 32 bits. -/
def BST_SEED : Fld := ⟨0xb800c, 0, 32, 0, 0⟩
/-! BST_REPORT: 02_defects_proof_self_test.md R37, 32 bits. -/
def BST_REPORT_OUTCOME (i : Nat) : Fld := ⟨0xb8010 + 0x4 * i, 0, 2, 0, 0⟩
def BST_REPORT_QUALIFIED (i : Nat) : Fld := ⟨0xb8010 + 0x4 * i, 2, 1, 0, 0⟩
def BST_REPORT_MISMATCH (i : Nat) : Fld := ⟨0xb8010 + 0x4 * i, 8, 5, 0, 0⟩
def BST_REPORT (i : Nat) : Fld := ⟨0xb8010 + 0x4 * i, 0, 32, 0, 0⟩
/-! BST_BUNDLE_FAIL: 02_defects_proof_self_test.md R37, 64 bits. -/
def BST_BUNDLE_FAIL : Fld := ⟨0xb8020, 0, 64, 0, 0⟩
/-! BST_FAULT: 02_defects_proof_self_test.md R7, 32 bits. -/
def BST_FAULT : Fld := ⟨0xb8028, 0, 16, 0, 0⟩
/-! BST_FP_SEQ: 02_defects_proof_self_test.md R48, 32 bits. -/
def BST_FP_SEQ : Fld := ⟨0xb8030, 0, 32, 0, 0⟩
/-! BST_FP_ADDR: 02_defects_proof_self_test.md R48, 64 bits. -/
def BST_FP_ADDR : Fld := ⟨0xb8038, 0, 64, 0, 0⟩
/-! BST_FP_DIGEST: 02_defects_proof_self_test.md R49, 384 bits. -/
def BST_FP_DIGEST : Fld := ⟨0xb8040, 0, 384, 0, 0⟩
/-! FRM_CTRL: 16_lock_up_and_live_change.md R387, 32 bits. -/
def FRM_CTRL_START : Fld := ⟨0xba000, 0, 1, 0, 0⟩
def FRM_CTRL_ABORT : Fld := ⟨0xba000, 1, 1, 0, 0⟩
def FRM_CTRL_AT_SHEET : Fld := ⟨0xba000, 2, 1, 0, 0⟩
def FRM_CTRL : Fld := ⟨0xba000, 0, 32, 0, 0⟩
/-! FRM_STATUS: 16_lock_up_and_live_change.md R404, 32 bits. -/
def FRM_STATUS_BUSY : Fld := ⟨0xba004, 0, 1, 0, 0⟩
def FRM_STATUS_PHASE : Fld := ⟨0xba004, 1, 4, 0, 0⟩
def FRM_STATUS_REGION : Fld := ⟨0xba004, 5, 4, 0, 0⟩
def FRM_STATUS_FULL : Fld := ⟨0xba004, 9, 1, 0, 0⟩
def FRM_STATUS_LOADED : Fld := ⟨0xba004, 10, 9, 0, 0⟩
def FRM_STATUS_TOTAL : Fld := ⟨0xba004, 19, 9, 0, 0⟩
def FRM_STATUS : Fld := ⟨0xba004, 0, 32, 0, 0⟩
/-! FRM_FAULT: 16_lock_up_and_live_change.md R7, 32 bits. -/
def FRM_FAULT : Fld := ⟨0xba008, 0, 16, 0, 0⟩
/-! FRM_SRC_ADDR: 16_lock_up_and_live_change.md R387, 64 bits. -/
def FRM_SRC_ADDR : Fld := ⟨0xba010, 0, 64, 0, 0⟩
/-! FRM_SRC_LEN: 16_lock_up_and_live_change.md R387, 64 bits. -/
def FRM_SRC_LEN : Fld := ⟨0xba018, 0, 64, 0, 0⟩
/-! FRM_DETAIL: 16_lock_up_and_live_change.md R391, 64 bits. -/
def FRM_DETAIL_SECTION : Fld := ⟨0xba020, 0, 16, 0, 0⟩
def FRM_DETAIL_RECORD : Fld := ⟨0xba020, 16, 32, 0, 0⟩
def FRM_DETAIL_CODE : Fld := ⟨0xba020, 48, 16, 0, 0⟩
def FRM_DETAIL : Fld := ⟨0xba020, 0, 64, 0, 0⟩
/-! FRM_CONFLICT: 16_lock_up_and_live_change.md R394, 64 bits. -/
def FRM_CONFLICT_KIND : Fld := ⟨0xba028, 0, 4, 0, 0⟩
def FRM_CONFLICT_INDEX : Fld := ⟨0xba028, 4, 32, 0, 0⟩
def FRM_CONFLICT_CLAIMANT : Fld := ⟨0xba028, 36, 8, 0, 0⟩
def FRM_CONFLICT_INFORCE : Fld := ⟨0xba028, 44, 8, 0, 0⟩
def FRM_CONFLICT : Fld := ⟨0xba028, 0, 64, 0, 0⟩
/-! FRM_R_STATE: 16_lock_up_and_live_change.md R405, 32 bits. -/
def FRM_R_STATE_STATE (i : Nat) : Fld := ⟨0xba100 + 0x10 * i, 0, 3, 0, 0⟩
def FRM_R_STATE_INITIAL (i : Nat) : Fld := ⟨0xba100 + 0x10 * i, 3, 1, 0, 0⟩
def FRM_R_STATE (i : Nat) : Fld := ⟨0xba100 + 0x10 * i, 0, 32, 0, 0⟩
/-! FRM_R_SEQ: 16_lock_up_and_live_change.md R398, 32 bits. -/
def FRM_R_SEQ (i : Nat) : Fld := ⟨0xba104 + 0x10 * i, 0, 32, 0, 0⟩
/-! FRM_R_IMP: 16_lock_up_and_live_change.md R407, 32 bits. -/
def FRM_R_IMP_CURRENT (i : Nat) : Fld := ⟨0xba108 + 0x10 * i, 0, 3, 0, 0⟩
def FRM_R_IMP_REQUEST (i : Nat) : Fld := ⟨0xba108 + 0x10 * i, 4, 3, 0, 0⟩
def FRM_R_IMP_REQ (i : Nat) : Fld := ⟨0xba108 + 0x10 * i, 7, 1, 0, 0⟩
def FRM_R_IMP_PENDING (i : Nat) : Fld := ⟨0xba108 + 0x10 * i, 8, 1, 0, 0⟩
def FRM_R_IMP_COUNT_M1 (i : Nat) : Fld := ⟨0xba108 + 0x10 * i, 9, 3, 0, 0⟩
def FRM_R_IMP (i : Nat) : Fld := ⟨0xba108 + 0x10 * i, 0, 32, 0, 0⟩
/-! FRM_R_GAP: 16_lock_up_and_live_change.md R409, 32 bits. -/
def FRM_R_GAP (i : Nat) : Fld := ⟨0xba10c + 0x10 * i, 0, 32, 0, 0⟩
/-! SEC_CTRL: 24_security.md R546, 32 bits. -/
def SEC_CTRL_CMD : Fld := ⟨0xbc000, 0, 1, 0, 0⟩
def SEC_CTRL_ATTEST : Fld := ⟨0xbc000, 1, 1, 0, 0⟩
def SEC_CTRL : Fld := ⟨0xbc000, 0, 32, 0, 0⟩
/-! SEC_STATUS: 24_security.md R546, 32 bits. -/
def SEC_STATUS_BUSY : Fld := ⟨0xbc004, 0, 1, 0, 0⟩
def SEC_STATUS_REPORT_VALID : Fld := ⟨0xbc004, 1, 1, 0, 0⟩
def SEC_STATUS_OWNER_EN : Fld := ⟨0xbc004, 2, 4, 0, 0⟩
def SEC_STATUS_OWNER_REV : Fld := ⟨0xbc004, 6, 4, 0, 0⟩
def SEC_STATUS_VENDOR_REV : Fld := ⟨0xbc004, 10, 4, 0, 0⟩
def SEC_STATUS : Fld := ⟨0xbc004, 0, 32, 0, 0⟩
/-! SEC_FAULT: 24_security.md R7, 32 bits. -/
def SEC_FAULT : Fld := ⟨0xbc008, 0, 16, 0, 0⟩
/-! SEC_CMD_ADDR: 24_security.md R546, 64 bits. -/
def SEC_CMD_ADDR : Fld := ⟨0xbc010, 0, 64, 0, 0⟩
/-! SEC_SERIAL: 24_security.md R539, 64 bits. -/
def SEC_SERIAL : Fld := ⟨0xbc018, 0, 64, 0, 0⟩
/-! SEC_MIN_SVN: 24_security.md R543, 32 bits. -/
def SEC_MIN_SVN : Fld := ⟨0xbc020, 0, 32, 0, 0⟩
/-! SEC_IDKEY: 24_security.md R540, 392 bits. -/
def SEC_IDKEY : Fld := ⟨0xbc040, 0, 392, 0, 0⟩
/-! SEC_NONCE: 24_security.md R550, 256 bits. -/
def SEC_NONCE : Fld := ⟨0xbc080, 0, 256, 0, 0⟩
/-! SEC_OWNER_ID: 24_security.md R545, 64 bits. -/
def SEC_OWNER_ID (i : Nat) : Fld := ⟨0xbc100 + 0x8 * i, 0, 64, 0, 0⟩
/-! SEC_REPORT: 24_security.md R550, 2560 bits. -/
def SEC_REPORT : Fld := ⟨0xbc200, 0, 2560, 0, 0⟩
/-! LNK_CTRL: 14_panel_links.md R353, 32 bits. -/
def LNK_CTRL_FLIP : Fld := ⟨0xc0000, 0, 1, 0, 0⟩
def LNK_CTRL_AUTO_ALT : Fld := ⟨0xc0000, 1, 1, 0, 0⟩
def LNK_CTRL_RERIG : Fld := ⟨0xc0000, 2, 4, 0, 0⟩
def LNK_CTRL : Fld := ⟨0xc0000, 0, 32, 0, 0⟩
/-! LNK_STATUS: 14_panel_links.md R353, 32 bits. -/
def LNK_STATUS_PEPOCH : Fld := ⟨0xc0004, 0, 1, 0, 0⟩
def LNK_STATUS_FLIPPING : Fld := ⟨0xc0004, 1, 1, 0, 0⟩
def LNK_STATUS_PORT_UP : Fld := ⟨0xc0004, 2, 4, 0, 0⟩
def LNK_STATUS_TRANSIT_OWNED : Fld := ⟨0xc0004, 6, 4, 0, 0⟩
def LNK_STATUS : Fld := ⟨0xc0004, 0, 32, 0, 0⟩
/-! LNK_FAULT: 14_panel_links.md R7, 32 bits. -/
def LNK_FAULT : Fld := ⟨0xc0008, 0, 16, 0, 0⟩
/-! LNK_PANEL_ID: 14_panel_links.md R342, 32 bits. -/
def LNK_PANEL_ID : Fld := ⟨0xc000c, 0, 12, 0, 0⟩
/-! LNK_MARGIN_CFG: 14_panel_links.md R358, 32 bits. -/
def LNK_MARGIN_CFG_EYE_WARN : Fld := ⟨0xc0010, 0, 12, 0, 0⟩
def LNK_MARGIN_CFG_EYE_SUSPECT : Fld := ⟨0xc0010, 12, 12, 0, 0⟩
def LNK_MARGIN_CFG_SER_SUSPECT : Fld := ⟨0xc0010, 24, 4, 0, 0⟩
def LNK_MARGIN_CFG : Fld := ⟨0xc0010, 0, 32, 0, 0⟩
/-! LNK_RETRY_USED: 14_panel_links.md R345, 32 bits. -/
def LNK_RETRY_USED : Fld := ⟨0xc0014, 0, 32, 0, 0⟩
/-! LNK_P_ROLE: 14_panel_links.md R338, 32 bits. -/
def LNK_P_ROLE_ROLE (i : Nat) : Fld := ⟨0xc0100 + 0x40 * i, 0, 2, 0, 0⟩
def LNK_P_ROLE_ETH_MODE (i : Nat) : Fld := ⟨0xc0100 + 0x40 * i, 2, 1, 0, 0⟩
def LNK_P_ROLE_OWNER (i : Nat) : Fld := ⟨0xc0100 + 0x40 * i, 3, 4, 0, 0⟩
def LNK_P_ROLE_TRANSIT (i : Nat) : Fld := ⟨0xc0100 + 0x40 * i, 7, 1, 0, 0⟩
def LNK_P_ROLE (i : Nat) : Fld := ⟨0xc0100 + 0x40 * i, 0, 32, 0, 0⟩
/-! LNK_P_STATE: 14_panel_links.md R354, 32 bits. -/
def LNK_P_STATE_STATE (i : Nat) : Fld := ⟨0xc0104 + 0x40 * i, 0, 3, 0, 0⟩
def LNK_P_STATE_LOS (i : Nat) : Fld := ⟨0xc0104 + 0x40 * i, 3, 1, 0, 0⟩
def LNK_P_STATE (i : Nat) : Fld := ⟨0xc0104 + 0x40 * i, 0, 32, 0, 0⟩
/-! LNK_P_TX: 14_panel_links.md R338, 32 bits. -/
def LNK_P_TX (i : Nat) : Fld := ⟨0xc0108 + 0x40 * i, 0, 32, 0, 0⟩
/-! LNK_P_RX: 14_panel_links.md R338, 32 bits. -/
def LNK_P_RX (i : Nat) : Fld := ⟨0xc010c + 0x40 * i, 0, 32, 0, 0⟩
/-! LNK_P_RETX: 14_panel_links.md R348, 32 bits. -/
def LNK_P_RETX (i : Nat) : Fld := ⟨0xc0110 + 0x40 * i, 0, 32, 0, 0⟩
/-! LNK_P_FEC_CORR: 14_panel_links.md R358, 32 bits. -/
def LNK_P_FEC_CORR (i : Nat) : Fld := ⟨0xc0114 + 0x40 * i, 0, 32, 0, 0⟩
/-! LNK_P_FEC_UNCORR: 14_panel_links.md R358, 32 bits. -/
def LNK_P_FEC_UNCORR (i : Nat) : Fld := ⟨0xc0118 + 0x40 * i, 0, 32, 0, 0⟩
/-! LNK_P_CRC: 14_panel_links.md R342, 32 bits. -/
def LNK_P_CRC (i : Nat) : Fld := ⟨0xc011c + 0x40 * i, 0, 32, 0, 0⟩
/-! LNK_P_DROP: 14_panel_links.md R351, 32 bits. -/
def LNK_P_DROP (i : Nat) : Fld := ⟨0xc0120 + 0x40 * i, 0, 32, 0, 0⟩
/-! LNK_L_MARGIN: 14_panel_links.md R358, 32 bits. -/
def LNK_L_MARGIN_EYE (i : Nat) : Fld := ⟨0xc0200 + 0x4 * i, 0, 12, 0, 0⟩
def LNK_L_MARGIN_ERRORS (i : Nat) : Fld := ⟨0xc0200 + 0x4 * i, 12, 20, 0, 0⟩
def LNK_L_MARGIN (i : Nat) : Fld := ⟨0xc0200 + 0x4 * i, 0, 32, 0, 0⟩
/-! LNK_PT: 14_panel_links.md R350, 32 bits. -/
def LNK_PT (i : Nat) : Fld := ⟨0xd0000 + 0x4 * i, 0, 32, 0, 0⟩
/-! LNK_CTX: 14_panel_links.md R343, 256 bits. -/
def LNK_CTX_VALID (i : Nat) : Fld := ⟨0xe0000 + 0x20 * i, 0, 1, 0, 0⟩
def LNK_CTX_DIR (i : Nat) : Fld := ⟨0xe0000 + 0x20 * i, 1, 1, 0, 0⟩
def LNK_CTX_KIND (i : Nat) : Fld := ⟨0xe0000 + 0x20 * i, 2, 1, 0, 0⟩
def LNK_CTX_REGION (i : Nat) : Fld := ⟨0xe0000 + 0x20 * i, 3, 4, 0, 0⟩
def LNK_CTX_FAILED (i : Nat) : Fld := ⟨0xe0000 + 0x20 * i, 7, 1, 0, 0⟩
def LNK_CTX_REMOTE_PANEL (i : Nat) : Fld := ⟨0xe0000 + 0x20 * i, 8, 12, 0, 0⟩
def LNK_CTX_REMOTE_CTX (i : Nat) : Fld := ⟨0xe0000 + 0x20 * i, 20, 12, 0, 0⟩
def LNK_CTX_LBASE (i : Nat) : Fld := ⟨0xe0000 + 0x20 * i, 32, 38, 0, 0⟩
def LNK_CTX_LLIMIT (i : Nat) : Fld := ⟨0xe0000 + 0x20 * i, 70, 32, 0, 0⟩
def LNK_CTX_RBASE (i : Nat) : Fld := ⟨0xe0000 + 0x20 * i, 102, 38, 0, 0⟩
def LNK_CTX_SIG_HOME (i : Nat) : Fld := ⟨0xe0000 + 0x20 * i, 140, 9, 0, 0⟩
def LNK_CTX_SIG_IDX (i : Nat) : Fld := ⟨0xe0000 + 0x20 * i, 149, 8, 0, 0⟩
def LNK_CTX_SIG_EN (i : Nat) : Fld := ⟨0xe0000 + 0x20 * i, 157, 1, 0, 0⟩
def LNK_CTX_RTO (i : Nat) : Fld := ⟨0xe0000 + 0x20 * i, 158, 10, 5, 1000⟩
def LNK_CTX_MAX_RETRY (i : Nat) : Fld := ⟨0xe0000 + 0x20 * i, 168, 4, 1, 15⟩
def LNK_CTX_NEXT_PSN (i : Nat) : Fld := ⟨0xe0000 + 0x20 * i, 172, 32, 0, 0⟩
def LNK_CTX_ACK_PSN (i : Nat) : Fld := ⟨0xe0000 + 0x20 * i, 204, 32, 0, 0⟩
def LNK_CTX (i : Nat) : Fld := ⟨0xe0000 + 0x20 * i, 0, 256, 0, 0⟩
/-! LNK_E_RING: 14_panel_links.md R357, 128 bits. -/
def LNK_E_RING_BASE (i j : Nat) : Fld := ⟨0xc3000 + 0x100 * i + 0x10 * j, 0, 38, 0, 0⟩
def LNK_E_RING_SLOTS (i j : Nat) : Fld := ⟨0xc3000 + 0x100 * i + 0x10 * j, 38, 16, 1, 65535⟩
def LNK_E_RING_SLOT_SIZE (i j : Nat) : Fld := ⟨0xc3000 + 0x100 * i + 0x10 * j, 54, 1, 0, 0⟩
def LNK_E_RING_SIG_HOME (i j : Nat) : Fld := ⟨0xc3000 + 0x100 * i + 0x10 * j, 55, 9, 0, 0⟩
def LNK_E_RING_SIG_IDX (i j : Nat) : Fld := ⟨0xc3000 + 0x100 * i + 0x10 * j, 64, 8, 0, 0⟩
def LNK_E_RING_SIG_EN (i j : Nat) : Fld := ⟨0xc3000 + 0x100 * i + 0x10 * j, 72, 1, 0, 0⟩
def LNK_E_RING_PAUSE_EN (i j : Nat) : Fld := ⟨0xc3000 + 0x100 * i + 0x10 * j, 73, 1, 0, 0⟩
def LNK_E_RING_PAUSE_MARK (i j : Nat) : Fld := ⟨0xc3000 + 0x100 * i + 0x10 * j, 74, 16, 0, 0⟩
def LNK_E_RING_VALID (i j : Nat) : Fld := ⟨0xc3000 + 0x100 * i + 0x10 * j, 90, 1, 0, 0⟩
def LNK_E_RING (i j : Nat) : Fld := ⟨0xc3000 + 0x100 * i + 0x10 * j, 0, 128, 0, 0⟩
/-! LNK_E_MAC: 14_panel_links.md R356, 64 bits. -/
def LNK_E_MAC_MAC (i : Nat) : Fld := ⟨0xc3800 + 0x8 * i, 0, 48, 0, 0⟩
def LNK_E_MAC_PROMISC (i : Nat) : Fld := ⟨0xc3800 + 0x8 * i, 48, 1, 0, 0⟩
def LNK_E_MAC (i : Nat) : Fld := ⟨0xc3800 + 0x8 * i, 0, 64, 0, 0⟩
/-! LNK_F_WIN: 14_panel_links.md R355, 128 bits. -/
def LNK_F_WIN_BASE (i : Nat) : Fld := ⟨0xc3900 + 0x10 * i, 0, 38, 0, 0⟩
def LNK_F_WIN_LENGTH (i : Nat) : Fld := ⟨0xc3900 + 0x10 * i, 38, 32, 0, 0⟩
def LNK_F_WIN_SIG_HOME (i : Nat) : Fld := ⟨0xc3900 + 0x10 * i, 70, 9, 0, 0⟩
def LNK_F_WIN_SIG_IDX (i : Nat) : Fld := ⟨0xc3900 + 0x10 * i, 79, 8, 0, 0⟩
def LNK_F_WIN_SIG_EN (i : Nat) : Fld := ⟨0xc3900 + 0x10 * i, 87, 1, 0, 0⟩
def LNK_F_WIN_VALID (i : Nat) : Fld := ⟨0xc3900 + 0x10 * i, 88, 1, 0, 0⟩
def LNK_F_WIN_STREAM (i : Nat) : Fld := ⟨0xc3900 + 0x10 * i, 89, 16, 0, 0⟩
def LNK_F_WIN (i : Nat) : Fld := ⟨0xc3900 + 0x10 * i, 0, 128, 0, 0⟩
/-! AZL_CTRL: 13_azrolane_interface.md R331, 32 bits. -/
def AZL_CTRL_CUT : Fld := ⟨0xf0000, 0, 1, 0, 0⟩
def AZL_CTRL_REJOIN : Fld := ⟨0xf0000, 1, 1, 0, 0⟩
def AZL_CTRL_EDGE : Fld := ⟨0xf0000, 2, 2, 0, 0⟩
def AZL_CTRL_RETRAIN : Fld := ⟨0xf0000, 4, 1, 0, 0⟩
def AZL_CTRL_BUNDLE : Fld := ⟨0xf0000, 5, 4, 0, 0⟩
def AZL_CTRL_TIE_MASK : Fld := ⟨0xf0000, 10, 4, 0, 0⟩
def AZL_CTRL : Fld := ⟨0xf0000, 0, 32, 0, 0⟩
/-! AZL_STATUS: 13_azrolane_interface.md R333, 32 bits. -/
def AZL_STATUS_CUT : Fld := ⟨0xf0004, 0, 4, 0, 0⟩
def AZL_STATUS_TIED : Fld := ⟨0xf0004, 4, 4, 0, 0⟩
def AZL_STATUS_PEER_OK : Fld := ⟨0xf0004, 8, 4, 0, 0⟩
def AZL_STATUS_GUEST : Fld := ⟨0xf0004, 12, 4, 0, 0⟩
def AZL_STATUS : Fld := ⟨0xf0004, 0, 32, 0, 0⟩
/-! AZL_FAULT: 13_azrolane_interface.md R7, 32 bits. -/
def AZL_FAULT : Fld := ⟨0xf0008, 0, 16, 0, 0⟩
/-! AZL_CUT_TIMEOUT: 13_azrolane_interface.md R332, 32 bits. -/
def AZL_CUT_TIMEOUT : Fld := ⟨0xf000c, 0, 7, 51, 100⟩
/-! AZL_ERR_LIMIT: 13_azrolane_interface.md R324, 32 bits. -/
def AZL_ERR_LIMIT : Fld := ⟨0xf0010, 0, 16, 0, 0⟩
/-! AZL_CAP_LOCAL: 13_azrolane_interface.md R328, 256 bits. -/
def AZL_CAP_LOCAL : Fld := ⟨0xf0020, 0, 256, 0, 0⟩
/-! AZL_CAP_PEER: 13_azrolane_interface.md R328, 256 bits. -/
def AZL_CAP_PEER (i : Nat) : Fld := ⟨0xf0040 + 0x20 * i, 0, 256, 0, 0⟩
/-! AZL_BUNDLE: 13_azrolane_interface.md R326, 32 bits. -/
def AZL_BUNDLE_STATE (i : Nat) : Fld := ⟨0xf0100 + 0x4 * i, 0, 3, 0, 0⟩
def AZL_BUNDLE_PROFILE (i : Nat) : Fld := ⟨0xf0100 + 0x4 * i, 3, 1, 0, 0⟩
def AZL_BUNDLE_ROLE (i : Nat) : Fld := ⟨0xf0100 + 0x4 * i, 4, 2, 0, 0⟩
def AZL_BUNDLE_REPAIR_TX (i : Nat) : Fld := ⟨0xf0100 + 0x4 * i, 6, 5, 0, 0⟩
def AZL_BUNDLE_REPAIR_TX_V (i : Nat) : Fld := ⟨0xf0100 + 0x4 * i, 11, 1, 0, 0⟩
def AZL_BUNDLE_REPAIR_RX (i : Nat) : Fld := ⟨0xf0100 + 0x4 * i, 12, 5, 0, 0⟩
def AZL_BUNDLE_REPAIR_RX_V (i : Nat) : Fld := ⟨0xf0100 + 0x4 * i, 17, 1, 0, 0⟩
def AZL_BUNDLE_RETRAINS (i : Nat) : Fld := ⟨0xf0100 + 0x4 * i, 18, 6, 0, 0⟩
def AZL_BUNDLE (i : Nat) : Fld := ⟨0xf0100 + 0x4 * i, 0, 32, 0, 0⟩
/-! AZL_BERR: 13_azrolane_interface.md R325, 32 bits. -/
def AZL_BERR_CRC (i : Nat) : Fld := ⟨0xf0200 + 0x4 * i, 0, 16, 0, 0⟩
def AZL_BERR_REPLAY (i : Nat) : Fld := ⟨0xf0200 + 0x4 * i, 16, 16, 0, 0⟩
def AZL_BERR (i : Nat) : Fld := ⟨0xf0200 + 0x4 * i, 0, 32, 0, 0⟩

end Csr

/-- Every die implements the register. -/
def allDies : List DieClass := [.compute, .link, .memory, .pd, .hd, .td, .ad]

/-- Registers of STK (window base 0x0). -/
def regBlock0p0 : List RegRow := [
  -- STK_STATUS
  ⟨0x0, 32, [.compute], false, [], [⟨0, 1, .ro, 0⟩, ⟨1, 1, .ro, 0⟩, ⟨2, 1, .ro, 0⟩, ⟨3, 1, .ro, 0⟩, ⟨4, 4, .ro, 0⟩, ⟨8, 1, .ro, 0⟩]⟩,
  -- STK_END_LAST
  ⟨0x4, 32, [.compute], false, [], [⟨0, 32, .ro, 0⟩]⟩,
  -- STK_GUTTER_MIN
  ⟨0x8, 32, [.compute], false, [], [⟨0, 32, .rc, 4294967295⟩]⟩,
  -- STK_SLUR_COUNT
  ⟨0xc, 32, [.compute], false, [], [⟨0, 32, .ro, 0⟩]⟩,
  -- STK_STROKE
  ⟨0x10, 64, [.compute], false, [], [⟨0, 64, .ro, 0⟩]⟩,
  -- STK_FAULT
  ⟨0x18, 32, [.compute], false, [], [⟨0, 16, .ro, 0⟩]⟩,
  -- STK_R_CTRL
  ⟨0x100, 32, [.pd, .ad], true, [(16, 0x80)], [⟨0, 1, .rw, 0⟩, ⟨1, 1, .rw, 0⟩, ⟨2, 1, .ro, 0⟩, ⟨4, 8, .rw, 16⟩]⟩,
  -- STK_R_PERIOD
  ⟨0x104, 32, [.pd, .ad], true, [(16, 0x80)], [⟨0, 32, .rw, 125000⟩]⟩,
  -- STK_R_SCHED_LEN
  ⟨0x108, 32, [.pd, .ad], true, [(16, 0x80)], [⟨0, 32, .rw, 120000⟩]⟩,
  -- STK_R_SHEET_LEN
  ⟨0x10c, 32, [.pd, .ad], true, [(16, 0x80)], [⟨0, 16, .rw, 500⟩]⟩,
  -- STK_R_DRAW_STRETCH
  ⟨0x110, 32, [.pd, .ad], true, [(16, 0x80)], [⟨0, 32, .rw, 0⟩]⟩,
  -- STK_R_STEP
  ⟨0x114, 32, [.pd, .ad], true, [(16, 0x80)], [⟨0, 24, .wo, 0⟩]⟩,
  -- STK_R_SLUR_LIMIT
  ⟨0x118, 32, [.pd, .ad], true, [(16, 0x80)], [⟨0, 14, .rw, 100⟩]⟩,
  -- STK_R_SLUR_LAST
  ⟨0x11c, 32, [.pd, .ad], true, [(16, 0x80)], [⟨0, 32, .ro, 0⟩]⟩,
  -- STK_R_NEXT_TICK
  ⟨0x120, 64, [.pd, .ad], true, [(16, 0x80)], [⟨0, 64, .ro, 0⟩]⟩,
  -- STK_R_STROKE
  ⟨0x128, 64, [.pd, .ad], true, [(16, 0x80)], [⟨0, 64, .ro, 0⟩]⟩,
  -- STK_R_SLURS
  ⟨0x130, 32, [.pd, .ad], true, [(16, 0x80)], [⟨0, 32, .ro, 0⟩]⟩,
  -- STK_R_SHEET
  ⟨0x134, 32, [.pd, .ad], true, [(16, 0x80)], [⟨0, 32, .ro, 0⟩]⟩,
  -- STK_R_COMMIT_ADDR
  ⟨0x138, 64, [.pd, .ad], true, [(16, 0x80)], [⟨0, 64, .rw, 0⟩]⟩,
  -- STK_R_EXT_LAST
  ⟨0x140, 32, [.pd, .ad], true, [(16, 0x80)], [⟨0, 16, .ro, 0⟩]⟩]

/-- Registers of STK (window base 0x0). -/
def regBlock0p1 : List RegRow := [
  -- STK_SEQ_CTRL
  ⟨0x40, 32, [.compute], false, [], [⟨0, 1, .rw, 0⟩]⟩,
  -- STK_SEQ_STATUS
  ⟨0x44, 32, [.compute], false, [], [⟨0, 1, .ro, 0⟩, ⟨1, 1, .ro, 0⟩, ⟨2, 3, .ro, 0⟩, ⟨5, 1, .ro, 0⟩, ⟨6, 1, .ro, 0⟩, ⟨7, 1, .ro, 0⟩, ⟨8, 1, .ro, 0⟩, ⟨9, 4, .ro, 0⟩]⟩,
  -- STK_SEQ_IMAGE
  ⟨0x48, 64, [.compute], false, [], [⟨0, 48, .rw, 0⟩]⟩,
  -- STK_SEQ_PAGES
  ⟨0x50, 32, [.compute], false, [], [⟨0, 16, .rw, 0⟩]⟩,
  -- STK_SEQ_SYNC_TIMEOUT
  ⟨0x54, 32, [.compute], false, [], [⟨0, 10, .rw, 40⟩]⟩,
  -- STK_SEQ_WAIT_LAST
  ⟨0x58, 64, [.compute], false, [], [⟨0, 16, .ro, 0⟩, ⟨16, 32, .ro, 0⟩]⟩,
  -- STK_SEQ_POS
  ⟨0x60, 64, [.compute], false, [], [⟨0, 14, .ro, 0⟩, ⟨14, 1, .ro, 0⟩, ⟨32, 32, .ro, 0⟩]⟩,
  -- STK_SEQ_FAULT_POS
  ⟨0x68, 64, [.compute], false, [], [⟨0, 14, .ro, 0⟩, ⟨14, 1, .ro, 0⟩, ⟨16, 16, .ro, 0⟩, ⟨32, 32, .ro, 0⟩]⟩,
  -- STK_SEQ_LAST_ARR
  ⟨0x70, 32, [.compute], false, [], [⟨0, 32, .rc, 0⟩]⟩,
  -- STK_SEQ_HALF_PAGE
  ⟨0x74, 32, [.compute], false, [], [⟨0, 16, .ro, 0⟩, ⟨16, 16, .ro, 0⟩]⟩,
  -- STK_CMP_FAULT
  ⟨0x78, 64, [.compute], false, [], [⟨0, 2, .ro, 0⟩, ⟨2, 3, .ro, 0⟩, ⟨5, 2, .ro, 0⟩, ⟨7, 14, .ro, 0⟩, ⟨32, 32, .ro, 0⟩]⟩,
  -- STK_SEQ_ENTRY
  ⟨0x80, 32, [.compute], false, [(16, 0x4)], [⟨0, 14, .rw, 0⟩, ⟨14, 1, .rw, 0⟩, ⟨15, 1, .rw, 0⟩, ⟨16, 16, .rw, 0⟩]⟩,
  -- STK_CMP_THREADS
  ⟨0xc0, 128, [.compute], false, [], [⟨0, 128, .ro, 0⟩]⟩,
  -- STK_SYNC_CTR
  ⟨0x1000, 32, [.compute], false, [(256, 0x4)], [⟨0, 32, .rw, 0⟩]⟩,
  -- STK_SYNC_CUR
  ⟨0x1400, 32, [.compute], false, [(256, 0x4)], [⟨0, 32, .rw, 0⟩]⟩,
  -- STK_SYNC_WCUR
  ⟨0x1800, 32, [.compute], false, [(16, 0x4)], [⟨0, 32, .rw, 0⟩]⟩,
  -- STK_SYNC_WSTATE
  ⟨0x1840, 32, [.compute], false, [], [⟨0, 16, .ro, 0⟩, ⟨16, 16, .ro, 0⟩]⟩]

/-- Registers of STK (window base 0x0). -/
def regBlock0 : List RegRow := regBlock0p0 ++ regBlock0p1

/-- Registers of CLK (window base 0x10000). -/
def regBlock10 : List RegRow := [
  -- CLK_CTRL
  ⟨0x10000, 32, allDies, false, [], [⟨0, 1, .rw, 1⟩, ⟨1, 1, .rw, 0⟩]⟩,
  -- CLK_STATUS
  ⟨0x10004, 32, allDies, false, [], [⟨0, 1, .ro, 0⟩, ⟨1, 1, .ro, 0⟩, ⟨2, 1, .ro, 0⟩, ⟨3, 5, .ro, 0⟩]⟩,
  -- CLK_PERIOD
  ⟨0x10008, 32, allDies, false, [], [⟨0, 8, .rw, 64⟩]⟩,
  -- CLK_HOLD_TIMEOUT
  ⟨0x1000c, 32, allDies, false, [], [⟨0, 6, .rw, 20⟩]⟩,
  -- CLK_MARGIN_CFG
  ⟨0x10010, 32, allDies, false, [], [⟨0, 8, .rw, 16⟩, ⟨8, 8, .rw, 24⟩, ⟨16, 8, .rw, 8⟩]⟩,
  -- CLK_FORCED
  ⟨0x10014, 32, allDies, false, [], [⟨0, 4, .rw, 0⟩, ⟨8, 24, .ro, 0⟩]⟩,
  -- CLK_SLIP_LAST
  ⟨0x10018, 32, allDies, false, [], [⟨0, 32, .ro, 0⟩]⟩,
  -- CLK_SLIP_TIME_LAST
  ⟨0x1001c, 32, allDies, false, [], [⟨0, 32, .ro, 0⟩]⟩,
  -- CLK_HOLD_LAST
  ⟨0x10020, 64, allDies, false, [], [⟨0, 16, .ro, 0⟩, ⟨16, 32, .ro, 0⟩]⟩,
  -- CLK_MARGIN_MIN
  ⟨0x10028, 32, allDies, false, [(5, 0x4)], [⟨0, 8, .rc, 255⟩]⟩,
  -- CLK_XING
  ⟨0x10040, 32, allDies, false, [(4, 0x4)], [⟨0, 5, .ro, 0⟩, ⟨5, 5, .ro, 0⟩, ⟨10, 5, .rc, 0⟩]⟩,
  -- CLK_PTIME
  ⟨0x10050, 64, allDies, false, [], [⟨0, 64, .ro, 0⟩]⟩,
  -- CLK_TREE_DELAY
  ⟨0x10058, 32, allDies, false, [], [⟨0, 10, .ro, 0⟩]⟩,
  -- CLK_FAULT
  ⟨0x1005c, 32, allDies, false, [], [⟨0, 16, .ro, 0⟩]⟩,
  -- CLK_TIME_CTRL
  ⟨0x10100, 32, [.pd, .td, .ad], false, [], [⟨0, 1, .rw, 0⟩, ⟨1, 1, .rw, 0⟩, ⟨2, 2, .rw, 0⟩, ⟨4, 4, .rw, 0⟩, ⟨8, 4, .rw, 0⟩]⟩,
  -- CLK_PTP_STATUS
  ⟨0x10104, 32, [.pd, .td, .ad], false, [], [⟨0, 2, .ro, 0⟩, ⟨2, 1, .ro, 0⟩]⟩,
  -- CLK_PTP_OFFSET
  ⟨0x10108, 64, [.pd, .td, .ad], false, [], [⟨0, 64, .ro, 0⟩]⟩,
  -- CLK_RATE
  ⟨0x10110, 32, [.pd, .td, .ad], false, [], [⟨0, 32, .ro, 0⟩]⟩,
  -- CLK_LOCK_OFFSET
  ⟨0x10114, 32, [.pd, .td, .ad], false, [], [⟨0, 32, .rw, 1600⟩]⟩]

/-- Registers of DRW (window base 0x20000). -/
def regBlock20 : List RegRow := [
  -- DRW_CTRL
  ⟨0x20000, 32, [.pd, .ad], true, [], [⟨0, 1, .rw, 1⟩, ⟨8, 8, .rw, 10⟩, ⟨16, 16, .rw, 2000⟩]⟩,
  -- DRW_STATUS
  ⟨0x20004, 32, [.pd, .ad], true, [], [⟨0, 2, .ro, 1⟩, ⟨2, 1, .ro, 0⟩, ⟨3, 7, .ro, 100⟩, ⟨10, 7, .ro, 8⟩, ⟨17, 7, .ro, 100⟩, ⟨24, 1, .ro, 0⟩, ⟨25, 1, .ro, 0⟩, ⟨26, 1, .ro, 0⟩]⟩,
  -- DRW_FAULT
  ⟨0x20008, 32, [.pd, .ad, .compute], true, [], [⟨0, 16, .ro, 0⟩]⟩,
  -- DRW_SP_TACK
  ⟨0x2000c, 32, [.pd, .ad], true, [], [⟨0, 7, .rw, 100⟩, ⟨8, 2, .rw, 1⟩]⟩,
  -- DRW_SP_HOST
  ⟨0x20010, 32, [.pd, .ad], true, [], [⟨0, 7, .rw, 100⟩, ⟨8, 2, .rw, 2⟩]⟩,
  -- DRW_MEASURED
  ⟨0x20014, 32, [.pd, .ad], true, [], [⟨0, 16, .ro, 0⟩, ⟨16, 16, .ro, 0⟩]⟩,
  -- DRW_R_STATE
  ⟨0x20100, 32, [.pd, .ad], true, [(16, 0x20)], [⟨0, 7, .ro, 0⟩, ⟨7, 7, .ro, 0⟩, ⟨14, 7, .ro, 0⟩, ⟨21, 3, .ro, 0⟩]⟩,
  -- DRW_R_DRAW
  ⟨0x20104, 32, [.pd, .ad], true, [(16, 0x20)], [⟨0, 16, .ro, 0⟩, ⟨16, 16, .ro, 0⟩]⟩,
  -- DRW_R_TRIM
  ⟨0x20108, 32, [.pd, .ad], true, [(16, 0x20)], [⟨0, 24, .ro, 0⟩]⟩,
  -- DRW_R_THERM
  ⟨0x2010c, 32, [.pd, .ad], true, [(16, 0x20)], [⟨0, 24, .ro, 0⟩]⟩,
  -- DRW_R_STEP
  ⟨0x20110, 32, [.pd, .ad], true, [(16, 0x20)], [⟨0, 24, .ro, 0⟩]⟩,
  -- DRW_DIE_POWER
  ⟨0x20300, 32, allDies, false, [], [⟨0, 16, .ro, 0⟩]⟩,
  -- DRW_TOK_ALLOW
  ⟨0x20400, 32, [.compute], false, [], [⟨0, 14, .rw, 10240⟩, ⟨16, 14, .ro, 10240⟩]⟩,
  -- DRW_TOK_LAST
  ⟨0x20404, 32, [.compute], false, [], [⟨0, 16, .ro, 0⟩, ⟨16, 16, .ro, 0⟩]⟩,
  -- DRW_TOK_PEAK
  ⟨0x20408, 32, [.compute], false, [], [⟨0, 14, .rc, 0⟩]⟩,
  -- DRW_TOK_USED
  ⟨0x2040c, 32, [.compute], false, [], [⟨0, 32, .ro, 0⟩]⟩]

/-- Registers of TCK (window base 0x30000). -/
def regBlock30 : List RegRow := [
  -- TCK_STATUS
  ⟨0x30000, 32, allDies, false, [], [⟨0, 5, .ro, 0⟩, ⟨5, 5, .ro, 0⟩, ⟨10, 1, .ro, 0⟩]⟩,
  -- TCK_FAULT
  ⟨0x30004, 32, allDies, false, [], [⟨0, 16, .ro, 0⟩]⟩,
  -- TCK_DIST
  ⟨0x30008, 32, allDies, false, [], [⟨0, 8, .ro, 0⟩, ⟨8, 8, .ro, 0⟩, ⟨16, 8, .ro, 0⟩]⟩,
  -- TCK_LERR
  ⟨0x3000c, 32, allDies, false, [], [⟨0, 32, .ro, 0⟩]⟩,
  -- TCK_NET_CTRL
  ⟨0x30100, 32, [.td], false, [], [⟨0, 1, .rw, 0⟩, ⟨1, 1, .rw, 0⟩, ⟨2, 1, .rw, 0⟩]⟩,
  -- TCK_NET_STATUS
  ⟨0x30104, 32, [.td], false, [], [⟨0, 2, .ro, 0⟩, ⟨2, 1, .ro, 0⟩]⟩,
  -- TCK_MAC
  ⟨0x30108, 64, [.td], false, [(2, 0x8)], [⟨0, 48, .ro, 0⟩]⟩,
  -- TCK_IP
  ⟨0x30120, 128, [.td], false, [], [⟨0, 128, .rw, 0⟩]⟩,
  -- TCK_MGR
  ⟨0x30140, 256, [.td], false, [(4, 0x20)], [⟨0, 128, .rw, 0⟩, ⟨128, 1, .rw, 0⟩, ⟨129, 1, .rw, 0⟩, ⟨130, 3, .rw, 0⟩, ⟨133, 16, .rw, 0⟩, ⟨149, 16, .rw, 0⟩]⟩,
  -- TCK_PTP
  ⟨0x301c0, 32, [.td], false, [], [⟨0, 8, .rw, 0⟩, ⟨8, 1, .rw, 0⟩, ⟨9, 1, .rw, 0⟩]⟩,
  -- TCK_SMB
  ⟨0x301c4, 32, [.td, .pd, .ad], false, [], [⟨0, 7, .rw, 48⟩, ⟨7, 1, .rw, 0⟩, ⟨8, 3, .rw, 1⟩]⟩,
  -- TCK_EVQ
  ⟨0x301c8, 32, [.td], false, [], [⟨0, 11, .ro, 0⟩, ⟨16, 16, .ro, 0⟩]⟩,
  -- TCK_BLOG
  ⟨0x31000, 32, [.pd, .hd, .td, .ad], false, [(1024, 0x4)], [⟨0, 32, .ro, 0⟩]⟩]

/-- Registers of HST (window base 0x40000). -/
def regBlock40 : List RegRow := [
  -- HST_CTRL
  ⟨0x40000, 32, [.hd], false, [], [⟨0, 1, .rw, 1⟩]⟩,
  -- HST_STATUS
  ⟨0x40004, 32, [.hd], false, [], [⟨0, 1, .ro, 0⟩, ⟨1, 3, .ro, 0⟩, ⟨4, 5, .ro, 0⟩, ⟨9, 1, .ro, 0⟩, ⟨10, 16, .ro, 0⟩]⟩,
  -- HST_FAULT
  ⟨0x40008, 32, [.hd], false, [], [⟨0, 16, .ro, 0⟩]⟩,
  -- HST_IRQ_CFG
  ⟨0x4000c, 32, [.hd], false, [], [⟨0, 6, .rw, 0⟩, ⟨8, 3, .rw, 0⟩]⟩,
  -- HST_B2_BASE
  ⟨0x40010, 64, [.hd], false, [], [⟨0, 64, .rw, 0⟩]⟩,
  -- HST_AP
  ⟨0x40020, 32, [.hd], false, [(8, 0x4)], [⟨0, 9, .rw, 0⟩, ⟨9, 1, .rw, 0⟩]⟩,
  -- HST_RING
  ⟨0x40100, 256, [.hd], false, [(16, 0x20)], [⟨0, 64, .rw, 0⟩, ⟨64, 4, .rw, 0⟩, ⟨68, 1, .rw, 0⟩, ⟨96, 24, .rw, 2500⟩, ⟨128, 20, .rw, 1000⟩, ⟨160, 32, .ro, 0⟩, ⟨192, 32, .ro, 0⟩, ⟨224, 32, .ro, 0⟩]⟩,
  -- HST_MSIX
  ⟨0x48000, 32, [.hd], false, [(1024, 0x4)], [⟨0, 32, .rw, 0⟩]⟩,
  -- HST_PBA
  ⟨0x49000, 64, [.hd], false, [], [⟨0, 64, .ro, 0⟩]⟩]

/-- Registers of FAB (window base 0x50000). -/
def regBlock50 : List RegRow := [
  -- FAB_CTRL
  ⟨0x50000, 32, allDies, false, [], [⟨0, 1, .w1s, 0⟩, ⟨1, 1, .rw, 1⟩, ⟨4, 16, .rw, 1000⟩]⟩,
  -- FAB_STATUS
  ⟨0x50004, 32, allDies, false, [], [⟨0, 1, .ro, 0⟩, ⟨1, 1, .ro, 0⟩, ⟨2, 1, .ro, 1⟩, ⟨8, 6, .ro, 0⟩, ⟨14, 4, .ro, 0⟩]⟩,
  -- FAB_FAULT
  ⟨0x50008, 32, allDies, false, [], [⟨0, 16, .ro, 0⟩]⟩,
  -- FAB_REIN_CFG
  ⟨0x50010, 64, allDies, false, [], [⟨0, 64, .rw, 20023743891456⟩]⟩,
  -- FAB_REIN_LAST
  ⟨0x50020, 32, allDies, false, [(6, 0x4)], [⟨0, 32, .ro, 0⟩]⟩,
  -- FAB_DROP_LAST
  ⟨0x50038, 32, allDies, false, [], [⟨0, 16, .ro, 0⟩, ⟨16, 16, .ro, 0⟩]⟩,
  -- FAB_MESH_LAST
  ⟨0x5003c, 32, allDies, false, [], [⟨0, 16, .ro, 0⟩, ⟨16, 16, .ro, 0⟩]⟩,
  -- FAB_RIG
  ⟨0x50040, 32, allDies, false, [(4, 0x4)], [⟨0, 32, .rw, 0⟩]⟩,
  -- FAB_BTREE
  ⟨0x50050, 32, allDies, false, [], [⟨0, 1, .rw, 0⟩, ⟨1, 4, .rw, 0⟩, ⟨5, 3, .rw, 0⟩, ⟨8, 1, .rw, 0⟩]⟩,
  -- FAB_RT
  ⟨0x51000, 8, allDies, false, [(468, 0x1)], [⟨0, 8, .rw, 255⟩]⟩,
  -- FAB_TRACE1 to FAB_TRACE255; FAB_TRACE0 is reserved and reads zero
  ⟨0x52004, 32, allDies, false, [(255, 0x4)], [⟨0, 6, .rw, 0⟩, ⟨6, 6, .rw, 0⟩, ⟨12, 1, .rw, 0⟩, ⟨13, 6, .rw, 0⟩, ⟨19, 1, .rw, 0⟩, ⟨20, 4, .rw, 0⟩, ⟨24, 4, .rw, 0⟩, ⟨28, 1, .rw, 0⟩]⟩]

/-- Registers of GAL (window base 0x60000). -/
def regBlock60p0 : List RegRow := [
  -- GAL_CTRL
  ⟨0x60000, 32, [.compute], false, [], [⟨0, 1, .w1s, 0⟩, ⟨1, 2, .rw, 0⟩]⟩,
  -- GAL_TIMEOUT
  ⟨0x60004, 32, [.compute], false, [], [⟨0, 10, .rw, 20⟩]⟩,
  -- GAL_TIMEOUT_HOST
  ⟨0x60008, 32, [.compute], false, [], [⟨0, 10, .rw, 200⟩]⟩,
  -- GAL_QUOTA
  ⟨0x6000c, 32, [.compute], false, [], [⟨0, 32, .rw, 1077952576⟩]⟩,
  -- GAL_FAULT
  ⟨0x60010, 32, [.compute], false, [], [⟨0, 16, .ro, 0⟩]⟩,
  -- GAL_G_ISSUED
  ⟨0x60040, 32, [.compute], false, [(16, 0x20)], [⟨0, 32, .ro, 0⟩]⟩,
  -- GAL_G_COMPLETED
  ⟨0x60044, 32, [.compute], false, [(16, 0x20)], [⟨0, 32, .ro, 0⟩]⟩,
  -- GAL_G_CURSOR
  ⟨0x60048, 32, [.compute], false, [(16, 0x20)], [⟨0, 32, .ro, 0⟩]⟩,
  -- GAL_G_FULL
  ⟨0x6004c, 32, [.compute], false, [(16, 0x20)], [⟨0, 32, .ro, 0⟩]⟩,
  -- GAL_G_QWAIT
  ⟨0x60050, 32, [.compute], false, [(16, 0x20)], [⟨0, 16, .ro, 0⟩, ⟨16, 16, .ro, 0⟩]⟩,
  -- GAL_DESC
  ⟨0x60800, 128, [.compute], false, [(16, 0x10)], [⟨0, 38, .rw, 0⟩, ⟨38, 32, .rw, 0⟩, ⟨70, 1, .rw, 0⟩, ⟨71, 8, .rw, 0⟩, ⟨79, 1, .rw, 0⟩]⟩,
  -- GAL_MD_STATUS
  ⟨0x61000, 32, [.memory], false, [], [⟨0, 12, .ro, 0⟩, ⟨12, 11, .ro, 0⟩, ⟨23, 1, .ro, 0⟩]⟩,
  -- GAL_CH_LECC
  ⟨0x61100, 32, [.memory], false, [(8, 0x20)], [⟨0, 32, .ro, 0⟩]⟩,
  -- GAL_CH_RETRY
  ⟨0x61104, 32, [.memory], false, [(8, 0x20)], [⟨0, 32, .ro, 0⟩]⟩,
  -- GAL_CH_CRC
  ⟨0x61108, 32, [.memory], false, [(8, 0x20)], [⟨0, 32, .ro, 0⟩]⟩,
  -- GAL_CH_ODECC
  ⟨0x6110c, 32, [.memory], false, [(8, 0x20)], [⟨0, 32, .ro, 0⟩]⟩,
  -- GAL_CH_REFCOL
  ⟨0x61110, 32, [.memory], false, [(8, 0x20)], [⟨0, 32, .ro, 0⟩]⟩,
  -- GAL_CH_FOXRD
  ⟨0x61114, 32, [.memory], false, [(8, 0x20)], [⟨0, 32, .ro, 0⟩]⟩,
  -- GAL_CH_TEMP
  ⟨0x61118, 32, [.memory], false, [(8, 0x20)], [⟨0, 32, .ro, 0⟩]⟩,
  -- GAL_SO_LAG
  ⟨0x61200, 32, [.memory], false, [(64, 0x4)], [⟨0, 32, .ro, 0⟩]⟩]

/-- Registers of GAL (window base 0x60000). -/
def regBlock60p1 : List RegRow := [
  -- GAL_SO_CTRL
  ⟨0x62000, 32, [.pd, .ad], true, [], [⟨0, 6, .rw, 0⟩, ⟨6, 1, .w1s, 0⟩]⟩,
  -- GAL_SO_ACK_WAIT
  ⟨0x62004, 32, [.pd, .ad], true, [], [⟨0, 16, .rw, 20⟩]⟩,
  -- GAL_SO_UNMIRRORED
  ⟨0x62008, 64, [.pd, .ad], true, [], [⟨0, 64, .ro, 0⟩]⟩,
  -- GAL_SO_ACKED
  ⟨0x62100, 32, [.pd, .ad], true, [(64, 0x4)], [⟨0, 32, .ro, 0⟩]⟩]

/-- Registers of GAL (window base 0x60000). -/
def regBlock60 : List RegRow := regBlock60p0 ++ regBlock60p1

/-- Registers of SPR (window base 0x70000). -/
def regBlock70 : List RegRow := [
  -- SPR_CTRL
  ⟨0x70000, 32, [.compute], false, [], [⟨0, 1, .rw, 1⟩, ⟨1, 1, .w1s, 0⟩, ⟨2, 2, .rw, 0⟩, ⟨4, 12, .rw, 16⟩]⟩,
  -- SPR_STATUS
  ⟨0x70004, 32, [.compute], false, [], [⟨0, 4, .ro, 0⟩, ⟨4, 4, .ro, 0⟩]⟩,
  -- SPR_FAULT
  ⟨0x70008, 32, [.compute], false, [], [⟨0, 16, .ro, 0⟩]⟩,
  -- SPR_PAR_LOG
  ⟨0x70010, 64, [.compute], false, [], [⟨0, 21, .ro, 0⟩, ⟨21, 2, .ro, 0⟩, ⟨23, 8, .ro, 0⟩, ⟨32, 32, .ro, 0⟩]⟩,
  -- SPR_SB_USED
  ⟨0x70018, 32, [.compute], false, [], [⟨0, 32, .ro, 0⟩]⟩,
  -- SPR_C_BANK_HOLD
  ⟨0x70040, 32, [.compute], false, [(4, 0x20)], [⟨0, 32, .ro, 0⟩]⟩,
  -- SPR_C_SB_HOLD
  ⟨0x70044, 32, [.compute], false, [(4, 0x20)], [⟨0, 32, .ro, 0⟩]⟩,
  -- SPR_C_SB_FULL
  ⟨0x70048, 32, [.compute], false, [(4, 0x20)], [⟨0, 32, .ro, 0⟩]⟩,
  -- SPR_C_PAR
  ⟨0x7004c, 32, [.compute], false, [(4, 0x20)], [⟨0, 32, .ro, 0⟩]⟩,
  -- SPR_C_NAN_SQUASH
  ⟨0x70050, 32, [.compute], false, [(4, 0x20)], [⟨0, 32, .ro, 0⟩]⟩,
  -- SPR_C_REJECT
  ⟨0x70054, 32, [.compute], false, [(4, 0x20)], [⟨0, 32, .ro, 0⟩]⟩,
  -- SPR_C_LANDED
  ⟨0x70058, 32, [.compute], false, [(4, 0x20)], [⟨0, 32, .ro, 0⟩]⟩,
  -- SPR_WIN
  ⟨0x70800, 128, [.compute], false, [(4, 0x200), (32, 0x10)], [⟨0, 21, .rw, 0⟩, ⟨21, 21, .rw, 0⟩, ⟨42, 9, .rw, 0⟩, ⟨51, 1, .rw, 0⟩, ⟨52, 2, .rw, 0⟩, ⟨54, 1, .rw, 0⟩, ⟨55, 8, .rw, 0⟩, ⟨63, 1, .rw, 0⟩, ⟨64, 21, .rw, 0⟩, ⟨85, 1, .rw, 0⟩]⟩,
  -- SPR_WSTATE
  ⟨0x71000, 32, [.compute], false, [(4, 0x80), (32, 0x4)], [⟨0, 21, .ro, 0⟩, ⟨21, 1, .ro, 0⟩]⟩,
  -- SPR_CDESC
  ⟨0x71200, 256, [.compute], false, [(16, 0x20)], [⟨0, 21, .rw, 0⟩, ⟨21, 12, .rw, 0⟩, ⟨33, 21, .rw, 0⟩, ⟨54, 12, .rw, 0⟩, ⟨66, 21, .rw, 0⟩, ⟨87, 21, .rw, 0⟩, ⟨108, 21, .rw, 0⟩, ⟨129, 12, .rw, 0⟩, ⟨141, 21, .rw, 0⟩, ⟨162, 21, .rw, 0⟩, ⟨183, 21, .rw, 0⟩, ⟨204, 8, .rw, 0⟩, ⟨212, 8, .rw, 0⟩, ⟨220, 3, .rw, 0⟩, ⟨223, 1, .rw, 0⟩, ⟨224, 4, .rw, 0⟩, ⟨228, 2, .rw, 0⟩, ⟨230, 1, .rw, 0⟩, ⟨231, 1, .rw, 0⟩, ⟨232, 1, .rw, 0⟩, ⟨233, 12, .rw, 0⟩]⟩]

/-- Registers of JUS (window base 0x80000). -/
def regBlock80 : List RegRow := [
  -- JUS_STATUS
  ⟨0x80000, 32, [.compute], false, [], [⟨0, 1, .ro, 0⟩, ⟨1, 1, .ro, 0⟩, ⟨2, 1, .ro, 0⟩, ⟨3, 4, .ro, 0⟩]⟩,
  -- JUS_FAULT
  ⟨0x80008, 64, [.compute], false, [], [⟨0, 16, .ro, 0⟩, ⟨16, 4, .ro, 0⟩, ⟨32, 32, .ro, 0⟩]⟩,
  -- JUS_GATE_LAST
  ⟨0x80010, 64, [.compute], false, [], [⟨0, 16, .ro, 0⟩, ⟨16, 16, .ro, 0⟩, ⟨32, 16, .ro, 0⟩, ⟨48, 16, .ro, 0⟩]⟩,
  -- JUS_JUST_LAST
  ⟨0x80018, 64, [.compute], false, [], [⟨0, 32, .ro, 0⟩, ⟨32, 32, .ro, 0⟩]⟩,
  -- JUS_MERGE_LAST
  ⟨0x80020, 32, [.compute], false, [], [⟨0, 32, .ro, 0⟩]⟩,
  -- JUS_GATE
  ⟨0x80100, 64, [.compute], false, [(16, 0x8)], [⟨0, 10, .rw, 0⟩, ⟨10, 4, .rw, 0⟩, ⟨14, 14, .rw, 0⟩, ⟨28, 15, .rw, 0⟩, ⟨43, 11, .rw, 0⟩, ⟨54, 2, .rw, 0⟩, ⟨56, 1, .rw, 0⟩, ⟨57, 1, .rw, 0⟩, ⟨58, 2, .rw, 0⟩, ⟨60, 1, .rw, 0⟩]⟩,
  -- JUS_JDESC
  ⟨0x80200, 128, [.compute], false, [(16, 0x10)], [⟨0, 4, .rw, 0⟩, ⟨4, 4, .rw, 0⟩, ⟨8, 6, .rw, 0⟩, ⟨14, 1, .rw, 0⟩, ⟨15, 1, .rw, 0⟩, ⟨16, 13, .rw, 0⟩, ⟨29, 13, .rw, 0⟩, ⟨42, 21, .rw, 0⟩, ⟨63, 21, .rw, 0⟩]⟩,
  -- JUS_MDESC
  ⟨0x80400, 256, [.compute], false, [(16, 0x20)], [⟨0, 2, .rw, 0⟩, ⟨2, 3, .rw, 0⟩, ⟨5, 6, .rw, 0⟩, ⟨11, 4, .rw, 0⟩, ⟨15, 1, .rw, 0⟩, ⟨16, 1, .rw, 0⟩, ⟨17, 15, .rw, 0⟩, ⟨32, 21, .rw, 0⟩, ⟨64, 13, .rw, 0⟩, ⟨77, 21, .rw, 0⟩, ⟨98, 13, .rw, 0⟩, ⟨111, 21, .rw, 0⟩, ⟨132, 13, .rw, 0⟩, ⟨145, 21, .rw, 0⟩, ⟨166, 13, .rw, 0⟩, ⟨179, 21, .rw, 0⟩]⟩,
  -- JUS_ETAB
  ⟨0x90000, 32, [.compute], false, [(16384, 0x4)], [⟨0, 14, .rw, 0⟩, ⟨14, 12, .rw, 0⟩, ⟨26, 1, .rw, 0⟩]⟩]

/-- Registers of ERR (window base 0xa0000). -/
def regBlockA0 : List RegRow := [
  -- ERR_CTRL
  ⟨0xa0000, 32, [.compute], false, [], [⟨0, 1, .rw, 1⟩, ⟨1, 1, .w1s, 0⟩]⟩,
  -- ERR_STATUS
  ⟨0xa0004, 32, [.compute], false, [], [⟨0, 5, .ro, 0⟩, ⟨5, 4, .ro, 0⟩, ⟨16, 16, .ro, 0⟩]⟩,
  -- ERR_FAULT
  ⟨0xa0008, 32, [.compute, .pd, .ad], true, [], [⟨0, 16, .ro, 0⟩]⟩,
  -- ERR_MARK_LAST
  ⟨0xa000c, 32, [.compute], false, [], [⟨0, 8, .ro, 0⟩, ⟨8, 8, .ro, 0⟩, ⟨16, 8, .ro, 0⟩, ⟨24, 8, .ro, 0⟩]⟩,
  -- ERR_RP_CFG
  ⟨0xa0010, 32, [.compute], false, [], [⟨0, 8, .rw, 20⟩]⟩,
  -- ERR_RSV
  ⟨0xa0020, 32, [.compute], false, [(8, 0x4)], [⟨0, 9, .rw, 0⟩, ⟨9, 4, .rw, 0⟩, ⟨13, 1, .rw, 0⟩]⟩,
  -- ERR_RP
  ⟨0xa0040, 128, [.compute], false, [(4, 0x10)], [⟨0, 3, .ro, 0⟩, ⟨3, 1, .ro, 0⟩, ⟨4, 9, .ro, 0⟩, ⟨13, 2, .ro, 0⟩, ⟨15, 1, .ro, 0⟩, ⟨16, 9, .ro, 0⟩, ⟨25, 9, .ro, 0⟩, ⟨34, 1, .ro, 0⟩, ⟨64, 32, .ro, 0⟩]⟩,
  -- ERR_HB_CFG
  ⟨0xa0100, 32, [.pd, .ad], true, [], [⟨0, 4, .rw, 3⟩, ⟨8, 8, .rw, 40⟩]⟩,
  -- ERR_LA_CFG
  ⟨0xa0104, 32, [.pd, .ad], true, [], [⟨0, 16, .rw, 128⟩, ⟨16, 16, .rw, 1024⟩]⟩,
  -- ERR_ML_CFG
  ⟨0xa0108, 32, [.pd, .ad], true, [], [⟨0, 8, .rw, 8⟩]⟩,
  -- ERR_LOST
  ⟨0xa0110, 64, [.pd, .ad], true, [], [⟨0, 9, .ro, 0⟩, ⟨9, 3, .ro, 0⟩, ⟨16, 48, .ro, 0⟩]⟩,
  -- ERR_R_CFG
  ⟨0xa0200, 32, [.pd, .ad], true, [(16, 0x10)], [⟨0, 4, .rw, 1⟩, ⟨4, 4, .rw, 3⟩, ⟨8, 4, .rw, 2⟩, ⟨12, 1, .w1s, 0⟩]⟩,
  -- ERR_R_STATE
  ⟨0xa0204, 32, [.pd, .ad], true, [(16, 0x10)], [⟨0, 8, .ro, 0⟩, ⟨8, 8, .ro, 0⟩, ⟨16, 4, .ro, 0⟩, ⟨20, 4, .ro, 0⟩]⟩,
  -- ERR_R_COUNT
  ⟨0xa0208, 32, [.pd, .ad], true, [(16, 0x10)], [⟨0, 16, .ro, 0⟩, ⟨16, 16, .ro, 0⟩]⟩,
  -- ERR_R_LAST
  ⟨0xa020c, 32, [.pd, .ad], true, [(16, 0x10)], [⟨0, 16, .ro, 0⟩, ⟨16, 16, .ro, 0⟩]⟩,
  -- ERR_SUSPECT
  ⟨0xa1000, 16, [.pd, .ad], true, [(400, 0x2)], [⟨0, 1, .ro, 0⟩, ⟨1, 1, .ro, 0⟩, ⟨2, 1, .ro, 0⟩, ⟨3, 13, .ro, 0⟩]⟩,
  -- ERR_PASSLOG
  ⟨0xa4000, 256, [.compute], false, [(16, 0x400), (32, 0x20)], [⟨0, 64, .ro, 0⟩, ⟨64, 64, .ro, 0⟩, ⟨128, 32, .ro, 0⟩, ⟨160, 32, .ro, 0⟩, ⟨192, 1, .ro, 0⟩, ⟨193, 1, .ro, 0⟩]⟩]

/-- Registers of DEN (window base 0xa8000). -/
def regBlockA8 : List RegRow := [
  -- DEN_CTRL
  ⟨0xa8000, 32, [.compute], false, [], [⟨0, 1, .w1s, 0⟩, ⟨1, 2, .rw, 0⟩]⟩,
  -- DEN_STATUS
  ⟨0xa8004, 32, [.compute], false, [], [⟨0, 4, .ro, 0⟩, ⟨4, 8, .ro, 0⟩, ⟨12, 4, .ro, 0⟩, ⟨16, 4, .ro, 0⟩, ⟨20, 4, .ro, 0⟩]⟩,
  -- DEN_CHECK_CFG
  ⟨0xa8008, 32, [.compute], false, [], [⟨0, 4, .rw, 2⟩, ⟨4, 1, .rw, 1⟩, ⟨5, 1, .rw, 1⟩, ⟨6, 1, .rw, 0⟩]⟩,
  -- DEN_FAULT
  ⟨0xa800c, 32, [.compute], false, [], [⟨0, 16, .ro, 0⟩]⟩,
  -- DEN_SUSPECT_COUNT
  ⟨0xa8010, 32, [.compute], false, [], [⟨0, 5, .ro, 0⟩]⟩,
  -- DEN_C_ROWS
  ⟨0xa8040, 32, [.compute], false, [(4, 0x20)], [⟨0, 32, .ro, 0⟩]⟩,
  -- DEN_C_CHECKS
  ⟨0xa8044, 32, [.compute], false, [(4, 0x20)], [⟨0, 32, .ro, 0⟩]⟩,
  -- DEN_C_MISMATCH
  ⟨0xa8048, 32, [.compute], false, [(4, 0x20)], [⟨0, 32, .ro, 0⟩]⟩,
  -- DEN_C_BOUND_FAIL
  ⟨0xa804c, 32, [.compute], false, [(4, 0x20)], [⟨0, 32, .ro, 0⟩]⟩,
  -- DEN_C_SAT
  ⟨0xa8050, 32, [.compute], false, [(4, 0x20)], [⟨0, 32, .ro, 0⟩]⟩,
  -- DEN_C_NONFINITE
  ⟨0xa8054, 32, [.compute], false, [(4, 0x20)], [⟨0, 32, .ro, 0⟩]⟩,
  -- DEN_C_FOXED
  ⟨0xa8058, 32, [.compute], false, [(4, 0x20)], [⟨0, 32, .ro, 0⟩]⟩,
  -- DEN_BOUND
  ⟨0xa8200, 128, [.compute], false, [(16, 0x10)], [⟨0, 32, .rw, 0⟩, ⟨32, 32, .rw, 0⟩, ⟨64, 32, .rw, 0⟩, ⟨96, 9, .rw, 0⟩, ⟨105, 1, .rw, 0⟩]⟩,
  -- DEN_SUSPECT
  ⟨0xa8300, 128, [.compute], false, [(16, 0x10)], [⟨0, 32, .ro, 0⟩, ⟨32, 9, .ro, 0⟩, ⟨41, 9, .ro, 0⟩, ⟨50, 2, .ro, 0⟩, ⟨52, 5, .ro, 0⟩, ⟨57, 1, .ro, 0⟩, ⟨64, 32, .ro, 0⟩]⟩]

/-- Registers of SPA (window base 0xac000). -/
def regBlockAC : List RegRow := [
  -- SPA_CTRL
  ⟨0xac000, 32, [.compute], false, [], [⟨0, 1, .w1s, 0⟩, ⟨1, 2, .rw, 0⟩, ⟨3, 1, .w1s, 0⟩]⟩,
  -- SPA_STATUS
  ⟨0xac004, 32, [.compute], false, [], [⟨0, 8, .ro, 0⟩, ⟨8, 8, .ro, 0⟩, ⟨16, 8, .ro, 0⟩, ⟨24, 4, .ro, 0⟩, ⟨28, 4, .ro, 0⟩]⟩,
  -- SPA_FAULT
  ⟨0xac008, 32, [.compute], false, [], [⟨0, 16, .ro, 0⟩]⟩,
  -- SPA_SUSPECT_COUNT
  ⟨0xac00c, 32, [.compute], false, [], [⟨0, 5, .ro, 0⟩]⟩,
  -- SPA_META_FAULT
  ⟨0xac010, 64, [.compute], false, [], [⟨0, 32, .ro, 0⟩, ⟨32, 2, .ro, 0⟩, ⟨34, 1, .ro, 0⟩, ⟨35, 8, .ro, 0⟩, ⟨43, 6, .ro, 0⟩, ⟨49, 3, .ro, 0⟩, ⟨52, 1, .ro, 0⟩]⟩,
  -- SPA_C_ROWS
  ⟨0xac040, 32, [.compute], false, [(4, 0x20)], [⟨0, 32, .ro, 0⟩]⟩,
  -- SPA_C_CHECKS
  ⟨0xac044, 32, [.compute], false, [(4, 0x20)], [⟨0, 32, .ro, 0⟩]⟩,
  -- SPA_C_MISMATCH
  ⟨0xac048, 32, [.compute], false, [(4, 0x20)], [⟨0, 32, .ro, 0⟩]⟩,
  -- SPA_C_BOUND_FAIL
  ⟨0xac04c, 32, [.compute], false, [(4, 0x20)], [⟨0, 32, .ro, 0⟩]⟩,
  -- SPA_C_META_FAIL
  ⟨0xac050, 32, [.compute], false, [(4, 0x20)], [⟨0, 32, .ro, 0⟩]⟩,
  -- SPA_C_PRUNED
  ⟨0xac054, 32, [.compute], false, [(4, 0x20)], [⟨0, 32, .ro, 0⟩]⟩,
  -- SPA_C_FOXED
  ⟨0xac058, 32, [.compute], false, [(4, 0x20)], [⟨0, 32, .ro, 0⟩]⟩,
  -- SPA_C_NONFIN_SAT
  ⟨0xac05c, 32, [.compute], false, [(4, 0x20)], [⟨0, 16, .ro, 0⟩, ⟨16, 16, .ro, 0⟩]⟩,
  -- SPA_SUSPECT
  ⟨0xac300, 128, [.compute], false, [(16, 0x10)], [⟨0, 32, .ro, 0⟩, ⟨32, 8, .ro, 0⟩, ⟨40, 8, .ro, 0⟩, ⟨48, 2, .ro, 0⟩, ⟨50, 5, .ro, 0⟩, ⟨55, 1, .ro, 0⟩, ⟨64, 32, .ro, 0⟩]⟩]

/-- Registers of PWR (window base 0xb0000). -/
def regBlockB0 : List RegRow := [
  -- PWR_CTRL
  ⟨0xb0000, 32, allDies, false, [], [⟨0, 1, .w1s, 0⟩, ⟨1, 2, .rw, 0⟩]⟩,
  -- PWR_STATUS
  ⟨0xb0004, 32, allDies, false, [], [⟨0, 1, .ro, 0⟩, ⟨1, 1, .ro, 0⟩, ⟨2, 1, .ro, 0⟩, ⟨3, 1, .ro, 0⟩, ⟨4, 4, .ro, 0⟩, ⟨8, 1, .ro, 0⟩]⟩,
  -- PWR_FAULT
  ⟨0xb0008, 32, allDies, false, [], [⟨0, 16, .ro, 0⟩]⟩,
  -- PWR_SEQ_CFG
  ⟨0xb000c, 32, allDies, false, [], [⟨0, 4, .rw, 4⟩, ⟨4, 4, .rw, 8⟩, ⟨8, 8, .rw, 18⟩, ⟨16, 8, .rw, 6⟩, ⟨24, 7, .rw, 85⟩]⟩,
  -- PWR_TRIM
  ⟨0xb0010, 32, allDies, false, [], [⟨0, 32, .rw, 0⟩]⟩,
  -- PWR_VSET
  ⟨0xb0014, 32, allDies, false, [], [⟨0, 10, .rw, 750⟩]⟩,
  -- PWR_DOM
  ⟨0xb0020, 32, allDies, false, [(5, 0x4)], [⟨0, 3, .ro, 0⟩, ⟨3, 3, .ro, 0⟩, ⟨6, 4, .ro, 0⟩, ⟨10, 1, .ro, 0⟩, ⟨11, 1, .w1s, 0⟩, ⟨12, 1, .w1s, 0⟩]⟩,
  -- PWR_REG
  ⟨0xb0040, 64, allDies, false, [(4, 0x8)], [⟨0, 8, .ro, 255⟩, ⟨8, 4, .ro, 0⟩, ⟨16, 12, .ro, 0⟩, ⟨28, 7, .ro, 0⟩, ⟨48, 10, .ro, 0⟩]⟩,
  -- PWR_GRP
  ⟨0xb1000, 128, [.pd, .ad], true, [(112, 0x10)], [⟨0, 16, .rw, 0⟩, ⟨16, 16, .ro, 0⟩, ⟨32, 16, .ro, 0⟩, ⟨48, 16, .ro, 0⟩, ⟨64, 12, .ro, 0⟩, ⟨76, 1, .ro, 0⟩]⟩,
  -- PWR_RAIL
  ⟨0xb1800, 64, [.pd, .ad], true, [], [⟨0, 16, .ro, 0⟩, ⟨16, 16, .rw, 17500⟩, ⟨32, 16, .ro, 0⟩, ⟨48, 16, .ro, 0⟩]⟩,
  -- PWR_RST_CTRL
  ⟨0xb0080, 32, [.pd, .ad], true, [], [⟨0, 3, .rw, 0⟩, ⟨3, 1, .w1s, 0⟩, ⟨4, 4, .rw, 0⟩, ⟨8, 9, .rw, 0⟩, ⟨17, 2, .rw, 0⟩]⟩,
  -- PWR_RST_STATUS
  ⟨0xb0084, 32, [.pd, .ad], true, [], [⟨0, 1, .ro, 0⟩, ⟨1, 4, .ro, 0⟩, ⟨5, 1, .ro, 0⟩, ⟨6, 1, .w1c, 0⟩, ⟨7, 3, .ro, 0⟩, ⟨10, 1, .ro, 0⟩, ⟨11, 1, .ro, 0⟩, ⟨12, 1, .ro, 0⟩, ⟨13, 1, .ro, 0⟩, ⟨14, 1, .ro, 0⟩]⟩,
  -- PWR_BOOT
  ⟨0xb0088, 32, [.pd, .ad], true, [], [⟨0, 32, .ro, 0⟩]⟩,
  -- PWR_BU_LOG
  ⟨0xb00c0, 32, [.pd, .ad], true, [(16, 0x4)], [⟨0, 24, .ro, 0⟩]⟩]

/-- Registers of THM (window base 0xb4000). -/
def regBlockB4 : List RegRow := [
  -- THM_STATUS
  ⟨0xb4000, 32, allDies, false, [], [⟨0, 1, .ro, 0⟩, ⟨1, 1, .ro, 0⟩, ⟨2, 1, .ro, 0⟩, ⟨4, 5, .ro, 0⟩]⟩,
  -- THM_TEMP
  ⟨0xb4004, 32, allDies, false, [], [⟨0, 10, .ro, 0⟩, ⟨16, 10, .ro, 0⟩]⟩,
  -- THM_CL
  ⟨0xb4008, 32, allDies, false, [(5, 0x4)], [⟨0, 10, .ro, 0⟩, ⟨10, 4, .ro, 0⟩]⟩,
  -- THM_MODEL
  ⟨0xb4020, 32, allDies, false, [], [⟨0, 12, .rw, 450⟩, ⟨12, 8, .rw, 20⟩, ⟨20, 8, .rw, 128⟩]⟩,
  -- THM_WARM
  ⟨0xb4024, 32, allDies, false, [], [⟨0, 8, .rw, 50⟩, ⟨8, 5, .rw, 16⟩]⟩,
  -- THM_FAULT
  ⟨0xb4028, 32, allDies, false, [], [⟨0, 16, .ro, 0⟩]⟩,
  -- THM_CFG
  ⟨0xb4100, 32, [.pd, .ad, .td], false, [], [⟨0, 8, .rw, 95⟩, ⟨8, 8, .rw, 100⟩, ⟨16, 8, .rw, 105⟩, ⟨24, 8, .rw, 10⟩]⟩,
  -- THM_COOL
  ⟨0xb4104, 32, [.pd, .ad, .td], false, [], [⟨0, 10, .ro, 0⟩, ⟨16, 10, .ro, 0⟩]⟩,
  -- THM_FLOW
  ⟨0xb4108, 32, [.pd, .ad, .td], false, [], [⟨0, 10, .ro, 0⟩, ⟨10, 1, .ro, 0⟩, ⟨11, 2, .ro, 0⟩, ⟨13, 1, .ro, 0⟩]⟩,
  -- THM_SUSTAIN
  ⟨0xb410c, 32, [.pd, .ad, .td], false, [], [⟨0, 16, .rw, 200⟩]⟩]

/-- Registers of BST (window base 0xb8000). -/
def regBlockB8 : List RegRow := [
  -- BST_CTRL
  ⟨0xb8000, 32, allDies, false, [], [⟨0, 1, .w1s, 0⟩, ⟨1, 1, .w1s, 0⟩, ⟨2, 2, .rw, 0⟩, ⟨4, 3, .rw, 0⟩, ⟨8, 5, .rw, 0⟩]⟩,
  -- BST_STATUS
  ⟨0xb8004, 32, allDies, false, [], [⟨0, 1, .ro, 0⟩, ⟨1, 1, .w1c, 0⟩, ⟨2, 1, .w1c, 0⟩, ⟨3, 1, .w1c, 0⟩]⟩,
  -- BST_RESULT
  ⟨0xb8008, 32, allDies, false, [], [⟨0, 2, .ro, 0⟩, ⟨2, 8, .ro, 0⟩]⟩,
  -- BST_SEED
  ⟨0xb800c, 32, allDies, false, [], [⟨0, 32, .rw, 0⟩]⟩,
  -- BST_REPORT
  ⟨0xb8010, 32, allDies, false, [(4, 0x4)], [⟨0, 2, .ro, 0⟩, ⟨2, 1, .ro, 0⟩, ⟨8, 5, .ro, 0⟩]⟩,
  -- BST_BUNDLE_FAIL
  ⟨0xb8020, 64, allDies, false, [], [⟨0, 64, .ro, 0⟩]⟩,
  -- BST_FAULT
  ⟨0xb8028, 32, allDies, false, [], [⟨0, 16, .ro, 0⟩]⟩,
  -- BST_FP_SEQ
  ⟨0xb8030, 32, [.pd, .ad], true, [], [⟨0, 32, .ro, 0⟩]⟩,
  -- BST_FP_ADDR
  ⟨0xb8038, 64, [.pd, .ad], true, [], [⟨0, 64, .ro, 0⟩]⟩,
  -- BST_FP_DIGEST
  ⟨0xb8040, 384, [.pd, .ad], true, [], [⟨0, 384, .ro, 0⟩]⟩]

/-- Registers of FRM (window base 0xba000). -/
def regBlockBA : List RegRow := [
  -- FRM_CTRL
  ⟨0xba000, 32, [.pd, .ad], true, [], [⟨0, 1, .w1s, 0⟩, ⟨1, 1, .w1s, 0⟩, ⟨2, 1, .rw, 0⟩]⟩,
  -- FRM_STATUS
  ⟨0xba004, 32, [.pd, .ad], true, [], [⟨0, 1, .ro, 0⟩, ⟨1, 4, .ro, 0⟩, ⟨5, 4, .ro, 0⟩, ⟨9, 1, .ro, 0⟩, ⟨10, 9, .ro, 0⟩, ⟨19, 9, .ro, 0⟩]⟩,
  -- FRM_FAULT
  ⟨0xba008, 32, [.pd, .ad], true, [], [⟨0, 16, .ro, 0⟩]⟩,
  -- FRM_SRC_ADDR
  ⟨0xba010, 64, [.pd, .ad], true, [], [⟨0, 64, .rw, 0⟩]⟩,
  -- FRM_SRC_LEN
  ⟨0xba018, 64, [.pd, .ad], true, [], [⟨0, 64, .rw, 0⟩]⟩,
  -- FRM_DETAIL
  ⟨0xba020, 64, [.pd, .ad], true, [], [⟨0, 16, .ro, 0⟩, ⟨16, 32, .ro, 0⟩, ⟨48, 16, .ro, 0⟩]⟩,
  -- FRM_CONFLICT
  ⟨0xba028, 64, [.pd, .ad], true, [], [⟨0, 4, .ro, 0⟩, ⟨4, 32, .ro, 0⟩, ⟨36, 8, .ro, 0⟩, ⟨44, 8, .ro, 0⟩]⟩,
  -- FRM_R_STATE
  ⟨0xba100, 32, [.pd, .ad], true, [(16, 0x10)], [⟨0, 3, .ro, 0⟩, ⟨3, 1, .ro, 0⟩]⟩,
  -- FRM_R_SEQ
  ⟨0xba104, 32, [.pd, .ad], true, [(16, 0x10)], [⟨0, 32, .ro, 0⟩]⟩,
  -- FRM_R_IMP
  ⟨0xba108, 32, [.pd, .ad], true, [(16, 0x10)], [⟨0, 3, .ro, 0⟩, ⟨4, 3, .rw, 0⟩, ⟨7, 1, .w1s, 0⟩, ⟨8, 1, .ro, 0⟩, ⟨9, 3, .ro, 0⟩]⟩,
  -- FRM_R_GAP
  ⟨0xba10c, 32, [.pd, .ad], true, [(16, 0x10)], [⟨0, 32, .ro, 0⟩]⟩]

/-- Registers of SEC (window base 0xbc000). -/
def regBlockBC : List RegRow := [
  -- SEC_CTRL
  ⟨0xbc000, 32, [.pd, .ad], false, [], [⟨0, 1, .w1s, 0⟩, ⟨1, 1, .w1s, 0⟩]⟩,
  -- SEC_STATUS
  ⟨0xbc004, 32, [.pd, .ad], false, [], [⟨0, 1, .ro, 0⟩, ⟨1, 1, .ro, 0⟩, ⟨2, 4, .ro, 0⟩, ⟨6, 4, .ro, 0⟩, ⟨10, 4, .ro, 0⟩]⟩,
  -- SEC_FAULT
  ⟨0xbc008, 32, [.pd, .ad], false, [], [⟨0, 16, .ro, 0⟩]⟩,
  -- SEC_CMD_ADDR
  ⟨0xbc010, 64, [.pd, .ad], false, [], [⟨0, 64, .rw, 0⟩]⟩,
  -- SEC_SERIAL
  ⟨0xbc018, 64, [.pd, .ad], false, [], [⟨0, 64, .ro, 0⟩]⟩,
  -- SEC_MIN_SVN
  ⟨0xbc020, 32, [.pd, .ad], false, [], [⟨0, 32, .ro, 0⟩]⟩,
  -- SEC_IDKEY
  ⟨0xbc040, 392, [.pd, .ad], false, [], [⟨0, 392, .ro, 0⟩]⟩,
  -- SEC_NONCE
  ⟨0xbc080, 256, [.pd, .ad], false, [], [⟨0, 256, .rw, 0⟩]⟩,
  -- SEC_OWNER_ID
  ⟨0xbc100, 64, [.pd, .ad], false, [(4, 0x8)], [⟨0, 64, .ro, 0⟩]⟩,
  -- SEC_REPORT
  ⟨0xbc200, 2560, [.pd, .ad], false, [], [⟨0, 2560, .ro, 0⟩]⟩]

/-- Registers of LNK (window base 0xc0000). -/
def regBlockC0p0 : List RegRow := [
  -- LNK_CTRL
  ⟨0xc0000, 32, [.link, .pd, .ad], false, [], [⟨0, 1, .w1s, 0⟩, ⟨1, 1, .rw, 1⟩, ⟨2, 4, .w1s, 0⟩]⟩,
  -- LNK_STATUS
  ⟨0xc0004, 32, [.link, .pd, .ad], false, [], [⟨0, 1, .ro, 0⟩, ⟨1, 1, .ro, 0⟩, ⟨2, 4, .ro, 0⟩, ⟨6, 4, .ro, 0⟩]⟩,
  -- LNK_FAULT
  ⟨0xc0008, 32, [.link], false, [], [⟨0, 16, .ro, 0⟩]⟩,
  -- LNK_PANEL_ID
  ⟨0xc000c, 32, [.link], false, [], [⟨0, 12, .rw, 4095⟩]⟩,
  -- LNK_MARGIN_CFG
  ⟨0xc0010, 32, [.link], false, [], [⟨0, 12, .rw, 40⟩, ⟨12, 12, .rw, 25⟩, ⟨24, 4, .rw, 5⟩]⟩,
  -- LNK_RETRY_USED
  ⟨0xc0014, 32, [.link], false, [], [⟨0, 32, .ro, 0⟩]⟩,
  -- LNK_P_ROLE
  ⟨0xc0100, 32, [.link], false, [(4, 0x40)], [⟨0, 2, .rw, 0⟩, ⟨2, 1, .rw, 0⟩, ⟨3, 4, .rw, 0⟩, ⟨7, 1, .rw, 0⟩]⟩,
  -- LNK_P_STATE
  ⟨0xc0104, 32, [.link], false, [(4, 0x40)], [⟨0, 3, .ro, 0⟩, ⟨3, 1, .ro, 0⟩]⟩,
  -- LNK_P_TX
  ⟨0xc0108, 32, [.link], false, [(4, 0x40)], [⟨0, 32, .ro, 0⟩]⟩,
  -- LNK_P_RX
  ⟨0xc010c, 32, [.link], false, [(4, 0x40)], [⟨0, 32, .ro, 0⟩]⟩,
  -- LNK_P_RETX
  ⟨0xc0110, 32, [.link], false, [(4, 0x40)], [⟨0, 32, .ro, 0⟩]⟩,
  -- LNK_P_FEC_CORR
  ⟨0xc0114, 32, [.link], false, [(4, 0x40)], [⟨0, 32, .ro, 0⟩]⟩,
  -- LNK_P_FEC_UNCORR
  ⟨0xc0118, 32, [.link], false, [(4, 0x40)], [⟨0, 32, .ro, 0⟩]⟩,
  -- LNK_P_CRC
  ⟨0xc011c, 32, [.link], false, [(4, 0x40)], [⟨0, 32, .ro, 0⟩]⟩,
  -- LNK_P_DROP
  ⟨0xc0120, 32, [.link], false, [(4, 0x40)], [⟨0, 32, .ro, 0⟩]⟩,
  -- LNK_L_MARGIN
  ⟨0xc0200, 32, [.link], false, [(32, 0x4)], [⟨0, 12, .ro, 0⟩, ⟨12, 20, .ro, 0⟩]⟩,
  -- LNK_PT
  ⟨0xd0000, 32, [.link], false, [(4096, 0x4)], [⟨0, 32, .rw, 4294967295⟩]⟩,
  -- LNK_CTX
  ⟨0xe0000, 256, [.link], false, [(128, 0x20)], [⟨0, 1, .rw, 0⟩, ⟨1, 1, .rw, 0⟩, ⟨2, 1, .rw, 0⟩, ⟨3, 4, .rw, 0⟩, ⟨7, 1, .ro, 0⟩, ⟨8, 12, .rw, 0⟩, ⟨20, 12, .rw, 0⟩, ⟨32, 38, .rw, 0⟩, ⟨70, 32, .rw, 0⟩, ⟨102, 38, .rw, 0⟩, ⟨140, 9, .rw, 0⟩, ⟨149, 8, .rw, 0⟩, ⟨157, 1, .rw, 0⟩, ⟨158, 10, .rw, 50⟩, ⟨168, 4, .rw, 8⟩, ⟨172, 32, .ro, 0⟩, ⟨204, 32, .ro, 0⟩]⟩,
  -- LNK_E_RING
  ⟨0xc3000, 128, [.link], false, [(4, 0x100), (8, 0x10)], [⟨0, 38, .rw, 0⟩, ⟨38, 16, .rw, 0⟩, ⟨54, 1, .rw, 0⟩, ⟨55, 9, .rw, 0⟩, ⟨64, 8, .rw, 0⟩, ⟨72, 1, .rw, 0⟩, ⟨73, 1, .rw, 0⟩, ⟨74, 16, .rw, 0⟩, ⟨90, 1, .rw, 0⟩]⟩,
  -- LNK_E_MAC
  ⟨0xc3800, 64, [.link], false, [(4, 0x8)], [⟨0, 48, .rw, 0⟩, ⟨48, 1, .rw, 0⟩]⟩]

/-- Registers of LNK (window base 0xc0000). -/
def regBlockC0p1 : List RegRow := [
  -- LNK_F_WIN
  ⟨0xc3900, 128, [.link], false, [(4, 0x10)], [⟨0, 38, .rw, 0⟩, ⟨38, 32, .rw, 0⟩, ⟨70, 9, .rw, 0⟩, ⟨79, 8, .rw, 0⟩, ⟨87, 1, .rw, 0⟩, ⟨88, 1, .rw, 0⟩, ⟨89, 16, .rw, 0⟩]⟩]

/-- Registers of LNK (window base 0xc0000). -/
def regBlockC0 : List RegRow := regBlockC0p0 ++ regBlockC0p1

/-- Registers of AZL (window base 0xf0000). -/
def regBlockF0 : List RegRow := [
  -- AZL_CTRL
  ⟨0xf0000, 32, allDies, false, [], [⟨0, 1, .w1s, 0⟩, ⟨1, 1, .w1s, 0⟩, ⟨2, 2, .rw, 0⟩, ⟨4, 1, .w1s, 0⟩, ⟨5, 4, .rw, 0⟩, ⟨10, 4, .rw, 0⟩]⟩,
  -- AZL_STATUS
  ⟨0xf0004, 32, allDies, false, [], [⟨0, 4, .ro, 0⟩, ⟨4, 4, .ro, 0⟩, ⟨8, 4, .ro, 0⟩, ⟨12, 4, .ro, 0⟩]⟩,
  -- AZL_FAULT
  ⟨0xf0008, 32, allDies, false, [], [⟨0, 16, .ro, 0⟩]⟩,
  -- AZL_CUT_TIMEOUT
  ⟨0xf000c, 32, allDies, false, [], [⟨0, 7, .rw, 64⟩]⟩,
  -- AZL_ERR_LIMIT
  ⟨0xf0010, 32, allDies, false, [], [⟨0, 16, .rw, 256⟩]⟩,
  -- AZL_CAP_LOCAL
  ⟨0xf0020, 256, allDies, false, [], [⟨0, 256, .ro, 0⟩]⟩,
  -- AZL_CAP_PEER
  ⟨0xf0040, 256, allDies, false, [(4, 0x20)], [⟨0, 256, .ro, 0⟩]⟩,
  -- AZL_BUNDLE
  ⟨0xf0100, 32, allDies, false, [(64, 0x4)], [⟨0, 3, .ro, 0⟩, ⟨3, 1, .ro, 0⟩, ⟨4, 2, .ro, 0⟩, ⟨6, 5, .ro, 0⟩, ⟨11, 1, .ro, 0⟩, ⟨12, 5, .ro, 0⟩, ⟨17, 1, .ro, 0⟩, ⟨18, 6, .ro, 0⟩]⟩,
  -- AZL_BERR
  ⟨0xf0200, 32, allDies, false, [(64, 0x4)], [⟨0, 16, .ro, 0⟩, ⟨16, 16, .ro, 0⟩]⟩]

/-- Registers of LINEBUF (window base 0x100000). -/
def regBlock100 : List RegRow := [
  -- LINE_BUFFER
  ⟨0x100000, 32, [.compute], false, [(32768, 0x4)], [⟨0, 32, .ro, 0⟩]⟩]

/-- Registers of CMPIMEM (window base 0x200000). -/
def regBlock200 : List RegRow := [
  -- CMP_IMEM
  ⟨0x200000, 32, [.compute], false, [(524288, 0x4)], [⟨0, 32, .rw, 0⟩]⟩]

/-- The rows whose block can hold the byte at an offset of the CSR window (R509). -/
def rowsAt (off : Nat) : List RegRow :=
  if off < 0x10000 then regBlock0
  else if off < 0x20000 then regBlock10
  else if off < 0x30000 then regBlock20
  else if off < 0x40000 then regBlock30
  else if off < 0x50000 then regBlock40
  else if off < 0x60000 then regBlock50
  else if off < 0x70000 then regBlock60
  else if off < 0x80000 then regBlock70
  else if off < 0xa0000 then regBlock80
  else if off < 0xa8000 then regBlockA0
  else if off < 0xac000 then regBlockA8
  else if off < 0xb0000 then regBlockAC
  else if off < 0xb4000 then regBlockB0
  else if off < 0xb8000 then regBlockB4
  else if off < 0xba000 then regBlockB8
  else if off < 0xbc000 then regBlockBA
  else if off < 0xc0000 then regBlockBC
  else if off < 0xf0000 then regBlockC0
  else if off < 0x100000 then regBlockF0
  else if off < 0x200000 then regBlock100
  else if off < 0x400000 then regBlock200
  else []

end Sys2Proof.Machine
end

