-- ==== Sys2Proof/Machine/Geometry.lean ====
section
/-! DEFINITION. Where every die stands and what faces it: site numbers (R11–R13), rim neighbours (R14), the testers'
faces (R36), girth groups (R451) and tack links (R521). -/

namespace Sys2Proof.Machine

/-- The number of sites (R13, R48). -/
def siteCount : Nat := 468

/-- All sites in order. -/
def allSites : List Nat := List.range siteCount

/-- The kind of die at a site (R11–R13): LD k at 400 + 2k, MD k at 401 + 2k. -/
def dieClass (s : Nat) : DieClass :=
  if s < 400 then .compute
  else if s < 464 then (if s % 2 = 0 then .link else .memory)
  else if s = 464 then .pd
  else if s = 465 then .hd
  else if s = 466 then .td
  else .ad

/-- The sites of the corner dies (R13). -/
def sitePD : Nat := 464
def siteHD : Nat := 465
def siteTD : Nat := 466
def siteAD : Nat := 467

/-- The domain that carries a die's logic: the uncore, or the core (R453). -/
def logicDomain (s : Nat) : Nat := if s < 400 then 4 else 0

/-- The column and the row of a compute site (R11). -/
def siteX (s : Nat) : Nat := s % 20
def siteY (s : Nat) : Nat := s / 20
/-- The site at (x, y) (R11). -/
def siteAt (x y : Nat) : Nat := 20 * y + x

/-- The side of an edge die (north 0, east 1, south 2, west 3) and its position on the side (R12). -/
def edgeSide (s : Nat) : Nat := (s - 400) / 16
def edgePos (s : Nat) : Nat := (s - 400) % 16

/-- The compute site at along-edge index `i` of a side (R12). -/
def rimSite (side i : Nat) : Nat :=
  match side with
  | 0 => siteAt i 0
  | 1 => siteAt 19 i
  | 2 => siteAt (19 - i) 19
  | _ => siteAt 0 (19 - i)

/-- The faced compute-die edges of a corner die in the order of R14's table: (site, edge), edges N 0, E 1, S 2, W 3. -/
def cornerFaces (s : Nat) : List (Nat × Nat) :=
  match s with
  | 464 => [(0, 0), (0, 3), (1, 0), (20, 3)]
  | 465 => [(18, 0), (19, 0), (19, 1), (39, 1)]
  | 466 => [(379, 1), (399, 1), (399, 2), (398, 2)]
  | 467 => [(381, 2), (380, 2), (380, 3), (360, 3)]
  | _ => []

/-- The position of a face in a corner die's list. -/
def faceIndex (c s e : Nat) : Nat := (cornerFaces c).findIdx (fun f => f.1 = s && f.2 = e)

/-- Along-edge index of a rim compute die on a side (R12). -/
def alongIndex (side s : Nat) : Nat :=
  match side with
  | 0 => siteX s
  | 1 => siteY s
  | 2 => 19 - siteX s
  | _ => 19 - siteY s

/-- Whether edge `e` of compute site `s` lies on the rim. -/
def onRim (s e : Nat) : Bool :=
  match e with
  | 0 => siteY s = 0
  | 1 => siteX s = 19
  | 2 => siteY s = 19
  | _ => siteX s = 0

/-- The corner die nearest along-edge index `i` of a side, for i below 2 or above 17 (R14). -/
def rimCorner (side i : Nat) : Nat :=
  let start := 464 + side
  if i < 2 then start else 464 + (side + 1) % 4

/-- The die beyond edge `e` of compute site `s`, and the edge (or faced-edge index) by which it looks back (R14). -/
def beyond (s e : Nat) : Nat × Nat :=
  if onRim s e then
    let i := alongIndex e s
    if 2 ≤ i && i ≤ 17 then (400 + 16 * e + (i - 2), 0)
    else let c := rimCorner e i; (c, faceIndex c s e)
  else
    match e with
    | 0 => (s - 20, 2)
    | 1 => (s + 1, 3)
    | 2 => (s + 20, 0)
    | _ => (s - 1, 1)

/-- The compute neighbour of an edge die and the edge by which it faces it (R14). -/
def edgeDieNeighbour (s : Nat) : Nat × Nat := (rimSite (edgeSide s) (edgePos s + 2), edgeSide s)

/-- How many faces of 16 bundles a die has (R14): four, one for an edge die. -/
def faceCount (s : Nat) : Nat := if 400 ≤ s && s < 464 then 1 else 4

/-- The die beyond face `e` of any die, and the face by which it looks back. -/
def facing (s e : Nat) : Nat × Nat :=
  if s < 400 then beyond s e
  else if s < 464 then edgeDieNeighbour s
  else nth (cornerFaces s) e (0, 0)

/-- Whether a die has one face only, so that it codes its bundles as b (R312). -/
def edgeDie (s : Nat) : Bool := 400 ≤ s && s < 464

/-- The far end of a bundle of a die: (site, bundle), bundles coded 16e + b (R306, R312). -/
def farBundle (s b : Nat) : Nat × Nat :=
  let (far, back) := facing s (if edgeDie s then 0 else b / 16)
  (far, 16 * (if edgeDie far then 0 else back) + b % 16)

/-- The link die of a port and of a context (R338, R343). -/
def linkOfPort (q : Nat) : Nat := 400 + 2 * (q / 4)
def linkOfCtx (c : Nat) : Nat := 400 + 2 * (c / 128)

/-- Drops repeated numbers, keeping the first. -/
def distinct : List Nat → List Nat
  | [] => []
  | x :: xs => x :: (distinct xs).filter (fun y => y ≠ x)

/-- The dies that face a die over Azrolane, each once. -/
def facingDies (s : Nat) : List Nat := distinct ((List.range (faceCount s)).map fun e => (facing s e).1)

/-- The corner die that begins an edge die's side clockwise, and the next one (R36). -/
def sideCorner (s : Nat) : Nat := 464 + edgeSide s
def nextCorner (s : Nat) : Nat := 464 + (edgeSide s + 1) % 4

/-- The girth group of a site (R451). -/
def girthGroup (s : Nat) : Nat :=
  if s < 400 then 10 * (siteY s / 2) + siteX s / 2
  else if s < 464 then 100 + 2 * edgeSide s + edgePos s / 8
  else 108 + (s - 464)

/-- The planning limit of a girth group in A (R451). -/
def girthLimit (g : Nat) : Nat := if g < 100 then 240 else if g < 108 then 160 else 40

/-- The sites of a girth group. -/
def girthSites (g : Nat) : List Nat := allSites.filter fun s => girthGroup s = g

/-- The dies joined to a die by tack links, by link number (R521): the dies it faces, then the chain along the side.
The numbering of links is a DESIGN CHOICE (notes/assumptions/9.md). -/
def tackLinks (s : Nat) : List Nat :=
  if s < 400 then facingDies s
  else if s < 464 then
    let p := edgePos s
    facingDies s ++ [if p = 0 then sideCorner s else s - 1] ++ [if p = 15 then nextCorner s else s + 1]
  else
    let side := s - 464
    facingDies s ++ [400 + 16 * side] ++ [400 + 16 * ((side + 3) % 4) + 15]

/-- The link number by which `s` reaches neighbour `n`, if there is a link. -/
def tackLinkTo (s n : Nat) : Option Nat := (tackLinks s).findIdx? (fun m => m = n)

/-- The anti-diagonal of a compute site: its power wave (R42). -/
def waveOf (s : Nat) : Nat := siteX s + siteY s

/-- The compute dies of a power wave (R42). -/
def waveSites (w : Nat) : List Nat := (List.range 400).filter fun s => waveOf s = w

/-- The edge dies powered in a wave: those that face its compute dies (R42). -/
def waveEdgeDies (w : Nat) : List Nat :=
  (List.range 64).map (fun k => 400 + k) |>.filter fun s => waveOf (edgeDieNeighbour s).1 = w

end Sys2Proof.Machine
end

