-- ==== Sys2Proof/Machine/State.lean ====
section
/-! DEFINITION. The state of the panel as plain data: the commands that wait, memory, and the panel, with every register
at its reset value held as "not listed". -/

namespace Sys2Proof.Machine

/-- Everything of the panel but memory and the queue. -/
structure Panel where
  /-- R5, R509: the CSR words that differ from their reset values, by site * 2^22 + word offset in the CSR window. -/
  csr : SMap Word := []
  /-- R64: panel time at the acting primary die. -/
  time : TimeBase := {}
  /-- Spec/23: tack. -/
  tack : Tack := {}
  /-- Spec/21: bring-up and the power and reset pins. -/
  boot : Boot := {}
  /-- R493: bytes of the boot flash that differ from erased (0xFF), by flash address. -/
  flash : SMap Byte := []
  /-- R539: the fuse banks. -/
  fuses : Fuses := {}
  /-- Spec/02: fuses, proof and floor plan. -/
  plan : FloorPlan := {}
  /-- Spec/03: each die's clock state, by site. -/
  clocks : SMap ClockDie := []
  /-- Spec/03: the PTP servo and stroke lock. -/
  servo : Servo := {}
  /-- Spec/19: power domains. -/
  power : Power := {}
  /-- Spec/20: draw control and cooling. -/
  drawSide : DrawSide := {}
  /-- Spec/04: the regions, 0 to 15. -/
  regions : SMap Region := []
  /-- Spec/16, reset none: the lock-up in progress. -/
  lockUp : LockUp := {}
  /-- Spec/18: marks, reprints, scores. -/
  contain : Contain := {}
  /-- Spec/05: compositor threads, by site * 128 + 32 * cluster + 4 * core + thread. -/
  threads : SMap Thread := []
  /-- Spec/05: the sequencers, by site. -/
  seqs : SMap Seq := []
  /-- R131, up to 64 each: watches pending at their home, by site. -/
  watches : SMap (List Watch) := []
  /-- R126: which region each counter is allocated to, + 1, by site * 256 + counter; 0 is none. -/
  syncRegion : SMap Nat := []
  /-- R169, R193: the engines, by site * 8 + 2 * cluster + (0 dense, 1 sparse). -/
  engines : SMap Engine := []
  /-- R254, 64 entries each: the range scoreboards, by site * 4 + cluster. -/
  boards : SMap (List SbEntry) := []
  /-- R244: the movers, by site * 4 + cluster. -/
  movers : SMap Mover := []
  /-- R219: operations of slot 12 in flight, by site. -/
  slot12 : SMap (List Slot12Op) := []
  /-- R266, reset none: galley requests that have not completed, in issue order, by site * 8 + cluster (4: line galley). -/
  galleys : SMap (List GalReq) := []
  /-- Spec/11: the memory dies, by site. -/
  memDies : SMap MemDie := []
  /-- R78, 16 entries each, reset none: the elastic receive buffers, by site * 64 + bundle, oldest first. -/
  mesh : SMap (List MeshWord) := []
  /-- R294, reset none: mesh words sent and not yet arrived, by receiving site * 64 + bundle, oldest first. -/
  meshWire : SMap (List MeshWord) := []
  /-- R292, reset none: MSENDs and MRECVs that run, by site. -/
  meshOps : SMap (List MeshOp) := []
  /-- Spec/13: the bundle ends, by site * 64 + bundle. -/
  bundles : SMap BundleEnd := []
  /-- R343: the 4,096 connection contexts. -/
  contexts : SMap Context := []
  /-- Spec/14: the ports 0 to 127. -/
  ports : SMap Port := []
  /-- Spec/14: the link dies, by site. -/
  links : SMap LinkDie := []
  /-- Spec/22: the job rings and BAR2. -/
  host : HostSide := {}
  /-- Spec/11, 12, 14: flips, broadcasts, shards and sheet acknowledgements at the acting primary die. -/
  fabric : FabricSide := {}
  /-- R251: the first row of each open window, by (site * 4 + cluster) * 32 + window. -/
  windowBase : SMap Nat := []
  /-- R189, R210: each die's suspect report: the entries of the finished stroke as they stood at the tick. -/
  suspectReport : SMap (List Nat) := []
  /-- The counts of the current stroke that the tick latches into registers, by the register word's key. -/
  tallies : SMap Word := []
  /-- Spec/12: the routers, by site. -/
  routers : SMap Router := []
  /-- R103: messages for the packet fabric, the tree or a trace that have not been delivered, oldest first. -/
  net : List NetMsg := []
  /-- R307, reset none: those of `net` whose flits have entered their source's router. -/
  injected : List NetMsg := []
  /-- The MODEL's own field: how many free values have been drawn (notes/assumptions/2.md). -/
  fresh : Nat := 0
  /-- The MODEL's own field: writes to memory that the command in progress makes; empty between commands. -/
  writes : List MemWrite := []
  /-- The MODEL's own field: what the last command drove out of the panel, in order. -/
  out : List Out := []
deriving DecidableEq, Repr

/-- The panel's state. -/
structure State where
  /-- The commands that are waiting, first in, first out. -/
  pending : List Instr
  /-- R16: memory. -/
  mem : Mem
  /-- Everything else. -/
  p : Panel
deriving DecidableEq, Repr

/-- Why the machine stops with a fault: nothing of this block does. A fault of the panel (R7) is recorded in its state. -/
inductive Fault where
  /-- Raised by no command: kept so that the type is inhabited. Safe. -/
  | unreachable
deriving DecidableEq, Repr

/-- Why a command is refused. -/
inductive Refusal where
  /-- A command whose meaning is not modelled yet; the mnemonic says which. Safe: the model stops. -/
  | notModelled (mnemonic : String)
deriving DecidableEq, Repr

/-- The panel right after power-on: every register at its reset value, memory unlisted, no command waiting. -/
def State.reset : State := { pending := [], mem := {}, p := {} }

end Sys2Proof.Machine
end

