-- ==== Sys2Proof/Machine/Ops.lean ====
section
/-! DEFINITION. The named operations over the panel: reading and writing CSR registers, raising faults, the tack agents,
free values, and the four ways in which a command's effect is put into the state. -/

namespace Sys2Proof.Machine

/-! ### How a command's effect enters the state -/

/-- A command that touches neither memory nor panel time. -/
def State.quiet (s : State) (f : Panel → Panel) : State :=
  let p := f { s.p with out := [], writes := [] }
  { s with p := { p with time := s.p.time, writes := [] } }

/-- A command that reads memory but writes none, and leaves panel time alone. -/
def State.reads (s : State) (f : Mem → Panel → Panel) : State := s.quiet (f s.mem)

/-- A command that writes memory through the panel's list of writes, and leaves panel time alone. -/
def State.store (s : State) (f : Mem → Panel → Panel) : State :=
  let p := f s.mem { s.p with out := [], writes := [] }
  { s with mem := s.mem.apply p.writes, p := { p with time := s.p.time, writes := [] } }

/-- A command that may step panel time forward: it never decreases (R64). Memory is not touched. -/
def State.retime (s : State) (f : Panel → Panel) : State :=
  let p := f { s.p with out := [], writes := [] }
  { s with p := { p with time := { p.time with now := max s.p.time.now p.time.now }, writes := [] } }

/-- A command that may begin a cold reset: panel time then becomes zero (R69), and stays otherwise. -/
def State.act (s : State) (f : Mem → Panel → Panel) : State :=
  let p := f s.mem { s.p with out := [], writes := [] }
  { s with mem := s.mem.apply p.writes,
           p := { p with time := if p.boot.cold then {} else s.p.time, writes := [], boot := { p.boot with cold := false } } }

/-- Adds one write to memory. -/
def Panel.put (p : Panel) (w : MemWrite) : Panel := { p with writes := p.writes ++ [w] }

/-- Memory as the writes made so far in this command leave it. -/
def Panel.memory (p : Panel) (m : Mem) : Mem := m.apply p.writes

/-- Drives something out of the panel. -/
def Panel.emit (p : Panel) (o : Out) : Panel := { p with out := p.out ++ [o] }

/-! ### CSR registers (R5, R6, R509, R564) -/

/-- The byte offset, within one register of an array, of the byte at CSR offset `off`; `none` when no register of the
row holds that byte. -/
def RegRow.within (r : RegRow) (off : Nat) : Option Nat :=
  if off < r.off then none
  else
    let bytes := (r.bits + 7) / 8
    let d := off - r.off
    match r.dims with
    | [] => if d < bytes then some d else none
    | [(n, st)] => if d / st < n && d % st < bytes then some (d % st) else none
    | [(n, st), (n', st')] =>
      if d / st < n && d % st / st' < n' && d % st % st' < bytes then some (d % st % st') else none
    | _ => none

/-- The row of the register that holds the byte at offset `off` on a die of class `c`, with the byte's place in it. -/
def findRow (c : DieClass) (off : Nat) : List RegRow → Option (RegRow × Nat)
  | [] => none
  | r :: rs =>
    match r.within off with
    | some b => if r.dies.contains c then some (r, b) else findRow c off rs
    | none => findRow c off rs

/-- The row and place of a byte of a site's CSR window. -/
def rowOf (site off : Nat) : Option (RegRow × Nat) := findRow (dieClass site) off (rowsAt off)

/-- The bits of byte `b` of a register that its fields of the given types cover. -/
def typeMask (tys : List FieldType) (b : Nat) (fs : List FieldRow) : Nat :=
  fs.foldl (fun m f => if tys.contains f.type
    then Nat.lor m (bitsOf ((2 ^ f.width - 1) * 2 ^ f.lsb) (8 * b) 8) else m) 0

/-- Byte `b` of a register's reset value. -/
def resetOfFields (b : Nat) (fs : List FieldRow) : Nat :=
  fs.foldl (fun m f => Nat.lor m (bitsOf (f.reset % 2 ^ f.width * 2 ^ f.lsb) (8 * b) 8)) 0

/-- The reset value of the byte at an offset of a site's CSR window (R5; where the chapters give none, 0, a DESIGN
CHOICE: notes/assumptions/4.md). PWR_GRP.LIMIT resets by girth group (R451). -/
def resetByte (site off : Nat) : Nat :=
  match rowOf site off with
  | none => 0
  | some (r, b) =>
    if r.off = 0xb1000 && b < 2 then bitsOf (girthLimit ((off - 0xb1000) / 16)) (8 * b) 8
    else resetOfFields b r.fields

/-- The key of a word of a site's CSR window. -/
def csrKey (site off : Nat) : Nat := site * 0x400000 + off / 4

/-- The reset value of a CSR word. -/
def resetWord (k : Nat) : Word :=
  let site := k / 0x400000
  let off := k % 0x400000 * 4
  BitVec.ofNat 32 (resetByte site off + 256 * resetByte site (off + 1) + 65536 * resetByte site (off + 2)
    + 16777216 * resetByte site (off + 3))

/-- Where a register of a site is stored: AD's copies of PD's registers follow PD's (R447, R458), so they are one. -/
def homeSite (site off : Nat) : Nat :=
  if site = 467 then
    match rowOf 464 off with
    | some (r, _) => if r.mirror then 464 else site
    | none => site
  else site

/-- The CSR word of a site at a byte offset, as stored. -/
def Panel.word (p : Panel) (site off : Nat) : Word := SMap.get resetWord p.csr (csrKey (homeSite site off) off)

/-- Stores a CSR word. -/
def Panel.setWord (p : Panel) (site off : Nat) (w : Word) : Panel :=
  { p with csr := SMap.set resetWord p.csr (csrKey (homeSite site off) off) w }

/-- `n` CSR words from an offset, as one little-endian number. -/
def Panel.words (p : Panel) (site off : Nat) : Nat → Nat
  | 0 => 0
  | n + 1 => (p.word site off).toNat + 2 ^ 32 * p.words site (off + 4) n

/-- Stores a little-endian number into `n` CSR words. -/
def Panel.setWords (p : Panel) (site off : Nat) (v : Nat) : Nat → Panel
  | 0 => p
  | n + 1 => (p.setWord site off (BitVec.ofNat 32 v)).setWords site (off + 4) (v / 2 ^ 32) n

/-- The word offset at which a field begins, its lowest bit there, and how many words it spans. -/
def Fld.place (f : Fld) : Nat × Nat × Nat :=
  let bit := 8 * f.off + f.lsb
  (bit / 32 * 4, bit % 32, (bit % 32 + f.width + 31) / 32)

/-- The value of a register field as it reads. -/
def Panel.field (p : Panel) (site : Nat) (f : Fld) : Nat :=
  let (o, sh, n) := f.place
  bitsOf (p.words site o n) sh f.width

/-- The value with which a field acts: within its range (R564). -/
def Panel.acting (p : Panel) (site : Nat) (f : Fld) : Nat := clampTo f.lo f.hi (p.field site f)

/-- Stores the value of a register field. -/
def Panel.setField (p : Panel) (site : Nat) (f : Fld) (v : Nat) : Panel :=
  let (o, sh, n) := f.place
  p.setWords site o (putBits (p.words site o n) sh f.width v) n

/-- Adds to a counter held in a register field, saturating at its width. -/
def Panel.count (p : Panel) (site : Nat) (f : Fld) (n : Nat) : Panel :=
  p.setField site f (min (2 ^ f.width - 1) (p.field site f + n))

/-- A field read as a flag. -/
def Panel.isSet (p : Panel) (site : Nat) (f : Fld) : Bool := p.field site f != 0

/-- Sets or clears a flag. -/
def Panel.setFlag (p : Panel) (site : Nat) (f : Fld) (b : Bool) : Panel := p.setField site f (flag b)

/-- One byte written to a register under its field types (R5). -/
def writeByte (site off old new : Nat) : Nat :=
  match rowOf site off with
  | none => old
  | some (r, b) =>
    let rw := typeMask [.rw, .wo] b r.fields
    let set := typeMask [.w1s] b r.fields
    let clr := typeMask [.w1c] b r.fields
    let keep := Nat.xor 255 (Nat.lor rw clr)
    let v := Nat.lor (Nat.land old keep) (Nat.land new rw)
    let v := Nat.lor v (Nat.land (Nat.land old clr) (Nat.xor 255 new))
    Nat.lor v (Nat.land new set)

/-- A 32-bit write to a register, each field under its type (R5, R6): RW and WO take the value, W1S sets, W1C clears,
RO and RC do not change, and reserved bits stay zero. -/
def Panel.csrWrite (p : Panel) (site off : Nat) (w : Word) : Panel :=
  let o := off / 4 * 4
  let old := (p.word site o).toNat
  let byte (i : Nat) : Nat := writeByte site (o + i) (old / 256 ^ i % 256) (w.toNat / 256 ^ i % 256) * 256 ^ i
  p.setWord site o (BitVec.ofNat 32 (byte 0 + byte 1 + byte 2 + byte 3))

/-- One byte of a register as a read returns it: WO bits and registers that do not exist read as zero (R5, R6). -/
def readByte (site off v : Nat) : Nat :=
  match rowOf site off with
  | none => 0
  | some (r, b) => Nat.land v (Nat.xor 255 (typeMask [.wo] b r.fields))

/-- One byte of a register after it is read: RC bits take their reset value (R5). -/
def afterReadByte (site off v : Nat) : Nat :=
  match rowOf site off with
  | none => v
  | some (r, b) =>
    let rc := typeMask [.rc] b r.fields
    Nat.lor (Nat.land v (Nat.xor 255 rc)) (Nat.land (resetOfFields b r.fields) rc)

/-- Applies a function to each of the four bytes of a word. -/
def mapWord (f : Nat → Nat → Nat) (w : Nat) : Nat :=
  f 0 (w % 256) + 256 * f 1 (w / 256 % 256) + 65536 * f 2 (w / 65536 % 256) + 16777216 * f 3 (w / 16777216 % 256)

/-! ### Counts that a tick latches -/

/-- A word of the current stroke's counts. -/
def Panel.tallyWord (p : Panel) (site off : Nat) : Word := SMap.get (fun _ => 0) p.tallies (csrKey site off)

/-- `n` such words as one number, and storing them. -/
def Panel.tallyWords (p : Panel) (site off : Nat) : Nat → Nat
  | 0 => 0
  | n + 1 => (p.tallyWord site off).toNat + 2 ^ 32 * p.tallyWords site (off + 4) n
def Panel.setTallyWords (p : Panel) (site off v : Nat) : Nat → Panel
  | 0 => p
  | n + 1 => ({ p with tallies := SMap.set (fun _ => 0) p.tallies (csrKey site off) (BitVec.ofNat 32 v) } : Panel)
      |>.setTallyWords site (off + 4) (v / 2 ^ 32) n

/-- The current stroke's count of a field that a tick latches. -/
def Panel.tallyOf (p : Panel) (site : Nat) (f : Fld) : Nat :=
  let (o, sh, n) := f.place
  bitsOf (p.tallyWords site o n) sh f.width

/-- Adds to the current stroke's count of a field that a tick latches, saturating at its width. -/
def Panel.tally (p : Panel) (site : Nat) (f : Fld) (k : Nat) : Panel :=
  let (o, sh, n) := f.place
  p.setTallyWords site o (putBits (p.tallyWords site o n) sh f.width (min (2 ^ f.width - 1) (p.tallyOf site f + k))) n

/-- Latches a field's count and clears it. -/
def Panel.latch (p : Panel) (site : Nat) (f : Fld) : Panel :=
  let p := p.setField site f (p.tallyOf site f)
  let (o, sh, n) := f.place
  p.setTallyWords site o (putBits (p.tallyWords site o n) sh f.width 0) n

/-! ### Sparse parts by key -/

/-- The clock state of a site. -/
def Panel.clock (p : Panel) (s : Nat) : ClockDie := SMap.get (fun _ => {}) p.clocks s
def Panel.modClock (p : Panel) (s : Nat) (f : ClockDie → ClockDie) : Panel :=
  { p with clocks := SMap.modify (fun _ => {}) p.clocks s f }

/-- A region. -/
def Panel.region (p : Panel) (r : Nat) : Region := SMap.get (fun _ => {}) p.regions r
def Panel.modRegion (p : Panel) (r : Nat) (f : Region → Region) : Panel :=
  { p with regions := SMap.modify (fun _ => {}) p.regions r f }

/-- A tack agent. -/
def Panel.agent (p : Panel) (s : Nat) : Agent := SMap.get (fun _ => {}) p.tack.agents s
def Panel.modAgent (p : Panel) (s : Nat) (f : Agent → Agent) : Panel :=
  { p with tack := { p.tack with agents := SMap.modify (fun _ => {}) p.tack.agents s f } }

/-- Changes the tack side. -/
def Panel.modTack (p : Panel) (f : Tack → Tack) : Panel := { p with tack := f p.tack }
/-- Changes bring-up. -/
def Panel.modBoot (p : Panel) (f : Boot → Boot) : Panel := { p with boot := f p.boot }
/-- Changes the floor plan. -/
def Panel.modPlan (p : Panel) (f : FloorPlan → FloorPlan) : Panel := { p with plan := f p.plan }
/-- Changes marks and reprints. -/
def Panel.modContain (p : Panel) (f : Contain → Contain) : Panel := { p with contain := f p.contain }
/-- Changes the servo. -/
def Panel.modServo (p : Panel) (f : Servo → Servo) : Panel := { p with servo := f p.servo }

/-- A power domain: `d` 0–3 clusters, 4 uncore; 0 core and 1 PHY or I/O on other dies (PWR_DOM). -/
def Panel.domain (p : Panel) (s d : Nat) : Domain := SMap.get (fun _ => {}) p.power.domains (s * 8 + d)
def Panel.modDomain (p : Panel) (s d : Nat) (f : Domain → Domain) : Panel :=
  { p with power := { p.power with domains := SMap.modify (fun _ => {}) p.power.domains (s * 8 + d) f } }
/-- Changes the power side. -/
def Panel.modPower (p : Panel) (f : Power → Power) : Panel := { p with power := f p.power }

/-! ### Free values -/

/-- Draws a free value of `w` bits for the purpose `tag`. -/
def Panel.draw (p : Panel) (tag w : Nat) : Nat × Panel :=
  ((Config.freeValue tag p.fresh).toNat % 2 ^ w, { p with fresh := p.fresh + 1 })

/-- Draws `n` free bytes for the purpose `tag`. -/
def Panel.drawBytes (p : Panel) (tag : Nat) : Nat → List Byte × Panel
  | 0 => ([], p)
  | n + 1 =>
    let (v, p) := p.draw tag 8
    let (bs, p) := p.drawBytes tag n
    (BitVec.ofNat 8 v :: bs, p)

/-! ### Where a die stands -/

/-- A die's own panel-time count (R64). -/
def Panel.dieTime (p : Panel) (s : Nat) : Int :=
  (((p.time.now * 2 ^ 32 + p.time.frac : Nat) : Int) + (p.clock s).offset) / 2 ^ 32

/-- A die's own count of panel time as its 64-bit register holds it (R64). -/
def Panel.dieStamp (p : Panel) (s : Nat) : Nat := unsigned 64 (p.dieTime s)

/-- Panel time in nominal cycles (R64): the count of the acting primary die (R69). -/
def Panel.now (p : Panel) : Nat := (p.dieTime p.boot.primary).toNat

/-- Nominal cycles in a number of µs (R4: a nominal cycle is 0.8 ns). -/
def usCycles (us : Nat) : Nat := us * 1250

/-- The acting primary die (R447). -/
def Panel.primary (p : Panel) : Nat := p.boot.primary

/-- The region of a compute site, when it belongs to one (R21, STK_STATUS). -/
def Panel.regionOf (p : Panel) (s : Nat) : Option Nat :=
  if s < 400 && p.isSet s Csr.STK_STATUS_IN_REGION then some (p.field s Csr.STK_STATUS_REGION) else none

/-- Whether a region is in service (STK_R_CTRL.RUNNING). -/
def Panel.running (p : Panel) (r : Nat) : Bool := p.isSet sitePD (Csr.STK_R_CTRL_RUNNING r)

/-- Whether a die belongs to a region that is in service. -/
def Panel.dieRunning (p : Panel) (s : Nat) : Bool :=
  match p.regionOf s with
  | some r => p.running r
  | none => false

/-- Bundle states of AZL_BUNDLE, and the state of a bundle end (R318). -/
def azDown : Nat := 0
def azTraining : Nat := 1
def azUp : Nat := 2
def azTied : Nat := 3
def azCut : Nat := 4
def azBad : Nat := 5
def Panel.azState (p : Panel) (s b : Nat) : Nat := p.field s (Csr.AZL_BUNDLE_STATE b)

/-- All region numbers. -/
def allRegions : List Nat := List.range 16

/-- The domain states of PWR_DOM. -/
def domDark : Nat := 0
def domTurningOn : Nat := 1
def domOn : Nat := 2
def domWarm : Nat := 3
def domFailed : Nat := 4

/-- Whether a domain is on or at keep-warm. -/
def Panel.domainUp (p : Panel) (s d : Nat) : Bool :=
  let st := p.field s (Csr.PWR_DOM_STATE d)
  st = domOn || st = domWarm

/-- A die's logic is powered: its uncore, or its core. -/
def Panel.lives (p : Panel) (s : Nat) : Bool := p.domainUp s (logicDomain s)

/-- TD works: it is not lost, and it has power. -/
def Panel.tackDie (p : Panel) : Bool := !p.contain.lost.contains siteTD && p.lives siteTD

/-! ### Unit states (R25) -/

/-- The state of a unit in the merged floor plan. -/
def Panel.unitState (p : Panel) (s u : Nat) : UnitState := SMap.get (fun _ => .good) p.plan.unit (s * 128 + u)

/-- A unit is good or derated. -/
def UnitState.works : UnitState → Bool
  | .good => true | .derated => true | _ => false

/-- The uncore or the die logic of a site is good. -/
def Panel.logicGood (p : Panel) (s : Nat) : Bool := p.unitState s 1 = .good

/-- A die routes, forwards and reports: its logic is powered and good (R18, R27). -/
def Panel.routes (p : Panel) (s : Nat) : Bool := p.lives s && p.logicGood s

/-- A compute die is usable (R26). -/
def Panel.usable (p : Panel) (s : Nat) : Bool :=
  p.logicGood s && (p.unitState s 2).works && (p.unitState s 3).works && (p.unitState s 4).works
    && (p.unitState s 5).works

/-- A cluster takes slots: not dark, bad or unproven (R110). -/
def Panel.clusterWorks (p : Panel) (s c : Nat) : Bool := (p.unitState s (2 + c)).works && p.domainUp s c

/-! ### Faults (R7–R9, R527, R528) -/

/-- The fault register of a class (each chapter's X_FAULT). -/
def faultReg (code : Nat) : Option Fld :=
  match code / 256 with
  | 0x01 => some Csr.FRM_FAULT
  | 0x02 => some Csr.STK_FAULT
  | 0x03 => some Csr.CLK_FAULT
  | 0x04 => some Csr.DEN_FAULT
  | 0x05 => some Csr.SPA_FAULT
  | 0x06 => some Csr.JUS_FAULT_CODE
  | 0x07 => some Csr.SPR_FAULT
  | 0x08 => some Csr.GAL_FAULT
  | 0x09 => some Csr.FAB_FAULT
  | 0x0A => some Csr.AZL_FAULT
  | 0x0B => some Csr.LNK_FAULT
  | 0x0C => some Csr.PWR_FAULT
  | 0x0D => some Csr.THM_FAULT
  | 0x0E => some Csr.BST_FAULT
  | 0x0F => some Csr.SEC_FAULT
  | 0x10 => some Csr.HST_FAULT
  | 0x11 => some Csr.TCK_FAULT
  | 0x12 => some Csr.ERR_FAULT
  | 0x13 => some Csr.DRW_FAULT
  | _ => none

/-- The agent that originates a frame (R522). -/
def TackFrame.origin : TackFrame → Nat
  | .hb s _ _ => s
  | .loss w _ _ => w
  | .fault _ r => r.site
  | .csrRsp _ s _ _ => s
  | .dist o => o
  | .control h _ => h.origin
  | .flashFree => sitePD

/-- Puts a frame onto the tack mesh; it takes the next ID of its origin (R522). -/
def Panel.sendTack (p : Panel) (f : TackFrame) : Panel :=
  (p.modTack fun t => { t with frames := t.frames ++ [f] }).modAgent f.origin fun a => { a with nextId := (a.nextId + 1) % 256 }

/-- Sends a CONTROL frame (R522); destination 0xFFFF is every die. -/
def Panel.sendControl (p : Panel) (origin dst : Nat) (c : Control) : Panel :=
  p.sendTack (.control ⟨origin, dst, (p.agent origin).nextId⟩ c)

/-- The length of a fold in nominal cycles: 1 ms (R528). -/
def foldCycles : Nat := 1250000

/-- Reports a fault record over tack (R527): one frame to the acting primary die and one to TD, folded under R528. A compute
die whose uncore is down reports nothing (R18). -/
def Panel.report (p : Panel) (r : FaultRec) : Panel :=
  if r.site < 400 && !p.lives r.site then p
  else
  let live := (p.agent r.site).folds.find? fun f => f.code = r.code && p.now < f.since + foldCycles
  match live with
  | some f =>
    let f' : Fold := { f with last := r, count := min 255 (f.count + 1), sev := if sevRank f.sev < sevRank r.sev then r.sev else f.sev }
    let p := p.modAgent r.site fun a => { a with folds := a.folds.map fun g => if g.code = r.code then f' else g }
    if sevRank f.sev < sevRank r.sev then
      (p.sendTack (.fault p.primary { r with count := f'.count })).sendTack (.fault siteTD { r with count := f'.count })
    else p
  | none =>
    let p := p.modAgent r.site fun a =>
      { a with folds := (a.folds.filter fun g => g.code ≠ r.code) ++ [⟨r.code, p.now, r.sev, 1, r⟩] }
    (p.sendTack (.fault p.primary r)).sendTack (.fault siteTD r)

/-- HD sends an MSI-X vector of R519's causes, when HST_IRQ_CFG enables it and the PCIe function runs (R507, R520). -/
def Panel.interrupt (p : Panel) (v : Nat) : Panel :=
  if bitOf (p.field siteHD Csr.HST_IRQ_CFG_ENABLE) v && p.isSet siteHD Csr.HST_STATUS_LINK_UP
      && !p.isSet siteHD Csr.HST_STATUS_D3 && !p.contain.lost.contains siteHD then p.emit (.msix v) else p

/-- Adds an open mark (R423) and counts it in its region's ERR_R_STATE. -/
def Panel.openMark (p : Panel) (m : Mark) : Panel :=
  let p := p.modContain fun c => { c with marks := c.marks ++ [m] }
  match m.kind with
  | .fox => p.count sitePD (Csr.ERR_R_STATE_FOX m.region) 1
  | _ => p.count sitePD (Csr.ERR_R_STATE_OPEN m.region) 1

/-- Whether a code opens a check mark (R423). -/
def opensCheck (code : Nat) (sev : Severity) : Bool :=
  code = 0x030A || code = 0x0722 || ((code = 0x0414 || code = 0x0415) && sev = .suspect)

/-- The effect of a fault on its die and region as it is raised (R8, R423, R440 step 1): a fault at foxed opens a fox
mark, some suspects open a check mark, and from region-abort on the die stops
issuing when the abort applies to its own region. -/
def Panel.faultEffect (p : Panel) (r : FaultRec) (reg : Option Nat) : Panel :=
  match reg with
  | none => p
  | some g =>
    let m (k : MarkKind) : Mark := { kind := k, region := g, site := r.site, stroke := r.stroke, code := r.code,
                                     cluster := r.cluster }
    let p := if r.sev = .foxed then p.openMark (m .fox) else p
    let p := if opensCheck r.code r.sev then p.openMark (m .check) else p
    if sevRank .regionAbort ≤ sevRank r.sev && p.regionOf r.site = some g then p.setFlag r.site Csr.STK_SEQ_STATUS_ISSUING false
    else p

/-- A panel-halt (R8): every region stops, and no stroke begins until a warm or cold reset. -/
def Panel.halt (p : Panel) : Panel :=
  let p := p.modBoot fun b => { b with halted := true }
  let p := allRegions.foldl (fun p r =>
    (p.setFlag sitePD (Csr.STK_R_CTRL_ENABLE r) false).setFlag sitePD (Csr.STK_R_CTRL_RUNNING r) false) p
  (List.range 400).foldl (fun p s => p.setFlag s Csr.STK_SEQ_STATUS_ISSUING false) p

/-- Raises a fault of a die for a region (its record names region 255 when there is none): the class's fault register takes the code, the effect of its severity takes
place, a margin symptom is noted (R427), and the die's agent reports it (R7–R9, R527). -/
def Panel.raiseFor (p : Panel) (site code : Nat) (sev : Severity) (reg : Option Nat) (cluster detail : Nat) : Panel :=
  let p := match faultReg code with
    | some f => p.setField site f code
    | none => p
  let stroke := if site < 400 then p.field site Csr.STK_STROKE else
    match reg with
    | some r => p.field sitePD (Csr.STK_R_STROKE r)
    | none => 0
  let r : FaultRec := { code := code, sev := sev, site := site, cluster := cluster, region := reg.getD 255, count := 1,
                        detail := detail, stroke := stroke, time := p.now }
  let p := p.faultEffect r reg
  let p := if code = 0x030A || code = 0x0722 then
      p.modContain fun k => { k with symptom := (k.symptom.filter (· ≠ site)) ++ [site] } else p
  let p := if sev = .panelHalt then p.halt else p
  let p := if p.acting siteHD Csr.HST_IRQ_CFG_MIN_SEV ≤ sevRank sev then p.interrupt 0 else p
  p.report r

/-- Raises a fault of a die at the severity of its code's table, for the die's own region. -/
def Panel.raise (p : Panel) (site code : Nat) : Panel :=
  p.raiseFor site code (severityOf code) (p.regionOf site) 0 code

/-- Raises a fault of a cluster. -/
def Panel.raiseAt (p : Panel) (site cluster code : Nat) : Panel :=
  p.raiseFor site code (severityOf code) (p.regionOf site) cluster code

/-- Raises a fault of a cluster at a severity of its own. -/
def Panel.raiseSev (p : Panel) (site cluster code : Nat) (sev : Severity) : Panel :=
  p.raiseFor site code sev (p.regionOf site) cluster code

/-- The acting primary die raises a fault about a region. -/
def Panel.raiseRegion (p : Panel) (region code : Nat) : Panel :=
  p.raiseFor p.primary code (severityOf code) (some region) 0 code

/-- Raises a fault when a condition holds. -/
def Panel.raiseIf (p : Panel) (c : Bool) (site code : Nat) : Panel := if c then p.raise site code else p

/-- The MSI-X vector of a change event (R519). -/
def changeVector (bit : Nat) : Nat := nth [3, 2, 1, 4, 5] bit 0

/-- Notes a change event for the managers and the host (R519, R532): 0 mode, 1 READY, 2 lock-up phase, 3 merge, 4
takeover. -/
def Panel.noteChange (p : Panel) (bit : Nat) : Panel :=
  (p.modTack fun t => { t with changes := t.changes ++ [bit] }).interrupt (changeVector bit)

/-- Does a thing for each element of a list, in order. -/
def Panel.each {α : Type} (p : Panel) (l : List α) (f : Panel → α → Panel) : Panel := l.foldl f p

end Sys2Proof.Machine
end

