-- ==== Sys2Proof/Machine/Clocks.lean ====
section
/-! DEFINITION. Clocks, slips and panel time (spec/03): the CLK commands, the beacons, the PTP servo, TIME_IN and
TIME_OUT. -/

namespace Sys2Proof.Machine

/-! ### Slips (R56–R63) -/

/-- The forced stretch in force, in sixteenths: values above 8 act as 8 (R63, CLK_FORCED). -/
def Panel.forcedStretch (p : Panel) (s : Nat) : Nat := min 8 (p.field s Csr.CLK_FORCED_STRETCH)

/-- How many clock domains a die has (R53), and which of them are adaptive: the others run from fixed references and never
stretch. -/
def clockDomains (s : Nat) : Nat := if s < 400 then 5 else if s < 464 then 2 else 3
def adaptiveClock (s d : Nat) : Bool := if s < 400 then d < 5 else d = 0

/-- The adaptive domains of a die. -/
def adaptiveDomains (s : Nat) : List Nat := (List.range (clockDomains s)).filter (adaptiveClock s)

/-- Each of some domains stretches by a number of sixteenths. -/
def ClockDie.stretch (c : ClockDie) (ds : List Nat) (n : Nat) : ClockDie :=
  { c with stretched := ds.foldl (fun m d => SMap.modify (fun _ => 0) m d (· + n)) c.stretched }

/-- `n` periods of a die's clock pass, issuing, held or stalled: with a forced stretch in force each is a slip (R58, R61,
R63). -/
def Panel.periodsPass (p : Panel) (s n : Nat) : Panel :=
  let f := p.forcedStretch s
  if f = 0 then p
  else p.modClock s fun c =>
    ({ c with slips := c.slips + n, slipTime := c.slipTime + n * f, forced := c.forced + n } : ClockDie).stretch
      (adaptiveDomains s) (n * f)

/-- One measured margin of a monitor: the stroke's minimum and CLK_MARGIN_MIN take it when it is lower (R56, R57). -/
def Panel.noteMargin (p : Panel) (s d margin : Nat) : Panel :=
  let p := p.modClock s fun c =>
    { c with minMargin := SMap.modify (fun _ => 0xFF) c.minMargin d (fun m => min m margin) }
  p.setField s (Csr.CLK_MARGIN_MIN d) (min (p.field s (Csr.CLK_MARGIN_MIN d)) margin)

/-- Domain `d` stretches the uncore period numbered `period` by `n` sixteenths, beside a forced stretch `f` that the period's own
command counts (R58–R61). The coupling stretches the other domains of a compute die by at least as much, unless COUPLE_OFF
disables it; a domain takes the largest of what is asked of it for the same period, and the die counts one slip in the period,
whichever domains stretch, with the largest stretch as its slip time. -/
def ClockDie.slip (c : ClockDie) (ds : List Nat) (f period n : Nat) : ClockDie :=
  let (first, was) : Bool × SMap Nat := match c.lastSlip with
    | some (k, m) => if k = period then (false, m) else (true, [])
    | none => (true, [])
  let had (d : Nat) : Nat := max f (SMap.get (fun _ => 0) was d)
  let now := ds.foldl (fun m d => SMap.set (fun _ => 0) m d (max (had d) n)) was
  let before := was.foldl (fun m x => max m x.2) f
  { c with
    slips := c.slips + (if first && f = 0 then 1 else 0)
    slipTime := c.slipTime + (max before n - before)
    stretched := ds.foldl (fun m d => SMap.modify (fun _ => 0) m d (· + (max (had d) n - had d))) c.stretched
    lastSlip := some (period, now) }

/-- The domains that a stretch of one domain of a die stretches (R59). -/
def Panel.coupled (p : Panel) (s d : Nat) : List Nat :=
  if p.isSet s Csr.CLK_CTRL_COUPLE_OFF then [d] else adaptiveDomains s

/-- MARGIN_STRETCH's effect (R56–R61): the margin is recorded; below TRIGGER, and with CLK_CTRL.FIXED clear, the period
stretches by 1 to 8 sixteenths. A domain that runs from a fixed reference has no monitor (R53). -/
def Panel.marginStretch (p : Panel) (s d margin sixteenths period : Nat) : Panel :=
  if !adaptiveClock s d then p
  else
    let p := p.noteMargin s d margin
    if margin < p.field s Csr.CLK_MARGIN_CFG_TRIGGER && !p.isSet s Csr.CLK_CTRL_FIXED then
      p.modClock s fun c => c.slip (p.coupled s d) (p.forcedStretch s) period (max 1 (min 8 sixteenths))
    else p

/-- Whether two of five domain cycle indices differ by more than 2 (R60). -/
def skewed (ix : List Nat) : Bool := ix.any fun a => ix.any fun b => a + 2 < b

/-- A region's forme is locked up: its FRM_R_STATE is not 0. -/
def Panel.lockedUp (p : Panel) (r : Nat) : Bool := p.isSet sitePD (Csr.FRM_R_STATE_STATE r)

/-- A write to CLK_PERIOD (R55, R62): a value outside 64 to 128 is ignored, and on a die of a locked-up region so is any
write that does not come from the draw controller. The oscillators take it at the next tick. -/
def Panel.periodWrite (p : Panel) (s v : Nat) (draw : Bool) : Panel :=
  let locked := match p.regionOf s with
    | some r => p.lockedUp r
    | none => false
  if v < 64 || 128 < v || (locked && !draw) then p else p.setField s Csr.CLK_PERIOD v

/-- The clock domains that a power domain feeds (R53, R453): c0–c3 and the uncore; core, and PHY or I/O, which on a corner die
also feeds the time domain. -/
def clocksOf (s d : Nat) : List Nat := if 464 ≤ s && d = 1 then [1, 2] else [d]

/-- The domain-up bits of a power domain. -/
def Panel.setDomainUp (p : Panel) (s d : Nat) (b : Bool) : Panel :=
  p.each (clocksOf s d) fun p k =>
    p.setField s Csr.CLK_STATUS_DOMAIN_UP (putBits (p.field s Csr.CLK_STATUS_DOMAIN_UP) k 1 (flag b))

/-! ### Panel time (R64–R69) -/

/-- A region's last tick message is of no more use (R66). -/
def Panel.dropTick (p : Panel) (r : Nat) : Panel :=
  p.modServo fun v => { v with tickMsgs := (v.tickMsgs.map fun x => (x.1, putBits x.2 r 1 0)).filter fun x => x.2 ≠ 0 }

/-- PD's beacon (R65): its panel time at launch and the rate word. -/
def Panel.sendBeacon (p : Panel) : Panel :=
  p.modServo fun v => { v with beacon := some (p.now, p.field p.primary Csr.CLK_RATE) }

/-- A die takes a beacon (R64, R65): its rate word, which AD keeps in CLK_RATE; and `launch` plus its registered tree delay is
compared with its own count. The acting primary die sends beacons and takes none. -/
def Panel.beacon (p : Panel) (s launch rate : Nat) : Panel :=
  if s = p.primary then p
  else
  let want : Int := launch + p.field s Csr.CLK_TREE_DELAY
  let d := want - p.dieTime s
  let p := p.modClock s fun c => { c with rate := signed 32 rate }
  let p := if s = siteAD then p.setField siteAD Csr.CLK_RATE rate else p
  let load (p : Panel) : Panel :=
    (p.modClock s fun c => { c with offset := c.offset + d * 2 ^ 32, slew := 0, slewAt := 0, reload := false }).setFlag s
      Csr.CLK_STATUS_PTIME_VALID true
  if (p.clock s).reload then load p
  else if d.natAbs ≤ 1 then p
  else if d.natAbs ≤ 16 then
    (p.modClock s fun c => { c with slew := d, slewAt := 0 }).raise s 0x0307
  else
    ((p.modClock s fun c => { c with reload := true }).setFlag s Csr.CLK_STATUS_PTIME_VALID false).raise s 0x0308

/-- One reference cycle of slewing: 1/1,024 of the correction is spread evenly (R65). -/
def ClockDie.slewStep (c : ClockDie) : ClockDie :=
  if c.slew = 0 then c
  else
    let c' := { c with offset := c.offset + c.slew * 2 ^ 22, slewAt := c.slewAt + 1 }
    if c'.slewAt = 1024 then { c' with slew := 0, slewAt := 0 } else c'

/-- One reference cycle of a die's own count beside the panel's: its rate word instead of the panel's, and its slew (R64, R65). -/
def ClockDie.refStep (c : ClockDie) (rate : Int) : ClockDie :=
  if c.reload then c else ({ c with offset := c.offset + (c.rate - rate) } : ClockDie).slewStep

/-- One 156.25 MHz reference cycle of panel time: the counter advances by 8 plus the signed rate word, in units of
2^-32 of a cycle, and never decreases (R64). -/
def TimeBase.advance (t : TimeBase) (rate : Int) : TimeBase :=
  let total := (((t.now * 2 ^ 32 + t.frac + 8 * 2 ^ 32 : Nat) : Int) + rate).toNat
  let total := max total (t.now * 2 ^ 32 + t.frac)
  { now := total / 2 ^ 32, frac := total % 2 ^ 32 }

/-- One reference cycle of the whole panel: panel time advances by the acting primary die's rate word, and every other die's count
by its own. -/
def Panel.refCycle (p : Panel) : Panel :=
  let rate := signed 32 (p.field p.primary Csr.CLK_RATE)
  let cs := p.clocks.foldl (fun m kv =>
    if kv.1 = p.primary then m else SMap.set (fun _ => {}) m kv.1 (kv.2.refStep rate)) p.clocks
  { p with time := p.time.advance rate, clocks := cs }

/-! ### The PTP servo (R70–R72) -/

/-- The servo states of CLK_PTP_STATUS. -/
def servoFreerun : Nat := 0
def servoAcquire : Nat := 1
def servoLocked : Nat := 2
def servoHoldover : Nat := 3

/-- ±100 ppm of 8 cycles, in units of 2^-32 of a cycle (R71). -/
def rateLimit : Nat := 3435973

/-- No region holds a locked-up forme (R71). -/
def Panel.noForme (p : Panel) : Bool := allRegions.all fun r => !p.lockedUp r

/-- The one exception to slewing (R71): an offset of more than 1 ms ahead, with no forme locked up, steps panel time
forward once and raises 0x030E. Offsets are in 1/16 cycles. The other dies' counts stay, and find the step at their next beacon
(R65). CLK_PTP_OFFSET is 0 after the step (DESIGN CHOICE: the spec is silent; notes/assumptions/140.md). -/
def Panel.timeStep (p : Panel) (offset : Int) : Panel :=
  if 16 * 1250000 < offset && p.noForme then
    let n := (offset / 16).toNat
    let cs := p.clocks.foldl (fun m kv => if kv.1 = p.primary || kv.2.reload then m
      else SMap.set (fun _ => {}) m kv.1 { kv.2 with offset := kv.2.offset - n * 2 ^ 32 }) p.clocks
    let p := { p with time := { p.time with now := p.time.now + n }, clocks := cs }
    (p.setField siteTD Csr.CLK_PTP_OFFSET 0).raise p.primary 0x030E
  else p

/-- The servo takes one measured offset (R71): its state moves, and the rate word takes a value within ±100 ppm that the
spec does not fix (a free value). From LOCKED it goes to ACQUIRE (DESIGN CHOICE: the spec names no state;
notes/assumptions/139.md). -/
def Panel.servoOffset (p : Panel) (offset : Int) : Panel :=
  let p := p.setField siteTD Csr.CLK_PTP_OFFSET (unsigned 64 offset)
  let p := p.modServo fun v =>
    { v with
      lastSync := p.now
      inside := if offset.natAbs ≤ 16 * 50 then v.inside + 1 else 0
      outside := if 16 * 100 < offset.natAbs then v.outside + 1 else 0 }
  let st := p.field siteTD Csr.CLK_PTP_STATUS_STATE
  let st' :=
    if 16 ≤ p.servo.inside then servoLocked
    else if st = servoLocked then (if 4 ≤ p.servo.outside then servoAcquire else servoLocked)
    else servoAcquire
  let p := p.setField siteTD Csr.CLK_PTP_STATUS_STATE st'
  let (v, p) := p.draw 71 32
  let rate : Int := (v : Int) % (2 * rateLimit + 1) - rateLimit
  let p := p.setField siteTD Csr.CLK_RATE (unsigned 32 rate)
  let p := p.setField p.primary Csr.CLK_RATE (unsigned 32 rate)
  p.timeStep offset

/-- A PTP message is valid: TD serves PTP, which a lost TD does not until a warm or cold reset (R536), the message came in on the
active port, of the domain set, and its sync interval is 1/16 s to 1 s (R70). -/
def Panel.ptpValid (p : Panel) (port d : Nat) (interval : Int) : Bool :=
  p.tackDie && p.isSet siteTD Csr.TCK_PTP_ENABLE && port = p.field siteTD Csr.CLK_PTP_STATUS_PORT
    && d = p.field siteTD Csr.TCK_PTP_DOMAIN && -4 ≤ interval && interval ≤ 0

/-- The servo takes a sync's origin time and receive timestamp (R71, R72). -/
def Panel.ptpSync (p : Panel) (interval origin received : Int) : Panel :=
  let p := p.modServo fun v => { v with interval := interval }
  let off := origin + p.servo.delay - received
  let tin := p.isSet siteTD Csr.CLK_TIME_CTRL_TIN_PPS && !p.isSet siteTD Csr.CLK_TIME_CTRL_TIN_LOCK
  if tin && p.servo.ppsEdge.isSome then
    -- R72: phase comes from the pulse, time of day from the message.
    p.timeStep off
  else p.servoOffset off

/-- The servo takes a PTP message: a one-step or a two-step sync gives an offset, a delay exchange the path delay (R70, R71). -/
def Panel.ptp (p : Panel) (m : PtpMsg) : Panel :=
  match m with
  | .sync port d interval origin received => if p.ptpValid port d interval then p.ptpSync interval origin received else p
  | .followUp port d interval origin received =>
    if p.ptpValid port d interval then p.ptpSync interval origin received else p
  | .delay port d sent received =>
    if !p.ptpValid port d 0 then p
    else
      let last := signed 64 (p.field siteTD Csr.CLK_PTP_OFFSET)
      p.modServo fun v => { v with delay := (received - sent + (v.delay - last)) / 2 }

/-- AD takes over panel time (R69): its own count goes on without a step, by the rate word of the last beacon. -/
def Panel.takePanelTime (p : Panel) : Panel :=
  (p.modClock siteAD fun c => { c with slew := 0, slewAt := 0, reload := false }).setFlag siteAD Csr.CLK_STATUS_PTIME_VALID true

/-- Nominal cycles in one second. -/
def secondCycles : Nat := 1250000000

/-- The effective period of a region's current stroke (R90): ⌈P × p / 64⌉ + W. -/
def Panel.effPeriod (p : Panel) (r : Nat) : Nat :=
  ceilDiv (p.acting sitePD (Csr.STK_R_PERIOD r) * (p.region r).period) 64 + (p.region r).stretch

/-- The stroke-lock offset: values below 1,563 act as 1,563 (CLK_LOCK_OFFSET). -/
def Panel.lockOffset (p : Panel) : Nat := max 1563 (p.field p.primary Csr.CLK_LOCK_OFFSET)

/-- An edge `n` nominal cycles after the last valid one lies in the stroke-lock window (R72): once per effective stroke period,
±0.1 %; after one or two periods without an edge, that many periods later (DEDUCED: notes/assumptions/141.md). -/
def inLockWindow (per n : Nat) : Bool := [1, 2, 3].any fun k => 999 * (k * per) ≤ 1000 * n && 1000 * n ≤ 1001 * (k * per)

/-- A rising edge on TIME_IN (R72, R73). Under stroke lock, an edge of a running region in the window stamps the region's next tick
at edge time plus the lock offset; when a slur or a planned extension keeps the region from beginning by then, the tick waits for
the first later valid edge; an edge outside the window raises 0x0310. Under PPS, the edge gives the phase. A lost TD stamps
nothing. -/
def Panel.timeInEdge (p : Panel) : Panel :=
  if !p.tackDie then p
  else if p.isSet siteTD Csr.CLK_TIME_CTRL_TIN_LOCK then
    let r := p.field siteTD Csr.CLK_TIME_CTRL_LOCK_REGION
    if !p.running r then p.modServo fun v => { v with lockEdge := some p.now }
    else
      let per := p.effPeriod r
      let inWindow := match p.servo.lockEdge with
        | none => true
        | some e => inLockWindow per (p.now - e)
      if !inWindow then p.raise siteTD 0x0310
      else
        let p := p.modServo fun v =>
          { v with lockEdge := some p.now, missed := 0, fallback := false }
        let g := p.region r
        let stamp := p.now + p.lockOffset
        if g.tickSent then p
        else if !g.slurOpen && g.begun + per + g.extension ≤ stamp + per / 1000 then
          (p.setField sitePD (Csr.STK_R_NEXT_TICK r) stamp).modServo fun v => { v with edgeReady := false }
        else p.modServo fun v => { v with edgeReady := true }
  else if p.isSet siteTD Csr.CLK_TIME_CTRL_TIN_PPS then
    let ph := p.now % secondCycles
    let off : Int := if 2 * ph < secondCycles then -(ph : Int) else (secondCycles : Int) - ph
    (p.modServo fun v => { v with ppsEdge := some p.now }).servoOffset (16 * off)
  else p

/-- REF_CLK is lost at PD or AD (R54): the other corner drives the tree (0x0311), and loss at both halts the panel. -/
def Panel.refLoss (p : Panel) (s : Nat) : Panel :=
  let was := p.boot.refFrom
  let p := p.modBoot fun b => if s = sitePD then { b with refPD := false } else { b with refAD := false }
  if !p.boot.refPD && !p.boot.refAD then p.raise p.primary 0x0312
  else if was = s then
    (p.modBoot fun b => { b with refFrom := if s = sitePD then siteAD else sitePD }).raise p.primary 0x0311
  else p

/-! ### The commands -/

/-- CLK_PERIOD_WRITE (R62): a write of `value` to a die's CLK_PERIOD, by the draw controller or another source. -/
def execClkPeriodWrite (site value : Nat) (draw : Bool) (s : State) : Host.Outcome State Fault Refusal :=
  .next (s.quiet fun p => p.periodWrite site value draw)

/-- MARGIN_STRETCH (R56): a monitor of a domain measures a margin in the uncore period numbered `period`; the oscillator chooses the
stretch. -/
def execMarginStretch (site domain margin sixteenths period : Nat) (s : State) : Host.Outcome State Fault Refusal :=
  .next (s.quiet fun p => p.marginStretch site domain margin sixteenths period)

/-- DOMAIN_SKEW_FAULT (R60): the uncore compares the five cycle indices. -/
def execDomainSkewFault (site : Nat) (indices : List Nat) (s : State) : Host.Outcome State Fault Refusal :=
  .next (s.quiet fun p => p.raiseIf (skewed indices) site 0x030C)

/-- CLK_FORCED_WRITE (R63): the emergency throttle writes STRETCH. -/
def execClkForcedWrite (site value : Nat) (s : State) : Host.Outcome State Fault Refusal :=
  .next (s.quiet fun p => p.setField site Csr.CLK_FORCED_STRETCH value)

/-- REF_CLK_LOSS (R54): the panel reference is lost at PD or at AD. -/
def execRefClkLoss (site : Nat) (s : State) : Host.Outcome State Fault Refusal :=
  .next (s.quiet fun p => p.refLoss site)

/-- TIME_BEACON_SEND (R65). -/
def execTimeBeaconSend (s : State) : Host.Outcome State Fault Refusal := .next (s.quiet fun p => p.sendBeacon)

/-- TIME_BEACON (R65): a beacon launched at panel time `launch`, with PD's rate word, reaches a die. -/
def execTimeBeacon (site launch rate : Nat) (s : State) : Host.Outcome State Fault Refusal :=
  .next (s.quiet fun p => p.beacon site launch rate)

/-- PTP_MESSAGE (R71). -/
def execPtpMessage (m : PtpMsg) (s : State) : Host.Outcome State Fault Refusal := .next (s.retime fun p => p.ptp m)

/-- PTP_HOLDOVER (R71): four sync intervals without a valid sync; the last rate word stays. -/
def execPtpHoldover (s : State) : Host.Outcome State Fault Refusal :=
  .next (s.retime fun p =>
    let p := p.setField siteTD Csr.CLK_PTP_STATUS_STATE servoHoldover
    let p := p.modServo fun v => { v with inside := 0, outside := 0 }
    (p.raise siteTD 0x030D).timeStep (signed 64 (p.field siteTD Csr.CLK_PTP_OFFSET)))

/-- TIME_IN_EDGE (R72). -/
def execTimeInEdge (s : State) : Host.Outcome State Fault Refusal := .next (s.retime fun p => p.timeInEdge)

/-- STROKE_LOCK_LOST (R72): three strokes without a valid edge; internal stroke timing resumes. -/
def execStrokeLockLost (s : State) : Host.Outcome State Fault Refusal :=
  .next (s.quiet fun p =>
    (p.modServo fun v => { v with fallback := true, lockEdge := none, edgeReady := false, missed := 0 }).raise
      p.primary 0x030F)

/-- TIME_OUT_PPS (R74): TD drives a 10 µs pulse at a whole second when TOUT_MODE is 1. -/
def execTimeOutPps (s : State) : Host.Outcome State Fault Refusal :=
  .next (s.quiet fun p =>
    if p.field siteTD Csr.CLK_TIME_CTRL_TOUT_MODE = 1 then
      p.modServo fun v => { v with timeOut := some (p.now, usCycles 10) }
    else p)

end Sys2Proof.Machine
end

