-- ==== Sys2Proof/Machine/FloorPlan.lean ====
section
/-! DEFINITION. The floor plan, the fuse and field errata, proof and the field self-test (spec/02). -/

namespace Sys2Proof.Machine

/-! ### The boot flash (R493) -/

/-- What an erased flash byte reads as. -/
def flashErased : Nat → Byte := fun _ => 0xFF

/-- `n` bytes of the flash. -/
def Panel.flashRead (p : Panel) : Nat → Nat → List Byte
  | _, 0 => []
  | a, n + 1 => SMap.get flashErased p.flash a :: p.flashRead (a + 1) n

/-- Writes bytes into the flash. -/
def Panel.flashWrite (p : Panel) : Nat → List Byte → Panel
  | _, [] => p
  | a, b :: bs => ({ p with flash := SMap.set flashErased p.flash a b } : Panel).flashWrite (a + 1) bs

/-! ### Field errata (R32–R35) -/

/-- One field errata entry (R32). -/
structure Errata where
  seq : Nat
  site : Nat
  unit : Nat
  state : Nat
  time : Nat
  code : Nat
  cause : Nat
  boots : Nat
deriving DecidableEq, Repr

/-- The 28 bytes of an entry before its CRC (R32). -/
def Errata.body (e : Errata) : List Byte :=
  leBytes 4 e.seq ++ leBytes 2 e.site ++ leBytes 1 e.unit ++ leBytes 1 e.state ++ leBytes 8 e.time
    ++ leBytes 2 e.code ++ leBytes 1 e.cause ++ leBytes 1 0 ++ leBytes 4 e.boots ++ leBytes 4 0

/-- The 32 bytes of an entry (R32). -/
def Errata.bytes (e : Errata) : List Byte := e.body ++ leBytes 4 (crc32c e.body)

/-- The entry in 32 bytes, when its CRC is right (R34). -/
def readErrata (b : List Byte) : Option Errata :=
  if leAt b 0x1C 4 = crc32c (b.take 28) then
    some { seq := leAt b 0 4, site := leAt b 4 2, unit := leAt b 6 1, state := leAt b 7 1, time := leAt b 8 8,
           code := leAt b 0x10 2, cause := leAt b 0x12 1, boots := leAt b 0x14 4 }
  else none

/-- The flash address of errata copy 0 (A) or 1 (B) (R493). -/
def errataBase (copy : Nat) : Nat := if copy = 0 then 0xFF00000 else 0xFF10000

/-- Entries per copy (R32). -/
def errataSlots : Nat := 2048

/-- The used slots of a copy from slot `i`: a slot whose sequence is 0xFFFF_FFFF is empty, and entries are only appended
(R32). Entries with a bad CRC are listed as `none` (R34). -/
def Panel.errataFrom (p : Panel) (copy : Nat) : Nat → Nat → List (Option Errata)
  | _, 0 => []
  | i, n + 1 =>
    let b := p.flashRead (errataBase copy + 32 * i) 32
    if leAt b 0 4 = 0xFFFFFFFF then [] else readErrata b :: p.errataFrom copy (i + 1) n

/-- The slots of a copy that are in use. -/
def Panel.errataCopy (p : Panel) (copy : Nat) : List (Option Errata) := p.errataFrom copy 0 errataSlots

/-- The entries that count: those valid in either copy (R34). -/
def Panel.errata (p : Panel) : List Errata :=
  let a := (p.errataCopy 0).filterMap id
  let b := (p.errataCopy 1).filterMap id
  a ++ b.filter fun e => !(a.any fun x => x.seq = e.seq)

/-- The next sequence number of the store (R32). -/
def Panel.errataNext (p : Panel) : Nat := p.errata.foldl (fun n e => max n (e.seq + 1)) 0

/-- The worst state recorded for a unit: 0 none, 1 derated, 2 bad (R32); an entry for the whole die covers it. A defect that found
the store full counts until the next reset (R35). -/
def Panel.fieldState (p : Panel) (s u : Nat) : Nat :=
  let stored := p.errata.foldl (fun n e => if e.site = s && (e.unit = u || e.unit = 0) then max n e.state else n) 0
  p.plan.unstored.foldl (fun n x => if x.1 = s && (x.2.1 = u || x.2.1 = 0) then max n x.2.2 else n) stored

/-- Appends an entry to one copy; a full copy raises 0x0E08 (R35). -/
def Panel.appendCopy (p : Panel) (copy : Nat) (e : Errata) : Panel :=
  let used := (p.errataCopy copy).length
  if errataSlots ≤ used then p.raise p.primary 0x0E08
  else p.flashWrite (errataBase copy + 32 * used) e.bytes

/-- Records a defect in copy A and then in copy B (R34), unless the unit already holds an entry of the same or a worse
state, or its whole die is recorded bad; one that finds a copy full still applies to the current floor plan (R35). State: 1
derated, 2 bad. -/
def Panel.appendField (p : Panel) (s u state cause code : Nat) : Panel :=
  if state ≤ p.fieldState s u || p.fieldState s 0 = 2 then p
  else
    let e : Errata := { seq := p.errataNext, site := s, unit := u, state := state, time := p.now, code := code,
                        cause := cause, boots := p.field sitePD Csr.PWR_BOOT }
    let p := (p.appendCopy 0 e).appendCopy 1 e
    if state ≤ p.fieldState s u then p else p.modPlan fun q => { q with unstored := q.unstored ++ [(s, u, state)] }

/-- When the copies differ, the missing entries are written into the short copy and 0x0E09 is raised (R34). -/
def Panel.repairErrata (p : Panel) : Panel :=
  let a := (p.errataCopy 0).filterMap id
  let b := (p.errataCopy 1).filterMap id
  let missing (x y : List Errata) : List Errata := x.filter fun e => !(y.any fun z => z.seq = e.seq)
  let inA := missing b a
  let inB := missing a b
  if inA.isEmpty && inB.isEmpty then p
  else
    let p := p.each inA fun p e => p.appendCopy 0 e
    let p := p.each inB fun p e => p.appendCopy 1 e
    p.raise p.primary 0x0E09

/-! ### Units and fuses (R25, R31, R33) -/

/-- The units of a die (R25, R33). -/
def unitsOf (s : Nat) : List Nat :=
  let bundles (n : Nat) := (List.range n).map (fun i => 64 + i)
  match dieClass s with
  | .compute => [1, 2, 3, 4, 5] ++ bundles 64
  | .link => [1, 8, 9, 10, 11] ++ bundles 16
  | .memory => [1, 16, 17, 18, 19, 20, 21, 22, 23] ++ bundles 16
  | _ => [1] ++ bundles 64

/-- The fuse errata of a site's own die. -/
def Panel.dieFuse (p : Panel) (s : Nat) : DieFuse := SMap.get (fun _ => {}) p.plan.dieFuse s

/-- A unit is fuse-bad: named by its die's fuses or by the panel fuse banks (R31); unit 0 covers every unit. -/
def Panel.fuseBad (p : Panel) (s u : Nat) : Bool :=
  hasNat (p.dieFuse s).bad u || hasNat (p.dieFuse s).bad 0 || p.plan.panelFuse.any fun f => f.1 = s && (f.2 = u || f.2 = 0)

/-- A die is never powered (R31). -/
def Panel.noPower (p : Panel) (s : Nat) : Bool := (p.dieFuse s).doNotPower

/-! ### Proof (R36–R40) -/

/-- The key of a unit. -/
def unitKey (s u : Nat) : Nat := s * 128 + u

/-- The outcome a tester reported for a unit, if it did. -/
def outcomeOf (rs : List ProofReport) (tester target u : Nat) : Option ProofOutcome :=
  (rs.find? fun r => r.tester = tester && r.target = target && r.unit = u).map (·.outcome)

/-- A die's self verdict for its uncore or die logic is a match. -/
def selfMatch (rs : List ProofReport) (s : Nat) : Bool := outcomeOf rs s s 1 = some .matched

/-- A qualified tester (R38). -/
def Panel.qualified (p : Panel) (rs : List ProofReport) (s : Nat) : Bool :=
  !p.fuseBad s 1 && !p.fuseBad s 0 && !p.noPower s && selfMatch rs s

/-- The testers of a die (R36): an edge die's are its compute neighbour and the corner that begins its side clockwise, and
the next corner in place of a neighbour that is not qualified. -/
def Panel.testers (p : Panel) (rs : List ProofReport) (s : Nat) : List Nat :=
  if 400 ≤ s && s < 464 then
    let n := (edgeDieNeighbour s).1
    [if p.qualified rs n then n else nextCorner s, sideCorner s]
  else facingDies s

/-- The verdict of R39 for a unit on reports by the given testers. -/
def verdictOn (rs : List ProofReport) (testers : List Nat) (s u : Nat) : UnitState :=
  let outs := testers.filterMap fun t => outcomeOf rs t s u
  if outs.contains .mismatch then .bad
  else if 2 ≤ (outs.filter fun o => o = .matched).length then .good
  else .unproven

/-- Pass 1: R39 over the qualified testers. -/
def Panel.verdict1 (p : Panel) (rs : List ProofReport) (s u : Nat) : UnitState :=
  verdictOn rs ((p.testers rs s).filter fun t => p.qualified rs t) s u

/-- Pass 2: every report by a die whose uncore or die logic was bad or unproven in pass 1 is discarded, and R39 applies
again; no third pass is made (R40). -/
def Panel.verdict2 (p : Panel) (rs : List ProofReport) (s u : Nat) : UnitState :=
  verdictOn rs ((p.testers rs s).filter fun t => p.qualified rs t && p.verdict1 rs t 1 = .good) s u

/-- The pass-2 verdict held from the last proof. -/
def Panel.verdictOf (p : Panel) (s u : Nat) : UnitState := SMap.get (fun _ => .good) p.plan.verdict (unitKey s u)

/-- The face and the bundle number of a bundle unit (R33). -/
def bundleFace (u : Nat) : Nat := (u - 64) / 16
def bundleNo (u : Nat) : Nat := (u - 64) % 16

/-- The two ends of an edge have exchanged valid descriptors (R329). -/
def Panel.peersOk (p : Panel) (s e : Nat) : Bool :=
  let f := facing s e
  bitOf (p.field s Csr.AZL_STATUS_PEER_OK) e && bitOf (p.field f.1 Csr.AZL_STATUS_PEER_OK) f.2

/-- The verdict of a unit: that of pass 2, but a bundle of an edge whose peer is untested is unproven unless it is bad (R329). -/
def Panel.verdictFor (p : Panel) (rs : List ProofReport) (s u : Nat) : UnitState :=
  let v := p.verdict2 rs s u
  if 64 ≤ u && v ≠ .bad && !p.peersOk s (bundleFace u) then .unproven else v

/-- Evaluates the two passes for every unit of some dies and keeps the verdicts (R40). -/
def Panel.judge (p : Panel) (sites : List Nat) : Panel :=
  let rs := p.plan.reports
  let vs := sites.flatMap fun s => (unitsOf s).map fun u => (unitKey s u, p.verdictFor rs s u)
  p.modPlan fun q => { q with verdict := vs.foldl (fun m kv => SMap.set (fun _ => .good) m kv.1 kv.2) q.verdict }

/-- A tester that has given no report for a unit counts as no response (R42). -/
def Panel.silence (p : Panel) (s : Nat) : Panel :=
  let rs := p.plan.reports
  let missing := (p.testers rs s).flatMap fun t => (unitsOf s).filterMap fun u =>
    if (outcomeOf rs t s u).isNone then some (ProofReport.mk t s u .noResponse) else none
  p.modPlan fun q => { q with reports := q.reports ++ missing }

/-- The key of a signature register (R37). -/
def sigKey (tester target u : Nat) : Nat := (tester * siteCount + target) * 128 + u

/-- Folds one 64-bit snapshot into a tester's signature register (R37). -/
def Panel.foldSnapshot (p : Panel) (tester target u snapshot : Nat) : Panel :=
  let k := sigKey tester target u
  let old := (SMap.get (fun _ => none) p.plan.signatures k).getD 0
  p.modPlan fun q => { q with signatures := SMap.set (fun _ => none) q.signatures k (some (Config.foldSnapshot old snapshot)) }

/-- Folds a whole stream of snapshots into a tester's signature register of every unit of a target. -/
def Panel.foldStream (p : Panel) (tester target : Nat) (stream : List Nat) : Panel :=
  let sig := some (stream.foldl Config.foldSnapshot 0)
  p.modPlan fun q => { q with signatures := (unitsOf target).foldl (fun m u =>
    SMap.set (fun _ => none) m (sigKey tester target u) sig) q.signatures }

/-- The 512 snapshots of a corner die's 4 KiB BIST log (R43). -/
def Panel.cornerLog (p : Panel) (c : Nat) : List Nat :=
  (List.range 512).map fun i => p.words c (Csr.TCK_BLOG (2 * i)).off 2

/-- A corner die's own BIST at power good (R43): the stream that it gave goes to its log, and its self verdict is that of the same
stream (R37). -/
def Panel.cornerBist (p : Panel) (c : Nat) (stream : List Nat) : Panel :=
  let p := p.each (stream.take 512).zipIdx fun p x => p.setWords c (Csr.TCK_BLOG (2 * x.2)).off x.1 2
  p.foldStream c c (p.cornerLog c)

/-- The number of a die type in the floor-plan record (R48). -/
def dieTypeNo (s : Nat) : Nat :=
  match dieClass s with
  | .compute => 0 | .link => 1 | .memory => 2 | .pd => 3 | .hd => 4 | .td => 5 | .ad => 6

/-- A die's stepping, of the capability descriptor that it sends (R328). -/
def steppingOf (s : Nat) : Nat := (Config.dieIdent s).toNat / 2 ^ 16 % 256

/-- The signature that a good unit gives (R37): from the testers' BIST ROM for the die's type and stepping; for a guest, which
its compute neighbour's edge names, from the signed image in force, when that carries the set of the guest's SIGSET (R336). -/
def Panel.golden (p : Panel) (s u : Nat) : Option Nat :=
  let n := edgeDieNeighbour s
  if 400 ≤ s && s < 464 && bitOf (p.field n.1 Csr.AZL_STATUS_GUEST) n.2 then
    Config.guestSignature p.boot.imageHash (bitsOf (p.field n.1 (Csr.AZL_CAP_PEER n.2)) 128 32) u
  else some (Config.goldenSignature (dieTypeNo s) (steppingOf s) u)

/-- The reports that testers make of a target from their signature registers (R37): a register that no snapshot reached, or that
has no golden value to be compared with, gives none. -/
def Panel.signatureReports (p : Panel) (s : Nat) : List ProofReport :=
  let rs := p.plan.reports
  (s :: p.testers rs s).flatMap fun t => (unitsOf s).filterMap fun u =>
    match SMap.get (fun _ => none) p.plan.signatures (sigKey t s u), p.golden s u with
    | some sig, some gold =>
      if (outcomeOf rs t s u).isSome then none
      else some (ProofReport.mk t s u (if sig = gold then .matched else .mismatch))
    | _, _ => none

/-- The testers of some dies report, and the silent ones count as no response (R37, R42). -/
def Panel.collectReports (p : Panel) (sites : List Nat) : Panel :=
  let p := p.each sites fun p s => p.modPlan fun q => { q with reports := q.reports ++ p.signatureReports s }
  p.each sites fun p s => p.silence s

/-- Takes the reports about some dies and their signatures away, before they are tested again. -/
def Panel.forgetReports (p : Panel) (sites : List Nat) : Panel :=
  p.modPlan fun q =>
    { q with
      reports := q.reports.filter fun r => !hasNat sites r.target
      signatures := q.signatures.filter fun kv => !hasNat sites (kv.1 / 128 % siteCount)
      selfSeq := q.selfSeq.filter fun kv => !hasNat sites kv.1 }

/-! ### Merging (R26–R29, R45–R49) -/

/-- The order of the unit states from best to worst as the rows of R45 decide. -/
def UnitState.code : UnitState → Nat
  | .good => 0 | .derated => 1 | .bad => 2 | .unproven => 3

/-- The merged state of a unit (R45): fuses, then the field errata, then the verdict; a unit marked bad for this boot is
bad (R76, R77, R317, R497). -/
def Panel.mergedState (p : Panel) (s u : Nat) : UnitState :=
  let e := p.fieldState s u
  let v := p.verdictOf s u
  if p.fuseBad s u || e = 2 || v = .bad || p.plan.bootBad.any (fun b => b.1 = s && (b.2 = u || b.2 = 0)) then .bad
  else if v = .unproven then .unproven
  else if e = 1 || v = .derated then .derated
  else .good

/-- The unit by which the far die names the same bundle. -/
def farUnit (s u : Nat) : Nat × Nat :=
  let f := facing s (bundleFace u)
  (f.1, 64 + 16 * f.2 + bundleNo u)

/-- A bundle is good only when both dies have a good uncore or die logic and neither end names it as failed (R27, R28). -/
def Panel.bundleGood (p : Panel) (s u : Nat) : Bool :=
  let (s', u') := farUnit s u
  p.unitState s u = .good && p.unitState s' u' = .good && p.logicGood s && p.logicGood s'

/-- The die states of R48: 0 usable, 1 partial, 2 bad, 3 unproven (R26–R28). -/
def Panel.dieState (p : Panel) (s : Nat) : Nat :=
  let logic := p.unitState s 1
  if logic = .unproven then 3
  else if logic ≠ .good then 2
  else match dieClass s with
    | .compute => if p.usable s then 0 else 1
    | .link => if (List.range 4).all fun k => p.unitState s (8 + k) = .good then 0 else 1
    | .memory => if (List.range 8).all fun k => p.unitState s (16 + k) = .good then 0 else 2
    | _ => 0

/-- How many sites below `n` satisfy a test. -/
def countSites (n : Nat) (f : Nat → Bool) : Nat := ((List.range n).filter f).length

/-- Whether a proof verdict in the merge appends a field entry, and with which cause: a bad verdict on a unit that is
neither fuse-bad nor field-bad (R45). -/
def Panel.mergeUnit (cause : Nat) (p : Panel) (s u : Nat) : Panel :=
  let f := p.fuseBad s u
  let e := p.fieldState s u
  let v := p.verdictOf s u
  let p := if f && v = .good then p.raise p.primary 0x0E03 else p
  let p := if !f && e ≠ 2 && v = .bad then (p.appendField s u 2 cause 0x0E01).raise p.primary 0x0E01 else p
  let p := if !f && e ≠ 2 && v = .unproven then p.raise p.primary 0x0E02 else p
  let st := p.mergedState s u
  p.modPlan fun q => { q with unit := SMap.set (fun _ => .good) q.unit (unitKey s u) st }

/-- The sources field of a site entry (R48). -/
def Panel.sourcesOf (p : Panel) (s : Nat) : Nat :=
  let us := unitsOf s
  let es := p.errata.filter fun e => e.site = s
  flag (us.any fun u => p.fuseBad s u) + 2 * flag (us.any fun u => p.verdictOf s u = .bad) + 4 * flag (!es.isEmpty)
    + 8 * flag (us.any fun u => p.verdictOf s u = .unproven) + 16 * flag (es.any fun e => e.cause = 4)
    + 32 * flag (es.any fun e => e.cause = 5)

/-- The unit-states field of a site entry, laid out by die type (R48). -/
def Panel.unitStatesOf (p : Panel) (s : Nat) : Nat :=
  let c (u : Nat) := (p.unitState s u).code
  match dieClass s with
  | .compute => c 1 + 4 * c 2 + 16 * c 3 + 64 * c 4 + 256 * c 5
  | .link => c 1 + 4 * c 8 + 16 * c 9 + 64 * c 10 + 256 * c 11
  | .memory => c 1 + ((List.range 8).map fun k => 2 ^ (2 + k) * flag (p.unitState s (16 + k) ≠ .good)).sum
  | _ => c 1

/-- The bundle-good mask of a site entry (R48). -/
def Panel.bundleMask (p : Panel) (s : Nat) : Nat :=
  ((List.range (16 * faceCount s)).map fun i => 2 ^ i * flag (p.bundleGood s (64 + i))).sum

/-- The 16 bytes of a site entry (R48); `sources = false` gives the form that is digested (R49). -/
def Panel.siteEntry (p : Panel) (sources : Bool) (s : Nat) : List Byte :=
  leBytes 2 s ++ leBytes 1 (dieTypeNo s) ++ leBytes 1 (p.dieState s) ++ leBytes 2 (p.unitStatesOf s)
    ++ leBytes 2 (if sources then p.sourcesOf s else 0) ++ leBytes 8 (p.bundleMask s)

/-- The digest of the floor plan (R49). -/
def Panel.floorPlanDigest (p : Panel) : List Byte := Config.sha384 (allSites.flatMap (p.siteEntry false))

/-- How many compute dies are in a die state (R48). -/
def Panel.computeIn (p : Panel) (st : Nat) : Nat := countSites 400 fun s => p.dieState s = st

/-- The flags of the floor-plan record (R46, R48). -/
def Panel.planFlags (p : Panel) : Nat :=
  flag (p.computeIn 0 < 384)
    + 2 * flag ((List.range 32).any fun k => p.dieState (401 + 2 * k) ≠ 0)
    + 4 * flag ((List.range 32).any fun k => p.dieState (400 + 2 * k) ≠ 0)
    + 8 * flag (p.primary = siteAD)
    + 16 * flag ((List.range 400).any fun s => [2, 3, 4, 5].any fun u => p.unitState s u = .derated)

/-- The 7,616 bytes of the floor-plan record (R48). -/
def Panel.floorPlanRecord (p : Panel) : List Byte :=
  [0x4B, 0x59, 0x46, 0x50] ++ leBytes 2 0x0100 ++ leBytes 2 p.plan.flags ++ leBytes 4 0x1DC0 ++ leBytes 2 468
    ++ leBytes 2 (p.computeIn 0) ++ leBytes 2 (p.computeIn 1) ++ leBytes 2 (p.computeIn 2) ++ leBytes 2 (p.computeIn 3)
    ++ leBytes 2 p.errata.length ++ leBytes 4 (p.field sitePD Csr.BST_FP_SEQ) ++ leBytes 4 0
    ++ leBytes 8 p.plan.mergeTime ++ sliceBytes p.floorPlanDigest 0 48 ++ List.replicate 40 0
    ++ allSites.flatMap (p.siteEntry true)

/-- Publishes the floor plan: the merge sequence rises, the record is written to LPDDR5X, and the BST_FP registers mirror
it (R45, R47–R49). -/
def Panel.publishPlan (p : Panel) : Panel :=
  let p := p.modPlan fun q => { q with mergeTime := p.now, flags := p.planFlags }
  let p := p.setField sitePD Csr.BST_FP_SEQ (p.field sitePD Csr.BST_FP_SEQ + 1)
  let p := p.setField sitePD Csr.BST_FP_ADDR Config.floorPlanAddr.toNat
  let p := p.setField sitePD Csr.BST_FP_DIGEST (leNat p.floorPlanDigest)
  let p := p.put { addr := Config.floorPlanAddr.toNat, data := p.floorPlanRecord }
  p.noteChange 3

/-- PD merges the floor plan over every unit and publishes it (R45–R47). `cause` is that of new entries. -/
def Panel.merge (p : Panel) (cause : Nat) : Panel :=
  let p := p.each allSites fun p s => p.each (unitsOf s) fun p u => Panel.mergeUnit cause p s u
  let p := p.raiseIf (p.computeIn 0 < 384) p.primary 0x0E04
  let p := p.raiseIf ((List.range 32).any fun k => p.dieState (401 + 2 * k) ≠ 0) p.primary 0x0E0A
  p.publishPlan

/-! ### Field self-test (R50–R52) -/

/-- Whether a region is tied off or out of service, or locked up in no forme (FRM_R_STATE 1, 5 or 0): one that loads or is ready
is neither. -/
def Panel.outOfService (p : Panel) (r : Nat) : Bool :=
  let st := p.field sitePD (Csr.FRM_R_STATE_STATE r)
  !p.running r && (st = 0 || st = 1 || st = 5)

/-- A die serves a reprint as reserve (R50, R51). -/
def Panel.reserveBusy (p : Panel) (s : Nat) : Bool := p.contain.claimed.any fun k => k / 4 = s

/-- A thermal emergency is active on a die (R50, R488: forced stretch in force). -/
def Panel.emergency (p : Panel) (s : Nat) : Bool := p.isSet s Csr.THM_STATUS_EMERG

/-- A die is itself the target of a running BIST. -/
def Panel.underBist (p : Panel) (s : Nat) : Bool := p.plan.bists.any fun b => b.site = s

/-- The code with which a field BIST start is refused, if it is (R50; a turn-on in progress refuses it too, spec/19). The target
is a die of a region that is tied off or out of service, or a reserve die, which is a compute die of no region (R21); a START
while the target's own BIST runs is refused as under BIST (DESIGN CHOICE: the spec names no case; notes/assumptions/137.md). -/
def Panel.bistRefusal (p : Panel) (s : Nat) : Option Nat :=
  let quiet := match p.regionOf s with
    | some r => p.outOfService r
    | none => s < 400 && !p.reserveBusy s
  let turning := (List.range 5).any fun d => p.field s (Csr.PWR_DOM_STATE d) = domTurningOn
  if !quiet || turning then some 0x0E05
  else if p.underBist s || (p.testers p.plan.reports s).any fun t => p.underBist t then some 0x0E0F
  else if p.emergency s then some 0x0E10
  else none

/-- The bundles of a die leave service for a loopback run, or return to it, at both ends (R52). -/
def Panel.setLooped (p : Panel) (s : Nat) (bs : List Nat) (was now : Nat) : Panel :=
  p.each bs fun p b => p.each [(s, b), farBundle s b] fun p x =>
    if p.azState x.1 x.2 = was then p.setField x.1 (Csr.AZL_BUNDLE_STATE x.2) now else p

/-- The run of a die's field BIST ends: its bundles return to service, and what testers had reported of units that the run does
not report holds again. -/
def Panel.leaveBist (p : Panel) (s : Nat) (reported : Nat → Bool) : Panel :=
  match p.plan.bists.find? fun b => b.site = s with
  | none => p
  | some run =>
    let p := p.setLooped s run.looped azTraining azUp
    p.modPlan fun q => { q with
      bists := q.bists.filter fun b => b.site ≠ s
      reports := (q.reports.filter fun r => r.target ≠ s || reported r.unit)
        ++ run.before.filter fun r => !reported r.unit }

/-- A BIST run stops (R52 cases). What it has overwritten by then the spec does not say: nothing is destroyed until a run
completes (DESIGN CHOICE: notes/assumptions/138.md). -/
def Panel.stopBist (p : Panel) (s : Nat) : Panel :=
  if !p.underBist s then p
  else
    let p := p.leaveBist s fun _ => false
    let p := (p.setFlag s Csr.BST_STATUS_BUSY false).setFlag s Csr.BST_STATUS_ABORTED true
    (p.setField s Csr.BST_RESULT 0).raise s 0x0E0D

/-- The unit mask of BST_CTRL.UNITS as unit numbers (R33). -/
def maskUnits (m : Nat) : List Nat := (List.range 5).filterMap fun i => if bitOf m i then some (1 + i) else none

/-- The BST_RESULT code of a unit state. -/
def resultCode : UnitState → Nat
  | .good => 1 | .derated => 1 | .bad => 2 | .unproven => 3

end Sys2Proof.Machine
end

