-- ==== Sys2Proof/Machine/Operands.lean ====
section
/-! DEFINITION. The sixteen number formats, rounding and conversion (spec/06): every operand form of the engines, the
movers and the compositor vector unit. A finite value is held exactly as a sign, a magnitude and a power of two. -/

namespace Sys2Proof.Machine

/-- A number: NaN, an infinity, or (−1)^neg × m × 2^e; m = 0 is a signed zero (R143, R144). -/
inductive Num where
  | nan
  | inf (neg : Bool)
  | fin (neg : Bool) (m : Nat) (e : Int)
deriving DecidableEq, Repr

/-- +0. -/
def Num.zero : Num := .fin false 0 0

/-! ### Exact arithmetic -/

/-- m × 2^e with the exponent lowered to `e'` ≤ e. -/
def alignTo (m : Nat) (e e' : Int) : Nat := m * 2 ^ (e - e').toNat

/-- The signed mantissa of a finite value at a common exponent. -/
def signedAt (neg : Bool) (m : Nat) (e e' : Int) : Int :=
  let v : Int := (alignTo m e e' : Nat)
  if neg then -v else v

/-- The exact sum of two numbers (R153, R163): opposite infinities give NaN, and an exact zero is +0 unless both are −0. -/
def Num.add : Num → Num → Num
  | .nan, _ => .nan
  | _, .nan => .nan
  | .inf a, .inf b => if a = b then .inf a else .nan
  | .inf a, _ => .inf a
  | _, .inf b => .inf b
  | .fin na ma ea, .fin nb mb eb =>
    if ma = 0 && mb = 0 then .fin (na && nb) 0 0
    else
      let e := min ea eb
      let v := signedAt na ma ea e + signedAt nb mb eb e
      .fin (decide (v < 0)) v.natAbs (if v = 0 then 0 else e)

/-- The negated number. -/
def Num.neg : Num → Num
  | .nan => .nan
  | .inf a => .inf (!a)
  | .fin n m e => .fin (!n) m e

/-- The magnitude. -/
def Num.abs : Num → Num
  | .nan => .nan
  | .inf _ => .inf false
  | .fin _ m e => .fin false m e

/-- The exact product (R153): 0 × ∞ is NaN. -/
def Num.mul : Num → Num → Num
  | .nan, _ => .nan
  | _, .nan => .nan
  | .inf a, .inf b => .inf (a != b)
  | .inf a, .fin b m _ => if m = 0 then .nan else .inf (a != b)
  | .fin a m _, .inf b => if m = 0 then .nan else .inf (a != b)
  | .fin a m e, .fin b m' e' => .fin (a != b) (m * m') (e + e')

/-- The number times 2^k. -/
def Num.scale (k : Int) : Num → Num
  | .fin n m e => .fin n m (e + k)
  | x => x

/-- An integer as a number. -/
def Num.ofInt (i : Int) : Num := .fin (decide (i < 0)) i.natAbs 0

/-- Whether a number is ±0. -/
def Num.isZero : Num → Bool
  | .fin _ m _ => m = 0
  | _ => false

/-- Whether a number is finite. -/
def Num.isFinite : Num → Bool
  | .fin _ _ _ => true
  | _ => false

/-- Comparison of two finite magnitudes. -/
def magLt (m : Nat) (e : Int) (m' : Nat) (e' : Int) : Bool :=
  let k := min e e'
  alignTo m e k < alignTo m' e' k

/-- Less-than by value, with +0 equal to −0; false when either is NaN (R141). -/
def Num.lt : Num → Num → Bool
  | .nan, _ => false
  | _, .nan => false
  | .inf a, .inf b => a && !b
  | .inf a, _ => a
  | _, .inf b => !b
  | .fin na ma ea, .fin nb mb eb =>
    let e := min ea eb
    signedAt na ma ea e < signedAt nb mb eb e

/-- Equality by value, with +0 equal to −0; false when either is NaN (R141). -/
def Num.eqv : Num → Num → Bool
  | .nan, _ => false
  | _, .nan => false
  | .inf a, .inf b => a = b
  | .inf _, _ => false
  | _, .inf _ => false
  | .fin na ma ea, .fin nb mb eb =>
    let e := min ea eb
    signedAt na ma ea e = signedAt nb mb eb e

/-- The exact sum of a list with the rules of a group (R163): any NaN gives NaN, infinities of both signs give NaN, and
an exact sum of zero is +0 (R162). -/
def Num.groupSum (xs : List Num) : Num :=
  let s := xs.foldl Num.add Num.zero
  if s.isZero then Num.zero else s

/-! ### Rounding (R152, R159) -/

/-- How a magnitude is rounded to a multiple of a power of two. -/
inductive Rounding where
  /-- To nearest, ties to even (R152). -/
  | nearest
  /-- Toward +∞, for magnitudes (R185, R186). -/
  | up
  /-- Stochastic, with the element's 16-bit random value (R159). -/
  | stochastic (r : Nat)
deriving DecidableEq, Repr

/-- m × 2^e as a multiple of 2^q, rounded. -/
def roundMag (rd : Rounding) (m : Nat) (e q : Int) : Nat :=
  if q ≤ e then m * 2 ^ (e - q).toNat
  else
    let d := 2 ^ (q - e).toNat
    let t := m / d
    let rest := m % d
    match rd with
    | .nearest => if 2 * rest < d then t else if d < 2 * rest then t + 1 else t + t % 2
    | .up => if rest = 0 then t else t + 1
    | .stochastic r => if 2 ^ 16 ≤ rest * 2 ^ 16 / d + r then t + 1 else t

/-- ⌊log₂ (m × 2^e)⌋ for m ≠ 0. -/
def magExp (m : Nat) (e : Int) : Int := Nat.log2 m + e

/-! ### Floating layouts (R143) -/

/-- A floating layout: exponent and fraction bits, bias, the largest finite value as mantissa × 2^exponent, whether it
has infinities, and its canonical NaN. -/
structure FloatFmt where
  ebits : Nat
  fbits : Nat
  bias : Nat
  maxMant : Nat
  maxExp : Int
  hasInf : Bool
  nan : Option Nat
deriving DecidableEq, Repr

def fmtF32 : FloatFmt := ⟨8, 23, 127, 2 ^ 24 - 1, 104, true, some 0x7FC00000⟩
def fmtF16 : FloatFmt := ⟨5, 10, 15, 2 ^ 11 - 1, 5, true, some 0x7E00⟩
def fmtBF16 : FloatFmt := ⟨8, 7, 127, 2 ^ 8 - 1, 120, true, some 0x7FC0⟩
def fmtE4M3 : FloatFmt := ⟨4, 3, 7, 14, 5, false, some 0x7F⟩
def fmtE5M2 : FloatFmt := ⟨5, 2, 15, 7, 13, true, some 0x7E⟩
def fmtE3M2 : FloatFmt := ⟨3, 2, 3, 7, 2, false, none⟩
def fmtE2M3 : FloatFmt := ⟨2, 3, 1, 15, -1, false, none⟩
def fmtE2M1 : FloatFmt := ⟨2, 1, 1, 3, 1, false, none⟩
/-- The KA24 value set: binary32 with a 22-bit fraction (R150, R151); the canonical NaN is word 0x7FC000, guard 0. -/
def fmtKA : FloatFmt := ⟨8, 22, 127, 2 ^ 23 - 1, 105, true, some 0x3FE00000⟩

/-- The number a code of a floating layout stands for (R143). -/
def FloatFmt.decode (f : FloatFmt) (c : Nat) : Num :=
  let s := bitOf c (f.ebits + f.fbits)
  let ex := bitsOf c f.fbits f.ebits
  let fr := c % 2 ^ f.fbits
  let ones := 2 ^ f.ebits - 1
  if ex = ones && f.hasInf then (if fr = 0 then .inf s else .nan)
  else if !f.hasInf && f.nan.isSome && ex = ones && fr = 2 ^ f.fbits - 1 then .nan
  else if ex = 0 then .fin s fr (1 - (f.bias : Int) - f.fbits)
  else .fin s (2 ^ f.fbits + fr) ((ex : Int) - f.bias - f.fbits)

/-- The code of the infinity of a layout that has one. -/
def FloatFmt.infCode (f : FloatFmt) : Nat := (2 ^ f.ebits - 1) * 2 ^ f.fbits

/-- The code of a mantissa n × 2^q that the layout represents exactly. -/
def FloatFmt.pack (f : FloatFmt) (n : Nat) (q : Int) : Nat :=
  if n = 0 then 0
  else
    let ex := magExp n q
    let emin : Int := 1 - f.bias
    if ex < emin then alignTo n q (emin - f.fbits)
    else (ex + f.bias).toNat * 2 ^ f.fbits + (n * 2 ^ f.fbits / 2 ^ Nat.log2 n - 2 ^ f.fbits)

/-- The code of the largest finite magnitude. -/
def FloatFmt.maxCode (f : FloatFmt) : Nat := f.pack f.maxMant f.maxExp

/-- The sign bit of a layout. -/
def FloatFmt.sign (f : FloatFmt) (neg : Bool) : Nat := flag neg * 2 ^ (f.ebits + f.fbits)

/-- Rounds a number to a layout. `sat` is conversion (R154: finite overflow saturates, infinity saturates where there is
none, NaN becomes +0 where there is none); otherwise arithmetic (R153: overflow becomes an infinity). -/
def FloatFmt.round (f : FloatFmt) (sat : Bool) (rd : Rounding) : Num → Nat
  | .nan => f.nan.getD 0
  | .inf s => if f.hasInf then f.infCode + f.sign s else f.maxCode + f.sign s
  | .fin s m e =>
    if m = 0 then f.sign s
    else
      let q := max (magExp m e) (1 - (f.bias : Int)) - f.fbits
      let n := roundMag rd m e q
      if magLt f.maxMant f.maxExp n q then
        (if sat || !f.hasInf then f.maxCode else f.infCode) + f.sign s
      else f.pack n q + f.sign s

/-- One arithmetic result in binary32 (R152, R153). -/
def roundF32 (x : Num) : Nat := fmtF32.round false .nearest x
/-- The number of a binary32 bit pattern. -/
def f32 (c : Nat) : Num := fmtF32.decode c
/-- A conversion into binary32 (R154, R155). -/
def toF32 (x : Num) : Nat := fmtF32.round true .nearest x

/-! ### LL8 (R148, R149, R157) -/

/-- The mantissas of C[f], the binary32 values nearest to 2^(f/8), times 2^-23 (R148). -/
def llC : List Nat := [8388608, 9147842, 9975792, 10878679, 11863283, 12937002, 14107901, 15384775]

/-- The mantissas of the binary32 values nearest to 2^(j/16) for odd j, times 2^-23 (R157). -/
def llT : List Nat := [8760003, 9552851, 10417458, 11360319, 12388516, 13509772, 14732511, 16065917]

/-- ±C[p mod 8] × 2^⌊p / 8⌋ (R148, R149). -/
def llValue (neg : Bool) (p : Int) : Num := .fin neg (nth llC (p % 8).toNat 0) (p / 8 - 23)

/-- Sign and log exponent of an LL8 code. -/
def llExp (c : Nat) : Int := (c % 128 : Nat) - 64

/-- The number of an LL8 code (R148). -/
def llDecode (c : Nat) : Num :=
  if c = 0 then Num.zero else if c = 0x80 then .nan else llValue (bitOf c 7) (llExp c)

/-- The product of two LL8 codes as an engine takes it (R149). -/
def llMul (a b : Nat) : Num :=
  if a = 0x80 || b = 0x80 then .nan
  else if a = 0 || b = 0 then Num.zero
  else llValue (bitOf a 7 != bitOf b 7) (llExp a + llExp b)

/-- Whether |x| ≥ T_k, the binary32 value nearest to 2^((2k+1)/16) (R157). -/
def llReaches (m : Nat) (e : Int) (k : Int) : Bool :=
  let j := 2 * k + 1
  !magLt m e (nth llT ((j % 16).toNat / 2) 0) (j / 16 - 23)

/-- The largest log exponent from −63 to 63 that a magnitude reaches, tried from `n - 64` down. -/
def llSearch (m : Nat) (e : Int) : Nat → Int
  | 0 => -63
  | n + 1 => if llReaches m e ((n : Int) - 63 - 1) then (n : Int) - 63 else llSearch m e n

/-- A binary32 value stored as LL8 (R157). -/
def llEncode : Num → Nat
  | .nan => 0x80
  | .inf s => 127 + 128 * flag s
  | .fin s m e =>
    if m = 0 || magLt m e 1 (-8) then 0
    else ((max (-63) (llSearch m e 127)) + 64).toNat + 128 * flag s

/-! ### Integers (R147, R152, R158) -/

/-- x saturated to `w` bits signed. -/
def satInt (w : Nat) (x : Int) : Int :=
  let hi : Int := (2 ^ (w - 1) : Nat) - 1
  if x < -hi - 1 then -hi - 1 else if hi < x then hi else x

/-- A number rounded to an integer and saturated to `w` bits; NaN becomes +0 (R152, R154). -/
def toInt (w : Nat) (rd : Rounding) : Num → Int
  | .nan => 0
  | .inf s => satInt w (if s then -(2 ^ w : Nat) else (2 ^ w : Nat))
  | .fin s m e =>
    let n : Int := roundMag rd m e 0
    satInt w (if s then -n else n)

/-- INT32 to INT8 or INT4: an arithmetic shift right that rounds, then saturation (R158). -/
def narrowInt (w shift : Nat) (rd : Rounding) (x : Int) : Int := toInt w rd (.fin (decide (x < 0)) x.natAbs (-(shift : Int)))

/-! ### The format codes (R142) -/

/-- The families of R142. -/
inductive Family where
  | f32 | half | small | integer | int32 | logLinear | transport
deriving DecidableEq, Repr

/-- The family of a format code. -/
def familyOf (c : Nat) : Family :=
  if c = 0 then .f32 else if c ≤ 2 then .half else if c ≤ 0xA then .small else if c ≤ 0xC then .integer
  else if c = 0xD then .int32 else if c = 0xE then .logLinear else .transport

/-- Whether a code is an MX format, with a scale plane (R142, R145). -/
def isMx (c : Nat) : Bool := 5 ≤ c && c ≤ 0xA

/-- The element width in bits of a format code; containers of KA24 and INT32 are 32 bits (R142, R151). -/
def widthOf (c : Nat) : Nat :=
  match c with
  | 0 => 32 | 1 => 16 | 2 => 16 | 3 => 8 | 4 => 8 | 5 => 8 | 6 => 8 | 7 => 6 | 8 => 6 | 9 => 4 | 10 => 8 | 11 => 8
  | 12 => 4 | 13 => 32 | 14 => 8 | _ => 32

/-- The floating layout of an element, for the codes that have one. -/
def layoutOf (c : Nat) : Option FloatFmt :=
  match c with
  | 0 => some fmtF32 | 1 => some fmtF16 | 2 => some fmtBF16 | 3 => some fmtE4M3 | 4 => some fmtE5M2 | 5 => some fmtE4M3
  | 6 => some fmtE5M2 | 7 => some fmtE3M2 | 8 => some fmtE2M3 | 9 => some fmtE2M1 | _ => none

/-- The KA24 code (S, E, M:G in 31 bits) of its 32-bit container, and back (R151). -/
def kaOfContainer (c : Nat) : Nat := c % 2 ^ 24 * 128 + bitsOf c 24 7
def kaToContainer (k : Nat) : Nat := k / 128 % 2 ^ 24 + k % 128 * 2 ^ 24

/-- The number an element code stands for, scale left out (R143, R145, R147, R148, R151). -/
def elemValue (c code : Nat) : Num :=
  match layoutOf c with
  | some f => f.decode code
  | none =>
    if c = 0xA then (Num.ofInt (signed 8 code)).scale (-6)
    else if c = 0xB then Num.ofInt (signed 8 code)
    else if c = 0xC then Num.ofInt (signed 4 code)
    else if c = 0xD then Num.ofInt (signed 32 code)
    else if c = 0xE then llDecode code
    else fmtKA.decode (kaOfContainer code)

/-- An element of an MX block with its scale byte (R145). -/
def mxValue (c code scale : Nat) : Num :=
  if scale = 0xFF then .nan else (elemValue c code).scale ((scale : Int) - 127)

/-- Element `i` of packed elements of `w` bits (R146, R147). -/
def packedElem (bs : List Byte) (w i : Nat) : Nat := bitsOf (leAt bs (w * i / 8) 5) (w * i % 8) w

/-- Elements packed at `w` bits each into bytes (R146, R147). -/
def packElems (w : Nat) (xs : List Nat) : List Byte :=
  leBytes ((w * xs.length + 7) / 8) ((xs.zipIdx.map fun xi => xi.1 % 2 ^ w * 2 ^ (w * xi.2)).sum)

/-- emax of an MX element format (R156). -/
def mxEmax (c : Nat) : Int :=
  match c with
  | 5 => 8 | 6 => 15 | 7 => 4 | 8 => 2 | 9 => 2 | _ => 0

/-- A number stored in an element format other than MX, LL8 and INT32-to-narrow (R154, R157, R158). -/
def elemCode (c : Nat) (rd : Rounding) (x : Num) : Nat :=
  match layoutOf c with
  | some f => f.round true rd x
  | none =>
    if c = 0xA then unsigned 8 (max (-127) (toInt 8 rd (x.scale 6)))
    else if c = 0xB then unsigned 8 (toInt 8 rd x)
    else if c = 0xC then unsigned 4 (toInt 4 rd x)
    else if c = 0xD then unsigned 32 (toInt 32 rd x)
    else if c = 0xE then llEncode x
    else kaToContainer (fmtKA.round true .nearest x)

/-- The larger of two finite magnitudes. -/
def magMax (a b : Num) : Num := if a.abs.lt b.abs then b else a

/-- The scale byte of a block of binary32 values (R156, steps 1 to 3). -/
def mxScale (c : Nat) (xs : List Num) : Nat :=
  if xs.any fun x => !x.isFinite then 0xFF
  else
    match xs.foldl magMax Num.zero with
    | .fin _ m e =>
      if m = 0 then 0x7F else (max (-127) (min 127 (magExp m e - mxEmax c)) + 127).toNat
    | _ => 0xFF

/-- The element codes of a block of values with its scale byte (R156, step 4); `rds` is the rounding of each element. -/
def mxCodes (c scale : Nat) (xs : List (Num × Rounding)) : List Nat :=
  if scale = 0xFF then xs.map fun _ => 0
  else xs.map fun x => elemCode c x.2 (x.1.scale (127 - (scale : Int)))

/-- Whether converting a value to a format squashes a NaN to +0 (R154 rule 1). -/
def squashes (c : Nat) (x : Num) : Bool :=
  x = .nan && ((7 ≤ c && c ≤ 9) || (0xA ≤ c && c ≤ 0xD)) && !isMx c

/-! ### Stochastic rounding (R159–R161) -/

/-- The key of a cluster's generator for a stroke (R160). -/
def rngKey (seed work cluster stroke : Nat) : Nat :=
  Nat.xor (Nat.xor seed (work * 2 ^ 48 % 2 ^ 64)) (Nat.xor (cluster * 2 ^ 46 % 2 ^ 64) (stroke % 2 ^ 46))

/-- Draw number n of a generator (R160). -/
def rngDraw (key n : Nat) : Nat :=
  let z := (key + (n + 1) * 0x9E3779B97F4A7C15) % 2 ^ 64
  let z := Nat.xor z (z / 2 ^ 30) * 0xBF58476D1CE4E5B9 % 2 ^ 64
  let z := Nat.xor z (z / 2 ^ 27) * 0x94D049BB133111EB % 2 ^ 64
  Nat.xor z (z / 2 ^ 31)

/-- The 16-bit random value of element i of a store that begins at draw n (R161). -/
def rngValue (key n i : Nat) : Nat := bitsOf (rngDraw key (n + i / 4)) (16 * (i % 4)) 16

/-! ### Which operands pair (R167, R170) -/

/-- The operand classes of R170. -/
inductive OpClass where
  | f32 | half | eight | four | log
deriving DecidableEq, Repr

/-- The class of a tile of weight format `w` and input format `x`, when the pair is allowed (R167). -/
def pairClass (w x : Nat) : Option OpClass :=
  let fw := familyOf w
  let fx := familyOf x
  if fw = .f32 && fx = .f32 then some .f32
  else if fw = .logLinear && fx = .logLinear then some .log
  else if fw = .half && (fx = .half || fx = .small) || fw = .small && fx = .half then some .half
  else if fw = .small && fx = .small then some (if w = 9 && x = 9 then .four else .eight)
  else if fw = .integer && fx = .integer then some (if w = 0xC && x = 0xC then .four else .eight)
  else none

/-- KLEN max of a class (R170). -/
def OpClass.klenMax : OpClass → Nat
  | .f32 => 16 | .half => 64 | .eight => 128 | .four => 256 | .log => 256

/-- Group size of a class (R162, R170). -/
def OpClass.group : OpClass → Nat
  | .f32 => 1 | .half => 8 | _ => 32

end Sys2Proof.Machine
end

