-- ==== Sys2Proof/Machine/Accum.lean ====
section
/-! DEFINITION. The arithmetic of the engines: group sums, accumulation and the checksum and magnitude columns (R162–R166,
R177, R185). -/

namespace Sys2Proof.Machine

/-- The number in an accumulator container of a row type (R173). -/
def accValue (type c : Nat) : Num :=
  if type = 0 then f32 c else if type = 1 then elemValue 0xF c else Num.ofInt (signed 32 c)

/-- A number rounded to the value set of a row type, as its container (R153, R164, R165). -/
def accRound (type : Nat) (x : Num) : Nat :=
  if type = 0 then roundF32 x
  else if type = 1 then kaToContainer (fmtKA.round false .nearest x)
  else unsigned 32 (toInt 32 .nearest x)

/-- A value of a bank's column `n` at `k`, its MX scale left out unless the scale is NaN (R145, R162). -/
def nanScale (mx : Bool) (scale : Nat) (x : Num) : Num := if mx && scale = 0xFF then .nan else x

/-- The exponent that an MX scale contributes (R162): a non-MX operand counts as scale 127. -/
def scaleExp (mx : Bool) (scale : Nat) : Int := if mx && scale ≠ 0xFF then (scale : Int) - 127 else 0

/-- The input row of one pass: its format, element codes and scale bytes. -/
structure InputRow where
  fmt : Nat
  codes : List Nat
  scales : List Nat
  fox : Bool
deriving DecidableEq, Repr

/-- The weight scale of column `n` at `k`, and the input scale at `k` (R171, R172). -/
def Bank.scaleAt (b : Bank) (n k : Nat) : Nat := nth (nth b.scales n []) (k / 32) 127
def InputRow.scaleAt (x : InputRow) (k : Nat) : Nat := nth x.scales (k / 32) 127

/-- One product of an output column (R149, R162). -/
def Bank.product (b : Bank) (x : InputRow) (n k : Nat) : Num :=
  let w := nth (nth b.cols n []) k 0
  let v := nth x.codes k 0
  let p := if b.wfmt = 0xE then llMul w v else (elemValue b.wfmt w).mul (elemValue x.fmt v)
  nanScale (isMx b.wfmt) (b.scaleAt n k) (nanScale (isMx x.fmt) (x.scaleAt k) p)

/-- The indices of group `g` of a tile of length `klen` (R162). -/
def groupIdx (gs klen g : Nat) : List Nat := (List.range gs).map (fun i => g * gs + i) |>.filter fun k => k < klen

/-- The scaled result of group `g` for column `n` (R162, R163). -/
def Bank.groupResult (b : Bank) (x : InputRow) (gs n g : Nat) : Num :=
  let ks := groupIdx gs b.klen g
  (Num.groupSum (ks.map fun k => b.product x n k)).scale
    (scaleExp (isMx b.wfmt) (b.scaleAt n (g * gs)) + scaleExp (isMx x.fmt) (x.scaleAt (g * gs)))

/-- One output column over all groups of a pass: the new container, and whether INT32 saturated (R162–R165). -/
def Bank.accumulate (b : Bank) (x : InputRow) (type gs n a0 : Nat) : Nat × Bool :=
  (List.range (ceilDiv b.klen gs)).foldl (fun (st : Nat × Bool) g =>
    let (a, sat) := st
    let r := (accValue type a).add (b.groupResult x gs n g)
    if type = 2 then
      let exact := match r with
        | .fin s m e => (if s then -1 else 1) * (roundMag .nearest m e 0 : Int)
        | _ => 0
      (unsigned 32 (satInt 32 exact), sat || satInt 32 exact != exact)
    else (accRound type r, sat)) (a0, false)

/-- The checksum column over one pass (R185): x_k × c_k summed by groups and rounded to nearest in binary32, or exactly for
an integer tile. -/
def Bank.sumColumn (b : Bank) (x : InputRow) (int : Bool) (gs : Nat) (s0 : Int) : Int :=
  if int then
    (List.range b.klen).foldl (fun s k => s + signed (widthOf x.fmt) (nth x.codes k 0) * nth b.sumC k 0) s0
  else
    (List.range (ceilDiv b.klen gs)).foldl (fun s g =>
      let t := Num.groupSum ((groupIdx gs b.klen g).map fun k =>
        nanScale (isMx x.fmt) (x.scaleAt k) ((elemValue x.fmt (nth x.codes k 0)).mul (f32 (nth b.sumC k 0).toNat)))
      (roundF32 ((f32 s.toNat).add (t.scale (scaleExp (isMx x.fmt) (x.scaleAt (g * gs))))) : Nat)) s0

/-- The magnitude column over one pass (R185): |x_k| × m_k, rounded toward +∞, or exactly for an integer tile. -/
def Bank.magColumn (b : Bank) (x : InputRow) (int : Bool) (gs : Nat) (s0 : Int) : Int :=
  if int then
    (List.range b.klen).foldl (fun s k =>
      s + (signed (widthOf x.fmt) (nth x.codes k 0)).natAbs * nth b.sumM k 0) s0
  else
    (List.range (ceilDiv b.klen gs)).foldl (fun s g =>
      let t := Num.groupSum ((groupIdx gs b.klen g).map fun k =>
        nanScale (isMx x.fmt) (x.scaleAt k) ((elemValue x.fmt (nth x.codes k 0)).abs.mul (f32 (nth b.sumM k 0).toNat)))
      (fmtF32.round false .up ((f32 s.toNat).add (t.scale (scaleExp (isMx x.fmt) (x.scaleAt (g * gs))))) : Nat)) s0

/-- c_k of a tile: the exact sum over its columns, rounded once to binary32, or exact for integers (R185). -/
def tileC (wfmt klen nlen : Nat) (cols scales : List (List Nat)) : List Int :=
  let int := familyOf wfmt = .integer
  let b : Bank := { wfmt := wfmt, klen := klen, nlen := nlen, cols := cols, scales := scales }
  (List.range klen).map fun k =>
    if int then ((List.range nlen).map fun n => signed (widthOf wfmt) (nth (nth cols n []) k 0)).sum
    else (roundF32 (Num.groupSum ((List.range nlen).map fun n =>
      (nanScale (isMx wfmt) (b.scaleAt n k) (elemValue wfmt (nth (nth cols n []) k 0))).scale
        (scaleExp (isMx wfmt) (b.scaleAt n k)))) : Nat)

/-- m_k of a tile: the exact sum of magnitudes over its columns, rounded toward +∞, or exact for integers (R185). -/
def tileM (wfmt klen nlen : Nat) (cols scales : List (List Nat)) : List Int :=
  let int := familyOf wfmt = .integer
  let b : Bank := { wfmt := wfmt, klen := klen, nlen := nlen, cols := cols, scales := scales }
  (List.range klen).map fun k =>
    if int then ((List.range nlen).map fun n => ((signed (widthOf wfmt) (nth (nth cols n []) k 0)).natAbs : Int)).sum
    else (fmtF32.round false .up (Num.groupSum ((List.range nlen).map fun n =>
      (nanScale (isMx wfmt) (b.scaleAt n k) (elemValue wfmt (nth (nth cols n []) k 0)).abs).scale
        (scaleExp (isMx wfmt) (b.scaleAt n k)))) : Nat)

/-- A row as a STREAM with INIT = 1 begins it (R177). -/
def Row.begin (type nlen : Nat) : Row :=
  { valid := true, type := type, cols := nlen, vals := List.replicate nlen 0, fresh := true }

/-- One pass of an input row onto an accumulator row (R162–R166, R178, R185). -/
def Row.pass (r : Row) (b : Bank) (x : InputRow) (gs : Nat) : Row :=
  let int := familyOf b.wfmt = .integer
  let outs := r.vals.zipIdx.map fun vi => b.accumulate x r.type gs vi.2 vi.1
  { r with vals := outs.map (·.1), sat := r.sat || outs.any (·.2), groups := r.groups + ceilDiv b.klen gs,
           sc := b.sumColumn x int gs r.sc, sm := b.magColumn x int gs r.sm }

/-- A row as AINIT loads it (R175, R177): TYPE 0 binary32, 1 KA24, 2 INT32, 3 binary32 into a KA row (R155). -/
def Row.load (ty cols : Nat) (cs : List Nat) : Row :=
  let type := if ty = 3 then 1 else ty
  let vs := cs.take cols |>.map fun c => if ty = 3 then kaToContainer (fmtKA.round true .nearest (f32 c)) else c
  let ns := vs.map (accValue type)
  let ints := vs.map (signed 32)
  { valid := true, type := type, cols := cols, groups := 1, vals := vs, fresh := true,
    sc := if type = 2 then ints.sum else (roundF32 (Num.groupSum ns) : Nat),
    sm := if type = 2 then (ints.map fun i => (i.natAbs : Int)).sum
          else (fmtF32.round false .up (Num.groupSum (ns.map Num.abs)) : Nat) }

/-- The 1 KiB that a DRAIN writes for a row (R173): 256 containers, zero at and above COLS. -/
def Row.image (r : Row) : List Byte :=
  (List.range 256).flatMap fun i => leBytes 4 (if i < r.cols then nth r.vals i 0 else 0)

end Sys2Proof.Machine
end

