-- ==== Sys2Proof/Machine/Flags.lean ====
section
/-! DEFINITION. The output checks of a drained row: the checksum check, the bounds and what makes a row fail (R186–R189,
R191). -/

namespace Sys2Proof.Machine

/-- How the checksum check of a row came out (R186, R187). -/
inductive CheckResult where
  | pass | fail | nonFinite | saturated
deriving DecidableEq, Repr

/-- τ of R186, rounded toward +∞ to binary32; TOL_MULT 0 acts as 2. -/
def tolerance (mult groups type : Nat) (sm : Num) : Num :=
  let q : Int := if type = 0 then 24 else 23
  let m := if mult = 0 then 2 else mult
  f32 (fmtF32.round false .up
    (((Num.fin false (m * (groups + 1)) (-q)).mul sm).add (.fin false (groups + 1) (-140))))

/-- The checksum check of a row that is not foxed (R186, R187). A magnitude sum that is not finite lets the check pass (DESIGN CHOICE:
notes/assumptions/152.md). -/
def Row.check (r : Row) (mult : Nat) : CheckResult :=
  if r.type = 2 then
    if r.sat then .saturated
    else if (r.vals.map (signed 32)).sum = r.sc then .pass else .fail
  else
    let ys := r.vals.map (accValue r.type)
    let sy := Num.groupSum ys
    let sc := f32 r.sc.toNat
    if ys.any (fun y => !y.isFinite) || !sc.isFinite || !sy.isFinite then .nonFinite
    else if (tolerance mult r.groups r.type (f32 r.sm.toNat)).lt (sy.add sc.neg).abs then .fail else .pass

/-- The bounds of R188 that a row fails: range, plausibility, zero count. -/
def Row.bounds (r : Row) (rmax lo hi zmax : Nat) : Bool × Bool × Bool :=
  let ys := r.vals.map fun v => if r.type = 2 then f32 (toF32 (accValue 2 v)) else accValue r.type v
  let total := f32 (roundF32 (Num.groupSum (ys.map Num.abs)))
  let times (c : Nat) : Num := (f32 c).mul (.fin false r.cols 0)
  (ys.any (fun y => y = .nan || (f32 rmax).lt y.abs),
   total.lt (times lo) || (times hi).lt total,
   zmax < (ys.filter Num.isZero).length)

/-- What the checks of one drained row found. -/
structure RowVerdict where
  checked : Bool := false
  mismatch : Bool := false
  injected : Bool := false
  nonFinite : Bool := false
  saturated : Bool := false
  range : Bool := false
  plausible : Bool := false
  zeros : Bool := false
  parity : Bool := false
  fox : Bool := false
  /-- R189: the row fails. -/
  fails : Bool := false
deriving DecidableEq, Repr

/-- The settings that a DRAIN's checks use: CHK with CHECK_EN, TOL_MULT, NONFINITE_SUSPECT, SAT_SUSPECT and the bound entry
when it is valid (R186–R188). -/
structure CheckCfg where
  chk : Bool
  mult : Nat
  nonFiniteSuspect : Bool
  satSuspect : Bool
  bound : Option (Nat × Nat × Nat × Nat)
deriving DecidableEq, Repr

/-- The verdict on one row; `inject` fails its checksum check (R192). A foxed row is neither checked nor tested (R187, R188), but fails
when it carries the weight-parity flag (R189, R191). -/
def Row.verdict (r : Row) (g : CheckCfg) (inject : Bool) : RowVerdict :=
  if r.fox then { fox := true, parity := r.wpar, fails := r.wpar }
  else
    let res := r.check g.mult
    let checked := g.chk && (res = .pass || res = .fail)
    let inj := checked && inject
    let mis := checked && (res = .fail || inj)
    let nonf := g.chk && res = .nonFinite
    let sat := g.chk && res = .saturated
    let (rg, pl, ze) := match g.bound with
      | some (rmax, lo, hi, zmax) => r.bounds rmax lo hi zmax
      | none => (false, false, false)
    { checked := checked, mismatch := mis, injected := inj, nonFinite := nonf, saturated := sat, range := rg,
      plausible := pl, zeros := ze, parity := r.wpar, fox := false,
      fails := mis || rg || pl || ze || r.wpar || (nonf && g.nonFiniteSuspect) || (sat && g.satSuspect) }

/-- The verdicts of drained rows in order; the first row that is checked takes an armed injection (R192). -/
def verdicts (g : CheckCfg) : Bool → List Row → List RowVerdict
  | _, [] => []
  | inj, r :: rs =>
    let v := r.verdict g inj
    v :: verdicts g (inj && !v.checked) rs

/-- The five cause bits of a suspect entry: checksum, range, plausibility or zero count, non-finite or saturation,
parity (DEN_SUSPECT.CAUSE). -/
def causeBits (g : CheckCfg) (vs : List RowVerdict) : Nat :=
  flag (vs.any (·.mismatch)) + 2 * flag (vs.any (·.range)) + 4 * flag (vs.any fun v => v.plausible || v.zeros)
    + 8 * flag (vs.any fun v => (v.nonFinite && g.nonFiniteSuspect) || (v.saturated && g.satSuspect))
    + 16 * flag (vs.any (·.parity))

end Sys2Proof.Machine
end

