-- ==== Sys2Proof/Machine/Slice.lean ====
section
/-! DEFINITION. A cluster's scratchpad slice as every unit of the die reads and writes it: addresses, parity and fox bits
(R239, R240, R256, R257), and the watch on suspect ranges (R433). -/

namespace Sys2Proof.Machine

/-- The bytes of a slice: 80 MiB (R109, R239). -/
def sliceBytesTotal : Nat := 0x5000000

/-- The panel address of a byte of the slice of cluster `c` of site `s` (R239). -/
def sliceAddr (s c off : Nat) : Nat := 0x100000000000 + s * 0x40000000 + c * 0x5000000 + off

/-- The bank of a row (R240, R241): row bit k feeds bank bit k mod 6. -/
def bankOf (row : Nat) : Nat :=
  Nat.xor (Nat.xor (row % 64) (row / 64 % 64)) (Nat.xor (row / 4096 % 64) (row / 262144 % 8))

/-- The index of a row within its bank (R240). -/
def bankIndex (row : Nat) : Nat := row / 64

/-- The row at an index of a bank (R240): the index fixes row bits 20 to 6, so that bank and index name one row. -/
def rowAt (bank index : Nat) : Nat :=
  64 * index + Nat.xor (bank % 64) (Nat.xor (index % 64) (Nat.xor (index / 64 % 64) (index / 4096 % 8)))

/-- Indices in a bank (R239). -/
def bankRows : Nat := 20480

/-- The rows, among `n` from address `a`, whose parity fails (R257). -/
def Mem.parityRows (m : Mem) (a : Nat) : Nat → List Nat
  | 0 => []
  | n + 1 => (if m.parityBad a then [a / 64 * 64] else []) ++ m.parityRows (a + 64) n

/-- The parity failures that an operation's read found: each row takes its fox bit and is counted and logged, 0x0720 is
raised unless the operation has raised it (`noted`), and past PAR_LIMIT in the stroke 0x0722 is raised (R257). -/
def Panel.parityNote (p : Panel) (m : Mem) (s c : Nat) (noted : Bool) (rows : List Nat) : Panel :=
  if rows.isEmpty then p
  else
    let limit := p.field s Csr.SPR_CTRL_PAR_LIMIT
    let before := p.tallyOf s (Csr.SPR_C_PAR c)
    let p := p.each rows fun p a =>
      let p := p.put { addr := a, data := [], rows := 1, fox := some true, parity := none }
      let p := p.setField s Csr.SPR_PAR_LOG_ROW ((a - sliceAddr s c 0) / 64)
      let p := p.setField s Csr.SPR_PAR_LOG_CLUSTER c
      let p := p.setField s Csr.SPR_PAR_LOG_MASK (SMap.get memPar0 m.badParity (a / 64))
      let p := p.setField s Csr.SPR_PAR_LOG_CYCLE (p.field s Csr.STK_SEQ_POS_CYCLE)
      p.tally s (Csr.SPR_C_PAR c) 1
    let p := if noted then p else p.raiseAt s c 0x0720
    p.raiseIf (before ≤ limit && limit < p.tallyOf s (Csr.SPR_C_PAR c)) s 0x0722

/-- The parity failures of an operation that reads all its rows at once (R257). -/
def Panel.parityFails (p : Panel) (m : Mem) (s c : Nat) (rows : List Nat) : Panel := p.parityNote m s c false rows

/-- Reads `n` bytes at a slice offset (R257): a row with bad parity, or a foxed row, is delivered foxed. -/
def Panel.sliceRead (p : Panel) (m : Mem) (s c off n : Nat) : Delivered × Panel :=
  let m := p.memory m
  let a := sliceAddr s c off
  let k := rowsTouched a n
  let d : Delivered := { data := m.read a n, fox := m.rowsFoxed a k }
  (d, p.parityFails m s c (m.parityRows a k))

/-- Writes full rows at a slice offset with one fox bit (R256). -/
def Panel.sliceWrite (p : Panel) (s c off : Nat) (d : Delivered) : Panel :=
  p.put { addr := sliceAddr s c off, data := d.data, fox := some d.fox }

/-- The next full-row write of a cluster stores word 0 with inverted parity when PAR_INJECT is set (spec/10, SPR_CTRL). -/
def Panel.parInject (p : Panel) (s c : Nat) : Nat × Panel :=
  if p.isSet s Csr.SPR_CTRL_PAR_INJECT && p.field s Csr.SPR_CTRL_INJ_CL = c then
    (1, p.setFlag s Csr.SPR_CTRL_PAR_INJECT false)
  else (0, p)

/-- Writes rows one after another, each with its own fox bit; the first takes an injected parity error (R256). -/
def Panel.sliceRows (p : Panel) (s c off : Nat) (rows : List Delivered) : Panel :=
  let (bad, p) := p.parInject s c
  let step (q : Panel × Nat × Nat) (d : Delivered) : Panel × Nat × Nat :=
    let (p, o, par) := q
    (p.put { addr := sliceAddr s c o, data := d.data, fox := some d.fox, parity := some par }, o + d.data.length, 0)
  (rows.foldl step (p, off, bad)).1

/-- A registered read of a slice range sets TOUCHED on every open entry mark whose drained range it overlaps, and in the
ERR_RP register of its reprint (R433). -/
def Panel.touch (p : Panel) (s c off n : Nat) : Panel :=
  let hit (mk : Mark) : Bool :=
    mk.kind = .entry && mk.site = s && mk.cluster = c && off < mk.addr + 1024 * mk.count && mk.addr < off + n
  let p := p.modContain fun k => { k with marks := k.marks.map fun mk => if hit mk then { mk with touched := true } else mk }
  p.each (p.contain.reprints.filter fun r => r.site = s && r.cluster = c && p.contain.marks.any fun mk =>
      hit mk && mk.engine = r.engine && mk.cycle = r.cycle && mk.row = r.row) fun p r =>
    p.setFlag s (Csr.ERR_RP_TOUCHED r.slot) true

end Sys2Proof.Machine
end

