-- ==== Sys2Proof/Machine/Sync.lean ====
section
/-! DEFINITION. Sync counters, watches and the messages between dies that carry them (R126–R132), with the slot-13
operations that change state when they issue. -/

namespace Sys2Proof.Machine

/-- Puts a message onto the packet fabric. -/
def Panel.send (p : Panel) (m : NetMsg) : Panel := { p with net := p.net ++ [m] }

/-- Takes a delivered message off the fabric, when it is there. -/
def Panel.arrive (p : Panel) (m : NetMsg) : Panel := { p with net := p.net.erase m, injected := p.injected.erase m }

/-- The sequencer of a site. -/
def Panel.seq (p : Panel) (s : Nat) : Seq := SMap.get (fun _ => {}) p.seqs s
def Panel.modSeq (p : Panel) (s : Nat) (f : Seq → Seq) : Panel :=
  { p with seqs := SMap.modify (fun _ => {}) p.seqs s f }

/-- A stalled line keeps the die: its engines, movers, justifier and gate are frozen and make no result visible (R81, R133). -/
def Panel.frozen (p : Panel) (s : Nat) : Bool := (p.seq s).stalled.isSome

/-- The die holds, so that its compositor threads stop as well (R81, R133). -/
def Panel.holding (p : Panel) (s : Nat) : Bool := p.frozen s && (p.seq s).holdCause ≠ 0

/-- What a scheduled operation of a die does at a point of its pipeline, which a hold or a wait stall freezes (R81, R133). -/
def Panel.unlessFrozen (p : Panel) (s : Nat) (f : Panel → Panel) : Panel := if p.frozen s then p else f p

/-- A fault of the line stream (0x0220–0x022F): STK_SEQ_FAULT_POS takes the position of the record (spec/05). -/
def Panel.seqFault (p : Panel) (s code : Nat) : Panel :=
  let half := p.field s Csr.STK_SEQ_POS_HALF
  let page := if half = 0 then p.field s Csr.STK_SEQ_HALF_PAGE_H0 else p.field s Csr.STK_SEQ_HALF_PAGE_H1
  let p := p.setField s Csr.STK_SEQ_FAULT_POS_OFFSET (p.field s Csr.STK_SEQ_POS_OFFSET)
  let p := p.setField s Csr.STK_SEQ_FAULT_POS_HALF half
  let p := p.setField s Csr.STK_SEQ_FAULT_POS_PAGE page
  let p := p.setField s Csr.STK_SEQ_FAULT_POS_CYCLE (p.field s Csr.STK_SEQ_POS_CYCLE)
  p.raise s code

/-- Whether a counter value has reached a target (R127). -/
def reached (v target : Nat) : Bool := (v + 2 ^ 32 - target % 2 ^ 32) % 2 ^ 32 < 2 ^ 31

/-- The effective target of a wait (R128). -/
def effTarget (abs : Bool) (cursor target : Nat) : Nat := if abs then target else (cursor + target) % 2 ^ 32

/-- The region of a counter, when it is allocated (R126). -/
def Panel.counterRegion (p : Panel) (home idx : Nat) : Option Nat :=
  match SMap.get (fun _ => 0) p.syncRegion (home * 256 + idx) with
  | 0 => none
  | n + 1 => some n

/-- The pending watches of a home (R131). -/
def Panel.watchesOf (p : Panel) (s : Nat) : List Watch := SMap.get (fun _ => []) p.watches s
def Panel.setWatches (p : Panel) (s : Nat) (l : List Watch) : Panel :=
  { p with watches := SMap.set (fun _ => []) p.watches s l }

/-- A watch slot becomes ready when it was pending (R131). -/
def Panel.slotReady (p : Panel) (s w : Nat) : Panel :=
  let pend := p.field s Csr.STK_SYNC_WSTATE_PENDING
  if bitOf pend w then
    let p := p.setField s Csr.STK_SYNC_WSTATE_PENDING (putBits pend w 1 0)
    p.setField s Csr.STK_SYNC_WSTATE_READY (putBits (p.field s Csr.STK_SYNC_WSTATE_READY) w 1 1)
  else p

/-- The home answers a watch (R131): a P0 reached message, or its own slot. -/
def Panel.answer (p : Panel) (home : Nat) (w : Watch) : Panel :=
  if w.waiter = home then p.slotReady home w.slot else p.send (.reached home w.waiter w.slot)

/-- Answers every pending watch of a counter that it has reached; the flag says whether there was one (R131). -/
def Panel.answerWatches (p : Panel) (home idx : Nat) : Panel × Bool :=
  let v := p.field home (Csr.STK_SYNC_CTR idx)
  let hit (w : Watch) : Bool := w.idx = idx && reached v w.target
  let ws := p.watchesOf home
  let p := p.setWatches home (ws.filter fun w => !hit w)
  (p.each (ws.filter hit) fun p w => p.answer home w, ws.any hit)

/-- An add that a home applies (R129, R131, R132); a counter not allocated stays at 0 (R126). `issuer` made the add. -/
def Panel.addCounter (p : Panel) (home idx delta issuer : Nat) : Panel :=
  if (p.counterRegion home idx).isNone then p
  else
    let p := p.setField home (Csr.STK_SYNC_CTR idx) (p.field home (Csr.STK_SYNC_CTR idx) + delta)
    let (p, hit) := p.answerWatches home idx
    if !hit then p
    else if 512 ≤ issuer then p
    else if issuer = home then p.count home Csr.STK_SEQ_LAST_ARR 1
    else p.send (.lastArrival home issuer)

/-- The region for which a sender acts: a die's own, or region r for the sender number 512 + r, which stands for a link die
or the host acting for a region (R347, R516). -/
def Panel.senderRegion (p : Panel) (src : Nat) : Option Nat :=
  if 512 ≤ src then some (src - 512) else p.regionOf src

/-- The home's check of R130: the counter belongs to the sender's region and the home is a usable die of that region. -/
def Panel.homeOk (p : Panel) (home idx src : Nat) : Bool :=
  match p.senderRegion src with
  | none => false
  | some r => p.counterRegion home idx = some r && p.regionOf home = some r && p.usable home

/-- 0x022C at the home, with its severity applied to the sender's region only (R130). -/
def Panel.refuseHome (p : Panel) (home src : Nat) : Panel :=
  p.raiseFor home 0x022C (severityOf 0x022C) (p.senderRegion src) 0 src

/-- The site that a HOME field names: 0x1FF is the issuing die. -/
def homeOf (s home : Nat) : Nat := if home = 0x1FF then s else home

/-- SADD (R129, R130): a local add, or a P0 message to the home. -/
def Panel.sadd (p : Panel) (s idx home delta : Nat) : Panel :=
  let h := homeOf s home
  if h = s then p.addCounter s idx delta s else p.send (.sadd s h idx delta)

/-- SSET (R129): the counter and its cursor take VALUE, and watches it then reaches are answered; a counter not
allocated stays at 0 (R126). -/
def Panel.sset (p : Panel) (s idx value : Nat) : Panel :=
  if (p.counterRegion s idx).isNone then p
  else
    let p := p.setField s (Csr.STK_SYNC_CTR idx) value
    let p := p.setField s (Csr.STK_SYNC_CUR idx) value
    (p.answerWatches s idx).1

/-- A watch reaches its home (R131): checked as an add is, answered at once when the target is reached, refused with 0x022A
when 64 watches are pending, and registered otherwise. -/
def Panel.watchArrives (p : Panel) (home idx target waiter slot : Nat) : Panel :=
  if !p.homeOk home idx waiter then p.refuseHome home waiter
  else if reached (p.field home (Csr.STK_SYNC_CTR idx)) target then p.answer home ⟨idx, target, waiter, slot⟩
  else if 64 ≤ (p.watchesOf home).length then p.raise waiter 0x022A
  else p.setWatches home (p.watchesOf home ++ [⟨idx, target, waiter, slot⟩])

/-- SWATCH (R131): 0x022B on a slot still pending or ready; otherwise the watch cursor takes the effective target and a
watch goes to the home. -/
def Panel.swatch (p : Panel) (s idx home slot : Nat) (abs : Bool) (target : Nat) : Panel :=
  let busy := bitOf (p.field s Csr.STK_SYNC_WSTATE_PENDING) slot || bitOf (p.field s Csr.STK_SYNC_WSTATE_READY) slot
  if busy then p.seqFault s 0x022B
  else
    let t := effTarget abs (p.field s (Csr.STK_SYNC_WCUR slot)) target
    let p := p.setField s (Csr.STK_SYNC_WCUR slot) t
    let p := p.setField s Csr.STK_SYNC_WSTATE_PENDING (putBits (p.field s Csr.STK_SYNC_WSTATE_PENDING) slot 1 1)
    let h := homeOf s home
    if h = s then p.watchArrives s idx t s slot else p.send (.watch s h idx t slot)

/-- An SADD reaches its home (R130). -/
def Panel.saddArrives (p : Panel) (home idx delta src : Nat) : Panel :=
  let p := p.arrive (.sadd src home idx delta)
  if p.homeOk home idx src then p.addCounter home idx delta src else p.refuseHome home src

/-! ### The commands -/

/-- SADD (R129): slot 13 of a line, which issues on a die that no stalled line keeps (R113). -/
def execSadd (site idx home delta : Nat) (s : State) : Host.Outcome State Fault Refusal :=
  .next (s.quiet fun p => p.unlessFrozen site fun p => p.sadd site idx home delta)

/-- SSET (R129). -/
def execSset (site idx value : Nat) (s : State) : Host.Outcome State Fault Refusal :=
  .next (s.quiet fun p => p.unlessFrozen site fun p => p.sset site idx value)

/-- SWATCH (R131). -/
def execSwatch (site idx home slot : Nat) (abs : Bool) (target : Nat) (s : State) : Host.Outcome State Fault Refusal :=
  .next (s.quiet fun p => p.unlessFrozen site fun p => p.swatch site idx home slot abs target)

/-- SADD_ARRIVE (R130). -/
def execSaddArrive (home idx delta src : Nat) (s : State) : Host.Outcome State Fault Refusal :=
  .next (s.quiet fun p => p.saddArrives home idx delta src)

/-- WATCH_ARRIVE (R131). -/
def execWatchArrive (home idx target waiter slot : Nat) (s : State) : Host.Outcome State Fault Refusal :=
  .next (s.quiet fun p => (p.arrive (.watch waiter home idx target slot)).watchArrives home idx target waiter slot)

/-- REACHED_ARRIVE (R131). -/
def execReachedArrive (home waiter slot : Nat) (s : State) : Host.Outcome State Fault Refusal :=
  .next (s.quiet fun p => (p.arrive (.reached home waiter slot)).slotReady waiter slot)

/-- LAST_ARRIVAL_NOTICE (R132). -/
def execLastArrivalNotice (home site : Nat) (s : State) : Host.Outcome State Fault Refusal :=
  .next (s.quiet fun p => (p.arrive (.lastArrival home site)).count site Csr.STK_SEQ_LAST_ARR 1)

end Sys2Proof.Machine
end

