-- ==== Sys2Proof/Machine/Issue.lean ====
section
/-! DEFINITION. What every slot operation of a compute die shares: what it plans to do, the range scoreboard (R254, R255),
the pass logs and reprint claims (R428–R430), and reads of several slice ranges at once. -/

namespace Sys2Proof.Machine

/-! ### Plans -/

/-- A slice range that an operation registers at issue (R254). -/
structure SbReq where
  cluster : Nat
  span : Span
  write : Bool
  until_ : Option Nat
deriving DecidableEq, Repr

/-- What an operation of a slot will do when its line issues: raise a code and not issue; or, unless a resource holds the
line, register its ranges and act. -/
structure OpPlan where
  /-- The code that keeps it from issuing. -/
  code : Option Nat := none
  /-- The cause of a hold other than the scoreboard's (Seq.holdCause), 0 when there is none. -/
  hold : Nat := 0
  /-- What counts that hold, as in Seq.holdBy. -/
  holdBy : List Nat := []
  reqs : List SbReq := []
  /-- Ranges that must not conflict and that another queue registers (R272). -/
  checks : List SbReq := []
  /-- The effect, given the number under which its ranges are registered. -/
  act : Nat → Panel → Panel

/-- A plan that only raises a code. -/
def OpPlan.bad (code : Nat) : OpPlan := { code := some code, act := fun _ p => p }

/-- The first code whose condition holds, in the order given (R565). -/
def firstCode : List (Bool × Nat) → Option Nat
  | [] => none
  | (c, code) :: l => if c then some code else firstCode l

/-- A plan that raises the first code that applies, and otherwise acts. -/
def OpPlan.guard (codes : List (Bool × Nat)) (ok : OpPlan) : OpPlan :=
  match firstCode codes with
  | some c => .bad c
  | none => ok

/-! ### Slice ranges -/

/-- The rows of `n` bytes at slice offset `off`, at least one. -/
def spanOf (off n : Nat) : Span := ⟨off / 64, (off + max n 1 - 1) / 64⟩

/-- The hull of `k` pieces of `n` bytes, each `stride` bytes after the one before. -/
def hullOf (off stride k n : Nat) : Span := spanOf off (stride * (k - 1) + n)

/-- A range lies in the slice (R176). -/
def inSlice (off n : Nat) : Bool := off + n ≤ sliceBytesTotal

/-- Reads several ranges of a slice in one operation; parity failures are raised once (R257). -/
def Panel.gather (p : Panel) (m : Mem) (s c : Nat) (rs : List (Nat × Nat)) : List Delivered × Panel :=
  let m := p.memory m
  let one (r : Nat × Nat) : Delivered :=
    let a := sliceAddr s c r.1
    { data := m.read a r.2, fox := m.rowsFoxed a (rowsTouched a r.2) }
  let bad := rs.flatMap fun r => m.parityRows (sliceAddr s c r.1) (rowsTouched (sliceAddr s c r.1) r.2)
  (rs.map one, p.parityFails m s c (distinct bad))

/-! ### The scoreboard (R254, R255) -/

/-- Issuing die cycles of a die so far. -/
def Panel.cycles (p : Panel) (s : Nat) : Nat := (p.seq s).cycles

/-- The entries of a cluster's scoreboard that have not retired. -/
def Panel.board (p : Panel) (s c : Nat) : List SbEntry :=
  (SMap.get (fun _ => []) p.boards (s * 4 + c)).filter fun e =>
    match e.until_ with
    | some t => p.cycles s < t
    | none => true

/-- Stores a cluster's scoreboard, with its use in SPR_SB_USED. -/
def Panel.setBoard (p : Panel) (s c : Nat) (l : List SbEntry) : Panel :=
  let p := { p with boards := SMap.set (fun _ => []) p.boards (s * 4 + c) l }
  p.setField s Csr.SPR_SB_USED (putBits (p.field s Csr.SPR_SB_USED) (8 * c) 7 (min 64 l.length))

/-- Two row ranges overlap. -/
def Span.meets (a b : Span) : Bool := a.lo ≤ b.hi && b.lo ≤ a.hi

/-- A new range conflicts with a pending one: a read with a write, a write with either (R254). -/
def SbReq.conflicts (r : SbReq) (e : SbEntry) : Bool := r.span.meets e.span && (r.write || e.write)

/-- The galley requests of a cluster, or of the line galley (4), that have not completed. -/
def Panel.galley (p : Panel) (s u : Nat) : List GalReq := SMap.get (fun _ => []) p.galleys (s * 8 + u)
def Panel.setGalley (p : Panel) (s u : Nat) (l : List GalReq) : Panel :=
  { p with galleys := SMap.set (fun _ => []) p.galleys (s * 8 + u) l }

/-- The range that a galley entry keeps on the scoreboard (R272): a GREAD's destination until it completes, a GWRITE's
source until its last row has been read. -/
def GalReq.entries (q : GalReq) : List SbEntry :=
  if q.write && q.sent then [] else [⟨⟨q.row, q.row + q.rows - 1⟩, !q.write, 0, none⟩]

/-- Whether the requests of a line conflict in cluster `c`, and whether they lack entries there (R255). -/
def Panel.sbConflict (p : Panel) (s c : Nat) (rs : List SbReq) : Bool :=
  let held := p.board s c ++ (p.galley s c).flatMap GalReq.entries
  (rs.filter fun r => r.cluster = c).any fun r => held.any fun e => r.conflicts e
def Panel.sbFull (p : Panel) (s c : Nat) (rs : List SbReq) : Bool :=
  64 < (p.board s c).length + (rs.filter fun r => r.cluster = c).length

/-- Registers ranges under a number; a registered read watches for open entry marks (R433). -/
def Panel.register (p : Panel) (s id : Nat) (rs : List SbReq) : Panel :=
  p.each rs fun p r =>
    let p := p.setBoard s r.cluster (p.board s r.cluster ++ [⟨r.span, r.write, id, r.until_⟩])
    if r.write then p else p.touch s r.cluster (64 * r.span.lo) (64 * (r.span.hi + 1 - r.span.lo))

/-- Retires the entries of an operation in every cluster of its die (R254). -/
def Panel.retire (p : Panel) (s id : Nat) : Panel :=
  p.each (List.range 4) fun p c =>
    if (p.board s c).any fun e => e.id = id then p.setBoard s c ((p.board s c).filter fun e => e.id ≠ id) else p

/-! ### Engines -/

/-- An engine: `e` 0 dense, 1 sparse. -/
def Panel.engine (p : Panel) (s c e : Nat) : Engine := SMap.get (fun _ => {}) p.engines (s * 8 + 2 * c + e)
def Panel.modEngine (p : Panel) (s c e : Nat) (f : Engine → Engine) : Panel :=
  { p with engines := SMap.modify (fun _ => {}) p.engines (s * 8 + 2 * c + e) f }

/-- A row and a bank of an engine. -/
def Engine.row (g : Engine) (r : Nat) : Row := SMap.get (fun _ => {}) g.rows r
def Engine.bank (g : Engine) (b : Nat) : Bank := nth g.banks b {}

/-- The mover of a cluster. -/
def Panel.mover (p : Panel) (s c : Nat) : Mover := SMap.get (fun _ => {}) p.movers (s * 4 + c)
def Panel.modMover (p : Panel) (s c : Nat) (f : Mover → Mover) : Panel :=
  { p with movers := SMap.modify (fun _ => {}) p.movers (s * 4 + c) f }

/-- A number of draws for the purpose `tag`, `w` bits each. -/
def Panel.drawList (p : Panel) (tag w : Nat) : Nat → List Nat × Panel
  | 0 => ([], p)
  | n + 1 =>
    let (v, p) := p.draw tag w
    let (vs, p) := p.drawList tag w n
    (v :: vs, p)

/-- A class is reined on a die (R311): it puts no new packet of it onto the fabric. -/
def Panel.reined (p : Panel) (s cls : Nat) : Bool :=
  p.isSet s Csr.FAB_CTRL_REIN_EN && bitOf (p.field s Csr.FAB_STATUS_REINED) cls

/-! ### Pass logs and reprint claims (R428–R430) -/

/-- The key of a pass log. -/
def logKey (s c e half : Nat) : Nat := ((s * 4 + c) * 2 + e) * 2 + half

/-- A pass log. -/
def Panel.passLog (p : Panel) (s c e half : Nat) : List PassEntry := SMap.get (fun _ => []) p.contain.logs (logKey s c e half)

/-- Adds an entry to a pass log; the 33rd sets the overflow bit and is not kept (R428). -/
def Panel.logPass (p : Panel) (s c e half : Nat) (x : PassEntry) : Panel :=
  let l := p.passLog s c e half
  if 32 ≤ l.length then
    let bit := 4 * c + 2 * e + half
    p.setField s Csr.ERR_STATUS_LOG_OVF (putBits (p.field s Csr.ERR_STATUS_LOG_OVF) bit 1 1)
  else
    let i := (4 * c + 2 * e + half)
    let o := 0x4000 + 0x400 * i + 0x20 * l.length
    let v := x.word + 2 ^ 64 * x.ximm + 2 ^ 128 * x.crc + 2 ^ 160 * (x.cycle % 2 ^ 32) + 2 ^ 192 * flag x.load
      + 2 ^ 193 * flag x.foxed
    let p := p.setWords s (Csr.ERR_CTRL.off + o) v 8
    p.modContain fun k => { k with logs := SMap.set (fun _ => []) k.logs (logKey s c e half) (l ++ [x]) }

/-- The log of a half has overflowed. -/
def Panel.logOver (p : Panel) (s c e half : Nat) : Bool := bitOf (p.field s Csr.ERR_STATUS_LOG_OVF) (4 * c + 2 * e + half)

/-- A drained range is reprintable (R429); `fox` allows foxed reads, as R434 does. -/
def Panel.reprintable (p : Panel) (s c e row count : Nat) (fox : Bool) : Bool :=
  let half := row / (if e = 0 then 256 else 128)
  let g := p.engine s c e
  (List.range count).all (fun i => (g.row (row + i)).fresh) && !p.logOver s c e half
    && (fox || (p.passLog s c e half).all fun x => !x.foxed)

/-- Whether a mark is the one that a reprint answers. -/
def Reprint.isFor (r : Reprint) (k : Mark) : Bool :=
  k.kind = .entry && k.site = r.site && k.cluster = r.cluster && k.engine = r.engine && k.cycle = r.cycle && k.row = r.row

/-- ERR_RP.STATE of a reprint: 5 while a second reserve arbitrates (R432). -/
def Reprint.shown (r : Reprint) : Nat := if r.first.isSome && !r.shadow then 5 else r.state

/-- Shows a reprint in the ERR_RP register of its original die, or clears it (`none`). -/
def Panel.showReprint (p : Panel) (s slot : Nat) (r : Option Reprint) : Panel :=
  let v := match r with
    | none => 0
    | some r => r.shown + 2 ^ 4 * r.peer + 2 ^ 13 * r.cluster + 2 ^ 15 * r.engine + 2 ^ 16 * r.row + 2 ^ 25 * r.count
        + 2 ^ 34 * flag (p.contain.marks.any fun k => r.isFor k && k.touched) + 2 ^ 64 * (r.cycle % 2 ^ 32)
  p.setWords s ((Csr.ERR_RP_STATE slot).off) v 4

/-- The reserve clusters that a die may claim, in order (R430): (site, cluster). -/
def Panel.reserves (p : Panel) (s : Nat) : List (Nat × Nat) :=
  (List.range 8).flatMap fun i =>
    if p.isSet s (Csr.ERR_RSV_VALID i) then
      (List.range 4).filter (fun c => bitOf (p.field s (Csr.ERR_RSV_CLUSTERS i)) c)
        |>.map fun c => (p.field s (Csr.ERR_RSV_SITE i), c)
    else []

/-- A reprint of a die by its number. -/
def Panel.reprint (p : Panel) (s slot : Nat) : Option Reprint :=
  p.contain.reprints.find? fun r => r.site = s && r.slot = slot
def Panel.setReprint (p : Panel) (s slot : Nat) (r : Option Reprint) : Panel :=
  let rest := p.contain.reprints.filter fun r => !(r.site = s && r.slot = slot)
  let p := p.modContain fun k => { k with reprints := rest ++ r.toList }
  p.showReprint s slot r

/-- The claim of the next reserve cluster not yet tried; with none left the mark stays open and 0x1204 is raised (R430). -/
def Panel.claimNext (p : Panel) (r : Reprint) : Panel :=
  match (p.reserves r.site).find? fun x => !r.tried.contains x with
  | some x =>
    let r := { r with tried := r.tried ++ [x], peer := x.1, peerCluster := x.2, state := 1, result := none }
    (p.setReprint r.site r.slot (some r)).send (.reprintClaim r.site r.slot x.1 x.2)
  | none => (p.setReprint r.site r.slot none).raise r.site 0x1204

/-- The agent of a die begins a reprint of a new entry mark (R430): a range that is not reprintable raises 0x1205; a
shadow reprint is for a range foxed by a failed bank (R434). -/
def Panel.startReprint (p : Panel) (k : Mark) : Panel :=
  if !p.isSet k.site Csr.ERR_CTRL_RP_EN then p
  else if !p.reprintable k.site k.cluster k.engine k.row k.count k.load.isSome then p.raise k.site 0x1205
  else
    match (List.range 4).find? fun i => p.field k.site (Csr.ERR_RP_STATE i) = 0 with
    | none => p.raise k.site 0x1204
    | some slot =>
      p.claimNext { site := k.site, slot := slot, cluster := k.cluster, engine := k.engine, cycle := k.cycle, row := k.row,
                    count := k.count, shadow := k.load.isSome }

end Sys2Proof.Machine
end

