-- ==== Sys2Proof/Machine/Engine.lean ====
section
/-! DEFINITION. What the dense and the sparse engine share (R175–R191, R202–R210, R565): the fields of their slot words,
their ports, banks, rows and faults, streams, drains and initial loads. `e` is 0 for the DE and 1 for the SE. -/

namespace Sys2Proof.Machine

/-! ### Codes and shapes -/

/-- The rules that an engine operation can break, in the words of R565 and R205. -/
inductive EngineRule where
  | ximm | bank | format | range | port | rows | invalid
deriving DecidableEq, Repr

/-- The code of a broken rule (R176, R178, R181, R203, R205). -/
def engineCode (e : Nat) : EngineRule → Nat
  | .ximm => if e = 0 then 0x0405 else 0x0508
  | .bank => if e = 0 then 0x0403 else 0x050B
  | .format => if e = 0 then 0x0404 else 0x0507
  | .range => if e = 0 then 0x0406 else 0x0509
  | .port => if e = 0 then 0x0401 else 0x050A
  | .rows => if e = 0 then 0x0402 else 0x050C
  | .invalid => if e = 0 then 0x0407 else 0x050D

/-- An output-check code of the DE (0x0410 and above), or the SE's that corresponds (R210). -/
def checkCode (e code : Nat) : Nat := if e = 0 then code else code + 0x100

/-- Rows of one half of an accumulator store (R169, R193). -/
def halfRows (e : Nat) : Nat := if e = 0 then 256 else 128

/-- N and M of a pattern (R195). -/
def patN (pat : Nat) : Nat := if pat = 1 then 1 else 2
def patM (pat : Nat) : Nat := if pat = 2 then 8 else 4

/-- KLEN max of a class: R170 for the DE, R194 by pattern for the SE; 0 when the SE does not accept the class. -/
def klenLimit (e pat : Nat) (c : OpClass) : Nat :=
  if e = 0 then c.klenMax
  else
    let wide := pat = 1 || pat = 2
    match c with
    | .half => if wide then 128 else 64
    | .eight => if wide then 256 else 128
    | .four => if wide then 256 else 128
    | _ => 0

/-- The tile's formats and KLEN break R167, R170 or R194, or an MX tile's KLEN is no multiple of 32 (R176, R203). -/
def badFormats (e pat wfmt xfmt klen : Nat) : Bool :=
  match pairClass wfmt xfmt with
  | none => true
  | some c => klenLimit e pat c < klen || ((isMx wfmt || isMx xfmt) && klen % 32 ≠ 0)

/-! ### Slot words (R174, R200) -/

/-- The fields of STREAM and SSTREAM. -/
structure StreamArgs where
  bank : Nat
  xfmt : Nat
  init : Bool
  ka : Bool
  acc : Nat
  mlen : Nat
  addr : Nat
  stride : Nat
deriving DecidableEq, Repr

def streamArgs (e w : Nat) : StreamArgs :=
  if e = 0 then ⟨bitsOf w 57 1, bitsOf w 53 4, bitOf w 52, bitOf w 51, bitsOf w 42 9, bitsOf w 34 8 + 1, bitsOf w 13 21,
                 bitsOf w 1 12⟩
  else ⟨bitsOf w 57 1, bitsOf w 53 4, bitOf w 52, bitOf w 51, bitsOf w 43 8, bitsOf w 35 8 + 1, bitsOf w 14 21, bitsOf w 2 12⟩

/-- The fields of DRAIN and SDRAIN. -/
structure DrainArgs where
  acc : Nat
  mlen : Nat
  bound : Nat
  chk : Bool
  addr : Nat
deriving DecidableEq, Repr

def drainArgs (e w : Nat) : DrainArgs :=
  if e = 0 then ⟨bitsOf w 49 9, bitsOf w 41 8 + 1, bitsOf w 37 4, bitOf w 36, bitsOf w 15 21⟩
  else ⟨bitsOf w 50 8, bitsOf w 42 8 + 1, bitsOf w 38 4, bitOf w 37, bitsOf w 16 21⟩

/-- The fields of AINIT and SAINIT. -/
structure InitArgs where
  acc : Nat
  mlen : Nat
  type : Nat
  cols : Nat
  addr : Nat
deriving DecidableEq, Repr

def initArgs (e w : Nat) : InitArgs :=
  if e = 0 then ⟨bitsOf w 49 9, bitsOf w 41 8 + 1, bitsOf w 39 2, bitsOf w 29 8 + 1, bitsOf w 8 21⟩
  else ⟨bitsOf w 50 8, bitsOf w 42 8 + 1, bitsOf w 40 2, bitsOf w 32 8 + 1, bitsOf w 11 21⟩

/-! ### Ports, banks and rows (R181) -/

/-- Which port an operation uses: 0 load, 1 stream, 2 drain (R169). -/
def EngineKind.port : EngineKind → Nat
  | .load => 0 | .init => 0 | .stream => 1 | .drain => 2

/-- A port is occupied. -/
def Engine.portBusy (g : Engine) (now port : Nat) : Bool := g.ops.any fun o => o.kind.port = port && now < o.portEnd

/-- A bank is in use by a stream (R180). -/
def Engine.bankUsed (g : Engine) (now b : Nat) : Bool := g.ops.any fun o => o.kind = .stream && o.bank = b && now < o.bankEnd

/-- An operation still occupies its rows: a drain until t₁, the others until their rows are valid (R181). -/
def EngineOp.holdsRows (o : EngineOp) (now : Nat) : Bool :=
  match o.kind with
  | .load => false
  | .drain => now < o.portEnd
  | _ => true

/-- Rows `acc` to `acc + n - 1`, or their half, are in conflicting use (R181): an operation in flight holds its rows
until it is done, against the overlap in the worked example of chapter 07 (DESIGN CHOICE: notes/assumptions/151.md). -/
def Engine.rowsBusy (g : Engine) (e now acc n : Nat) (k : EngineKind) : Bool :=
  g.ops.any fun o => o.holdsRows now &&
    ((o.row < acc + n && acc < o.row + o.count)
      || (o.row / halfRows e = acc / halfRows e && (decide (o.kind = .stream) != decide (k = .stream))))

/-- Rows cross the boundary between the halves, or leave the store (R175, R176). -/
def crossesHalf (e acc n : Nat) : Bool := 2 * halfRows e < acc + n || acc / halfRows e ≠ (acc + n - 1) / halfRows e

/-- The type that a STREAM gives its rows (R177). -/
def streamType (wfmt : Nat) (ka : Bool) : Nat := if familyOf wfmt = .integer then 2 else if ka then 1 else 0

/-- DEN_STATUS and SPA_STATUS as they stand (their bits are live). -/
def Panel.engineStatus (p : Panel) (s : Nat) : Panel :=
  let now := p.cycles s
  let bits (f : Nat → Bool) (n : Nat) : Nat := ((List.range n).map fun i => flag (f i) * 2 ^ i).sum
  let d (c : Nat) : Engine := p.engine s c 0
  let x (c : Nat) : Engine := p.engine s c 1
  let p := p.setField s Csr.DEN_STATUS_DERATED (bits (fun c => p.unitState s (2 + c) = .derated) 4)
  let p := p.setField s Csr.DEN_STATUS_BANK_READY (bits (fun i => ((d (i / 2)).bank (i % 2)).ready) 8)
  let p := p.setField s Csr.DEN_STATUS_STREAMING (bits (fun c => (d c).portBusy now 1) 4)
  let p := p.setField s Csr.DEN_STATUS_DRAINING (bits (fun c => (d c).portBusy now 2) 4)
  let p := p.setField s Csr.DEN_STATUS_BANK_FOXED (bits (fun c => (d c).banks.any (·.fox)) 4)
  let p := p.setField s Csr.SPA_STATUS_BANK_READY (bits (fun i => ((x (i / 2)).bank (i % 2)).ready) 8)
  let p := p.setField s Csr.SPA_STATUS_BANK_FAILED
    (bits (fun i => ((x (i / 2)).bank (i % 2)).ready && ((x (i / 2)).bank (i % 2)).failed.isSome) 8)
  let p := p.setField s Csr.SPA_STATUS_BANK_FOXED (bits (fun i => ((x (i / 2)).bank (i % 2)).fox) 8)
  let p := p.setField s Csr.SPA_STATUS_STREAMING (bits (fun c => (x c).portBusy now 1) 4)
  p.setField s Csr.SPA_STATUS_DRAINING (bits (fun c => (x c).portBusy now 2) 4)

/-- Adds an operation in flight. -/
def Panel.startOp (p : Panel) (s c e : Nat) (o : EngineOp) : Panel :=
  (p.modEngine s c e fun g => { g with ops := g.ops ++ [o] }).engineStatus s

/-- The oldest operation of a kind in flight. -/
def Engine.oldest (g : Engine) (k : EngineKind) : Option EngineOp := g.ops.find? fun o => o.kind = k

/-- Ends an operation: it leaves its port and its scoreboard entries retire. -/
def Panel.endOp (p : Panel) (s c e : Nat) (o : EngineOp) : Panel :=
  (p.modEngine s c e fun g => { g with ops := g.ops.filter fun q => q.id ≠ o.id }).retire s o.id

/-! ### STREAM and SSTREAM (R175, R178, R190, R208) -/

/-- The input rows of a stream, as the slice delivers them (R172), with the bytes read and the panel after the reads. -/
def Panel.inputRows (p : Panel) (m : Mem) (s c klen : Nat) (a : StreamArgs) (saddr : Nat) :
    List InputRow × List Byte × Panel :=
  let w := widthOf a.xfmt
  let n := ceilDiv (klen * w) 8
  let kb := klen / 32
  let vals := (List.range a.mlen).map fun i => (64 * a.addr + 64 * a.stride * i, n)
  let scs := if isMx a.xfmt then (List.range a.mlen).map fun i => (64 * saddr + kb * i, kb) else []
  let (ds, p) := p.gather m s c (vals ++ scs)
  let rows := (List.range a.mlen).map fun i =>
    let d := nth ds i ⟨[], false⟩
    let x := nth ds (a.mlen + i) ⟨[], false⟩
    { fmt := a.xfmt, codes := (List.range klen).map fun k => packedElem d.data w k, scales := x.data.map (·.toNat),
      fox := d.fox || x.fox : InputRow }
  (rows, ds.flatMap (·.data), p)

/-- Group size of a tile (R162). -/
def tileGroup (wfmt xfmt : Nat) : Nat :=
  match pairClass wfmt xfmt with
  | some c => c.group
  | none => 32

/-- One row of a stream: a failed bank writes no products and foxes it, a foxed bank or input row foxes it (R190, R208). -/
def streamRow (b : Bank) (a : StreamArgs) (x : InputRow) (old : Row) : Row :=
  let r := if a.init then Row.begin (streamType b.wfmt a.ka) b.nlen else old
  if b.failed.isSome then { r with fox := true, failedLoad := some b.cycle }
  else
    let r := r.pass b x (tileGroup b.wfmt a.xfmt)
    { r with fox := r.fox || b.fox || x.fox }

/-- A foxed row's values are not defined (R168's case of a foxed operand): they are free values. -/
def Panel.foxRow (p : Panel) (r : Row) : Row × Panel :=
  if r.fox then
    let (vs, p) := p.drawList 0x0418 32 r.cols
    ({ r with vals := vs }, p)
  else (r, p)

/-- Several rows in order. -/
def Panel.foxRows (p : Panel) : List Row → List Row × Panel
  | [] => ([], p)
  | r :: rs =>
    let (r, p) := p.foxRow r
    let (rs, p) := p.foxRows rs
    (r :: rs, p)

/-- The issue of a stream. -/
def Panel.doStream (p : Panel) (m : Mem) (s c e w ximm id : Nat) : Panel :=
  let a := streamArgs e w
  let g := p.engine s c e
  let b := g.bank a.bank
  let now := p.cycles s
  let slow := e = 0 && p.unitState s (2 + c) = .derated
  let t1 := now + (if slow then 2 else 1) * a.mlen
  let (xs, bytes, p) := p.inputRows m s c b.klen a (ximm % 2 ^ 21)
  let rows := xs.zipIdx.map fun xi => streamRow b a xi.1 (g.row (a.acc + xi.2))
  let (rows, p) := p.foxRows rows
  let half := a.acc / halfRows e
  let cyc := p.field s Csr.STK_SEQ_POS_CYCLE
  let load : PassEntry := { word := b.word, ximm := b.ximm, crc := b.crc, cycle := b.cycle, load := true, foxed := b.fox }
  let p := if (p.passLog s c e half).contains load then p else p.logPass s c e half load
  let p := p.logPass s c e half { word := w, ximm := ximm, crc := crc32c bytes, cycle := cyc, load := false,
                                  foxed := xs.any (·.fox) }
  let p := p.tally s (if e = 0 then Csr.DEN_C_ROWS c else Csr.SPA_C_ROWS c) a.mlen
  let p := if b.failed.isSome then p.modContain fun k =>
      { k with badRows := k.badRows ++ (List.range a.mlen).map fun i => (s * 4 + c, b.cycle, a.acc + i) }
    else p
  p.startOp s c e { kind := .stream, id := id, bank := a.bank, row := a.acc, count := a.mlen, portEnd := t1,
                    bankEnd := t1 + 16, slow := slow, cycle := cyc, rows := rows }

/-- The plan of a stream (R175–R178, R181, R565). -/
def Panel.planStream (p : Panel) (m : Mem) (s c e w : Nat) (ximm : Option Nat) : OpPlan :=
  let a := streamArgs e w
  let g := p.engine s c e
  let b := g.bank a.bank
  let now := p.cycles s
  let n := ceilDiv (b.klen * widthOf a.xfmt) 8
  let mx := isMx a.xfmt
  let sa := 64 * (ximm.getD 0 % 2 ^ 21)
  let sb := a.mlen * (b.klen / 32)
  let type := streamType b.wfmt a.ka
  let rows := (List.range a.mlen).map fun i => g.row (a.acc + i)
  let t1 := now + (if e = 0 && p.unitState s (2 + c) = .derated then 2 else 1) * a.mlen
  .guard [
    (mx && ximm.isNone, engineCode e .ximm),
    (!b.ready, engineCode e .bank),
    (badFormats e b.pat b.wfmt a.xfmt b.klen || (a.ka && familyOf b.wfmt = .integer), engineCode e .format),
    (a.stride = 0 || !inSlice (64 * a.addr) (64 * a.stride * (a.mlen - 1) + n) || (mx && !inSlice sa sb),
      engineCode e .range),
    (crossesHalf e a.acc a.mlen, engineCode e .rows),
    (g.portBusy now 1, engineCode e .port),
    (g.rowsBusy e now a.acc a.mlen .stream, engineCode e .rows),
    (!a.init && rows.any (fun r => !r.valid || r.type ≠ type || r.cols ≠ b.nlen), engineCode e .invalid)]
  { reqs := [⟨c, hullOf (64 * a.addr) (64 * a.stride) a.mlen n, false, some t1⟩]
      ++ (if mx then [⟨c, spanOf sa sb, false, some t1⟩] else []),
    act := fun id p => p.doStream m s c e w (ximm.getD 0) id }

/-- A stream's rows become valid; a bank parity failure during it flags every row it touched (R180, R191). -/
def Panel.streamDone (p : Panel) (s c e : Nat) (parity : Bool) : Panel :=
  match (p.engine s c e).oldest .stream with
  | none => p
  | some o =>
    let put (rows : SMap Row) (ri : Row × Nat) : SMap Row :=
      SMap.set (fun _ => {}) rows (o.row + ri.2) { ri.1 with wpar := ri.1.wpar || parity }
    let p := p.modEngine s c e fun g => { g with rows := o.rows.zipIdx.foldl put g.rows }
    (p.endOp s c e o).engineStatus s

/-! ### AINIT and SAINIT (R175, R177, R190) -/

/-- The rows that an AINIT makes, with the bytes read: row i is the 1 KiB at ADDR × 64 + 1,024 × i, read whole (DESIGN CHOICE:
notes/assumptions/150.md). -/
def Panel.initRows (p : Panel) (m : Mem) (s c e w : Nat) : List Row × List Byte × Bool × Panel :=
  let a := initArgs e w
  let (ds, p) := p.gather m s c ((List.range a.mlen).map fun i => (64 * a.addr + 1024 * i, 1024))
  let rows := ds.map fun d =>
    { Row.load a.type a.cols ((List.range a.cols).map fun i => leAt d.data (4 * i) 4) with fox := d.fox }
  let (rows, p) := p.foxRows rows
  (rows, ds.flatMap (·.data), ds.any (·.fox), p)

/-- The issue of an AINIT. -/
def Panel.doInit (p : Panel) (m : Mem) (s c e w id : Nat) : Panel :=
  let a := initArgs e w
  let (rows, bytes, fox, p) := p.initRows m s c e w
  let cyc := p.field s Csr.STK_SEQ_POS_CYCLE
  let p := p.logPass s c e (a.acc / halfRows e)
    { word := w, ximm := 0, crc := crc32c bytes, cycle := cyc, load := false, foxed := fox }
  p.startOp s c e { kind := .init, id := id, row := a.acc, count := a.mlen, portEnd := p.cycles s + 4 * a.mlen,
                    cycle := cyc, rows := rows }

/-- The plan of an AINIT (R176, R181, R565). -/
def Panel.planInit (p : Panel) (m : Mem) (s c e w : Nat) : OpPlan :=
  let a := initArgs e w
  let g := p.engine s c e
  let now := p.cycles s
  .guard [
    (!inSlice (64 * a.addr) (1024 * a.mlen), engineCode e .range),
    (crossesHalf e a.acc a.mlen, engineCode e .rows),
    (g.portBusy now 0, engineCode e .port),
    (g.rowsBusy e now a.acc a.mlen .init, engineCode e .rows)]
  { reqs := [⟨c, spanOf (64 * a.addr) (1024 * a.mlen), false, some (now + 4 * a.mlen)⟩],
    act := fun id p => p.doInit m s c e w id }

/-- An AINIT's rows become valid (R180). -/
def Panel.initDone (p : Panel) (s c e : Nat) : Panel :=
  match (p.engine s c e).oldest .init with
  | none => p
  | some o =>
    let put (rows : SMap Row) (ri : Row × Nat) : SMap Row := SMap.set (fun _ => {}) rows (o.row + ri.2) ri.1
    let p := p.modEngine s c e fun g => { g with rows := o.rows.zipIdx.foldl put g.rows }
    (p.endOp s c e o).engineStatus s

/-! ### DRAIN and SDRAIN (R173, R178, R186–R192) -/

/-- The plan of a drain (R176, R178, R181, R565): every named row must be valid. -/
def Panel.planDrain (p : Panel) (s c e w : Nat) : OpPlan :=
  let a := drainArgs e w
  let g := p.engine s c e
  let now := p.cycles s
  let rows := (List.range a.mlen).map fun i => g.row (a.acc + i)
  .guard [
    (!inSlice (64 * a.addr) (1024 * a.mlen), engineCode e .range),
    (crossesHalf e a.acc a.mlen, engineCode e .rows),
    (g.portBusy now 2, engineCode e .port),
    (g.rowsBusy e now a.acc a.mlen .drain, engineCode e .rows),
    (rows.any fun r => !r.valid, engineCode e .invalid)]
  { reqs := [⟨c, spanOf (64 * a.addr) (1024 * a.mlen), true, none⟩],
    act := fun id p =>
      p.startOp s c e { kind := .drain, id := id, row := a.acc, count := a.mlen, portEnd := p.cycles s + 4 * a.mlen,
                        cycle := p.field s Csr.STK_SEQ_POS_CYCLE, rows := rows, bound := a.bound, chk := a.chk,
                        addr := a.addr } }

/-- The checks that a die's registers impose on a drain (R186–R188). -/
def Panel.checkCfg (p : Panel) (s bound : Nat) (chk : Bool) : CheckCfg :=
  { chk := chk && p.isSet s Csr.DEN_CHECK_CFG_CHECK_EN, mult := p.field s Csr.DEN_CHECK_CFG_TOL_MULT,
    nonFiniteSuspect := p.isSet s Csr.DEN_CHECK_CFG_NONFINITE_SUSPECT,
    satSuspect := p.isSet s Csr.DEN_CHECK_CFG_SAT_SUSPECT,
    bound := if bound ≠ 0 && p.isSet s (Csr.DEN_BOUND_VALID bound) then
      some (p.field s (Csr.DEN_BOUND_RMAX bound), p.field s (Csr.DEN_BOUND_LO bound), p.field s (Csr.DEN_BOUND_HI bound),
            p.acting s (Csr.DEN_BOUND_ZMAX bound)) else none }

/-- The INJECT of an engine is armed for a cluster (R192, R210). -/
def Panel.injectArmed (p : Panel) (s c e : Nat) : Bool :=
  if e = 0 then p.isSet s Csr.DEN_CTRL_INJECT && p.field s Csr.DEN_CTRL_INJ_CL = c
  else p.isSet s Csr.SPA_CTRL_INJECT && p.field s Csr.SPA_CTRL_INJ_CL = c

/-- Counts of a drain in the cluster block (spec/07, spec/08). -/
def Panel.countDrain (p : Panel) (s c e : Nat) (vs : List RowVerdict) : Panel :=
  let n (f : RowVerdict → Bool) : Nat := (vs.filter f).length
  let p := p.tally s (if e = 0 then Csr.DEN_C_CHECKS c else Csr.SPA_C_CHECKS c) (n (·.checked))
  let p := p.tally s (if e = 0 then Csr.DEN_C_MISMATCH c else Csr.SPA_C_MISMATCH c) (n (·.mismatch))
  let p := p.tally s (if e = 0 then Csr.DEN_C_BOUND_FAIL c else Csr.SPA_C_BOUND_FAIL c)
    (n fun v => v.range || v.plausible || v.zeros)
  let p := p.tally s (if e = 0 then Csr.DEN_C_FOXED c else Csr.SPA_C_FOXED c) (n (·.fox))
  let p := p.tally s (if e = 0 then Csr.DEN_C_SAT c else Csr.SPA_C_NONFIN_SAT_SAT c) (n (·.saturated))
  p.tally s (if e = 0 then Csr.DEN_C_NONFINITE c else Csr.SPA_C_NONFIN_SAT_NONFIN c) (n (·.nonFinite))

/-- The codes of a drain, each raised once (R186–R191). -/
def Panel.drainCodes (p : Panel) (s c e : Nat) (g : CheckCfg) (vs : List RowVerdict) : Panel :=
  let once (p : Panel) (f : RowVerdict → Bool) (code : Nat) (sev : Severity) : Panel :=
    if vs.any f then p.raiseSev s c (checkCode e code) sev else p
  let p := once p (·.fox) 0x0418 .foxed
  let p := once p (·.mismatch) 0x0410 .suspect
  let p := once p (·.nonFinite) 0x0414 (if g.nonFiniteSuspect then .suspect else .notice)
  let p := once p (·.saturated) 0x0415 (if g.satSuspect then .suspect else .notice)
  let p := once p (·.range) 0x0411 .suspect
  let p := once p (·.plausible) 0x0412 .suspect
  let p := once p (·.zeros) 0x0413 .suspect
  once p (·.parity) 0x0419 .suspect

/-- The suspect entry of a failing drain (R189): more than 16 on one die in one stroke raise 0x0417. The flag says whether
an entry was added. -/
def Panel.suspectEntry (p : Panel) (s c e cycle first count cause : Nat) (inj : Bool) : Bool × Panel :=
  let cnt := if e = 0 then Csr.DEN_SUSPECT_COUNT else Csr.SPA_SUSPECT_COUNT
  let n := p.field s cnt
  if 16 ≤ n then (false, p.raise s (checkCode e 0x0417))
  else
    let stroke := p.field s Csr.STK_STROKE % 2 ^ 32
    let v := if e = 0 then
        cycle % 2 ^ 32 + 2 ^ 32 * first + 2 ^ 41 * count + 2 ^ 50 * c + 2 ^ 52 * cause + 2 ^ 57 * flag inj + 2 ^ 64 * stroke
      else
        cycle % 2 ^ 32 + 2 ^ 32 * first + 2 ^ 40 * (count - 1) + 2 ^ 48 * c + 2 ^ 50 * cause + 2 ^ 55 * flag inj
          + 2 ^ 64 * stroke
    let p := p.setWords s (if e = 0 then Csr.DEN_SUSPECT n else Csr.SPA_SUSPECT n).off v 4
    (true, p.setField s cnt (n + 1))

/-- Opens the entry mark of a drain and begins its reprint (R423, R430). -/
def Panel.entryMark (p : Panel) (s c e : Nat) (o : EngineOp) (checksum : Bool) (first : Nat) (load : Option Nat)
    (code : Nat) : Panel :=
  match p.regionOf s with
  | none => p
  | some r =>
    let k : Mark := { kind := .entry, region := r, site := s, stroke := p.field s Csr.STK_STROKE, code := code,
                      cluster := c, engine := e, row := o.row, count := o.count, bound := o.bound, chk := o.chk,
                      addr := 64 * o.addr, cycle := o.cycle, checksum := checksum, firstFail := first, load := load }
    let p := p.openMark k
    let p := p.count s Csr.ERR_STATUS_OPEN 1
    p.startReprint k

/-- A drain's writes become visible and its checks final (R173, R186–R192, R208, R423). `upset` is what a fault of the
array or the accumulator store did to the drained values: (row within the drain, column, bits inverted). -/
def Panel.drainDone (p : Panel) (s c e : Nat) (upset : List (Nat × Nat × Nat)) : Panel :=
  match (p.engine s c e).oldest .drain with
  | none => p
  | some o =>
    let hit (r : Row) (u : Nat × Nat × Nat) : Row :=
      { r with vals := setNth r.vals u.2.1 (Nat.xor (nth r.vals u.2.1 0) u.2.2 % 2 ^ 32) }
    let rows := o.rows.zipIdx.map fun ri => (upset.filter fun u => u.1 = ri.2).foldl hit ri.1
    let g := p.checkCfg s o.bound o.chk
    let vs := verdicts g (p.injectArmed s c e) rows
    let p := p.each rows.zipIdx fun p ri =>
      p.put { addr := sliceAddr s c (64 * o.addr + 1024 * ri.2), data := ri.1.image, fox := some ri.1.fox }
    let p := if vs.any (·.injected) then
        p.setFlag s (if e = 0 then Csr.DEN_CTRL_INJECT else Csr.SPA_CTRL_INJECT) false else p
    let p := p.countDrain s c e vs
    let p := p.drainCodes s c e g vs
    let first := vs.findIdx (·.fails)
    let nfail := (vs.filter (·.fails)).length
    let load := rows.findSome? (·.failedLoad)
    let (added, p) := if nfail = 0 then (false, p) else
      p.suspectEntry s c e o.cycle (o.row + first) nfail (causeBits g vs) (vs.any (·.injected))
    let p := if added || load.isSome then
        p.entryMark s c e o (vs.any (·.mismatch)) (o.row + first) load (checkCode e (if added then 0x0410 else 0x0418))
      else p
    (p.endOp s c e o).engineStatus s

/-! ### Loads -/

/-- A load's bank becomes ready (R180, R204). -/
def Panel.bankReady (p : Panel) (s c e : Nat) (o : EngineOp) : Panel :=
  let p := p.modEngine s c e fun g =>
    { g with banks := setNth g.banks o.bank { g.bank o.bank with ready := true, loading := false } }
  (p.endOp s c e o).engineStatus s

/-- A bank takes a tile: it is loading until it is ready. -/
def Panel.setBank (p : Panel) (s c e b : Nat) (x : Bank) : Panel :=
  p.modEngine s c e fun g => { g with banks := setNth g.banks b x }

/-- Everything of an engine is lost (R179). -/
def Panel.loseEngine (p : Panel) (s c e : Nat) : Panel :=
  let p := p.each (p.engine s c e).ops fun p o => p.retire s o.id
  p.modEngine s c e fun _ => {}

end Sys2Proof.Machine
end

