-- ==== Sys2Proof/Machine/Flits.lean ====
section
/-! DEFINITION. What crosses the bundles between dies, bit by bit: the flit sideband and KA packing (R290, R291), packet headers
(R299), Azrolane frames on their wires (R319, R321–R323) and test-channel frames (R327). -/

namespace Sys2Proof.Machine

/-! ### The flit sideband and KA packing (R290, R291) -/

/-- The sideband of a plain unit: FOX, the panel CRC when it carries one, and STAMP (R290). -/
def plainSide (fox : Bool) (crc : Option Nat) (stamp : Nat) : Nat :=
  flag fox + 4 * flag crc.isSome + 2 ^ 8 * (stamp % 256) + 2 ^ 16 * (crc.getD 0 % 65536)

/-- Container `i` of a row, its word and its guard (R151). -/
def container (bs : List Byte) (i : Nat) : Nat := leAt bs (4 * i) 4
def kaWord (k : Nat) : Nat := k % 2 ^ 24
def kaGuard (k : Nat) : Nat := k / 2 ^ 24 % 128

/-- A row as a KA-packed unit: word i in bytes 3i to 3i + 2 and guard i in sideband bits [16 + 7i + 6 : 16 + 7i] (R291). -/
def kaUnit (d : Delivered) (stamp : Nat) : Flit :=
  ⟨((List.range 16).flatMap fun i => leBytes 3 (kaWord (container d.data i))) ++ List.replicate 16 0,
   flag d.fox + 2 + 2 ^ 8 * (stamp % 256)
     + ((List.range 16).map fun i => kaGuard (container d.data i) * 2 ^ (16 + 7 * i)).sum⟩

/-- A row as a plain unit. -/
def plainUnit (d : Delivered) (crc : Option Nat) (stamp : Nat) : Flit := ⟨d.data, plainSide d.fox crc stamp⟩

/-- The fields of a sideband (R290). -/
def sideFox (v : Nat) : Bool := bitOf v 0
def sideKa (v : Nat) : Bool := bitOf v 1
def sideCrcV (v : Nat) : Bool := bitOf v 2
def sideStamp (v : Nat) : Nat := bitsOf v 8 8
def sideCrc (v : Nat) : Nat := bitsOf v 16 16

/-- The row that a unit carries (R290, R291): of a KA-packed one each container is rebuilt from its word and guard, with bit 31 zero
(R151). -/
def flitRow (f : Flit) : Delivered :=
  if sideKa f.side then
    ⟨(List.range 16).flatMap fun i => leBytes 4 (leAt f.data (3 * i) 3 + 2 ^ 24 * bitsOf f.side (16 + 7 * i) 7), sideFox f.side⟩
  else ⟨f.data, sideFox f.side⟩

/-- The row of a unit that came in a KA frame (R322). One whose sideband has no guards, because KA is clear or CRC_V is set, is
foxed (R151). -/
def kaFrameRow (f : Flit) : Delivered :=
  if sideKa f.side && !sideCrcV f.side then flitRow f
  else ⟨(List.range 16).flatMap fun i => leBytes 4 (leAt f.data (3 * i) 3), true⟩

/-- A row after KA packing: each container's bit 31 is 0 (R151, R291). -/
def kaRow (d : Delivered) : Delivered := flitRow (kaUnit d 0)

/-! ### Packets (R299, R300) -/

/-- The class of a packet type (R300); `none` for a type that is not listed. -/
def typeClass (t : Nat) : Option Nat :=
  if 0x01 ≤ t && t ≤ 0x07 then some 0
  else if t = 0x08 || t = 0x09 then some 1
  else if 0x10 ≤ t && t ≤ 0x12 then some 2
  else if t = 0x13 || t = 0x14 || (0x18 ≤ t && t ≤ 0x1A) then some 3
  else if t = 0x20 || t = 0x21 then some 4
  else if 0x28 ≤ t && t ≤ 0x2C then some 5
  else none

/-- The 64 bytes of a header (R299). -/
def headBytes (h : PacketHead) : List Byte :=
  leBytes 1 h.type ++ leBytes 1 (h.cls % 8 + 8 * (h.epoch % 2)) ++ leBytes 2 (h.dst % 512 + 512 * (h.dstCluster % 4))
    ++ leBytes 2 (h.src % 512 + 512 * (h.srcCluster % 4)) ++ leBytes 1 h.len ++ leBytes 1 h.hops
    ++ leBytes 1 (h.region % 16 + 16 * (h.galley % 4)) ++ leBytes 1 h.trace ++ leBytes 2 (h.tag % 4096) ++ leBytes 4 h.seq
    ++ leBytes 8 (h.addr % 2 ^ 48) ++ leBytes 8 h.imm ++ List.replicate 32 0

/-- A header read from its bytes (R299). -/
def parseHead (bs : List Byte) : PacketHead :=
  { type := leAt bs 0 1, cls := leAt bs 1 1 % 8, epoch := leAt bs 1 1 / 8 % 2, dst := leAt bs 2 2 % 512,
    dstCluster := leAt bs 2 2 / 512 % 4, src := leAt bs 4 2 % 512, srcCluster := leAt bs 4 2 / 512 % 4, len := leAt bs 6 1,
    hops := leAt bs 7 1, region := leAt bs 8 1 % 16, galley := leAt bs 8 1 / 16 % 4, trace := leAt bs 9 1, tag := leAt bs 10 2 % 4096,
    seq := leAt bs 12 4, addr := leAt bs 16 8 % 2 ^ 48, imm := leAt bs 24 8 }

/-- A head flit: FOX, KA and CRC_V are 0 (R301). -/
def headFlit (h : PacketHead) : Flit := ⟨headBytes h, 0⟩

/-! ### Azrolane frames (R319, R321–R323) -/

/-- The kinds of R322. -/
def azIdle : Nat := 0
def azDataKind : Nat := 1
def azKaKind : Nat := 2
def azNakKind : Nat := 3
def azTieKind : Nat := 4
def azCutKind : Nat := 5
def azTruncKind : Nat := 6

/-- UI of a frame: 32 when it is full, 24 when short (R319, R322). -/
def frameUis (kind : Nat) : Nat := if kind = azDataKind then 32 else 24

/-- Only DATA, KA and TRUNC frames are replayable (R322). -/
def replays (kind : Nat) : Bool := kind = azDataKind || kind = azKaKind || kind = azTruncKind

/-- The CRC of a frame (R323): over P in byte order, S[127:0] and control bits [31:0]. -/
def azCrc (kind payload side control : Nat) : Nat :=
  crc32c (leBytes (2 * frameUis kind) payload ++ leBytes 16 side ++ leBytes 4 control)

/-- Control bits [31:0] (R321). -/
def azControl (kind seq ack cvc ccnt live : Nat) : Nat :=
  kind % 8 + 2 ^ 3 * (seq % 512) + 2 ^ 12 * (ack % 512) + 2 ^ 21 * (cvc % 8) + 2 ^ 24 * (ccnt % 16) + 2 ^ 28 * (live % 16)

/-- A frame on its wires (R319): data wire w carries bit 16u + w of P at UI u, and sideband wire v bit 8u + v of S. -/
def azWires (kind payload side control : Nat) : List (Nat × Nat) :=
  let s := side % 2 ^ 128 + 2 ^ 128 * (control % 2 ^ 32) + 2 ^ 160 * azCrc kind payload side control
  (List.range (frameUis kind)).map fun u => (bitsOf payload (16 * u) 16, bitsOf s (8 * u) 8)

end Sys2Proof.Machine

namespace Sys2Proof

open Sys2Proof.Machine

/-- P and S of a frame as they come in from its wires. -/
def AzFrame.payload (f : AzFrame) : Nat := (f.uis.zipIdx.map fun x => x.1.1 % 65536 * 2 ^ (16 * x.2)).sum
def AzFrame.sideband (f : AzFrame) : Nat := (f.uis.zipIdx.map fun x => x.1.2 % 256 * 2 ^ (8 * x.2)).sum

/-- The fields of link control (R321). -/
def AzFrame.kind (f : AzFrame) : Nat := bitsOf f.sideband 128 3
def AzFrame.seq (f : AzFrame) : Nat := bitsOf f.sideband 131 9
def AzFrame.ack (f : AzFrame) : Nat := bitsOf f.sideband 140 9
def AzFrame.cvc (f : AzFrame) : Nat := bitsOf f.sideband 149 3
def AzFrame.ccnt (f : AzFrame) : Nat := bitsOf f.sideband 152 4
def AzFrame.live (f : AzFrame) : Nat := bitsOf f.sideband 156 4

/-- A frame is intact (R322, R323): its CRC holds, its kind is not 7, and it has the length of its kind. -/
def AzFrame.intact (f : AzFrame) : Bool :=
  f.kind ≠ 7 && f.uis.length = frameUis f.kind
    && bitsOf f.sideband 160 32 = azCrc f.kind f.payload (f.sideband % 2 ^ 128) (bitsOf f.sideband 128 32)

/-- The unit that a DATA frame carries, and that of a KA frame (R322). -/
def AzFrame.flit (f : AzFrame) : Flit :=
  let bs := leBytes (2 * frameUis f.kind) f.payload
  ⟨bs ++ List.replicate (64 - bs.length) 0, f.sideband % 2 ^ 128⟩

end Sys2Proof

namespace Sys2Proof.Machine

/-! ### Test-channel frames (R327) -/

/-- The 48 bytes of a test-channel frame. -/
def tcBytes (type units seq : Nat) (body : List Byte) : List Byte :=
  let bs := leBytes 1 type ++ leBytes 1 units ++ leBytes 2 seq ++ sliceBytes body 0 40
  bs ++ leBytes 4 (crc32c bs)

/-- A test-channel frame is intact: 48 bytes whose CRC holds. -/
def tcIntact (f : List Byte) : Bool := f.length = 48 && leAt f 0x2C 4 = crc32c (f.take 44)

/-- TYPE, UNITS, SEQ and the body of a test-channel frame, and the snapshots of the units it reports, in unit order. -/
def tcType (f : List Byte) : Nat := leAt f 0 1
def tcUnits (f : List Byte) : Nat := leAt f 1 1
def tcSeq (f : List Byte) : Nat := leAt f 2 2
def tcBody (f : List Byte) : List Byte := sliceBytes f 4 40
def tcSnapshots (f : List Byte) : List (Nat × Nat) :=
  let us := ((List.range 8).filter fun i => bitOf (tcUnits f) i).take 5
  us.zipIdx.map fun x => (x.1, leAt (tcBody f) (8 * x.2) 8)

end Sys2Proof.Machine
end

