-- ==== Sys2Proof/Machine/Scratchpad.lean ====
section
/-! DEFINITION. The scratchpad operations of the movers, windows, the scrubber and the events of the slices (R239–R259),
with the conversions of a narrowing store (R154–R161, R246) and the compressing store (R211–R217, R247). -/

namespace Sys2Proof.Machine

/-! ### Rows -/

/-- Rows in a slice (R239). -/
def sliceRowCount : Nat := 1310720

/-- `n` rows of a slice, each with its own fox bit, read in one operation (R257). -/
def Panel.readRows (p : Panel) (m : Mem) (s c row n : Nat) : List Delivered × Panel :=
  p.gather m s c ((List.range n).map fun i => (64 * (row + i), 64))

/-- Makes rows visible in a slice from a row on: a row without data only takes its fox bit; the first full row takes an
injected parity error (R256). -/
def Panel.landRows (p : Panel) (s c row : Nat) (rows : List Delivered) : Panel :=
  let step (q : Panel × Nat × Nat) (d : Delivered) : Panel × Nat × Nat :=
    let (p, r, par) := q
    if d.data.isEmpty then
      (p.put { addr := sliceAddr s c (64 * r), data := [], rows := 1, fox := some d.fox, parity := none }, r + 1, par)
    else (p.put { addr := sliceAddr s c (64 * r), data := d.data, fox := some d.fox, parity := some par }, r + 1, 0)
  let (bad, p) := if rows.any fun d => !d.data.isEmpty then p.parInject s c else (0, p)
  (rows.foldl step (p, row, bad)).1

/-- Bytes cut into rows of 64 B, the last one filled with zero, with a fox bit for each row number: R246 says so of
STORE, and GATE does the same (DESIGN CHOICE: notes/assumptions/156.md). -/
def rowsFrom (bs : List Byte) (fox : Nat → Bool) : List Delivered :=
  (List.range (ceilDiv bs.length 64)).map fun i => ⟨sliceBytes bs (64 * i) 64, fox i⟩

/-- The copy engine is occupied (R248). -/
def Panel.copyBusy (p : Panel) (s c : Nat) : Bool :=
  p.cycles s < (p.mover s c).busyTo || (p.mover s c).ops.any fun o => p.cycles s < o.portEnd

/-- SPR_STATUS shows whether a cluster's copy engine is occupied. -/
def Panel.showCopy (p : Panel) (s c : Nat) : Panel :=
  p.setField s Csr.SPR_STATUS_COPY_BUSY (putBits (p.field s Csr.SPR_STATUS_COPY_BUSY) c 1 (flag (p.copyBusy s c)))

/-- Starts a scratchpad operation of a cluster's mover. -/
def Panel.startMover (p : Panel) (s c : Nat) (o : MoverOp) : Panel :=
  (p.modMover s c fun v => { v with ops := v.ops ++ [o] }).showCopy s c

/-- A PUT, WOPEN or WCLOSE occupies the copy engine for the die cycle in which it issues (R248). -/
def Panel.holdCopy (p : Panel) (s c : Nat) : Panel :=
  (p.modMover s c fun v => { v with busyTo := p.cycles s + 1 }).showCopy s c

/-! ### COPY and ZERO (R245) -/

/-- The plan of a COPY. -/
def Panel.planCopy (p : Panel) (m : Mem) (s c w : Nat) : OpPlan :=
  let src := bitsOf w 37 21
  let dst := bitsOf w 16 21
  let n := bitsOf w 0 16 + 1
  let t1 := p.cycles s + ceilDiv (2 * n) 12
  .guard [(p.copyBusy s c, 0x0701), (sliceRowCount < src + n || sliceRowCount < dst + n, 0x0703)]
  { reqs := [⟨c, ⟨src, src + n - 1⟩, false, some t1⟩, ⟨c, ⟨dst, dst + n - 1⟩, true, none⟩],
    act := fun id p =>
      let (rows, p) := p.readRows m s c src n
      p.startMover s c { id := id, portEnd := t1, writes := [(dst, rows)] } }

/-- The plan of a ZERO. -/
def Panel.planZero (p : Panel) (s c w : Nat) : OpPlan :=
  let dst := bitsOf w 37 21
  let n := bitsOf w 21 16 + 1
  let t1 := p.cycles s + ceilDiv n 12
  .guard [(p.copyBusy s c, 0x0701), (sliceRowCount < dst + n, 0x0703)]
  { reqs := [⟨c, ⟨dst, dst + n - 1⟩, true, none⟩],
    act := fun id p =>
      p.startMover s c { id := id, portEnd := t1, writes := [(dst, List.replicate n ⟨List.replicate 64 0, false⟩)] } }

/-! ### Conversions (R154–R161, R246) -/

/-- The number in a container: 0 binary32, 1 KA24, 2 INT32 (R246). -/
def containerValue (stype code : Nat) : Num :=
  if stype = 0 then f32 code else if stype = 1 then elemValue 0xF code else Num.ofInt (signed 32 code)

/-- The binary32 value that a conversion of a container takes (R155, R158). -/
def throughF32 (stype code : Nat) : Num :=
  if stype = 2 then f32 (toF32 (containerValue 2 code)) else containerValue stype code

/-- Stochastic rounding applies (R159). -/
def srAllowed (stype fmt : Nat) : Bool := stype < 2 && 1 ≤ fmt && fmt ≤ 0xC

/-- One container converted to a format that is not MX (R154, R157, R158). -/
def convertOne (stype fmt shift : Nat) (rd : Rounding) (code : Nat) : Nat :=
  if stype = 2 && (fmt = 0xB || fmt = 0xC) then
    unsigned (widthOf fmt) (narrowInt (widthOf fmt) shift rd (signed 32 code))
  else if stype = 2 && fmt = 0xD then code % 2 ^ 32
  else elemCode fmt rd (throughF32 stype code)

/-- Draws that n values of a stochastic store consume (R161). -/
def drawsFor (n : Nat) : Nat := ceilDiv n 4

/-- A cluster's generator key in the current stroke, and its counter (R160). -/
def Panel.rngBase (p : Panel) (s c : Nat) : Nat × Nat :=
  (rngKey (p.seq s).seed (p.seq s).work c (p.field s Csr.STK_STROKE), (p.mover s c).draws)

/-- The rounding of the `i`-th value of a store. -/
def roundingAt (sr : Bool) (kn : Nat × Nat) (i : Nat) : Rounding := if sr then .stochastic (rngValue kn.1 kn.2 i) else .nearest

/-- Replaces the codes of foxed elements by free values: they are not defined (R154's case of a foxed operand). -/
def Panel.freeFoxed (p : Panel) (w : Nat) : List (Nat × Bool) → List Nat × Panel
  | [] => ([], p)
  | (x, f) :: l =>
    let (x, p) := if f then p.draw 0x0720 w else (x, p)
    let (xs, p) := p.freeFoxed w l
    (x :: xs, p)

/-- Which rows of packed elements hold any of a foxed element. -/
def foxedRow (w : Nat) (fox : List Bool) (j : Nat) : Bool :=
  fox.zipIdx.any fun fi => fi.1 && (w * fi.2 / 512 = j || (w * fi.2 + w - 1) / 512 = j)

/-! ### STORE (R246) -/

/-- The fields of STORE with its XIMM (R244). -/
structure StoreArgs where
  src : Nat
  dst : Nat
  fmt : Nat
  stype : Nat
  sr : Bool
  shift : Nat
  nblk : Nat
  saddr : Nat
deriving DecidableEq, Repr

def storeArgs (w ximm : Nat) : StoreArgs :=
  ⟨bitsOf w 37 21, bitsOf w 16 21, bitsOf w 12 4, bitsOf w 10 2, bitOf w 9, bitsOf w 4 5, bitsOf ximm 0 16 + 1,
   bitsOf ximm 16 21⟩

/-- Destination rows of a STORE, and of its scale plane. -/
def StoreArgs.rowsOut (a : StoreArgs) : Nat := ceilDiv (4 * widthOf a.fmt * a.nblk) 64
def StoreArgs.planeRows (a : StoreArgs) : Nat := if isMx a.fmt then ceilDiv a.nblk 64 else 0

/-- One block of 32 containers of an MX store: its scale and its codes (R156). -/
def mxBlock (a : StoreArgs) (kn : Nat × Nat) (sr : Bool) (b : Nat) (cs : List Nat) : Nat × List Nat :=
  let xs := cs.map (throughF32 a.stype)
  let e := mxScale a.fmt xs
  (e, mxCodes a.fmt e (xs.zipIdx.map fun xi => (xi.1, roundingAt sr kn (32 * b + xi.2))))

/-- The issue of a STORE. NaN containers count as squashes as they are read, foxed or not (DESIGN CHOICE:
notes/assumptions/149.md). -/
def Panel.doStore (p : Panel) (m : Mem) (s c w ximm id t1 : Nat) : Panel :=
  let a := storeArgs w ximm
  let width := widthOf a.fmt
  let (rows, p) := p.readRows m s c a.src (2 * a.nblk)
  let n := 32 * a.nblk
  let codes := (List.range n).map fun i => leAt (nth rows (i / 16) ⟨[], false⟩).data (4 * (i % 16)) 4
  let rowFox (r : Nat) : Bool := (nth rows r ⟨[], false⟩).fox
  let sr := a.sr && srAllowed a.stype a.fmt
  let kn := p.rngBase s c
  let p := if sr then p.modMover s c fun v => { v with draws := v.draws + drawsFor n } else p
  let squash := (codes.filter fun x => squashes a.fmt (throughF32 a.stype x)).length
  let p := p.tally s (Csr.SPR_C_NAN_SQUASH c) squash
  if isMx a.fmt then
    let blocks := (List.range a.nblk).map fun b => mxBlock a kn sr b ((codes.drop (32 * b)).take 32)
    let bf (b : Nat) : Bool := rowFox (2 * b) || rowFox (2 * b + 1)
    let fox := (List.range n).map fun i => bf (i / 32)
    let (es, p) := p.freeFoxed width ((blocks.flatMap (·.2)).zip fox)
    let (ss, p) := p.freeFoxed 8 ((blocks.map (·.1)).zipIdx.map fun sb => (sb.1, bf sb.2))
    let plane := rowsFrom (ss.map (BitVec.ofNat 8)) fun j =>
      (List.range a.nblk).any fun b => b / 64 = j && bf b
    p.startMover s c { id := id, portEnd := t1,
                       writes := [(a.dst, rowsFrom (packElems width es) (foxedRow width fox)), (a.saddr, plane)] }
  else
    let conv := codes.zipIdx.map fun ci => convertOne a.stype a.fmt a.shift (roundingAt sr kn ci.2) ci.1
    let fox := (List.range n).map fun i => rowFox (i / 16)
    let (es, p) := p.freeFoxed width (conv.zip fox)
    p.startMover s c { id := id, portEnd := t1,
                       writes := [(a.dst, rowsFrom (packElems width es) (foxedRow width fox))] }

/-- The plan of a STORE (R246, R248, R249). -/
def Panel.planStore (p : Panel) (m : Mem) (s c w : Nat) (ximm : Option Nat) : OpPlan :=
  let a := storeArgs w (ximm.getD 0)
  let t1 := p.cycles s + ceilDiv (2 * a.nblk + a.rowsOut + a.planeRows) 12
  .guard [
    (p.copyBusy s c, 0x0701),
    (a.stype = 3 || (a.shift ≠ 0 && !(a.stype = 2 && (a.fmt = 0xB || a.fmt = 0xC))), 0x0702),
    (ximm.isNone, 0x0705),
    (sliceRowCount < a.src + 2 * a.nblk || sliceRowCount < a.dst + a.rowsOut
      || (isMx a.fmt && sliceRowCount < a.saddr + a.planeRows), 0x0703)]
  { reqs := [⟨c, ⟨a.src, a.src + 2 * a.nblk - 1⟩, false, some t1⟩, ⟨c, ⟨a.dst, a.dst + a.rowsOut - 1⟩, true, none⟩]
      ++ (if isMx a.fmt then [⟨c, ⟨a.saddr, a.saddr + a.planeRows - 1⟩, true, none⟩] else []),
    act := fun id p => p.doStore m s c w (ximm.getD 0) id t1 }

/-! ### CSTORE (R211–R217, R247) -/

/-- A compressing store's parameters, BIAS added to every address (R247). -/
structure CstoreArgs where
  src : Nat
  sstride : Nat
  vaddr : Nat
  vstride : Nat
  maddr : Nat
  saddr : Nat
  haddr : Nat
  hstride : Nat
  taddr : Nat
  tstride : Nat
  tmaddr : Nat
  tsaddr : Nat
  klen : Nat
  nlen : Nat
  pat : Nat
  strict : Bool
  fmt : Nat
  stype : Nat
  shadow : Bool
  twin : Bool
  valid : Bool
  sr : Bool
deriving DecidableEq, Repr

def Panel.cstoreArgs (p : Panel) (s w : Nat) : CstoreArgs :=
  let i := bitsOf w 54 4
  let bias := bitsOf w 33 21
  { src := p.field s (Csr.SPR_CDESC_SRC i) + bias, sstride := p.field s (Csr.SPR_CDESC_SSTRIDE i),
    vaddr := p.field s (Csr.SPR_CDESC_VADDR i) + bias, vstride := p.field s (Csr.SPR_CDESC_VSTRIDE i),
    maddr := p.field s (Csr.SPR_CDESC_MADDR i) + bias, saddr := p.field s (Csr.SPR_CDESC_SADDR i) + bias,
    haddr := p.field s (Csr.SPR_CDESC_HADDR i) + bias, hstride := p.field s (Csr.SPR_CDESC_HSTRIDE i),
    taddr := p.field s (Csr.SPR_CDESC_TADDR i) + bias, tstride := p.field s (Csr.SPR_CDESC_TSTRIDE i),
    tmaddr := p.field s (Csr.SPR_CDESC_TMADDR i) + bias, tsaddr := p.field s (Csr.SPR_CDESC_TSADDR i) + bias,
    klen := p.field s (Csr.SPR_CDESC_KLEN_M1 i) + 1, nlen := p.field s (Csr.SPR_CDESC_NLEN_M1 i) + 1,
    pat := p.field s (Csr.SPR_CDESC_PAT i), strict := p.isSet s (Csr.SPR_CDESC_MODE i),
    fmt := p.field s (Csr.SPR_CDESC_FMT i), stype := p.field s (Csr.SPR_CDESC_STYPE i),
    shadow := p.isSet s (Csr.SPR_CDESC_SHADOW i), twin := p.isSet s (Csr.SPR_CDESC_TWIN i),
    valid := p.isSet s (Csr.SPR_CDESC_VALID i), sr := bitOf w 32 }

/-- Rank of a magnitude: NaN above infinity above every finite value (R212). -/
def rankLt (a b : Num) : Bool :=
  match a.abs, b.abs with
  | .nan, _ => false
  | _, .nan => true
  | x, y => x.lt y

/-- Puts an element into a list ordered by falling rank, after those of equal rank (R212). -/
def rankInsert {α : Type} (x : α × Num) : List (α × Num) → List (α × Num)
  | [] => [x]
  | y :: ys => if rankLt y.2 x.2 then x :: y :: ys else y :: rankInsert x ys

/-- Elements by falling rank; between equal ranks the order given stays (R212). -/
def rankSort {α : Type} (l : List (α × Num)) : List (α × Num) := l.foldl (fun acc x => rankInsert x acc) []

/-- Ascending order of positions. -/
def ascending (l : List Nat) : List Nat := l.mergeSort (fun a b => a ≤ b)

/-- The positions that prune mode keeps in one group under PAT 0 to 2, and whether it lost a nonzero element (R213). -/
def keepGroup (n : Nat) (xs : List (Nat × Num)) : List Nat × Bool :=
  let nz := xs.filter fun x => !x.2.isZero
  (ascending ((rankSort nz).take n |>.map (·.1)), n < nz.length)

/-- The elements (k, n) that prune mode keeps in a 4 × 4 block, in rank order (R214). -/
def keepBlock (xs : List ((Nat × Nat) × Num)) : List (Nat × Nat) :=
  (rankSort (xs.filter fun x => !x.2.isZero)).foldl (fun kept x =>
    let k := x.1.1
    let n := x.1.2
    if (kept.filter fun y => y.2 = n).length < 2 && (kept.filter fun y => y.1 = k).length < 2 then kept ++ [(k, n)]
    else kept) []

/-- What a compression keeps: for each column its groups' kept dense positions, ascending, and whether each group lost a
nonzero element. -/
def compress (pat klen nlen : Nat) (v : Nat → Nat → Num) : List (List (List Nat × Bool)) :=
  let mm := patM pat
  let groups := ceilDiv klen mm
  if pat ≠ 3 then
    (List.range nlen).map fun n => (List.range groups).map fun g =>
      keepGroup (patN pat) (((List.range mm).map fun i => mm * g + i) |>.filter (· < klen) |>.map fun k => (k, v k n))
  else
    (List.range nlen).map fun n => (List.range groups).map fun g =>
      let block := (List.range 4).flatMap fun i => (List.range 4).map fun j =>
        let k := 4 * g + i
        let c := 4 * (n / 4) + j
        ((k, c), v k c)
      let kept := keepBlock block
      let mine := (kept.filter fun y => y.2 = n).map (·.1)
      let nz := ((List.range 4).filter fun i => !(v (4 * g + i) n).isZero).length
      (ascending mine, mine.length < nz)

/-- The metadata record of a group's kept positions (R195). -/
def recordOf (pat g : Nat) (ks : List Nat) : Nat :=
  ks.length + (ks.zipIdx.map fun ki => (ki.1 - patM pat * g) * 2 ^ (2 + patIndex pat * ki.2)).sum
where
  /-- Index bits of a pattern. -/
  patIndex (pat : Nat) : Nat := if pat = 2 then 3 else 2

/-- Record width of a pattern (R195). -/
def recordBits (pat : Nat) : Nat := if pat = 1 then 4 else if pat = 2 then 8 else 6

/-- The value slots of a column: the codes of its kept positions, N to a group, empty slots zero (R196). -/
def slotsOf (pat : Nat) (col : List (List Nat)) (code : Nat → Nat) : List Nat :=
  col.flatMap fun ks => (ks.map code) ++ List.replicate (patN pat - ks.length) 0

/-- A compressed form laid out (R196–R198): `kept` by column and group, `code k n` and `scale b n` of its elements. -/
def layOut (pat fmt vaddr vstride maddr saddr klen : Nat) (kept : List (List (List Nat))) (code : Nat → Nat → Nat)
    (scale : Nat → Nat → Nat) : List (Nat × List Byte) :=
  let w := widthOf fmt
  let cols := kept.zipIdx.map fun cn => (vaddr + vstride * cn.2, packElems w (slotsOf pat cn.1 fun k => code k cn.2))
  let recs := kept.flatMap fun c => c.zipIdx.map fun kg => recordOf pat kg.2 kg.1
  let block := 64 * ceilDiv kept.length 64
  let plane := (List.range (ceilDiv klen 32)).flatMap fun b =>
    sliceBytes ((List.range kept.length).map fun n => BitVec.ofNat 8 (scale b n)) 0 block
  cols ++ [(maddr, packElems (recordBits pat) recs)] ++ (if isMx fmt then [(saddr, plane)] else [])

/-- The rows of each piece, for the ranges and the occupancy (R247, R248): (first row, rows). -/
def CstoreArgs.pieces (a : CstoreArgs) : List (Nat × Nat) :=
  let w := widthOf a.fmt
  let colRows (klen : Nat) : Nat := ceilDiv (ceilDiv klen (patM a.pat) * patN a.pat * w) 512
  let metaRows (klen nlen : Nat) : Nat := ceilDiv (nlen * ceilDiv klen (patM a.pat) * recordBits a.pat) 512
  let planeRows (klen nlen : Nat) : Nat := ceilDiv klen 32 * ceilDiv nlen 64
  (List.range a.nlen).map (fun n => (a.vaddr + a.vstride * n, colRows a.klen))
    ++ [(a.maddr, metaRows a.klen a.nlen)]
    ++ (if isMx a.fmt then [(a.saddr, planeRows a.klen a.nlen)] else [])
    ++ (if a.shadow then (List.range a.nlen).map fun n => (a.haddr + a.hstride * n, ceilDiv (a.klen * w) 512) else [])
    ++ (if a.twin then (List.range a.klen).map (fun k => (a.taddr + a.tstride * k, colRows a.nlen))
          ++ [(a.tmaddr, metaRows a.nlen a.klen)]
          ++ (if isMx a.fmt then [(a.tsaddr, planeRows a.nlen a.klen)] else []) else [])

/-- Source rows of a CSTORE: row k holds NLEN containers (R211). -/
def CstoreArgs.srcRows (a : CstoreArgs) : Nat := ceilDiv a.nlen 16

/-- The converted forms of a compressing store that read no foxed data: what it writes and its NaN squashes. An MX
twin holds the converted values rounded to nearest under its own scales (DESIGN CHOICE: notes/assumptions/153.md). -/
def CstoreArgs.forms (a : CstoreArgs) (kn : Nat × Nat) (code : Nat → Nat → Nat) :
    List (Nat × List Byte) × Nat × Nat × Bool :=
  let v (k n : Nat) : Num := containerValue a.stype (code k n)
  let comp := compress a.pat a.klen a.nlen v
  let kept := comp.map fun c => c.map (·.1)
  let lost := (comp.map fun c => (c.filter (·.2)).length).sum
  let flat := kept.zipIdx.flatMap fun cn => cn.1.flatMap fun ks => ks.map fun k => (k, cn.2)
  let sr := a.sr && srAllowed a.stype a.fmt
  let rdOf (k n : Nat) : Rounding := roundingAt sr kn (flat.findIdx fun x => x = (k, n))
  let isKept (k n : Nat) : Bool := flat.contains (k, n)
  let blockVals (b n : Nat) : List Num := (List.range 32).map fun i =>
    if isKept (32 * b + i) n then throughF32 a.stype (code (32 * b + i) n) else Num.zero
  let scale (b n : Nat) : Nat := mxScale a.fmt (blockVals b n)
  let conv (k n : Nat) : Nat :=
    if isMx a.fmt then
      let e := scale (k / 32) n
      nth (mxCodes a.fmt e [(throughF32 a.stype (code k n), rdOf k n)]) 0 0
    else convertOne a.stype a.fmt 0 (rdOf k n) (code k n)
  let table := flat.map fun x => (x, conv x.1 x.2)
  let codeOf (k n : Nat) : Nat := match table.find? fun t => t.1 = (k, n) with
    | some t => t.2
    | none => 0
  let squash := (flat.filter fun x => squashes a.fmt (throughF32 a.stype (code x.1 x.2))).length
  let main := layOut a.pat a.fmt a.vaddr a.vstride a.maddr a.saddr a.klen kept codeOf scale
  let shadow := if a.shadow then (List.range a.nlen).map fun n =>
    (a.haddr + a.hstride * n, packElems (widthOf a.fmt) ((List.range a.klen).map fun k => codeOf k n)) else []
  -- R216: the twin's columns are the dense positions k, its groups run along n
  let tkept := (List.range a.klen).map fun k => (List.range (ceilDiv a.nlen 4)).map fun g =>
    ((List.range 4).map fun i => 4 * g + i).filter fun n => isKept k n
  let tvals (b k : Nat) : List Num := (List.range 32).map fun i =>
    if isKept k (32 * b + i) then mxValue a.fmt (codeOf k (32 * b + i)) (scale (k / 32) (32 * b + i)) else Num.zero
  let tscale (b k : Nat) : Nat := mxScale a.fmt (tvals b k)
  let tcode (n k : Nat) : Nat :=
    if isMx a.fmt then nth (mxCodes a.fmt (tscale (n / 32) k)
      [(mxValue a.fmt (codeOf k n) (scale (k / 32) n), .nearest)]) 0 0
    else codeOf k n
  let twin := if a.twin then
    layOut 3 a.fmt a.taddr a.tstride a.tmaddr a.tsaddr a.nlen tkept tcode tscale else []
  (main ++ shadow ++ twin, flat.length, squash, 0 < lost)

/-- Groups that prune mode loses an element in (R213, R214). -/
def CstoreArgs.lostGroups (a : CstoreArgs) (code : Nat → Nat → Nat) : Nat :=
  ((compress a.pat a.klen a.nlen fun k n => containerValue a.stype (code k n)).map fun c => (c.filter (·.2)).length).sum

/-- The issue of a CSTORE (R211–R217). -/
def Panel.doCstore (p : Panel) (m : Mem) (s c w id t1 : Nat) : Panel :=
  let a := p.cstoreArgs s w
  let (ds, p) := p.gather m s c ((List.range a.klen).map fun k => (64 * (a.src + a.sstride * k), 4 * a.nlen))
  let code (k n : Nat) : Nat := leAt (nth ds k ⟨[], false⟩).data (4 * n) 4
  let fox := ds.any (·.fox)
  let kn := p.rngBase s c
  let (pieces, kept, squash, violates) := a.forms kn code
  let sr := a.sr && srAllowed a.stype a.fmt
  let count := if fox then a.nlen * ceilDiv a.klen (patM a.pat) * patN a.pat else kept
  let p := if sr then p.modMover s c fun v => { v with draws := v.draws + drawsFor count } else p
  if fox then
    let step (q : Panel × List (Nat × List Delivered)) (x : Nat × Nat) : Panel × List (Nat × List Delivered) :=
      let (bs, p) := q.1.drawBytes 0x0520 (64 * x.2)
      (p, q.2 ++ [(x.1, rowsFrom bs fun _ => true)])
    let (p, ws) := a.pieces.foldl step (p, [])
    p.startMover s c { id := id, portEnd := t1, writes := ws }
  else if a.strict && violates then
    p.startMover s c { id := id, portEnd := t1, code := some 0x0520,
                       writes := a.pieces.map fun x => (x.1, List.replicate x.2 ⟨[], true⟩) }
  else
    let p := p.tally s (Csr.SPR_C_NAN_SQUASH c) squash
    let p := if a.strict then p else p.tally s (Csr.SPA_C_PRUNED c) (a.lostGroups code)
    p.startMover s c { id := id, portEnd := t1, writes := pieces.map fun x => (x.1, rowsFrom x.2 fun _ => false) }

/-- The destination format or shape breaks the limits of R211. -/
def CstoreArgs.badShape (a : CstoreArgs) : Bool :=
  a.fmt = 0 || 0xC < a.fmt || badFormats 1 a.pat a.fmt a.fmt a.klen || (a.pat = 3 && (a.klen % 4 ≠ 0 || a.nlen % 4 ≠ 0))

/-- The hull of the pieces of one destination. -/
def hullRows (l : List (Nat × Nat)) : Span :=
  ⟨(l.map (·.1)).foldl min sliceRowCount, (l.map fun x => x.1 + max 1 x.2 - 1).foldl max 0⟩

/-- The destinations of a CSTORE, each as the hull of its rows (R254): values, metadata, scales, shadow and the twin's. -/
def CstoreArgs.hulls (a : CstoreArgs) : List Span :=
  let ps := a.pieces
  let mx := flag (isMx a.fmt)
  let parts := [(0, a.nlen), (a.nlen, 1), (a.nlen + 1, mx)]
    ++ (if a.shadow then [(a.nlen + 1 + mx, a.nlen)] else [])
    ++ (if a.twin then
          let o := a.nlen + 1 + mx + (if a.shadow then a.nlen else 0)
          [(o, a.klen), (o + a.klen, 1), (o + a.klen + 1, mx)] else [])
  (parts.filter fun x => x.2 ≠ 0).map fun x => hullRows ((ps.drop x.1).take x.2)

/-- The plan of a CSTORE (R211, R247–R249). -/
def Panel.planCstore (p : Panel) (m : Mem) (s c w : Nat) : OpPlan :=
  let a := p.cstoreArgs s w
  let out := (a.pieces.map (·.2)).sum
  let t1 := p.cycles s + ceilDiv (a.klen * a.srcRows + out) 12
  let src := hullRows ((List.range a.klen).map fun k => (a.src + a.sstride * k, a.srcRows))
  .guard [
    (p.copyBusy s c, 0x0701),
    (!a.valid || a.stype = 3 || 3 < a.pat || (a.twin && a.pat ≠ 3), 0x0702),
    (a.badShape, 0x0521),
    ((src :: a.hulls).any fun h => sliceRowCount ≤ h.hi, 0x0703)]
  { reqs := ⟨c, src, false, some t1⟩ :: a.hulls.map fun h => ⟨c, h, true, none⟩,
    act := fun id p => p.doCstore m s c w id t1 }

/-! ### PUT (R245, R248, R249) -/

/-- The plan of a PUT: it enters the outbound queue, and its rows are read as it leaves. -/
def Panel.planPut (p : Panel) (s c w : Nat) (ximm : Option Nat) : OpPlan :=
  let src := bitsOf w 37 21
  let dst := bitsOf w 16 21
  let site := homeOf s (bitsOf w 7 9)
  let cl := bitsOf w 5 2
  let n := match ximm with
    | some x => bitsOf x 0 16 + 1
    | none => 1
  .guard [
    (p.copyBusy s c, 0x0701),
    (sliceRowCount < src + n || sliceRowCount < dst + n, 0x0703),
    (400 ≤ site || !p.usable site || !p.clusterWorks site cl || (p.regionOf site).isNone
      || p.regionOf site ≠ p.regionOf s, 0x0711)]
  { hold := if 8 ≤ (p.mover s c).outbound.length then 4 else 0,
    holdBy := if 8 ≤ (p.mover s c).outbound.length then [c] else [],
    reqs := [⟨c, ⟨src, src + n - 1⟩, false, none⟩],
    act := fun id p =>
      let q : PutReq := { id := id, src := src, dst := dst, len := n, site := site, cluster := cl }
      (p.modMover s c fun v => { v with outbound := v.outbound ++ [q] }).holdCopy s c }

/-! ### Windows (R250–R252) -/

/-- The key of a window's base. -/
def windowKey (s c w : Nat) : Nat := (s * 4 + c) * 32 + w

/-- The first row of an open window. -/
def Panel.windowRow (p : Panel) (s c w : Nat) : Nat := SMap.get (fun _ => 0) p.windowBase (windowKey s c w)

/-- The plan of a WOPEN (R251). -/
def Panel.planWopen (p : Panel) (s c w : Nat) : OpPlan :=
  let i := bitsOf w 53 5
  let base := p.field s (Csr.SPR_WIN_BASE c i) + bitsOf w 32 21
  let len := p.field s (Csr.SPR_WIN_LENGTH c i)
  .guard [
    (p.copyBusy s c, 0x0701),
    (p.isSet s (Csr.SPR_WSTATE_OPEN c i) || !p.isSet s (Csr.SPR_WIN_VALID c i) || len = 0 || sliceRowCount < base + len,
      0x0712)]
  { act := fun _ p =>
      let p := { p with windowBase := SMap.set (fun _ => 0) p.windowBase (windowKey s c i) base }
      ((p.setField s (Csr.SPR_WSTATE_LANDED c i) 0).setFlag s (Csr.SPR_WSTATE_OPEN c i) true).holdCopy s c }

/-- Closes a window. -/
def Panel.closeWindow (p : Panel) (s c i : Nat) : Panel :=
  let p := { p with windowBase := SMap.set (fun _ => 0) p.windowBase (windowKey s c i) 0 }
  p.setFlag s (Csr.SPR_WSTATE_OPEN c i) false

/-- The plan of a WCLOSE (R251). -/
def Panel.planWclose (p : Panel) (s c w : Nat) : OpPlan :=
  .guard [(p.copyBusy s c, 0x0701)]
  { act := fun _ p =>
      let i := bitsOf w 53 5
      (if p.isSet s (Csr.SPR_WSTATE_OPEN c i) then p.closeWindow s c i else p).holdCopy s c }

/-- Every window of a cluster closes (R250). -/
def Panel.closeWindows (p : Panel) (s c : Nat) : Panel :=
  p.each (List.range 32) fun p i => if p.isSet s (Csr.SPR_WSTATE_OPEN c i) then p.closeWindow s c i else p

/-- A window admits rows `row` to `row + n - 1` from cluster `sc` of site `src` (R250, R252). -/
def Panel.admits (p : Panel) (s c i src sc row n : Nat) : Bool :=
  let base := p.windowRow s c i
  let expect := p.field s (Csr.SPR_WIN_EXPECT c i)
  p.isSet s (Csr.SPR_WSTATE_OPEN c i) && base ≤ row && row + n ≤ base + p.field s (Csr.SPR_WIN_LENGTH c i)
    && (p.isSet s (Csr.SPR_WIN_SRC_ANY c i) || p.field s (Csr.SPR_WIN_SRC_SITE c i) = src)
    && (p.isSet s (Csr.SPR_WIN_CL_ANY c i) || p.field s (Csr.SPR_WIN_SRC_CL c i) = sc)
    && (expect = 0 || p.field s (Csr.SPR_WSTATE_LANDED c i) < expect)

/-- A cluster's slice takes landing writes: it works and is not being fox-filled (R110, R259). -/
def Panel.sliceUp (p : Panel) (s c : Nat) : Bool := p.clusterWorks s c && !(p.domain s c).filling

/-- The region of a die runs and its abort does not settle (R252's cases, R440). -/
def Panel.regionLive (p : Panel) (s : Nat) : Bool :=
  match p.regionOf s with
  | some r => p.running r && (p.region r).abortAt.isNone
  | none => false

/-- A packet of rows reaches its owner (R252): it lands in a window that admits it, or is discarded and counted with 0x0710,
whose severity applies to the sender's region only; after its region has aborted that is no fault. -/
def Panel.landPacket (p : Panel) (src sc s c row : Nat) (rows : List Delivered) : Panel :=
  let same := (p.regionOf s).isSome && p.regionOf s = p.regionOf src
  match (List.range 32).find? fun i => same && p.sliceUp s c && p.admits s c i src sc row rows.length with
  | none =>
    let p := p.tally s (Csr.SPR_C_REJECT c) 1
    if p.regionLive src then p.raiseFor s 0x0710 (severityOf 0x0710) (p.regionOf src) c src else p
  | some i =>
    let p := p.landRows s c row rows
    let p := p.tally s (Csr.SPR_C_LANDED c) rows.length
    let p := p.setField s (Csr.SPR_WSTATE_LANDED c i) (p.field s (Csr.SPR_WSTATE_LANDED c i) + rows.length)
    let p := if p.isSet s (Csr.SPR_WIN_SIG_EN c i) then
        p.addCounter s (p.field s (Csr.SPR_WIN_SIG_IDX c i)) rows.length s else p
    let expect := p.field s (Csr.SPR_WIN_EXPECT c i)
    if expect ≠ 0 && expect ≤ p.field s (Csr.SPR_WSTATE_LANDED c i) then p.closeWindow s c i else p

/-! ### Packets that leave (R299, R312–R314) -/


/-- The header of a packet on a trace (R314): SRC is the issuer of the GREAD or TSEND, and IMM the panel address that the CRC of the
first data flit covers (DESIGN CHOICE: notes/assumptions/146.md). -/
def traceHead (type t region src sc row len imm : Nat) : PacketHead :=
  { type := type, cls := (typeClass type).getD 0, dst := src, dstCluster := sc, src := src, srcCluster := sc, len := len,
    region := region, trace := t, addr := row, imm := imm }

/-- A packet's flits are due at the source of a trace (R312, R314); `done` names the GREAD whose last packet it is. -/
def Panel.tracePacket (p : Panel) (site : Nat) (h : PacketHead) (units : List Flit) (done : Option GalKey) : Panel :=
  p.each (headFlit h :: units).zipIdx fun p x =>
    p.send (.traceFlit site 64 h x.2 x.1 (if x.2 = units.length then done else none))

/-- Rows enter a trace at its source, in packets of up to 16 (R299, R314). -/
def Panel.traceRows (p : Panel) (site type t src sc row imm : Nat) (units : List Flit) (done : Option GalKey) : Panel :=
  let region := p.field site (Csr.FAB_TRACE_REGION t)
  let n := ceilDiv units.length 16
  p.each (List.range n) fun p i =>
    let us := (units.drop (16 * i)).take 16
    p.tracePacket site (traceHead type t region src sc (row + 16 * i) us.length (imm + 1024 * i)) us (if i + 1 = n then done else none)

/-- The packets of a PUT: up to 16 rows each (R299). -/
def Panel.sendRows (p : Panel) (s c site cl dst : Nat) (rows : List Delivered) : Panel :=
  p.each (List.range (ceilDiv rows.length 16)) fun p i =>
    p.send (.put s c site cl (dst + 16 * i) ((rows.drop (16 * i)).take 16))

/-- The oldest PUT or TSEND of a cluster leaves: its rows are read, go onto the fabric or the trace, and its source range
retires (R248, R254, R313). -/
def Panel.leavePut (p : Panel) (m : Mem) (s c : Nat) : Panel :=
  match (p.mover s c).outbound with
  | [] => p
  | q :: qs =>
    if q.trace = 0 && p.reined s 3 then p
    else
    let (rows, p) := p.readRows m s c q.src q.len
    let p := p.modMover s c fun v => { v with outbound := qs }
    let p := if q.trace = 0 then p.sendRows s c q.site q.cluster q.dst rows
      else
        p.traceRows s 0x18 q.trace s c q.dst 0 (rows.map fun d => if q.ka then kaUnit d 0 else plainUnit d none 0) none
    p.retire s q.id

/-! ### Opcodes -/

/-- The plan of a scratchpad operation by its opcode (R244). -/
def Panel.planScratch (p : Panel) (m : Mem) (s c w : Nat) (ximm : Option Nat) : OpPlan :=
  match bitsOf w 58 6 with
  | 1 => p.planCopy m s c w
  | 2 => p.planZero s c w
  | 3 => p.planStore m s c w ximm
  | 4 => p.planCstore m s c w
  | 5 => p.planPut s c w ximm
  | 6 => p.planWopen s c w
  | _ => p.planWclose s c w

/-! ### Events -/

/-- The writes of a mover's oldest scratchpad operation become visible (R248). -/
def Panel.scratchDone (p : Panel) (s c : Nat) : Panel :=
  match (p.mover s c).ops with
  | [] => p
  | o :: os =>
    let p := p.each o.writes fun p x => p.landRows s c x.1 x.2
    let p := (p.modMover s c fun v => { v with ops := os }).showCopy s c
    let p := p.retire s o.id
    match o.code with
    | some code => p.raiseAt s c code
    | none => p

/-- SCRATCH_OP_DONE (R248): frozen while a line is stalled (R133). -/
def execScratchOpDone (site cluster : Nat) (s : State) : Host.Outcome State Fault Refusal :=
  .next (s.store fun _ p => p.unlessFrozen site fun p => p.scratchDone site cluster)

/-- PUT_ARRIVE (R252). -/
def execPutArrive (src srcCluster site cluster row : Nat) (rows : List Delivered) (s : State) :
    Host.Outcome State Fault Refusal :=
  .next (s.store fun _ p =>
    (p.arrive (.put src srcCluster site cluster row rows)).landPacket src srcCluster site cluster row rows)

/-- SCOREBOARD_RETIRE (R254): the read ranges of an operation retire; the source range of the oldest PUT retires as its
last row is read and its packets leave. Write ranges retire as their writes become visible, with the operation's own
event. -/
def execScoreboardRetire (site cluster id : Nat) (s : State) : Host.Outcome State Fault Refusal :=
  .next (s.store fun m p =>
    match (p.mover site cluster).outbound with
    | q :: _ => if q.id = id then p.leavePut m site cluster
                else p.setBoard site cluster ((p.board site cluster).filter fun e => e.write || e.id ≠ id)
    | [] => p.setBoard site cluster ((p.board site cluster).filter fun e => e.write || e.id ≠ id))

/-- A fault of the array inverts bits of a row's stored parity. -/
def Panel.upsetRow (p : Panel) (m : Mem) (s c row upset : Nat) : Panel :=
  let a := sliceAddr s c (64 * row)
  if upset % 256 = 0 then p
  else p.put { addr := a, data := [], rows := 1, fox := none,
               parity := some (Nat.xor (SMap.get memPar0 (p.memory m).badParity (a / 64)) (upset % 256)) }

/-- The scrubber may read a slice: SCRUB is 1, no BIST runs on the die, and the slice works and is filled (R258). -/
def Panel.scrubs (p : Panel) (s c : Nat) : Bool := p.isSet s Csr.SPR_CTRL_SCRUB && p.sliceUp s c && !p.underBist s

/-- The scrubber reads the row at its own position, bank by bank at each index, and goes on to the next; a parity failure that
it finds foxes the row with 0x0721 (R258). -/
def Panel.scrubStep (p : Panel) (m : Mem) (s c : Nat) : Panel :=
  let k := (p.mover s c).scrub
  let a := sliceAddr s c (64 * rowAt (k % 64) (k / 64))
  let p := p.modMover s c fun v => { v with scrub := (k + 1) % (64 * bankRows) }
  if (p.memory m).parityBad a then
    (p.put { addr := a, data := [], rows := 1, fox := some true, parity := none }).raiseAt s c 0x0721
  else p

/-- SCRUB_ACCESS (R258): the scrubber's next access. `row` and `upset` place a fault of the array before it. -/
def execScrubAccess (site cluster row upset : Nat) (s : State) : Host.Outcome State Fault Refusal :=
  .next (s.store fun m p =>
    let p := p.upsetRow m site cluster row upset
    if p.scrubs site cluster then p.scrubStep m site cluster else p)

/-- PAR_INJECT (R256): SPR_CTRL.PAR_INJECT takes effect on a cluster. -/
def execParInject (site cluster : Nat) (s : State) : Host.Outcome State Fault Refusal :=
  .next (s.quiet fun p => (p.setField site Csr.SPR_CTRL_INJ_CL cluster).setFlag site Csr.SPR_CTRL_PAR_INJECT true)

/-- A whole slice is fox-filled: zero data, every fox bit set (R259). -/
def Panel.foxFill (p : Panel) (s c : Nat) : Panel :=
  p.put { addr := sliceAddr s c 0, clear := sliceBytesTotal, fox := none, parity := none }

/-- A cluster that has ended a memory BIST fox-fills its slice (R259): it accepts no slot, port or landing write until the fill ends.
What the BIST left there reads foxed meanwhile. -/
def Panel.beginFill (p : Panel) (s c : Nat) : Panel :=
  let p := p.foxFill s c
  if !p.domainUp s c then p
  else (p.modDomain s c fun d => { d with filling := true }).setField s Csr.SPR_STATUS_FILLING
    (putBits (p.field s Csr.SPR_STATUS_FILLING) c 1 1)

/-- The reset in progress is complete (R502). -/
def Panel.endReset (p : Panel) : Panel :=
  let p := p.modBoot fun b => { b with resetting := none }
  ((p.setFlag sitePD Csr.PWR_RST_STATUS_BUSY false).setFlag sitePD Csr.PWR_RST_STATUS_READY true).noteChange 1

/-- FOX_FILL_DONE (R259): the fill ends, and the cluster accepts slots, ports and landing writes; a cluster that was turning
on is then on, or at keep-warm when it was wanted so (R456, R478), and a reset of the cluster is complete (R503). -/
def execFoxFillDone (site cluster : Nat) (s : State) : Host.Outcome State Fault Refusal :=
  .next (s.store fun _ p =>
    if (p.domain site cluster).filling then
      let p := p.modDomain site cluster fun d => { d with filling := false }
      let p := p.setField site Csr.SPR_STATUS_FILLING (putBits (p.field site Csr.SPR_STATUS_FILLING) cluster 1 0)
      let p := if p.field site (Csr.PWR_DOM_STATE cluster) = domTurningOn then
          p.setField site (Csr.PWR_DOM_STATE cluster) (if (p.domain site cluster).warm then domWarm else domOn)
        else p
      let p := p.foxFill site cluster
      if p.boot.resetting = some (6, site, cluster) then p.endReset else p
    else p)

end Sys2Proof.Machine
end

