-- ==== Sys2Proof/Machine/Galley.lean ====
section
/-! DEFINITION. Galleys and memory dies (R260–R283): requests from issue to completion, the fox table and its sweep,
channel counts, and copies of writes into send shards and stream ranges (R285, R286, R344). -/

namespace Sys2Proof.Machine

/-! ### Addresses -/

/-- The memory die of an LPDDR5X address and its channel on that die (R263). -/
def memSite (a : Nat) : Nat := 401 + 2 * (channelOf a / 8)
def memChannel (a : Nat) : Nat := channelOf a % 8

/-- A memory die serves its channels: the floor plan does not mark it bad or unproven (R265). -/
def Panel.memGood (p : Panel) (md : Nat) : Bool := p.dieState md = 0

/-- An address of the populated LPDDR5X range (R17, R264, R265). -/
def Panel.populated (p : Panel) (a : Nat) : Bool := isLpddr a && p.memGood (memSite a)

/-- The granule number whose channel and local index are given: R263 read backwards. -/
def granuleOf (channel l : Nat) : Nat :=
  256 * l + Nat.xor (Nat.xor channel (l % 256)) (Nat.xor (l / 256 % 256) (l / 65536 % 128))

/-- A memory die's state. -/
def Panel.memDie (p : Panel) (s : Nat) : MemDie := SMap.get (fun _ => {}) p.memDies s
def Panel.modMemDie (p : Panel) (s : Nat) (f : MemDie → MemDie) : Panel :=
  { p with memDies := SMap.modify (fun _ => {}) p.memDies s f }

/-- The severity of 0x0810, 0x0811 and 0x0813 under the containment mode (R280). -/
def Panel.galSev (p : Panel) : Severity := if p.fabric.containMode = 1 then .computeReset else .foxed

/-- The index of a galley's registers. -/
def galIndex (c g : Nat) : Nat := 4 * c + g

/-! ### Requests (R270, R272, R274) -/

/-- A request by its key. -/
def Panel.galReq (p : Panel) (k : GalKey) : Option GalReq := (p.galley k.site k.unit).find? fun q => q.key = k

/-- COMPLETED of a galley: the lowest sequence number not complete (R270). -/
def Panel.showCompleted (p : Panel) (s c g : Nat) : Panel :=
  let done := match (p.galley s c).find? fun q => q.key.galley = g with
    | some q => q.key.seq
    | none => p.field s (Csr.GAL_G_ISSUED (galIndex c g))
  p.setField s (Csr.GAL_G_COMPLETED (galIndex c g)) done

/-- A request completes: its entry frees and COMPLETED may advance (R266, R270). -/
def Panel.galComplete (p : Panel) (k : GalKey) : Panel :=
  let p := p.setGalley k.site k.unit ((p.galley k.site k.unit).filter fun q => q.key ≠ k)
  if k.unit < 4 then p.showCompleted k.site k.unit k.galley else p

/-- Requests of a cluster in flight, and its quota (R274); the line galley has none of its own. -/
def Panel.inFlight (p : Panel) (s u : Nat) : Nat := ((p.galley s u).filter (·.sent)).length
def Panel.quota (p : Panel) (s u : Nat) : Nat := if u < 4 then bitsOf (p.field s Csr.GAL_QUOTA) (8 * u) 8 else 64

/-- The class of a request's packets (R268). -/
def GalReq.cls (q : GalReq) : Nat := if q.host then 5 else if q.write then 3 else 2


/-- A request may leave its cluster. -/
def Panel.maySend (p : Panel) (q : GalReq) : Bool :=
  p.inFlight q.key.site q.key.unit < p.quota q.key.site q.key.unit && !p.reined q.key.site q.cls

/-- How many requests wait at a memory die, shown in its slots; past 2,048 it raises 0x0816 once per stroke (R274). -/
def Panel.countSlots (p : Panel) (md : Nat) : Panel :=
  let n := (p.net.filter fun msg =>
    match msg with
    | .grdReq _ a _ _ _ => isLpddr a && memSite a = md
    | .gwrReq _ a _ _ => isLpddr a && memSite a = md
    | _ => false).length
  let p := p.setField md Csr.GAL_MD_STATUS_SLOTS (min 2048 n)
  if 2048 < n && !(p.memDie md).slotsFull then
    (p.modMemDie md fun d => { d with slotsFull := true }).raise md 0x0816
  else p

/-- A request leaves its cluster (R274): a GWRITE reads its rows at phase 11, and a foxed row opens a fox mark (R423). -/
def Panel.sendGalley (p : Panel) (m : Mem) (q : GalReq) : Panel :=
  let k := q.key
  let p := p.setGalley k.site k.unit ((p.galley k.site k.unit).map fun x =>
    if x.key = k then { x with sent := true } else x)
  let p := if q.write then
      let (rows, p) := p.readRows m k.site k.unit q.row q.rows
      let p := match p.regionOf k.site with
        | some r => if rows.any (·.fox) then
            p.openMark { kind := .fox, region := r, site := k.site, stroke := p.field k.site Csr.STK_STROKE, code := 0,
                         cluster := k.unit } else p
        | none => p
      p.send (.gwrReq k q.addr rows (if q.inject then [0] else []))
    else p.send (.grdReq k q.addr q.rows q.trace q.row)
  if q.host then p else p.countSlots (memSite q.addr)

/-- Rows that land foxed with no data of their own: their bytes are free values (R17, R278, R279). -/
def Panel.foxedRows (p : Panel) (tag n : Nat) : List Delivered × Panel :=
  let (bs, p) := p.drawBytes tag (64 * n)
  (rowsFrom bs fun _ => true, p)

/-- Rows of a page read land in the line buffer; a foxed one marks the half foxed (R121). -/
def Panel.landLine (p : Panel) (s row : Nat) (rows : List Delivered) : Panel :=
  let half := row / 1024
  let p := p.each rows.zipIdx fun p di => p.setWords s (0x100000 + 64 * (row + di.2)) (leNat di.1.data) 16
  let fox := rows.any (·.fox)
  p.modSeq s fun q => { q with readsLeft := setNth q.readsLeft half (nth q.readsLeft half 0 - 1),
                               foxed := setNth q.foxed half (nth q.foxed half false || fox) }

/-- A read completes with rows: they land at SADDR unless the request was discarded (R270, R275). -/
def Panel.landGalley (p : Panel) (q : GalReq) (rows : List Delivered) : Panel :=
  let k := q.key
  let p := if q.dropped then p
    else if k.unit < 4 then
      let p := if rows.any (·.fox) then p.tally k.site (Csr.GAL_G_QWAIT_FOXED (galIndex k.unit k.galley)) 1 else p
      p.landRows k.site k.unit q.row rows
    else p.landLine k.site q.row rows
  p.galComplete k

/-- A request's address lies in a populated range: populated LPDDR5X, or host memory for KIND 1 (R16, R17, R264, R265). -/
def Panel.galReaches (p : Panel) (q : GalReq) : Bool := if q.host then isHostAddr q.addr else p.populated q.addr

/-- A new request takes its entry and, for a cluster's galley, the sequence number ISSUED (R270). It is sent at once when
the quota allows (R274). An unpopulated address completes it at once with 0x0805 (R17, R264, R265). -/
def Panel.issueGalley (p : Panel) (m : Mem) (q : GalReq) : Panel :=
  let k := q.key
  let i := galIndex k.unit k.galley
  let p := if k.unit < 4 then p.setField k.site (Csr.GAL_G_ISSUED i) (q.key.seq + 1) else p
  let p := p.setGalley k.site k.unit (p.galley k.site k.unit ++ [q])
  if !p.galReaches q then
    let p := p.raiseAt k.site (if k.unit < 4 then k.unit else 0) 0x0805
    if q.write then p.galComplete k
    else
      let (rows, p) := p.foxedRows 0x0805 q.rows
      p.landGalley q rows
  else if p.maySend q then p.sendGalley m q
  else if p.inFlight k.site k.unit < p.quota k.site k.unit then p
  else p.tally k.site (Csr.GAL_G_QWAIT_QWAIT i) 1

/-- GAL_CTRL.CRC_INJECT applies to the next GWRITE of INJ_CL (R262). -/
def Panel.crcInject (p : Panel) (s c : Nat) : Bool × Panel :=
  if p.isSet s Csr.GAL_CTRL_CRC_INJECT && p.field s Csr.GAL_CTRL_INJ_CL = c then
    (true, p.setFlag s Csr.GAL_CTRL_CRC_INJECT false)
  else (false, p)

/-! ### Slot operations (R267–R273, R313) -/

/-- A trace that a memory die sources (R312, R313). -/
def Panel.traceSource (p : Panel) (site t : Nat) : Bool :=
  p.isSet site (Csr.FAB_TRACE_VALID t) && p.field site (Csr.FAB_TRACE_IN t) = 0x3F

/-- The plan of a GREAD or a GWRITE (R268–R273, R313). -/
def Panel.planGalley (p : Panel) (m : Mem) (s c w : Nat) (write : Bool) : OpPlan :=
  let g := bitsOf w 56 2
  let d := bitsOf w 52 4
  let row := bitsOf w 31 21
  let off := bitsOf w 4 27
  let n := bitsOf w 0 4 + 1
  let host := p.isSet s (Csr.GAL_DESC_KIND d)
  let trace := p.field s (Csr.GAL_DESC_TRACE d)
  let addr := 1024 * p.field s (Csr.GAL_DESC_BASE d) + 64 * off
  let key : GalKey := ⟨s, c, g, p.field s (Csr.GAL_G_ISSUED (galIndex c g))⟩
  let mine := p.galley s c
  let full := 64 ≤ (mine.filter fun q => q.key.galley = g).length
  let behind := !write && mine.any fun q => q.write && q.host = host && q.addr < addr + 64 * n && addr < q.addr + 64 * q.rows
  .guard [
    (!p.isSet s (Csr.GAL_DESC_VALID d) || 15 < off % 16 + n - 1 || 16 * p.field s (Csr.GAL_DESC_LIMIT d) ≤ off
      || (host && trace ≠ 0), 0x0801),
    (sliceRowCount < row + n, 0x0802),
    (!write && trace ≠ 0 && !(addr < 2 ^ 41 && p.traceSource (memSite addr) trace), 0x0903)]
  { hold := if full then 5 else if behind then 4 else 0,
    holdBy := (if full then [16 + galIndex c g] else []) ++ (if behind then [c] else []),
    checks := [⟨c, ⟨row, row + n - 1⟩, !write, none⟩],
    act := fun _ p =>
      let (inj, p) := if write then p.crcInject s c else (false, p)
      let p := if write then p.touch s c (64 * row) (64 * n) else p
      p.issueGalley m { key := key, write := write, host := host, trace := if write then 0 else trace, addr := addr,
                        row := row, rows := n, inject := inj } }

/-- The effective target of a GWAIT (R128, R271). -/
def Panel.gwaitTarget (p : Panel) (s c w : Nat) : Nat :=
  effTarget (bitOf w 55) (p.field s (Csr.GAL_G_CURSOR (galIndex c (bitsOf w 56 2)))) (bitsOf w 0 32)

/-- A GWAIT or GDRAIN has passed (R267, R271). -/
def Panel.gwaitPassed (p : Panel) (s c w : Nat) : Bool :=
  reached (p.field s (Csr.GAL_G_COMPLETED (galIndex c (bitsOf w 56 2)))) (p.gwaitTarget s c w)
def Panel.gdrainPassed (p : Panel) (s c w : Nat) : Bool :=
  (List.range 4).all fun g => !bitOf w (54 + g)
    || p.field s (Csr.GAL_G_COMPLETED (galIndex c g)) = p.field s (Csr.GAL_G_ISSUED (galIndex c g))

/-- The plan of a GWAIT: 0x0804 beyond ISSUED; as it passes, its cursor takes the effective target (R271). -/
def Panel.planGwait (p : Panel) (s c w : Nat) : OpPlan :=
  let i := galIndex c (bitsOf w 56 2)
  let t := p.gwaitTarget s c w
  .guard [(!reached (p.field s (Csr.GAL_G_ISSUED i)) t, 0x0804)]
  { act := fun _ p => p.setField s (Csr.GAL_G_CURSOR i) t }

/-! ### Memory dies -/

/-- The tables of one memory die: which send shard or stream range an address lies in (R284, R344). -/
def Panel.shardAt (p : Panel) (a : Nat) : Option Shard :=
  p.fabric.shards.find? fun h => h.send && 1024 * h.base ≤ a && a < 1024 * (h.base + h.limit)

/-- Shows a memory die's write-buffer use. -/
def Panel.showBuffer (p : Panel) (md : Nat) : Panel :=
  p.setField md Csr.GAL_MD_STATUS_WBUF (min 1024 (p.memDie md).copies.length)

/-- All memory dies. -/
def memDieSites : List Nat := (List.range 32).map fun k => 401 + 2 * k

/-- Every memory die stops copying a shard and releases its entries; a resynchronisation of it is abandoned (R285, R286). -/
def Panel.stopCopies (p : Panel) (shard : Nat) : Panel :=
  let p := { p with fabric := { p.fabric with resync := p.fabric.resync.filter fun r => r.1 ≠ shard }
                    net := p.net.filter fun x => match x with
                      | .resync _ _ h _ => h ≠ shard
                      | _ => true }
  p.each memDieSites fun p md =>
    let p := if (p.memDie md).stopped.contains shard then p
      else p.modMemDie md fun d => { d with stopped := d.stopped ++ [shard] }
    let p := if (p.memDie md).copies.any (fun c => c.shard = shard) then
        p.modMemDie md fun d => { d with copies := d.copies.filter fun c => c.shard ≠ shard } else p
    p.showBuffer md

/-- A shard becomes unmirrored: PD marks it on every memory die, which release its entries, and raises 0x0820 (R285, R286). -/
def Panel.unmirror (p : Panel) (shard region : Nat) : Panel :=
  let p := p.stopCopies shard
  let old := p.field sitePD Csr.GAL_SO_UNMIRRORED
  if bitOf old shard then p
  else (p.setField sitePD Csr.GAL_SO_UNMIRRORED (putBits old shard 1 1)).raiseRegion region 0x0820

/-- The region of a send shard. -/
def Panel.shardRegion (p : Panel) (shard dflt : Nat) : Nat :=
  match p.fabric.shards.find? fun h => h.send && h.shard = shard with
  | some h => h.region
  | none => dflt

/-- One more copy of a shard that the partner has not acknowledged; past 4,096 the shard becomes unmirrored (R286). -/
def Panel.lag (p : Panel) (md shard region : Nat) : Panel :=
  let p := p.count md (Csr.GAL_SO_LAG shard) 1
  if 4096 < p.field md (Csr.GAL_SO_LAG shard) then p.unmirror shard region else p

/-- A write accepted inside a send shard is copied to the link die of its context; the copy counts as lag, and past 4,096,
or with 512 entries held for copies, a shard becomes unmirrored (R285, R286). -/
def Panel.copyOut (p : Panel) (md : Nat) (h : Shard) (a : Nat) (rows : List Delivered) : Panel :=
  if (p.memDie md).stopped.contains h.shard then p
  else
    let p := p.modMemDie md fun d => { d with copies := d.copies ++ [⟨h.shard, h.ctx, a⟩] }
    let p := (p.send (.setoff md h.ctx h.shard a rows)).lag md h.shard h.region
    let p := match (p.memDie md).copies with
      | c :: cs =>
        if 512 ≤ cs.length + 1 then
          p.unmirror c.shard (p.shardRegion c.shard h.region)
        else p
      | [] => p
    p.showBuffer md

/-- Rows that a memory die accepts at an address, and the copies that they call for; the flag says whether a stream copy
withholds the completion of `k` (R281, R285, R344). -/
def Panel.acceptRows (p : Panel) (a : Nat) (rows : List Delivered) (k : Option GalKey) : Panel × Bool :=
  let p := p.each rows.zipIdx fun p di => p.put { addr := a + 64 * di.2, data := di.1.data, rows := 1, fox := some di.1.fox }
  match p.shardAt a with
  | none => (p, false)
  | some h =>
    if h.stream then
      (p.send (.streamCopy (memSite a) h.ctx a rows (k.getD ⟨siteCount, 0, 0, 0⟩)), k.isSome)
    else (p.copyOut (memSite a) h a rows, false)

/-- Rows cut where granules end: (address, rows). -/
def granulePieces : Nat → Nat → List Delivered → List (Nat × List Delivered)
  | 0, _, _ => []
  | fuel + 1, a, rows =>
    if rows.isEmpty then []
    else
      let n := 16 - a / 64 % 16
      (a, rows.take n) :: granulePieces fuel (a + 64 * n) (rows.drop n)

/-- Rows that a link die writes (R346, R355, R357), granule by granule; those of an unpopulated granule are discarded, and the flag
says that there were some (R17). -/
def Panel.linkRows (p : Panel) (a : Nat) (rows : List Delivered) : Panel × Bool :=
  (granulePieces (rows.length + 1) a rows).foldl (fun x y =>
    if x.1.populated y.1 then ((x.1.acceptRows y.1 y.2 none).1, x.2) else (x.1, true)) (p, false)

/-- A memory die takes requests: it works, is powered and not lost, and its summaries are not being rebuilt (R24, R282). -/
def Panel.memReady (p : Panel) (md : Nat) : Bool :=
  p.memGood md && p.lives md && !p.contain.lost.contains md && !(p.memDie md).selfRefresh && !p.isSet md Csr.GAL_MD_STATUS_REBUILD

/-- The fox bit that a memory die delivers with a row: the table is read when the summary bit is set (R281). -/
def Mem.tableFox (m : Mem) (a : Nat) : Bool := SMap.get memSum0 m.summary (summaryKey a) && m.foxAt a

/-! ### The panel CRC (R262) -/

/-- The CRC-16 of a 64 B row at a panel address. -/
def rowCrc (a : Nat) (bs : List Byte) : Nat := crc16 (bs ++ leBytes 6 a)

/-- A row's bytes after the fabric has inverted the bits that a mask of 528 names: data bits 511–0, then the CRC. -/
def noisyRow (noise : Nat) (bs : List Byte) : List Byte :=
  if noise % 2 ^ 512 = 0 then bs
  else bs.zipIdx.map fun x => BitVec.ofNat 8 (Nat.xor x.1.toNat (bitsOf noise (8 * x.2) 8))

/-- Whether the CRC that arrives with a row is the one that the receiver forms over what arrived; `inverted` says that the sender
inverted it. A row that nothing altered passes. -/
def rowPasses (a : Nat) (bs : List Byte) (noise : Nat) (inverted : Bool) : Bool :=
  (noise = 0 && !inverted)
    || Nat.xor (Nat.xor (rowCrc a bs) (bitsOf noise 512 16)) (if inverted then 0xFFFF else 0) = rowCrc a (noisyRow noise bs)

/-- What the fabric did to row `i`. -/
def noiseOf (noise : List (Nat × Nat)) (i : Nat) : Nat :=
  match noise.find? fun x => x.1 = i with
  | some x => x.2 % 2 ^ 528
  | none => 0

/-- A row as it lands in a slice: with a CRC that fails it is foxed (R279). -/
def landedRow (a noise : Nat) (d : Delivered) : Delivered :=
  ⟨noisyRow noise d.data, d.fox || !rowPasses a d.data noise false⟩

/-- Finds and takes the read request of a key off the fabric. -/
def Panel.takeRead (p : Panel) (k : GalKey) : Option (Nat × Nat × Nat × Nat) :=
  p.net.findSome? fun msg => match msg with
    | .grdReq k' a n t r => if k' = k then some (a, n, t, r) else none
    | _ => none
def Panel.takeWrite (p : Panel) (k : GalKey) : Option (Nat × List Delivered × List Nat) :=
  p.net.findSome? fun msg => match msg with
    | .gwrReq k' a rows bad => if k' = k then some (a, rows, bad) else none
    | _ => none
def Panel.takeData (p : Panel) (k : GalKey) : Option (List Delivered) :=
  p.net.findSome? fun msg => match msg with
    | .grdRsp k' rows => if k' = k then some rows else none
    | _ => none

/-- A memory die serves a read (R279, R281, R283): `corrected` link-ECC errors, `retries`, and the rows whose retries fail. The rows
of a GREAD on a trace enter it with the CRC of R262. -/
def Panel.serveRead (p : Panel) (m : Mem) (k : GalKey) (corrected retries : Nat) (failed : List Nat) : Panel :=
  match p.takeRead k with
  | none => p
  | some (a, n, t, row) =>
    let md := memSite a
    let j := memChannel a
    if !isLpddr a || !p.memReady md then p
    else
      let p := (p.arrive (.grdReq k a n t row)).countSlots md
      let foxed := (List.range n).filter fun i => m.tableFox (a + 64 * i)
      let p := ((p.tally md (Csr.GAL_CH_LECC j) corrected).tally md (Csr.GAL_CH_RETRY j) retries).tally md
        (Csr.GAL_CH_FOXRD j) foxed.length
      let bad := failed.filter (· < n)
      let step (q : List Delivered × Panel) (i : Nat) : List Delivered × Panel :=
        if bad.contains i then
          let (bs, p) := q.2.drawBytes 0x0810 64
          (q.1 ++ [⟨bs, true⟩], p)
        else (q.1 ++ [⟨m.read (a + 64 * i) 64, foxed.contains i⟩], q.2)
      let (rows, p) := (List.range n).foldl step ([], p)
      let p := if bad.isEmpty then p else p.raiseFor md 0x0810 p.galSev (p.regionOf k.site) k.unit k.site
      if t = 0 then p.send (.grdRsp k rows)
      else p.traceRows md 0x11 t k.site k.unit row a
        (rows.zipIdx.map fun x => plainUnit x.1 (some (rowCrc (a + 64 * x.2) x.1.data)) 0) (some k)

/-- A memory die takes a write (R262, R279, R281): rows whose CRC fails are discarded and marked foxed, the others enter the
write buffer, and the acceptance goes back unless a stream copy withholds it (R344). -/
def Panel.serveWrite (p : Panel) (m : Mem) (k : GalKey) (noise : List (Nat × Nat)) : Panel :=
  match p.takeWrite k with
  | none => p
  | some (a, rows, inj) =>
    let md := memSite a
    if !isLpddr a || !p.memReady md then p
    else
      let p := (p.arrive (.gwrReq k a rows inj)).countSlots md
      let fails (x : Delivered × Nat) : Bool := !rowPasses (a + 64 * x.2) x.1.data (noiseOf noise x.2) (inj.contains x.2)
      let bad := rows.zipIdx.filter fails
      let rows := rows.zipIdx.map fun x =>
        if fails x then ⟨(p.memory m).read (a + 64 * x.2) 64, true⟩ else ⟨noisyRow (noiseOf noise x.2) x.1.data, x.1.fox⟩
      let p := if bad.isEmpty then p else
        (p.tally md (Csr.GAL_CH_CRC (memChannel a)) bad.length).raiseFor md 0x0813 p.galSev (p.regionOf k.site) k.unit k.site
      let (p, held) := p.acceptRows a rows (some k)
      if held then p else p.send (.gwrAck k)

/-- A galley request times out (R278): a read completes with its rows foxed and 0x0811, a write completes with 0x0812. -/
def Panel.galTimeout (p : Panel) (k : GalKey) : Panel :=
  match p.galReq k with
  | none => p
  | some q =>
    if !q.sent then p
    else
      let c := if k.unit < 4 then k.unit else 0
      let p := if q.dropped then p else if q.write then p.raiseAt k.site c 0x0812 else p.raiseSev k.site c 0x0811 p.galSev
      if q.write then p.galComplete k
      else
        let (rows, p) := p.foxedRows 0x0811 q.rows
        p.landGalley q rows

/-! ### The sweep and the channel counts -/

/-- Segments of a channel (R281). -/
def segmentCount : Nat := 131072

/-- The first segment from `g` on whose summary bit is set. -/
def nextSegment (m : Mem) (ch : Nat) : Nat → Nat → Option Nat
  | 0, _ => none
  | n + 1, g =>
    let g := g % segmentCount
    if SMap.get memSum0 m.summary (ch * segmentCount + g) then some g else nextSegment m ch n (g + 1)

/-- A table segment reads zero: none of its 1,024 rows is marked; bits that cover the table itself read 0 (R264, R281). -/
def segmentClean (m : Mem) (ch g : Nat) : Bool :=
  (List.range 64).all fun i =>
    let l := 64 * g + i
    0x7FC000 ≤ l || (List.range 16).all fun r => !m.foxAt (1024 * granuleOf ch l + 64 * r)

/-! ### Events -/

/-- GALLEY_REQUEST_SEND (R274): the oldest request of a cluster that waits is sent. -/
def execGalleyRequestSend (site cluster : Nat) (s : State) : Host.Outcome State Fault Refusal :=
  .next (s.store fun m p =>
    match (p.galley site cluster).find? fun q => !q.sent with
    | some q => if p.maySend q then p.sendGalley m q else p
    | none => p)

/-- MD_READ_REQUEST (R279). -/
def execMdReadRequest (k : GalKey) (corrected retries : Nat) (failed : List Nat) (s : State) :
    Host.Outcome State Fault Refusal :=
  .next (s.store fun m p => p.serveRead m k corrected retries failed)

/-- MD_WRITE_REQUEST (R279). -/
def execMdWriteRequest (k : GalKey) (noise : List (Nat × Nat)) (s : State) : Host.Outcome State Fault Refusal :=
  .next (s.store fun m p => p.serveWrite m k noise)

/-- READ_DATA_LAND (R262, R270, R279): rows whose CRC fails land foxed with 0x0810. `noise` is what the fabric did to bits of the
rows. For a KIND 1 read, which carries no panel CRC, `hostRows` is what the host returned, foxed where the completion was
poisoned or in error. Data for a request that has completed is discarded. -/
def execReadDataLand (k : GalKey) (hostRows : List Delivered) (noise : List (Nat × Nat)) (s : State) :
    Host.Outcome State Fault Refusal :=
  .next (s.store fun _ p =>
    let data := p.takeData k
    let p := match data with
      | some rows => p.arrive (.grdRsp k rows)
      | none => p
    match p.galReq k with
    | none => p
    | some q =>
      match (if q.host then (if q.sent then some hostRows else none) else data) with
      | none => p
      | some rows =>
        let p := if q.host then p.arrive (.grdReq k q.addr q.rows q.trace q.row) else p
        let sent := (rows.take q.rows).map fun d => (⟨sliceBytes d.data 0 64, d.fox⟩ : Delivered)
        let rows := if q.host then sent else sent.zipIdx.map fun x => landedRow (q.addr + 64 * x.2) (noiseOf noise x.2) x.1
        let bad := if q.host then rows.any (·.fox)
          else sent.zipIdx.any fun x => !rowPasses (q.addr + 64 * x.2) x.1.data (noiseOf noise x.2) false
        let p := if bad && !q.dropped then p.raiseSev k.site (if k.unit < 4 then k.unit else 0) 0x0810 p.galSev else p
        p.landGalley q rows)

/-- WRITE_ACK_ARRIVE (R270): a KIND 1 write has then reached host memory. -/
def execWriteAckArrive (k : GalKey) (s : State) : Host.Outcome State Fault Refusal :=
  .next (s.quiet fun p =>
    match p.galReq k with
    | none => p.arrive (.gwrAck k)
    | some q =>
      if q.host then
        match p.takeWrite k with
        | some (a, rows, bad) =>
          ((p.arrive (.gwrReq k a rows bad)).emit (.hostWrite a (rows.flatMap (·.data)) (rows.any (·.fox)))).galComplete k
        | none => p
      else if p.net.contains (.gwrAck k) then (p.arrive (.gwrAck k)).galComplete k
      else p)

/-- GALLEY_TIMEOUT (R278). -/
def execGalleyTimeout (k : GalKey) (s : State) : Host.Outcome State Fault Refusal :=
  .next (s.store fun _ p => p.galTimeout k)

/-- GTR_DONE (R315): the galley entry of a trace GREAD completes. -/
def execGtrDone (k : GalKey) (s : State) : Host.Outcome State Fault Refusal :=
  .next (s.quiet fun p =>
    if p.net.contains (.gtrDone k) then (p.arrive (.gtrDone k)).galComplete k else p)

/-- FOX_SUMMARY_SWEEP (R281): the sweep of a channel visits the next segment whose summary bit is set. -/
def execFoxSummarySweep (md channel : Nat) (s : State) : Host.Outcome State Fault Refusal :=
  .next (s.store fun m p =>
    let j := channel % 8
    let ch := 8 * ((md - 401) / 2) + j
    match nextSegment m ch segmentCount (SMap.get (fun _ => 0) (p.memDie md).sweep j) with
    | none => p
    | some g =>
      let p := p.modMemDie md fun d => { d with sweep := SMap.set (fun _ => 0) d.sweep j ((g + 1) % segmentCount) }
      if segmentClean m ch g then p.put { fox := none, parity := none, clean := some (ch * segmentCount + g) } else p)

/-- ODECC_POLL (R261): every 10 ms a memory die latches its channel counts; `odecc`, `refresh` and `temp` are what the
devices report by channel. -/
def execOdeccPoll (md : Nat) (odecc refresh temp : List Nat) (s : State) : Host.Outcome State Fault Refusal :=
  .next (s.quiet fun p => p.each (List.range 8) fun p j =>
    let before := p.field md (Csr.GAL_CH_ODECC j)
    let lecc := p.tallyOf md (Csr.GAL_CH_LECC j)
    let p := ((((p.latch md (Csr.GAL_CH_LECC j)).latch md (Csr.GAL_CH_RETRY j)).latch md (Csr.GAL_CH_CRC j)).latch md
      (Csr.GAL_CH_FOXRD j))
    let p := p.setField md (Csr.GAL_CH_ODECC j) (nth odecc j before)
    let p := p.setField md (Csr.GAL_CH_REFCOL j) (nth refresh j 0)
    let p := p.setField md (Csr.GAL_CH_TEMP j) (nth temp j 0)
    let p := p.raiseIf (1024 < lecc) md 0x0814
    p.raiseIf (before < p.field md (Csr.GAL_CH_ODECC j)) md 0x0815)

/-- GAL_CRC_INJECT (R262): GAL_CTRL.CRC_INJECT takes effect on a cluster. -/
def execGalCrcInject (site cluster : Nat) (s : State) : Host.Outcome State Fault Refusal :=
  .next (s.quiet fun p => (p.setField site Csr.GAL_CTRL_INJ_CL cluster).setFlag site Csr.GAL_CTRL_CRC_INJECT true)

end Sys2Proof.Machine
end

