-- ==== Sys2Proof/Machine/Mesh.lean ====
section
/-! DEFINITION. Azrolane bundle ends as the layers above see them (R324), and the scheduled mesh: MSEND, MRECV and TSEND,
the elastic buffers, stamps, and the rows that running operations send and read as die cycles pass (R75–R83, R290–R298). -/

namespace Sys2Proof.Machine

/-! ### Bundle ends -/

/-- A bundle end: bundles coded 16e + b. -/
def bundleKey (s b : Nat) : Nat := s * 64 + b
def Panel.bundle (p : Panel) (s b : Nat) : BundleEnd := SMap.get (fun _ => {}) p.bundles (bundleKey s b)
def Panel.modBundle (p : Panel) (s b : Nat) (f : BundleEnd → BundleEnd) : Panel :=
  { p with bundles := SMap.modify (fun _ => {}) p.bundles (bundleKey s b) f }

/-- The role of a bundle end: 0 spare, 1 mesh, 2 packet, 3 trace (FAB_RIG). -/
def Panel.rigRole (p : Panel) (s b : Nat) : Nat := bitsOf (p.field s (Csr.FAB_RIG (b / 16))) (2 * (b % 16)) 2

/-- An edge is cut, or tied at this end (R331, R332). -/
def Panel.edgeCut (p : Panel) (s e : Nat) : Bool := bitOf (p.field s Csr.AZL_STATUS_CUT) e
def Panel.edgeTied (p : Panel) (s e : Nat) : Bool := bitOf (p.field s Csr.AZL_STATUS_TIED) e

/-- A mesh read on a bundle completes with a tie row (R331, R332). -/
def Panel.readsTie (p : Panel) (s b : Nat) : Bool :=
  p.edgeCut s (b / 16) || p.edgeTied s (b / 16) || p.azState s b = azTied || p.azState s b = azCut

/-- The depth of a receive buffer at the peer: what a guest's descriptor advertises (R328), or a Lamxadric die's depths (R302,
R324). Buffers 0 to 5 are P0 to P5, 6 the mesh or trace buffer, which R324 gives 16 mesh or 8 trace entries. -/
def Panel.depth (p : Panel) (s b buf : Nat) : Nat :=
  let e := b / 16
  if bitOf (p.field s Csr.AZL_STATUS_PEER_OK) e && (buf < 6 || bitOf (p.field s Csr.AZL_STATUS_GUEST) e) then
    bitsOf (p.field s (Csr.AZL_CAP_PEER e)) (8 * (8 + buf)) 8
  else match buf with
    | 0 => 4 | 1 => 8 | 2 => 8 | 3 => 8 | 4 => 16 | 5 => 8
    | _ => if p.rigRole s b = 3 then 8 else 16

/-- Credits in use of a buffer, and whether one is free (R324, R325). -/
def BundleEnd.inUse (x : BundleEnd) (buf : Nat) : Nat := SMap.get (fun _ => 0) x.used buf
def Panel.hasCredit (p : Panel) (s b buf : Nat) : Bool :=
  (p.bundle s b).inUse buf < p.depth s b buf && (p.bundle s b).replay.length < 32

/-! ### Frames that leave (R319–R325) -/

/-- The sender's liveness count: its uncore advances it every 1 µs of its panel time (R321). -/
def Panel.liveCount (p : Panel) (s : Nat) : Nat := p.dieStamp s / usCycles 1 % 16

/-- A buffer of which an end owes its peer credits, the lowest first, and how many a frame returns (R321, R324); 7 is none. -/
def BundleEnd.owes (x : BundleEnd) : Nat × Nat :=
  match x.owed.find? fun c => 0 < c.2 with
  | some c => (c.1, min 15 c.2)
  | none => (7, 0)

/-- A frame leaves on a bundle end, with the ACK and the credits that the end owes (R321, R324); a TRUNC names its class in CVC and
returns none. -/
def Panel.sendFrame (p : Panel) (s b : Nat) (f : SentFrame) : Panel :=
  let x := p.bundle s b
  let (cvc, ccnt) := if f.kind = azTruncKind then (f.cvc, 0) else x.owes
  let p := if f.kind = azTruncKind || cvc = 7 then p else
    p.modBundle s b fun x => { x with owed := SMap.modify (fun _ => 0) x.owed cvc (· - ccnt) }
  p.emit (.azFrame s b (azWires f.kind f.payload f.side (azControl f.kind f.seq x.rxSeq cvc ccnt (p.liveCount s))))

/-- A frame that carries no unit and is not replayable: its SEQ is that of the last replayable frame sent (R321). -/
def Panel.sendControlFrame (p : Panel) (s b kind : Nat) : Panel := p.sendFrame s b ⟨(p.bundle s b).txSeq, kind, 0, 0, 7⟩

/-- An end that is up, or tied, sends an IDLE, or a TIE, which carries its ACK and the credits it owes (R321, R331). A direction is
never silent while it is up: the model shows the frame that tells the peer something (DESIGN CHOICE: notes/assumptions/145.md). -/
def Panel.tellPeer (p : Panel) (s b : Nat) : Panel :=
  if p.edgeTied s (b / 16) then p.sendControlFrame s b azTieKind
  else if p.azState s b = azUp || p.azState s b = azTied then p.sendControlFrame s b azIdle
  else p

/-- A credit of a buffer is returned to the peer (R324). -/
def Panel.returnCredit (p : Panel) (s b buf : Nat) : Panel :=
  (p.modBundle s b fun x => { x with owed := SMap.modify (fun _ => 0) x.owed buf (· + 1) }).tellPeer s b

/-- A replayable frame leaves: it takes the next SEQ and a place in the replay buffer (R322, R325). -/
def Panel.sendReplayable (p : Panel) (s b kind payload side cvc : Nat) : Panel :=
  let q := ((p.bundle s b).txSeq + 1) % 512
  let f : SentFrame := ⟨q, kind, payload, side, cvc⟩
  (p.modBundle s b fun x => { x with txSeq := q, replay := x.replay ++ [f] }).sendFrame s b f

/-- A unit leaves on a bundle, and takes a credit of its buffer: in a KA frame when it is KA-packed, else in a DATA frame (R322,
R324). -/
def Panel.sendUnit (p : Panel) (s b buf : Nat) (u : Flit) : Panel :=
  let p := p.modBundle s b fun x => { x with used := SMap.set (fun _ => 0) x.used buf (x.inUse buf + 1) }
  let ka := sideKa u.side
  p.sendReplayable s b (if ka then azKaKind else azDataKind) (leNat (u.data.take (if ka then 48 else 64))) u.side 7

/-! ### Crossings -/

/-- The elastic buffer of a receiving bundle end, and the words on their way to it (R78). -/
def Panel.meshBuf (p : Panel) (s b : Nat) : List MeshWord := SMap.get (fun _ => []) p.mesh (bundleKey s b)
def Panel.setMeshBuf (p : Panel) (s b : Nat) (l : List MeshWord) : Panel :=
  { p with mesh := SMap.set (fun _ => []) p.mesh (bundleKey s b) l }
def Panel.wire (p : Panel) (s b : Nat) : List MeshWord := SMap.get (fun _ => []) p.meshWire (bundleKey s b)
def Panel.setWire (p : Panel) (s b : Nat) (l : List MeshWord) : Panel :=
  { p with meshWire := SMap.set (fun _ => []) p.meshWire (bundleKey s b) l }

/-- The MSENDs and MRECVs that run on a die. -/
def Panel.runningOps (p : Panel) (s : Nat) : List MeshOp := SMap.get (fun _ => []) p.meshOps s
def Panel.setRunning (p : Panel) (s : Nat) (l : List MeshOp) : Panel :=
  { p with meshOps := SMap.set (fun _ => []) p.meshOps s l }

/-- Every mesh buffer of a die empties, its operations end and its credits return (R298). -/
def Panel.clearMesh (p : Panel) (s : Nat) : Panel :=
  let p := p.setRunning s []
  { p with mesh := p.mesh.filter (fun x => x.1 / 64 ≠ s), meshWire := p.meshWire.filter (fun x => x.1 / 64 ≠ s),
           bundles := (p.bundles.map fun x =>
             if p.rigRole (x.1 / 64) (x.1 % 64) = 1 && (x.1 / 64 = s || (farBundle (x.1 / 64) (x.1 % 64)).1 = s)
             then (x.1, { x.2 with used := SMap.set (fun _ => 0) x.2.used 6 0 }) else x).filter fun x => x.2 ≠ {} }

/-- The smallest SPACE of a crossing (R296). -/
def Panel.minSpace (p : Panel) (s b : Nat) (ka : Bool) : Nat :=
  if p.isSet s (Csr.AZL_BUNDLE_PROFILE b) then (if ka then 2 else 3) else (if ka then 4 else 5)

/-- A bundle may serve the mesh for a die: rigged to it, good, and leading to a compute die of its region (R292, R297). -/
def Panel.meshOk (p : Panel) (s b : Nat) : Bool :=
  p.rigRole s b = 1 && p.bundleGood s (64 + b) && !onRim s (b / 16) && (p.regionOf s).isSome
    && p.regionOf (farBundle s b).1 = p.regionOf s

/-- A row of a slice as a read delivers it, and that row when its parity fails (R257). -/
def Panel.rowAtSlice (p : Panel) (m : Mem) (s c row : Nat) : Delivered :=
  let m := p.memory m
  ⟨m.read (sliceAddr s c (64 * row)) 64, m.rowsFoxed (sliceAddr s c (64 * row)) 1⟩
def Panel.badRow (p : Panel) (m : Mem) (s c row : Nat) : List Nat := (p.memory m).parityRows (sliceAddr s c (64 * row)) 1

/-- An MSEND after its next row has been sent: whether its read raised 0x0720 is kept, since an operation raises it once (R257). -/
def Panel.sentRow (p : Panel) (m : Mem) (s : Nat) (o : MeshOp) : MeshOp :=
  { o with done := o.done + 1, noted := o.noted || !(p.badRow m s o.cluster (o.row + o.done)).isEmpty }

/-- A mesh word as a unit of its bundle, and back (R290, R291). -/
def MeshWord.unit (w : MeshWord) : Flit := if w.ka then kaUnit w.row w.stamp else plainUnit w.row none w.stamp
def wordOf (kaFrame : Bool) (u : Flit) : MeshWord :=
  { stamp := sideStamp u.side, ka := sideKa u.side, row := if kaFrame then kaFrameRow u else flitRow u }

/-- Row `i` of an MSEND goes onto its crossing with the stamp of this cycle (R78, R294); to a cut edge it is discarded (R332). -/
def Panel.meshSend (p : Panel) (m : Mem) (s : Nat) (o : MeshOp) : Panel :=
  let d := p.rowAtSlice m s o.cluster (o.row + o.done)
  let p := p.parityNote m s o.cluster o.noted (p.badRow m s o.cluster (o.row + o.done))
  let word : MeshWord := { stamp := p.field s Csr.STK_SEQ_POS_CYCLE % 256, ka := o.ka, row := if o.ka then kaRow d else d }
  let p := p.tally s Csr.FAB_MESH_LAST_SENT 1
  let e := o.bundle / 16
  if p.edgeCut s e || p.edgeTied s e then p
  else
    let (far, b) := farBundle s o.bundle
    (p.sendUnit s o.bundle 6 word.unit).setWire far b (p.wire far b ++ [word])

/-- A scheduled read of an MRECV at its cycle (R80, R295): a tie row, the head entry, or 0x0303 or 0x090D with the entry
discarded. The row lands 12 die cycles later. -/
def Panel.meshRead (p : Panel) (s : Nat) (o : MeshOp) : Panel × MeshOp :=
  let at_ := o.start + o.space * o.done + 12
  let next (d : Delivered) : MeshOp := { o with done := o.done + 1, landing := o.landing ++ [(at_, o.row + o.done, d)] }
  let p := p.tally s Csr.FAB_MESH_LAST_READ 1
  match p.meshBuf s o.bundle with
  | [] => (p, next ⟨List.replicate 64 0, true⟩)
  | w :: ws =>
    if p.readsTie s o.bundle then (p, next ⟨List.replicate 64 0, true⟩)
    else
      let p := (p.setMeshBuf s o.bundle ws).returnCredit s o.bundle 6
      if w.stamp ≠ (o.stamp + o.space * o.done) % 256 then (p.raiseAt s o.cluster 0x0303, { o with done := o.done + 1 })
      else if w.ka ≠ o.ka then (p.raiseAt s o.cluster 0x090D, { o with done := o.done + 1 })
      else (p, next w.row)

/-- A running operation has a row due at this die cycle. -/
def Panel.meshDue (p : Panel) (s : Nat) (o : MeshOp) : Bool :=
  o.done < o.count && o.start + o.space * o.done = p.cycles s

/-- Why a row that is due cannot go: 1 no crossing data, 2 no credit, 0 it can (R80, R82). -/
def Panel.meshHold1 (p : Panel) (s : Nat) (o : MeshOp) : Nat :=
  if o.recv then (if (p.meshBuf s o.bundle).isEmpty && !p.readsTie s o.bundle then 1 else 0)
  else if p.hasCredit s o.bundle 6 || p.edgeCut s (o.bundle / 16) || p.edgeTied s (o.bundle / 16) then 0 else 2

/-- Why the running operations hold the die at this cycle, 0 when they do not. -/
def Panel.meshHold (p : Panel) (s : Nat) : Nat :=
  ((p.runningOps s).filter (p.meshDue s)).foldl (fun h o => if h = 0 then p.meshHold1 s o else h) 0

/-- The rows due at this cycle are sent and read. -/
def Panel.meshRun (p : Panel) (m : Mem) (s : Nat) : Panel :=
  p.each ((p.runningOps s).filter (p.meshDue s)) fun p o =>
    let (p, o') := if o.recv then p.meshRead s o else (p.meshSend m s o, p.sentRow m s o)
    let p := p.setRunning s ((p.runningOps s).map fun x => if x.id = o.id then o' else x)
    if !o.recv && o'.done = o.count then p.retire s o.id else p

/-- Rows read 12 cycles ago become visible, and operations that are done leave (R294, R295). -/
def Panel.meshLand (p : Panel) (s : Nat) : Panel :=
  p.each (p.runningOps s) fun p o =>
    let due := o.landing.filter fun x => x.1 ≤ p.cycles s
    let o' := { o with landing := o.landing.filter fun x => p.cycles s < x.1 }
    let p := p.each due fun p x => p.landRows s o.cluster x.2.1 [x.2.2]
    let fin := o'.done = o'.count && o'.landing.isEmpty
    let p := if fin then p.retire s o.id else p
    p.setRunning s ((p.runningOps s).filterMap fun x => if x.id = o.id then (if fin then none else some o') else some x)

/-! ### Slot operations (R293–R297, R313) -/

/-- The plan of an MSEND or an MRECV. -/
def Panel.planMesh (p : Panel) (m : Mem) (s c w : Nat) (recv : Bool) : OpPlan :=
  let b := 16 * bitsOf w 56 2 + bitsOf w 52 4
  let row := bitsOf w 31 21
  let n := bitsOf w 27 4 + 1
  let space := bitsOf w 23 4
  let ka := bitOf w 22
  let stamp := if recv then bitsOf w 14 8 else 0
  let busy := (p.runningOps s).any fun o => o.recv = recv && o.bundle = b && o.done < o.count
  let o : MeshOp := { recv := recv, cluster := c, bundle := b, row := row, count := n, space := space, ka := ka,
                      stamp := stamp, start := p.cycles s, id := 0 }
  .guard [
    (!p.meshOk s b, 0x0901),
    (space < p.minSpace s b ka || busy || sliceRowCount < row + n, 0x0902)]
  { hold := p.meshHold1 s o,
    reqs := [⟨c, ⟨row, row + n - 1⟩, recv, none⟩],
    act := fun id p =>
      let o := { o with id := id }
      let (p, o) := if recv then p.meshRead s o else (p.meshSend m s o, p.sentRow m s o)
      let p := if !recv && o.done = n then p.retire s id else p
      if !recv && o.done = n then p else p.setRunning s (p.runningOps s ++ [o]) }

/-- The plan of a TSEND (R313): it enters the outbound queue as a PUT does. -/
def Panel.planTsend (p : Panel) (s c w : Nat) : OpPlan :=
  let t := bitsOf w 50 8
  let src := bitsOf w 29 21
  let n := bitsOf w 4 4 + 1
  .guard [(t = 0 || !p.traceSource s t, 0x0903), (sliceRowCount < src + n, 0x0902)]
  { hold := if 8 ≤ (p.mover s c).outbound.length then 4 else 0,
    holdBy := if 8 ≤ (p.mover s c).outbound.length then [c] else [],
    reqs := [⟨c, ⟨src, src + n - 1⟩, false, none⟩],
    act := fun id p => p.modMover s c fun v =>
      { v with outbound := v.outbound ++
          [{ id := id, src := src, dst := bitsOf w 8 21, len := n, site := s, cluster := c, trace := t, ka := bitOf w 3 }] } }

/-! ### Events -/

/-- The stamp and KA flag that a die held at a scheduled read awaits on a crossing: of an operation that runs, or of an
MRECV in the line that stalls. -/
def Panel.awaited (p : Panel) (s b : Nat) : Option (Nat × Bool) :=
  let ops := (p.runningOps s).filterMap fun o =>
    if o.recv && o.bundle = b && p.meshDue s o then some ((o.stamp + o.space * o.done) % 256, o.ka) else none
  let line := ((p.seq s).stalled.getD []).filterMap fun x =>
    if 8 ≤ x.1 && x.1 < 12 && bitsOf x.2 58 6 = 0x21 && 16 * bitsOf x.2 56 2 + bitsOf x.2 52 4 = b then
      some (bitsOf x.2 14 8, bitOf x.2 22) else none
  (ops ++ line).head?

/-- A word enters the elastic buffer of a crossing, and CLK_XING of the edge keeps the highest occupancy (R78). -/
def Panel.bufferWord (p : Panel) (s b : Nat) (w : MeshWord) : Panel :=
  let buf := p.meshBuf s b ++ [w]
  let f := Csr.CLK_XING_HIGH_WATER (b / 16)
  (p.setMeshBuf s b buf).setField s f (max (p.field s f) buf.length)

/-- A word reaches the receiving end of a crossing. A die that holds for it finds a wrong stamp or KA flag at once (R80, R295). -/
def Panel.landWord (p : Panel) (s b : Nat) (w : MeshWord) : Panel :=
  match (if (p.meshBuf s b).isEmpty then p.awaited s b else none) with
  | some (stamp, ka) =>
    if w.stamp ≠ stamp then (p.raise s 0x0303).returnCredit s b 6
    else if w.ka ≠ ka then (p.raise s 0x090D).returnCredit s b 6
    else p.bufferWord s b w
  | none => p.bufferWord s b w

/-- A frame that arrives at a tied end is discarded, counted and raises 0x0A09, and its credit is returned with a TIE (R331). -/
def Panel.tiedFrame (p : Panel) (s b : Nat) (buf : Option Nat) : Panel :=
  let p := (p.tally s (Csr.AZL_BERR_CRC b) 1).raise s 0x0A09
  match buf with
  | some k => p.returnCredit s b k
  | none => p.tellPeer s b

/-- A replayable frame has been received in order and intact: ACK follows it (R321, R325). -/
def Panel.ackFrame (p : Panel) (s b : Nat) : Panel := p.modBundle s b fun x => { x with rxSeq := (x.rxSeq + 1) % 512, discarding := false }

/-- MESH_WORD_ARRIVE (R78): the oldest word on a crossing, in its frame, enters the elastic buffer; at a tied end it is discarded
(R331), and a die whose logic is down takes none (R18). -/
def execMeshWordArrive (site bundle : Nat) (s : State) : Host.Outcome State Fault Refusal :=
  .next (s.quiet fun p =>
    match p.wire site bundle with
    | [] => p
    | w :: ws =>
      if 16 ≤ (p.meshBuf site bundle).length || !p.routes site then p
      else
        let p := p.setWire site bundle ws
        if p.edgeCut site (bundle / 16) then p
        else if p.edgeTied site (bundle / 16) then (p.ackFrame site bundle).tiedFrame site bundle (some 6)
        else (((p.ackFrame site bundle).landWord site bundle w).tellPeer site bundle))

end Sys2Proof.Machine
end

