-- ==== Sys2Proof/Machine/Router.lean ====
section
/-! DEFINITION. The routers of the packet fabric (R299–R307, R310, R311): the packets of a message, the flits that wait at the
inputs of a router, their service order at its outputs (R104), discards and reining. -/

namespace Sys2Proof.Machine

/-! ### The packets of a message (R299–R301, R307) -/

/-- An immediate whose layout the spec does not give: a free value for each content (notes/assumptions/146.md). -/
def openImm (type content : Nat) : Nat := (Config.freeValue (299 + 512 * type) content).toNat % 2 ^ 64

/-- The header and the data flits of packets that carry rows, up to 16 each; `crc` says that each row travels with the panel CRC of
its address (R262). -/
def rowPackets (h : PacketHead) (step : Nat) (crc : Option Nat) (rows : List Delivered) : List (PacketHead × List Flit) :=
  (List.range (max 1 (ceilDiv rows.length 16))).map fun i =>
    let part := (rows.drop (16 * i)).take 16
    ({ h with len := part.length, addr := h.addr + step * 16 * i },
     part.zipIdx.map fun x => plainUnit x.1 (crc.map fun a => rowCrc (a + 1024 * i + 64 * x.2) x.1.data) 0)

/-- Bytes as the data of flits. -/
def byteRows (bs : List Byte) : List Delivered := rowsFrom (bs ++ List.replicate (64 * ceilDiv bs.length 64 - bs.length) 0) fun _ => false

/-- The memory die that answers a galley request. -/
def Panel.galServer (p : Panel) (k : GalKey) : Option Nat :=
  match p.galReq k with
  | some q => if q.host then none else some (memSite q.addr)
  | none => none

/-- The packets of a message of the packet fabric, with HOPS 0 and the EPOCH of the die that injects it (R299, R307); none for a
message whose packets the spec does not lay down, or that travels on a trace or along the tree (notes/assumptions/146.md). -/
def Panel.msgPackets (p : Panel) (m : NetMsg) : List (PacketHead × List Flit) :=
  let head (type src dst : Nat) : PacketHead :=
    { type := type, cls := (typeClass type).getD 0, epoch := p.field src Csr.FAB_STATUS_EPOCH, dst := dst, src := src,
      region := (p.regionOf src).getD 0 }
  let key (h : PacketHead) (k : GalKey) : PacketHead := { h with region := (p.regionOf k.site).getD 0, galley := k.galley, seq := k.seq }
  match m with
  | .sadd src home idx delta => if siteCount ≤ src then [] else [({ head 1 src home with imm := delta % 2 ^ 32 + 2 ^ 32 * idx }, [])]
  | .watch src home idx target slot =>
    [({ head 2 src home with imm := target % 2 ^ 32 + 2 ^ 32 * (idx % 256) + 2 ^ 40 * (slot % 16) }, [])]
  | .reached src dst slot => [({ head 3 src dst with imm := openImm 3 slot }, [])]
  | .lastArrival src dst => [({ head 4 src dst with imm := openImm 4 0 }, [])]
  | .reprintClaim site slot reserve cluster => [({ head 9 site reserve with dstCluster := cluster, imm := openImm 9 slot }, [])]
  | .put src sc dst c off rows => rowPackets { head 0x18 src dst with srcCluster := sc, dstCluster := c, addr := off } 1 none rows
  | .grdReq k a n t row =>
    [({ key (head 0x10 k.site (memSite a)) k with srcCluster := k.unit % 4, trace := t, addr := a,
                                                  imm := openImm 0x10 (n + 32 * row) }, [])]
  | .grdRsp k rows =>
    match p.galServer k, p.galReq k with
    | some md, some q => rowPackets { key (head 0x11 md k.site) k with dstCluster := k.unit % 4, addr := q.addr } 64 (some q.addr) rows
    | _, _ => []
  | .gwrReq k a rows _ => rowPackets { key (head 0x13 k.site (memSite a)) k with srcCluster := k.unit % 4, addr := a } 64 (some a) rows
  | .gwrAck k =>
    match p.galServer k with
    | some md => [({ key (head 0x14 md k.site) k with dstCluster := k.unit % 4 }, [])]
    | none => []
  | .gtrDone k =>
    match p.galServer k with
    | some md => [({ key (head 0x12 md k.site) k with dstCluster := k.unit % 4 }, [])]
    | none => []
  | .setoff md ctx shard a rows => rowPackets { head 0x19 md (linkOfCtx ctx) with addr := a, imm := openImm 0x19 (ctx + 4096 * shard) } 64 none rows
  | .setmark md region sheet => [({ head 0x1A sitePD md with region := region, imm := openImm 0x1A sheet }, [])]
  | .streamCopy md ctx a rows _ => rowPackets { head 0x20 md (linkOfCtx ctx) with tag := ctx, addr := a } 64 none rows
  | .setoffIn ctx psn a rows _ =>
    rowPackets { head 0x19 (linkOfCtx ctx) (memSite a) with addr := a, imm := openImm 0x19 (ctx + 4096 * psn) } 64 none rows
  | .transit src link port f => rowPackets { head 0x21 src link with imm := port % 128 } 0 none f.rows
  | .bcastAgain site off data => rowPackets { head 0x2B p.primary site with addr := off } 64 none (byteRows data)
  | .bcastEndAgain site crc => [({ head 0x2C p.primary site with imm := crc % 2 ^ 32 }, [])]
  | _ => []

/-- The flits of packets, in order. -/
def packetFlits (ps : List (PacketHead × List Flit)) : List QueuedFlit :=
  ps.flatMap fun x => ⟨true, headFlit x.1⟩ :: x.2.map fun f => ⟨false, f⟩

/-! ### The state of a router -/

def Panel.router (p : Panel) (s : Nat) : Router := SMap.get (fun _ => {}) p.routers s
def Panel.modRouter (p : Panel) (s : Nat) (f : Router → Router) : Panel :=
  { p with routers := SMap.modify (fun _ => {}) p.routers s f }

/-- The input of a router that is the die's own, and the outputs that are no bundle: the die itself, and nowhere. -/
def ownInput : Nat := 64
def outLocal : Nat := 64
def outNowhere : Nat := 65

/-- The key of a class of an input or of an output. -/
def laneKey (i c : Nat) : Nat := 8 * i + c

/-- The flits that wait at a class of an input, and the packet of which it has sent the head. -/
def Router.queue (r : Router) (i c : Nat) : List QueuedFlit := SMap.get (fun _ => []) r.queues (laneKey i c)
def Router.open_ (r : Router) (i c : Nat) : Option OpenPacket := SMap.get (fun _ => none) r.sending (laneKey i c)
def Router.due (r : Router) (i c : Nat) : Nat := SMap.get (fun _ => 0) r.coming (laneKey i c)
def Router.setQueue (r : Router) (i c : Nat) (l : List QueuedFlit) : Router :=
  { r with queues := SMap.set (fun _ => []) r.queues (laneKey i c) l }
def Router.setOpen (r : Router) (i c : Nat) (o : Option OpenPacket) : Router :=
  { r with sending := SMap.set (fun _ => none) r.sending (laneKey i c) o }
def Router.setDue (r : Router) (i c n : Nat) : Router := { r with coming := SMap.set (fun _ => 0) r.coming (laneKey i c) n }

/-- The router of a die holds nothing any more. -/
def Panel.clearRouter (p : Panel) (s : Nat) : Panel := p.modRouter s fun _ => {}

/-! ### Routing (R302, R303, R306, R310) -/

/-- The output code of a router for a destination in a version (R306). -/
def Panel.routeCode (p : Panel) (site dst version : Nat) : Nat :=
  bitsOf (p.field site (Csr.FAB_RT dst)) (4 * (version % 2)) 4

/-- The packet-rigged bundles of an edge, in order (R303). -/
def Panel.packetBundles (p : Panel) (site e : Nat) : List Nat :=
  ((List.range 16).map fun b => 16 * e + b).filter fun b => p.rigRole site b = 2

/-- An output edge is down: it is cut, or all its packet-rigged bundles are bad (R310). -/
def Panel.edgeDown (p : Panel) (site e : Nat) : Bool :=
  let bs := p.packetBundles site e
  p.edgeCut site e
    || (!bs.isEmpty && bs.all fun b => p.azState site b = azBad || !p.bundleGood site (64 + b))

/-- FAB_STATUS.EDGE_DOWN as it reads. -/
def Panel.edgesDown (p : Panel) (site : Nat) : Nat :=
  ((List.range (faceCount site)).map fun e => 2 ^ e * flag (p.edgeDown site e)).sum

/-- EPOCH, BCAST and BCAST_END packets for the die itself come along the tree or by unicast, and are for its agents (R309, R316). -/
def treeType (t : Nat) : Bool := t = 0x05 || t = 0x2B || t = 0x2C

/-- The output code that a head takes at a router (R306). -/
def Panel.headCode (p : Panel) (s : Nat) (h : PacketHead) : Nat :=
  if treeType h.type && h.dst = s then 4
  else if h.dst < siteCount then p.routeCode s h.dst h.epoch else 15

/-- Why a router discards a packet at its head, with FAB_DROP_LAST's count of it (R300, R304, R306, R310, R331). -/
def Panel.headFault (p : Panel) (s : Nat) (h : PacketHead) : Option (Nat × Fld) :=
  let code := p.headCode s h
  if typeClass h.type ≠ some h.cls then some (0x0907, Csr.FAB_DROP_LAST_NOROUTE)
  else if 64 ≤ h.hops + 1 then some (0x0906, Csr.FAB_DROP_LAST_DOWN)
  else if code = 4 then none
  else if faceCount s ≤ code then some (0x0905, Csr.FAB_DROP_LAST_NOROUTE)
  else if p.edgeDown s code || p.edgeTied s code then some (0x0904, Csr.FAB_DROP_LAST_DOWN)
  else none

/-- A class of a bundle is held by a packet that another input's class sends (R302). -/
def Panel.chainHeld (p : Panel) (s b c : Nat) : Bool :=
  (p.router s).sending.any fun x => x.1 % 8 = c && (match x.2 with
    | some o => o.out = b
    | none => false)

/-- The bundle that a head takes on an edge: the lowest-numbered packet-rigged one that is up, has a credit of its class, and whose
buffer chain no other packet holds (R302, R303). -/
def Panel.headBundle (p : Panel) (s e c : Nat) : Option Nat :=
  (p.packetBundles s e).find? fun b => p.azState s b = azUp && p.hasCredit s b c && !p.chainHeld s b c

/-- The types whose packets reining holds back at their source: of movers, galleys, the gate and merge units, and transit ingress
(R311). -/
def reinedType (t : Nat) : Bool := t = 0x10 || t = 0x13 || t = 0x18 || t = 0x21

/-- The output to which the first flit of an input's class can go now: a bundle, or the die itself; none when it must wait or is to
be discarded. -/
def Panel.target (p : Panel) (s i c : Nat) : Option Nat :=
  match (p.router s).queue i c with
  | [] => none
  | q :: _ =>
    match (p.router s).open_ i c with
    | some o =>
      if o.left = 0 || outNowhere ≤ o.out then none
      else if o.out = outLocal then some outLocal
      else if p.azState s o.out = azUp && p.hasCredit s o.out c then some o.out else none
    | none =>
      let h := parseHead q.flit.data
      if !q.head || (p.headFault s h).isSome || (i = ownInput && reinedType h.type && p.reined s c) then none
      else if p.headCode s h = 4 then some outLocal
      else p.headBundle s (p.headCode s h) c

/-! ### Service order (R104) -/

/-- The input edge of an input; the die's own is 4. -/
def inputEdge (i : Nat) : Nat := min 4 (i / 16)

/-- How far an input stands in the round robin of an output's class. -/
def Router.turn (r : Router) (out i c : Nat) : Nat := (inputEdge i + 5 - SMap.get (fun _ => 0) r.served (laneKey out c) % 5) % 5

/-- The packet of an input's class is within its first five flits, which leave as one burst. -/
def Router.bursts (r : Router) (i c : Nat) : Bool :=
  match r.open_ i c with
  | some o => 0 < o.gone && o.gone < 5 && 0 < o.left
  | none => false

/-- The inputs' classes whose first flit can go to an output now. -/
def Panel.rivals (p : Panel) (s out : Nat) : List (Nat × Nat) :=
  ((p.router s).queues.map fun x => (x.1 / 8, x.1 % 8)).filter fun x => p.target s x.1 x.2 = some out

/-- An input's class comes before another at an output: by class, then round robin. -/
def Router.before (r : Router) (out : Nat) (x y : Nat × Nat) : Bool :=
  x.2 < y.2 || (x.2 = y.2 && (r.turn out x.1 x.2 < r.turn out y.1 y.2
    || (r.turn out x.1 x.2 = r.turn out y.1 y.2 && x.1 ≤ y.1)))

/-- An output serves an input's class next (R104). -/
def Panel.serves (p : Panel) (s out i c : Nat) : Bool :=
  let r := p.router s
  let rs := p.rivals s out
  match rs.find? fun x => r.bursts x.1 x.2 with
  | some x => x = (i, c)
  | none => rs.all fun x => r.before out (i, c) x

/-! ### Reining (R311) -/

/-- The outputs (codes of R306; 15 none) for which the flits of a queue wait, in order; `out` is that of a packet under way. -/
def Panel.waitOutputs (p : Panel) (s : Nat) : Nat → List QueuedFlit → List Nat
  | _, [] => []
  | out, q :: qs =>
    let out := if q.head then p.headCode s (parseHead q.flit.data) else out
    out :: p.waitOutputs s out qs

/-- The output code of a packet under way. -/
def OpenPacket.code (o : OpenPacket) : Nat := if o.out < 64 then o.out / 16 else if o.out = outLocal then 4 else 15

/-- The longest output queue of a class. The die's own input holds one flit at a time (notes/assumptions/146.md). -/
def Panel.longestQueue (p : Panel) (s c : Nat) : Nat :=
  let r := p.router s
  let outs := r.queues.flatMap fun x =>
    if x.1 % 8 = c then
      p.waitOutputs s (((r.open_ (x.1 / 8) c).map (·.code)).getD 15) (if x.1 / 8 = ownInput then x.2.take 1 else x.2)
    else []
  ((List.range 5).map fun o => (outs.filter (· = o)).length).foldl max 0

/-- REINED of a class follows its longest output queue. -/
def Panel.rein (p : Panel) (site cls queue : Nat) : Panel :=
  let hi := bitsOf (p.field site Csr.FAB_REIN_CFG) (8 * cls) 4
  let lo := bitsOf (p.field site Csr.FAB_REIN_CFG) (8 * cls + 4) 4
  let old := p.field site Csr.FAB_STATUS_REINED
  let now := if hi = 0 then false else if hi ≤ queue then true else if queue ≤ lo then false else bitOf old cls
  p.setField site Csr.FAB_STATUS_REINED (putBits old cls 1 (flag now))

/-- REINED follows every output queue of a router. -/
def Panel.showQueues (p : Panel) (s : Nat) : Panel := p.each (List.range 6) fun p c => p.rein s c (p.longestQueue s c)

/-! ### Flits that leave (R302–R304, R310) -/

/-- The first flit of an input's class is gone: its credit goes back to the sender (R302). -/
def Panel.popFlit (p : Panel) (s i c : Nat) : Panel :=
  let p := p.modRouter s fun r => r.setQueue i c ((r.queue i c).drop 1)
  if i < ownInput then p.returnCredit s i c else p

/-- An input's class goes on with its packet after a flit has left. -/
def Panel.passFlit (p : Panel) (s i c : Nat) (o : OpenPacket) : Panel :=
  p.modRouter s fun r => r.setOpen i c (if o.left ≤ 1 then none else some { o with gone := o.gone + 1, left := o.left - 1 })

/-- An output has served an input's class. -/
def Panel.hasServed (p : Panel) (s out i c : Nat) : Panel :=
  p.modRouter s fun r => { r with served := SMap.set (fun _ => 0) r.served (laneKey out c) (inputEdge i + 1) }

/-- A packet is lost, and its message with it: the oldest injected message that has a packet of this header, whatever its hops and
its epoch. -/
def Panel.loseMessage (p : Panel) (h : PacketHead) : Panel :=
  let bare (x : PacketHead) : PacketHead := { x with hops := 0, epoch := 0 }
  match p.injected.find? fun m => (p.msgPackets m).any fun x => bare x.1 = bare h with
  | some m => p.arrive m
  | none => p

/-- A packet is discarded at a router with its message; its code is raised, and FAB_DROP_LAST counts it. -/
def Panel.dropPacket (p : Panel) (s : Nat) (h : PacketHead) (code : Nat) (counter : Fld) : Panel :=
  ((p.loseMessage h).tally s counter 1).raise s code

/-- A head flit at the front of an input's class. -/
def Panel.headHop (p : Panel) (s i c : Nat) (h : PacketHead) : Panel :=
  let go (p : Panel) (out : Nat) : Panel :=
    (p.modRouter s fun r => r.setOpen i c (if h.len = 0 then none else some ⟨out, h, 1, h.len⟩)).popFlit s i c
  match p.headFault s h with
  | some (code, counter) => go (p.dropPacket s h code counter) outNowhere
  | none =>
    match p.target s i c with
    | none => p
    | some out =>
      if !p.serves s out i c then p
      else
        let p := p.hasServed s out i c
        go (if out = outLocal then p else p.sendUnit s out c (headFlit { h with hops := h.hops + 1 })) out

/-- A packet under way loses the output that its head took: the edge is down, or the bundle out of use (R310). -/
def Panel.outLost (p : Panel) (s : Nat) (o : OpenPacket) : Bool :=
  o.out < 64 && (p.edgeDown s (o.out / 16) || p.azState s o.out = azBad || p.azState s o.out = azCut)

/-- A data flit at the front of an input's class: it follows its head (R303), or is discarded with what is left of its packet. -/
def Panel.bodyHop (p : Panel) (s i c : Nat) (o : OpenPacket) (f : Flit) : Panel :=
  if p.outLost s o then
    ((p.dropPacket s o.head 0x0904 Csr.FAB_DROP_LAST_DOWN).passFlit s i c { o with out := outNowhere }).popFlit s i c
  else if outNowhere ≤ o.out then (p.passFlit s i c o).popFlit s i c
  else
    match p.target s i c with
    | none => p
    | some out =>
      if !p.serves s out i c then p
      else
        let p := p.hasServed s out i c
        ((if out = outLocal then p else p.sendUnit s out c f).passFlit s i c o).popFlit s i c

/-- A TRUNC that is due on the output of a truncated packet leaves, once the replay buffer has room (R325, R333). -/
def Panel.passTrunc (p : Panel) (s i c : Nat) (o : OpenPacket) : Panel :=
  let done (p : Panel) : Panel := p.modRouter s fun r => r.setOpen i c none
  if ownInput ≤ o.out || p.outLost s o then done p
  else if p.azState s o.out = azUp && (p.bundle s o.out).replay.length < 32 then
    done (p.sendReplayable s o.out azTruncKind 0 0 c)
  else p

/-- The die puts the oldest message of a class that it sources onto its router, one at a time; a reined class of the sources that
reining holds back waits (R299, R307, R311). -/
def Panel.inject (p : Panel) (s c : Nat) : Panel :=
  let r := p.router s
  if !(r.queue ownInput c).isEmpty || (r.open_ ownInput c).isSome then p
  else
    match (p.net.diff p.injected).find? fun m => match p.msgPackets m with
      | x :: _ => x.1.src = s && x.1.cls = c && !(reinedType x.1.type && p.reined s c)
      | [] => false with
    | none => p
    | some m => { p.modRouter s fun r => r.setQueue ownInput c (packetFlits (p.msgPackets m)) with injected := p.injected ++ [m] }

/-- The first flit of an input's class takes its hop when its turn has come. A flit that belongs to no packet is discarded. -/
def Panel.packetHop (p : Panel) (s i c : Nat) : Panel :=
  if !p.routes s || ownInput < i || 5 < c then p
  else
    let p := if i = ownInput then p.inject s c else p
    let p := match (p.router s).open_ i c, (p.router s).queue i c with
      | some o, q => if o.left = 0 then p.passTrunc s i c o else
          match q with
          | f :: _ => p.bodyHop s i c o f.flit
          | [] => p
      | none, f :: _ => if f.head then p.headHop s i c (parseHead f.flit.data) else p.popFlit s i c
      | none, [] => p
    p.showQueues s

/-- PACKET_HOP (R302): the first flit that waits at a class of an input of a router: a bundle 0–63, or 64, the die's own. -/
def execPacketHop (site input cls : Nat) (s : State) : Host.Outcome State Fault Refusal :=
  .next (s.quiet fun p => p.packetHop site input cls)

/-- REIN_ALARM (R311): a class was reined for a number of die cycles; P2 past REIN_ALARM in the stroke raises 0x0908. -/
def execReinAlarm (site cls cycles : Nat) (s : State) : Host.Outcome State Fault Refusal :=
  .next (s.quiet fun p =>
    let f := Csr.FAB_REIN_LAST cls
    let before := p.tallyOf site f
    let p := p.tally site f cycles
    let limit := p.field site Csr.FAB_CTRL_REIN_ALARM
    p.raiseIf (cls = 2 && before ≤ limit && limit < p.tallyOf site f) site 0x0908)

/-! ### Flits that arrive and packets that end early (R302, R333) -/

/-- A flit joins a class of a packet bundle's input: a head, when no data flit is due, brings LEN of them (R299). -/
def Panel.queueFlit (p : Panel) (s b c : Nat) (f : Flit) : Panel :=
  (p.modRouter s fun r =>
    let n := r.due b c
    (r.setQueue b c (r.queue b c ++ [⟨n = 0, f⟩])).setDue b c (if n = 0 then (parseHead f.data).len else n - 1)).showQueues s

/-- The flits of the last packet of a list that begins with a head, and those before it. -/
def splitLast (l : List QueuedFlit) : List QueuedFlit × List QueuedFlit :=
  let tail := (l.reverse.takeWhile fun q => !q.head).length + 1
  (l.take (l.length - tail), l.drop (l.length - tail))

/-- Credits of a class go back for discarded flits. -/
def Panel.returnCredits (p : Panel) (s b c n : Nat) : Panel := p.each (List.range n) fun p _ => p.returnCredit s b c

/-- The packet that has not wholly arrived on a class of a bundle ends here (R333): its flits are discarded, and a TRUNC goes on by
the output that its head took. A cut ends a packet under way whether or not it has wholly arrived. -/
def Panel.truncate (p : Panel) (s b c : Nat) (cut : Bool) : Panel :=
  let r := p.router s
  let q := r.queue b c
  let body := q.takeWhile fun x => !x.head
  let rest := q.dropWhile fun x => !x.head
  let p := p.modRouter s fun r => r.setDue b c 0
  let p := match r.open_ b c with
    | some o =>
      if 0 < o.left && (cut || body.length < o.left) then
        let o := { o with left := 0 }
        let p := (p.loseMessage o.head).modRouter s fun r => (r.setQueue b c rest).setOpen b c (some o)
        (p.returnCredits s b c body.length).passTrunc s b c o
      else p
    | none => p
  let p :=
    if r.due b c = 0 || rest.isEmpty then p
    else
      let (kept, lost) := splitLast rest
      let p := match lost with
        | h :: _ => p.loseMessage (parseHead h.flit.data)
        | [] => p
      (p.modRouter s fun r => r.setQueue b c (((r.queue b c).takeWhile fun x => !x.head) ++ kept)).returnCredits s b c lost.length
  p.showQueues s

end Sys2Proof.Machine
end

