-- ==== Sys2Proof/Machine/Fabric.lean ====
section
/-! DEFINITION. The packet fabric above its routers: the broadcast tree (R316), epochs and routing tables (R306–R309), traces
(R312–R315) and the firmware broadcast (R316, R317). -/

namespace Sys2Proof.Machine

/-! ### The broadcast tree (R316) -/

/-- The edges by which a die forwards along the tree: its children, but for one beyond an edge that is down or tied. -/
def Panel.treeEdges (p : Panel) (s : Nat) : List Nat :=
  if p.isSet s Csr.FAB_BTREE_VALID then
    (List.range (faceCount s)).filter fun e => bitOf (p.field s Csr.FAB_BTREE_CHILD) e && !p.edgeDown s e && !p.edgeTied s e
  else []

/-- The bundle of an edge that the tree uses: the lowest-numbered packet-rigged one that is up. -/
def Panel.treeBundle (p : Panel) (s e : Nat) : Option Nat := (p.packetBundles s e).find? fun b => p.azState s b = azUp

/-- Every child of a die holds credits of a class for `n` flits, so that the die may forward them (R316). -/
def Panel.treeReady (p : Panel) (s cls n : Nat) : Bool :=
  (p.treeEdges s).all fun e => match p.treeBundle s e with
    | some b => (p.bundle s b).inUse cls + n ≤ p.depth s b cls && (p.bundle s b).replay.length + n ≤ 32
    | none => false

/-- A packet goes from a die to each of its children, named as its destination, and its message with it. -/
def Panel.treeSend (p : Panel) (s : Nat) (h : PacketHead) (units : List Flit) (msg : Nat → NetMsg) : Panel :=
  p.each (p.treeEdges s) fun p e =>
    let child := (facing s e).1
    let flits := headFlit { h with dst := child, epoch := p.field s Csr.FAB_STATUS_EPOCH } :: units
    let p := match p.treeBundle s e with
      | some b => p.each flits fun p f => p.sendUnit s b h.cls f
      | none => p
    p.send (msg child)

/-- The header of a packet that goes along the tree. -/
def treeHead (p : Panel) (type len addr imm : Nat) : PacketHead :=
  { type := type, cls := (typeClass type).getD 0, src := p.primary, len := len, addr := addr, imm := imm }

/-! ### Epochs (R307–R309) -/

/-- A die belongs to a region that is tied off: it takes no part in drain reports (R403). -/
def Panel.tiedDie (p : Panel) (s : Nat) : Bool :=
  allRegions.any fun r => let st := p.field sitePD (Csr.FRM_R_STATE_STATE r); 1 ≤ st && st ≤ 3 && (p.region r).sites.contains s

/-- The dies with a usable router, and those whose drain report a flip awaits (R309, R403). -/
def Panel.routerDies (p : Panel) : List Nat := allSites.filter p.logicGood
def Panel.drainDies (p : Panel) : List Nat := p.routerDies.filter fun s => !p.tiedDie s

/-- A die takes an injection epoch; its other version is then busy until the drain notice (R308, R309). -/
def Panel.takeEpoch (p : Panel) (site version : Nat) : Panel :=
  let p := p.setField site Csr.FAB_STATUS_EPOCH version
  { p with fabric := { p.fabric with notIdle := (p.fabric.notIdle.filter (· ≠ site)) ++ [site] } }

/-- An EPOCH message goes on from a die to its children at P0 (R309, R316). -/
def Panel.forwardEpoch (p : Panel) (s v : Nat) : Panel := p.treeSend s (treeHead p 5 0 0 (openImm 5 v)) [] (.epoch · v)
def Panel.forwardDrain (p : Panel) (s : Nat) : Panel := p.treeSend s (treeHead p 5 0 0 (openImm 5 2)) [] .drained

/-- The acting primary die's own message: it goes to its children at once, or waits for their credits. -/
def Panel.rootSend (p : Panel) (waits : NetMsg) (f : Panel → Panel) : Panel :=
  if p.treeReady p.primary 0 1 then f p else p.send waits

/-- A flip starts (R309). -/
def Panel.flipRoutes (p : Panel) : Panel :=
  if p.isSet p.primary Csr.FAB_STATUS_FLIPPING then p
  else
    let v := (p.field p.primary Csr.FAB_STATUS_EPOCH + 1) % 2
    let p := (p.setFlag p.primary Csr.FAB_STATUS_FLIPPING true).setFlag p.primary Csr.FAB_STATUS_OLD_DRAINED false
    let p := { p with fabric := { p.fabric with drainedBy := [] } }
    (p.takeEpoch p.primary v).rootSend (.epoch p.primary v) fun p => p.forwardEpoch p.primary v

/-- A version of a die's routing table is idle (R308). -/
def Panel.versionIdle (p : Panel) (site v : Nat) : Bool :=
  p.field site Csr.FAB_STATUS_EPOCH ≠ v && !p.fabric.notIdle.contains site

/-- PD writes the idle version to route around lost dies and flips (R444), unless a flip or a lock-up is in progress, when it
waits. The idle version takes the routes in force; each output that leads into a lost die takes a value that the spec leaves
to PD (a free value). -/
def Panel.reroute (p : Panel) : Panel :=
  if p.fabric.avoid.isEmpty || p.isSet p.primary Csr.FAB_STATUS_FLIPPING || p.isSet sitePD Csr.FRM_STATUS_BUSY then p
  else
    let v := p.field p.primary Csr.FAB_STATUS_EPOCH
    let p := p.each p.routerDies fun p s => p.each allSites fun p d =>
      let code := p.routeCode s d v
      let (code, p) := if code < faceCount s && p.fabric.avoid.contains (facing s code).1 then p.draw 444 4 else (code, p)
      p.setField s (Csr.FAB_RT d) (putBits (p.field s (Csr.FAB_RT d)) (4 * ((v + 1) % 2)) 4 code)
    ({ p with fabric := { p.fabric with avoid := [] } } : Panel).flipRoutes

/-- FAB_CTRL.FLIP is written on the acting primary die (R309); during a lock-up the write is refused with 0x0110 (R388). -/
def Panel.askFlip (p : Panel) : Panel :=
  if p.isSet p.primary Csr.FRM_STATUS_BUSY then p.raise p.primary 0x0110 else p.flipRoutes

/-- FAB_FLIP (R309). -/
def execFabFlip (s : State) : Host.Outcome State Fault Refusal := .next (s.quiet fun p => p.askFlip)

/-- EPOCH_FLIP_MSG (R309): a die takes the epoch and forwards the message, once every child holds a credit. -/
def execEpochFlipMsg (site version : Nat) (s : State) : Host.Outcome State Fault Refusal :=
  .next (s.quiet fun p =>
    if !p.routes site || !p.treeReady site 0 1 then p
    else
      let p := p.arrive (.epoch site version)
      let p := if p.field site Csr.FAB_STATUS_EPOCH = version % 2 then p else p.takeEpoch site (version % 2)
      p.forwardEpoch site (version % 2))

/-- A router holds no flit of another epoch than its die's injection epoch (R309). -/
def Panel.holdsNoOld (p : Panel) (s : Nat) : Bool :=
  let r := p.router s
  let e := p.field s Csr.FAB_STATUS_EPOCH
  (r.queues.all fun x => x.2.all fun q => !q.head || (parseHead q.flit.data).epoch = e)
    && r.sending.all fun x => match x.2 with
      | some o => o.head.epoch = e
      | none => true

/-- A report that a router is drained reaches the acting primary die, from a die that has taken the new epoch: when every usable die
has reported, PD sets OLD_DRAINED and sends the drain notice along the tree (R309). -/
def Panel.routerDrained (p : Panel) (site : Nat) : Panel :=
  if !p.isSet p.primary Csr.FAB_STATUS_FLIPPING
      || p.field site Csr.FAB_STATUS_EPOCH ≠ p.field p.primary Csr.FAB_STATUS_EPOCH || !p.holdsNoOld site then p
  else
    let by_ := (p.fabric.drainedBy.filter (· ≠ site)) ++ [site]
    let p := { p with fabric := { p.fabric with drainedBy := by_ } }
    if p.drainDies.all by_.contains then
      let p := (p.setFlag p.primary Csr.FAB_STATUS_FLIPPING false).setFlag p.primary Csr.FAB_STATUS_OLD_DRAINED true
      let p := { p with fabric := { p.fabric with drainedBy := [], notIdle := p.fabric.notIdle.filter (· ≠ p.primary) } }
      (p.rootSend (.drained p.primary) fun p => p.forwardDrain p.primary).reroute
    else p

/-- ROUTER_DRAIN_REPORT (R309). -/
def execRouterDrainReport (site : Nat) (s : State) : Host.Outcome State Fault Refusal :=
  .next (s.quiet fun p => p.routerDrained site)

/-- DRAIN_NOTICE (R309): a die takes the notice and forwards it, once every child holds a credit. -/
def execDrainNotice (site : Nat) (s : State) : Host.Outcome State Fault Refusal :=
  .next (s.quiet fun p =>
    if !p.routes site || !p.treeReady site 0 1 then p
    else
      let p := p.arrive (.drained site)
      ({ p with fabric := { p.fabric with notIdle := p.fabric.notIdle.filter (· ≠ site) } } : Panel).forwardDrain site)

/-- An entry of a routing table is written (R308): the half of the byte that belongs to a version that is not idle keeps its
value, and an attempt to change it raises 0x090B. -/
def Panel.writeRoute (p : Panel) (site dst value : Nat) : Panel :=
  if siteCount ≤ dst then p
  else
    let old := p.field site (Csr.FAB_RT dst)
    let pick (v : Nat) : Nat := bitsOf (if p.versionIdle site v then value else old) (4 * v) 4
    let refused := (List.range 2).any fun v => !p.versionIdle site v && bitsOf value (4 * v) 4 ≠ bitsOf old (4 * v) 4
    let p := p.setField site (Csr.FAB_RT dst) (pick 0 + 16 * pick 1)
    p.raiseIf refused site 0x090B

/-- FAB_RT_WRITE (R308). -/
def execFabRtWrite (site dst value : Nat) (s : State) : Host.Outcome State Fault Refusal :=
  .next (s.quiet fun p => p.writeRoute site dst value)

/-! ### Traces (R312–R315) -/

/-- A flit of a trace packet that is due at a die on a bundle (64 at the trace's source): header, index in its packet, flit, and the
GREAD that ends with it. -/
structure DueFlit where
  head : PacketHead
  index : Nat
  flit : Flit
  done : Option GalKey
deriving DecidableEq, Repr

/-- The oldest flit of a trace that is due at a die on a bundle. -/
def Panel.dueFlit (p : Panel) (site bundle trace : Nat) : Option DueFlit :=
  p.net.findSome? fun m => match m with
    | .traceFlit s b h i f d => if s = site && b = bundle && h.trace = trace then some ⟨h, i, f, d⟩ else none
    | _ => none

/-- A die's valid entry for a trace names a bundle as IN; at the source, where `bundle` is 64, IN is 0x3F (R312). -/
def Panel.traceNames (p : Panel) (site bundle trace : Nat) : Bool :=
  trace ≠ 0 && p.isSet site (Csr.FAB_TRACE_VALID trace)
    && (if bundle = ownInput then p.field site (Csr.FAB_TRACE_IN trace) = 0x3F
        else bundle ≠ 0x3F && p.field site (Csr.FAB_TRACE_IN trace) = bundle)

/-- The bundles on which a trace leaves a die, and the clusters into which it lands there. -/
def Panel.traceOuts (p : Panel) (site trace : Nat) : List Nat :=
  (if p.isSet site (Csr.FAB_TRACE_OUT0_V trace) then [p.field site (Csr.FAB_TRACE_OUT0 trace)] else [])
    ++ if p.isSet site (Csr.FAB_TRACE_OUT1_V trace) then [p.field site (Csr.FAB_TRACE_OUT1 trace)] else []
def Panel.traceClusters (p : Panel) (site trace : Nat) : List Nat :=
  (List.range 4).filter fun c => bitOf (p.field site (Csr.FAB_TRACE_DELIVER trace)) c

/-- A flit of a trace may advance: every OUT bundle has a credit, and every DELIVER cluster can accept it (R314). -/
def Panel.traceReady (p : Panel) (site trace : Nat) : Bool :=
  ((p.traceOuts site trace).all fun b => p.azState site b = azUp && p.hasCredit site b 6)
    && (p.traceClusters site trace).all fun c => !(p.domain site c).filling

/-- A data flit with the bits of its data and its CRC that a mask inverts. -/
def noisyFlit (noise : Nat) (f : Flit) : Flit :=
  ⟨noisyRow noise f.data, if sideCrcV f.side then Nat.xor f.side (2 ^ 16 * bitsOf noise 512 16) else f.side⟩

/-- A data flit's row as it lands: with a CRC that fails it is foxed (R262, R279). `addr` is the address of its row. -/
def flitFails (f : Flit) (addr : Nat) : Bool := sideCrcV f.side && sideCrc f.side ≠ rowCrc addr f.data
def landedFlit (f : Flit) (addr : Nat) : Delivered := let d := flitRow f; ⟨d.data, d.fox || flitFails f addr⟩

/-- A trace packet's flit lands: the rows of its packet go to each DELIVER cluster with the last one (R252, R314). -/
def Panel.traceLand (p : Panel) (site : Nat) (d : DueFlit) : Panel :=
  let h := d.head
  let cs := p.traceClusters site h.trace
  let k := site * 256 + h.trace
  let hold (p : Panel) (l : List Delivered) : Panel :=
    { p with fabric := { p.fabric with landingTraces := SMap.set (fun _ => []) p.fabric.landingTraces k l } }
  if cs.isEmpty then p
  else if d.index = 0 then hold p []
  else
    let a := h.imm + 64 * (d.index - 1)
    let p := if flitFails d.flit a then p.raiseFor site 0x0810 p.galSev (p.regionOf site) 0 h.src else p
    let rows := SMap.get (fun _ => []) p.fabric.landingTraces k ++ [landedFlit d.flit a]
    if d.index < h.len then hold p rows
    else (hold p []).each cs fun p c => p.landPacket h.src h.srcCluster site c h.addr rows

/-- A trace flit advances at a die (R314): a copy leaves on each OUT bundle, it lands in the DELIVER clusters, its credit goes back,
and with the last flit of a GREAD at its source the completion goes to the issuer (R315). -/
def Panel.traceStep (p : Panel) (site bundle : Nat) (d : DueFlit) (noise : Nat) : Panel :=
  let p := p.arrive (.traceFlit site bundle d.head d.index d.flit d.done)
  let d := if d.index = 0 then d else { d with flit := noisyFlit noise d.flit }
  let p := p.each (p.traceOuts site d.head.trace) fun p b =>
    let (far, fb) := farBundle site b
    (p.sendUnit site b 6 d.flit).send (.traceFlit far fb d.head d.index d.flit none)
  let p := p.traceLand site d
  let p := if bundle < ownInput then p.returnCredit site bundle 6 else p
  match d.done with
  | some k => p.send (.gtrDone k)
  | none => p

/-- TRACE_FLIT (R314): the oldest flit of a trace that is due at a die on a bundle, 64 at its source. `noise` names the bits of a data
flit that the die inverts: data bits 511–0, then the CRC. On a bundle that no valid entry names it is discarded with 0x090A for the
trace's region. -/
def execTraceFlit (site bundle trace noise : Nat) (s : State) : Host.Outcome State Fault Refusal :=
  .next (s.store fun _ p =>
    match p.dueFlit site bundle trace with
    | none => p
    | some d =>
      if !p.routes site then p
      else if !p.traceNames site bundle trace then
        let p := p.arrive (.traceFlit site bundle d.head d.index d.flit d.done)
        let p := p.raiseFor site 0x090A (severityOf 0x090A) (some d.head.region) 0 trace
        if bundle < ownInput then p.returnCredit site bundle 6 else p
      else if p.traceReady site trace then p.traceStep site bundle d (noise % 2 ^ 528)
      else p)

/-- TRACE_CREDIT_TIMEOUT (R314): region-abort for the trace's region. -/
def execTraceCreditTimeout (site trace : Nat) (s : State) : Host.Outcome State Fault Refusal :=
  .next (s.quiet fun p =>
    p.raiseFor site 0x0909 (severityOf 0x0909) (some (p.field site (Csr.FAB_TRACE_REGION trace))) 0 trace)

/-! ### The firmware broadcast (R316, R317) -/

/-- The running CRC-32C of a die's broadcast before the final inversion. -/
def Panel.bcastCrc (p : Panel) (s : Nat) : Nat := SMap.get (fun _ => 0xFFFFFFFF) p.fabric.bcastCrc s
def Panel.setBcastCrc (p : Panel) (s v : Nat) : Panel :=
  { p with fabric := { p.fabric with bcastCrc := SMap.set (fun _ => 0xFFFFFFFF) p.fabric.bcastCrc s v } }

/-- Words written one after another into a die's CSR window. -/
def Panel.writeWindow (p : Panel) (s off : Nat) (data : List Byte) : Panel :=
  p.each (List.range (data.length / 4)) fun p i => p.csrWrite s (off + 4 * i) (BitVec.ofNat 32 (leAt data (4 * i) 4))

/-- A flit of the image is written into a die's CSR window, and into its CRC (R316, R317). -/
def Panel.bcastTake (p : Panel) (site off : Nat) (data : List Byte) : Panel :=
  let c := data.foldl (fun c b => crcStep32 0x82F63B78 8 (Nat.xor c b.toNat)) (p.bcastCrc site)
  (p.setBcastCrc site c).writeWindow site off data

/-- The image that the acting primary die broadcasts: it keeps it for the unicast resends; a first flit begins a new one. -/
def Panel.keepImage (p : Panel) (site off : Nat) (data : List Byte) : Panel :=
  if site ≠ p.primary then p
  else
    let old := if p.fabric.bcastEnded.isSome then [] else p.fabric.bcastImage
    { p with fabric := { p.fabric with bcastImage := old ++ [(off, data)], bcastEnded := none } }

/-- A die takes part in broadcasts as a receiver. -/
def Panel.bcastLocal (p : Panel) (site : Nat) : Bool := p.isSet site Csr.FAB_BTREE_VALID && p.isSet site Csr.FAB_BTREE_LOCAL

/-- BCAST (R316, R317): a flit of a broadcast at a die, or of a unicast resend to it. A die forwards a broadcast to its children, once
every one of them holds the credits, and when it delivers, writes it into its CSR window. -/
def execBcast (site off : Nat) (data : List Byte) (s : State) : Host.Outcome State Fault Refusal :=
  .next (s.quiet fun p =>
    if !p.routes site then p
    else if p.net.contains (.bcastAgain site off data) then (p.arrive (.bcastAgain site off data)).bcastTake site off data
    else if !p.treeReady site 5 2 then p
    else
      let p := (p.arrive (.bcast site off data)).keepImage site off data
      let units := (byteRows data).map fun d => plainUnit d none 0
      let p := p.treeSend site (treeHead p 0x2B units.length off 0) units (.bcast · off data)
      if p.bcastLocal site then p.bcastTake site off data else p)

/-- A die compares the image's CRC with its own, reports over tack, and begins anew (R317). -/
def Panel.bcastCheck (p : Panel) (site crc : Nat) : Panel :=
  let ok := Nat.xor (p.bcastCrc site) 0xFFFFFFFF = crc
  (p.setBcastCrc site 0xFFFFFFFF).sendControl site p.primary (.bcastResult site ok)

/-- BCAST_END (R317): the end of a broadcast at a die, or of a unicast resend to it. -/
def execBcastEnd (site crc : Nat) (s : State) : Host.Outcome State Fault Refusal :=
  .next (s.quiet fun p =>
    if !p.routes site then p
    else if p.net.contains (.bcastEndAgain site crc) then (p.arrive (.bcastEndAgain site crc)).bcastCheck site crc
    else if !p.treeReady site 5 1 then p
    else
      let p := p.arrive (.bcastEnd site crc)
      let p := if site = p.primary then { p with fabric := { p.fabric with bcastEnded := some crc } } else p
      let p := p.treeSend site (treeHead p 0x2C 0 0 (crc % 2 ^ 32)) [] (.bcastEnd · crc)
      if p.bcastLocal site then p.bcastCheck site crc else p)

/-- The image goes to a die by unicast (R317). -/
def Panel.resendImage (p : Panel) (site : Nat) : Panel :=
  let p := p.each p.fabric.bcastImage fun p x => p.send (.bcastAgain site x.1 x.2)
  match p.fabric.bcastEnded with
  | some crc => p.send (.bcastEndAgain site crc)
  | none => p

/-- A die's result of the broadcast (R317): a failure raises 0x090C and the image is sent again by unicast; after the third resend the
die is unusable for this boot, and PD merges again. -/
def Panel.bcastVerified (p : Panel) (site : Nat) (ok : Bool) : Panel :=
  let tries := SMap.get (fun _ => 0) p.fabric.bcastTries site
  let set (n : Nat) (p : Panel) : Panel :=
    { p with fabric := { p.fabric with bcastTries := SMap.set (fun _ => 0) p.fabric.bcastTries site n } }
  if ok then set 0 p
  else
    let p := p.raise p.primary 0x090C
    if tries < 3 then (set (tries + 1) p).resendImage site
    else
      let p := set 0 p
      (p.modPlan fun q => { q with bootBad := q.bootBad ++ [(site, 1)] }).merge 0

end Sys2Proof.Machine
end

