-- ==== Sys2Proof/Machine/Azrolane.lean ====
section
/-! DEFINITION. Azrolane: what a die does with the frames that reach its bundle ends (R318–R326), retraining (R326), the
test channel and negotiation (R327–R330, R335), ties, cuts and rejoins (R331–R334). -/

namespace Sys2Proof.Machine

/-! ### Frames (R321–R325) -/

/-- The face of a bundle of a die. -/
def faceOf (b : Nat) : Nat := b / 16

/-- The receiving end looks at frames: its die's logic works, its edge is not cut, and the bundle is up or tied. -/
def Panel.listens (p : Panel) (s b : Nat) : Bool :=
  p.routes s && !p.edgeCut s (faceOf b) && (p.azState s b = azUp || p.azState s b = azTied)

/-- Every frame that passes its CRC shows that the edge lives (R332). -/
def Panel.sawFrame (p : Panel) (f : AzFrame) : Panel :=
  let t := p.dieStamp f.site
  p.modBundle f.site f.bundle fun x =>
    { x with goodAt := t, liveAt := if x.live = f.live then x.liveAt else t, live := f.live }

/-- What a frame's link control brings (R321, R324, R325, R331): ACK frees replay entries, CVC and CCNT return credits, and more of
either than was outstanding is discarded with 0x0A0A; a peer that sends other frames than TIE is not tied. -/
def Panel.goodFrame (p : Panel) (f : AzFrame) : Panel :=
  let x := p.bundle f.site f.bundle
  let freed := (f.ack + 512 - x.txAck) % 512
  let ackOk := freed ≤ x.replay.length
  let credOk := 7 ≤ f.cvc || f.kind = azTruncKind || f.ccnt ≤ x.inUse f.cvc
  let p := p.modBundle f.site f.bundle fun x =>
    let x := { x with discarding := false }
    let x := if ackOk then { x with replay := x.replay.drop freed, txAck := f.ack } else x
    if credOk && f.cvc < 7 && f.kind ≠ azTruncKind then { x with used := SMap.set (fun _ => 0) x.used f.cvc (x.inUse f.cvc - f.ccnt) } else x
  let p := if p.azState f.site f.bundle = azTied && f.kind ≠ azTieKind then p.setField f.site (Csr.AZL_BUNDLE_STATE f.bundle) azUp else p
  p.raiseIf (!ackOk || !credOk) f.site 0x0A0A

/-- A frame is in its place: a replayable one follows the last one received; any other follows it too while the end discards frames
until the replay arrives (R321, R325; notes/assumptions/147.md). -/
def BundleEnd.inPlace (x : BundleEnd) (f : AzFrame) : Bool :=
  if replays f.kind then f.seq = (x.rxSeq + 1) % 512 else !x.discarding || f.seq = x.rxSeq

/-- The receive buffer of a unit: its class's on a packet bundle, else the mesh or trace buffer. -/
def Panel.bufferOf (p : Panel) (s b cls : Nat) : Nat := if p.rigRole s b = 2 then cls else 6

/-- An intact frame of a kind at a bundle end: a tied end discards it (R331), a frame out of its place is discarded (R325), and else
it acts. -/
def Panel.receive (p : Panel) (f : AzFrame) (kind cls : Nat) (act : Panel → Panel) : Panel :=
  if f.kind ≠ kind || !f.intact || !p.listens f.site f.bundle then p
  else
    let p := p.sawFrame f
    let placed := (p.bundle f.site f.bundle).inPlace f
    let unit := kind = azDataKind || kind = azKaKind
    let taken (p : Panel) : Panel := if replays kind then p.ackFrame f.site f.bundle else p
    if p.edgeTied f.site (faceOf f.bundle) then
      let p := if placed then taken p else p
      p.tiedFrame f.site f.bundle (if unit && placed then some (p.bufferOf f.site f.bundle cls) else none)
    else if !placed then p
    else act (taken (p.goodFrame f))

/-- A flit of a trace comes in on a bundle: it is one of those that the sender's side has put there, or else joins them. -/
def Panel.traceIn (p : Panel) (s b : Nat) (f : Flit) : Panel :=
  let x := p.bundle s b
  let due := (p.net.filter fun m => match m with
    | .traceFlit s' b' _ _ _ _ => s' = s && b' = b
    | _ => false).length
  let (h, i) := x.tracing.getD (parseHead f.data, 0)
  let p := p.modBundle s b fun x => { x with tracing := if i < h.len then some (h, i + 1) else none, arrived := x.arrived + 1 }
  if x.arrived < due then p else p.send (.traceFlit s b h i f none)

/-- A unit is delivered to its buffer (R322): a router's input, a crossing's elastic buffer or a trace; a spare bundle has none. -/
def Panel.deliverUnit (p : Panel) (s b cls : Nat) (ka : Bool) (f : Flit) : Panel :=
  match p.rigRole s b with
  | 1 =>
    let w := wordOf ka f
    let p := match p.wire s b with
      | v :: vs => if v = w then p.setWire s b vs else p
      | [] => p
    p.landWord s b w
  | 2 => p.queueFlit s b cls f
  | 3 => p.traceIn s b f
  | _ => p

/-- A frame fails its CRC, or is of the reserved kind (R322, R325): it is counted, it and every later one is discarded until the
replay, and NAK carries the last good SEQ. -/
def Panel.crcFailed (p : Panel) (f : AzFrame) : Panel :=
  if f.intact || !p.listens f.site f.bundle then p
  else if p.edgeTied f.site (faceOf f.bundle) then p.tiedFrame f.site f.bundle none
  else
    let limit := p.field f.site Csr.AZL_ERR_LIMIT
    let before := p.tallyOf f.site (Csr.AZL_BERR_CRC f.bundle)
    let p := p.tally f.site (Csr.AZL_BERR_CRC f.bundle) 1
    let p := (p.modBundle f.site f.bundle fun x => { x with discarding := true }).sendControlFrame f.site f.bundle azNakKind
    p.raiseIf (before ≤ limit && limit < p.tallyOf f.site (Csr.AZL_BERR_CRC f.bundle)) f.site 0x0A01

/-! ### Training (R329, R330) -/

/-- A bundle end after training: SEQ and ACK at 511, the replay buffer empty, every credit free (R330 step 6). -/
def Panel.freshBundle (p : Panel) (s b : Nat) : Panel :=
  let t := p.dieStamp s
  p.modBundle s b fun x => { goodAt := t, liveAt := t, live := x.live, retrainAt := x.retrainAt }

/-- A unit of a die is bad for this boot (R76, R77, R317, R326, R497). -/
def Panel.badThisBoot (p : Panel) (s u : Nat) : Panel :=
  if p.plan.bootBad.contains (s, u) then p
  else p.modPlan fun q => { q with bootBad := q.bootBad ++ [(s, u)],
                                   unit := SMap.set (fun _ => .good) q.unit (unitKey s u) .bad }

/-- The wires of a direction that fail and are not on the repair wire already. -/
def newWires (repaired : Bool) (wire : Nat) (failed : List Nat) : List Nat :=
  distinct (failed.filter fun w => !(repaired && w = wire))

/-- Step 4 of training (R330): a failed wire in a direction goes to its repair wire with 0x0A04, and a second one, at once or after a
repair, makes the bundle bad with 0x0E0E. -/
def Panel.repairWires (p : Panel) (s b : Nat) (tx rx : List Nat) : Panel :=
  let txV := p.isSet s (Csr.AZL_BUNDLE_REPAIR_TX_V b)
  let rxV := p.isSet s (Csr.AZL_BUNDLE_REPAIR_RX_V b)
  let tx := newWires txV (p.field s (Csr.AZL_BUNDLE_REPAIR_TX b)) tx
  let rx := newWires rxV (p.field s (Csr.AZL_BUNDLE_REPAIR_RX b)) rx
  if 2 ≤ tx.length + flag txV && !tx.isEmpty || 2 ≤ rx.length + flag rxV && !rx.isEmpty then
    ((p.setField s (Csr.AZL_BUNDLE_STATE b) azBad).badThisBoot s (64 + b)).raise s 0x0E0E
  else
    let p := match tx with
      | w :: _ => (p.setField s (Csr.AZL_BUNDLE_REPAIR_TX b) w).setFlag s (Csr.AZL_BUNDLE_REPAIR_TX_V b) true
      | [] => p
    let p := match rx with
      | w :: _ => (p.setField s (Csr.AZL_BUNDLE_REPAIR_RX b) w).setFlag s (Csr.AZL_BUNDLE_REPAIR_RX_V b) true
      | [] => p
    p.raiseIf (!tx.isEmpty || !rx.isEmpty) s 0x0A04

/-- Training of a bundle end, with the wires that fail in the transmit and the receive direction (R330 steps 3 to 6); a bad bundle
stays bad. -/
def Panel.trainBundle (p : Panel) (s b : Nat) (tx rx : List Nat) : Panel :=
  if p.azState s b = azBad || p.unitState s (64 + b) = .bad then p.setField s (Csr.AZL_BUNDLE_STATE b) azBad
  else
    let p := p.repairWires s b tx rx
    if p.azState s b = azBad then p
    else
      let p := (p.freshBundle s b).setField s (Csr.AZL_BUNDLE_ROLE b) (p.rigRole s b)
      (p.setField s (Csr.AZL_BUNDLE_STATE b) (if p.edgeTied s (faceOf b) then azTied else azUp)).tellPeer s b

/-- The bundles of a face. -/
def faceBundles (e : Nat) : List Nat := (List.range 16).map fun b => 16 * e + b

/-- The registered latency of a crossing in die cycles (R75). -/
def Panel.latency (p : Panel) (s b : Nat) : Nat := if p.isSet s (Csr.AZL_BUNDLE_PROFILE b) then 12 else 18

/-- Registration of a mesh crossing with a measured raw latency (R76): a bundle that fails is bad for this boot, with
0x0304. The measured value goes to CLK_XING of the edge. -/
def Panel.registerBundle (p : Panel) (s b raw : Nat) : Panel :=
  let p := p.modClock s fun c => { c with raw := SMap.set (fun _ => 0) c.raw b raw }
  let e := b / 16
  let p := p.setField s (Csr.CLK_XING_LAT e) (p.latency s b)
  let p := p.setField s (Csr.CLK_XING_RAW e)
    (((faceBundles e).map fun x => min 31 (SMap.get (fun _ => 0) (p.clock s).raw x)).foldl max 0)
  if raw + 1 ≤ p.latency s b then p else (p.badThisBoot s (64 + b)).raise p.primary 0x0304

/-! ### Descriptors (R328, R329, R335) -/

/-- A capability descriptor's fields. -/
def descMaker (d : List Byte) : Nat := leAt d 0 2
def descProfiles (d : List Byte) : Nat := leAt d 6 1
def descVersion (d : List Byte) : Nat := leAt d 15 1

/-- Every bundle of an edge is unproven (R329, R39). -/
def Panel.untestedEdge (p : Panel) (s e : Nat) : Panel :=
  p.each (faceBundles e) fun p b =>
    if p.unitState s (64 + b) = .bad then p
    else p.modPlan fun q => { q with unit := SMap.set (fun _ => .good) q.unit (unitKey s (64 + b)) .unproven,
                                     verdict := SMap.set (fun _ => .good) q.verdict (unitKey s (64 + b)) .unproven }

/-- Whether a descriptor is a guest's (R335). -/
def isGuest (d : List Byte) : Bool := descMaker d ≠ 0x4C58 || descVersion d ≠ 1 || descProfiles d % 4 ≠ 3

/-- A descriptor fixes an edge's profile and roles (R329); a missing or invalid one, one with no common profile, or a
guest at a corner or compute site leaves the edge untested with 0x0A06. -/
def Panel.descriptor (p : Panel) (s e : Nat) (d : List Byte) (crcOk : Bool) : Panel :=
  let far := (facing s e).1
  let common := descProfiles d % 4
  let guest := isGuest d
  if !crcOk || d.length < 40 || common = 0 || (guest && !edgeDie far) then
    let p := p.setField s Csr.AZL_STATUS_PEER_OK (putBits (p.field s Csr.AZL_STATUS_PEER_OK) e 1 0)
    (p.untestedEdge s e).raise s 0x0A06
  else
    let p := p.setField s (Csr.AZL_CAP_PEER e) (leNat (d.take 32))
    let p := p.setField s Csr.AZL_STATUS_PEER_OK (putBits (p.field s Csr.AZL_STATUS_PEER_OK) e 1 1)
    let p := p.setField s Csr.AZL_STATUS_GUEST (putBits (p.field s Csr.AZL_STATUS_GUEST) e 1 (flag guest))
    let fast := 2 ≤ common
    let p := p.each (faceBundles e) fun p b => p.setFlag s (Csr.AZL_BUNDLE_PROFILE b) fast
    p.raiseIf (!fast) s 0x0A05

/-- The descriptor that a die sends over test channel (R328): its AZL_CAP_LOCAL, padded to 40 bytes. -/
def Panel.ownDescriptor (p : Panel) (s : Nat) : List Byte := leBytes 32 (p.field s Csr.AZL_CAP_LOCAL) ++ List.replicate 8 0

/-- A die sends its descriptor on an edge (R327, R328), in a frame of which the spec leaves SEQ open (a free value). -/
def Panel.sendDescriptor (p : Panel) (s e : Nat) : Panel :=
  let (seq, p) := p.draw 327 16
  p.emit (.tcFrame s e (tcBytes 1 0 seq (p.ownDescriptor s)))

/-- The two ends of an edge exchange their descriptors (R330 steps 1 and 2): a die whose logic has no power sends none. -/
def Panel.exchange (p : Panel) (s e : Nat) : Panel :=
  let f := facing s e
  let p := if p.lives s then p.sendDescriptor s e else p
  let p := if p.lives f.1 then p.sendDescriptor f.1 f.2 else p
  let p := if p.lives s then p.descriptor s e (if p.lives f.1 then p.ownDescriptor f.1 else []) (p.lives f.1) else p
  if p.lives f.1 then p.descriptor f.1 f.2 (if p.lives s then p.ownDescriptor s else []) (p.lives s) else p

/-! ### Retraining (R326) -/

/-- A bundle end begins to retrain. -/
def Panel.retrain (p : Panel) (s b : Nat) : Panel :=
  if p.azState s b = azCut || p.azState s b = azBad || !p.routes s then p
  else (p.count s (Csr.AZL_BUNDLE_RETRAINS b) 1).setField s (Csr.AZL_BUNDLE_STATE b) azTraining

/-- The region of the trace that a bundle of a die carries (R312). -/
def Panel.traceRegion (p : Panel) (s b : Nat) : Option Nat :=
  ((List.range 256).find? fun t => t ≠ 0 && p.isSet s (Csr.FAB_TRACE_VALID t)
    && (p.field s (Csr.FAB_TRACE_IN t) = b || (p.isSet s (Csr.FAB_TRACE_OUT0_V t) && p.field s (Csr.FAB_TRACE_OUT0 t) = b)
      || (p.isSet s (Csr.FAB_TRACE_OUT1_V t) && p.field s (Csr.FAB_TRACE_OUT1 t) = b))).map
    fun t => p.field s (Csr.FAB_TRACE_REGION t)

/-- A retrain in service is reported (R326): at region-abort for the region of a mesh or trace bundle, else at notice. -/
def Panel.retrainNote (p : Panel) (s b : Nat) : Panel :=
  match p.rigRole s b with
  | 1 => p.raise s 0x0A0C
  | 3 => p.raiseFor s 0x0A0C (severityOf 0x0A0C) (p.traceRegion s b) 0 b
  | _ => p.raise s 0x0A02

/-- A retrain ends (R326): the wires that failed are repaired, and a mesh bundle is registered again; a third failure within 1 s
makes the bundle bad for this boot with 0x0A03, and PD merges. -/
def Panel.retrained (p : Panel) (s b : Nat) (ok : Bool) (tx rx : List Nat) (raw : Nat) : Panel :=
  let role := p.rigRole s b
  let p := p.retrainNote s b
  if ok then
    let p := p.trainBundle s b tx rx
    if p.azState s b = azBad then p.merge 0
    else if role = 1 then
      let p := p.registerBundle s b raw
      if raw + 1 ≤ p.latency s b then p else (p.setField s (Csr.AZL_BUNDLE_STATE b) azBad).merge 0
    else p
  else
    let x := p.bundle s b
    let fails := (x.retrainAt.filter fun t => p.now < t + 1250000000) ++ [p.now]
    let p := p.modBundle s b fun x => { x with retrainAt := fails }
    if fails.length < 3 then p
    else (((p.setField s (Csr.AZL_BUNDLE_STATE b) azBad).raise s 0x0A03).badThisBoot s (64 + b)).merge 0

/-! ### Ties, cuts and rejoins (R331–R334) -/

/-- An edge has gone silent for AZL_CUT_TIMEOUT (R332): none of its bundles has received a frame that passes its CRC, or LIVE has not
changed in any; only an edge that has come up can. -/
def Panel.edgeSilent (p : Panel) (s e : Nat) : Bool :=
  let t := p.dieStamp s
  let limit := usCycles (p.acting s Csr.AZL_CUT_TIMEOUT)
  let bs := faceBundles e
  bs.any (fun b => let st := p.azState s b; st = azUp || st = azTied || st = azTraining)
    && (bs.all (fun b => (p.bundle s b).goodAt + limit ≤ t) || bs.all fun b => (p.bundle s b).liveAt + limit ≤ t)

/-- An edge is cut at this end (R333 steps 1 to 5): nothing more comes in by it, its mesh receive buffers and replay buffers are
discarded, the packets that were being forwarded from it end with TRUNC, and every bundle of it is in state cut. -/
def Panel.severEdge (p : Panel) (s e : Nat) : Panel :=
  let p := p.setField s Csr.AZL_STATUS_CUT (putBits (p.field s Csr.AZL_STATUS_CUT) e 1 1)
  p.each (faceBundles e) fun p b =>
    let p := p.setField s (Csr.AZL_BUNDLE_STATE b) azCut
    let p := ((p.setMeshBuf s b []).setWire s b []).freshBundle s b
    p.each (List.range 6) fun p c => p.truncate s b c true

/-- A die cuts an edge (R333). `code` is 0x0A07 on a timeout and 0x0A08 by firmware's order. -/
def Panel.cutEdge (p : Panel) (s e code : Nat) : Panel :=
  if p.edgeCut s e || !p.routes s then p
  else
    let p := p.each (faceBundles e) fun p b => p.sendControlFrame s b azCutKind
    (p.severEdge s e).raise s code

/-- A cut edge trains again from step 1 (R334), with the receive wires that fail, as (bundle, wire). -/
def Panel.rejoinEdge (p : Panel) (s e : Nat) (wires : List (Nat × Nat)) : Panel :=
  if !p.edgeCut s e || !p.routes s then p
  else
    let p := p.setField s Csr.AZL_STATUS_CUT (putBits (p.field s Csr.AZL_STATUS_CUT) e 1 0)
    let p := p.each (faceBundles e) fun p b => p.setField s (Csr.AZL_BUNDLE_STATE b) azDown
    let p := p.exchange s e
    let f := facing s e
    if !p.peersOk s e || p.edgeCut f.1 f.2 then p
    else p.each (faceBundles e) fun p b =>
      let failed := (wires.filter fun x => x.1 = b).map (·.2)
      let far := farBundle s b
      (p.trainBundle s b [] failed).trainBundle far.1 far.2 failed []

/-- TIE_MASK takes a value (R331): an edge named in it is tied and sends TIE, one no longer named is up again; a cut edge stays cut. -/
def Panel.tieMask (p : Panel) (s mask : Nat) : Panel :=
  let p := (p.setField s Csr.AZL_CTRL_TIE_MASK mask).setField s Csr.AZL_STATUS_TIED mask
  p.each (List.range (faceCount s)) fun p e =>
    p.each (faceBundles e) fun p b =>
      let st := p.azState s b
      if bitOf mask e && st = azUp then (p.setField s (Csr.AZL_BUNDLE_STATE b) azTied).tellPeer s b
      else if !bitOf mask e && st = azTied then (p.setField s (Csr.AZL_BUNDLE_STATE b) azUp).tellPeer s b
      else p

/-! ### Test-channel frames (R37, R327, R329) -/

/-- A test-channel frame fails its CRC at a die: it is counted and discarded with 0x0A0B (R327). -/
def Panel.tcFailed (p : Panel) (s : Nat) : Panel :=
  ({ p with fabric := { p.fabric with tcErrors := SMap.modify (fun _ => 0) p.fabric.tcErrors s (· + 1) } } : Panel).raise s 0x0A0B

/-- A descriptor frame at an edge (R329); with no frame, or one whose CRC fails, the peer is untested. -/
def Panel.tcDescriptor (p : Panel) (s e : Nat) (frame : List Byte) : Panel :=
  if !p.lives s || faceCount s ≤ e then p
  else if frame.isEmpty then p.descriptor s e [] false
  else if !tcIntact frame then (p.tcFailed s).descriptor s e [] false
  else if tcType frame = 1 then p.descriptor s e (tcBody frame) true
  else p

/-- The units of a die that a bit of UNITS reports: 0 its uncore or die logic with its channels, ports and bundles, i cluster
i − 1 (R37, R43; notes/assumptions/142.md). -/
def unitsOfBit (target i : Nat) : List Nat :=
  if i = 0 then (unitsOf target).filter fun u => u = 1 || 8 ≤ u else (unitsOf target).filter fun u => u = 1 + i && u < 8

/-- A frame of snapshots reaches a tester: it folds each into the signature registers of the units reported; the target has folded the
same stream for its own verdict (R37). -/
def Panel.tcSnapshot (p : Panel) (tester target : Nat) (frame : List Byte) : Panel :=
  if !p.lives tester || !p.lives target || !tcIntact frame || tcType frame ≠ 2 then p
  else
    let fold (t : Nat) (p : Panel) : Panel :=
      p.each (tcSnapshots frame) fun p x => p.each (unitsOfBit target x.1) fun p u => p.foldSnapshot t target u x.2
    let own := SMap.get (fun _ => none) p.plan.selfSeq target = some (tcSeq frame)
    let p := if own then p else
      fold target (p.modPlan fun q => { q with selfSeq := SMap.set (fun _ => none) q.selfSeq target (some (tcSeq frame)) })
    if tester = target then p else fold tester p

/-- A frame of snapshots that fails its CRC counts as no response of that tester for the units it names (R327). -/
def Panel.tcLost (p : Panel) (tester target : Nat) (frame : List Byte) : Panel :=
  if !p.lives tester || tcIntact frame then p
  else
    let p := p.tcFailed tester
    if tcType frame ≠ 2 then p
    else
      let us := ((List.range 8).filter fun i => bitOf (tcUnits frame) i).flatMap (unitsOfBit target)
      p.modPlan fun q => { q with reports := q.reports ++ us.filterMap fun u =>
        if (outcomeOf q.reports tester target u).isNone then some ⟨tester, target, u, .noResponse⟩ else none }

/-! ### The commands -/

/-- AZ_IDLE (R322). -/
def execAzIdle (f : AzFrame) (s : State) : Host.Outcome State Fault Refusal :=
  .next (s.quiet fun p => p.receive f azIdle 7 fun p => p)

/-- AZ_DATA (R322): `cls` is the class of the unit on a packet bundle, which no frame names. -/
def execAzData (f : AzFrame) (cls : Nat) (s : State) : Host.Outcome State Fault Refusal :=
  .next (s.quiet fun p => p.receive f azDataKind cls fun p => (p.deliverUnit f.site f.bundle cls false f.flit).tellPeer f.site f.bundle)

/-- AZ_KA (R322). -/
def execAzKa (f : AzFrame) (cls : Nat) (s : State) : Host.Outcome State Fault Refusal :=
  .next (s.quiet fun p => p.receive f azKaKind cls fun p => (p.deliverUnit f.site f.bundle cls true f.flit).tellPeer f.site f.bundle)

/-- AZ_NAK (R325, R326): the sender replays every frame from ACK + 1; eight NAKs in a row that name one SEQ retrain. -/
def execAzNak (f : AzFrame) (s : State) : Host.Outcome State Fault Refusal :=
  .next (s.quiet fun p => p.receive f azNakKind 7 fun p =>
    let x := p.bundle f.site f.bundle
    let n := if x.nakCount ≠ 0 && x.nakSeq = f.ack then x.nakCount + 1 else 1
    let p := p.modBundle f.site f.bundle fun x => { x with nakSeq := f.ack, nakCount := if 8 ≤ n then 0 else n }
    if 8 ≤ n then p.retrain f.site f.bundle
    else (p.tally f.site (Csr.AZL_BERR_REPLAY f.bundle) 1).each x.replay fun p q => p.sendFrame f.site f.bundle q)

/-- AZ_TIE (R331): the peer is tied. -/
def execAzTie (f : AzFrame) (s : State) : Host.Outcome State Fault Refusal :=
  .next (s.quiet fun p => p.receive f azTieKind 7 fun p => p.setField f.site (Csr.AZL_BUNDLE_STATE f.bundle) azTied)

/-- AZ_CUT (R333): the peer has cut the edge, which this end then treats as cut too. -/
def execAzCut (f : AzFrame) (s : State) : Host.Outcome State Fault Refusal :=
  .next (s.quiet fun p => p.receive f azCutKind 7 fun p => p.severEdge f.site (faceOf f.bundle))

/-- AZ_TRUNC (R333): the packet open on its class is discarded, and TRUNC goes on by the bundle on which it left. -/
def execAzTrunc (f : AzFrame) (s : State) : Host.Outcome State Fault Refusal :=
  .next (s.quiet fun p => p.receive f azTruncKind 7 fun p => (p.truncate f.site f.bundle f.cvc false).tellPeer f.site f.bundle)

/-- AZ_CRC_FAIL (R325). -/
def execAzCrcFail (f : AzFrame) (s : State) : Host.Outcome State Fault Refusal := .next (s.quiet fun p => p.crcFailed f)

/-- AZ_NO_GOOD_FRAME (R326). -/
def execAzNoGoodFrame (site bundle : Nat) (s : State) : Host.Outcome State Fault Refusal :=
  .next (s.quiet fun p => p.retrain site bundle)

/-- AZ_RETRAIN (R326): AZL_CTRL.RETRAIN with its EDGE and BUNDLE. -/
def execAzRetrain (site edge bundle : Nat) (s : State) : Host.Outcome State Fault Refusal :=
  .next (s.quiet fun p =>
    ((p.setField site Csr.AZL_CTRL_EDGE edge).setField site Csr.AZL_CTRL_BUNDLE bundle).retrain site
      (16 * (edge % 4) + bundle % 16))

/-- AZ_RETRAIN_DONE (R326): whether training succeeded, the wires that failed, and the raw latency measured in nominal cycles (R76). -/
def execAzRetrainDone (site bundle : Nat) (ok : Bool) (tx rx : List Nat) (raw : Nat) (s : State) : Host.Outcome State Fault Refusal :=
  .next (s.store fun _ p => if p.azState site bundle = azTraining then p.retrained site bundle ok tx rx raw else p)

/-- AZ_CUT_TIMEOUT (R332): an edge that has been silent for AZL_CUT_TIMEOUT is cut. -/
def execAzCutTimeout (site edge : Nat) (s : State) : Host.Outcome State Fault Refusal :=
  .next (s.quiet fun p => if p.edgeSilent site edge then p.cutEdge site edge 0x0A07 else p)

/-- AZ_CUT_ORDER (R333): AZL_CTRL.CUT with its EDGE. -/
def execAzCutOrder (site edge : Nat) (s : State) : Host.Outcome State Fault Refusal :=
  .next (s.quiet fun p => (p.setField site Csr.AZL_CTRL_EDGE edge).cutEdge site (edge % 4) 0x0A08)

/-- AZ_REJOIN (R334): `wires` are the receive wires that fail in the training, as (bundle, wire). -/
def execAzRejoin (site edge : Nat) (wires : List (Nat × Nat)) (s : State) : Host.Outcome State Fault Refusal :=
  .next (s.quiet fun p => (p.setField site Csr.AZL_CTRL_EDGE edge).rejoinEdge site (edge % 4) wires)

/-- TIE_MASK_WRITE (R331). -/
def execTieMaskWrite (site mask : Nat) (s : State) : Host.Outcome State Fault Refusal :=
  .next (s.quiet fun p => p.tieMask site (mask % 16))

/-- TC_DESCRIPTOR (R329): the frame that edge `edge` of `site` receives; an empty one when it is missing. -/
def execTcDescriptor (site edge : Nat) (frame : List Byte) (s : State) : Host.Outcome State Fault Refusal :=
  .next (s.quiet fun p => p.tcDescriptor site edge frame)

/-- TC_SNAPSHOT (R37): a frame of up to five snapshots. -/
def execTcSnapshot (tester target : Nat) (frame : List Byte) (s : State) : Host.Outcome State Fault Refusal :=
  .next (s.quiet fun p => p.tcSnapshot tester target frame)

/-- TC_LOOPBACK (R330 steps 3 and 4): the wires that fail in the two directions of a bundle; the repair map is kept for training. -/
def execTcLoopback (site bundle : Nat) (tx rx : List Nat) (s : State) : Host.Outcome State Fault Refusal :=
  .next (s.quiet fun p => if p.lives site then p.repairWires site bundle tx rx else p)

/-- TC_FRAME_CRC_FAIL (R327). -/
def execTcFrameCrcFail (tester target : Nat) (frame : List Byte) (s : State) : Host.Outcome State Fault Refusal :=
  .next (s.quiet fun p => p.tcLost tester target frame)

end Sys2Proof.Machine
end

