-- ==== Sys2Proof/Machine/LinkWords.lean ====
section
/-! DEFINITION. The word stream of a panel-link or feeder port: start word, header, payload and CRC of a frame, and its words on
the eight lanes (R341, R342, R355). -/

namespace Sys2Proof.Machine

/-- Bytes cut into words of 8 B. -/
def wordsOf8 : Nat → List Byte → List (List Byte)
  | 0, _ => []
  | n + 1, bs => bs.take 8 :: wordsOf8 n (bs.drop 8)

/-- The start word of a frame of a length (R341). -/
def startWord (len : Nat) : List Byte := leBytes 1 0x7E ++ leBytes 1 0x4B ++ leBytes 2 len ++ leBytes 4 0

/-- The words of a frame of whole words: its start word, then its bytes (R341). -/
def frameWords (bs : List Byte) : List (List Byte) := startWord bs.length :: wordsOf8 (bs.length / 8) bs

/-- The frame that a stream of words begins with, behind any idle words: as many bytes as its start word says (R341). -/
def wordsFrame (ws : List (List Byte)) : Option (List Byte) :=
  match ws.dropWhile fun w => w.all (· = 0) with
  | [] => none
  | w :: rest =>
    let len := leAt w 2 2
    let bs := rest.flatten
    if w = startWord len && 32 ≤ len && len ≤ bs.length then some (bs.take len) else none

/-- Each word with its lane: word w of the stream is on lane w mod 8 (R341). -/
def laneWords (first : Nat) (ws : List (List Byte)) : List (Nat × List Byte) :=
  ws.zipIdx.map fun x => ((first + x.2) % 8, x.1)

/-- The payload units of a frame as rows, foxed as a mask says (R342). -/
def unitRows (bs : List Byte) (foxed : Nat) : List Delivered :=
  (List.range (bs.length / 64)).map fun i => ⟨sliceBytes bs (64 * i) 64, bitOf foxed i⟩

/-- FOXMASK of rows (R342). -/
def foxMask (rows : List Delivered) : Nat := rows.zipIdx.foldl (fun m x => m + flag x.1.fox * 2 ^ x.2) 0

/-- Bytes 0x00 to 0x1B of a panel-link header (R342). -/
def plHead (f : PlFrame) : List Byte :=
  leBytes 1 f.type ++ leBytes 1 (f.epoch % 2 + 2 * flag f.signal) ++ leBytes 2 (f.dst % 4096) ++ leBytes 2 (f.src % 4096)
    ++ leBytes 2 (f.ctx % 4096) ++ leBytes 4 f.psn ++ leBytes 2 (64 * f.rows.length) ++ leBytes 1 f.hops ++ leBytes 1 f.reason
    ++ leBytes 8 f.addr ++ leBytes 2 (foxMask f.rows) ++ leBytes 2 0

/-- The CRC field of a frame whose CRC holds, or one corrupted in every bit (R342, R352). -/
def sealCrc (ok : Bool) (bs : List Byte) : Nat := if ok then crc32c bs else Nat.xor (crc32c bs) 0xFFFFFFFF

/-- A panel-link frame as bytes: its header with the CRC, and its payload (R342). -/
def plBytes (f : PlFrame) : List Byte :=
  let body := f.rows.flatMap (·.data)
  plHead f ++ leBytes 4 (sealCrc f.crcOk (plHead f ++ body)) ++ body

/-- A panel-link frame read from its bytes (R342). A LEN that is not that of the start word, or no multiple of 64, is taken as a CRC
that fails (DESIGN CHOICE: notes/assumptions/143.md). -/
def plParse (bs : List Byte) : PlFrame :=
  let body := bs.drop 32
  { type := leAt bs 0 1, epoch := leAt bs 1 1 % 2, signal := bitOf (leAt bs 1 1) 1, dst := leAt bs 2 2 % 4096, src := leAt bs 4 2 % 4096,
    ctx := leAt bs 6 2 % 4096, psn := leAt bs 8 4, hops := leAt bs 0xE 1, reason := leAt bs 0xF 1, addr := leAt bs 0x10 8,
    rows := unitRows body (leAt bs 0x18 2),
    crcOk := crc32c (bs.take 28 ++ body) = leAt bs 0x1C 4 && leAt bs 0xC 2 = body.length && body.length % 64 = 0 && body.length ≤ 1024 }

/-- The panel-link frame that a stream of words begins with. -/
def plFrameOf (ws : List (List Byte)) : Option PlFrame := (wordsFrame ws).map plParse

/-- Bytes 0x00 to 0x1B of a FEED or CREDIT header (R355). -/
def feedHead (f : FeedFrame) : List Byte :=
  leBytes 2 0x464B ++ leBytes 2 f.stream ++ leBytes 4 f.seq ++ leBytes 8 f.offset ++ leBytes 2 f.data.length ++ List.replicate 10 0

/-- A FEED or CREDIT frame as bytes; the CRC covers what that of R342 covers (DEDUCED: notes/assumptions/143.md). -/
def feedBytes (f : FeedFrame) : List Byte :=
  feedHead f ++ leBytes 4 (sealCrc f.crcOk (feedHead f ++ f.data)) ++ f.data

/-- A FEED frame read from its bytes (R355). A frame that does not begin with "KF", or whose LEN is not that of the start word, is
taken as one whose CRC fails (DESIGN CHOICE: notes/assumptions/143.md). -/
def feedParse (bs : List Byte) : FeedFrame :=
  { stream := leAt bs 2 2, seq := leAt bs 4 4, offset := leAt bs 8 8, data := bs.drop 32,
    crcOk := crc32c (bs.take 28 ++ bs.drop 32) = leAt bs 0x1C 4 && leAt bs 0 2 = 0x464B && leAt bs 0x10 2 = bs.length - 32 }

/-- The FEED frame that a stream of words begins with. -/
def feedFrameOf (ws : List (List Byte)) : Option FeedFrame := (wordsFrame ws).map feedParse

end Sys2Proof.Machine
end

