-- ==== Sys2Proof/Machine/PanelLink.lean ====
section
/-! DEFINITION. Panel links: frames, contexts and their retry stores, port tables and transit (R338–R354), feeder and
Ethernet ports (R355–R357), margins and port counts (R358), and the link dies' and memory dies' part in set-off (R284–R289). -/

namespace Sys2Proof.Machine

/-! ### Ports and contexts -/

/-- A context's number on its link die (R343). -/
def ctxIx (c : Nat) : Nat := c % 128

/-- All link dies. -/
def linkSites : List Nat := (List.range 32).map fun k => 400 + 2 * k

def Panel.port (p : Panel) (q : Nat) : Port := SMap.get (fun _ => {}) p.ports q
def Panel.modPort (p : Panel) (q : Nat) (f : Port → Port) : Panel :=
  { p with ports := SMap.modify (fun _ => {}) p.ports q f }
def Panel.ctx (p : Panel) (c : Nat) : Context := SMap.get (fun _ => {}) p.contexts c
def Panel.modCtx (p : Panel) (c : Nat) (f : Context → Context) : Panel :=
  { p with contexts := SMap.modify (fun _ => {}) p.contexts c f }
def Panel.linkDie (p : Panel) (s : Nat) : LinkDie := SMap.get (fun _ => {}) p.links s
def Panel.modLink (p : Panel) (s : Nat) (f : LinkDie → LinkDie) : Panel :=
  { p with links := SMap.modify (fun _ => {}) p.links s f }

/-- A field of a context's register. -/
def Panel.ctxField (p : Panel) (c : Nat) (f : Nat → Fld) : Nat := p.field (linkOfCtx c) (f (ctxIx c))
def Panel.setCtxField (p : Panel) (c : Nat) (f : Nat → Fld) (v : Nat) : Panel := p.setField (linkOfCtx c) (f (ctxIx c)) v

/-- The role of a port and its state: 0 idle, 1 training, 2 up, 3 down (LNK_P_STATE). -/
def Panel.portRole (p : Panel) (q : Nat) : Nat := p.field (linkOfPort q) (Csr.LNK_P_ROLE_ROLE (q % 4))
def Panel.portState (p : Panel) (q : Nat) : Nat := p.field (linkOfPort q) (Csr.LNK_P_STATE_STATE (q % 4))
def Panel.portUp (p : Panel) (q : Nat) : Bool := p.portState q = 2

/-- A port takes a state, shown in LNK_STATUS.PORT_UP. -/
def Panel.setPortState (p : Panel) (q st : Nat) : Panel :=
  let ld := linkOfPort q
  let p := p.setField ld (Csr.LNK_P_STATE_STATE (q % 4)) st
  p.setField ld Csr.LNK_STATUS_PORT_UP (putBits (p.field ld Csr.LNK_STATUS_PORT_UP) (q % 4) 1 (flag (st = 2)))

/-- The region that a port's faults apply to: its owner's, unless transit owns it or the region has no forme (R340). -/
def Panel.portRegion (p : Panel) (q : Nat) : Option Nat :=
  let ld := linkOfPort q
  let r := p.field ld (Csr.LNK_P_ROLE_OWNER (q % 4))
  if !p.isSet ld (Csr.LNK_P_ROLE_TRANSIT (q % 4)) && p.lockedUp r then some r else none

/-- Raises a fault of a port (R340). -/
def Panel.raisePort (p : Panel) (q code : Nat) : Panel :=
  p.raiseFor (linkOfPort q) code (severityOf code) (p.portRegion q) 0 code

/-- A port goes down with 0x0B01 when it was up (R354). -/
def Panel.portDown (p : Panel) (q : Nat) : Panel :=
  let up := p.portUp q
  let p := (p.setPortState q 3).modPort q fun x => { x with altNoted := false }
  if up then p.raisePort q 0x0B01 else p

/-- This panel's ID as a link die holds it (R342). -/
def Panel.panelId (p : Panel) (ld : Nat) : Nat := p.field ld Csr.LNK_PANEL_ID

/-- A panel-link port whose training is complete comes up with the first frame when both IDs are valid (R354). -/
def Panel.portAlive (p : Panel) (q src : Nat) : Panel :=
  if (p.port q).trained && !p.portUp q && p.portRole q = 1 && p.panelId (linkOfPort q) ≠ 0xFFF && src ≠ 0xFFF then
    (p.setPortState q 2).raisePort q 0x0B02
  else p

/-- LNK_PANEL_ID is written (R342): a panel-link port goes down while the ID is 0xFFF. -/
def Panel.setPanelId (p : Panel) (ld id : Nat) : Panel :=
  let p := p.setField ld Csr.LNK_PANEL_ID (id % 4096)
  if id % 4096 ≠ 0xFFF then p
  else p.each ((List.range 4).map fun i => 4 * ((ld - 400) / 2) + i) fun p q =>
    if p.portUp q && p.portRole q = 1 then p.portDown q else p

/-! ### Sending and switching (R350–R352) -/

/-- A frame's bytes leave on a port's lanes behind their start word (R341); its first word is on a free lane, since idle words pass
at a rate that no rule fixes. -/
def Panel.emitBytes (p : Panel) (q : Nat) (bs : List Byte) : Panel :=
  let (first, p) := p.draw 341 3
  (p.tally (linkOfPort q) (Csr.LNK_P_TX (q % 4)) 1).emit (.frame q (laneWords first (frameWords bs)))

/-- A panel-link frame leaves on a port. -/
def Panel.emitFrame (p : Panel) (q : Nat) (f : PlFrame) : Panel := p.emitBytes q (plBytes f)

/-- An output of a port table entry is up. -/
def Panel.outputUp (p : Panel) (o : Nat) : Bool := o = 0xFE || (o < 128 && p.portUp o && p.portRole o = 1)

/-- The output that a link die chooses for a panel (R351). -/
def Panel.egress (p : Panel) (ld dst : Nat) : Option Nat :=
  let v := p.field ld Csr.LNK_STATUS_PEPOCH
  let e := p.field ld (Csr.LNK_PT (dst % 4096))
  let primary := bitsOf e (16 * v) 8
  let alt := bitsOf e (16 * v + 8) 8
  if p.outputUp primary then some primary
  else if p.isSet ld Csr.LNK_CTRL_AUTO_ALT && p.outputUp alt then some alt
  else none

/-- A frame at a link die is looked up once (R351); `entry` is the port by which it came, if it did. -/
def Panel.routeFrame (p : Panel) (ld : Nat) (entry : Option Nat) (f : PlFrame) : Panel :=
  let drop (p : Panel) (code : Nat) : Panel :=
    let p := match entry with
      | some q => p.tally ld (Csr.LNK_P_DROP (q % 4)) 1
      | none => p
    p.raise ld code
  let v := p.field ld Csr.LNK_STATUS_PEPOCH
  let f := { f with epoch := v, hops := f.hops + 1 }
  if 16 ≤ f.hops then drop p 0x0B05
  else if f.dst = p.panelId ld then p.send (.linkLocal (linkOfCtx (f.ctx % 4096)) f)
  else
    let primary := bitsOf (p.field ld (Csr.LNK_PT (f.dst % 4096))) (16 * v) 8
    match p.egress ld f.dst with
    | none => drop p 0x0B04
    | some o =>
      let p := if o ≠ primary && primary < 128 && !(p.port primary).altNoted then
          (p.modPort primary fun x => { x with altNoted := true }).raisePort primary 0x0B03
        else p
      if o = 0xFE then p.send (.linkLocal (linkOfCtx (f.ctx % 4096)) f)
      else if linkOfPort o = ld then p.emitFrame o f
      else p.send (.transit ld (linkOfPort o) o f)

/-- A frame from a context of this panel to its remote context. -/
def Panel.ctxFrame (p : Panel) (c type : Nat) : PlFrame :=
  { type := type, dst := p.ctxField c Csr.LNK_CTX_REMOTE_PANEL, src := p.panelId (linkOfCtx c),
    ctx := p.ctxField c Csr.LNK_CTX_REMOTE_CTX }

/-! ### Send contexts and the retry store (R343–R345, R348) -/

/-- Bytes that a stored frame takes of the retry store. -/
def Stored.size (f : Stored) : Nat := 32 + 64 * f.rows.length

/-- The contexts of a link die. -/
def ctxsOf (ld : Nat) : List Nat := (List.range 128).map fun j => 128 * ((ld - 400) / 2) + j

/-- Bytes in use of a link die's retry store, and its register. -/
def Panel.storeUse (p : Panel) (ld : Nat) : Nat :=
  ((p.contexts.filter fun x => linkOfCtx x.1 = ld).map fun x => (x.2.store.map Stored.size).sum).sum
def Panel.showStore (p : Panel) (ld : Nat) : Panel := p.setField ld Csr.LNK_RETRY_USED (ceilDiv (p.storeUse ld) 1024)

/-- The frame that a stored entry sends (R345, R349). -/
def Panel.storedFrame (p : Panel) (c : Nat) (f : Stored) : PlFrame :=
  match f.mark with
  | some sheet => { p.ctxFrame c 4 with psn := f.psn, addr := sheet }
  | none => { p.ctxFrame c 1 with psn := f.psn, addr := f.addr, rows := f.rows, signal := f.signal }

/-- A send context may send. -/
def Panel.ctxSends (p : Panel) (c : Nat) : Bool :=
  p.ctxField c Csr.LNK_CTX_VALID = 1 && p.ctxField c Csr.LNK_CTX_DIR = 0 && p.ctxField c Csr.LNK_CTX_FAILED = 0

/-- A copy or a marker enters the retry store, takes the next PSN and is sent (R345). It is not accepted by a context that
cannot send, with 1,024 frames unacknowledged, or when the store is full, which raises 0x0B09 once per 10 ms. -/
def Panel.storeFrame (p : Panel) (c : Nat) (f : Stored) : Panel × Bool :=
  let ld := linkOfCtx c
  if !p.ctxSends c || 1024 ≤ (p.ctx c).store.length then (p, false)
  else if 0x800000 < p.storeUse ld + f.size then
    match (p.linkDie ld).storeFullAt with
    | some t => if p.now < t + 12500000 then (p, false)
                else ((p.modLink ld fun x => { x with storeFullAt := some p.now }).raise ld 0x0B09, false)
    | none => ((p.modLink ld fun x => { x with storeFullAt := some p.now }).raise ld 0x0B09, false)
  else
    let psn := p.ctxField c Csr.LNK_CTX_NEXT_PSN
    let f := { f with psn := psn, sentAt := p.now, signal := f.mark.isNone && p.ctxField c Csr.LNK_CTX_SIG_EN = 1 }
    let p := p.setCtxField c Csr.LNK_CTX_NEXT_PSN (psn + 1)
    let p := (p.modCtx c fun x => { x with store := x.store ++ [f] }).showStore ld
    (p.routeFrame ld none (p.storedFrame c f), true)

/-- The remote address of a local one (R345). -/
def Panel.remoteAddr (p : Panel) (c a : Nat) : Nat :=
  1024 * p.ctxField c Csr.LNK_CTX_RBASE + (a - 1024 * p.ctxField c Csr.LNK_CTX_LBASE)

/-- A copy stored for a context. -/
def Panel.storeCopy (p : Panel) (c md shard a : Nat) (rows : List Delivered) : Panel × Bool :=
  p.storeFrame c { psn := 0, md := md, shard := shard, addr := p.remoteAddr c a, rows := rows }

/-- Whether an ACK or NAK says that a PSN has been received (R342): below its PSN, or set in its bitmap. -/
def frameAcks (f : PlFrame) (psn : Nat) : Bool :=
  let d := (psn + 2 ^ 32 - f.psn) % 2 ^ 32
  if 2 ^ 31 ≤ d then true else if d = 0 then false else d ≤ 64 && bitOf f.addr (d - 1)

/-- Acknowledged frames leave the store; a set-off copy's lag falls (R286, R348). -/
def Panel.freeFrames (p : Panel) (c : Nat) (f : PlFrame) : Panel :=
  let freed := (p.ctx c).store.filter fun x => frameAcks f x.psn
  let p := p.modCtx c fun x => { x with store := x.store.filter fun y => !frameAcks f y.psn }
  let p := p.each freed fun p x =>
    if x.md ≠ 0 && x.shard < 64 then
      let n := p.field x.md (Csr.GAL_SO_LAG x.shard)
      p.setField x.md (Csr.GAL_SO_LAG x.shard) (n - 1)
    else p
  let low := match (p.ctx c).store with
    | x :: _ => x.psn
    | [] => p.ctxField c Csr.LNK_CTX_NEXT_PSN
  (p.setCtxField c Csr.LNK_CTX_ACK_PSN low).showStore (linkOfCtx c)

/-- A send context fails (R348): 0x0B08, at region-abort for a stream context; a mirror context's shards become
unmirrored. -/
def Panel.failCtx (p : Panel) (c : Nat) : Panel :=
  if p.ctxField c Csr.LNK_CTX_FAILED = 1 then p
  else
    let r := p.ctxField c Csr.LNK_CTX_REGION
    let stream := p.ctxField c Csr.LNK_CTX_KIND = 1
    let p := p.setCtxField c Csr.LNK_CTX_FAILED 1
    let p := p.raiseFor (linkOfCtx c) 0x0B08 (if stream then .regionAbort else .notice) (some r) 0 c
    if stream then p
    else p.each (p.fabric.shards.filter fun h => h.send && !h.stream && h.ctx = c) fun p h => p.unmirror h.shard h.region

/-- A stored frame is sent again; past MAX_RETRY resends the context fails (R348). -/
def Panel.resend (p : Panel) (c psn : Nat) : Panel :=
  match (p.ctx c).store.find? fun x => x.psn = psn with
  | none => p
  | some x =>
    if !p.ctxSends c then p
    else if p.acting (linkOfCtx c) (Csr.LNK_CTX_MAX_RETRY (ctxIx c)) ≤ x.resends then p.failCtx c
    else
      let p := p.modCtx c fun k => { k with store := k.store.map fun y =>
        if y.psn = psn then { y with resends := y.resends + 1, sentAt := p.now } else y }
      let ld := linkOfCtx c
      let p := match p.egress ld (p.ctxField c Csr.LNK_CTX_REMOTE_PANEL) with
        | some q => if q < 128 then p.tally (linkOfPort q) (Csr.LNK_P_RETX (q % 4)) 1 else p
        | none => p
      p.routeFrame ld none (p.storedFrame c x)

/-! ### Receive contexts (R346, R347, R349) -/

/-- The bitmap of an ACK or NAK: bit i for PSN + 1 + i (R342). -/
def Panel.ackMap (p : Panel) (c : Nat) : Nat :=
  let low := p.ctxField c Csr.LNK_CTX_NEXT_PSN
  (((p.ctx c).received.map fun q => (q + 2 ^ 32 - low) % 2 ^ 32).filter fun d => 1 ≤ d && d ≤ 64).foldl
    (fun m d => putBits m (d - 1) 1 1) 0

/-- The panel that a receive context answers: the remote panel it names, or for a mirror context, whose SETOFF_MAP record names none,
the source of the last frame for it (R346, R347, R383). -/
def Panel.ackPanel (p : Panel) (c : Nat) : Nat :=
  if p.ctxField c Csr.LNK_CTX_KIND = 1 then p.ctxField c Csr.LNK_CTX_REMOTE_PANEL else (p.ctx c).peer

/-- An ACK (2), or a NAK (3) with a reason, of a receive context goes to `panel`. -/
def Panel.sendAck (p : Panel) (c type reason panel : Nat) : Panel :=
  let f : PlFrame := { p.ctxFrame c type with
    dst := panel, psn := p.ctxField c Csr.LNK_CTX_NEXT_PSN, addr := p.ackMap c, reason := reason }
  let p := if type = 2 then p.modCtx c fun x => { x with unacked := 0 } else p
  p.routeFrame (linkOfCtx c) none f

/-- The lowest missing PSN moves past the PSNs received. -/
def advancePsn : Nat → Nat → List Nat → Nat × List Nat
  | 0, low, l => (low, l)
  | n + 1, low, l => if hasNat l low then advancePsn n ((low + 1) % 2 ^ 32) (l.filter (· ≠ low)) else (low, l)

/-- MARKs below the lowest missing PSN are answered with MARK_ACK (R349). -/
def Panel.answerMarks (p : Panel) (c panel : Nat) : Panel :=
  let low := p.ctxField c Csr.LNK_CTX_NEXT_PSN
  let due := (p.ctx c).marks.filter fun k => 2 ^ 31 ≤ (k.1 + 2 ^ 32 - low) % 2 ^ 32
  let p := p.modCtx c fun x => { x with marks := x.marks.filter fun k => !due.contains k }
  p.each due fun p k => p.routeFrame (linkOfCtx c) none { p.ctxFrame c 5 with dst := panel, psn := k.1, addr := k.2 }

/-- A PSN of a receive context counts as received (R347): an ACK for every 16 frames. -/
def Panel.received (p : Panel) (c psn panel : Nat) : Panel :=
  let l := (p.ctx c).received ++ [psn]
  let (low, l) := advancePsn l.length (p.ctxField c Csr.LNK_CTX_NEXT_PSN) l
  let p := p.setCtxField c Csr.LNK_CTX_NEXT_PSN low
  let p := p.modCtx c fun x => { x with received := l, unacked := x.unacked + 1 }
  let p := p.answerMarks c panel
  if 16 ≤ (p.ctx c).unacked then p.sendAck c 2 0 panel else p

/-- How a PSN stands to a receive context's window (R347): received before, within 1,024 of the lowest missing, beyond. -/
inductive PsnPlace where
  | old | new (beyond : Nat) | far
deriving DecidableEq, Repr

def Panel.placePsn (p : Panel) (c psn : Nat) : PsnPlace :=
  let d := (psn + 2 ^ 32 - p.ctxField c Csr.LNK_CTX_NEXT_PSN) % 2 ^ 32
  if 2 ^ 31 ≤ d || hasNat (p.ctx c).received (psn % 2 ^ 32) then .old
  else if d < 1024 then .new d
  else .far

/-- A gap is NAKed at once when a PSN arrives more than 8 beyond the lowest missing one (R347). -/
def Panel.nakGap (p : Panel) (c beyond panel : Nat) : Panel :=
  if 8 < beyond then p.sendAck c 3 0 panel else p

/-- The link die's signal of received units (R347): an SADD that counts as coming from a region. -/
def Panel.signalUnits (p : Panel) (ld home idx region n : Nat) : Panel :=
  if ld = home then p else p.send (.sadd (512 + region) home idx n)

/-- A received frame with SIGNAL set adds its units to the context's counter (R347). -/
def Panel.signalFrame (p : Panel) (c n : Nat) (signal : Bool) : Panel :=
  if signal && p.ctxField c Csr.LNK_CTX_SIG_EN = 1 then
    p.signalUnits (linkOfCtx c) (p.ctxField c Csr.LNK_CTX_SIG_HOME) (p.ctxField c Csr.LNK_CTX_SIG_IDX)
      (p.ctxField c Csr.LNK_CTX_REGION) n
  else p

/-- A receive context serves frames. -/
def Panel.ctxReceives (p : Panel) (c : Nat) : Bool :=
  p.ctxField c Csr.LNK_CTX_VALID = 1 && p.ctxField c Csr.LNK_CTX_DIR = 1

/-- A receive context notes the panel that an intact frame comes from. -/
def Panel.meet (p : Panel) (c : Nat) (f : PlFrame) : Panel := if f.crcOk then p.modCtx c fun x => { x with peer := f.src } else p

/-- A DATA frame at a receive context (R346, R347). -/
def Panel.plData (p : Panel) (f : PlFrame) : Panel :=
  let c := f.ctx % 4096
  let ld := linkOfCtx c
  let p := (p.arrive (.linkLocal ld f)).meet c f
  let base := 1024 * p.ctxField c Csr.LNK_CTX_LBASE
  let top := base + 1024 * p.ctxField c Csr.LNK_CTX_LLIMIT
  let bytes := 64 * f.rows.length
  if !f.crcOk then p
  else if !p.ctxReceives c then (p.sendAck c 3 3 f.src).raise ld 0x0B07
  else if f.addr % 64 ≠ 0 || f.addr < base || top < f.addr + bytes then (p.sendAck c 3 2 f.src).raise ld 0x0B07
  else if isLpddr f.addr && (p.memDie (memSite f.addr)).selfRefresh then p.sendAck c 3 1 f.src
  else
    match p.placePsn c f.psn with
    | .old => p.sendAck c 2 0 f.src
    | .far => p.sendAck c 3 0 f.src
    | .new d =>
      if p.ctxField c Csr.LNK_CTX_KIND = 0 then (p.send (.setoffIn c f.psn f.addr f.rows f.signal)).nakGap c d f.src
      else
        let (p, far) := p.linkRows f.addr f.rows
        let p := p.raiseIf far ld 0x0B07
        let p := p.signalFrame c f.rows.length f.signal
        (p.received c (f.psn % 2 ^ 32) f.src).nakGap c d f.src

/-- A MARK frame at a receive context (R349). -/
def Panel.plMark (p : Panel) (f : PlFrame) : Panel :=
  let c := f.ctx % 4096
  let p := (p.arrive (.linkLocal (linkOfCtx c) f)).meet c f
  if !f.crcOk then p
  else if !p.ctxReceives c then (p.sendAck c 3 3 f.src).raise (linkOfCtx c) 0x0B07
  else
    match p.placePsn c f.psn with
    | .old => p.routeFrame (linkOfCtx c) none { p.ctxFrame c 5 with dst := f.src, psn := f.psn, addr := f.addr }
    | .far => p.sendAck c 3 0 f.src
    | .new d =>
      let p := p.modCtx c fun x => { x with marks := x.marks ++ [(f.psn % 2 ^ 32, f.addr)] }
      (p.received c (f.psn % 2 ^ 32) f.src).nakGap c d f.src

/-! ### Frames and ports: the commands -/

/-- A frame enters from a port (R351). One whose CRC fails is counted; it is discarded here when it is for this panel, and ends on
the egress with a corrupted CRC when it is transit (R342, R352). -/
def Panel.frameIn (p : Panel) (port : Nat) (f : PlFrame) : Panel :=
  let ld := linkOfPort port
  let known := 1 ≤ f.type && f.type ≤ 6
  let p := if known && f.crcOk then p.portAlive port f.src else p
  if !p.portUp port || p.portRole port ≠ 1 then p
  else
    let p := p.tally ld (Csr.LNK_P_RX (port % 4)) 1
    let p := if known && f.crcOk then p else p.tally ld (Csr.LNK_P_CRC (port % 4)) 1
    if !known || f.type = 6 || (!f.crcOk && f.dst = p.panelId ld) then p
    else p.routeFrame ld (some port) f

/-- PL_FRAME_ROUTE (R341, R351): the words of a port's stream from a start word on. Words that begin no frame are no frame. -/
def execPlFrameRoute (port : Nat) (words : List (List Byte)) (s : State) : Host.Outcome State Fault Refusal :=
  .next (s.quiet fun p =>
    match plFrameOf words with
    | some f => p.frameIn port f
    | none => p)

/-- TRANSIT_PACKET (R352): a transit frame from link die `src` reaches that of its egress port; one that its link die has not put onto
the fabric waits while P4 is reined there (R311). -/
def execTransitPacket (src port : Nat) (f : PlFrame) (s : State) : Host.Outcome State Fault Refusal :=
  .next (s.quiet fun p =>
    let msg := NetMsg.transit src (linkOfPort port) port f
    if p.reined src 4 && p.net.contains msg && !p.injected.contains msg then p
    else
    let p := p.arrive msg
    if p.portUp port && p.portRole port = 1 then p.emitFrame port f
    else (p.tally (linkOfPort port) (Csr.LNK_P_DROP (port % 4)) 1).raise (linkOfPort port) 0x0B04)

/-- PL_DATA (R346). -/
def execPlData (f : PlFrame) (s : State) : Host.Outcome State Fault Refusal := .next (s.store fun _ p => p.plData f)

/-- PL_ACK (R348). -/
def execPlAck (f : PlFrame) (s : State) : Host.Outcome State Fault Refusal :=
  .next (s.quiet fun p =>
    let c := f.ctx % 4096
    let p := p.arrive (.linkLocal (linkOfCtx c) f)
    if f.crcOk && p.ctxField c Csr.LNK_CTX_DIR = 0 then p.freeFrames c f else p)

/-- PL_NAK (R348): a gap resends what the bitmap lacks below its highest PSN; busy waits RTO; the others fail the context. -/
def execPlNak (f : PlFrame) (s : State) : Host.Outcome State Fault Refusal :=
  .next (s.quiet fun p =>
    let c := f.ctx % 4096
    let p := p.arrive (.linkLocal (linkOfCtx c) f)
    if !f.crcOk || p.ctxField c Csr.LNK_CTX_DIR ≠ 0 then p
    else if f.reason = 0 then
      let p := p.freeFrames c f
      let top := (List.range 64).foldl (fun t i => if bitOf f.addr i then i + 1 else t) 0
      p.each ((p.ctx c).store.map (·.psn)) fun p q =>
        if (q + 2 ^ 32 - f.psn) % 2 ^ 32 < top then p.resend c q else p
    else if f.reason = 1 then
      p.modCtx c fun x => { x with store := x.store.map fun y => { y with sentAt := p.now } }
    else p.failCtx c)

/-- PL_MARK (R349). -/
def execPlMark (f : PlFrame) (s : State) : Host.Outcome State Fault Refusal := .next (s.quiet fun p => p.plMark f)

/-- PL_MARK_ACK (R349): the answer goes to PD as a SETMARK at P3. -/
def execPlMarkAck (f : PlFrame) (s : State) : Host.Outcome State Fault Refusal :=
  .next (s.quiet fun p =>
    let c := f.ctx % 4096
    let p := p.arrive (.linkLocal (linkOfCtx c) f)
    if f.crcOk && p.ctxField c Csr.LNK_CTX_VALID = 1 && p.ctxField c Csr.LNK_CTX_DIR = 0 && p.ctxField c Csr.LNK_CTX_KIND = 0 then
      p.send (.setmarkAck c f.addr) else p)

/-- PL_KEEPALIVE (R354). -/
def execPlKeepalive (port src : Nat) (s : State) : Host.Outcome State Fault Refusal :=
  .next (s.quiet fun p =>
    let p := p.portAlive port src
    if p.portUp port then p.tally (linkOfPort port) (Csr.LNK_P_RX (port % 4)) 1 else p)

/-- PL_KEEPALIVE_SEND (R341). -/
def execPlKeepaliveSend (port : Nat) (s : State) : Host.Outcome State Fault Refusal :=
  .next (s.quiet fun p =>
    if p.portRole port = 1 && (p.portUp port || (p.port port).trained) && p.panelId (linkOfPort port) ≠ 0xFFF then
      p.emitFrame port { type := 6, src := p.panelId (linkOfPort port) }
    else p)

/-- PL_ACK_TIMER (R347): an ACK at least every 2 µs while frames are outstanding. -/
def execPlAckTimer (ctx : Nat) (s : State) : Host.Outcome State Fault Refusal :=
  .next (s.quiet fun p =>
    if p.ctxReceives ctx && 0 < (p.ctx ctx).unacked then p.sendAck ctx 2 0 (p.ackPanel ctx) else p)

/-- PL_GAP_TIMEOUT (R347): a gap that has persisted for 10 µs. -/
def execPlGapTimeout (ctx : Nat) (s : State) : Host.Outcome State Fault Refusal :=
  .next (s.quiet fun p =>
    if p.ctxReceives ctx && !(p.ctx ctx).received.isEmpty then
      p.sendAck ctx 3 0 (p.ackPanel ctx)
    else p)

/-- PL_RTO_EXPIRE (R348). -/
def execPlRtoExpire (ctx psn : Nat) (s : State) : Host.Outcome State Fault Refusal :=
  .next (s.quiet fun p => p.resend ctx psn)

/-- PL_PORT_LOSS (R354). -/
def execPlPortLoss (port : Nat) (s : State) : Host.Outcome State Fault Refusal :=
  .next (s.quiet fun p =>
    let p := p.setFlag (linkOfPort port) (Csr.LNK_P_STATE_LOS (port % 4)) true
    if p.portState port = 0 then p else (p.portDown port).modPort port fun x => { x with trained := false })

/-- PL_PORT_IDLE_TIMEOUT (R354). -/
def execPlPortIdleTimeout (port : Nat) (s : State) : Host.Outcome State Fault Refusal :=
  .next (s.quiet fun p => if p.portUp port && p.portRole port = 1 then p.portDown port else p)

/-- PD sends a port-table flip to every link die (R353). -/
def Panel.flipPorts (p : Panel) : Panel :=
  if p.isSet p.primary Csr.LNK_STATUS_FLIPPING then p
  else
    let v := (p.field p.primary Csr.LNK_STATUS_PEPOCH + 1) % 2
    let p := (p.setField p.primary Csr.LNK_STATUS_PEPOCH v).setFlag p.primary Csr.LNK_STATUS_FLIPPING true
    let p := { p with fabric := { p.fabric with portFlippedBy := [], portFlipAt := none } }
    p.each (linkSites.filter p.logicGood) fun p ld =>
      p.sendControl p.primary ld (.portFlip v)

/-- LNK_CTRL.FLIP is written on the acting primary die (R353, R388). -/
def Panel.askPortFlip (p : Panel) : Panel :=
  if p.isSet p.primary Csr.FRM_STATUS_BUSY then p.raise p.primary 0x0110 else p.flipPorts

/-- LNK_FLIP (R353). -/
def execLnkFlip (s : State) : Host.Outcome State Fault Refusal := .next (s.quiet fun p => p.askPortFlip)

/-- A link die's report of a flip reaches PD (R353). -/
def Panel.portFlipReport (p : Panel) (ld : Nat) : Panel :=
  { p with fabric := { p.fabric with portFlippedBy := (p.fabric.portFlippedBy.filter (· ≠ ld)) ++ [ld],
                                     portFlipAt := some p.now } }

/-- PT_FLIP_MSG (R353): a link die switches its port-table version and reports. -/
def Panel.takePortFlip (p : Panel) (ld version : Nat) : Panel :=
  let p := (p.setField ld Csr.LNK_STATUS_PEPOCH version).setFlag ld Csr.LNK_STATUS_FLIPPING true
  let p := p.modLink ld fun x => { x with flipping := true }
  p.sendControl ld p.primary (.portFlipped ld)
def execPtFlipMsg (link version : Nat) (s : State) : Host.Outcome State Fault Refusal :=
  .next (s.quiet fun p => p.takePortFlip link (version % 2))

/-- PT_OLD_IDLE (R353): every link die has reported and 10 µs have passed. -/
def execPtOldIdle (s : State) : Host.Outcome State Fault Refusal :=
  .next (s.quiet fun p =>
    let lds := linkSites.filter p.logicGood
    let waited := match p.fabric.portFlipAt with
      | some t => t + usCycles 10 ≤ p.now
      | none => lds.isEmpty
    if !p.isSet p.primary Csr.LNK_STATUS_FLIPPING || !lds.all p.fabric.portFlippedBy.contains || !waited then p
    else
      let p := p.setFlag p.primary Csr.LNK_STATUS_FLIPPING false
      let p := { p with fabric := { p.fabric with portFlippedBy := [], portFlipAt := none } }
      p.each linkSites fun p ld => (p.modLink ld fun x => { x with flipping := false }).setFlag ld Csr.LNK_STATUS_FLIPPING false)

/-- An entry of a port table is written (R353): the half that belongs to a version that is not idle keeps its value, and an
attempt to change it raises 0x0B0F. -/
def Panel.writePort (p : Panel) (link panel value : Nat) : Panel :=
  let e := panel % 4096
  let old := p.field link (Csr.LNK_PT e)
  let idle (v : Nat) : Bool := p.field link Csr.LNK_STATUS_PEPOCH ≠ v && !(p.linkDie link).flipping
  let pick (v : Nat) : Nat := bitsOf (if idle v then value else old) (16 * v) 16
  let refused := (List.range 2).any fun v => !idle v && bitsOf value (16 * v) 16 ≠ bitsOf old (16 * v) 16
  (p.setField link (Csr.LNK_PT e) (pick 0 + 65536 * pick 1)).raiseIf refused link 0x0B0F

/-- LNK_PT_WRITE (R353). -/
def execLnkPtWrite (link panel value : Nat) (s : State) : Host.Outcome State Fault Refusal :=
  .next (s.quiet fun p => p.writePort link panel value)

/-- A port carries a context of a running region (R340). -/
def Panel.portCarries (p : Panel) (q : Nat) : Bool :=
  linkSites.any fun ld => (List.range 128).any fun j =>
    p.isSet ld (Csr.LNK_CTX_VALID j) && p.running (p.field ld (Csr.LNK_CTX_REGION j)) &&
      (let e := p.field ld (Csr.LNK_PT (p.field ld (Csr.LNK_CTX_REMOTE_PANEL j)))
       let v := p.field ld Csr.LNK_STATUS_PEPOCH
       bitsOf e (16 * v) 8 = q || bitsOf e (16 * v + 8) 8 = q)

/-- A port takes a role and begins its training, or goes idle when disabled (R338–R340). -/
def Panel.rigPort (p : Panel) (q role mode : Nat) : Panel :=
  let ld := linkOfPort q
  let p := if p.portUp q then p.raisePort q 0x0B01 else p
  let p := (p.setField ld (Csr.LNK_P_ROLE_ROLE (q % 4)) role).setField ld (Csr.LNK_P_ROLE_ETH_MODE (q % 4)) mode
  let p := (p.setPortState q (if role = 0 then 0 else 1)).setFlag ld (Csr.LNK_P_STATE_LOS (q % 4)) false
  p.modPort q fun x => { x with trained := false, altNoted := false, feedSeq := 0 }

/-- Ports other than `q` that have the Ethernet role. -/
def Panel.ethPorts (p : Panel) (q : Nat) : Nat := ((List.range 128).filter fun k => k ≠ q && p.portRole k = 3).length

/-- A port takes the role of tack's rigging settings; one that they do not name keeps its own (R340, R499). A ninth Ethernet port
(R339) is left disabled, with 0x0B0E (DESIGN CHOICE: notes/assumptions/144.md). -/
def Panel.rigFromSettings (p : Panel) (q : Nat) : Panel :=
  match p.tack.rigging.find? fun x => x.1 = q with
  | some x =>
    if x.2 % 4 = 3 && 8 ≤ p.ethPorts q then (p.rigPort q 0 0).raisePort q 0x0B0E
    else p.rigPort q (x.2 % 4) (x.2 / 4 % 2)
  | none => p.rigPort q (p.portRole q) (p.field (linkOfPort q) (Csr.LNK_P_ROLE_ETH_MODE (q % 4)))

/-- The ports of a link die named by LNK_CTRL.RERIG take the roles of tack's rigging settings (R340). -/
def Panel.rerig (p : Panel) (link mask : Nat) : Panel :=
  let p := if p.tack.settings then p.setPanelId link p.tack.panelId else p
  p.each ((List.range 4).filter fun i => bitOf mask i) fun p i =>
    let q := 4 * ((link - 400) / 2) + i
    if p.portCarries q then p.raisePort q 0x0B0E
    else p.rigFromSettings q

/-- LNK_RERIG (R340). -/
def execLnkRerig (link mask : Nat) (s : State) : Host.Outcome State Fault Refusal :=
  .next (s.quiet fun p => p.rerig link mask)

/-- PORT_TRAINING_DONE (R339, R354): a panel-link port then waits for its first frame. -/
def execPortTrainingDone (port : Nat) (ok : Bool) (s : State) : Host.Outcome State Fault Refusal :=
  .next (s.quiet fun p =>
    if p.portRole port = 0 then p
    else if !ok then (p.setPortState port 3).raisePort port 0x0B0E
    else
      let p := (p.modPort port fun x => { x with trained := true }).setFlag (linkOfPort port) (Csr.LNK_P_STATE_LOS (port % 4)) false
      if p.portRole port = 1 || p.portUp port then p
      else (p.setPortState port 2).raisePort port 0x0B02)

/-! ### Feeder and Ethernet ports (R355–R357) -/

/-- The owner region of a port. -/
def Panel.portOwner (p : Panel) (q : Nat) : Nat := p.field (linkOfPort q) (Csr.LNK_P_ROLE_OWNER (q % 4))

/-- A CREDIT frame leaves on a feeder port (R355): the window's STREAM, a SEQ, and LEN 0. -/
def Panel.emitCredit (p : Panel) (q stream seq : Nat) : Panel := p.emitBytes q (feedBytes { stream := stream, seq := seq })

/-- A FEED frame at a port (R355). -/
def Panel.feedIn (p : Panel) (port : Nat) (f : FeedFrame) : Panel :=
  let ld := linkOfPort port
  let i := port % 4
  let n := f.data.length
  let win := p.field ld (Csr.LNK_F_WIN_STREAM i)
  let ok := f.crcOk && p.isSet ld (Csr.LNK_F_WIN_VALID i) && f.stream = win && f.offset % 64 = 0 && n % 64 = 0
    && 64 ≤ n && n ≤ 1024 && f.offset % 1024 + n ≤ 1024 && f.offset + n ≤ 1024 * p.field ld (Csr.LNK_F_WIN_LENGTH i)
    && f.seq = (p.port port).feedSeq
  if p.portRole port ≠ 2 || !p.portUp port then p
  else
    let p := p.tally ld (Csr.LNK_P_RX i) 1
    if ok then
      let a := 1024 * p.field ld (Csr.LNK_F_WIN_BASE i) + f.offset
      let (p, far) := p.linkRows a (rowsFrom f.data fun _ => false)
      let p := if far then p.raisePort port 0x0B0D else p
      let p := p.modPort port fun x => { x with feedSeq := (x.feedSeq + 1) % 2 ^ 32 }
      let p := if p.isSet ld (Csr.LNK_F_WIN_SIG_EN i) then
          p.signalUnits ld (p.field ld (Csr.LNK_F_WIN_SIG_HOME i)) (p.field ld (Csr.LNK_F_WIN_SIG_IDX i)) (p.portOwner port)
            (n / 64)
        else p
      p.emitCredit port win f.seq
    else
      let p := if f.crcOk then p else p.tally ld (Csr.LNK_P_CRC i) 1
      (p.emitCredit port win (p.port port).feedSeq).raisePort port 0x0B0D

/-- FEED_FRAME (R355): the words of a feeder port's stream from a start word on. -/
def execFeedFrame (port : Nat) (words : List (List Byte)) (s : State) : Host.Outcome State Fault Refusal :=
  .next (s.store fun _ p =>
    match feedFrameOf words with
    | some f => p.feedIn port f
    | none => p)

/-- The bytes of a ring's slot, and a ring's base address (R357). -/
def Panel.slotSize (p : Panel) (ld i j : Nat) : Nat := if p.isSet ld (Csr.LNK_E_RING_SLOT_SIZE i j) then 16384 else 2048
def Panel.ringBase (p : Panel) (ld i j : Nat) : Nat := 1024 * p.field ld (Csr.LNK_E_RING_BASE i j)

/-- An Ethernet interface takes a frame by its address (R356): the MAC is compared with the frame's first six bytes. -/
def Panel.ethAccepts (p : Panel) (ld i : Nat) (data : List Byte) : Bool :=
  p.isSet ld (Csr.LNK_E_MAC_PROMISC i) || leAt data 0 6 = p.field ld (Csr.LNK_E_MAC_MAC i)

/-- Interfaces of an Ethernet port: eight 100G ones, or two of 400G (R356). -/
def Panel.ethIfaces (p : Panel) (port : Nat) : Nat :=
  if p.isSet (linkOfPort port) (Csr.LNK_P_ROLE_ETH_MODE (port % 4)) then 2 else 8

/-- PAUSE starts on an interface with fewer than PAUSE_MARK free slots, and stops once there are more (R357). -/
def Panel.pause (p : Panel) (port iface used : Nat) : Panel :=
  let ld := linkOfPort port
  let i := port % 4
  let free := p.acting ld (Csr.LNK_E_RING_SLOTS i iface) - used
  let mark := p.field ld (Csr.LNK_E_RING_PAUSE_MARK i iface)
  let on := (p.port port).pausing.contains iface
  if !on && p.isSet ld (Csr.LNK_E_RING_PAUSE_EN i iface) && free < mark then
    (p.modPort port fun x => { x with pausing := x.pausing ++ [iface] }).emit (.pause port iface true)
  else if on && mark < free then
    (p.modPort port fun x => { x with pausing := x.pausing.filter (· ≠ iface) }).emit (.pause port iface false)
  else p

/-- ETH_FRAME (R357): `data` is the frame without its FCS. -/
def execEthFrame (port iface : Nat) (data : List Byte) (fcsOk : Bool) (s : State) : Host.Outcome State Fault Refusal :=
  .next (s.store fun m p =>
    let ld := linkOfPort port
    let i := port % 4
    let size := p.slotSize ld i iface
    let base := p.ringBase ld i iface
    if p.portRole port ≠ 3 || !p.portUp port || p.ethIfaces port ≤ iface || !p.isSet ld (Csr.LNK_E_RING_VALID i iface) then p
    else
      let p := p.tally ld (Csr.LNK_P_RX i) 1
      if !fcsOk then p.tally ld (Csr.LNK_P_CRC i) 1
      else if !p.ethAccepts ld i data || data.length + 4 < 64 || size - 16 < data.length + 4 then p
      else if !p.populated base then p.raisePort port 0x0B0C
      else
        let prod := m.nat base 4
        let cons := SMap.get (fun _ => 0) (p.port port).cons iface
        let slots := p.acting ld (Csr.LNK_E_RING_SLOTS i iface)
        if slots ≤ (prod + 2 ^ 32 - cons) % 2 ^ 32 then
          let p := p.put { addr := base + 8, data := leBytes 4 (m.nat (base + 8) 4 + 1), fox := none }
          match (p.port port).fullAt with
          | some t => if p.now < t + 12500000 then p
                      else (p.modPort port fun x => { x with fullAt := some p.now }).raisePort port 0x0B0C
          | none => (p.modPort port fun x => { x with fullAt := some p.now }).raisePort port 0x0B0C
        else
          let slot := base + 64 + size * (prod % slots)
          let head := leBytes 2 data.length ++ leBytes 2 0 ++ leBytes 8 p.now ++ leBytes 4 0
          let (p, far) := p.linkRows slot (rowsFrom (head ++ data) fun _ => false)
          let p := if far then p.raisePort port 0x0B0C else p
          let p := p.put { addr := base, data := leBytes 4 (prod + 1), fox := none }
          let p := p.pause port iface ((prod + 1 + 2 ^ 32 - cons) % 2 ^ 32)
          if p.isSet ld (Csr.LNK_E_RING_SIG_EN i iface) then
            p.signalUnits ld (p.field ld (Csr.LNK_E_RING_SIG_HOME i iface)) (p.field ld (Csr.LNK_E_RING_SIG_IDX i iface))
              (p.portOwner port) 1
          else p)

/-- ETH_CONS_POLL (R357): the link die reads CONS, and starts or stops PAUSE. -/
def execEthConsPoll (port iface : Nat) (s : State) : Host.Outcome State Fault Refusal :=
  .next (s.reads fun m p =>
    let ld := linkOfPort port
    let i := port % 4
    let base := p.ringBase ld i iface
    if p.portRole port ≠ 3 || p.ethIfaces port ≤ iface || !p.isSet ld (Csr.LNK_E_RING_VALID i iface) then p
    else
      let cons := m.nat (base + 4) 4
      let p := p.modPort port fun x => { x with cons := SMap.set (fun _ => 0) x.cons iface cons }
      p.pause port iface ((m.nat base 4 + 2 ^ 32 - cons) % 2 ^ 32))

/-! ### Margins and counts (R358) -/

/-- Symbols of a lane in 1 ms: 10-bit symbols of its code at the rate of the port's role (R338). -/
def symbolsPerMs (role : Nat) : Nat := if role = 1 then 12800000 else 10625000

/-- LANE_MARGIN_SAMPLE (R358): the eye in mV and the symbol errors of the last 1 ms of a lane (0–31) of a link die. -/
def execLaneMarginSample (link lane eye errors : Nat) (s : State) : Host.Outcome State Fault Refusal :=
  .next (s.quiet fun p =>
    let q := 4 * ((link - 400) / 2) + lane / 8
    if !p.portUp q then p
    else
      let p := p.setField link (Csr.LNK_L_MARGIN_EYE lane) (min 0xFFF eye)
      let p := p.setField link (Csr.LNK_L_MARGIN_ERRORS lane) (min 0xFFFFF errors)
      let p := if eye < p.field link Csr.LNK_MARGIN_CFG_EYE_WARN then p.raisePort q 0x0B0A else p
      let bad := eye < p.field link Csr.LNK_MARGIN_CFG_EYE_SUSPECT
        || symbolsPerMs (p.portRole q) < errors * 10 ^ p.field link Csr.LNK_MARGIN_CFG_SER_SUSPECT
      let p := if bad then p.raisePort q 0x0B0B else p
      if bad && !p.contain.symptom.contains link then
        p.modContain fun k => { k with symptom := k.symptom ++ [link] } else p)

/-- PORT_COUNT_LATCH (R358): every 10 ms the counts of a link die's ports are latched; the codewords corrected and not
correctable come with the command, by port. -/
def execPortCountLatch (link : Nat) (corrected uncorrectable : List Nat) (s : State) : Host.Outcome State Fault Refusal :=
  .next (s.quiet fun p => p.each (List.range 4) fun p i =>
    let crc := p.tallyOf link (Csr.LNK_P_CRC i)
    let bad := nth uncorrectable i 0
    let p := (((p.latch link (Csr.LNK_P_TX i)).latch link (Csr.LNK_P_RX i)).latch link (Csr.LNK_P_RETX i)).latch link
      (Csr.LNK_P_CRC i)
    let p := p.latch link (Csr.LNK_P_DROP i)
    let p := (p.setField link (Csr.LNK_P_FEC_CORR i) (min 0xFFFFFFFF (nth corrected i 0))).setField link (Csr.LNK_P_FEC_UNCORR i)
      (min 0xFFFFFFFF bad)
    if 1024 < bad || 1024 < crc then p.raisePort (4 * ((link - 400) / 2) + i) 0x0B06 else p)

/-! ### Set-off (R285–R289, R344) -/

/-- STREAM_COPY_STORED (R344): the oldest stream copy from a memory die enters the retry store, and the withheld write
completes. -/
def execStreamCopyStored (md ctx : Nat) (s : State) : Host.Outcome State Fault Refusal :=
  .next (s.quiet fun p =>
    let hit := p.net.findSome? fun x => match x with
      | .streamCopy md' c a rows k => if md' = md && c = ctx then some (a, rows, k) else none
      | _ => none
    match hit with
    | none => p
    | some (a, rows, k) =>
      let (p, ok) := p.storeCopy ctx 0 64 a rows
      if !ok then p
      else
        let p := p.arrive (.streamCopy md ctx a rows k)
        if k.site < siteCount then p.send (.gwrAck k) else p)

/-- The send shards of a region. -/
def Panel.sendShards (p : Panel) (r : Nat) : List Shard :=
  p.fabric.shards.filter fun h => h.region = r && h.send && !h.stream

/-- A memory die's notices whose copies are all acknowledged become a sheet-end report for each send shard of the region, to the
link die of its context (R287). -/
def Panel.sheetEnds (p : Panel) (md : Nat) : Panel :=
  let due := (p.memDie md).notices.filter fun n => n.waits.isEmpty
  let p := p.modMemDie md fun d => { d with notices := d.notices.filter fun n => !n.waits.isEmpty }
  p.each due fun p n => p.each (distinct ((p.sendShards n.region).map (·.ctx))) fun p c => p.send (.sheetEnd md c n.sheet)

/-- The copies that a memory die has sent and no link die has acknowledged, as (context, shard, address, rows); the rows of a copy
that resynchronises a shard are read as it is handed over. -/
def Panel.copiesOut (p : Panel) (md : Nat) : List (Nat × Nat × Nat × Option (List Delivered)) :=
  p.net.filterMap fun x => match x with
    | .setoff md' c h a rows => if md' = md then some (c, h, a, some rows) else none
    | .resync md' c h a => if md' = md then some (c, h, a, none) else none
    | _ => none

/-- The copy of a memory die that a context takes next: the oldest live one, and one that resynchronises a shard only behind every
live copy of it (R289). -/
def Panel.nextCopy (p : Panel) (md ctx : Nat) : Option (Nat × Nat × Option (List Delivered)) :=
  let all := (p.copiesOut md).filter fun x => x.1 = ctx
  let live (x : Nat × Nat × Nat × Option (List Delivered)) : Bool := x.2.2.2.isSome
  match all.find? live with
  | some x => some x.2
  | none => all.head?.map fun (x : Nat × Nat × Nat × Option (List Delivered)) => x.2

/-- The rows of a granule of panel memory, as its memory die copies them (R281, R289). -/
def granuleRows (m : Mem) (a : Nat) : List Delivered :=
  (List.range 16).map fun r => ⟨m.read (a + 64 * r) 64, m.tableFox (a + 64 * r)⟩

/-- A link die has acknowledged a copy of a memory die: its write-buffer entry frees, and the notices that wait for it wait for
one copy less (R285, R287). -/
def Panel.copyHanded (p : Panel) (md ctx shard a : Nat) : Panel :=
  let p := p.modMemDie md fun d =>
    { d with copies := d.copies.erase ⟨shard, ctx, a⟩,
             notices := d.notices.map fun n => { n with waits := SMap.modify (fun _ => 0) n.waits ctx (· - 1) } }
  (p.showBuffer md).sheetEnds md

/-- SETOFF_COPY_ACK (R287, R289): the link die of a context holds the next copy of a memory die with a PSN and acknowledges it.
A copy that resynchronises a shard counts as lag from then on (R286). -/
def execSetoffCopyAck (md ctx : Nat) (s : State) : Host.Outcome State Fault Refusal :=
  .next (s.reads fun m p =>
    match p.nextCopy md ctx with
    | none => p
    | some (shard, a, rows) =>
      let (p, ok) := p.storeCopy ctx md shard a (rows.getD (granuleRows m a))
      if !ok then p
      else
        let p := match rows with
          | some l => p.arrive (.setoff md ctx shard a l)
          | none => (p.arrive (.resync md ctx shard a)).lag md shard (p.ctxField ctx Csr.LNK_CTX_REGION)
        p.copyHanded md ctx shard a)

/-- SETMARK_NOTICE (R287): a memory die waits for the copies it accepted before the notice, those that resynchronise a shard among
them (R289). -/
def execSetmarkNotice (md region sheet : Nat) (s : State) : Host.Outcome State Fault Refusal :=
  .next (s.quiet fun p =>
    let p := p.arrive (.setmark md region sheet)
    let waits := (p.copiesOut md).foldl (fun w x => SMap.modify (fun _ => 0) w x.1 (· + 1)) ([] : SMap Nat)
    (p.modMemDie md fun d => { d with notices := d.notices ++ [⟨region, sheet, waits⟩] }).sheetEnds md)

/-- SHEET_END_REPORT (R287): the link die gives the MARK the next PSN when it holds the report of every usable memory die. -/
def execSheetEndReport (md ctx sheet : Nat) (s : State) : Host.Outcome State Fault Refusal :=
  .next (s.quiet fun p =>
    let p := p.arrive (.sheetEnd md ctx sheet)
    let p := p.modCtx ctx fun x =>
      { x with reports := if x.reports.contains (sheet, md) then x.reports else x.reports ++ [(sheet, md)] }
    if (memDieSites.filter p.memGood).all fun k => (p.ctx ctx).reports.contains (sheet, k) then
      let (p, ok) := p.storeFrame ctx { psn := 0, mark := some sheet }
      if ok then p.modCtx ctx fun x => { x with reports := x.reports.filter fun r => r.1 ≠ sheet } else p
    else p)

/-- SETOFF_RECEIVE (R288): a received copy is written into a receive shard that accepts its context, or discarded with
0x0822. -/
def execSetoffReceive (ctx psn : Nat) (s : State) : Host.Outcome State Fault Refusal :=
  .next (s.store fun _ p =>
    let hit := p.net.findSome? fun x => match x with
      | .setoffIn c q a rows g => if c = ctx && q = psn then some (a, rows, g) else none
      | _ => none
    match hit with
    | none => p
    | some (a, rows, g) =>
      let p := p.arrive (.setoffIn ctx psn a rows g)
      let inside (h : Shard) : Bool := !h.send && h.accept.contains ctx && 1024 * h.base ≤ a
        && a + 64 * rows.length ≤ 1024 * (h.base + h.limit)
      if p.fabric.shards.any inside && p.populated a then
        ((p.acceptRows a rows none).1.signalFrame ctx rows.length g).received ctx (psn % 2 ^ 32) (p.ackPanel ctx)
      else p.raise (if isLpddr a then memSite a else p.primary) 0x0822)

/-- The memory dies copy an unmirrored shard's whole contents, behind live copies of the shard (R289). -/
def Panel.resyncShard (p : Panel) (shard : Nat) : Panel :=
    if !bitOf (p.field sitePD Csr.GAL_SO_UNMIRRORED) shard then p
    else
      match p.fabric.shards.find? fun h => h.send && !h.stream && h.shard = shard with
      | none => p
      | some h =>
        let p := p.each memDieSites fun p md =>
          if (p.memDie md).stopped.contains shard then
            p.modMemDie md fun d => { d with stopped := d.stopped.filter (· ≠ shard) } else p
        let p := { p with
          fabric := { p.fabric with resync := (p.fabric.resync.filter fun (r : Nat × Option Nat) => r.1 ≠ shard) ++ [(shard, none)] },
          net := p.net.filter fun x => match x with
            | .resync _ _ h _ => h ≠ shard
            | _ => true }
        p.each (List.range h.limit) fun p g =>
          let a := 1024 * (h.base + g)
          if p.populated a then p.send (.resync (memSite a) h.ctx shard a) else p

/-- SETOFF_RESYNC (R289). -/
def execSetoffResync (shard : Nat) (s : State) : Host.Outcome State Fault Refusal :=
  .next (s.quiet fun p => p.resyncShard shard)

end Sys2Proof.Machine
end

