-- ==== Sys2Proof/Machine/Forme.lean ====
section
/-! DEFINITION. Reading a staged forme: its header, section table and records (spec/15), and what PD keeps of it for each
region (R365–R385, R394). -/

namespace Sys2Proof.Machine

/-! ### Header and section table (R360–R364) -/

/-- RECLEN of a section type (R364). -/
def recLen (type : Nat) : Nat :=
  nth [0, 16, 48, 128, 480, 16, 16, 16, 160, 16, 48, 16, 32, 32, 48, 16, 32, 48] type 0

/-- `n` bytes at an address are zero. -/
def Mem.zeros (m : Mem) (a n : Nat) : Bool := (m.read a n).all fun b => b = 0

/-- Several runs of bytes of a record are zero. -/
def Mem.zeroRuns (m : Mem) (a : Nat) (l : List (Nat × Nat)) : Bool := l.all fun r => m.zeros (a + r.1) r.2

/-- The regions of a mask. -/
def maskRegions (mask : Nat) : List Nat := allRegions.filter fun r => bitOf mask r

/-- Entry `i` of the section table of the forme at `b` (R362). -/
def sectionAt (m : Mem) (b i : Nat) : FormeSection :=
  let a := b + m.nat (b + 0x60) 8 + 32 * i
  { type := m.nat a 2, region := m.nat (a + 2) 1, imp := m.nat (a + 3) 1, addr := b + m.nat (a + 8) 8,
    len := m.nat (a + 0x10) 8, crc := m.nat (a + 0x18) 4, index := i }

/-- The section table. -/
def formeSections (m : Mem) (b : Nat) : List FormeSection := (List.range (m.nat (b + 0xC) 2)).map (sectionAt m b)

/-- The records of a section: index and address (R364). -/
def FormeSection.recs (x : FormeSection) (m : Mem) : List (Nat × Nat) :=
  (List.range (m.nat x.addr 4)).map fun i => (i, x.addr + 16 + i * recLen x.type)

/-- The sections of a type. -/
def ofType (secs : List FormeSection) (t : Nat) : List FormeSection := secs.filter fun x => x.type = t

/-- The records of all sections of a type, with their section. -/
def recsOf (m : Mem) (secs : List FormeSection) (t : Nat) : List (FormeSection × Nat × Nat) :=
  (ofType secs t).flatMap fun x => (x.recs m).map fun r => (x, r.1, r.2)

/-- The CRC of a section's bytes is that of its table entry (R362). -/
def FormeSection.crcOk (x : FormeSection) (m : Mem) : Bool := crc32c (m.read x.addr x.len) = x.crc

/-! ### Records (R366–R385) -/

/-- A value, or the default when it is zero. -/
def orDefault (v d : Nat) : Nat := if v = 0 then d else v

/-- The sites of a SITES bitmap. -/
def sitesAt (m : Mem) (a : Nat) : List Nat := (List.range 400).filter fun s => bitOf (m.byte (a + s / 8)).toNat (s % 8)

/-- A region record with the header's defaults taken (R366, R367). -/
def regionRec (m : Mem) (b a : Nat) : RegionRec :=
  { align := bitOf (m.nat (a + 1) 1) 0, margin := m.nat (a + 2) 1, slurAlarm := m.nat (a + 3) 1,
    period := orDefault (m.nat (a + 4) 4) (m.nat (b + 0x48) 4), schedLen := m.nat (a + 8) 4,
    minGutter := orDefault (m.nat (a + 0xC) 4) (m.nat (b + 0x4C) 4),
    sheetLen := orDefault (m.nat (a + 0x10) 4) (m.nat (b + 0x50) 4), slurLimit := m.nat (a + 0x14) 2,
    syncTimeout := m.nat (a + 0x16) 2, holdTimeout := m.nat (a + 0x18) 1,
    impCount := orDefault (m.nat (a + 0x19) 1) (m.nat (b + 0x54) 1),
    defaultImp := if m.nat (a + 0x1A) 1 = 0xFF then m.nat (b + 0x55) 1 else m.nat (a + 0x1A) 1,
    images := m.nat (a + 0x1C) 2, commitAddr := m.nat (a + 0x20) 8, seed := m.nat (a + 0x28) 8,
    sites := sitesAt m (a + 0x40) }

/-- A LINE_IMAGE section's descriptor (R376). -/
def imageDesc (m : Mem) (x : FormeSection) : ImageDesc :=
  let a := x.addr + 16
  { image := m.nat a 2, work := m.nat (a + 2) 2, home := m.nat (a + 4) 2, pages := m.nat (a + 6) 2,
    clusters := m.nat (a + 8) 1, addr := m.nat (a + 0x10) 8, cores := m.nat (a + 0x18) 4, at_ := x.addr }

/-- An IMPOSITION section (R373). -/
def impositionOf (m : Mem) (x : FormeSection) : Imposition :=
  let rs := (x.recs m).map (·.2)
  let h := nth rs 0 x.addr
  { num := x.imp, ikind := m.nat (h + 1) 1, lost := m.nat (h + 2) 2, schedLen := m.nat (h + 4) 4,
    places := (rs.filter fun a => m.nat a 1 = 1).map fun a => (m.nat (a + 2) 2, m.nat (a + 4) 2),
    idle := (rs.filter fun a => m.nat a 1 = 2).map fun a => (m.nat (a + 2) 2, m.nat (a + 4) 1) }

/-- The site of an image under an imposition. -/
def Imposition.siteOf (i : Imposition) (image : Nat) : Option Nat :=
  (i.places.find? fun x => x.1 = image).map (·.2)

/-- A DRAW_MAP record (R375) and a POWER_BUDGET record (R372). -/
def bandAt (m : Mem) (a : Nat) : Band :=
  ⟨m.nat a 1, m.nat (a + 1) 1, m.nat (a + 2) 1, m.nat (a + 3) 1, m.nat (a + 4) 4, m.nat (a + 8) 2⟩
def budgetAt (m : Mem) (imp a : Nat) : Budget :=
  ⟨imp, m.nat a 1, m.nat (a + 2) 2, m.nat (a + 4) 2, m.nat (a + 6) 1⟩

/-- The image of a number. -/
def FormeRegion.image (d : FormeRegion) (i : Nat) : Option ImageDesc := d.images.find? fun x => x.image = i

/-- The imposition of a number. -/
def FormeRegion.imp (d : FormeRegion) (i : Nat) : Option Imposition := d.imps.find? fun x => x.num = i

/-- The physical site on which the image with a HOME runs under an imposition (R365); a site that is no image's home
stands for itself. -/
def FormeRegion.byHome (d : FormeRegion) (imp home : Nat) : Nat :=
  match d.images.find? fun x => x.home = home with
  | some x =>
    match (d.imp imp).bind fun i => i.siteOf x.image with
    | some s => s
    | none => home
  | none => home

/-- N of an imposition (R373). -/
def FormeRegion.schedLen (d : FormeRegion) (imp : Nat) : Nat :=
  match d.imp imp with
  | some i => orDefault i.schedLen d.rec_.schedLen
  | none => d.rec_.schedLen

/-- The sections of a type that serve an imposition: its own, or those for every imposition (R371). -/
def FormeRegion.serving (d : FormeRegion) (type imp : Nat) : List FormeSection :=
  let own := d.sections.filter fun x => x.type = type && x.imp = imp
  if own.isEmpty then d.sections.filter fun x => x.type = type && x.imp = 0xFF else own

/-- Records of a type that name an image, or 0xFFFF, in this order: a later one overrides an earlier one of the same KIND and
INDEX (R382). -/
def FormeRegion.recsFor (d : FormeRegion) (m : Mem) (type image : Nat) : List Nat :=
  let as := (recsOf m d.sections type).map fun r => r.2.2
  (as.filter fun a => m.nat a 2 = 0xFFFF) ++ as.filter fun a => m.nat a 2 = image

/-! ### Claims (R394) -/

/-- A bundle's number, the same from both of its ends. -/
def bundleId (s b : Nat) : Nat :=
  let f := farBundle s b
  min (s * 64 + b) (f.1 * 64 + f.2)

/-- The bundle that a trace entry's code names on a die (R312): 16e + b, or b on an edge die. -/
def traceBundles (site entry : Nat) : List Nat :=
  let ins := if bitsOf entry 0 6 = 0x3F then [] else [bitsOf entry 0 6]
  let outs := (if bitOf entry 12 then [bitsOf entry 6 6] else []) ++ (if bitOf entry 19 then [bitsOf entry 13 6] else [])
  (ins ++ outs).filter fun b => b < 16 * faceCount site

/-- The region that a rigging record belongs to: its section's, or in a panel-wide section the port's owner (R369), or the
region of the site that a stream context signals, or the first region. -/
def rigRegion (m : Mem) (regs : List FormeRegion) (rig : List FormeSection) (x : FormeSection) (a : Nat) : Nat :=
  if x.region ≠ 0xFF then x.region
  else if m.nat a 1 = 3 then
    match regs.find? fun d => d.rec_.sites.contains (m.nat (a + 0xA) 2) with
    | some d => d.region
    | none => match regs with
      | d :: _ => d.region
      | [] => 0
  else
    match (recsOf m rig 2).find? fun r => m.nat r.2.2 1 = 2 && m.nat (r.2.2 + 2) 2 = m.nat (a + 2) 2 with
    | some r => m.nat (r.2.2 + 6) 1
    | none => 0xFF

/-- Bytes of a slot of an Ethernet ring (LNK_E_RING). -/
def ethSlotBytes (a : Nat) : Nat := if bitOf a 2 then 16384 else 2048

/-- The claims of a rigging record. -/
def rigClaims (m : Mem) (who : Nat) (x : FormeSection) (i a : Nat) : List Claim :=
  let c (kind lo hi : Nat) : Claim := ⟨kind, lo, hi, who, x.index, i⟩
  match m.nat a 1 with
  | 2 => [c 5 (m.nat (a + 2) 2) 0]
  | 3 =>
    let lo := 1024 * m.nat (a + 0x10) 8
    [c 6 (m.nat (a + 2) 2) 0, c 8 lo (lo + 1024 * m.nat (a + 0x18) 4)]
  | 4 =>
    let lo := 1024 * m.nat (a + 0x10) 8
    [c 8 lo (lo + 1024 * m.nat (a + 0x18) 4)]
  | 5 =>
    let lo := 1024 * m.nat (a + 0x10) 8
    [c 8 lo (lo + 64 + m.nat (a + 0xA) 2 * ethSlotBytes (m.nat (a + 5) 1))]
  | _ => []

/-- The mesh bundles that a rigging record gives a compute die and that join two dies of its region (R292, R394 kind 3). -/
def meshClaims (m : Mem) (regs : List FormeRegion) (x : FormeSection) (i a : Nat) : List Claim :=
  let s := m.nat (a + 2) 2
  match regs.find? fun d => d.rec_.sites.contains s with
  | some d => if m.nat a 1 ≠ 1 then [] else (List.range 64).filterMap fun b =>
      if bitsOf (m.nat (a + 4 + 4 * (b / 16)) 4) (2 * (b % 16)) 2 = 1 && d.rec_.sites.contains (farBundle s b).1 then
        some ⟨3, bundleId s b, 0, d.region, x.index, i⟩ else none
  | none => []

/-- The claims that a region's own sections make (R394), the trace sections of every imposition among them. -/
def regionClaims (m : Mem) (d : FormeRegion) (mapIndex mapRec : Nat) : List Claim :=
  let w := d.region
  let sites := d.rec_.sites.map fun s => (⟨1, s, 0, w, mapIndex, mapRec⟩ : Claim)
  let commit : List Claim := [⟨8, d.rec_.commitAddr, d.rec_.commitAddr + 128, w, mapIndex, mapRec⟩]
  let imgs := (ofType d.sections 8).map fun x =>
    let im := imageDesc m x
    (⟨8, im.addr, im.addr + 65536 * im.pages, w, x.index, 0⟩ : Claim)
  let traces := (recsOf m d.sections 5).flatMap fun (x, i, a) =>
    let s := m.nat (a + 2) 2
    (⟨4, m.nat a 1, 0, w, x.index, i⟩ : Claim)
      :: (traceBundles s (m.nat (a + 4) 4)).map fun b => (⟨3, bundleId s b, 0, w, x.index, i⟩ : Claim)
  let syncs := (recsOf m d.sections 0xB).filterMap fun (x, i, a) =>
    match d.image (m.nat a 2) with
    | some im => if m.nat (a + 2) 1 = 0 then some (⟨9, im.home * 256 + m.nat (a + 3) 1, 0, w, x.index, i⟩ : Claim) else none
    | none => none
  let reserves := (recsOf m d.sections 0xD).filterMap fun (x, i, a) =>
    if m.nat (a + 2) 1 = 4 then some (⟨2, m.nat (a + 8) 2, 0, 0xFF, x.index, i⟩ : Claim) else none
  let sets := (recsOf m d.sections 0xE).flatMap fun (x, i, a) =>
    let k := m.nat a 1
    if k = 3 then [(⟨12, 0, 0, 0xFF, x.index, i⟩ : Claim)]
    else
      let lo := 1024 * m.nat (a + 8) 8
      [⟨7, m.nat (a + 1) 1 + 64 * flag (k = 2), 0, w, x.index, i⟩, ⟨6, m.nat (a + 2) 2, 0, w, x.index, i⟩,
       ⟨8, lo, lo + 1024 * m.nat (a + 0x10) 4, w, x.index, i⟩]
  let consts := (recsOf m d.sections 0x10).filterMap fun (x, i, a) =>
    if m.nat a 1 = 0 then
      let lo := m.nat (a + 8) 8
      some (⟨8, lo, lo + m.nat (a + 4) 4, w, x.index, i⟩ : Claim)
    else none
  sites ++ commit ++ imgs ++ traces ++ syncs ++ reserves ++ sets ++ consts

/-! ### What PD keeps of a region -/

/-- The parts of a region's forme read from its sections. -/
def buildRegion (m : Mem) (r : Nat) (rec_ : RegionRec) (derateOk : List (Nat × Nat)) (secs : List FormeSection) :
    FormeRegion :=
  { region := r, rec_ := rec_, sections := secs, derateOk := derateOk
    images := (ofType secs 8).map (imageDesc m)
    imps := (ofType secs 7).map (impositionOf m)
    bands := (recsOf m secs 0xF).map fun x => bandAt m x.2.2
    budgets := (recsOf m secs 6).map fun x => budgetAt m x.1.imp x.2.2
    reserves := (recsOf m secs 0xD).filterMap fun x =>
      let a := x.2.2
      if m.nat (a + 2) 1 = 4 then some (m.nat (a + 8) 2, m.nat (a + 0xA) 1) else none
    shadows := (recsOf m secs 0xD).filterMap fun x =>
      let a := x.2.2
      if m.nat (a + 2) 1 = 3 then
        some ⟨m.nat a 2, m.nat (a + 3) 1, m.nat (a + 8) 4, signed 32 (m.nat (a + 0xC) 4), m.nat (a + 0x10) 2⟩
      else none }

/-- The regions that the forme at `b` defines, as they will be. A KIND 2 forme replaces the sections of the same TYPE and
IMPOSITION of the region in force (R363). -/
def Panel.formeRegions (p : Panel) (m : Mem) (b : Nat) : List FormeRegion :=
  let secs := formeSections m b
  let derate := (recsOf m secs 1).map fun x => (m.nat x.2.2 2, m.nat (x.2.2 + 6) 2)
  (maskRegions (m.nat (b + 0xE) 2)).map fun r =>
    let own := secs.filter fun x => x.region = r
    if m.nat (b + 6) 1 = 2 then
      let old := (p.region r).forme
      let kept := old.sections.filter fun x => !(own.any fun y => y.type = x.type && y.imp = x.imp)
      buildRegion m r { old.rec_ with impCount := m.nat (b + 0x54) 1 } old.derateOk (kept ++ own)
    else
      let a := match (recsOf m secs 3).find? fun x => m.nat x.2.2 1 = r with
        | some x => x.2.2
        | none => b
      buildRegion m r (regionRec m b a) derate own

/-- The regions with their claims (R394). -/
def Panel.formeDefs (p : Panel) (m : Mem) (b : Nat) : List FormeRegion :=
  let secs := formeSections m b
  let regs := p.formeRegions m b
  regs.map fun d =>
    let (mi, mr) := match (recsOf m secs 3).find? fun x => m.nat x.2.2 1 = d.region with
      | some x => (x.1.index, x.2.1)
      | none => (0, 0)
    let rig := (recsOf m secs 2).flatMap fun (x, i, a) =>
      (meshClaims m regs x i a).filter (fun c => c.who = d.region)
        ++ if rigRegion m regs secs x a = d.region then rigClaims m d.region x i a else []
    let own := (recsOf m secs 2).filter fun (x, _, a) => 3 ≤ m.nat a 1 && m.nat a 1 ≤ 5 && rigRegion m regs secs x a = d.region
    let now := (p.region d.region).forme
    if m.nat (b + 6) 1 = 2 then
      { d with claims := regionClaims m d mi mr ++ now.rigClaims, rigClaims := now.rigClaims, rigging := now.rigging
               rigs := now.rigs }
    else { d with claims := regionClaims m d mi mr ++ rig, rigClaims := rig, rigging := if own.isEmpty then [] else ofType secs 2
                  rigs := own.map fun x => x.2.2 }

end Sys2Proof.Machine
end

