-- ==== Sys2Proof/Machine/Security.lean ====
section
/-! DEFINITION. Keys, signatures and attestation (spec/24): firmware images, owner records and attestation reports. -/

namespace Sys2Proof.Machine

/-- KEY_ID of a compressed key: the first 8 bytes of its SHA-384 (R538). -/
def keyId (key : List Byte) : List Byte := sliceBytes (Config.sha384 key) 0 8

/-- The KEY_ID and the 96 bytes of r and s in a signature block (R386). -/
def sigKeyId (block : List Byte) : List Byte := sliceBytes block 0 8
def sigBytes (block : List Byte) : List Byte := sliceBytes block 8 96

/-- All bytes are zero. -/
def allZero (bs : List Byte) : Bool := bs.all fun b => b = 0

/-! ### Firmware images (R541–R544) -/

/-- The flash address of an image: 0 A, 1 B (R493). -/
def imageBase (img : Nat) : Nat := if img = 0 then 0x0100000 else 0x2100000

/-- The header of an image in the flash (R541). -/
def Panel.imageHeader (p : Panel) (img : Nat) : List Byte := p.flashRead (imageBase img) 0x80

/-- The legality of an image's header: MAGIC, VERSION, TARGET, LENGTH and the reserved bytes (R541, R542). -/
def imageLegal (h : List Byte) : Bool :=
  let len := leAt h 0x10 8
  sliceBytes h 0 4 = [0x4B, 0x59, 0x46, 0x57] && leAt h 4 2 = 0x0100 && leAt h 8 4 = 0x4B500007
    && 0x80 + 104 ≤ len && len ≤ 0x2000000 && (len - 104) % 64 = 0
    && leAt h 6 1 / 16 = 0 && leAt h 7 1 = 0 && allZero (sliceBytes h 0x49 55)

/-- The vendor slot whose hash an image's key matches, if it is unrevoked (R542). -/
def Panel.vendorSlot (p : Panel) (key : List Byte) : Option Nat :=
  p.fuses.vendor.findIdx? fun k => !k.data.isEmpty && !k.revoked && k.data = Config.sha384 key

/-- What verification of an image answers (R542): the vendor slot, or the fault code. -/
def Panel.verifyImage (p : Panel) (img : Nat) : Except Nat Nat :=
  let h := p.imageHeader img
  if !imageLegal h then .error 0x0F03
  else
    let len := leAt h 0x10 8
    let key := sliceBytes h 0x18 49
    let block := p.flashRead (imageBase img + len - 104) 104
    match p.vendorSlot key with
    | none => .error 0x0F03
    | some slot =>
      if sigKeyId block ≠ keyId key then .error 0x0F03
      else if !Config.ecdsaValid key (Config.sha384 (p.flashRead (imageBase img) (len - 104))) (sigBytes block) then
        .error 0x0F03
      else if leAt h 0x0C 4 < p.fuses.minSvn then .error 0x0F05
      else .ok slot

/-- Whether an image passes verification (R542). -/
def Panel.imageOk (p : Panel) (img : Nat) : Bool :=
  match p.verifyImage img with
  | .ok _ => true
  | .error _ => false

/-- The SVN of an image (R541). -/
def Panel.imageSvn (p : Panel) (img : Nat) : Nat := leAt (p.imageHeader img) 0x0C 4

/-- The revoke bits of the vendor slots, as SEC_STATUS.VENDOR_REV shows them. -/
def slotBits (l : List KeySlot) (f : KeySlot → Bool) : Nat :=
  ((List.range 4).map fun i => 2 ^ i * flag (f (nth l i {}))).sum

/-- SEC_STATUS, SEC_MIN_SVN and SEC_OWNER_ID mirror the fuse banks (spec/24, SEC registers). -/
def Panel.showFuses (p : Panel) : Panel :=
  p.each [sitePD, siteAD] fun p s =>
    let p := p.setField s Csr.SEC_STATUS_OWNER_EN (slotBits p.fuses.owner (·.enrolled))
    let p := p.setField s Csr.SEC_STATUS_OWNER_REV (slotBits p.fuses.owner (·.revoked))
    let p := p.setField s Csr.SEC_STATUS_VENDOR_REV (slotBits p.fuses.vendor (·.revoked))
    let p := p.setField s Csr.SEC_MIN_SVN p.fuses.minSvn
    p.each (List.range 4) fun p i =>
      let k := nth p.fuses.owner i {}
      p.setField s (Csr.SEC_OWNER_ID i) (if k.data.isEmpty then 0 else leNat (keyId k.data))

/-- At READY on an image that is not on trial, MIN_SVN rises to the lower SVN of the two images that pass verification
(R543), and the revoke bits the running image names are burned, never the slot that verified it, once both images verify
under another slot (R544). -/
def Panel.raiseMinSvn (p : Panel) : Panel :=
  let ok := [0, 1].filter fun i => p.imageOk i
  let floor := match ok with
    | [] => p.fuses.minSvn
    | i :: is => is.foldl (fun m j => min m (p.imageSvn j)) (p.imageSvn i)
  let p := if p.fuses.minSvn < floor then
      ({ p with fuses := { p.fuses with minSvn := min 64 floor } } : Panel).raise p.primary 0x0F0B
    else p
  let slots := [0, 1].filterMap fun i =>
    match p.verifyImage i with
    | .ok s => some s
    | .error _ => none
  let burn (i : Nat) : Bool :=
    bitOf p.boot.imageRevoke i && i ≠ p.boot.imageSlot && slots.length = 2 && !hasNat slots i
  let vendor := (List.range 4).map fun i =>
    let k := nth p.fuses.vendor i {}
    if burn i then { k with revoked := true } else k
  ({ p with fuses := { p.fuses with vendor := vendor } } : Panel).showFuses

/-! ### Owner keys (R545–R549) -/

/-- The owner slot of a KEY_ID, when it is enrolled and unrevoked (R548). -/
def Panel.ownerSlot (p : Panel) (id : List Byte) : Option Nat :=
  p.fuses.owner.findIdx? fun k => k.enrolled && !k.revoked && keyId k.data = id

/-- Whether an owner record may be accepted (R546): `pldm` says how it arrived. -/
def Panel.ownerRecordOk (p : Panel) (pldm : Bool) (r : List Byte) : Bool :=
  let op := leAt r 4 1
  let slot := leAt r 5 1
  let block := sliceBytes r 0x48 104
  let k := nth p.fuses.owner slot {}
  let noneEnrolled := p.fuses.owner.all fun k => !k.enrolled
  let shape := sliceBytes r 0 4 = [0x4B, 0x59, 0x4F, 0x4B] && (op = 1 || op = 2) && slot < 4 && leAt r 6 2 = 0
    && leAt r 8 8 = Config.serial.toNat && allZero (sliceBytes r 0x41 7)
    && (op = 1 || allZero (sliceBytes r 0x10 49))
  let signed := match p.ownerSlot (sigKeyId block) with
    | some i => Config.ecdsaValid (nth p.fuses.owner i {}).data (Config.sha384 (r.take 0x48)) (sigBytes block)
    | none => false
  let auth := if noneEnrolled then pldm && op = 1 && allZero block else signed
  let slotState :=
    if op = 1 then !k.enrolled
    else k.enrolled && !k.revoked
      && ((List.range 4).any fun i => i ≠ slot && (nth p.fuses.owner i {}).enrolled && !(nth p.fuses.owner i {}).revoked)
  shape && auth && slotState && p.dieState sitePD = 0 && p.dieState siteAD = 0
    && !p.isSet sitePD Csr.FRM_STATUS_BUSY

/-- Processes an owner record (R546, R547): refused with 0x0F08, or the fuses of PD and then AD are programmed and read
back; a mismatch burns the slot's revoke bit on both and raises 0x0F0A, and a completed change raises 0x0F09. -/
def Panel.ownerRecord (p : Panel) (pldm : Bool) (r : List Byte) (readBack : Bool) : Panel :=
  if !p.ownerRecordOk pldm r then p.raise p.primary 0x0F08
  else
    let slot := leAt r 5 1
    let k := nth p.fuses.owner slot {}
    let k := if leAt r 4 1 = 1 then { k with data := sliceBytes r 0x10 49, enrolled := true } else { k with revoked := true }
    let k := if readBack then k else { k with revoked := true }
    let p := ({ p with fuses := { p.fuses with owner := setNth p.fuses.owner slot k } } : Panel).showFuses
    p.raise p.primary (if readBack then 0x0F09 else 0x0F0A)

/-! ### Attestation (R550, R551) -/

/-- The regions locked up, as a mask. -/
def Panel.regionMask (p : Panel) : Nat :=
  (allRegions.map fun r => 2 ^ r * flag (p.isSet sitePD (Csr.FRM_R_STATE_STATE r))).sum

/-- The forme-set digest (R551). -/
def Panel.formeSetDigest (p : Panel) : List Byte :=
  Config.sha384 (allRegions.flatMap fun r =>
    if bitOf p.regionMask r then
      leBytes 1 r ++ leBytes 4 (p.field sitePD (Csr.FRM_R_SEQ r)) ++ SMap.get (fun _ => []) p.fuses.formeDigest r
    else [])

/-- The 216 bytes of an attestation report before its signature block (R550). -/
def Panel.attestBody (p : Panel) (nonce : List Byte) : List Byte :=
  let ad := flag (p.primary = siteAD)
  [0x4B, 0x59, 0x41, 0x54] ++ leBytes 2 0x0100 ++ leBytes 1 ad
    ++ leBytes 1 (p.plan.flags % 2 + 2 * p.field sitePD Csr.PWR_RST_STATUS_TRIAL)
    ++ leBytes 8 Config.serial.toNat ++ leBytes 8 p.now ++ sliceBytes nonce 0 32
    ++ sliceBytes p.boot.imageHash 0 48 ++ leBytes 4 p.boot.imageSvn
    ++ leBytes 1 (p.boot.imageSlot % 4 + 4 * slotBits p.fuses.vendor (·.revoked))
    ++ leBytes 1 (slotBits p.fuses.owner (·.enrolled) + 16 * slotBits p.fuses.owner (·.revoked))
    ++ leBytes 2 p.regionMask ++ sliceBytes p.formeSetDigest 0 48
    ++ leBytes 48 (p.field sitePD Csr.BST_FP_DIGEST) ++ leBytes 4 (p.field sitePD Csr.BST_FP_SEQ)
    ++ leBytes 4 (p.field sitePD Csr.PWR_BOOT)

/-- An attestation request is in progress. -/
def Panel.attesting (p : Panel) : Bool := p.now < p.boot.attestUntil

/-- The acting primary die signs a report over a nonce into SEC_REPORT (R550), which takes a free time of at most 5 ms; a request
while another is in progress is refused with 0x0F0C. -/
def Panel.attest (p : Panel) (nonce : List Byte) : Panel :=
  if p.attesting then p.raise p.primary 0x0F0C
  else
    let body := p.attestBody nonce
    let (d, p) := p.draw 550 32
    let p := p.modBoot fun b => { b with attestUntil := p.now + d % 6250001 }
    let who := flag (p.primary = siteAD)
    let report := body ++ keyId (Config.identityKey who) ++ sliceBytes (Config.ecdsaSign who (Config.sha384 body)) 0 96
    (p.setField p.primary Csr.SEC_REPORT (leNat report)).setFlag p.primary Csr.SEC_STATUS_REPORT_VALID true

/-! ### The command -/

/-- OWNER_RECORD (R546): an owner record over PLDM (`record` is its bytes), or the one in LPDDR5X at SEC_CMD_ADDR;
`readBack` says whether the fuses read back what was written. -/
def execOwnerRecord (pldm : Bool) (record : List Byte) (readBack : Bool) (s : State) :
    Host.Outcome State Fault Refusal :=
  .next (s.reads fun m p =>
    let r := if pldm then record else m.read (p.field p.primary Csr.SEC_CMD_ADDR) 176
    (p.ownerRecord pldm r readBack).setFlag p.primary Csr.SEC_CTRL_CMD false)

end Sys2Proof.Machine
end

