-- ==== Sys2Proof/Machine/FormeChecks.lean ====
section
/-! DEFINITION. The checks of a forme (R391–R395) in the order of R391's table: header, sections, field values, stroke
parameters, floor plan, claims, routes, rigging, ports, gate tables, quotas, relocations, impositions, state, test
controls. -/

namespace Sys2Proof.Machine

/-- A forme under check: memory, its address, KIND, section table, the regions that it defines, and the panel. -/
structure FormeCtx where
  m : Mem
  b : Nat
  kind : Nat
  secs : List FormeSection
  regs : List FormeRegion
  p : Panel

/-- What a failed check names: its code, and the section and record (FRM_DETAIL). -/
abbrev FormeBad := Nat × Nat × Nat

def Panel.formeCtx (p : Panel) (m : Mem) (b : Nat) : FormeCtx :=
  { m := m, b := b, kind := m.nat (b + 6) 1, secs := formeSections m b, regs := p.formeDefs m b, p := p }

/-- The region of a number, as the forme defines it. -/
def FormeCtx.reg (x : FormeCtx) (r : Nat) : Option FormeRegion := x.regs.find? fun d => d.region = r

/-- The forme's region that holds a compute site. -/
def FormeCtx.ownerOf (x : FormeCtx) (s : Nat) : Option Nat :=
  (x.regs.find? fun d => d.rec_.sites.contains s).map (·.region)

/-- Records of a type for which a test fails, as a code's findings. -/
def FormeCtx.badRecs (x : FormeCtx) (code type : Nat) (f : FormeSection → Nat → Nat → Bool) : List FormeBad :=
  (recsOf x.m x.secs type).filterMap fun (sec, i, a) => if f sec i a then some (code, sec.index, i) else none

/-- No value of a list occurs twice. -/
def noRepeat (l : List Nat) : Bool := (distinct l).length = l.length

/-! ### Header and signature (R360, R361, R386, R387, R548) -/

/-- Every granule of a range lies in populated LPDDR5X (R17, R264, R265). -/
def Panel.rangePopulated (p : Panel) (a n : Nat) : Bool :=
  (List.range (ceilDiv (a % 1024 + n) 1024)).all fun i => p.populated (a / 1024 * 1024 + 1024 * i)

/-- The claims of the regions in force that a forme does not replace (R391, R394). -/
def Panel.claimsInForce (p : Panel) (mask : Nat) : List Claim :=
  (allRegions.filter fun r => !bitOf mask r && p.lockedUp r).flatMap fun r => (p.region r).forme.claims

/-- The offset of the signature block. -/
def sigOffset (m : Mem) (b : Nat) : Nat := m.nat (b + 0x10) 8 - 104

/-- The header is legal, and the forme stands where R387 allows (0x0101). -/
def Panel.headerOk (p : Panel) (m : Mem) (b len : Nat) : Bool :=
  let h (o n : Nat) : Nat := m.nat (b + o) n
  let kind := h 6 1
  let mask := h 0xE 2
  let length := h 0x10 8
  let tab := h 0x60 8
  b % 4096 = 0 && p.rangePopulated b len
    && !((allRegions.filter p.lockedUp).any fun r => (p.region r).forme.claims.any fun c =>
        c.kind = 8 && c.index < b + len && b < c.hi)
    && h 0 4 = 0x4D46594B && h 4 2 = 0x0107 && kind ≤ 2 && h 7 1 ≤ 1 && h 8 4 = 0x4B500007
    && 1 ≤ h 0xC 2 && h 0xC 2 ≤ 4096 && mask ≠ 0 && (kind = 0 || (maskRegions mask).length = 1)
    && length ≤ 0x400000000 && length = len && 104 ≤ length && (length - 104) % 4096 = 0
    && 12500 ≤ h 0x48 4 && h 0x48 4 ≤ 12500000 && 1 ≤ h 0x50 4 && h 0x50 4 ≤ 65535
    && 1 ≤ h 0x54 1 && h 0x54 1 ≤ 8 && h 0x55 1 < h 0x54 1 && h 0x56 1 ≤ 1 && h 0x57 1 = 0
    && tab % 32 = 0 && 0x100 ≤ tab && tab + 32 * h 0xC 2 ≤ length - 104 && m.zeros (b + 0x68) 152

/-- What verification of a forme answers (R548): the code of the refusal, if it fails. -/
def Panel.verifyForme (p : Panel) (m : Mem) (b : Nat) : Option Nat :=
  let off := sigOffset m b
  let id := m.read (b + 0x58) 8
  let block := m.read (b + off) 104
  if sigKeyId block ≠ id then some 0x0F01
  else match p.ownerSlot id with
    | none => some 0x0F01
    | some slot =>
      if Config.ecdsaValid (nth p.fuses.owner slot {}).data (Config.sha384 (m.read b off)) (sigBytes block) then none
      else some 0x0F02

/-! ### Sections (R360, R362–R364) -/

/-- The section types that a forme names once for the whole panel (R363). -/
def panelType (t : Nat) : Bool := 1 ≤ t && t ≤ 4

/-- A section-table entry is legal by itself. -/
def FormeCtx.entryOk (x : FormeCtx) (s : FormeSection) : Bool :=
  let a := x.b + x.m.nat (x.b + 0x60) 8 + 32 * s.index
  let region := if panelType s.type && x.kind = 0 then s.region = 0xFF else s.region < 16 && bitOf (x.m.nat (x.b + 0xE) 2) s.region
  let imp := if s.type = 7 then s.imp ≤ 7 else if s.type = 5 || s.type = 6 then s.imp ≤ 7 || s.imp = 0xFF else s.imp = 0xFF
  1 ≤ s.type && s.type ≤ 0x11 && region && imp && x.m.zeros (a + 4) 4 && x.m.zeros (a + 0x1C) 4
    && (s.addr - x.b) % 4096 = 0 && 16 ≤ s.len

/-- The sections lie one after another after the table, apart and inside the forme, and all that nothing covers is zero. -/
def FormeCtx.placedFrom (x : FormeCtx) : Nat → List FormeSection → Bool
  | e, [] => e ≤ sigOffset x.m x.b && ceilDiv e 4096 * 4096 = sigOffset x.m x.b && x.m.zeros (x.b + e) (sigOffset x.m x.b - e)
  | e, s :: ss =>
    let o := s.addr - x.b
    e ≤ o && o + s.len ≤ sigOffset x.m x.b && x.m.zeros (x.b + e) (o - e) && x.placedFrom (o + s.len) ss

/-- The head of a section, and its length where no data follows the records (R364). -/
def FormeCtx.sectionHeadOk (x : FormeCtx) (s : FormeSection) : Bool :=
  let body := 16 + x.m.nat s.addr 4 * recLen s.type
  x.m.nat (s.addr + 4) 2 = recLen s.type && x.m.zeros (s.addr + 6) 10
    && (if s.type = 8 then x.m.nat s.addr 4 = 1 else if s.type = 0x10 then body ≤ s.len else s.len = body)

/-- How many sections of a type, region and imposition there are. -/
def FormeCtx.countOf (x : FormeCtx) (t r imp : Nat) : Nat :=
  (x.secs.filter fun s => s.type = t && s.region = r && s.imp = imp).length

/-- The sections that a region must have or may have once (R363). -/
def FormeCtx.presentOk (x : FormeCtx) (d : FormeRegion) : Bool :=
  let n (t : Nat) : Nat := x.countOf t d.region 0xFF
  if x.kind = 2 then
    let own := x.secs.filter fun s => s.region = d.region
    own.all (fun s => hasNat [5, 6, 7, 9, 0xF] s.type) && own.any (fun s => s.type = 7) && n 9 ≤ 1 && n 0xF ≤ 1
  else
    n 6 = 1 && n 0xF = 1 && (List.range d.rec_.impCount).all (fun i => x.countOf 7 d.region i = 1)
      && (x.secs.filter fun s => s.type = 7 && s.region = d.region).length = d.rec_.impCount
      && (List.range d.rec_.images).all (fun i => (d.images.filter fun im => im.image = i).length = 1)
      && d.images.length = d.rec_.images
      && [9, 0xA, 0xB, 0xC, 0xD, 0xE, 0x11].all fun t => n t ≤ 1

/-- The panel-wide sections that must be there (R363). -/
def FormeCtx.panelPresentOk (x : FormeCtx) : Bool :=
  let n (t : Nat) : Nat := (ofType x.secs t).length
  if x.kind = 0 then n 1 = 1 && n 2 = 1 && n 3 = 1 && n 4 = 1
  else if x.kind = 1 then n 1 = 1 && n 2 = 1 && n 3 = 1 && n 4 ≤ 1
  else n 1 + n 2 + n 3 + n 4 = 0

/-- 0x0102. -/
def FormeCtx.sectionBad (x : FormeCtx) : List FormeBad :=
  let tableEnd := x.m.nat (x.b + 0x60) 8 + 32 * x.secs.length
  let each := x.secs.filterMap fun s =>
    let twice := s.type ≠ 8 && s.type ≠ 0x10 && 1 < x.countOf s.type s.region s.imp
    if !x.entryOk s || twice || !s.crcOk x.m || !x.sectionHeadOk s then some (0x0102, s.index, 0) else none
  let order := if x.placedFrom tableEnd x.secs && x.m.zeros (x.b + 0x100) (x.m.nat (x.b + 0x60) 8 - 0x100)
      && x.panelPresentOk && x.regs.all x.presentOk then [] else [(0x0102, 0, 0)]
  each ++ order

/-! ### Field values (R366–R385) -/

/-- A number lies between two limits. -/
def within (lo hi v : Nat) : Bool := lo ≤ v && v ≤ hi

/-- A retransmission pair MAX_RETRY and RTO (R369, R383). -/
def retryOk (retry rto : Nat) : Bool := within 1 15 retry && within 5 1000 rto

/-- FLOORPLAN_REQ (R368). -/
def reqOk (m : Mem) (a : Nat) : Bool :=
  m.nat a 2 < 468 && m.nat (a + 2) 1 ≤ 1 && m.zeros (a + 3) 1 && bitsOf (m.nat (a + 4) 2) 13 3 = 0
    && m.nat (a + 6) 2 = Nat.land (m.nat (a + 6) 2) 0x1E

/-- RIGGING (R369). -/
def rigOk (m : Mem) (a : Nat) : Bool :=
  let n (o k : Nat) : Nat := m.nat (a + o) k
  m.zeros (a + 1) 1 &&
  match n 0 1 with
  | 1 => n 2 2 < 468 && m.zeros (a + 0x14) 28
  | 2 => n 2 2 < 128 && n 4 1 ≤ 3 && n 5 1 ≤ (if n 4 1 = 3 then 1 else 0) && (n 6 1 < 16 || n 6 1 = 0xFF)
      && m.zeros (a + 7) 41
  | 3 => n 2 2 < 4096 && n 4 1 ≤ 1 && n 5 1 ≤ 1 && n 6 2 ≤ 0xFFE && n 8 2 < 4096 && n 0xA 2 < 400
      && retryOk (n 0xD 1) (n 0xE 2) && n 0x10 8 < 2 ^ 38 && n 0x20 8 < (if n 4 1 = 0 then 2 ^ 38 else 1)
      && m.zeroRuns a [(0x1C, 4), (0x28, 8)]
  | 4 => n 2 2 < 128 && n 5 1 ≤ 1 && n 6 2 < 400 && n 0x10 8 < 2 ^ 38
      && m.zeroRuns a [(4, 1), (9, 1), (0xC, 4), (0x1C, 20)]
  | 5 => n 2 2 < 128 && n 4 1 ≤ 7 && n 5 1 ≤ 7 && n 6 2 < 400 && 1 ≤ n 0xA 2 && n 0x10 8 < 2 ^ 38
      && m.zeroRuns a [(9, 1), (0xE, 2), (0x18, 24)]
  | _ => false

/-- REGION_MAP (R366): the limits that are not R85's. -/
def FormeCtx.mapOk (x : FormeCtx) (a : Nat) : Bool :=
  let m := x.m
  let r := regionRec m x.b a
  bitOf (m.nat (x.b + 0xE) 2) (m.nat a 1) && m.nat a 1 < 16 && m.nat (a + 1) 1 ≤ 1 && r.margin ≤ 12
    && within 1 10000 r.slurLimit && within 1 1000 r.syncTimeout && within 1 50 r.holdTimeout && within 1 8 r.impCount
    && r.defaultImp < r.impCount && within 1 400 r.images && r.commitAddr % 128 = 0 && x.p.rangePopulated r.commitAddr 128
    && m.zeroRuns a [(0x1B, 1), (0x1E, 2), (0x30, 16), (0x72, 14)]

/-- ROUTE_TABLE (R370). -/
def routeRecOk (m : Mem) (a : Nat) : Bool := m.nat a 2 < 468 && m.zeros (a + 2) 10

/-- TRACE_SET (R371). -/
def traceRecOk (m : Mem) (region a : Nat) : Bool :=
  let e := m.nat (a + 4) 4
  1 ≤ m.nat a 1 && m.zeros (a + 1) 1 && m.nat (a + 2) 2 < 468 && bitsOf e 24 4 = region && bitsOf e 28 4 = 1
    && m.zeros (a + 8) 8

/-- POWER_BUDGET (R372). -/
def budgetOk (m : Mem) (images a : Nat) : Bool :=
  let k := m.nat a 1
  let image := m.nat (a + 2) 2
  let share := m.nat (a + 6) 1
  m.zeros (a + 1) 1 && within 1 10240 (m.nat (a + 4) 2) && m.zeros (a + 7) 9
    && ((k = 1 && image = 0xFFFF && within 1 100 share) || (k = 2 && image < images && share = 0))

/-- IMPOSITION, as far as each record goes (R373). -/
def impRecOk (m : Mem) (a : Nat) : Bool :=
  match m.nat a 1 with
  | 0 => m.nat (a + 1) 1 ≤ 1 && m.zeros (a + 8) 8
  | 1 => m.zeroRuns a [(1, 1), (6, 10)]
  | 2 => m.zeroRuns a [(1, 1), (6, 10)] && m.nat (a + 4) 1 ≤ 15 && m.nat (a + 5) 1 = 1
  | _ => false

/-- Where the compositor image of core `k` begins, from the start of a LINE_IMAGE section, and where the last one ends
(R376). -/
def coreStart (m : Mem) (x : ImageDesc) : Nat → Nat
  | 0 => 0x1000 + 65536 * x.pages
  | k + 1 =>
    let e := coreStart m x k
    if bitOf x.cores k then ceilDiv e 64 * 64 + 4 * m.nat (x.at_ + 0x70 + 2 * k) 2 else e

/-- LINE_IMAGE (R376, R377). -/
def FormeCtx.imageOk (x : FormeCtx) (images : Nat) (s : FormeSection) : Bool :=
  let m := x.m
  let d := imageDesc m s
  let a := s.addr + 16
  let entry (i : Nat) : Nat := m.nat (a + 0x20 + 4 * i) 4
  d.image < images && 1 ≤ d.pages && d.clusters ≤ 15 && m.zeroRuns a [(9, 7), (0x1C, 4)] && d.home < 400
    && d.addr % 65536 = 0 && x.p.rangePopulated d.addr (65536 * d.pages)
    && (List.range 32).all (fun k => let w := m.nat (a + 0x60 + 2 * k) 2
        if bitOf d.cores k then bitOf d.clusters (k / 8) && within 1 16384 w else w = 0)
    && bitOf (entry 0) 15 && (List.range 16).all (fun i => !bitOf (entry i) 15 || bitsOf (entry i) 16 16 < d.pages)
    && s.len = coreStart m d 32

/-- RELOC (R378). -/
def relocOk (m : Mem) (d : FormeRegion) (a : Nat) : Bool :=
  let w := m.nat (a + 4) 4
  let lsb := m.nat (a + 9) 1
  let width := m.nat (a + 0xA) 1
  match d.image (m.nat a 2), d.image (m.nat (a + 2) 2) with
  | some im, some _ =>
    let place := if bitOf w 31 then
        bitsOf w 21 10 = 0 && bitsOf w 14 2 = 0 && bitOf im.cores (bitsOf w 16 5)
          && bitsOf w 0 14 < m.nat (im.at_ + 0x70 + 2 * bitsOf w 16 5) 2 && lsb + width ≤ 32
      else bitsOf w 0 31 % 4 = 0 && bitsOf w 0 31 + 8 ≤ 65536 * im.pages && lsb + width ≤ 64
    place && within 1 3 (m.nat (a + 8) 1) && within 1 48 width && m.nat (a + 0xB) 1 ≤ 47
      && m.nat (a + 0xC) 1 ≤ (if m.nat (a + 8) 1 = 2 then 3 else 0) && m.zeros (a + 0xD) 3
  | _, _ => false

/-- WINDOW_TABLE (R379, R251, R564): VALID 1, LENGTH and FMT in their ranges, reserved bits zero. -/
def windowRecOk (m : Mem) (images a : Nat) : Bool :=
  let v := m.nat (a + 0x10) 32
  m.nat a 2 < images && m.zeros (a + 5) 11 && m.nat (a + 3) 1 ≤ 3 &&
  match m.nat (a + 2) 1 with
  | 1 => m.nat (a + 4) 1 < 32 && v / 2 ^ 85 = 1 && within 1 1310720 (bitsOf v 21 21)
  | 2 => m.nat (a + 4) 1 < 16 && bitOf v 232 && within 1 0xC (bitsOf v 224 4) && v / 2 ^ 245 = 0
  | _ => false

/-- SYNC_ALLOC (R380). -/
def syncRecOk (m : Mem) (images a : Nat) : Bool :=
  m.nat a 2 < images && m.zeros (a + 0xC) 4 &&
  match m.nat (a + 2) 1 with
  | 0 => true
  | 1 => m.nat (a + 3) 1 < 16 && m.nat (a + 8) 4 = 0
  | _ => false

/-- GALLEY_CFG (R381). -/
def galleyRecOk (m : Mem) (images a : Nat) : Bool :=
  m.zeros (a + 4) 4 &&
  match m.nat (a + 2) 1 with
  | 1 => m.nat a 2 < images && m.nat (a + 3) 1 < 16 && m.nat (a + 8) 8 < 2 ^ 38 && m.nat (a + 0x14) 1 ≤ 1 && m.zeros (a + 0x16) 10
  | 2 => m.nat a 2 < images && m.nat (a + 3) 1 = 0 && m.zeros (a + 0xC) 20
  | 3 => m.nat a 2 = 0xFFFF && m.nat (a + 3) 1 = 0 && within 5 1000 (m.nat (a + 8) 2) && m.nat (a + 0xA) 2 < 1024
      && m.zeros (a + 0xC) 20
  | _ => false

/-- CHECK_POLICY (R382). -/
def checkRecOk (m : Mem) (d : FormeRegion) (a : Nat) : Bool :=
  let image := m.nat a 2
  let ix := m.nat (a + 3) 1
  m.zeros (a + 4) 4 && (image < d.rec_.images || image = 0xFFFF) &&
  match m.nat (a + 2) 1 with
  | 1 => ix = 0 && m.nat (a + 8) 4 < 128 && m.zeros (a + 0xC) 20
  | 2 => within 1 15 ix && m.nat (a + 0x14) 2 ≤ 256 && m.zeros (a + 0x16) 10
  | 3 => ix < 4 && m.zeros (a + 0x12) 14
      && d.images.all fun im => (im.image ≠ image && image ≠ 0xFFFF) || m.nat (a + 8) 4 + 8 ≤ 65536 * im.pages
  | 4 => ix = 0 && image = 0xFFFF && m.nat (a + 8) 2 < 400 && m.nat (a + 0xA) 1 ≤ 15 && m.zeros (a + 0xB) 21
  | _ => false

/-- SETOFF_MAP (R383): fields that do not apply are zero, and a shard lies in the populated range (R284). -/
def FormeCtx.setoffRecOk (x : FormeCtx) (a : Nat) : Bool :=
  let m := x.m
  let n (o k : Nat) : Nat := m.nat (a + o) k
  let shard := n 1 1 < 64 && n 2 2 < 4096 && n 8 8 < 2 ^ 38 && x.p.rangePopulated (1024 * n 8 8) (1024 * n 0x10 4) && retryOk (n 0x16 1) (n 0x14 2) && m.zeroRuns a [(0x17, 1), (0x28, 8)]
  match n 0 1 with
  | 1 => shard && n 4 2 ≤ 0xFFE && n 6 2 < 4096 && n 0x18 8 < 2 ^ 38 && m.zeros (a + 0x20) 8
  | 2 => shard && m.zeroRuns a [(4, 4), (0x18, 8)]
      && (List.range 4).all fun i => n (0x20 + 2 * i) 2 < 4096 || n (0x20 + 2 * i) 2 = 0xFFFF
  | 3 => x.kind = 0 && n 0x28 2 ≤ 1000 && m.zeroRuns a [(1, 39), (0x2A, 6)]
  | _ => false

/-- DRAW_MAP (R375), as far as each record goes; the stretch is at most P. -/
def bandRecOk (m : Mem) (period a : Nat) : Bool :=
  let d := bandAt m a
  d.imp < 8 && within 64 128 d.period && d.stretch ≤ period && within 550 900 d.vset && m.zeros (a + 0xA) 6

/-- CONST_DATA (R385). -/
def FormeCtx.constRecOk (x : FormeCtx) (d : FormeRegion) (s : FormeSection) (a : Nat) : Bool :=
  let m := x.m
  let len := m.nat (a + 4) 4
  let addr := m.nat (a + 8) 8
  let at_ := m.nat (a + 0x10) 4
  let target := match m.nat a 1 with
    | 0 => m.nat (a + 1) 1 = 0 && m.nat (a + 2) 2 = 0xFFFF && x.p.rangePopulated addr len
    | 1 => m.nat (a + 1) 1 ≤ 3 && m.nat (a + 2) 2 < d.rec_.images && addr + len ≤ 0x5000000
    | _ => false
  target && len % 64 = 0 && addr % 64 = 0 && at_ % 64 = 0 && 16 + 32 * m.nat s.addr 4 ≤ at_ && at_ + len ≤ s.len
    && m.zeros (a + 0x14) 12

/-- ROUTING_GATE (R384, R233, R235, R564): reserved bits zero, a justifier descriptor names clusters, and the runs of a justifier or
merge descriptor lie in their ranges; a gate descriptor's ranges are R225's. -/
def gateRecOk (m : Mem) (images a : Nat) : Bool :=
  let v := m.nat (a + 0x10) 32
  let ix := m.nat (a + 3) 1
  m.nat a 2 < images && m.zeros (a + 7) 9 &&
  match m.nat (a + 2) 1 with
  | 1 => ix < 16 && m.zeros (a + 4) 3 && v / 2 ^ 61 = 0
  | 2 =>
    let c := m.nat (a + 6) 1
    ix = 0 && within 1 8 c && m.nat (a + 4) 2 + c ≤ 16384 && v / 2 ^ (32 * c) = 0
      && (List.range c).all fun i => bitsOf v (32 * i + 27) 5 = 0
  | 3 => ix < 16 && m.zeros (a + 4) 3 && v / 2 ^ 84 = 0 && bitsOf v 0 4 ≠ 0 && bitsOf v 4 4 ≠ 0
      && within 1 4096 (bitsOf v 16 13) && within 1 4096 (bitsOf v 29 13)
  | 4 => ix < 16 && m.zeros (a + 4) 3 && v / 2 ^ 200 = 0 && bitsOf v 53 11 = 0 && within 1 4 (bitsOf v 2 3)
      && (bitsOf v 11 4 = 0 || bitsOf v 11 4 = 0xF) && within 1 16384 (bitsOf v 17 15)
      && (List.range (bitsOf v 2 3)).all fun i => within 1 4096 (bitsOf v (64 + 34 * i) 13)
  | _ => false

/-- 0x0103: a record breaks a limit of its section. -/
def FormeCtx.valueBad (x : FormeCtx) : List FormeBad :=
  let m := x.m
  let inReg (s : FormeSection) (f : FormeRegion → Bool) : Bool :=
    match x.reg s.region with
    | some d => f d
    | none => false
  let un := x.badRecs 0x0103
  let col (t : Nat) (o n : Nat) : List Nat := (recsOf m x.secs t).map fun r => m.nat (r.2.2 + o) n
  let rising (l : List Nat) : Bool := (l.zip (l.drop 1)).all fun q => q.1 < q.2
  let once (t : Nat) : List FormeBad := (ofType x.secs t).filterMap fun s =>
    if noRepeat ((s.recs m).map fun r => m.nat r.2 4) then none else some (0x0103, s.index, 0)
  un 1 (fun _ _ a => !reqOk m a) ++ (if rising (col 1 0 2) then [] else [(0x0103, 0, 0)])
    ++ un 2 (fun _ _ a => !rigOk m a)
    ++ un 3 (fun _ _ a => !x.mapOk a)
    ++ (if x.kind = 2 || (rising (col 3 0 1) && (col 3 0 1) = maskRegions (m.nat (x.b + 0xE) 2)) then [] else [(0x0103, 0, 0)])
    ++ un 4 (fun _ _ a => !routeRecOk m a) ++ (if noRepeat (col 4 0 2) then [] else [(0x0103, 0, 0)])
    ++ un 5 (fun s _ a => !traceRecOk m s.region a)
    ++ un 6 (fun s _ a => !inReg s fun d => budgetOk m d.rec_.images a)
    ++ (ofType x.secs 6).filterMap (fun s =>
        let k1 := ((s.recs m).filter fun r => m.nat r.2 1 = 1).length
        if (s.imp = 0xFF && k1 ≠ 1) || 1 < k1 then some (0x0103, s.index, 0) else none)
    ++ un 7 (fun _ _ a => !impRecOk m a)
    ++ (ofType x.secs 8).filterMap (fun s => if inReg s fun d => x.imageOk d.rec_.images s then none else some (0x0103, s.index, 0))
    ++ un 9 (fun s _ a => !inReg s fun d => relocOk m d a)
    ++ un 0xA (fun s _ a => !inReg s fun d => windowRecOk m d.rec_.images a)
    ++ un 0xB (fun s _ a => !inReg s fun d => syncRecOk m d.rec_.images a) ++ once 0xB
    ++ un 0xC (fun s _ a => !inReg s fun d => galleyRecOk m d.rec_.images a)
    ++ un 0xD (fun s _ a => !inReg s fun d => checkRecOk m d a)
    ++ un 0xE (fun _ _ a => !x.setoffRecOk a)
    ++ (if 1 < ((recsOf m x.secs 0xE).filter fun r => m.nat r.2.2 1 = 3).length then [(0x0103, 0, 0)] else [])
    ++ un 0xF (fun s _ a => !inReg s fun d => bandRecOk m d.rec_.period a)
    ++ un 0x10 (fun s _ a => !inReg s fun d => x.constRecOk d s a)
    ++ un 0x11 (fun s _ a => !inReg s fun d => gateRecOk m d.rec_.images a)

/-! ### Stroke parameters (R85, R87) -/

/-- R85 and R87 for one schedule length. -/
def RegionRec.strokeOk (r : RegionRec) (n : Nat) : Bool :=
  within 12500 12500000 r.period && ceilDiv r.period 50 ≤ r.minGutter && n + r.minGutter ≤ r.period && 1 ≤ n
    && within 1 65535 r.sheetLen

/-- 0x0104. -/
def FormeCtx.strokeBad (x : FormeCtx) : List FormeBad :=
  x.regs.filterMap fun d =>
    if d.rec_.strokeOk d.rec_.schedLen && d.imps.all (fun i => d.rec_.strokeOk (d.schedLen i.num)) then none
    else match (recsOf x.m x.secs 3).find? fun r => x.m.nat r.2.2 1 = d.region with
      | some r => some (0x0104, r.1.index, r.2.1)
      | none => some (0x0104, 0, 0)

/-! ### Floor plan (R392) -/

/-- The units that UNITS may name on a die: bit and unit number (R368). -/
def unitBits (s : Nat) : List (Nat × Nat) :=
  (0, 1) :: match dieClass s with
    | .compute => (List.range 4).map fun c => (1 + c, 2 + c)
    | .link => (List.range 4).map fun k => (1 + k, 8 + k)
    | .memory => (List.range 8).map fun k => (5 + k, 16 + k)
    | _ => []

/-- A FLOORPLAN_REQ record is met (R392). -/
def Panel.reqMet (p : Panel) (m : Mem) (a : Nat) : Bool :=
  let s := m.nat a 2
  let units := m.nat (a + 4) 2
  let derate := m.nat (a + 6) 2
  let bundles := m.nat (a + 8) 8
  let need := if m.nat (a + 2) 1 = 0 && s < 400 then p.dieState s = 0 else p.logicGood s
  need && (List.range 13).all (fun i => !bitOf units i || (unitBits s).any fun u => u.1 = i
      && (p.unitState s u.2 = .good || (p.unitState s u.2 = .derated && s < 400 && bitOf derate i)))
    && (List.range 64).all fun i => !bitOf bundles i || (i < 16 * faceCount s && p.bundleGood s (64 + i))

/-- The sites that must carry a NEED 0 record (R392). -/
def FormeCtx.needed (x : FormeCtx) : List Nat :=
  x.regs.flatMap fun d => d.rec_.sites ++ d.reserves.map (·.1) ++ d.images.map (·.home)

/-- 0x0105. -/
def FormeCtx.floorBad (x : FormeCtx) : List FormeBad :=
  let recs := recsOf x.m x.secs 1
  if x.kind = 2 || bitOf (x.m.nat (x.b + 7) 1) 0 then []
  else
    x.badRecs 0x0105 1 (fun _ _ a => !x.p.reqMet x.m a)
      ++ if x.needed.all fun s => recs.any fun r => x.m.nat r.2.2 2 = s && x.m.nat (r.2.2 + 2) 1 = 0 then []
         else [(0x0105, 0, 0)]

/-- DIGEST is that of the floor plan in force. -/
def FormeCtx.digestSame (x : FormeCtx) : Bool := x.m.nat (x.b + 0x18) 48 = x.p.field sitePD Csr.BST_FP_DIGEST

/-- 0x0106. -/
def FormeCtx.exactBad (x : FormeCtx) : List FormeBad :=
  if bitOf (x.m.nat (x.b + 7) 1) 0 && !x.digestSame then [(0x0106, 0, 0)] else []

/-! ### Claims (R394, R395) -/

/-- Two claims on one resource. The pool of reserves may be named by several regions but never lie in a region's sites,
ranges never overlap, even within a region, and a bundle may be named twice by its own region. -/
def Claim.conflicts (c d : Claim) : Bool :=
  if c.kind = 8 && d.kind = 8 then c.index < d.hi && d.index < c.hi
  else if c.kind = 2 && d.kind = 1 || c.kind = 1 && d.kind = 2 then c.index = d.index
  else if c.kind ≠ d.kind || c.kind = 2 then false
  else if c.kind = 3 || c.kind = 4 || c.kind = 9 then c.index = d.index && c.who ≠ d.who
  else c.index = d.index

/-- A conflict: the claim, and the claim that it meets. -/
def pairConflicts : List Claim → List (Claim × Claim)
  | [] => []
  | c :: cs => ((cs.filter fun d => c.conflicts d).map fun d => (d, c)) ++ pairConflicts cs

/-- SHARE of a region at its default budget (R372). -/
def FormeRegion.share (d : FormeRegion) : Nat :=
  match d.budgets.find? fun u => u.imp = 0xFF && u.kind = 1 with
  | some u => u.share
  | none => 0

/-- Send shards and stream ranges that a region declares (R344). -/
def FormeRegion.streams (d : FormeRegion) (m : Mem) (regs : List FormeRegion) (secs : List FormeSection) : Nat :=
  ((recsOf m d.sections 0xE).filter fun r => m.nat r.2.2 1 = 1).length
    + ((recsOf m secs 2).filter fun r => m.nat r.2.2 1 = 3 && m.nat (r.2.2 + 4) 1 = 0
        && rigRegion m regs secs r.1 r.2.2 = d.region).length

/-- The regions in force that a forme does not replace. -/
def FormeCtx.others (x : FormeCtx) : List Nat :=
  allRegions.filter fun r => !bitOf (x.m.nat (x.b + 0xE) 2) r && x.p.lockedUp r

/-- The claims of the ports that transit owns, which belong to no region. -/
def FormeCtx.transitClaims (x : FormeCtx) : List Claim :=
  (recsOf x.m x.secs 2).filterMap fun (s, i, a) =>
    if x.m.nat a 1 = 2 && x.m.nat (a + 6) 1 = 0xFF then some ⟨5, x.m.nat (a + 2) 2, 0, 0xFF, s.index, i⟩ else none

/-- The conflicts of the forme: with itself (0x0107) and with the regions in force (0x0108). -/
def FormeCtx.claimBad (x : FormeCtx) : List (Nat × Claim × Claim) :=
  let cs := x.regs.flatMap (·.claims) ++ x.transitClaims
  let inForce := x.p.claimsInForce (x.m.nat (x.b + 0xE) 2)
  let own := (pairConflicts cs).map fun q => (0x0107, q.1, q.2)
  let theirs := cs.flatMap fun c => (inForce.filter fun d => c.conflicts d).map fun d => (0x0108, c, d)
  let sum (l : List Nat) : Nat := l.sum
  let share := sum (x.regs.map (·.share))
  let shareForce := sum (x.others.map fun r => (x.p.region r).forme.share)
  let first : Claim := ⟨10, 0, 0, match x.regs with
    | d :: _ => d.region
    | [] => 0, 0, 0⟩
  let other (l : List Nat) : Nat := match l with
    | r :: _ => r
    | [] => 0xFF
  let shares := if 100 < share then [(0x0107, first, first)]
    else if 100 < share + shareForce then [(0x0108, first, { first with who := other x.others })] else []
  let st := sum (x.regs.map fun d => d.streams x.m x.regs x.secs)
  let stForce := (x.p.fabric.shards.filter fun h => h.send && hasNat x.others h.region).length
  let seven : Claim := { first with kind := 7, index := 64 }
  let streams := if x.kind = 2 then [] else if 64 < st then [(0x0107, seven, seven)]
    else if 64 < st + stForce then [(0x0108, seven, { seven with who := other x.others })] else []
  own ++ theirs ++ shares ++ streams

/-! ### Routes (R107, R308, R402) -/

/-- The die that an output code leads to, if it leads to one (R306). -/
def hopNext (s code : Nat) : Option Nat := if code < faceCount s then some (facing s code).1 else none

/-- The route of a packet from die `s`: the dies and codes that it takes, at most `n` of them. -/
def routePath (view : Nat → Nat) : Nat → Nat → List (Nat × Nat)
  | 0, _ => []
  | n + 1, s =>
    match hopNext s (view s) with
    | some t => (s, view s) :: routePath view n t
    | none => []

/-- The channel dependencies of a version: each hop's channel and the next one's, over every destination. -/
def channelDeps (routers : List Nat) (view : Nat → Nat → Nat) : List (Nat × Nat) :=
  allSites.flatMap fun d => routers.filterMap fun s =>
    match hopNext s (view s d) with
    | some t => match hopNext t (view t d) with
      | some _ => some (s * 4 + view s d, t * 4 + view t d)
      | none => none
    | none => none

/-- Takes the dependencies away whose first channel no other one leads to, again and again. -/
def peel : Nat → List (Nat × Nat) → List (Nat × Nat)
  | 0, l => l
  | n + 1, l => peel n (l.filter fun q => l.any fun r => r.2 = q.1)

/-- A version's channel dependencies have no cycle. -/
def acyclic (routers : List Nat) (view : Nat → Nat → Nat) : Bool :=
  let l := channelDeps routers view
  (peel l.length l).isEmpty

/-- A version keeps the limit of 40 hops from every router to every die (R107). -/
def shortRoutes (routers : List Nat) (view : Nat → Nat → Nat) : Bool :=
  allSites.all fun d => routers.all fun s => (routePath (fun t => view t d) 41 s).length ≤ 40

/-- A version keeps the detour rule: no packet between two dies outside a set enters it (R402). -/
def detourOk (routers : List Nat) (view : Nat → Nat → Nat) (sites : List Nat) : Bool :=
  let out := routers.filter fun s => !sites.contains s
  out.all fun d => out.all fun s => (routePath (fun t => view t d) 41 s).all fun q =>
    match hopNext q.1 q.2 with
    | some t => !sites.contains t
    | none => true

/-- The version of ROUTE_TABLE's nibble `v`, over the routes in force where a KIND 1 forme gives none. -/
def FormeCtx.routeView (x : FormeCtx) (v s d : Nat) : Nat :=
  match (recsOf x.m x.secs 4).find? fun r => x.m.nat r.2.2 2 = s with
  | some r => bitsOf (x.m.nat (r.2.2 + 0xC + d) 1) (4 * v) 4
  | none => if x.kind = 0 then 15 else x.p.routeCode s d (x.p.field x.p.primary Csr.FAB_STATUS_EPOCH)

/-- 0x0109. -/
def FormeCtx.routeBad (x : FormeCtx) : List FormeBad :=
  let rs := x.p.routerDies
  let one := (ofType x.secs 4).map (·.index)
  let ok (v : Nat) : Bool := shortRoutes rs (x.routeView v) && acyclic rs (x.routeView v)
  let every := rs.all fun s => (recsOf x.m x.secs 4).any fun r => x.m.nat r.2.2 2 = s
  let detour := match x.regs with
    | d :: _ => detourOk rs (x.routeView 0) d.rec_.sites
    | [] => true
  let good := match x.kind with
    | 0 => every && ok 0 && ok 1
    | 1 => (one.isEmpty || (ok 0 && ok 1)) && detour
    | _ => true
  if good then [] else [(0x0109, nth one 0 0, 0)]

/-! ### Rigging (R292, R312, R329, R340, R369) -/

/-- A bundle's role as the forme rigs it, or as it stands. -/
def FormeCtx.roleOf (x : FormeCtx) (s b : Nat) : Nat :=
  match (recsOf x.m x.secs 2).find? fun r => x.m.nat r.2.2 1 = 1 && x.m.nat (r.2.2 + 2) 2 = s with
  | some r => bitsOf (x.m.nat (r.2.2 + 4 + 4 * (b / 16)) 4) (2 * (b % 16)) 2
  | none => x.p.rigRole s b

/-- The roles that both ends of an edge list (R328, R329). -/
def Panel.roleUsable (p : Panel) (s b role : Nat) : Bool :=
  role = 0 || bitOf (bitsOf (Nat.land (p.field s Csr.AZL_CAP_LOCAL) (p.field s (Csr.AZL_CAP_PEER (b / 16)))) 56 8) (role - 1)

/-- The bundle record of a die is legal: usable roles, the mesh only between two compute dies of one region. -/
def FormeCtx.bundlesOk (x : FormeCtx) (a : Nat) : Bool :=
  let s := x.m.nat (a + 2) 2
  let inReach := x.kind = 0 || x.regs.any fun d => d.rec_.sites.contains s
    || (edgeDie s && d.rec_.sites.contains (edgeDieNeighbour s).1)
  inReach && (List.range 64).all fun b =>
    let role := bitsOf (x.m.nat (a + 4 + 4 * (b / 16)) 4) (2 * (b % 16)) 2
    if 16 * faceCount s ≤ b then role = 0
    else
      let far := farBundle s b
      x.p.roleUsable s b role
        && (role ≠ 1 || (s < 400 && far.1 < 400 && (x.ownerOf s).isSome && x.ownerOf s = x.ownerOf far.1))

/-- The dies of a trace: each record's site and entry. -/
def traceNodes (m : Mem) (secs : List FormeSection) (t : Nat) : List (Nat × Nat) :=
  ((secs.flatMap fun s => s.recs m).filter fun r => m.nat r.2 1 = t).map fun r => (m.nat (r.2 + 2) 2, m.nat (r.2 + 4) 4)

/-- The bundles on which an entry sends. -/
def traceOuts (entry : Nat) : List Nat :=
  (if bitOf entry 12 then [bitsOf entry 6 6] else []) ++ (if bitOf entry 19 then [bitsOf entry 13 6] else [])

/-- The dies of a trace reached from some of them in `n` hops. -/
def traceReach (nodes : List (Nat × Nat)) : Nat → List Nat → List Nat
  | 0, l => l
  | n + 1, l =>
    let next := l.flatMap fun s =>
      match nodes.find? fun q => q.1 = s with
      | some q => (traceOuts q.2).map fun b => (farBundle s b).1
      | none => []
    l ++ traceReach nodes n next

/-- A trace is a tree of trace-rigged bundles with one source, inside its region (R312). -/
def FormeCtx.traceOk (x : FormeCtx) (d : FormeRegion) (nodes : List (Nat × Nat)) : Bool :=
  let sites := nodes.map (·.1)
  let sources := nodes.filter fun q => bitsOf q.2 0 6 = 0x3F
  let links := nodes.all fun q =>
    (traceBundles q.1 q.2).all (fun b => x.roleOf q.1 b = 3) &&
    (traceOuts q.2).all (fun b => b < 16 * faceCount q.1 && x.roleOf (farBundle q.1 b).1 (farBundle q.1 b).2 = 3
      && nodes.any fun r => r.1 = (farBundle q.1 b).1 && bitsOf r.2 0 6 = (farBundle q.1 b).2)
      && (bitsOf q.2 0 6 = 0x3F || nodes.any fun r => (traceOuts r.2).any fun b => farBundle r.1 b = (q.1, bitsOf q.2 0 6))
  match sources with
  | [src] => noRepeat sites && links && sites.all (fun s => 400 ≤ s || d.rec_.sites.contains s)
      && noRepeat (traceReach nodes nodes.length [src.1]) && (traceReach nodes nodes.length [src.1]).length = nodes.length
  | _ => false

/-- The traces of a region under an imposition are trees that share no bundle (R312). -/
def FormeCtx.tracesOk (x : FormeCtx) (d : FormeRegion) (imp : Nat) : Bool :=
  let secs := d.serving 5 imp
  let ts := distinct ((secs.flatMap fun s => s.recs x.m).map fun r => x.m.nat r.2 1)
  let out (t : Nat) : List Nat := (traceNodes x.m secs t).flatMap fun q => (traceOuts q.2).map fun b => bundleId q.1 b
  ts.all (fun t => x.traceOk d (traceNodes x.m secs t)) && noRepeat (ts.flatMap out)

/-- 0x010A. -/
def FormeCtx.rigBad (x : FormeCtx) : List FormeBad :=
  let missing := x.kind = 0 && !(x.p.routerDies.all fun s =>
    (recsOf x.m x.secs 2).any fun r => x.m.nat r.2.2 1 = 1 && x.m.nat (r.2.2 + 2) 2 = s)
  let traces := x.regs.filter fun d => !((List.range d.rec_.impCount).all fun i => x.tracesOk d i)
  x.badRecs 0x010A 2 (fun _ _ a => x.m.nat a 1 = 1 && !x.bundlesOk a)
    ++ (if missing then [(0x010A, nth ((ofType x.secs 2).map (·.index)) 0 0, 0)] else [])
    ++ traces.map fun d => (0x010A, nth ((ofType d.sections 5).map (·.index)) 0 0, 0)

/-- A port record agrees with the port's role, and no record names a port that its region does not own (R340, R369). -/
def FormeCtx.portOk (x : FormeCtx) (sec : FormeSection) (a : Nat) : Bool :=
  let m := x.m
  let q := m.nat (a + 2) 2
  let ld := linkOfPort q
  let owner := m.nat (a + 6) 1
  let rig := recsOf m x.secs 2
  let own (role : Nat) : Bool :=
    let r := rigRegion m x.regs x.secs sec a
    r < 16 && rig.any fun y => m.nat y.2.2 1 = 2 && m.nat (y.2.2 + 2) 2 = q && m.nat (y.2.2 + 6) 1 = r
      && m.nat (y.2.2 + 4) 1 = role
  match m.nat a 1 with
  | 2 => m.nat (a + 4) 1 = x.p.portRole q && m.nat (a + 5) 1 = x.p.field ld (Csr.LNK_P_ROLE_ETH_MODE (q % 4))
      && (if x.kind = 0 then owner = 0xFF || (x.reg owner).isSome else owner = sec.region)
  | 4 => own 2
  | 5 => own 3 && (x.p.field ld (Csr.LNK_P_ROLE_ETH_MODE (q % 4)) = 0 || m.nat (a + 4) 1 < 2)
  | _ => true

/-- 0x010B. -/
def FormeCtx.portBad (x : FormeCtx) : List FormeBad :=
  let ports := ((recsOf x.m x.secs 2).filter fun r => x.m.nat r.2.2 1 = 2).map fun r => x.m.nat (r.2.2 + 2) 2
  x.badRecs 0x010B 2 (fun s _ a => !x.portOk s a)
    ++ if noRepeat ports && (x.kind ≠ 0 || ports.length = 128) then [] else [(0x010B, nth ((ofType x.secs 2).map (·.index)) 0 0, 0)]

/-! ### Gate tables and quotas (R225, R274) -/

/-- The expert entry `i` of an image (R384 KIND 2); 0 where no record gives it. -/
def etabOf (m : Mem) (recs : List Nat) (i : Nat) : Nat :=
  recs.foldl (fun v a =>
    let first := m.nat (a + 4) 2
    if m.nat (a + 2) 1 = 2 && first ≤ i && i < first + m.nat (a + 6) 1 then m.nat (a + 0x10 + 4 * (i - first)) 4 else v) 0

/-- The slot ranges of experts lie below `lim` and apart. -/
def sharesApart (lim : Nat) : List (Nat × Nat) → Bool
  | [] => true
  | (b, n) :: rest => b + n ≤ lim && rest.all (fun r => n = 0 || r.2 = 0 || b + n ≤ r.1 || r.1 + r.2 ≤ b) && sharesApart lim rest

/-- A gate descriptor keeps R225. -/
def gateOk (m : Mem) (recs : List Nat) (v : Nat) : Bool :=
  let e := bitsOf v 0 10 + 1
  let k := bitsOf v 10 4
  let etab := bitsOf v 14 14
  let s := bitsOf v 28 15
  let ranges := (List.range e).map fun i => let w := etabOf m recs (etab + i)
    (bitsOf w 0 14, bitsOf w 14 12)
  within 1 (min 8 e) k && s ≤ 16384 && bitsOf v 43 11 ≤ 1024 && etab + e ≤ 16384 && sharesApart s ranges

/-- 0x010C. -/
def FormeCtx.gateBad (x : FormeCtx) : List FormeBad :=
  if x.kind = 2 then []
  else (recsOf x.m x.secs 0x11).filterMap fun (s, i, a) =>
    match x.reg s.region with
    | some d =>
      if x.m.nat (a + 2) 1 = 1 && bitOf (x.m.nat (a + 0x10) 8) 60
          && !gateOk x.m (d.recsFor x.m 0x11 (x.m.nat a 2)) (x.m.nat (a + 0x10) 8) then some (0x010C, s.index, i) else none
    | none => none

/-- The galley slots of a region: the quotas of its images and 64 for each line galley (R274, R381, R394). -/
def FormeRegion.slots (d : FormeRegion) (m : Mem) : Nat :=
  (d.images.map fun im =>
    match (d.recsFor m 0xC im.image).find? fun a => m.nat (a + 2) 1 = 2 with
    | some a => m.nat (a + 8) 1 + m.nat (a + 9) 1 + m.nat (a + 10) 1 + m.nat (a + 11) 1 + 64
    | none => 4 * 64 + 64).sum

/-- 0x010D. -/
def FormeCtx.quotaBad (x : FormeCtx) : List FormeBad :=
  let own := (x.regs.map fun d => d.slots x.m).sum
  let force := (x.others.map fun r => (x.p.region r).forme.slots x.m).sum
  if 65536 < own + force then [(0x010D, nth ((ofType x.secs 0xC).map (·.index)) 0 0, 0)] else []

/-! ### Relocations (R378) -/

/-- V of a relocation for the site of its target (R378). -/
def relocValue (kind cl site : Nat) : Nat :=
  match kind with
  | 1 => site
  | 2 => sliceAddr site cl 0
  | _ => 0x200000000000 + site * 0x1000000

/-- The panel address in the staged forme of the word that a relocation patches, and its bytes (R376, R378). -/
def relocSource (m : Mem) (im : ImageDesc) (w : Nat) : Nat × Nat :=
  if bitOf w 31 then
    let k := bitsOf w 16 5
    (im.at_ + ceilDiv (coreStart m im k) 64 * 64 + 4 * bitsOf w 0 14, 4)
  else (im.at_ + 0x1000 + bitsOf w 0 31, 8)

/-- The value that a relocation puts into its field, before it is cut to WIDTH. -/
def relocSum (m : Mem) (im : ImageDesc) (a site : Nat) : Nat :=
  let (src, n) := relocSource m im (m.nat (a + 4) 4)
  bitsOf (m.nat src n) (m.nat (a + 9) 1) (m.nat (a + 0xA) 1)
    + relocValue (m.nat (a + 8) 1) (m.nat (a + 0xC) 1) site / 2 ^ m.nat (a + 0xB) 1

/-- 0x010E: a relocation overflows under an imposition that places its target. -/
def FormeCtx.relocBad (x : FormeCtx) : List FormeBad :=
  x.regs.flatMap fun d => (recsOf x.m d.sections 9).filterMap fun (s, i, a) =>
    match d.image (x.m.nat a 2) with
    | some im =>
      let spill := d.imps.any fun p => match p.siteOf (x.m.nat (a + 2) 2) with
        | some site => 2 ^ x.m.nat (a + 0xA) 1 ≤ relocSum x.m im a site
        | none => false
      if spill then some (0x010E, s.index, i) else none
    | none => some (0x010E, s.index, i)

/-! ### Impositions, homes and bands (R365, R373–R375) -/

/-- An imposition is legal for its region. -/
def FormeRegion.impOk (d : FormeRegion) (m : Mem) (x : FormeSection) : Bool :=
  let i := impositionOf m x
  let kinds := (x.recs m).map fun r => m.nat r.2 1
  let rising := (kinds.zip (kinds.drop 1)).all fun q => q.1 ≤ q.2
  let sites := i.places.map (·.2)
  rising && (kinds.filter fun k => k = 0).length = 1 && x.imp < d.rec_.impCount
    && (if i.ikind = 1 then d.rec_.sites.contains i.lost && !sites.contains i.lost else i.lost = 0xFFFF)
    && i.places.all (fun q => (d.image q.1).isSome && d.rec_.sites.contains q.2) && noRepeat sites
    && noRepeat (i.places.map (·.1)) && i.idle.all (fun q => d.rec_.sites.contains q.1 && !sites.contains q.1)
    && noRepeat (i.idle.map (·.1))
    && (x.imp ≠ d.rec_.defaultImp || (i.ikind = 0 && i.places.all fun q => match d.image q.1 with
        | some im => im.home = q.2
        | none => false))

/-- Bands follow one another without gap or overlap from `e` % to 100 % (R375). -/
def bandsFrom : Nat → List Band → Bool
  | e, [] => e = 101
  | e, b :: bs => b.lo = e && b.lo ≤ b.hi && b.hi ≤ 100 && bandsFrom (b.hi + 1) bs

/-- The bands cover 4 % to 100 % in order with no gap or overlap, and name draw impositions (R375). -/
def FormeRegion.bandsOk (d : FormeRegion) : Bool :=
  bandsFrom 4 d.bands && d.bands.all fun b => match d.imp b.imp with
    | some i => i.ikind = 0
    | none => false

/-- W and HOME are distinct and homes lie in SITES (R365). -/
def FormeRegion.homesOk (d : FormeRegion) : Bool :=
  noRepeat (d.images.map (·.work)) && noRepeat (d.images.map (·.home)) && d.images.all fun im => d.rec_.sites.contains im.home

/-- 0x010F. -/
def FormeCtx.impBad (x : FormeCtx) : List FormeBad :=
  x.regs.flatMap fun d =>
    let secs := ofType d.sections 7
    let one (t : Nat) : Nat := nth ((ofType d.sections t).map (·.index)) 0 0
    (secs.filterMap fun s => if d.impOk x.m s then none else some (0x010F, s.index, 0))
      ++ (if d.homesOk then [] else [(0x010F, one 8, 0)])
      ++ (if d.bandsOk then [] else [(0x010F, one 0xF, 0)])
      ++ (if (List.range d.rec_.impCount).all fun i => (d.imp i).isSome then [] else [(0x010F, one 7, 0)])

/-! ### State and test controls -/

/-- 0x0110; in PARK no lock-up starts (spec/20). -/
def FormeCtx.stateBad (x : FormeCtx) : List FormeBad :=
  let bad := if x.kind = 0 then !x.p.noForme
    else x.regs.any (fun d => !x.p.lockedUp d.region) || x.m.nat (x.b + 0x56) 1 ≠ x.p.fabric.containMode
  if bad || x.p.field sitePD Csr.DRW_STATUS_MODE = 0 then [(0x0110, 0, 0)] else []

/-- 0x0111. -/
def FormeCtx.testBad (x : FormeCtx) : List FormeBad :=
  if x.regs.any fun d => d.rec_.sites.any fun s =>
      x.p.isSet s Csr.CLK_CTRL_COUPLE_OFF || x.p.isSet s Csr.DEN_CTRL_INJECT || x.p.isSet s Csr.SPA_CTRL_INJECT
        || x.p.isSet s Csr.SPA_CTRL_META_INJECT then [(0x0111, 0, 0)] else []

/-- The first failed check in the order of R391's table, and the claims it names. -/
def FormeCtx.firstBad (x : FormeCtx) : Option (FormeBad × Option (Claim × Claim)) :=
  let before := x.sectionBad ++ x.valueBad ++ x.strokeBad ++ x.floorBad ++ x.exactBad
  let after := x.routeBad ++ x.rigBad ++ x.portBad ++ x.gateBad ++ x.quotaBad ++ x.relocBad ++ x.impBad ++ x.stateBad ++ x.testBad
  match before with
  | b :: _ => some (b, none)
  | [] => match x.claimBad with
    | (code, c, d) :: _ => some ((code, c.section_, c.record), some (c, d))
    | [] => match after with
      | b :: _ => some (b, none)
      | [] => none

end Sys2Proof.Machine
end

