-- ==== Sys2Proof/Machine/Compositor.lean ====
section
/-! DEFINITION. The compositor cores (R135–R141): one definition per instruction, each the issue of that instruction by one
thread with its register fields and immediates. Cycle counts and port cycles (R136, R138) are timing and are left out. -/

namespace Sys2Proof.Machine

/-- A register field. -/
abbrev RegNo := BitVec 5

/-- Sign extension of a 16-bit immediate. -/
def sext16 (imm : BitVec 16) : Word := imm.signExtend 32
/-- Zero extension of a 16-bit immediate. -/
def zext16 (imm : BitVec 16) : Word := imm.zeroExtend 32

/-- The number of a thread within its die: 32c + 4k + t (R140, RDS item 4). -/
def threadNo (t : ThreadId) : Nat := 32 * t.cluster + 4 * t.core + t.thread

/-- A thread's registers. -/
def Panel.thread (p : Panel) (t : ThreadId) : Thread := SMap.get (fun _ => {}) p.threads (t.site * 128 + threadNo t)
def Panel.modThread (p : Panel) (t : ThreadId) (f : Thread → Thread) : Panel :=
  { p with threads := SMap.modify (fun _ => {}) p.threads (t.site * 128 + threadNo t) f }

/-- A scalar register with its fox bit; x0 reads zero (R135). -/
def Thread.reg (h : Thread) (r : RegNo) : Word × Bool :=
  if r.toNat = 0 then (0, false)
  else (SMap.get (fun _ => 0) h.x r.toNat, SMap.get (fun _ => false) h.xFox r.toNat)

/-- Writes a scalar register and its fox bit; a write to x0 is lost (R135, R139). -/
def Thread.setReg (h : Thread) (r : RegNo) (v : Word) (fox : Bool) : Thread :=
  if r.toNat = 0 then h
  else { h with x := SMap.set (fun _ => 0) h.x r.toNat v, xFox := SMap.set (fun _ => false) h.xFox r.toNat fox }

/-- A vector register with its fox bit (R135). -/
def Thread.vreg (h : Thread) (r : RegNo) : Nat × Bool :=
  (SMap.get (fun _ => 0) h.v r.toNat, SMap.get (fun _ => false) h.vFox r.toNat)

/-- Writes a vector register and its fox bit (R135, R139). -/
def Thread.setVreg (h : Thread) (r : RegNo) (v : Nat) (fox : Bool) : Thread :=
  { h with v := SMap.set (fun _ => 0) h.v r.toNat (v % 2 ^ 512),
           vFox := SMap.set (fun _ => false) h.vFox r.toNat fox }

/-- The next instruction follows. -/
def Thread.step (h : Thread) : Thread := { h with pc := h.pc + 1 }

/-- Clears a thread's running bit in STK_CMP_THREADS (R137). -/
def Panel.markThread (p : Panel) (t : ThreadId) (b : Bool) : Panel :=
  p.setField t.site Csr.STK_CMP_THREADS (putBits (p.field t.site Csr.STK_CMP_THREADS) (threadNo t) 1 (flag b))

/-- The instruction word at a thread's PC in its core's instruction memory (R135). -/
def Panel.cmpWord (p : Panel) (t : ThreadId) : Nat :=
  (p.word t.site (0x200000 + 0x10000 * (8 * t.cluster + t.core) + 4 * (p.thread t).pc)).toNat

/-- A compositor fault: STK_CMP_FAULT names the thread, its PC and the instruction word, the code is raised, and the
thread issues nothing further. -/
def Panel.cmpFault (p : Panel) (t : ThreadId) (code : Nat) : Panel :=
  let w := p.cmpWord t
  let v := t.thread % 4 + 4 * (t.core % 8) + 32 * (t.cluster % 4) + 128 * ((p.thread t).pc % 16384) + 2 ^ 32 * w
  let p := p.setField t.site Csr.STK_CMP_FAULT v
  let p := p.modThread t fun h => { h with stopped := true }
  p.raiseAt t.site t.cluster code

/-- A thread runs (R137). -/
def Panel.threadRuns (p : Panel) (t : ThreadId) : Bool := bitOf (p.field t.site Csr.STK_CMP_THREADS) (threadNo t)

/-! ### Instruction words (R140) -/

/-- A field of an instruction word: its lowest bit, its width and its value. -/
abbrev CmpField := Nat × Nat × Nat

/-- The fields of each format (R140): the register fields and immediates that an instruction gives. -/
def fmtR (rd rs1 rs2 : RegNo) : List CmpField := [(21, 5, rd.toNat), (16, 5, rs1.toNat), (11, 5, rs2.toNat)]
def fmtI (rd rs1 : RegNo) (imm : BitVec 16) : List CmpField := [(21, 5, rd.toNat), (16, 5, rs1.toNat), (0, 16, imm.toNat)]
def fmtSh (rd rs1 : RegNo) (sh : BitVec 5) : List CmpField := [(21, 5, rd.toNat), (16, 5, rs1.toNat), (0, 5, sh.toNat)]
def fmtJ (rd : RegNo) (target : BitVec 14) : List CmpField := [(21, 5, rd.toNat), (0, 14, target.toNat)]
def fmtS (rs : RegNo) (idx imm8 : BitVec 8) : List CmpField := [(21, 5, rs.toNat), (8, 8, idx.toNat), (0, 8, imm8.toNat)]
def fmtV (vd vs1 vs2 : RegNo) (ty : BitVec 3) : List CmpField := fmtR vd vs1 vs2 ++ [(8, 3, ty.toNat)]

/-- A word is the instruction of an opcode with the given fields. -/
def cmpIs (w op : Nat) (fs : List CmpField) : Bool := bitsOf w 26 6 = op && fs.all fun f => bitsOf w f.1 f.2.1 = f.2.2

/-- The lane width of a vector type in bits; 0 when reserved (R141). -/
def laneBits (ty : Nat) : Nat :=
  match ty with
  | 0 => 8 | 1 => 32 | 2 => 16 | 3 => 16 | 4 => 32 | 5 => 8 | 6 => 8 | _ => 0

/-- The lanes of a vector type. -/
def laneCount (ty : Nat) : Nat := if laneBits ty = 0 then 0 else 512 / laneBits ty

/-- A V-format word is legal: its vector register fields are at most 15, and its type and its immediate are among those that the
instruction takes (R140, R141). -/
def vectorLegal (w : Nat) : Bool :=
  let op := bitsOf w 26 6
  let ty := bitsOf w 8 3
  let imm := bitsOf w 0 8
  bitsOf w 11 5 ≤ 15 && (op = 0x33 || bitsOf w 21 5 ≤ 15) && (op = 0x26 || op = 0x27 || op = 0x32 || bitsOf w 16 5 ≤ 15)
    && (match op with
      | 0x26 => true
      | 0x27 => true
      | 0x2D => ty ≤ 4 && imm ≤ 5
      | 0x2F => ty ≤ 6 && imm % 8 ≤ 6
      | 0x32 => ty ≤ 6
      | 0x33 => ty ≤ 4 && imm < laneCount ty
      | _ => ty ≤ 4)

/-- An instruction word is legal (R140): a listed opcode, the fields that its format names zero zero, and a legal V format. -/
def cmpLegal (w : Nat) : Bool :=
  let op := bitsOf w 26 6
  if op = 0 || 0x34 ≤ op then false
  else if op ≤ 0x0E then bitsOf w 0 11 = 0
  else if op ≤ 0x12 then true
  else if op ≤ 0x15 then bitsOf w 5 11 = 0
  else if op = 0x16 then bitsOf w 16 5 = 0
  else if op ≤ 0x1F then true
  else if op = 0x20 then bitsOf w 14 7 = 0
  else if op = 0x21 then true
  else if op ≤ 0x25 then bitsOf w 16 5 = 0 && (op ≠ 0x23 || bitsOf w 0 8 = 0) && (op ≠ 0x24 || bitsOf w 8 8 = 0)
  else vectorLegal w

/-- A running thread comes up for issue: an idle or stopped thread issues nothing, nor does any while the die holds, and a PC beyond
16,383 raises 0x022E (R81, R137, R138). -/
def Panel.cmpTurn (p : Panel) (t : ThreadId) (f : Panel → Thread → Panel) : Panel :=
  let h := p.thread t
  if h.stopped || !p.threadRuns t || p.holding t.site then p
  else if 16383 < h.pc then p.cmpFault t 0x022E
  else f p h

/-- Issues the instruction of an opcode and fields, when it is the word at the thread's PC; an illegal word raises 0x022D (R140). -/
def Panel.cmpIssue (p : Panel) (t : ThreadId) (op : Nat) (fs : List CmpField) (f : Panel → Thread → Panel) : Panel :=
  p.cmpTurn t fun p h =>
    if !cmpIs (p.cmpWord t) op fs then p else if !cmpLegal (p.cmpWord t) then p.cmpFault t 0x022D else f p h

/-! ### Scalar instructions -/

/-- A scalar result of two operands with their fox bits (R139). -/
def Panel.cmpAlu (p : Panel) (t : ThreadId) (op : Nat) (fs : List CmpField) (rd : RegNo) (a b : Thread → Word × Bool)
    (f : Word → Word → Word) : Panel :=
  p.cmpIssue t op fs fun p h =>
    p.modThread t fun g => (g.setReg rd (f (a h).1 (b h).1) ((a h).2 || (b h).2)).step

/-- An R-format instruction. -/
def Panel.cmpR (p : Panel) (t : ThreadId) (op : Nat) (rd rs1 rs2 : RegNo) (f : Word → Word → Word) : Panel :=
  p.cmpAlu t op (fmtR rd rs1 rs2) rd (·.reg rs1) (·.reg rs2) f

/-- An I-format instruction with its fields and its extended immediate. -/
def Panel.cmpI (p : Panel) (t : ThreadId) (op : Nat) (fs : List CmpField) (rd rs1 : RegNo) (imm : Word) (f : Word → Word → Word) :
    Panel :=
  p.cmpAlu t op fs rd (·.reg rs1) (fun _ => (imm, false)) f

/-- The value of a product or a conversion of `n` bytes: not defined when an operand is foxed (spec/06, cases of rounding), and
then a free value. -/
def Panel.freeIf (p : Panel) (fox : Bool) (v n : Nat) : Nat × Panel :=
  if fox then
    let (bs, p) := p.drawBytes 139 n
    (leNat bs, p)
  else (v, p)

/-- A scalar product (R140). -/
def Panel.cmpProduct (p : Panel) (t : ThreadId) (op : Nat) (rd rs1 rs2 : RegNo) (f : Word → Word → Word) : Panel :=
  p.cmpIssue t op (fmtR rd rs1 rs2) fun p h =>
    let (a, fa) := h.reg rs1
    let (b, fb) := h.reg rs2
    let (v, p) := p.freeIf (fa || fb) (f a b).toNat 4
    p.modThread t fun g => (g.setReg rd (BitVec.ofNat 32 v) (fa || fb)).step

/-- 1 or 0 as a word. -/
def boolWord (b : Bool) : Word := if b then 1 else 0

/-- A branch (R139, R140): a foxed condition raises 0x022F, and a taken branch whose target lies below 0 or above 16,383
raises 0x022E. -/
def Panel.cmpBranch (p : Panel) (t : ThreadId) (op : Nat) (rs1 rs2 : RegNo) (off : BitVec 16) (c : Word → Word → Bool) : Panel :=
  p.cmpIssue t op (fmtI rs1 rs2 off) fun p h =>
    let (a, fa) := h.reg rs1
    let (b, fb) := h.reg rs2
    if fa || fb then p.cmpFault t 0x022F
    else if c a b then
      let target := (h.pc : Int) + off.toInt
      if target < 0 || 16383 < target then p.cmpFault t 0x022E
      else p.modThread t fun g => { g with pc := target.toNat }
    else p.modThread t Thread.step

/-! ### Memory instructions (R138, R139) -/

/-- The slice offset rs1 + displacement of an access of `n` bytes, when the address register is not foxed, the offset is
inside the slice and aligned; otherwise the fault code. -/
def cmpAddr (base : Word × Bool) (disp : Word) (n : Nat) : Except Nat Nat :=
  let off := (base.1 + disp).toNat
  if base.2 then .error 0x022F
  else if sliceBytesTotal ≤ off || off % n ≠ 0 then .error 0x022E
  else .ok off

/-- A scalar load of `n` bytes, zero-extended; the destination takes the fox of the data (R139, R257). -/
def Panel.cmpLoad (p : Panel) (m : Mem) (t : ThreadId) (op : Nat) (rd rs1 : RegNo) (imm : BitVec 16) (n : Nat) : Panel :=
  p.cmpIssue t op (fmtI rd rs1 imm) fun p h =>
    match cmpAddr (h.reg rs1) (sext16 imm) n with
    | .error code => p.cmpFault t code
    | .ok off =>
      let (d, p) := p.sliceRead m t.site t.cluster off n
      p.modThread t fun g => (g.setReg rd (BitVec.ofNat 32 (leNat d.data)) d.fox).step

/-- A scalar store of `n` bytes: a read-modify-write of its row within one access (R256). A row already foxed or that
fails parity stays or becomes foxed, and a foxed register foxes its 64 B (R139). -/
def Panel.cmpStore (p : Panel) (m : Mem) (t : ThreadId) (op : Nat) (rs rs1 : RegNo) (imm : BitVec 16) (n : Nat) : Panel :=
  p.cmpIssue t op (fmtI rs rs1 imm) fun p h =>
    match cmpAddr (h.reg rs1) (sext16 imm) n with
    | .error code => p.cmpFault t code
    | .ok off =>
      let (v, fv) := h.reg rs
      let (row, p) := p.sliceRead m t.site t.cluster (off / 64 * 64) 64
      let p := p.put { addr := sliceAddr t.site t.cluster off, data := leBytes n v.toNat, fox := some (row.fox || fv) }
      p.modThread t Thread.step

/-- The displacement of a vector access: 64 × imm8 (R140). -/
def vdisp (imm8 : BitVec 8) : Word := BitVec.ofNat 32 (64 * imm8.toNat)

/-- The fields of a vector access (R140). -/
def fmtVmem (v rs1 : RegNo) (imm8 : BitVec 8) : List CmpField := [(21, 5, v.toNat), (16, 5, rs1.toNat), (0, 8, imm8.toNat)]

/-- A 64 B vector load (R138). -/
def Panel.cmpVld (p : Panel) (m : Mem) (t : ThreadId) (vd rs1 : RegNo) (imm8 : BitVec 8) : Panel :=
  p.cmpIssue t 0x26 (fmtVmem vd rs1 imm8) fun p h =>
    match cmpAddr (h.reg rs1) (vdisp imm8) 64 with
    | .error code => p.cmpFault t code
    | .ok off =>
      let (d, p) := p.sliceRead m t.site t.cluster off 64
      p.modThread t fun g => (g.setVreg vd (leNat d.data) d.fox).step

/-- A 64 B vector store: a full-row write that copies the register's fox bit (R138, R139, R256). -/
def Panel.cmpVst (p : Panel) (t : ThreadId) (vs rs1 : RegNo) (imm8 : BitVec 8) : Panel :=
  p.cmpIssue t 0x27 (fmtVmem vs rs1 imm8) fun p h =>
    match cmpAddr (h.reg rs1) (vdisp imm8) 64 with
    | .error code => p.cmpFault t code
    | .ok off =>
      let (v, fv) := h.vreg vs
      let p := p.sliceWrite t.site t.cluster off ⟨leBytes 64 v, fv⟩
      p.modThread t Thread.step

/-! ### Vector lanes (R141) -/

/-- Lane `i` of a vector. -/
def lane (ty v i : Nat) : Nat := bitsOf v (laneBits ty * i) (laneBits ty)

/-- A vector from its lanes, lane 0 first; lanes not given are zero. -/
def fromLanes (w : Nat) : List Nat → Nat
  | [] => 0
  | x :: xs => x % 2 ^ w + 2 ^ w * fromLanes w xs

/-- The floating layout of a vector type, when it is floating. -/
def laneFmt (ty : Nat) : Option FloatFmt :=
  match ty with
  | 2 => some fmtF16 | 3 => some fmtBF16 | 4 => some fmtF32 | 5 => some fmtE4M3 | 6 => some fmtE5M2 | _ => none

/-- The number in a lane. -/
def laneNum (ty x : Nat) : Num :=
  match laneFmt ty with
  | some f => f.decode x
  | none => Num.ofInt (signed (laneBits ty) x)

/-- An integer lane result: INT8 saturates and INT32 wraps (R141). -/
def laneInt (ty : Nat) (x : Int) : Nat :=
  if ty = 0 then unsigned 8 (satInt 8 x) else unsigned 32 x

/-- One lane of an arithmetic result given as an exact value: a floating lane rounds once to nearest even (R152, R153). -/
def laneResult (ty : Nat) (ints : Int) (x : Num) : Nat :=
  match laneFmt ty with
  | some f => f.round false .nearest x
  | none => laneInt ty ints

/-- The signed integer in a lane. -/
def laneSigned (ty x : Nat) : Int := signed (laneBits ty) x

/-- Lane-wise addition, subtraction, multiplication and fused multiply-add (R140, R141). -/
def laneAdd (ty a b : Nat) : Nat := laneResult ty (laneSigned ty a + laneSigned ty b) ((laneNum ty a).add (laneNum ty b))
def laneSub (ty a b : Nat) : Nat :=
  laneResult ty (laneSigned ty a - laneSigned ty b) ((laneNum ty a).add (laneNum ty b).neg)
def laneMul (ty a b : Nat) : Nat := laneResult ty (laneSigned ty a * laneSigned ty b) ((laneNum ty a).mul (laneNum ty b))
def laneFma (ty d a b : Nat) : Nat :=
  laneResult ty (laneSigned ty d + laneSigned ty a * laneSigned ty b) ((laneNum ty d).add ((laneNum ty a).mul (laneNum ty b)))

/-- Lane-wise maximum (R141): +0 is larger than −0, and a NaN operand gives the canonical NaN. -/
def laneMax (ty a b : Nat) : Nat :=
  match laneFmt ty with
  | none => if laneSigned ty a < laneSigned ty b then b else a
  | some f =>
    let x := laneNum ty a
    let y := laneNum ty b
    if x = .nan || y = .nan then f.nan.getD 0
    else if x.lt y then b
    else if y.lt x then a
    else if bitOf a (laneBits ty - 1) then b else a

/-- Lane-wise comparison (R140, R141): 0 EQ, 1 NE, 2 LT, 3 LE, 4 GT, 5 GE; with a NaN only NE is true. -/
def laneCmp (ty op a b : Nat) : Bool :=
  let x := laneNum ty a
  let y := laneNum ty b
  match op with
  | 0 => x.eqv y
  | 1 => !x.eqv y
  | 2 => x.lt y
  | 3 => x.lt y || x.eqv y
  | 4 => y.lt x
  | _ => y.lt x || x.eqv y

/-- One lane converted between types (R141): through binary32 between integer and floating formats (R158), and under
R154 otherwise. -/
def laneCvt (src dst x : Nat) : Nat :=
  match laneFmt src, laneFmt dst with
  | none, none => if dst = 0 then unsigned 8 (satInt 8 (laneSigned src x)) else unsigned 32 (laneSigned src x)
  | none, some f => f.round true .nearest (f32 (toF32 (laneNum src x)))
  | some _, none => unsigned (laneBits dst) (toInt (laneBits dst) .nearest (f32 (toF32 (laneNum src x))))
  | some _, some f => f.round true .nearest (laneNum src x)

/-- Pairs of adjacent elements added. -/
def pairUp {α : Type} (f : α → α → α) : List α → List α
  | a :: b :: r => f a b :: pairUp f r
  | l => l

/-- Level-by-level pairwise sum (R141). -/
def pairSum {α : Type} (f : α → α → α) (d : α) : Nat → List α → α
  | 0, l => l.headD d
  | n + 1, l => if l.length ≤ 1 then l.headD d else pairSum f d n (pairUp f l)

/-- VRED's value (R141): INT32 saturating, or binary32 rounded at each addition. -/
def laneReduce (ty v : Nat) : Nat :=
  let xs := (List.range (laneCount ty)).map fun i => lane ty v i
  match laneFmt ty with
  | none => unsigned 32 (pairSum (fun a b => satInt 32 (a + b)) 0 8 (xs.map fun x => laneSigned ty x))
  | some _ => pairSum (fun a b => roundF32 ((f32 a).add (f32 b))) 0 8 (xs.map fun x => toF32 (laneNum ty x))

/-- A lane-wise vector instruction of two sources: its opcode and fields, its lane, whether it reads vd and whether it is a
product. -/
def Panel.cmpV (p : Panel) (t : ThreadId) (op : Nat) (fs : List CmpField) (vd vs1 vs2 : RegNo) (ty : BitVec 3)
    (f : Nat → Nat → Nat → Nat → Nat) (readsVd : Bool) (product : Bool := false) : Panel :=
  p.cmpIssue t op fs fun p h =>
    let k := ty.toNat
    let (d, fd) := h.vreg vd
    let (a, fa) := h.vreg vs1
    let (b, fb) := h.vreg vs2
    let r := fromLanes (laneBits k) ((List.range (laneCount k)).map fun i => f k (lane k d i) (lane k a i) (lane k b i))
    let fox := fa || fb || (readsVd && fd)
    let (r, p) := p.freeIf (fox && product) r 64
    p.modThread t fun g => (g.setVreg vd r fox).step

/-- The NaN lanes that a conversion to an integer type squashes, counted in SPR_C_NAN_SQUASH (R154, R167), foxed
or not (DESIGN CHOICE: notes/assumptions/149.md). -/
def Panel.countSquash (p : Panel) (t : ThreadId) (src dst n a : Nat) : Panel :=
  if (laneFmt src).isSome && (laneFmt dst).isNone then
    p.tally t.site (Csr.SPR_C_NAN_SQUASH t.cluster) (((List.range n).filter fun i => laneNum src (lane src a i) = .nan).length)
  else p

/-! ### The commands -/

/-- CMP_ADD (R140). -/
def execCmpAdd (t : ThreadId) (rd rs1 rs2 : RegNo) (s : State) : Host.Outcome State Fault Refusal :=
  .next (s.quiet fun p => p.cmpR t 0x01 rd rs1 rs2 fun a b => a + b)
/-- CMP_SUB (R140). -/
def execCmpSub (t : ThreadId) (rd rs1 rs2 : RegNo) (s : State) : Host.Outcome State Fault Refusal :=
  .next (s.quiet fun p => p.cmpR t 0x02 rd rs1 rs2 fun a b => a - b)
/-- CMP_AND (R140). -/
def execCmpAnd (t : ThreadId) (rd rs1 rs2 : RegNo) (s : State) : Host.Outcome State Fault Refusal :=
  .next (s.quiet fun p => p.cmpR t 0x03 rd rs1 rs2 fun a b => a &&& b)
/-- CMP_OR (R140). -/
def execCmpOr (t : ThreadId) (rd rs1 rs2 : RegNo) (s : State) : Host.Outcome State Fault Refusal :=
  .next (s.quiet fun p => p.cmpR t 0x04 rd rs1 rs2 fun a b => a ||| b)
/-- CMP_XOR (R140). -/
def execCmpXor (t : ThreadId) (rd rs1 rs2 : RegNo) (s : State) : Host.Outcome State Fault Refusal :=
  .next (s.quiet fun p => p.cmpR t 0x05 rd rs1 rs2 fun a b => a ^^^ b)
/-- CMP_SLL (R140): by rs2[4:0]. -/
def execCmpSll (t : ThreadId) (rd rs1 rs2 : RegNo) (s : State) : Host.Outcome State Fault Refusal :=
  .next (s.quiet fun p => p.cmpR t 0x06 rd rs1 rs2 fun a b => a <<< (b.toNat % 32))
/-- CMP_SRL (R140): by rs2[4:0]. -/
def execCmpSrl (t : ThreadId) (rd rs1 rs2 : RegNo) (s : State) : Host.Outcome State Fault Refusal :=
  .next (s.quiet fun p => p.cmpR t 0x07 rd rs1 rs2 fun a b => a >>> (b.toNat % 32))
/-- CMP_SRA (R140): by rs2[4:0]. -/
def execCmpSra (t : ThreadId) (rd rs1 rs2 : RegNo) (s : State) : Host.Outcome State Fault Refusal :=
  .next (s.quiet fun p => p.cmpR t 0x08 rd rs1 rs2 fun a b => a.sshiftRight (b.toNat % 32))
/-- CMP_SLT (R140). -/
def execCmpSlt (t : ThreadId) (rd rs1 rs2 : RegNo) (s : State) : Host.Outcome State Fault Refusal :=
  .next (s.quiet fun p => p.cmpR t 0x09 rd rs1 rs2 fun a b => boolWord (a.slt b))
/-- CMP_SLTU (R140). -/
def execCmpSltu (t : ThreadId) (rd rs1 rs2 : RegNo) (s : State) : Host.Outcome State Fault Refusal :=
  .next (s.quiet fun p => p.cmpR t 0x0A rd rs1 rs2 fun a b => boolWord (a.ult b))
/-- CMP_MUL (R140): the low 32 bits of the product. -/
def execCmpMul (t : ThreadId) (rd rs1 rs2 : RegNo) (s : State) : Host.Outcome State Fault Refusal :=
  .next (s.quiet fun p => p.cmpProduct t 0x0B rd rs1 rs2 fun a b => a * b)
/-- CMP_MULHU (R140): the high 32 bits of the unsigned product. -/
def execCmpMulhu (t : ThreadId) (rd rs1 rs2 : RegNo) (s : State) : Host.Outcome State Fault Refusal :=
  .next (s.quiet fun p => p.cmpProduct t 0x0C rd rs1 rs2 fun a b => BitVec.ofNat 32 (a.toNat * b.toNat / 2 ^ 32))
/-- CMP_MIN (R140): signed. -/
def execCmpMin (t : ThreadId) (rd rs1 rs2 : RegNo) (s : State) : Host.Outcome State Fault Refusal :=
  .next (s.quiet fun p => p.cmpR t 0x0D rd rs1 rs2 fun a b => if b.slt a then b else a)
/-- CMP_MAX (R140): signed. -/
def execCmpMax (t : ThreadId) (rd rs1 rs2 : RegNo) (s : State) : Host.Outcome State Fault Refusal :=
  .next (s.quiet fun p => p.cmpR t 0x0E rd rs1 rs2 fun a b => if a.slt b then b else a)
/-- CMP_ADDI (R140): the immediate is signed. -/
def execCmpAddi (t : ThreadId) (rd rs1 : RegNo) (imm : BitVec 16) (s : State) : Host.Outcome State Fault Refusal :=
  .next (s.quiet fun p => p.cmpI t 0x0F (fmtI rd rs1 imm) rd rs1 (sext16 imm) fun a b => a + b)
/-- CMP_ANDI (R140): the immediate is zero-extended. -/
def execCmpAndi (t : ThreadId) (rd rs1 : RegNo) (imm : BitVec 16) (s : State) : Host.Outcome State Fault Refusal :=
  .next (s.quiet fun p => p.cmpI t 0x10 (fmtI rd rs1 imm) rd rs1 (zext16 imm) fun a b => a &&& b)
/-- CMP_ORI (R140). -/
def execCmpOri (t : ThreadId) (rd rs1 : RegNo) (imm : BitVec 16) (s : State) : Host.Outcome State Fault Refusal :=
  .next (s.quiet fun p => p.cmpI t 0x11 (fmtI rd rs1 imm) rd rs1 (zext16 imm) fun a b => a ||| b)
/-- CMP_XORI (R140). -/
def execCmpXori (t : ThreadId) (rd rs1 : RegNo) (imm : BitVec 16) (s : State) : Host.Outcome State Fault Refusal :=
  .next (s.quiet fun p => p.cmpI t 0x12 (fmtI rd rs1 imm) rd rs1 (zext16 imm) fun a b => a ^^^ b)
/-- CMP_SLLI (R140): imm[15:5] is zero. -/
def execCmpSlli (t : ThreadId) (rd rs1 : RegNo) (sh : BitVec 5) (s : State) : Host.Outcome State Fault Refusal :=
  .next (s.quiet fun p => p.cmpI t 0x13 (fmtSh rd rs1 sh) rd rs1 0 fun a _ => a <<< sh.toNat)
/-- CMP_SRLI (R140). -/
def execCmpSrli (t : ThreadId) (rd rs1 : RegNo) (sh : BitVec 5) (s : State) : Host.Outcome State Fault Refusal :=
  .next (s.quiet fun p => p.cmpI t 0x14 (fmtSh rd rs1 sh) rd rs1 0 fun a _ => a >>> sh.toNat)
/-- CMP_SRAI (R140). -/
def execCmpSrai (t : ThreadId) (rd rs1 : RegNo) (sh : BitVec 5) (s : State) : Host.Outcome State Fault Refusal :=
  .next (s.quiet fun p => p.cmpI t 0x15 (fmtSh rd rs1 sh) rd rs1 0 fun a _ => a.sshiftRight sh.toNat)
/-- CMP_LUI (R140): rd = imm << 16. -/
def execCmpLui (t : ThreadId) (rd : RegNo) (imm : BitVec 16) (s : State) : Host.Outcome State Fault Refusal :=
  .next (s.quiet fun p => p.cmpI t 0x16 (fmtI rd 0 imm) rd 0 (zext16 imm) fun _ b => b <<< 16)
/-- CMP_LW (R138). -/
def execCmpLw (t : ThreadId) (rd rs1 : RegNo) (imm : BitVec 16) (s : State) : Host.Outcome State Fault Refusal :=
  .next (s.store fun m p => p.cmpLoad m t 0x17 rd rs1 imm 4)
/-- CMP_LBU (R138). -/
def execCmpLbu (t : ThreadId) (rd rs1 : RegNo) (imm : BitVec 16) (s : State) : Host.Outcome State Fault Refusal :=
  .next (s.store fun m p => p.cmpLoad m t 0x18 rd rs1 imm 1)
/-- CMP_SW (R138). -/
def execCmpSw (t : ThreadId) (rs rs1 : RegNo) (imm : BitVec 16) (s : State) : Host.Outcome State Fault Refusal :=
  .next (s.store fun m p => p.cmpStore m t 0x19 rs rs1 imm 4)
/-- CMP_SB (R138). -/
def execCmpSb (t : ThreadId) (rs rs1 : RegNo) (imm : BitVec 16) (s : State) : Host.Outcome State Fault Refusal :=
  .next (s.store fun m p => p.cmpStore m t 0x1A rs rs1 imm 1)
/-- CMP_BEQ (R140). -/
def execCmpBeq (t : ThreadId) (rs1 rs2 : RegNo) (off : BitVec 16) (s : State) : Host.Outcome State Fault Refusal :=
  .next (s.quiet fun p => p.cmpBranch t 0x1B rs1 rs2 off fun a b => a == b)
/-- CMP_BNE (R140). -/
def execCmpBne (t : ThreadId) (rs1 rs2 : RegNo) (off : BitVec 16) (s : State) : Host.Outcome State Fault Refusal :=
  .next (s.quiet fun p => p.cmpBranch t 0x1C rs1 rs2 off fun a b => a != b)
/-- CMP_BLT (R140): signed. -/
def execCmpBlt (t : ThreadId) (rs1 rs2 : RegNo) (off : BitVec 16) (s : State) : Host.Outcome State Fault Refusal :=
  .next (s.quiet fun p => p.cmpBranch t 0x1D rs1 rs2 off fun a b => a.slt b)
/-- CMP_BGE (R140): signed. -/
def execCmpBge (t : ThreadId) (rs1 rs2 : RegNo) (off : BitVec 16) (s : State) : Host.Outcome State Fault Refusal :=
  .next (s.quiet fun p => p.cmpBranch t 0x1E rs1 rs2 off fun a b => !a.slt b)
/-- CMP_BLTU (R140): unsigned. -/
def execCmpBltu (t : ThreadId) (rs1 rs2 : RegNo) (off : BitVec 16) (s : State) : Host.Outcome State Fault Refusal :=
  .next (s.quiet fun p => p.cmpBranch t 0x1F rs1 rs2 off fun a b => a.ult b)
/-- CMP_JAL (R140): rd = PC + 1; PC = target. -/
def execCmpJal (t : ThreadId) (rd : RegNo) (target : BitVec 14) (s : State) : Host.Outcome State Fault Refusal :=
  .next (s.quiet fun p => p.cmpIssue t 0x20 (fmtJ rd target) fun p h => p.modThread t fun g =>
    { g.setReg rd (BitVec.ofNat 32 (h.pc + 1)) false with pc := target.toNat })
/-- CMP_JALR (R140): rd = PC + 1; PC = (rs1 + imm)[13:0]; a foxed rs1 raises 0x022F (R139). -/
def execCmpJalr (t : ThreadId) (rd rs1 : RegNo) (imm : BitVec 16) (s : State) : Host.Outcome State Fault Refusal :=
  .next (s.quiet fun p => p.cmpIssue t 0x21 (fmtI rd rs1 imm) fun p h =>
    let (a, fa) := h.reg rs1
    if fa then p.cmpFault t 0x022F
    else p.modThread t fun g =>
      { g.setReg rd (BitVec.ofNat 32 (h.pc + 1)) false with pc := (a + sext16 imm).toNat % 16384 })
/-- CMP_SIG (R140): adds rs + imm8 to a local counter; a foxed delta raises 0x022F (R139). -/
def execCmpSig (t : ThreadId) (rs : RegNo) (idx imm8 : BitVec 8) (s : State) : Host.Outcome State Fault Refusal :=
  .next (s.quiet fun p => p.cmpIssue t 0x22 (fmtS rs idx imm8) fun p h =>
    let (a, fa) := h.reg rs
    if fa then p.cmpFault t 0x022F
    else (p.addCounter t.site idx.toNat (a.toNat + imm8.toNat) t.site).modThread t Thread.step)
/-- CMP_SRD (R140): rs = a local counter. -/
def execCmpSrd (t : ThreadId) (rs : RegNo) (idx : BitVec 8) (s : State) : Host.Outcome State Fault Refusal :=
  .next (s.quiet fun p => p.cmpIssue t 0x23 (fmtS rs idx 0) fun p _ => p.modThread t fun g =>
    (g.setReg rs (BitVec.ofNat 32 (p.field t.site (Csr.STK_SYNC_CTR idx.toNat))) false).step)


/-- The items of RDS (R140); panel time is the die's own count (R64). -/
def Panel.rdsItem (p : Panel) (t : ThreadId) (item : Nat) : Nat :=
  match item with
  | 0 => p.dieStamp t.site % 2 ^ 32
  | 1 => p.dieStamp t.site / 2 ^ 32
  | 2 => p.field t.site Csr.STK_SEQ_POS_CYCLE
  | 3 => t.site
  | 4 => threadNo t
  | 5 => p.field t.site Csr.STK_STROKE % 2 ^ 32
  | _ => 0

/-- CMP_RDS (R140): reads a system item. -/
def execCmpRds (t : ThreadId) (rs : RegNo) (item : BitVec 8) (s : State) : Host.Outcome State Fault Refusal :=
  .next (s.quiet fun p => p.cmpIssue t 0x24 (fmtS rs 0 item) fun p _ =>
    p.modThread t fun g => (g.setReg rs (BitVec.ofNat 32 (p.rdsItem t item.toNat)) false).step)
/-- CMP_END (R137, R140): adds rs + imm8 to a counter when imm8 or rs is nonzero, and the thread becomes idle. "rs is
nonzero" is read of the register's value. -/
def execCmpEnd (t : ThreadId) (rs : RegNo) (idx imm8 : BitVec 8) (s : State) : Host.Outcome State Fault Refusal :=
  .next (s.quiet fun p => p.cmpIssue t 0x25 (fmtS rs idx imm8) fun p h =>
    let (a, fa) := h.reg rs
    if fa then p.cmpFault t 0x022F
    else
      let p := if a = 0 && imm8 = 0 then p else p.addCounter t.site idx.toNat (a.toNat + imm8.toNat) t.site
      let p := p.modSeq t.site fun q => { q with launched := q.launched.filter fun n => n ≠ threadNo t }
      (p.modThread t Thread.step).markThread t false)
/-- CMP_VLD (R138). -/
def execCmpVld (t : ThreadId) (vd rs1 : RegNo) (imm8 : BitVec 8) (s : State) : Host.Outcome State Fault Refusal :=
  .next (s.store fun m p => p.cmpVld m t vd rs1 imm8)
/-- CMP_VST (R138). -/
def execCmpVst (t : ThreadId) (vs rs1 : RegNo) (imm8 : BitVec 8) (s : State) : Host.Outcome State Fault Refusal :=
  .next (s.store fun _ p => p.cmpVst t vs rs1 imm8)
/-- CMP_VADD (R141). -/
def execCmpVadd (t : ThreadId) (vd vs1 vs2 : RegNo) (ty : BitVec 3) (s : State) : Host.Outcome State Fault Refusal :=
  .next (s.quiet fun p => p.cmpV t 0x28 (fmtV vd vs1 vs2 ty) vd vs1 vs2 ty (fun k _ a b => laneAdd k a b) false)
/-- CMP_VSUB (R141). -/
def execCmpVsub (t : ThreadId) (vd vs1 vs2 : RegNo) (ty : BitVec 3) (s : State) : Host.Outcome State Fault Refusal :=
  .next (s.quiet fun p => p.cmpV t 0x29 (fmtV vd vs1 vs2 ty) vd vs1 vs2 ty (fun k _ a b => laneSub k a b) false)
/-- CMP_VMUL (R141). -/
def execCmpVmul (t : ThreadId) (vd vs1 vs2 : RegNo) (ty : BitVec 3) (s : State) : Host.Outcome State Fault Refusal :=
  .next (s.quiet fun p => p.cmpV t 0x2A (fmtV vd vs1 vs2 ty) vd vs1 vs2 ty (fun k _ a b => laneMul k a b) false true)
/-- CMP_VFMA (R141): vd + vs1 × vs2 with one rounding. -/
def execCmpVfma (t : ThreadId) (vd vs1 vs2 : RegNo) (ty : BitVec 3) (s : State) : Host.Outcome State Fault Refusal :=
  .next (s.quiet fun p => p.cmpV t 0x2B (fmtV vd vs1 vs2 ty) vd vs1 vs2 ty (fun k d a b => laneFma k d a b) true true)
/-- CMP_VMAX (R141). -/
def execCmpVmax (t : ThreadId) (vd vs1 vs2 : RegNo) (ty : BitVec 3) (s : State) : Host.Outcome State Fault Refusal :=
  .next (s.quiet fun p => p.cmpV t 0x2C (fmtV vd vs1 vs2 ty) vd vs1 vs2 ty (fun k _ a b => laneMax k a b) false)
/-- CMP_VCMP (R140, R141). -/
def execCmpVcmp (t : ThreadId) (vd vs1 vs2 : RegNo) (ty : BitVec 3) (op : BitVec 8) (s : State) :
    Host.Outcome State Fault Refusal :=
  .next (s.quiet fun p => p.cmpV t 0x2D (fmtV vd vs1 vs2 ty ++ [(0, 8, op.toNat)]) vd vs1 vs2 ty
    (fun k _ a b => if laneCmp k op.toNat a b then 2 ^ laneBits k - 1 else 0) false)
/-- CMP_VSEL (R140): the lane of vs1 where the lane of vd is nonzero, else of vs2. -/
def execCmpVsel (t : ThreadId) (vd vs1 vs2 : RegNo) (ty : BitVec 3) (s : State) : Host.Outcome State Fault Refusal :=
  .next (s.quiet fun p => p.cmpV t 0x2E (fmtV vd vs1 vs2 ty) vd vs1 vs2 ty (fun _ d a b => if d ≠ 0 then a else b) true)
/-- CMP_VCVT (R141): from `ty` to imm8[2:0]; the lanes beyond either type's count are zero. -/
def execCmpVcvt (t : ThreadId) (vd vs1 : RegNo) (ty : BitVec 3) (imm8 : BitVec 8) (s : State) :
    Host.Outcome State Fault Refusal :=
  .next (s.quiet fun p => p.cmpIssue t 0x2F ([(21, 5, vd.toNat), (16, 5, vs1.toNat), (8, 3, ty.toNat), (0, 8, imm8.toNat)]) fun p h =>
    let src := ty.toNat
    let dst := imm8.toNat % 8
    let (a, fa) := h.vreg vs1
    let n := min (laneCount src) (laneCount dst)
    let p := p.countSquash t src dst n a
    let (r, p) := p.freeIf fa (fromLanes (laneBits dst) ((List.range n).map fun i => laneCvt src dst (lane src a i))) 64
    let r := r % 2 ^ (n * laneBits dst)
    p.modThread t fun g => (g.setVreg vd r fa).step)
/-- CMP_VRED (R141): the pairwise sum in bytes 0–3 of vd, bytes 4–63 zero. -/
def execCmpVred (t : ThreadId) (vd vs1 : RegNo) (ty : BitVec 3) (s : State) : Host.Outcome State Fault Refusal :=
  .next (s.quiet fun p => p.cmpIssue t 0x30 ([(21, 5, vd.toNat), (16, 5, vs1.toNat), (8, 3, ty.toNat)]) fun p h =>
    let (a, fa) := h.vreg vs1
    let (r, p) := p.freeIf (fa && (laneFmt ty.toNat).isSome) (laneReduce ty.toNat a) 4
    p.modThread t fun g => (g.setVreg vd r fa).step)
/-- CMP_VPERM (R140): lane i of vd is lane (vs2 lane i modulo the lane count) of vs1. -/
def execCmpVperm (t : ThreadId) (vd vs1 vs2 : RegNo) (ty : BitVec 3) (s : State) : Host.Outcome State Fault Refusal :=
  .next (s.quiet fun p => p.cmpIssue t 0x31 (fmtV vd vs1 vs2 ty) fun p h =>
    let k := ty.toNat
    let (a, fa) := h.vreg vs1
    let (b, fb) := h.vreg vs2
    let n := laneCount k
    let r := fromLanes (laneBits k) ((List.range n).map fun i => lane k a (lane k b i % n))
    p.modThread t fun g => (g.setVreg vd r (fa || fb)).step)

/-- A splat value (R141): types 0 and 1 read rs1 as a signed integer, and the others as a binary32 pattern. -/
def splatLane (ty : Nat) (x : Word) : Nat :=
  match laneFmt ty with
  | none => laneInt ty (signed 32 x.toNat)
  | some f => f.round true .nearest (f32 x.toNat)

/-- CMP_VSPL (R141): types 0 to 6. -/
def execCmpVspl (t : ThreadId) (vd rs1 : RegNo) (ty : BitVec 3) (s : State) : Host.Outcome State Fault Refusal :=
  .next (s.quiet fun p => p.cmpIssue t 0x32 ([(21, 5, vd.toNat), (16, 5, rs1.toNat), (8, 3, ty.toNat)]) fun p h =>
    let k := ty.toNat
    let (a, fa) := h.reg rs1
    let (x, p) := p.freeIf fa (splatLane k a) 4
    let r := fromLanes (laneBits k) (List.replicate (laneCount k) x)
    p.modThread t fun g => (g.setVreg vd r fa).step)
/-- CMP_VEXT (R140, R141): one lane, sign-extended when integer and zero-extended when floating; a lane at or above the
type's count is illegal. -/
def execCmpVext (t : ThreadId) (rd vs1 : RegNo) (ty : BitVec 3) (imm8 : BitVec 8) (s : State) :
    Host.Outcome State Fault Refusal :=
  .next (s.quiet fun p => p.cmpIssue t 0x33 ([(21, 5, rd.toNat), (16, 5, vs1.toNat), (8, 3, ty.toNat), (0, 8, imm8.toNat)]) fun p h =>
    let k := ty.toNat
    let (a, fa) := h.vreg vs1
    let x := lane k a imm8.toNat
    let v := if (laneFmt k).isNone then unsigned 32 (laneSigned k x) else x
    p.modThread t fun g => (g.setReg rd (BitVec.ofNat 32 v) fa).step)
/-- CMP_ILLEGAL (R140): the word at the thread's PC is illegal and raises 0x022D. -/
def execCmpIllegal (t : ThreadId) (s : State) : Host.Outcome State Fault Refusal :=
  .next (s.quiet fun p => p.cmpTurn t fun p _ => if cmpLegal (p.cmpWord t) then p else p.cmpFault t 0x022D)

end Sys2Proof.Machine
end

