-- ==== Sys2Proof/Machine/DenseEngine.lean ====
section
/-! DEFINITION. The dense engine's load and the events of its operations (R169–R192). -/

namespace Sys2Proof.Machine

/-- The fields of WLOAD with its XIMM (R174). -/
structure WloadArgs where
  bank : Nat
  wfmt : Nat
  klen : Nat
  nlen : Nat
  addr : Nat
  stride : Nat
  saddr : Nat
deriving DecidableEq, Repr

def wloadArgs (w ximm : Nat) : WloadArgs :=
  ⟨bitsOf w 57 1, bitsOf w 53 4, bitsOf w 45 8 + 1, bitsOf w 37 8 + 1, bitsOf w 16 21, bitsOf w 4 12, ximm % 2 ^ 21⟩

/-- The bytes of one column, and of the whole scale plane with its padded block rows (R171). -/
def WloadArgs.colBytes (a : WloadArgs) : Nat := ceilDiv (a.klen * widthOf a.wfmt) 8
def WloadArgs.blockRow (a : WloadArgs) : Nat := 64 * ceilDiv a.nlen 64
def WloadArgs.planeBytes (a : WloadArgs) : Nat := if isMx a.wfmt then a.klen / 32 * a.blockRow else 0

/-- The pieces of a slice that a WLOAD reads: the columns, then the block rows of the scale plane (R171). -/
def WloadArgs.pieces (a : WloadArgs) : List (Nat × Nat) :=
  ((List.range a.nlen).map fun n => (64 * a.addr + 64 * a.stride * n, a.colBytes))
    ++ if isMx a.wfmt then (List.range (a.klen / 32)).map fun b => (64 * a.saddr + a.blockRow * b, a.nlen) else []

/-- How long a WLOAD occupies its port (R180). -/
def WloadArgs.busy (a : WloadArgs) : Nat :=
  ceilDiv (a.nlen * (64 * ceilDiv a.colBytes 64)) 256 + ceilDiv a.planeBytes 256

/-- The scale bytes of column `n` in the block rows read (R171). -/
def planeScales (plane : List Delivered) (n : Nat) : List Nat := plane.map fun d => (nth d.data n 0).toNat

/-- The tile that a WLOAD reads from a slice, with its check values (R171, R185, R190); `cyc` is the die cycle of its line. -/
def Panel.wloadTile (p : Panel) (m : Mem) (s c : Nat) (a : WloadArgs) (w ximm cyc : Nat) : Bank × Panel :=
  let width := widthOf a.wfmt
  let (ds, p) := p.gather m s c a.pieces
  let cols := (ds.take a.nlen).map fun d => (List.range a.klen).map fun k => packedElem d.data width k
  let pl := ds.drop a.nlen
  let scales := (List.range a.nlen).map fun n => planeScales pl n
  ({ ready := false, loading := true, wfmt := a.wfmt, klen := a.klen, nlen := a.nlen, cols := cols, scales := scales,
     sumC := tileC a.wfmt a.klen a.nlen cols scales, sumM := tileM a.wfmt a.klen a.nlen cols scales,
     fox := ds.any (·.fox), word := w, ximm := ximm, crc := crc32c (ds.flatMap (·.data)), cycle := cyc }, p)

/-- The issue of a WLOAD: the bank takes the tile and loads (R171, R180). -/
def Panel.doWload (p : Panel) (m : Mem) (s c w ximm id : Nat) : Panel :=
  let a := wloadArgs w ximm
  let cyc := p.field s Csr.STK_SEQ_POS_CYCLE
  let (b, p) := p.wloadTile m s c a w ximm cyc
  let p := p.setBank s c 0 a.bank b
  p.startOp s c 0 { kind := .load, id := id, bank := a.bank, portEnd := p.cycles s + a.busy, cycle := cyc }

/-- The plan of a WLOAD (R176, R181, R565). -/
def Panel.planWload (p : Panel) (m : Mem) (s c w : Nat) (ximm : Option Nat) : OpPlan :=
  let a := wloadArgs w (ximm.getD 0)
  let g := p.engine s c 0
  let now := p.cycles s
  let mx := isMx a.wfmt
  let t1 := now + a.busy
  .guard [
    (mx && ximm.isNone, engineCode 0 .ximm),
    ((g.bank a.bank).loading || g.bankUsed now a.bank, engineCode 0 .bank),
    (badFormats 0 0 a.wfmt a.wfmt a.klen, engineCode 0 .format),
    (a.stride = 0 || 64 * a.stride < a.colBytes || !inSlice (64 * a.addr) (64 * a.stride * (a.nlen - 1) + a.colBytes)
      || (mx && !inSlice (64 * a.saddr) a.planeBytes), engineCode 0 .range),
    (g.portBusy now 0, engineCode 0 .port)]
  { reqs := [⟨c, hullOf (64 * a.addr) (64 * a.stride) a.nlen a.colBytes, false, some t1⟩]
      ++ (if mx then [⟨c, spanOf (64 * a.saddr) a.planeBytes, false, some t1⟩] else []),
    act := fun id p => p.doWload m s c w (ximm.getD 0) id }

/-- The plan of a DE operation by its opcode (R174). -/
def Panel.planDense (p : Panel) (m : Mem) (s c w : Nat) (ximm : Option Nat) : OpPlan :=
  match bitsOf w 58 6 with
  | 1 => p.planWload m s c w ximm
  | 2 => p.planStream m s c 0 w ximm
  | 3 => p.planDrain s c 0 w
  | _ => p.planInit m s c 0 w

/-- WLOAD_READY (R180, R190). -/
def execWloadReady (site cluster : Nat) (s : State) : Host.Outcome State Fault Refusal :=
  .next (s.quiet fun p => p.unlessFrozen site fun p =>
    match (p.engine site cluster 0).oldest .load with
    | some o => p.bankReady site cluster 0 o
    | none => p)

/-- STREAM_DONE (R180); `parity` says that a weight bank failed parity during the STREAM (R191). -/
def execStreamDone (site cluster : Nat) (parity : Bool) (s : State) : Host.Outcome State Fault Refusal :=
  .next (s.quiet fun p => p.unlessFrozen site fun p => p.streamDone site cluster 0 parity)

/-- AINIT_DONE (R180). -/
def execAinitDone (site cluster : Nat) (s : State) : Host.Outcome State Fault Refusal :=
  .next (s.quiet fun p => p.unlessFrozen site fun p => p.initDone site cluster 0)

/-- DRAIN_DONE (R186–R192); `upset` is what a fault of the array or the store did to the drained values. -/
def execDrainDone (site cluster : Nat) (upset : List (Nat × Nat × Nat)) (s : State) : Host.Outcome State Fault Refusal :=
  .next (s.store fun _ p => p.unlessFrozen site fun p => p.drainDone site cluster 0 upset)

/-- DEN_INJECT (R192): DEN_CTRL.INJECT takes effect on a cluster. -/
def execDenInject (site cluster : Nat) (s : State) : Host.Outcome State Fault Refusal :=
  .next (s.quiet fun p => (p.setField site Csr.DEN_CTRL_INJ_CL cluster).setFlag site Csr.DEN_CTRL_INJECT true)

end Sys2Proof.Machine
end

