-- ==== Sys2Proof/Machine/Gate.lean ====
section
/-! DEFINITION. The units of slot 12: the routing gate, the justifier and the sort-merge unit (R219–R236). -/

namespace Sys2Proof.Machine

/-- The operations of slot 12 in flight. -/
def Panel.slot12Ops (p : Panel) (s : Nat) : List Slot12Op := SMap.get (fun _ => []) p.slot12 s

/-- Stores them, with JUS_STATUS as it stands. -/
def Panel.setSlot12 (p : Panel) (s : Nat) (l : List Slot12Op) : Panel :=
  let p := { p with slot12 := SMap.set (fun _ => []) p.slot12 s l }
  let busy (u : Nat) : Bool := l.any fun o => o.unit = u
  let ports := ((List.range 4).map fun c =>
    flag (l.any fun o => o.ports.contains c && p.cycles s < o.portEnd) * 2 ^ c).sum
  let p := p.setFlag s Csr.JUS_STATUS_GATE_BUSY (busy 0)
  let p := p.setFlag s Csr.JUS_STATUS_JUST_BUSY (busy 1)
  let p := p.setFlag s Csr.JUS_STATUS_MERGE_BUSY (busy 2)
  p.setField s Csr.JUS_STATUS_PORT_BUSY ports

/-- A unit, or a port of the clusters named, is occupied (R219, R221). -/
def Panel.slot12Busy (p : Panel) (s unit : Nat) (ports : List Nat) : Bool :=
  (p.slot12Ops s).any fun o => o.unit = unit || (p.cycles s < o.portEnd && o.ports.any ports.contains)

/-- The least n with x ≤ 2^n. -/
def clog2 (x : Nat) : Nat := if x ≤ 1 then 0 else Nat.log2 (x - 1) + 1

/-- Clusters of a mask. -/
def maskClusters (mask : Nat) : List Nat := (List.range 4).filter fun c => bitOf mask c

/-- A number in `n` bytes of a slice read. -/
def dnum (d : Delivered) (i n : Nat) : Nat := leAt d.data i n

/-! ### GATE (R225–R232) -/

/-- A gate descriptor with the fields of its operation (R220, R225). -/
structure GateArgs where
  gidx : Nat
  t : Nat
  saddr : Nat
  daddr : Nat
  e : Nat
  k : Nat
  etab : Nat
  slots : Nat
  cq : Nat
  carryMax : Nat
  policy : Nat
  wmode : Nat
  cl : Nat
  valid : Bool
deriving DecidableEq, Repr

def Panel.gateArgs (p : Panel) (s w : Nat) : GateArgs :=
  let g := bitsOf w 54 4
  { gidx := g, t := bitsOf w 42 12 + 1, saddr := bitsOf w 21 21, daddr := bitsOf w 0 21,
    e := p.field s (Csr.JUS_GATE_E_M1 g) + 1, k := p.field s (Csr.JUS_GATE_K g), etab := p.field s (Csr.JUS_GATE_ETAB g),
    slots := p.field s (Csr.JUS_GATE_S g), cq := p.field s (Csr.JUS_GATE_CQ g),
    carryMax := max 1 (p.field s (Csr.JUS_GATE_CARRY_MAX g)), policy := p.field s (Csr.JUS_GATE_POLICY g),
    wmode := p.field s (Csr.JUS_GATE_WMODE g), cl := p.field s (Csr.JUS_GATE_CL g),
    valid := p.isSet s (Csr.JUS_GATE_VALID g) }

/-- Rows of one token's scores, bytes of the slot map, X and L (R222, R226, R232). -/
def GateArgs.scoreRows (a : GateArgs) : Nat := ceilDiv a.e 16
def GateArgs.mapBytes (a : GateArgs) : Nat := 64 * ceilDiv (4 * a.slots) 64
def GateArgs.entries (a : GateArgs) : Nat := a.t * a.k + a.cq
def GateArgs.outBytes (a : GateArgs) : Nat := 64 + a.mapBytes + 16 * (a.entries + a.cq)

/-- A choice of the gate: one entry of its combine list (R232). -/
structure Choice where
  tok : Nat
  expert : Nat := 0xFFFF
  slot : Nat := 0xFFFF
  rank : Nat := 0
  /-- 0 served, 1 carried, 2 residual, 3 foxed, 4 served from carry, 5 empty. -/
  status : Nat := 2
  age : Nat := 0
  weight : Nat := 0
  carryRow : Nat := 0xFFFF
  origin : Nat := 0
deriving DecidableEq, Repr

/-- The 16 bytes of a combine-list or carry-out entry (R232). -/
def Choice.bytes (c : Choice) : List Byte :=
  leBytes 2 c.tok ++ leBytes 2 c.expert ++ leBytes 2 c.slot ++ leBytes 1 c.rank ++ leBytes 1 (c.status + 16 * c.age)
    ++ leBytes 4 c.weight ++ leBytes 2 c.carryRow ++ leBytes 2 c.origin

/-- An entry read back from a carry-out list (R230). -/
def choiceFrom (bs : List Byte) : Choice :=
  { tok := leAt bs 0 2, expert := leAt bs 2 2, slot := leAt bs 4 2, rank := leAt bs 6 1, status := leAt bs 7 1 % 16,
    age := leAt bs 7 1 / 16 % 4, weight := leAt bs 8 4, carryRow := leAt bs 12 2, origin := leAt bs 14 2 }

/-- Puts an element into a list ordered by falling score, after those of equal score (R226). -/
def scoreInsert {α : Type} (x : α × Num) : List (α × Num) → List (α × Num)
  | [] => [x]
  | y :: ys => if y.2.lt x.2 then x :: y :: ys else y :: scoreInsert x ys

/-- Elements by falling score; of equal scores the order given stays (R226, R228). -/
def scoreSort {α : Type} (l : List (α × Num)) : List (α × Num) := l.foldl (fun acc x => scoreInsert x acc) []

/-- `u / v` rounded once to binary32 (R227). -/
def divF32 (u v : Num) : Nat :=
  match u, v with
  | .fin su m e, .fin sv m' e' =>
    if m' = 0 then fmtF32.nan.getD 0
    else
      let n := m * 2 ^ 256 / m'
      let sticky := if m * 2 ^ 256 % m' = 0 then 0 else 1
      roundF32 (.fin (su != sv) (2 * n + sticky) (e - e' - 257))
  | _, _ => fmtF32.nan.getD 0

/-- The Taylor sum of exp(−y) for y = num × 2^-256 below 1/8, in units of 2^-256; `term` is y^n / n!. -/
def expTerms (y : Nat) : Nat → Nat → Nat → Int → Int
  | 0, _, _, acc => acc
  | fuel + 1, n, term, acc =>
    expTerms y fuel (n + 1) (term * y / 2 ^ 256 / (n + 1)) (acc + (if n % 2 = 0 then (term : Int) else -(term : Int)))

/-- Squares a 2^-256 fixed-point number `n` times. -/
def squares : Nat → Nat → Nat
  | 0, x => x
  | n + 1, x => squares n (x * x / 2 ^ 256)

/-- exp of a number that is not positive, rounded once to binary32 (R227). -/
def expF32 (d : Num) : Nat :=
  match d with
  | .nan => fmtF32.nan.getD 0
  | .inf _ => 0
  | .fin _ m e =>
    if m = 0 then 0x3F800000
    else if magLt 110 0 m e then 0
    else
      let z := if -246 ≤ e then m * 2 ^ (e + 246).toNat else m / 2 ^ (-246 - e).toNat
      roundF32 (.fin false (squares 10 (expTerms z 64 0 (2 ^ 256) 0).toNat) (-256))

/-- The weights of WMODE 1 over a token's eligible choices, rank 0 first (R227). -/
def softWeights (ss : List Num) : List Nat :=
  let one (n : Nat) : Nat := divF32 (.fin false 1 0) (.fin false n 0)
  match ss.headD Num.zero with
  | .inf false =>
    let n := (ss.filter fun x => x = .inf false).length
    ss.map fun x => if x = .inf false then one n else 0
  | .inf true => ss.map fun _ => one ss.length
  | s0 =>
    let us := ss.map fun x => expF32 (f32 (roundF32 (x.add s0.neg)))
    let sum := us.tail.foldl (fun a u => roundF32 ((f32 a).add (f32 u))) (us.headD 0)
    us.map fun u => divF32 (f32 u) (f32 sum)

/-- What the gate has placed so far: the slot map, the carry-out list and the codes met. -/
structure GateState where
  map : SMap (Nat × Nat) := []
  carried : List Choice := []
  codes : List Nat := []
deriving DecidableEq, Repr

/-- Places a choice in the lowest free slot of its expert's share, or lets it overflow (R228, R229). -/
def GateArgs.place (a : GateArgs) (stroke : Nat) (sheetEnd : Bool) (share : Nat → Nat × Nat) (fromCarry : Bool)
    (g : GateState) (c : Choice) : GateState × Choice :=
  let (base, n) := if c.expert < a.e then share c.expert else (0, 0)
  let free := ((List.range n).map fun i => base + i).find? fun i =>
    i < a.slots && SMap.get (fun _ => (0xFFFF, 0)) g.map i = (0xFFFF, 0)
  match free with
  | some i =>
    ({ g with map := SMap.set (fun _ => (0xFFFF, 0)) g.map i (c.tok, c.rank) },
     { c with slot := i, status := if fromCarry then 4 else 0 })
  | none =>
    if a.policy = 1 then (g, { c with status := 2 })
    else if a.carryMax ≤ c.age then ({ g with codes := g.codes ++ [0x0607] }, { c with status := 2 })
    else if a.cq ≤ g.carried.length then ({ g with codes := g.codes ++ [0x0606] }, { c with status := 2 })
    else if sheetEnd then (g, { c with status := 2 })
    else
      let c := { c with status := 1, carryRow := a.cq * (stroke % 2) + g.carried.length }
      ({ g with carried := g.carried ++ [c] }, c)

/-- Places choices in order. -/
def GateArgs.placeAll (a : GateArgs) (stroke : Nat) (sheetEnd : Bool) (share : Nat → Nat × Nat) (fromCarry : Bool) :
    GateState → List Choice → GateState × List Choice
  | g, [] => (g, [])
  | g, c :: cs =>
    let (g, c) := a.place stroke sheetEnd share fromCarry g c
    let (g, cs) := a.placeAll stroke sheetEnd share fromCarry g cs
    (g, c :: cs)

/-- An entry whose status is empty: the spec states its status and that it names no expert, slot or row; its token, rank,
weight and origin are free values. -/
def Panel.emptyEntry (p : Panel) : Choice × Panel :=
  let (t, p) := p.draw 232 16
  let (r, p) := p.draw 232 3
  let (w, p) := p.draw 232 32
  let (o, p) := p.draw 232 16
  ({ tok := t, rank := r, weight := w, origin := o, status := 5 }, p)

/-- Fills a list of entries up to `n` with empty ones. -/
def Panel.fillEntries (p : Panel) (cs : List Choice) : Nat → List Choice × Panel
  | 0 => (cs, p)
  | n + 1 =>
    let (c, p) := p.emptyEntry
    p.fillEntries (cs ++ [c]) n

/-- The foxed carry-in entries (R230): their carry rows follow from the stroke before; rank, age and origin are free. -/
def Panel.foxedCarry (p : Panel) (base : Nat) : Nat → Nat → List Choice × Panel
  | _, 0 => ([], p)
  | i, n + 1 =>
    let (r, p) := p.draw 230 3
    let (a, p) := p.draw 230 2
    let (o, p) := p.draw 230 16
    let (cs, p) := p.foxedCarry base (i + 1) n
    ({ tok := 0x8000 + base + i, rank := r, age := a, status := 3, origin := o } :: cs, p)

/-- The new choices of one token (R226, R227, R231), rank by rank, with the score of each, and whether its row held a
NaN. -/
def GateArgs.token (a : GateArgs) (enabled : Nat → Bool) (ti : Nat) (d : Delivered) : List (Choice × Num) × Bool :=
  if d.fox then
    ((List.range a.k).map fun r => ({ tok := ti, rank := r, status := 3, origin := ti }, Num.zero), false)
  else
    let bits := (List.range a.e).map fun x => dnum d (4 * x) 4
    let elig := (scoreSort ((bits.zipIdx.filter fun bx => enabled bx.2 && f32 bx.1 ≠ .nan).map fun bx =>
      (bx, f32 bx.1))).take a.k
    let ws := if a.wmode = 1 then softWeights (elig.map (·.2)) else elig.map (·.1.1)
    ((List.range a.k).map fun r =>
      match elig[r]? with
      | some x => ({ tok := ti, expert := x.1.2, rank := r, weight := nth ws r 0, origin := ti, status := 0 }, x.2)
      | none => ({ tok := ti, rank := r, origin := ti, status := 2 }, Num.zero),
     bits.any fun b => f32 b = .nan)

/-- The order in which new choices compete: rank by rank, by higher score, then lower token (R228). -/
def GateArgs.newOrder (a : GateArgs) (toks : List (List (Choice × Num))) : List (Choice × Num) :=
  (List.range a.k).flatMap fun r =>
    scoreSort (toks.filterMap fun cs => cs[r]?)

/-- The slice offset of the carry-out list in the output area at row `pa`, as its header's T and S place it (R230, R232); `none`
when the header reads foxed, so that the list is not read. -/
def Panel.carryList (p : Panel) (m : Mem) (s : Nat) (a : GateArgs) (pa : Nat) : Option Nat :=
  let m := p.memory m
  let at_ := sliceAddr s a.cl (64 * pa)
  if m.rowsFoxed at_ 1 then none
  else some (64 * pa + 64 + 64 * ceilDiv (4 * m.nat (at_ + 4) 2) 64 + 16 * (m.nat (at_ + 2) 2 * a.k + a.cq))

/-- The slice ranges that a GATE reads of its carry input: the header, and the list unless the header is foxed (R230). -/
def Panel.carryReads (p : Panel) (m : Mem) (s : Nat) (a : GateArgs) (pa : Nat) : List (Nat × Nat) :=
  (64 * pa, 64) :: match p.carryList m s a pa with
    | some o => [(o, 16 * a.cq)]
    | none => []

/-- The carry-in choices of a GATE from what it read of its carry input, and whether they are foxed (R229, R230). -/
def Panel.carryIn (p : Panel) (s : Nat) (a : GateArgs) (ds : List Delivered) : List Choice × Bool × Panel :=
  let l := nth ds 1 ⟨[], true⟩
  if ds.isEmpty then ([], false, p)
  else if ds.any (·.fox) || l.fox then
    let (cs, p) := p.foxedCarry (a.cq * ((p.field s Csr.STK_STROKE + 1) % 2)) 0 a.cq
    (cs, true, p)
  else
    let cs := ((List.range a.cq).map fun i => choiceFrom (sliceBytes l.data (16 * i) 16)).filter fun c => c.status = 1
    (cs.map fun c => { c with tok := 0x8000 + c.carryRow, age := c.age + 1, slot := 0xFFFF, carryRow := 0xFFFF }, false, p)

/-- Everything a GATE reads, computes and writes (R226–R232). Carry-in entries that no carried choice uses have status empty (DESIGN
CHOICE: notes/assumptions/155.md). -/
def Panel.doGate (p : Panel) (m : Mem) (s w id t1 : Nat) (paddr : Option Nat) : Panel :=
  let a := p.gateArgs s w
  let stroke := p.field s Csr.STK_STROKE
  let sheetEnd := p.isSet s Csr.STK_STATUS_SHEET_END
  let et (e : Nat) : Nat := p.field s (Csr.JUS_ETAB (a.etab + e))
  let share (e : Nat) : Nat × Nat := (bitsOf (et e) 0 14, bitsOf (et e) 14 12)
  let enabled (e : Nat) : Bool := bitOf (et e) 26
  let carry := match paddr with
    | some pa => p.carryReads m s a pa
    | none => []
  let (ds, p) := p.gather m s a.cl
    ((List.range a.t).map (fun i => (64 * a.saddr + 64 * a.scoreRows * i, 4 * a.e)) ++ carry)
  let scores := ds.take a.t
  let (cins, cfox, p) := p.carryIn s a (ds.drop a.t)
  let (g, cdone) := if cfox then (({} : GateState), cins) else a.placeAll stroke sheetEnd share true {} cins
  let toks := scores.zipIdx.map fun dt => a.token enabled dt.2 dt.1
  let order := (a.newOrder (toks.map (·.1))).map (·.1)
  let live := order.filter fun c => c.status = 0
  let (g, placed) := a.placeAll stroke sheetEnd share false g live
  let final (c : Choice) : Choice :=
    match placed.find? fun x => x.tok = c.tok && x.rank = c.rank with
    | some x => if c.status = 0 then x else c
    | none => c
  let news := toks.flatMap fun t => t.1.map fun x => final x.1
  let (carryIn, p) := p.fillEntries cdone (a.cq - cdone.length)
  let (carryOut, p) := p.fillEntries g.carried (a.cq - g.carried.length)
  let all := news ++ cdone
  let n (st : Nat → Bool) : Nat := (all.filter fun c => st c.status).length
  let served := n fun x => x = 0 || x = 4
  let carried := n fun x => x = 1
  let residual := n fun x => x = 2
  let foxed := n fun x => x = 3
  let nanRows := (toks.filter (·.2)).length
  let header := leBytes 2 a.gidx ++ leBytes 2 a.t ++ leBytes 2 a.slots ++ leBytes 2 a.cq ++ leBytes 4 stroke
    ++ leBytes 2 served ++ leBytes 2 carried ++ leBytes 2 residual ++ leBytes 2 foxed
    ++ leBytes 2 (if cfox then 0 else cdone.length) ++ leBytes 2 nanRows ++ List.replicate 40 0
  let map := sliceBytes ((List.range a.slots).flatMap fun i =>
    let e := SMap.get (fun _ => (0xFFFF, 0)) g.map i
    leBytes 4 (e.1 % 2 ^ 16 + 2 ^ 16 * e.2)) 0 a.mapBytes
  let out := header ++ map ++ (news ++ carryIn ++ carryOut).flatMap Choice.bytes
  let codes := (if 0 < nanRows then [0x0605] else []) ++ distinct g.codes
    ++ (if cfox || scores.any (·.fox) then [0x0608] else [])
  p.setSlot12 s (p.slot12Ops s ++
    [{ unit := 0, id := id, portEnd := t1, ports := [a.cl], writes := [(a.cl, a.daddr, rowsFrom out fun _ => false)],
       codes := codes, index := a.gidx, cycle := p.field s Csr.STK_SEQ_POS_CYCLE,
       counts := [served, carried, residual, foxed, 0, 0, 0] }])

/-- The carry input of a GATE names another gate or CQ (R230): the check is made when neither its header nor its list is
foxed. -/
def Panel.carryMismatch (p : Panel) (m : Mem) (s : Nat) (a : GateArgs) (pa : Nat) : Bool :=
  match p.carryList m s a pa with
  | none => false
  | some o =>
    let m := p.memory m
    let at_ := sliceAddr s a.cl (64 * pa)
    !m.rowsFoxed (sliceAddr s a.cl o) (rowsTouched o (16 * a.cq)) && (m.nat at_ 2 ≠ a.gidx || m.nat (at_ + 6) 2 ≠ a.cq)

/-- The plan of a GATE (R221, R222, R225, R229, R230). -/
def Panel.planGate (p : Panel) (m : Mem) (s w : Nat) (ximm : Option Nat) : OpPlan :=
  let a := p.gateArgs s w
  let first := (p.seq s).firstOfSheet
  let carry := a.cq ≠ 0 && !first
  let pa := ximm.getD 0 % 2 ^ 21
  let x := a.entries
  let reads := p.carryReads m s a pa
  let stop := (reads.map fun r => r.1 + r.2).foldl max 0
  let t1 := p.cycles s + a.t * ceilDiv a.e 64 + ceilDiv (64 + 16 * a.cq) 256 + ceilDiv x 16 * max 1 (clog2 x)
    + ceilDiv a.outBytes 256
  .guard [
    (p.slot12Busy s 0 [a.cl], 0x0601),
    (!a.valid || a.k = 0 || min 8 a.e < a.k || 16384 < a.slots || 1024 < a.cq, 0x0602),
    (!inSlice (64 * a.saddr) (64 * a.scoreRows * a.t) || !inSlice (64 * a.daddr) a.outBytes
      || (carry && (ximm.isNone || !inSlice (64 * pa) 64 || reads.any fun r => !inSlice r.1 r.2)), 0x0603),
    (!p.clusterWorks s a.cl, 0x0604),
    (carry && p.carryMismatch m s a pa, 0x0609)]
  { reqs := [⟨a.cl, spanOf (64 * a.saddr) (64 * a.scoreRows * a.t), false, some t1⟩,
             ⟨a.cl, spanOf (64 * a.daddr) a.outBytes, true, none⟩]
      ++ (if carry then [⟨a.cl, spanOf (64 * pa) (stop - 64 * pa), false, some t1⟩] else []),
    act := fun id p => p.doGate m s w id t1 (if carry then some pa else none) }

/-! ### Keyed records and runs (R223, R224) -/

/-- A keyed record as read from a run. -/
structure KeyRec where
  key : Nat
  source : Nat
  valid : Bool
  foxed : Bool
  /-- Its rows, each with its own fox bit. -/
  rows : List Delivered
  input : Nat
  pos : Nat
deriving DecidableEq, Repr

/-- A run as read: unreadable, or its records in use (R223, R224). -/
def readRun (ds : List Delivered) (cap rlen input : Nat) : Option (List KeyRec) :=
  let h := nth ds 0 ⟨[], true⟩
  let n := dnum h 0 4
  let recAt (i : Nat) : KeyRec :=
    let rows := (ds.drop (1 + rlen * i)).take rlen
    let r0 := nth rows 0 ⟨[], true⟩
    { key := dnum r0 0 4, source := dnum r0 4 2, valid := bitOf (dnum r0 0 8) 48,
      foxed := bitOf (dnum r0 0 8) 49 || rows.any (·.fox), rows := rows, input := input, pos := i }
  if h.fox || cap < n || dnum h 4 4 ≠ cap then none
  else
    let rs := (List.range n).map recAt
    if rs.any fun r => (nth r.rows 0 ⟨[], true⟩).fox then none else some (rs.filter (·.valid))

/-- The rows of a run of a cluster. -/
def runRows (cap rlen : Nat) : Nat := 1 + cap * rlen

/-- A record's header word (R223). -/
def KeyRec.header (r : KeyRec) : List Byte := leBytes 8 (r.key + 2 ^ 32 * r.source + 2 ^ 48 + 2 ^ 49 * flag r.foxed)

/-- A record as it is written: its header with FOXED, its payload and the fox bits of its rows (R224). -/
def KeyRec.out (r : KeyRec) : List Delivered :=
  r.rows.zipIdx.map fun di => if di.2 = 0 then { di.1 with data := r.header ++ di.1.data.drop 8 } else di.1

/-- An output run: header and records, the unused ones zero (R223, R234). -/
def writeRun (cap rlen vfmt flags dropped : Nat) (rs : List KeyRec) : List Delivered :=
  let fl := flags + 2 * flag (rs.any (·.foxed))
  let h := leBytes 4 rs.length ++ leBytes 4 cap ++ leBytes 1 rlen ++ leBytes 1 vfmt ++ leBytes 2 fl ++ leBytes 4 dropped
    ++ List.replicate 48 0
  ⟨h, false⟩ :: rs.flatMap KeyRec.out ++ List.replicate ((cap - rs.length) * rlen) ⟨List.replicate 64 0, false⟩

/-- Output runs of an operation that met an unreadable input: every 64 B foxed, the data free values (R224). -/
def Panel.foxRuns (p : Panel) (n : Nat) : List Nat → List (Nat × List Delivered) × Panel
  | [] => ([], p)
  | c :: cs =>
    let (bs, p) := p.drawBytes 224 (64 * n)
    let (l, p) := p.foxRuns n cs
    ((c, rowsFrom bs fun _ => true) :: l, p)

/-- Ascending (KEY, SOURCE, input, position) (R233, R235). -/
def recLe (a b : KeyRec) : Bool :=
  if a.key ≠ b.key then a.key < b.key
  else if a.source ≠ b.source then a.source < b.source
  else if a.input ≠ b.input then a.input < b.input
  else a.pos ≤ b.pos

/-- A run's records ascend by (KEY, SOURCE) (R233). -/
def runSorted : List KeyRec → Bool
  | a :: b :: l => (a.key < b.key || (a.key = b.key && a.source ≤ b.source)) && runSorted (b :: l)
  | _ => true

/-! ### JUST (R233, R234) -/

/-- A justifier descriptor with its operation's BIAS (R220, R233). -/
structure JustArgs where
  index : Nat
  ins : List Nat
  outs : List Nat
  rlen : Nat
  order : Nat
  valid : Bool
  icap : Nat
  ocap : Nat
  iaddr : Nat
  oaddr : Nat
deriving DecidableEq, Repr

def Panel.justArgs (p : Panel) (s w : Nat) : JustArgs :=
  let j := bitsOf w 54 4
  let bias := bitsOf w 33 21
  { index := j, ins := maskClusters (p.field s (Csr.JUS_JDESC_ICLM j)), outs := maskClusters (p.field s (Csr.JUS_JDESC_OCLM j)),
    rlen := p.field s (Csr.JUS_JDESC_RLEN_M1 j) + 1, order := p.field s (Csr.JUS_JDESC_ORDER j),
    valid := p.isSet s (Csr.JUS_JDESC_VALID j), icap := p.field s (Csr.JUS_JDESC_ICAP j),
    ocap := p.field s (Csr.JUS_JDESC_OCAP j), iaddr := p.field s (Csr.JUS_JDESC_IADDR j) + bias,
    oaddr := p.field s (Csr.JUS_JDESC_OADDR j) + bias }

/-- Reads the same run of several clusters. -/
def Panel.readRuns (p : Panel) (m : Mem) (s : Nat) : List (Nat × Nat × Nat) → List (List Delivered) × Panel
  | [] => ([], p)
  | (c, row, n) :: l =>
    let (ds, p) := p.readRows m s c row n
    let (rest, p) := p.readRuns m s l
    (ds :: rest, p)

/-- A list cut into pieces of the lengths given. -/
def splitAts {α : Type} : List Nat → List α → List (List α)
  | [], _ => []
  | n :: ns, l => l.take n :: splitAts ns (l.drop n)

/-- Reads several runs of one cluster in one operation (R257): (first row, rows). -/
def Panel.readMany (p : Panel) (m : Mem) (s c : Nat) (rs : List (Nat × Nat)) : List (List Delivered) × Panel :=
  let (ds, p) := p.gather m s c (rs.flatMap fun r => (List.range r.2).map fun i => (64 * (r.1 + i), 64))
  (splitAts (rs.map (·.2)) ds, p)

/-- The records of all input runs in the order given, or `none` when one is unreadable. -/
def allRecs : List (Option (List KeyRec)) → Option (List (List KeyRec))
  | [] => some []
  | none :: _ => none
  | some r :: l =>
    match allRecs l with
    | some rs => some (r :: rs)
    | none => none

/-- Everything a JUST reads, computes and writes (R224, R233, R234). -/
def Panel.doJust (p : Panel) (m : Mem) (s w id t1 : Nat) : Panel :=
  let a := p.justArgs s w
  let n := a.outs.length
  let outRows := runRows a.ocap a.rlen
  let (runs, p) := p.readRuns m s (a.ins.map fun c => (c, a.iaddr, runRows a.icap a.rlen))
  let recs := allRecs (runs.zipIdx.map fun ri => readRun ri.1 a.icap a.rlen ri.2)
  let finish (p : Panel) (ws : List (Nat × List Delivered)) (codes : List Nat) (written dropped : Nat) : Panel :=
    p.setSlot12 s (p.slot12Ops s ++
      [{ unit := 1, id := id, portEnd := t1, ports := distinct (a.ins ++ a.outs),
         writes := ws.map fun x => (x.1, a.oaddr, x.2), codes := codes, index := a.index,
         cycle := p.field s Csr.STK_SEQ_POS_CYCLE, counts := [0, 0, 0, 0, written, dropped, 0] }])
  match recs with
  | none =>
    let (ws, p) := p.foxRuns outRows a.outs
    finish p ws [0x0611] 0 0
  | some rss =>
    if a.order = 0 && rss.any (fun r => !runSorted r) then
      let (ws, p) := p.foxRuns outRows a.outs
      finish p ws [0x0612] 0 0
    else
      let global := if a.order = 0 then rss.flatten.mergeSort recLe else rss.flatten
      let kept := global.take (n * a.ocap)
      let dropped := global.length - kept.length
      let flags := flag (a.order = 0) + 4 * flag (0 < dropped)
      let ws := a.outs.zipIdx.map fun ci =>
        (ci.1, writeRun a.ocap a.rlen 0 flags dropped
          ((kept.zipIdx.filter fun r => r.2 % n = ci.2).map (·.1)))
      finish p ws ((if 0 < dropped then [0x0610] else []) ++ (if kept.any (·.foxed) then [0x0613] else []))
        kept.length dropped

/-- The plan of a JUST (R221, R222, R233). -/
def Panel.planJust (p : Panel) (m : Mem) (s w : Nat) : OpPlan :=
  let a := p.justArgs s w
  let ports := distinct (a.ins ++ a.outs)
  let inB := 64 * runRows a.icap a.rlen
  let outB := 64 * runRows a.ocap a.rlen
  let t1 := p.cycles s + ceilDiv a.icap 4 + ceilDiv ((a.icap + a.ocap) * a.rlen) 4
  .guard [
    (p.slot12Busy s 1 ports, 0x0601),
    (!a.valid || a.ins.isEmpty || a.outs.isEmpty || a.icap = 0 || 4096 < a.icap || a.ocap = 0 || 4096 < a.ocap, 0x0602),
    (!inSlice (64 * a.iaddr) inB || !inSlice (64 * a.oaddr) outB, 0x0603),
    (ports.any fun c => !p.clusterWorks s c, 0x0604)]
  { reqs := a.ins.map (fun c => ⟨c, spanOf (64 * a.iaddr) inB, false, some t1⟩)
      ++ a.outs.map (fun c => ⟨c, spanOf (64 * a.oaddr) outB, true, none⟩),
    act := fun id p => p.doJust m s w id t1 }

/-! ### MERGE (R235, R236) -/

/-- A merge descriptor with its operation's BIAS (R220, R235). -/
structure MergeArgs where
  index : Nat
  cl : Nat
  rlen : Nat
  vfmt : Nat
  combine : Nat
  valid : Bool
  nin : Nat
  ocap : Nat
  oaddr : Nat
  /-- Capacity and first row of each input. -/
  ins : List (Nat × Nat)
deriving DecidableEq, Repr

def Panel.mergeArgs (p : Panel) (s w : Nat) : MergeArgs :=
  let j := bitsOf w 54 4
  let bias := bitsOf w 33 21
  let nin := p.field s (Csr.JUS_MDESC_NIN j)
  { index := j, cl := p.field s (Csr.JUS_MDESC_CL j), rlen := p.field s (Csr.JUS_MDESC_RLEN_M1 j) + 1,
    vfmt := p.field s (Csr.JUS_MDESC_VFMT j), combine := p.field s (Csr.JUS_MDESC_COMBINE j),
    valid := p.isSet s (Csr.JUS_MDESC_VALID j), nin := nin, ocap := p.field s (Csr.JUS_MDESC_OCAP j),
    oaddr := p.field s (Csr.JUS_MDESC_OADDR j) + bias,
    ins := [(p.field s (Csr.JUS_MDESC_ICAP0 j), p.field s (Csr.JUS_MDESC_IADDR0 j) + bias),
            (p.field s (Csr.JUS_MDESC_ICAP1 j), p.field s (Csr.JUS_MDESC_IADDR1 j) + bias),
            (p.field s (Csr.JUS_MDESC_ICAP2 j), p.field s (Csr.JUS_MDESC_IADDR2 j) + bias),
            (p.field s (Csr.JUS_MDESC_ICAP3 j), p.field s (Csr.JUS_MDESC_IADDR3 j) + bias)].take nin }

/-- Value `i` of a record's payload (R223). -/
def KeyRec.value (r : KeyRec) (i : Nat) : Nat := dnum (nth r.rows ((8 + 4 * i) / 64) ⟨[], false⟩) ((8 + 4 * i) % 64) 4

/-- One addition onto the value set of VFMT (R236). -/
def mergeAdd (vfmt a b : Nat) : Nat := if vfmt = 0 then roundF32 ((f32 a).add (f32 b))
  else kaToContainer (fmtKA.round false .nearest ((elemValue 0xF a).add (elemValue 0xF b)))

/-- Records of one key at the head of a sorted list, and the rest. -/
def sameKey (k : Nat) : List KeyRec → List KeyRec × List KeyRec
  | [] => ([], [])
  | r :: rs => if r.key = k then let (a, b) := sameKey k rs; (r :: a, b) else ([], r :: rs)

/-- Sorted records combined by key; `fuel` bounds the number of keys. -/
def groupKeys : Nat → List KeyRec → List (List KeyRec)
  | 0, _ => []
  | _, [] => []
  | n + 1, r :: rs => let (a, b) := sameKey r.key rs; (r :: a) :: groupKeys n b

/-- All records of one key as a single record (R235, R236): values summed in order; a foxed record foxes all of it, and
its values are free. -/
def Panel.combine (p : Panel) (a : MergeArgs) : List KeyRec → KeyRec × Panel
  | [] => (⟨0, 0, false, false, [], 0, 0⟩, p)
  | [r] => (r, p)
  | r :: rs =>
    let all := r :: rs
    let n := 16 * a.rlen - 2
    if all.any (·.foxed) then
      let (bs, p) := p.drawBytes 236 (64 * a.rlen)
      ({ r with foxed := true, rows := rowsFrom bs fun _ => true }, p)
    else
      let vs := (List.range n).map fun i => rs.foldl (fun v q => mergeAdd a.vfmt v (q.value i)) (r.value i)
      ({ r with rows := rowsFrom (leBytes 8 0 ++ vs.flatMap (leBytes 4)) fun _ => false }, p)

/-- Several groups in order. -/
def Panel.combineAll (p : Panel) (a : MergeArgs) : List (List KeyRec) → List KeyRec × Panel
  | [] => ([], p)
  | g :: gs =>
    let (r, p) := p.combine a g
    let (rs, p) := p.combineAll a gs
    (r :: rs, p)

/-- Everything a MERGE reads, computes and writes (R224, R235, R236). -/
def Panel.doMerge (p : Panel) (m : Mem) (s w id t1 : Nat) : Panel :=
  let a := p.mergeArgs s w
  let (runs, p) := p.readMany m s a.cl (a.ins.map fun i => (i.2, runRows i.1 a.rlen))
  let recs := allRecs (runs.zipIdx.map fun ri => readRun ri.1 (nth a.ins ri.2 (0, 0)).1 a.rlen ri.2)
  let finish (p : Panel) (rows : List Delivered) (codes : List Nat) (n : Nat) : Panel :=
    p.setSlot12 s (p.slot12Ops s ++
      [{ unit := 2, id := id, portEnd := t1, ports := [a.cl], writes := [(a.cl, a.oaddr, rows)], codes := codes,
         index := a.index, cycle := p.field s Csr.STK_SEQ_POS_CYCLE, counts := [0, 0, 0, 0, 0, 0, n] }])
  match recs with
  | none =>
    let (bs, p) := p.drawBytes 224 (64 * runRows a.ocap a.rlen)
    finish p (rowsFrom bs fun _ => true) [0x0621] 0
  | some rss =>
    let sorted := rss.flatten.mergeSort recLe
    let (out, p) := if a.combine = 1 then (sorted, p) else p.combineAll a (groupKeys sorted.length sorted)
    finish p (writeRun a.ocap a.rlen a.vfmt 1 0 out) (if out.any (·.foxed) then [0x0620] else []) out.length

/-- The plan of a MERGE (R221, R222, R235). -/
def Panel.planMerge (p : Panel) (m : Mem) (s w : Nat) : OpPlan :=
  let a := p.mergeArgs s w
  let c := (a.ins.map (·.1)).sum
  let t1 := p.cycles s + ceilDiv c 16 * max 1 (clog2 c) + ceilDiv ((c + a.ocap) * a.rlen) 4
  let outB := 64 * runRows a.ocap a.rlen
  .guard [
    (p.slot12Busy s 2 [a.cl], 0x0601),
    (!a.valid || a.nin = 0 || 4 < a.nin || a.ins.any (fun i => i.1 = 0 || 4096 < i.1) || 16384 < a.ocap || a.ocap < c,
      0x0602),
    (a.ins.any (fun i => !inSlice (64 * i.2) (64 * runRows i.1 a.rlen)) || !inSlice (64 * a.oaddr) outB, 0x0603),
    (!p.clusterWorks s a.cl || (a.vfmt ≠ 0 && a.vfmt ≠ 0xF), 0x0604)]
  { reqs := a.ins.map (fun i => ⟨a.cl, spanOf (64 * i.2) (64 * runRows i.1 a.rlen), false, some t1⟩)
      ++ [⟨a.cl, spanOf (64 * a.oaddr) outB, true, none⟩],
    act := fun id p => p.doMerge m s w id t1 }

/-- The plan of a slot-12 operation by its opcode (R220). -/
def Panel.planSlot12 (p : Panel) (m : Mem) (s w : Nat) (ximm : Option Nat) : OpPlan :=
  match bitsOf w 58 6 with
  | 1 => p.planGate m s w ximm
  | 2 => p.planJust m s w
  | _ => p.planMerge m s w

/-- JUS_FAULT takes a code with its descriptor index and die cycle, and the code is raised. -/
def Panel.raiseJus (p : Panel) (s code index cycle cluster : Nat) : Panel :=
  let p := p.raiseAt s cluster code
  let p := p.setField s Csr.JUS_FAULT_INDEX index
  p.setField s Csr.JUS_FAULT_CYCLE cycle

/-- The oldest operation of a unit becomes visible: its rows land, its codes are raised and its counts taken (R222). -/
def Panel.slot12Done (p : Panel) (s unit : Nat) : Panel :=
  match (p.slot12Ops s).find? fun o => o.unit = unit with
  | none => p
  | some o =>
    let p := p.each o.writes fun p x =>
      p.each x.2.2.zipIdx fun p di =>
        p.put { addr := sliceAddr s x.1 (64 * (x.2.1 + di.2)), data := di.1.data, fox := some di.1.fox }
    let p := p.setSlot12 s ((p.slot12Ops s).filter fun q => q.id ≠ o.id)
    let p := p.retire s o.id
    let n (i : Nat) : Nat := nth o.counts i 0
    let p := p.tally s Csr.JUS_GATE_LAST_SERVED (n 0)
    let p := p.tally s Csr.JUS_GATE_LAST_CARRIED (n 1)
    let p := p.tally s Csr.JUS_GATE_LAST_RESIDUAL (n 2)
    let p := p.tally s Csr.JUS_GATE_LAST_FOXED (n 3)
    let p := p.tally s Csr.JUS_JUST_LAST_WRITTEN (n 4)
    let p := p.tally s Csr.JUS_JUST_LAST_DROPPED (n 5)
    let p := p.tally s Csr.JUS_MERGE_LAST (n 6)
    p.each o.codes fun p c => p.raiseJus s c o.index o.cycle (o.ports.headD 0)

/-- SLOT12_DONE (R222): a GATE (0), JUST (1) or MERGE (2). -/
def execSlot12Done (site unit : Nat) (s : State) : Host.Outcome State Fault Refusal :=
  .next (s.store fun _ p => p.unlessFrozen site fun p => p.slot12Done site unit)

end Sys2Proof.Machine
end

