-- ==== Sys2Proof/Machine/SparseEngine.lean ====
section
/-! DEFINITION. The sparse engine's compressed load with its metadata checker, and the events of its operations
(R193–R210). -/

namespace Sys2Proof.Machine

/-- The fields of SLOAD with its XIMM (R200, R201). -/
structure SloadArgs where
  bank : Nat
  wfmt : Nat
  pat : Nat
  klen : Nat
  nlen : Nat
  addr : Nat
  stride : Nat
  saddr : Nat
  maddr : Nat
deriving DecidableEq, Repr

def sloadArgs (w ximm : Nat) : SloadArgs :=
  ⟨bitsOf w 57 1, bitsOf w 53 4, bitsOf w 50 3, bitsOf w 42 8 + 1, bitsOf w 34 8 + 1, bitsOf w 13 21, bitsOf w 1 12,
   ximm % 2 ^ 21, bitsOf ximm 21 21⟩

/-- Index bits and record width of a pattern (R195). -/
def patIndexBits (pat : Nat) : Nat := if pat = 2 then 3 else 2
def patRecord (pat : Nat) : Nat := if pat = 1 then 4 else if pat = 2 then 8 else 6

/-- Groups of a column, and the lengths of R196 and R197. -/
def SloadArgs.groups (a : SloadArgs) : Nat := ceilDiv a.klen (patM a.pat)
def SloadArgs.colBytes (a : SloadArgs) : Nat := ceilDiv (a.groups * patN a.pat * widthOf a.wfmt) 8
def SloadArgs.metaBytes (a : SloadArgs) : Nat := ceilDiv (a.nlen * a.groups * patRecord a.pat) 8
def SloadArgs.blockRow (a : SloadArgs) : Nat := 64 * ceilDiv a.nlen 64
def SloadArgs.planeBytes (a : SloadArgs) : Nat := if isMx a.wfmt then a.klen / 32 * a.blockRow else 0

/-- How long an SLOAD occupies its port (R204). -/
def SloadArgs.busy (a : SloadArgs) : Nat :=
  ceilDiv (a.nlen * a.colBytes) 256 + ceilDiv a.metaBytes 256 + ceilDiv a.planeBytes 256

/-- COUNT and the indices of a metadata record (R195). -/
def recCount (r : Nat) : Nat := r % 4
def recIndex (pat r j : Nat) : Nat := bitsOf r (2 + patIndexBits pat * j) (patIndexBits pat)

/-- The indices in use of a record. -/
def recUsed (pat r : Nat) : List Nat := (List.range (min (recCount r) (patN pat))).map (recIndex pat r)

/-- Rules 1 to 5 of R207 for one group: the first one broken, 0 for none. -/
def groupRule (pat klen g r : Nat) : Nat :=
  let n := patN pat
  let us := recUsed pat r
  let adj := us.zip us.tail
  if n < recCount r then 1
  else if us.any fun i => klen ≤ patM pat * g + i then 2
  else if adj.any fun x => x.2 < x.1 then 3
  else if adj.any fun x => x.1 = x.2 then 4
  else if (List.range n).any fun j => recCount r ≤ j && recIndex pat r j ≠ 0 then 5
  else 0

/-- Rule 6 (R199, R207): block (g, n / 4) keeps more than two values at one position across its four columns. A foxed
record is not counted (R209). -/
def blockBad (groups : Nat) (recs : List (Option Nat)) (g n : Nat) : Bool :=
  let kept := ((List.range 4).map fun i => 4 * (n / 4) + i).flatMap fun k =>
    match nth recs (k * groups + g) none with
    | some r => recUsed 3 r
    | none => []
  (List.range 4).any fun pos => 2 < (kept.filter fun i => i = pos).length

/-- The first failing group in ascending column and then group order (R207): a foxed record is not tested (R209). -/
def checkMeta (pat klen groups : Nat) (recs : List (Option Nat)) : Option MetaFail :=
  recs.zipIdx.findSome? fun ri =>
    match ri.1 with
    | none => none
    | some r =>
      let n := ri.2 / groups
      let g := ri.2 % groups
      let k := groupRule pat klen g r
      let k := if k = 0 && pat = 3 && blockBad groups recs g n then 6 else k
      if k = 0 then none else some ⟨k, n, g, false⟩

/-- The dense column of a compressed one (R166, R196): a pruned position is the zero code, which
is NaN under an MX scale of 0xFF as every code is (DEDUCED: notes/assumptions/154.md). -/
def expand (pat klen : Nat) (recs : List (Option Nat)) (slots : List Nat) : List Nat :=
  (List.range klen).map fun k =>
    let g := k / patM pat
    match nth recs g none with
    | none => 0
    | some r =>
      match (recUsed pat r).findIdx? fun i => i = k % patM pat with
      | some j => nth slots (patN pat * g + j) 0
      | none => 0

/-- The rows of a metadata stream of which any is foxed: record `i` of width `w` lies in foxed 64 B. -/
def recFoxed (rows : List Delivered) (w i : Nat) : Bool :=
  (nth rows (w * i / 512) ⟨[], false⟩).fox || (nth rows ((w * i + w - 1) / 512) ⟨[], false⟩).fox

/-- META_INJECT is armed for a cluster (SPA_CTRL), and no SLOAD that it fails waits there for its check. -/
def Panel.metaArmed (p : Panel) (s c : Nat) : Bool :=
  p.isSet s Csr.SPA_CTRL_META_INJECT && p.field s Csr.SPA_CTRL_INJ_CL = c
    && !(p.engine s c 1).banks.any fun b => b.loading && b.failed.any (·.injected)

/-- The pieces of a slice that an SLOAD reads: values, metadata, scale plane (R196–R198). -/
def SloadArgs.pieces (a : SloadArgs) : List (Nat × Nat) × List (Nat × Nat) × List (Nat × Nat) :=
  ((List.range a.nlen).map fun n => (64 * a.addr + 64 * a.stride * n, a.colBytes),
   (List.range (ceilDiv a.metaBytes 64)).map fun i => (64 * a.maddr + 64 * i, min 64 (a.metaBytes - 64 * i)),
   if isMx a.wfmt then (List.range (a.klen / 32)).map fun b => (64 * a.saddr + a.blockRow * b, a.nlen) else [])

/-- The decompressed tile that an SLOAD reads from a slice, with its check values and the checker's verdict; `inj` fails it
(R196–R198, R207, R209, R210). -/
def Panel.sloadTile (p : Panel) (m : Mem) (s c : Nat) (a : SloadArgs) (inj : Bool) (w ximm cyc : Nat) : Bank × Panel :=
  let width := widthOf a.wfmt
  let (vals, metas, plane) := a.pieces
  let (ds, p) := p.gather m s c (vals ++ metas ++ plane)
  let ms := (ds.drop a.nlen).take metas.length
  let stream := ms.flatMap (·.data)
  let rw := patRecord a.pat
  let recs := (List.range (a.nlen * a.groups)).map fun i =>
    if recFoxed ms rw i then none else some (packedElem stream rw i)
  let cols := (ds.take a.nlen).zipIdx.map fun dn =>
    expand a.pat a.klen ((recs.drop (dn.2 * a.groups)).take a.groups)
      ((List.range (a.groups * patN a.pat)).map fun i => packedElem dn.1.data width i)
  let pl := ds.drop (a.nlen + metas.length)
  let scales := (List.range a.nlen).map fun n => pl.map fun d => (nth d.data n 0).toNat
  let fail := if inj then some ⟨1, 0, 0, true⟩ else checkMeta a.pat a.klen a.groups recs
  ({ ready := false, loading := true, wfmt := a.wfmt, klen := a.klen, nlen := a.nlen, pat := a.pat, cols := cols,
     scales := scales, sumC := tileC a.wfmt a.klen a.nlen cols scales, sumM := tileM a.wfmt a.klen a.nlen cols scales,
     fox := ds.any (·.fox), failed := fail, word := w, ximm := ximm, crc := crc32c (ds.flatMap (·.data)), cycle := cyc }, p)

/-- The issue of an SLOAD: the bank takes the tile and loads (R204, R207). -/
def Panel.doSload (p : Panel) (m : Mem) (s c w ximm id : Nat) : Panel :=
  let a := sloadArgs w ximm
  let inj := p.metaArmed s c
  let cyc := p.field s Csr.STK_SEQ_POS_CYCLE
  let (b, p) := p.sloadTile m s c a inj w ximm cyc
  let p := p.setBank s c 1 a.bank b
  p.startOp s c 1 { kind := .load, id := id, bank := a.bank, portEnd := p.cycles s + a.busy, cycle := cyc }

/-- The plan of an SLOAD (R201, R203, R205, R565). -/
def Panel.planSload (p : Panel) (m : Mem) (s c w : Nat) (ximm : Option Nat) : OpPlan :=
  let a := sloadArgs w (ximm.getD 0)
  let g := p.engine s c 1
  let now := p.cycles s
  let mx := isMx a.wfmt
  let t1 := now + a.busy
  .guard [
    (ximm.isNone, engineCode 1 .ximm),
    ((g.bank a.bank).loading || g.bankUsed now a.bank, engineCode 1 .bank),
    (3 < a.pat || badFormats 1 a.pat a.wfmt a.wfmt a.klen || (a.pat = 3 && (a.klen % 4 ≠ 0 || a.nlen % 4 ≠ 0)),
      engineCode 1 .format),
    (a.stride = 0 || 64 * a.stride < a.colBytes || !inSlice (64 * a.addr) (64 * a.stride * (a.nlen - 1) + a.colBytes)
      || !inSlice (64 * a.maddr) a.metaBytes || (mx && !inSlice (64 * a.saddr) a.planeBytes), engineCode 1 .range),
    (g.portBusy now 0, engineCode 1 .port)]
  { reqs := [⟨c, hullOf (64 * a.addr) (64 * a.stride) a.nlen a.colBytes, false, some t1⟩,
             ⟨c, spanOf (64 * a.maddr) a.metaBytes, false, some t1⟩]
      ++ (if mx then [⟨c, spanOf (64 * a.saddr) a.planeBytes, false, some t1⟩] else []),
    act := fun id p => p.doSload m s c w (ximm.getD 0) id }

/-- The plan of an SE operation by its opcode (R200). -/
def Panel.planSparse (p : Panel) (m : Mem) (s c w : Nat) (ximm : Option Nat) : OpPlan :=
  match bitsOf w 58 6 with
  | 1 => p.planSload m s c w ximm
  | 2 => p.planStream m s c 1 w ximm
  | 3 => p.planDrain s c 1 w
  | _ => p.planInit m s c 1 w

/-- The checker's verdict becomes final (R208): the failed bank's first code is raised at foxed, SPA_META_FAULT takes the
failure and the cluster counts it. A check that META_INJECT fails clears it. -/
def Panel.sloadReady (p : Panel) (s c : Nat) : Panel :=
  match (p.engine s c 1).oldest .load with
  | none => p
  | some o =>
    let fail := ((p.engine s c 1).bank o.bank).failed
    let p := p.bankReady s c 1 o
    match fail with
    | none => p
    | some f =>
      let p := if f.injected then p.setFlag s Csr.SPA_CTRL_META_INJECT false else p
      let v := o.cycle % 2 ^ 32 + 2 ^ 32 * c + 2 ^ 34 * o.bank + 2 ^ 35 * (f.column % 256) + 2 ^ 43 * (f.group % 64)
        + 2 ^ 49 * f.rule + 2 ^ 52 * flag f.injected
      let p := p.setWords s Csr.SPA_META_FAULT_CYCLE.off v 2
      let p := p.tally s (Csr.SPA_C_META_FAIL c) 1
      let p := p.raiseAt s c (0x0500 + f.rule)
      -- R208, R425: the fox mark just opened is the SLOAD's own
      p.modContain fun k => { k with marks := k.marks.mapIdx fun i mk =>
        if i + 1 = k.marks.length && mk.kind = .fox && mk.site = s && mk.code = 0x0500 + f.rule
        then { mk with load := some o.cycle, cycle := o.cycle, engine := 1 } else mk }

/-- SLOAD_READY (R208). -/
def execSloadReady (site cluster : Nat) (s : State) : Host.Outcome State Fault Refusal :=
  .next (s.quiet fun p => p.unlessFrozen site fun p => p.sloadReady site cluster)

/-- SSTREAM_DONE (R204); `parity` says that a bank failed parity during the SSTREAM (R209). -/
def execSstreamDone (site cluster : Nat) (parity : Bool) (s : State) : Host.Outcome State Fault Refusal :=
  .next (s.quiet fun p => p.unlessFrozen site fun p => p.streamDone site cluster 1 parity)

/-- SAINIT_DONE (R204). -/
def execSainitDone (site cluster : Nat) (s : State) : Host.Outcome State Fault Refusal :=
  .next (s.quiet fun p => p.unlessFrozen site fun p => p.initDone site cluster 1)

/-- SDRAIN_DONE (R210). -/
def execSdrainDone (site cluster : Nat) (upset : List (Nat × Nat × Nat)) (s : State) : Host.Outcome State Fault Refusal :=
  .next (s.store fun _ p => p.unlessFrozen site fun p => p.drainDone site cluster 1 upset)

/-- SPA_INJECT (R210): SPA_CTRL.INJECT takes effect on a cluster. -/
def execSpaInject (site cluster : Nat) (s : State) : Host.Outcome State Fault Refusal :=
  .next (s.quiet fun p => (p.setField site Csr.SPA_CTRL_INJ_CL cluster).setFlag site Csr.SPA_CTRL_INJECT true)

/-- SPA_META_INJECT (R207): SPA_CTRL.META_INJECT takes effect on a cluster. -/
def execSpaMetaInject (site cluster : Nat) (s : State) : Host.Outcome State Fault Refusal :=
  .next (s.quiet fun p => (p.setField site Csr.SPA_CTRL_INJ_CL cluster).setFlag site Csr.SPA_CTRL_META_INJECT true)

end Sys2Proof.Machine
end

