-- ==== Sys2Proof/Machine/LineStream.lean ====
section
/-! DEFINITION. The line stream (R111–R125, R133, R134): decoding of lines and stored records, the issue of one line with its
waits, holds and overdraw (R412–R415), and the events that end them. -/

namespace Sys2Proof.Machine

/-! ### Decoding a line (R110–R112, R125) -/

/-- The opcode of a slot's word. -/
def slotOp (w : Nat) : Nat := bitsOf w 58 6

/-- The bits, as (lowest, count), that a slot's encoding marks zero; `none` for an opcode that no chapter defines (R112). -/
def zeroBits (slot op : Nat) : Option (List (Nat × Nat)) :=
  if op = 0 then some [(0, 58)]
  else if slot < 4 then
    match op with
    | 1 => some [(0, 4)] | 2 => some [(0, 1)] | 3 => some [(0, 15)] | 4 => some [(37, 2), (0, 8)] | _ => none
  else if slot < 8 then
    match op with
    | 1 => some [(0, 1)] | 2 => some [(0, 2)] | 3 => some [(0, 16)] | 4 => some [(0, 11)] | _ => none
  else if slot < 12 then
    match op with
    | 0x01 => some [] | 0x02 => some [(0, 21)] | 0x03 => some [(0, 4)] | 0x04 => some [(0, 32)] | 0x05 => some [(0, 5)]
    | 0x06 => some [(0, 32)] | 0x07 => some [(0, 53)] | 0x10 => some [] | 0x11 => some [] | 0x12 => some [(32, 23)]
    | 0x13 => some [(0, 54)] | 0x20 => some [(0, 22)] | 0x21 => some [(0, 14)] | 0x22 => some [(0, 3)] | _ => none
  else if slot = 12 then
    match op with
    | 1 => some [] | 2 => some [(0, 33)] | 3 => some [(0, 33)] | _ => none
  else if slot = 13 then
    match op with
    | 1 => some [(32, 9)] | 2 => some [(32, 18)] | 3 => some [(33, 17)] | 4 => some [(33, 1)] | 5 => some [(33, 4)]
    | 6 => some [(0, 54)] | _ => none
  else if slot = 14 then
    match op with
    | 1 => some [(0, 53)] | 2 => some [(32, 5)] | 3 => some [(0, 41)] | 4 => some [(0, 43)] | 5 => some [(0, 57)]
    | _ => none
  else
    match op with
    | 1 => some [] | 2 => some [(32, 26)] | _ => none

/-- The bits of an XIMM's VALUE that the named slot's declaration marks zero (R201, R244). -/
def ximmZero (slot op : Nat) : List (Nat × Nat) :=
  if 4 ≤ slot && slot < 8 && op = 1 then [(42, 12)]
  else if 8 ≤ slot && slot < 12 && op = 3 then [(37, 17)]
  else if 8 ≤ slot && slot < 12 && op = 5 then [(16, 38)]
  else []

/-- All of some bits are zero. -/
def zeroFields (w : Nat) (fs : List (Nat × Nat)) : Bool := fs.all fun f => bitsOf w f.1 f.2 = 0

/-- The word of a slot of a line; a slot that is absent is NOP (R116). -/
def slotWord (l : Line) (k : Nat) : Nat :=
  match l.find? fun x => x.1 = k with
  | some x => x.2
  | none => 0

/-- The VALUE that the line's XIMM supplies to a slot (R125). -/
def ximmFor (l : Line) (k : Nat) : Option Nat :=
  let w := slotWord l 15
  if slotOp w = 1 && bitsOf w 54 4 = k then some (bitsOf w 0 54) else none

/-- A slot decodes (R112); a BOUND of 0 is reserved. -/
def slotOk (l : Line) (k : Nat) : Bool :=
  let w := slotWord l k
  match zeroBits k (slotOp w) with
  | none => false
  | some z =>
    zeroFields w z
      && !(k = 13 && slotOp w = 4 && bitsOf w 34 16 = 0)
      && !(k = 15 && slotOp w = 1 && bitsOf w 54 4 = 15)
      && zeroFields ((ximmFor l k).getD 0) (ximmZero k (slotOp w))

/-- A line decodes (R112). -/
def lineOk (l : Line) : Bool := (List.range 16).all (slotOk l)

/-! ### Stored records (R115–R119) -/

/-- A record as decoded, with the offset / 4 of the record after it. -/
inductive LineRecord where
  | line (slots : Line) (next : Nat)
  | quad (count : Nat)
  | loopBegin (depth count : Nat)
  | loopEnd (depth : Nat)
  | bad (code : Nat)
deriving DecidableEq, Repr

/-- Word `i` of a half of the line buffer, as its CSR window exposes it. -/
def Panel.lineWord (p : Panel) (s half i : Nat) : Nat := (p.word s (0x100000 + 65536 * half + 4 * i)).toNat

/-- The slots of a line record with presence mask `mask`, the words starting at `i` (R115, R116). -/
def Panel.lineSlots (p : Panel) (s half mask : Nat) : Nat → Nat → Line
  | 0, _ => []
  | n + 1, i =>
    let k := 15 - n
    if bitOf mask k then (k, p.lineWord s half i + 2 ^ 32 * p.lineWord s half (i + 1)) :: p.lineSlots s half mask n (i + 2)
    else p.lineSlots s half mask n i

/-- How many of the sixteen slots a mask names. -/
def maskCount (mask : Nat) : Nat := ((List.range 16).filter fun k => bitOf mask k).length

/-- The record at offset / 4 `i` of a half (R115, R119). -/
def Panel.recordAt (p : Panel) (s half i : Nat) : LineRecord :=
  if 16384 ≤ i then .bad 0x0221
  else
    let h := p.lineWord s half i
    match bitsOf h 30 2 with
    | 0 =>
      let mask := bitsOf h 0 16
      let next := i + 1 + 2 * maskCount mask
      if bitsOf h 16 14 ≠ 0 then .bad 0x0220
      else if 16384 < next then .bad 0x0221
      else .line (p.lineSlots s half mask 16 (i + 1)) next
    | 1 => if bitsOf h 0 30 = 0 then .bad 0x0220 else .quad (bitsOf h 0 30)
    | 2 =>
      if bitOf h 29 then (if bitsOf h 0 26 ≠ 0 then .bad 0x0220 else .loopEnd (bitsOf h 26 3))
      else if bitsOf h 24 2 ≠ 0 then .bad 0x0220
      else .loopBegin (bitsOf h 26 3) (bitsOf h 0 24)
    | _ => .bad 0x0220

/-! ### The halves of the line buffer (R119–R121) -/

/-- The half being executed. -/
def Panel.execHalf (p : Panel) (s : Nat) : Nat := p.field s Csr.STK_SEQ_STATUS_EXEC_HALF

/-- STK_SEQ_STATUS as it stands. -/
def Panel.seqStatus (p : Panel) (s : Nat) : Panel :=
  let q := p.seq s
  let valid (h : Nat) : Bool := nth q.complete h false && !nth q.foxed h false && !nth q.loading h false
  let p := p.setFlag s Csr.STK_SEQ_STATUS_H0_VALID (valid 0)
  let p := p.setFlag s Csr.STK_SEQ_STATUS_H1_VALID (valid 1)
  let p := p.setFlag s Csr.STK_SEQ_STATUS_LOADING (q.loading.any id)
  p.setField s Csr.STK_SEQ_STATUS_LOOPS q.loops.length

/-- The page last loaded into a half. -/
def Panel.halfPage (p : Panel) (s half : Nat) : Nat :=
  if half = 0 then p.field s Csr.STK_SEQ_HALF_PAGE_H0 else p.field s Csr.STK_SEQ_HALF_PAGE_H1

/-- Why a half cannot be entered, for the page that an entry names when it names one (R121). -/
def Panel.enterCode (p : Panel) (s half : Nat) (page : Option Nat) : Option Nat :=
  let q := p.seq s
  let other := match page with
    | some n => p.halfPage s half ≠ n
    | none => false
  let there := nth q.complete half false || nth q.foxed half false
  if nth q.loading half false || other || !there then some 0x0222
  else if nth q.foxed half false then some 0x0224
  else none

/-- The next record is at an offset / 4 of a half. -/
def Panel.goTo (p : Panel) (s half i : Nat) : Panel :=
  let p := p.modSeq s fun q => { q with half := half, pos := i }
  p.setField s Csr.STK_SEQ_STATUS_EXEC_HALF half

/-- The load of a page into a half (R120): 64 reads of 1 KiB by the line galley. -/
def Panel.loadPage (p : Panel) (m : Mem) (s half page : Nat) : Panel :=
  let p := if half = 0 then p.setField s Csr.STK_SEQ_HALF_PAGE_H0 page else p.setField s Csr.STK_SEQ_HALF_PAGE_H1 page
  let base := p.field s Csr.STK_SEQ_IMAGE + 65536 * page
  let first := (p.seq s).nextOp
  let p := p.modSeq s fun q =>
    { q with complete := setNth q.complete half false, foxed := setNth q.foxed half false,
             loading := setNth q.loading half true, readsLeft := setNth q.readsLeft half 64, nextOp := first + 64 }
  (p.each (List.range 64) fun p i =>
    p.issueGalley m { key := ⟨s, 4, 0, first + i⟩, write := false, host := false, trace := 0, addr := base + 1024 * i,
                      row := 1024 * half + 16 * i, rows := 16 }).seqStatus s

/-! ### Slots 13 to 15 -/

/-- The plan of a sync operation (R128–R131). -/
def Panel.planSync (p : Panel) (s w : Nat) : OpPlan :=
  let idx := bitsOf w 50 8
  let slot := if slotOp w = 5 then bitsOf w 37 4 else bitsOf w 54 4
  let pend := bitOf (p.field s Csr.STK_SYNC_WSTATE_PENDING) slot
  let ready := bitOf (p.field s Csr.STK_SYNC_WSTATE_READY) slot
  let t := effTarget (bitOf w 32) (p.field s (Csr.STK_SYNC_CUR idx)) (bitsOf w 0 32)
  match slotOp w with
  | 1 => { act := fun _ p => p.sadd s idx (bitsOf w 41 9) (bitsOf w 0 32) }
  | 2 => { act := fun _ p => p.sset s idx (bitsOf w 0 32) }
  | 3 => { act := fun _ p => p.setField s (Csr.STK_SYNC_CUR idx) t }
  | 4 => { act := fun _ p => p.setField s (Csr.STK_SYNC_CUR idx) t }
  | 5 => if pend || ready then .bad 0x022B
         else { act := fun _ p => p.swatch s idx (bitsOf w 41 9) slot (bitOf w 32) (bitsOf w 0 32) }
  | _ => if !pend && !ready then .bad 0x022B
         else { act := fun _ p => p.setField s Csr.STK_SYNC_WSTATE_READY
                  (putBits (p.field s Csr.STK_SYNC_WSTATE_READY) slot 1 0) }

/-- A SWAIT, SWAITB or SWAITW has passed (R128, R131). -/
def Panel.syncPassed (p : Panel) (s w : Nat) : Bool :=
  let idx := bitsOf w 50 8
  if slotOp w = 6 then bitOf (p.field s Csr.STK_SYNC_WSTATE_READY) (bitsOf w 54 4)
  else reached (p.field s (Csr.STK_SYNC_CTR idx))
    (effTarget (bitOf w 32) (p.field s (Csr.STK_SYNC_CUR idx)) (bitsOf w 0 32))

/-- LAUNCH starts a thread (R137). -/
def Panel.launch (p : Panel) (t : ThreadId) (pc arg : Nat) : Panel :=
  let p := p.modThread t fun h => { h.setReg 1 (BitVec.ofNat 32 arg) false with pc := pc, stopped := false }
  let p := p.modSeq t.site fun q => { q with launched := q.launched ++ [threadNo t] }
  p.markThread t true

/-- The plan of a sequencer operation (R118, R120, R121, R123, R124, R137). -/
def Panel.planSequencer (p : Panel) (m : Mem) (s w : Nat) : OpPlan :=
  let q := p.seq s
  let half := bitsOf w 57 1
  match slotOp w with
  | 1 =>
    if !q.loops.isEmpty then .bad 0x0226
    else { act := fun _ p =>
             let p := p.modSeq s fun q =>
               { q with ended := true, nextEntry := bitsOf w 53 4, nextPos := if half = 1 then some (q.pos, q.half) else none }
             p.setFlag s Csr.STK_SEQ_STATUS_ISSUING false }
  | 2 =>
    let t : ThreadId := ⟨s, bitsOf w 56 2, bitsOf w 53 3, bitsOf w 51 2⟩
    if !p.sliceUp s t.cluster || p.threadRuns t then .bad 0x0229
    else { act := fun _ p => p.launch t (bitsOf w 37 14) (bitsOf w 0 32) }
  | 3 =>
    let page := bitsOf w 41 16
    if half = p.execHalf s || nth q.loading half false || p.field s Csr.STK_SEQ_PAGES ≤ page then .bad 0x0223
    else { act := fun _ p => p.loadPage m s half page }
  | 4 =>
    if !q.loops.isEmpty then .bad 0x0226
    else match p.enterCode s half none with
      | some code => .bad code
      | none => { act := fun _ p => p.goTo s half (bitsOf w 43 14) }
  | _ => { act := fun _ p => p }

/-! ### Plans, holds and waits of a line -/

/-- The plan of a mover slot (R244, R267, R293). -/
def Panel.planMover (p : Panel) (m : Mem) (s c w : Nat) (ximm : Option Nat) : OpPlan :=
  match slotOp w with
  | 0x10 => p.planGalley m s c w false
  | 0x11 => p.planGalley m s c w true
  | 0x12 => p.planGwait s c w
  | 0x13 => { act := fun _ p => p }
  | 0x20 => p.planMesh m s c w false
  | 0x21 => p.planMesh m s c w true
  | 0x22 => p.planTsend s c w
  | _ => p.planScratch m s c w ximm

/-- The plan of a slot 0–14 whose word is not NOP. A slot of a cluster that takes none raises 0x0229 (R110). -/
def Panel.planSlot (p : Panel) (m : Mem) (s k w : Nat) (ximm : Option Nat) : OpPlan :=
  let c := k % 4
  if k < 12 && !p.sliceUp s c then .bad 0x0229
  else if k < 4 then p.planDense m s c w ximm
  else if k < 8 then p.planSparse m s c w ximm
  else if k < 12 then p.planMover m s c w ximm
  else if k = 12 then p.planSlot12 m s w ximm
  else if k = 13 then p.planSync s w
  else p.planSequencer m s w

/-- Which wait a slot still has: 1 galley, 2 SWAIT, 3 SWAITB, 4 SWAITW, 5 WAITL, 0 none (R133, STK_SEQ_STATUS.WAIT_KIND). -/
def Panel.slotWait (p : Panel) (s k w : Nat) : Nat :=
  if 8 ≤ k && k < 12 then
    if (slotOp w = 0x12 && !p.gwaitPassed s (k % 4) w) || (slotOp w = 0x13 && !p.gdrainPassed s (k % 4) w) then 1 else 0
  else if k = 13 then
    if (slotOp w = 3 || slotOp w = 4 || slotOp w = 6) && !p.syncPassed s w then (if slotOp w = 6 then 4 else slotOp w - 1)
    else 0
  else if k = 14 && slotOp w = 5 && nth (p.seq s).loading (bitsOf w 57 1) false then 5
  else 0

/-- The order in which the slots of a line act: slot 13 first (R129), the sequencer's last. -/
def slotOrder : List Nat := [13, 0, 1, 2, 3, 4, 5, 6, 7, 8, 9, 10, 11, 12, 14]

/-- An operation of a line: slot, word and plan. -/
abbrev SlotOp := Nat × Nat × OpPlan

/-- The crossing end that a mover's word uses: its opcode, MSEND or MRECV, and its bundle. -/
def crossingEnd (k w : Nat) : Option (Nat × Nat) :=
  if 8 ≤ k && k < 12 && (slotOp w = 0x20 || slotOp w = 0x21) then some (slotOp w, bitsOf w 52 6) else none

/-- An earlier slot of the line starts an operation on the same crossing end, which takes one at a time (R292, R297). -/
def crossingTaken (l : Line) (k : Nat) : Bool :=
  match crossingEnd k (slotWord l k) with
  | none => false
  | some x => (List.range k).any fun j => crossingEnd j (slotWord l j) = some x

/-- The operations of a line. -/
def Panel.slotOps (p : Panel) (m : Mem) (s : Nat) (l : Line) : List SlotOp :=
  (slotOrder.filter fun k => slotOp (slotWord l k) ≠ 0).map fun k =>
    let o := p.planSlot m s k (slotWord l k) (ximmFor l k)
    (k, slotWord l k, if crossingTaken l k && o.code.isNone then .bad 0x0902 else o)

/-- The clusters whose scoreboard keeps the operations from issuing: `c` for a conflict, `4 + c` for a lack of entries
(R255). -/
def Panel.boardHold (p : Panel) (s : Nat) (ops : List SlotOp) : List Nat :=
  let rs := ops.flatMap fun o => o.2.2.reqs
  let cs := ops.flatMap fun o => o.2.2.checks
  ((List.range 4).filter fun c => p.sbConflict s c (rs ++ cs))
    ++ ((List.range 4).filter fun c => p.sbFull s c rs).map fun c => 4 + c

/-- Why the operations of a line hold the die (R81): the cause, and everything that counts the hold, whatever the cause
(R243, R255, R269). `late` names the clusters of which a bank row that the line needs is late (R243), `record` whether
crossings are due too. -/
def Panel.lineHold (p : Panel) (s : Nat) (ops : List SlotOp) (record : Bool) (late : Nat) : Nat × List Nat :=
  let mesh := if record then p.meshHold s else 0
  let own := ops.foldl (fun h o => if h = 0 then o.2.2.hold else h) 0
  let board := p.boardHold s ops
  let banks := (List.range 4).filter (bitOf late) |>.map fun c => 8 + c
  let by_ := distinct ((ops.flatMap fun o => o.2.2.holdBy) ++ board ++ banks)
  if mesh ≠ 0 then (mesh, by_)
  else if own ≠ 0 then (own, by_)
  else if !board.isEmpty then (4, by_)
  else if !banks.isEmpty then (3, by_)
  else (0, [])

/-- The first wait that operations of a line still have. -/
def Panel.lineWait (p : Panel) (s : Nat) (ops : List SlotOp) : Nat :=
  ops.foldl (fun h o => if h = 0 then p.slotWait s o.1 o.2.1 else h) 0

/-- The operations of a line that break no rule. -/
def goodOps (ops : List SlotOp) : List SlotOp := ops.filter fun o => o.2.2.code.isNone

/-! ### The token meter (R412–R416) -/

/-- What one operation charges in an issuing die cycle (R183, R184, R206). -/
def EngineOp.charge (o : EngineOp) (e now : Nat) : Nat :=
  let step := if o.slow then 2 else 1
  let start := o.portEnd - step * o.count
  if o.kind = .stream && start ≤ now && now < o.portEnd && (now - start) % step = 0 then (if e = 0 then 8 else 4) else 0

/-- What the rows entering the arrays in the current cycle charge (R412). -/
def Panel.charge (p : Panel) (s : Nat) : Nat :=
  ((List.range 8).map fun i => ((p.engine s (i / 2) (i % 2)).ops.map fun o => o.charge (i % 2) (p.cycles s)).sum).sum

/-- What the streams of a line about to issue charge in its cycle. -/
def newCharge (ops : List SlotOp) : Nat :=
  (ops.map fun o => if o.1 < 8 && slotOp o.2.1 = 2 then (if o.1 < 4 then 8 else 4) else 0).sum

/-- A period charges `n`. -/
def Panel.period (p : Panel) (s n : Nat) : Panel := p.modSeq s fun q => { q with tokens := (n :: q.tokens).take 255 }

/-- Several periods in which no row enters. -/
def Panel.idlePeriods (p : Panel) (s n : Nat) : Panel :=
  p.modSeq s fun q => { q with tokens := (List.replicate (min n 255) 0 ++ q.tokens).take 255 }

/-- The allowance for a number of derated clusters (R413). -/
def allowance (allow derated : Nat) : Nat := allow * (32 - 3 * derated) / 32

/-! ### Issue -/

/-- The end of a die cycle that issued: its charge enters the window, the index advances, and at N without ENDS 0x0225 is
raised (R114, R412). -/
def Panel.advance (p : Panel) (s : Nat) : Panel :=
  let n := p.charge s
  let sum := n + (p.seq s).tokens.sum
  let p := (p.period s n).periodsPass s 1
  let p := p.tally s Csr.DRW_TOK_USED n
  let p := p.setField s Csr.DRW_TOK_PEAK (max (p.field s Csr.DRW_TOK_PEAK) sum)
  let p := p.modSeq s fun q => { q with cycles := q.cycles + 1 }
  let p := p.each (List.range 4) fun p c => if bitOf (p.field s Csr.SPR_STATUS_COPY_BUSY) c then p.showCopy s c else p
  let i := p.field s Csr.STK_SEQ_POS_CYCLE + 1
  let p := p.setField s Csr.STK_SEQ_POS_CYCLE i
  match p.regionOf s with
  | some r => if p.field sitePD (Csr.STK_R_SCHED_LEN r) ≤ i && !(p.seq s).ended then p.seqFault s 0x0225 else p
  | none => p

/-- A code of a slot's operation is raised. -/
def Panel.raiseSlot (p : Panel) (s k w code : Nat) : Panel :=
  if 0x0220 ≤ code && code < 0x0230 then p.seqFault s code
  else if k = 12 then p.raiseJus s code (bitsOf w 54 4) (p.field s Csr.STK_SEQ_POS_CYCLE) 0
  else p.raiseAt s (k % 4) code

/-- The die begins to hold with a line (R81, R83). -/
def Panel.beginHold (p : Panel) (s : Nat) (l : Line) (record : Bool) (cause : Nat) (by_ : List Nat) : Panel :=
  let p := p.modSeq s fun q => { q with stalled := some l, stalledRecord := record, holdCause := cause, holdBy := by_ }
  let p := p.modClock s fun k => { k with holds := k.holds + 1 }
  p.setFlag s Csr.CLK_STATUS_HOLDING true

/-- An overdraw hold of one period (R414, R415). -/
def Panel.overdraw (p : Panel) (s : Nat) (l : Line) (record : Bool) : Panel :=
  let first := !(p.seq s).overdrawn
  let p := (p.beginHold s l record 6 []).modSeq s fun q => { q with overdrawn := true }
  let p := (p.modClock s fun k => { k with holdCycles := k.holdCycles + 1 }).periodsPass s 1
  let p := p.tally s Csr.DRW_TOK_LAST_HELD 1
  let p := p.tally s Csr.DRW_TOK_LAST_HOLDS 1
  p.raiseIf first s 0x1301

/-- The die begins a wait stall with a line (R133). -/
def Panel.beginWait (p : Panel) (s : Nat) (l : Line) (record : Bool) (kind : Nat) : Panel :=
  let p := p.modSeq s fun q => { q with stalled := some l, stalledRecord := record, waits := q.waits + 1, thisWait := 0 }
  let p := p.setFlag s Csr.STK_SEQ_STATUS_WAITING true
  p.setField s Csr.STK_SEQ_STATUS_WAIT_KIND kind

/-- No line is stalled. -/
def Panel.unstall (p : Panel) (s : Nat) : Panel :=
  let p := p.modSeq s fun q => { q with stalled := none, holdCause := 0, holdBy := [] }
  let p := p.setFlag s Csr.CLK_STATUS_HOLDING false
  let p := p.setFlag s Csr.STK_SEQ_STATUS_WAITING false
  p.setField s Csr.STK_SEQ_STATUS_WAIT_KIND 0

/-- An operation issues: its ranges are registered under a new number, and it acts. -/
def Panel.actSlot (p : Panel) (s : Nat) (o : SlotOp) : Panel :=
  let id := (p.seq s).nextOp
  let p := p.modSeq s fun q => { q with nextOp := id + 1 }
  o.2.2.act id (p.register s id o.2.2.reqs)

/-- MARK (R125): the die's trace ring takes a record with the die's own panel time, newest first; a full ring loses its oldest
record. -/
def Panel.markTrace (p : Panel) (s w : Nat) : Panel :=
  if slotOp w = 2 && p.isSet s Csr.STK_SEQ_CTRL_TRACE then
    p.modSeq s fun q => { q with trace :=
      ((bitsOf w 0 32, p.field s Csr.STK_SEQ_POS_CYCLE, p.dieStamp s) :: q.trace).take Config.traceDepth }
  else p

/-- One line comes up for issue (R112, R113, R133, R414). `record` says that it is a cycle of the stream. Decode faults stop
it whole; holds, then waits, then overdraw keep it; as it issues, operations that break a rule raise their codes and do
not issue, and from region-abort on nothing does. -/
def Panel.issueLine (p : Panel) (m : Mem) (s : Nat) (l : Line) (record : Bool) (late : Nat) : Panel :=
  if !lineOk l then p.seqFault s 0x0220
  else
    let p := if record then p.meshLand s else p
    let all := p.slotOps m s l
    let good := goodOps all
    let bad := all.filterMap fun o => o.2.2.code.map fun c => (o.1, o.2.1, c)
    let hold := p.lineHold s good record late
    let wait := p.lineWait s good
    let sum := p.charge s + newCharge good + (p.seq s).tokens.sum
    if hold.1 ≠ 0 then p.beginHold s l record hold.1 hold.2
    else if wait ≠ 0 then p.beginWait s l record wait
    else if p.field s Csr.DRW_TOK_ALLOW_EFFECTIVE < sum then p.overdraw s l record
    else
      let p := p.each bad fun p b => p.raiseSlot s b.1 b.2.1 b.2.2
      if bad.any fun b => sevRank .regionAbort ≤ sevRank (severityOf b.2.2) then p
      else
        let p := if record then p.meshRun m s else p
        let p := p.each good fun p o => p.actSlot s o
        let p := p.markTrace s (slotWord l 15)
        if record then p.advance s else p

/-- The sequencer may take its next record. -/
def Panel.seqRuns (p : Panel) (s : Nat) : Bool :=
  p.isSet s Csr.STK_SEQ_STATUS_ISSUING && (p.seq s).stalled.isNone && (p.seq s).quadLeft = 0

/-- STK_SEQ_POS takes the position of the record being issued, and the record after it comes next. -/
def Panel.takeRecord (p : Panel) (s next : Nat) : Panel :=
  let q := p.seq s
  let p := p.setField s Csr.STK_SEQ_POS_OFFSET q.pos
  let p := p.setField s Csr.STK_SEQ_POS_HALF q.half
  p.modSeq s fun q => { q with pos := next }

/-- The record that comes next. -/
def Panel.nextRecord (p : Panel) (s : Nat) : LineRecord := p.recordAt s (p.seq s).half (p.seq s).pos

/-- A line or quad ends a run of markers and fills the body (R117, R118). -/
def Panel.bodyLine (p : Panel) (s : Nat) : Panel := p.modSeq s fun q => { q with bodyHasLine := true, markerRun := false }

/-- The lines of a quad, until one stalls or the die stops. -/
def Panel.runQuad (p : Panel) (m : Mem) (s late : Nat) : Nat → Panel
  | 0 => p
  | n + 1 =>
    let p := p.modSeq s fun q => { q with quadLeft := n }
    let p := p.issueLine m s [] true late
    if (p.seq s).stalled.isSome then p
    else if p.isSet s Csr.STK_SEQ_STATUS_ISSUING then p.runQuad m s 0 n
    else p.modSeq s fun q => { q with quadLeft := 0 }

/-- A loop marker met by the sequencer: each after the first of a run costs one empty die cycle (R117). -/
def Panel.markerCycle (p : Panel) (m : Mem) (s : Nat) : Panel :=
  let again := (p.seq s).markerRun
  let p := (p.modSeq s fun q => { q with markerRun := true }).seqStatus s
  if again then p.issueLine m s [] true 0 else p

/-- A loop begin (R118). -/
def Panel.loopBegin (p : Panel) (m : Mem) (s depth count : Nat) : Panel :=
  let q := p.seq s
  let p := p.takeRecord s (q.pos + 1)
  if depth ≠ q.loops.length || count = 0 then p.seqFault s 0x0226
  else
    (p.modSeq s fun q => { q with loops := (q.pos, q.half, count) :: q.loops, bodyHasLine := false }).markerCycle m s

/-- A loop end (R118, R121). -/
def Panel.loopEnd (p : Panel) (m : Mem) (s depth : Nat) : Panel :=
  let q := p.seq s
  let p := p.takeRecord s (q.pos + 1)
  match q.loops with
  | [] => p.seqFault s 0x0226
  | (body, half, left) :: outer =>
    if depth ≠ outer.length || !q.bodyHasLine || half ≠ q.half then p.seqFault s 0x0226
    else if left ≤ 1 then (p.modSeq s fun q => { q with loops := outer }).markerCycle m s
    else
      match p.enterCode s half none with
      | some code => p.seqFault s code
      | none =>
        (p.modSeq s fun q => { q with pos := body, loops := (body, half, left - 1) :: outer }).markerCycle m s

/-! ### The end of holds and waits -/

/-- A hold or wait of a die has lasted `n` die cycles, and the stalled line comes up again. -/
def Panel.retryLine (p : Panel) (m : Mem) (s : Nat) (l : Line) : Panel :=
  let record := (p.seq s).stalledRecord
  (p.unstall s).issueLine m s l record 0

/-- The counts of `n` held die cycles in which the causes stood as Seq.holdBy has them (R61, R83, R243, R255, R269). -/
def Panel.countHold (p : Panel) (s n : Nat) : Panel :=
  let by_ := (p.seq s).holdBy
  let p := p.modClock s fun k => { k with holdCycles := k.holdCycles + n }
  let p := (p.idlePeriods s n).periodsPass s n
  let p := p.each (by_.filter fun i => 16 ≤ i) fun p i => p.tally s (Csr.GAL_G_FULL (i - 16)) n
  p.each (List.range 4) fun p c =>
    let p := if by_.contains c || by_.contains (4 + c) then p.tally s (Csr.SPR_C_SB_HOLD c) n else p
    let p := if by_.contains (4 + c) then p.tally s (Csr.SPR_C_SB_FULL c) n else p
    if by_.contains (8 + c) then p.tally s (Csr.SPR_C_BANK_HOLD c) n else p

/-- The die is held for something other than overdraw. -/
def Seq.held (q : Seq) : Bool := q.stalled.isSome && q.holdCause ≠ 0 && q.holdCause ≠ 6

/-! ### The commands -/

/-- LINE_ISSUE (R113). `late` names the clusters of which a bank row is late (R243). -/
def execLineIssue (site late : Nat) (s : State) : Host.Outcome State Fault Refusal :=
  .next (s.store fun m p =>
    if !p.seqRuns site then p
    else match p.nextRecord site with
      | .bad code => (p.takeRecord site (p.seq site).pos).seqFault site code
      | .line l next => ((p.takeRecord site next).bodyLine site).issueLine m site l true late
      | _ => p)

/-- SLOT_NOP (R111): a slot that holds NOP does nothing. -/
def execSlotNop (_site _slot : Nat) (s : State) : Host.Outcome State Fault Refusal := .next (s.quiet fun p => p)

/-- QUAD (R115): the record's empty lines, or what is left of them after a hold. -/
def execQuad (site late : Nat) (s : State) : Host.Outcome State Fault Refusal :=
  .next (s.store fun m p =>
    let q := p.seq site
    if q.stalled.isSome || !p.isSet site Csr.STK_SEQ_STATUS_ISSUING then p
    else if q.quadLeft ≠ 0 then p.runQuad m site late q.quadLeft
    else match p.nextRecord site with
      | .bad code => (p.takeRecord site q.pos).seqFault site code
      | .quad n => ((p.takeRecord site (q.pos + 1)).bodyLine site).runQuad m site late n
      | _ => p)

/-- LOOP_BEGIN (R118). -/
def execLoopBegin (site : Nat) (s : State) : Host.Outcome State Fault Refusal :=
  .next (s.store fun m p =>
    if !p.seqRuns site then p
    else match p.nextRecord site with
      | .bad code => (p.takeRecord site (p.seq site).pos).seqFault site code
      | .loopBegin d n => p.loopBegin m site d n
      | _ => p)

/-- LOOP_END (R118). -/
def execLoopEnd (site : Nat) (s : State) : Host.Outcome State Fault Refusal :=
  .next (s.store fun m p =>
    if !p.seqRuns site then p
    else match p.nextRecord site with
      | .bad code => (p.takeRecord site (p.seq site).pos).seqFault site code
      | .loopEnd d => p.loopEnd m site d
      | _ => p)

/-- SCHEDULE_LENGTH_REACHED (R114). -/
def execScheduleLengthReached (site : Nat) (s : State) : Host.Outcome State Fault Refusal :=
  .next (s.quiet fun p =>
    match p.regionOf site with
    | some r =>
      if p.isSet site Csr.STK_SEQ_STATUS_ISSUING && !(p.seq site).ended
          && p.field sitePD (Csr.STK_R_SCHED_LEN r) ≤ p.field site Csr.STK_SEQ_POS_CYCLE then p.seqFault site 0x0225
      else p
    | none => p)

/-- PAGE_LOAD_COMPLETE (R121): every read of the load has completed. -/
def execPageLoadComplete (site half : Nat) (s : State) : Host.Outcome State Fault Refusal :=
  .next (s.quiet fun p =>
    let q := p.seq site
    if nth q.loading half false && nth q.readsLeft half 0 = 0 then
      (p.modSeq site fun q => { q with loading := setNth q.loading half false, complete := setNth q.complete half true }).seqStatus site
    else p)

/-- WAIT_PASS (R133): after `cycles` die cycles of wait stall every wait of the line passes, and it issues. -/
def execWaitPass (site cycles : Nat) (s : State) : Host.Outcome State Fault Refusal :=
  .next (s.store fun m p =>
    let q := p.seq site
    match q.stalled with
    | none => p
    | some l =>
      if q.holdCause ≠ 0 then p
      else if p.lineWait site (goodOps (p.slotOps m site l)) ≠ 0 then p
      else
        let p := p.modSeq site fun q => { q with waitCycles := q.waitCycles + cycles, thisWait := cycles }
        ((p.idlePeriods site cycles).periodsPass site cycles).retryLine m site l)

/-- SWAITB_BOUND_EXPIRED (R134): the bound has run out and the condition has not passed. -/
def execSwaitbBoundExpired (site : Nat) (s : State) : Host.Outcome State Fault Refusal :=
  .next (s.quiet fun p =>
    let q := p.seq site
    match q.stalled with
    | none => p
    | some l =>
      let w := slotWord l 13
      if q.holdCause = 0 && slotOp w = 4 && !p.syncPassed site w then
        let n := bitsOf w 34 16
        let p := p.modSeq site fun q => { q with waitCycles := q.waitCycles + n, thisWait := n }
        (((p.idlePeriods site n).periodsPass site n).unstall site).seqFault site 0x0228
      else p)

/-- SYNC_WAIT_TIMEOUT (R134): a SWAIT or SWAITW has not passed after STK_SEQ_SYNC_TIMEOUT, whether the die waits or holds. -/
def execSyncWaitTimeout (site : Nat) (s : State) : Host.Outcome State Fault Refusal :=
  .next (s.quiet fun p =>
    match (p.seq site).stalled with
    | none => p
    | some l =>
      let w := slotWord l 13
      if (slotOp w = 3 || slotOp w = 6) && !p.syncPassed site w then p.seqFault site 0x0227 else p)

/-- HOLD_END (R81): a cause of the hold ends after `cycles` held die cycles, which count for the causes that stood (R83). `late`
names the clusters of which a bank row is still late (R243). With nothing left the held cycle issues; while anything still
holds the line, the hold goes on under the causes that are left. -/
def execHoldEnd (site cycles late : Nat) (s : State) : Host.Outcome State Fault Refusal :=
  .next (s.store fun m p =>
    let q := p.seq site
    match q.stalled with
    | none => p
    | some l =>
      if !q.held then p
      else
        let p := p.countHold site cycles
        let still := p.lineHold site (goodOps (p.slotOps m site l)) q.stalledRecord late
        if still.1 ≠ 0 then p.modSeq site fun q => { q with holdCause := still.1, holdBy := still.2 }
        else p.retryLine m site l)

/-- HOLD_TIMEOUT (R83, R255, R269): a single hold has outlasted CLK_HOLD_TIMEOUT. A crossing, a scoreboard and a galley that
keep the die each raise their own code. -/
def execHoldTimeout (site : Nat) (s : State) : Host.Outcome State Fault Refusal :=
  .next (s.quiet fun p =>
    let q := p.seq site
    if !q.held then p
    else
      let p := p.raiseIf (q.holdCause = 1) site 0x0301
      let p := p.raiseIf (q.holdCause = 2) site 0x0302
      let p := p.raiseIf (q.holdBy.any (· < 8)) site 0x0704
      p.raiseIf (q.holdBy.any (16 ≤ ·)) site 0x0803)

/-- OVERDRAW_RETRY (R414): the held period is over, and the line comes up again. -/
def execOverdrawRetry (site : Nat) (s : State) : Host.Outcome State Fault Refusal :=
  .next (s.store fun m p =>
    let q := p.seq site
    match q.stalled with
    | some l => if q.holdCause = 6 then (p.period site 0).retryLine m site l else p
    | none => p)

end Sys2Proof.Machine
end

