-- ==== Sys2Proof/Machine/SlotOps.lean ====
section
/-! DEFINITION. The commands that are one slot operation of a line each. A command gives the cluster where the slot is a
cluster's, the 58 bits [57:0] of the slot's word, and the VALUE of the line's XIMM when it has one that names the slot; the
opcode is the command's own. It comes up for issue as a line that holds this slot alone. -/

namespace Sys2Proof.Machine

/-- The word of a slot: opcode and bits [57:0]. -/
def slotWordOf (op : Nat) (w : BitVec 58) : Nat := op * 2 ^ 58 + w.toNat

/-- The line that holds one slot, with its XIMM in slot 15. -/
def oneSlot (k op : Nat) (w : BitVec 58) (ximm : Option (BitVec 54)) : Line :=
  match ximm with
  | none => [(k, slotWordOf op w)]
  | some v => [(k, slotWordOf op w), (15, 2 ^ 58 + k * 2 ^ 54 + v.toNat)]

/-- One slot operation comes up for issue on a die that no stalled line keeps (R113). -/
def State.slot (s : State) (site k op : Nat) (w : BitVec 58) (ximm : Option (BitVec 54)) :
    Host.Outcome State Fault Refusal :=
  .next (s.store fun m p =>
    if (p.seq site).stalled.isSome then p else p.issueLine m site (oneSlot k op w ximm) false 0)

/-- WLOAD (R180). -/
def execWload (site cluster : Nat) (w : BitVec 58) (ximm : Option (BitVec 54)) (s : State) : Host.Outcome State Fault Refusal :=
  s.slot site (0 + cluster % 4) 1 w ximm

/-- STREAM (R175). -/
def execStream (site cluster : Nat) (w : BitVec 58) (ximm : Option (BitVec 54)) (s : State) : Host.Outcome State Fault Refusal :=
  s.slot site (0 + cluster % 4) 2 w ximm

/-- DRAIN (R173). -/
def execDrain (site cluster : Nat) (w : BitVec 58) (s : State) : Host.Outcome State Fault Refusal :=
  s.slot site (0 + cluster % 4) 3 w none

/-- AINIT (R175). -/
def execAinit (site cluster : Nat) (w : BitVec 58) (s : State) : Host.Outcome State Fault Refusal :=
  s.slot site (0 + cluster % 4) 4 w none

/-- SLOAD (R204). -/
def execSload (site cluster : Nat) (w : BitVec 58) (ximm : Option (BitVec 54)) (s : State) : Host.Outcome State Fault Refusal :=
  s.slot site (4 + cluster % 4) 1 w ximm

/-- SSTREAM (R202). -/
def execSstream (site cluster : Nat) (w : BitVec 58) (ximm : Option (BitVec 54)) (s : State) : Host.Outcome State Fault Refusal :=
  s.slot site (4 + cluster % 4) 2 w ximm

/-- SDRAIN (R202). -/
def execSdrain (site cluster : Nat) (w : BitVec 58) (s : State) : Host.Outcome State Fault Refusal :=
  s.slot site (4 + cluster % 4) 3 w none

/-- SAINIT (R202). -/
def execSainit (site cluster : Nat) (w : BitVec 58) (s : State) : Host.Outcome State Fault Refusal :=
  s.slot site (4 + cluster % 4) 4 w none

/-- GATE (R226). -/
def execGate (site : Nat) (w : BitVec 58) (ximm : Option (BitVec 54)) (s : State) : Host.Outcome State Fault Refusal :=
  s.slot site 12 1 w ximm

/-- JUST (R234). -/
def execJust (site : Nat) (w : BitVec 58) (s : State) : Host.Outcome State Fault Refusal :=
  s.slot site 12 2 w none

/-- MERGE (R235). -/
def execMerge (site : Nat) (w : BitVec 58) (s : State) : Host.Outcome State Fault Refusal :=
  s.slot site 12 3 w none

/-- COPY (R245). -/
def execCopy (site cluster : Nat) (w : BitVec 58) (s : State) : Host.Outcome State Fault Refusal :=
  s.slot site (8 + cluster % 4) 1 w none

/-- ZERO (R245). -/
def execZero (site cluster : Nat) (w : BitVec 58) (s : State) : Host.Outcome State Fault Refusal :=
  s.slot site (8 + cluster % 4) 2 w none

/-- STORE (R246). -/
def execStore (site cluster : Nat) (w : BitVec 58) (ximm : Option (BitVec 54)) (s : State) : Host.Outcome State Fault Refusal :=
  s.slot site (8 + cluster % 4) 3 w ximm

/-- CSTORE (R247). -/
def execCstore (site cluster : Nat) (w : BitVec 58) (s : State) : Host.Outcome State Fault Refusal :=
  s.slot site (8 + cluster % 4) 4 w none

/-- PUT (R245). -/
def execPut (site cluster : Nat) (w : BitVec 58) (ximm : Option (BitVec 54)) (s : State) : Host.Outcome State Fault Refusal :=
  s.slot site (8 + cluster % 4) 5 w ximm

/-- WOPEN (R251). -/
def execWopen (site cluster : Nat) (w : BitVec 58) (s : State) : Host.Outcome State Fault Refusal :=
  s.slot site (8 + cluster % 4) 6 w none

/-- WCLOSE (R251). -/
def execWclose (site cluster : Nat) (w : BitVec 58) (s : State) : Host.Outcome State Fault Refusal :=
  s.slot site (8 + cluster % 4) 7 w none

/-- GREAD (R267). -/
def execGread (site cluster : Nat) (w : BitVec 58) (s : State) : Host.Outcome State Fault Refusal :=
  s.slot site (8 + cluster % 4) 0x10 w none

/-- GWRITE (R267). -/
def execGwrite (site cluster : Nat) (w : BitVec 58) (s : State) : Host.Outcome State Fault Refusal :=
  s.slot site (8 + cluster % 4) 0x11 w none

/-- GWAIT (R271). -/
def execGwait (site cluster : Nat) (w : BitVec 58) (s : State) : Host.Outcome State Fault Refusal :=
  s.slot site (8 + cluster % 4) 0x12 w none

/-- GDRAIN (R267). -/
def execGdrain (site cluster : Nat) (w : BitVec 58) (s : State) : Host.Outcome State Fault Refusal :=
  s.slot site (8 + cluster % 4) 0x13 w none

/-- MSEND (R294). -/
def execMsend (site cluster : Nat) (w : BitVec 58) (s : State) : Host.Outcome State Fault Refusal :=
  s.slot site (8 + cluster % 4) 0x20 w none

/-- MRECV (R295). -/
def execMrecv (site cluster : Nat) (w : BitVec 58) (s : State) : Host.Outcome State Fault Refusal :=
  s.slot site (8 + cluster % 4) 0x21 w none

/-- TSEND (R313). -/
def execTsend (site cluster : Nat) (w : BitVec 58) (s : State) : Host.Outcome State Fault Refusal :=
  s.slot site (8 + cluster % 4) 0x22 w none

/-- ENDS (R124). -/
def execEnds (site : Nat) (w : BitVec 58) (s : State) : Host.Outcome State Fault Refusal :=
  s.slot site 14 1 w none

/-- LAUNCH (R137). -/
def execLaunch (site : Nat) (w : BitVec 58) (s : State) : Host.Outcome State Fault Refusal :=
  s.slot site 14 2 w none

/-- PAGE (R120). -/
def execPage (site : Nat) (w : BitVec 58) (s : State) : Host.Outcome State Fault Refusal :=
  s.slot site 14 3 w none

/-- JUMPP (R124). -/
def execJumpp (site : Nat) (w : BitVec 58) (s : State) : Host.Outcome State Fault Refusal :=
  s.slot site 14 4 w none

/-- WAITL (R121). -/
def execWaitl (site : Nat) (w : BitVec 58) (s : State) : Host.Outcome State Fault Refusal :=
  s.slot site 14 5 w none

/-- SWAIT (R128). -/
def execSwait (site : Nat) (w : BitVec 58) (s : State) : Host.Outcome State Fault Refusal :=
  s.slot site 13 3 w none

/-- SWAITB (R134). -/
def execSwaitb (site : Nat) (w : BitVec 58) (s : State) : Host.Outcome State Fault Refusal :=
  s.slot site 13 4 w none

/-- SWAITW (R131). -/
def execSwaitw (site : Nat) (w : BitVec 58) (s : State) : Host.Outcome State Fault Refusal :=
  s.slot site 13 6 w none

/-- XIMM (R125): supplies VALUE to slot `slot` of its line. A line that holds it alone changes nothing, and one that names
slot 15 does not decode (R112). With the operation that it serves, it is that operation's `ximm` operand. -/
def execXimm (site slot : Nat) (value : BitVec 54) (s : State) : Host.Outcome State Fault Refusal :=
  .next (s.store fun m p =>
    if (p.seq site).stalled.isSome then p
    else p.issueLine m site [(15, 2 ^ 58 + slot % 16 * 2 ^ 54 + value.toNat)] false 0)

/-- MARK (R125). -/
def execMark (site : Nat) (w : BitVec 58) (s : State) : Host.Outcome State Fault Refusal := s.slot site 15 2 w none

end Sys2Proof.Machine
end

