-- ==== Sys2Proof/Machine/Load.lean ====
section
/-! DEFINITION. What a lock-up, an imposition switch and a restart write into the dies (R396 to R399, R409, R440 step 6):
registers, pages, relocations, compositor images, constants, counters, powered clusters and the entry page. -/

namespace Sys2Proof.Machine

/-! ### Clearing -/

/-- The CSR words of a site from one offset up to another return to their reset values. -/
def Panel.clearWords (p : Panel) (s lo hi : Nat) : Panel :=
  { p with csr := p.csr.filter fun x => x.1 < csrKey s lo || csrKey s hi ≤ x.1 }

/-- A die's line, threads, mover and slot-12 operations, ranges, windows (R252's cases) and mesh buffers (R298) are
discarded. -/
def Panel.stopDie (p : Panel) (s : Nat) : Panel :=
  let p := p.setFlag s Csr.STK_SEQ_STATUS_ISSUING false
  let p := p.unstall s
  let p := p.modSeq s fun q =>
    { q with stalledRecord := false, loops := [], bodyHasLine := false, markerRun := false, quadLeft := 0, launched := [],
             nextPos := none, nextEntry := 0, ended := false }
  let p := p.setField s Csr.STK_CMP_THREADS 0
  let p := { p with threads := p.threads.filter fun x => x.1 / 128 ≠ s }
  let p := p.each (List.range 4) fun p c =>
    ((p.modMover s c fun v => { v with ops := [], outbound := [], busyTo := 0 }).setBoard s c []).closeWindows s c
  let p := (p.setSlot12 s []).setField s Csr.SPR_STATUS_COPY_BUSY 0
  p.clearMesh s

/-- What a die's work of the abandoned strokes leaves behind is discarded (R440 step 1); the engines lose their accumulator rows
and weight banks (R179, R202). -/
def Panel.quietDie (p : Panel) (s : Nat) : Panel :=
  ((p.each (List.range 8) fun p i => p.loseEngine s (i / 2) (i % 2)).stopDie s).engineStatus s

/-- Both halves of a die's line buffer become invalid. -/
def Panel.clearPages (p : Panel) (s : Nat) : Panel :=
  (p.modSeq s fun q => { q with complete := [false, false], foxed := [false, false], loading := [false, false],
                                readsLeft := [0, 0] }).seqStatus s

/-! ### Power (R374, R396 step 6, R445) -/

/-- A cluster domain is wanted dark (0), at keep-warm (1) or on (2): an up domain changes at once between on and keep-warm,
whose pattern leaves no valid accumulator row and no ready bank in the DE (R478); a dark one is requested on (R457), and an
up one switches off at the next tick (R460). -/
def Panel.want (p : Panel) (s c mode : Nat) : Panel :=
  let st := p.field s (Csr.PWR_DOM_STATE c)
  if mode = 0 then
    if st = domDark || st = domFailed then p.modDomain s c fun d => { d with reqOn := false }
    else p.modDomain s c fun d => { d with reqOff := true }
  else
    let p := p.modDomain s c fun d => { d with reqOff := false, warm := mode = 1 }
    if st = domOn || st = domWarm then
      let p := p.setField s (Csr.PWR_DOM_STATE c) (if mode = 1 then domWarm else domOn)
      if mode = 1 && st = domOn then (p.modEngine s c 0 fun _ => {}).engineStatus s else p
    else if st = domDark && !(p.domain s c).reqOn then
      (p.modDomain s c fun d => { d with reqOn := true }).setField s (Csr.PWR_DOM_DEFERRALS c) 0
    else p

/-- The clusters that an imposition runs on, as (site, mask). -/
def FormeRegion.runs (d : FormeRegion) (imp : Nat) : List (Nat × Nat) :=
  match d.imp imp with
  | some i => i.places.map fun x => (x.2, match d.image x.1 with
      | some im => im.clusters
      | none => 0)
  | none => []

/-- A (site, mask) list names a cluster. -/
def namesCluster (l : List (Nat × Nat)) (s c : Nat) : Bool := l.any fun x => x.1 = s && bitOf x.2 c

/-- The clusters that an imposition keeps warm: its idle records, and in RUN mode what its single-loss impositions need
(R374, R445). -/
def FormeRegion.warms (d : FormeRegion) (imp : Nat) (run : Bool) : List (Nat × Nat) :=
  let idle := match d.imp imp with
    | some i => i.idle
    | none => []
  idle ++ if run then (d.imps.filter fun i => i.ikind = 1 && i.num ≠ imp).flatMap fun i => d.runs i.num else []

/-- How an imposition wants a cluster of a region site. -/
def FormeRegion.wants (d : FormeRegion) (imp : Nat) (run : Bool) (s c : Nat) : Nat :=
  if namesCluster (d.runs imp) s c then 2 else if namesCluster (d.warms imp run) s c then 1 else 0

/-- The effective draw mode: 0 PARK, 1 WARM, 2 RUN (R467). -/
def Panel.drawMode (p : Panel) : Nat := p.field sitePD Csr.DRW_STATUS_MODE

/-- The clusters of a region's sites are wanted as an imposition wants them; with `up` none is switched off yet, and those not
yet in use stay warm (R408). -/
def Panel.wantClusters (p : Panel) (d : FormeRegion) (imp : Nat) (up : Bool) : Panel :=
  p.each d.rec_.sites fun p s => p.each (List.range 4) fun p c =>
    let mode := d.wants imp (p.drawMode = 2) s c
    let st := p.field s (Csr.PWR_DOM_STATE c)
    if up then (if mode = 0 || st = domOn || st = domWarm then p else p.want s c 1) else p.want s c mode

/-- Every cluster that an imposition runs on is up. -/
def Panel.clustersUp (p : Panel) (d : FormeRegion) (imp : Nat) : Bool :=
  (d.runs imp).all fun x => (List.range 4).all fun c => !bitOf x.2 c || p.domainUp x.1 c

/-! ### RIGGING, contexts and shards (R369, R383, R396 step 1) -/

/-- RIGGING KIND 1: the roles of a die's bundles. -/
def Panel.rigDie (p : Panel) (m : Mem) (a : Nat) : Panel :=
  let s := m.nat (a + 2) 2
  p.each (List.range (faceCount s)) fun p e =>
    let w := m.nat (a + 4 + 4 * e) 4
    let p := p.setField s (Csr.FAB_RIG e) w
    p.each (List.range 16) fun p b => p.setField s (Csr.AZL_BUNDLE_ROLE (16 * e + b)) (bitsOf w (2 * b) 2)

/-- RIGGING KIND 2: a port's owner. -/
def Panel.rigPortOwner (p : Panel) (m : Mem) (a : Nat) : Panel :=
  let q := m.nat (a + 2) 2
  let ld := linkOfPort q
  let transit := m.nat (a + 6) 1 = 0xFF
  let p := p.setFlag ld (Csr.LNK_P_ROLE_TRANSIT (q % 4)) transit
  let p := p.setField ld (Csr.LNK_P_ROLE_OWNER (q % 4)) (if transit then 0 else m.nat (a + 6) 1)
  p.setField ld Csr.LNK_STATUS_TRANSIT_OWNED (putBits (p.field ld Csr.LNK_STATUS_TRANSIT_OWNED) (q % 4) 1 (flag transit))

/-- A context starts anew: its store, numbers and marks are empty (R359). -/
def Panel.emptyCtx (p : Panel) (c : Nat) : Panel :=
  let p := p.modCtx c fun _ => {}
  let p := p.setCtxField c Csr.LNK_CTX_NEXT_PSN 0
  (p.setCtxField c Csr.LNK_CTX_ACK_PSN 0).showStore (linkOfCtx c)

/-- Lock-up starts a context anew: a failed one has not failed any more (R348). -/
def Panel.freshCtx (p : Panel) (c : Nat) : Panel := (p.emptyCtx c).setCtxField c Csr.LNK_CTX_FAILED 0

/-- The contexts of a region, all or those of a kind (0 mirror, 1 stream). -/
def Panel.regionCtxs (p : Panel) (r : Nat) : List Nat :=
  (List.range 4096).filter fun c => p.ctxField c Csr.LNK_CTX_VALID = 1 && p.ctxField c Csr.LNK_CTX_REGION = r

/-- Writes the fields that both kinds of context have. -/
def Panel.writeCtx (p : Panel) (c r kind dir lbase llimit rto retry : Nat) : Panel :=
  let p := p.freshCtx c
  let p := p.setCtxField c Csr.LNK_CTX_VALID 1
  let p := p.setCtxField c Csr.LNK_CTX_DIR dir
  let p := p.setCtxField c Csr.LNK_CTX_KIND kind
  let p := p.setCtxField c Csr.LNK_CTX_REGION r
  let p := p.setCtxField c Csr.LNK_CTX_LBASE lbase
  let p := p.setCtxField c Csr.LNK_CTX_LLIMIT llimit
  let p := p.setCtxField c Csr.LNK_CTX_RTO rto
  let p := p.setCtxField c Csr.LNK_CTX_MAX_RETRY retry
  let p := p.setCtxField c Csr.LNK_CTX_SIG_EN 0
  let p := p.setCtxField c Csr.LNK_CTX_SIG_HOME 0
  let p := p.setCtxField c Csr.LNK_CTX_SIG_IDX 0
  let p := p.setCtxField c Csr.LNK_CTX_REMOTE_PANEL 0
  let p := p.setCtxField c Csr.LNK_CTX_REMOTE_CTX 0
  p.setCtxField c Csr.LNK_CTX_RBASE 0

/-- The remote end of a context. -/
def Panel.writeRemote (p : Panel) (c panel ctx rbase : Nat) : Panel :=
  let p := p.setCtxField c Csr.LNK_CTX_REMOTE_PANEL panel
  let p := p.setCtxField c Csr.LNK_CTX_REMOTE_CTX ctx
  p.setCtxField c Csr.LNK_CTX_RBASE rbase

/-- Adds a shard or stream range. -/
def Panel.addShard (p : Panel) (h : Shard) : Panel :=
  { p with fabric := { p.fabric with shards := p.fabric.shards ++ [h] } }

/-- RIGGING KIND 3: a stream context of a region, and the stream range of a send context (R343, R344). -/
def Panel.rigStream (p : Panel) (m : Mem) (d : FormeRegion) (a : Nat) : Panel :=
  let c := m.nat (a + 2) 2
  let dir := m.nat (a + 4) 1
  let lbase := m.nat (a + 0x10) 8
  let llimit := m.nat (a + 0x18) 4
  let p := p.writeCtx c d.region 1 dir lbase llimit (m.nat (a + 0xE) 2) (m.nat (a + 0xD) 1)
  let p := p.writeRemote c (m.nat (a + 6) 2) (m.nat (a + 8) 2) (m.nat (a + 0x20) 8)
  let p := p.setCtxField c Csr.LNK_CTX_SIG_EN (m.nat (a + 5) 1 % 2)
  let p := p.setCtxField c Csr.LNK_CTX_SIG_HOME (d.byHome d.rec_.defaultImp (m.nat (a + 0xA) 2))
  let p := p.setCtxField c Csr.LNK_CTX_SIG_IDX (m.nat (a + 0xC) 1)
  if dir = 0 then
    p.addShard { region := d.region, shard := 64 + c, ctx := c, send := true, stream := true, base := lbase, limit := llimit }
  else p

/-- RIGGING KIND 4: a feeder window. -/
def Panel.rigFeeder (p : Panel) (m : Mem) (d : FormeRegion) (a : Nat) : Panel :=
  let q := m.nat (a + 2) 2
  let ld := linkOfPort q
  let w (p : Panel) (f : Nat → Fld) (v : Nat) : Panel := p.setField ld (f (q % 4)) v
  let p := w p Csr.LNK_F_WIN_BASE (m.nat (a + 0x10) 8)
  let p := w p Csr.LNK_F_WIN_LENGTH (m.nat (a + 0x18) 4)
  let p := w p Csr.LNK_F_WIN_SIG_HOME (d.byHome d.rec_.defaultImp (m.nat (a + 6) 2))
  let p := w p Csr.LNK_F_WIN_SIG_IDX (m.nat (a + 8) 1)
  let p := w p Csr.LNK_F_WIN_SIG_EN (m.nat (a + 5) 1 % 2)
  let p := w p Csr.LNK_F_WIN_STREAM (m.nat (a + 0xA) 2)
  w p Csr.LNK_F_WIN_VALID 1

/-- RIGGING KIND 5: an Ethernet ring; its counts begin at zero. -/
def Panel.rigRing (p : Panel) (m : Mem) (d : FormeRegion) (a : Nat) : Panel :=
  let q := m.nat (a + 2) 2
  let ld := linkOfPort q
  let i := m.nat (a + 4) 1
  let fl := m.nat (a + 5) 1
  let base := m.nat (a + 0x10) 8
  let w (p : Panel) (f : Nat → Nat → Fld) (v : Nat) : Panel := p.setField ld (f (q % 4) i) v
  let p := w p Csr.LNK_E_RING_BASE base
  let p := w p Csr.LNK_E_RING_SLOTS (m.nat (a + 0xA) 2)
  let p := w p Csr.LNK_E_RING_SLOT_SIZE (flag (bitOf fl 2))
  let p := w p Csr.LNK_E_RING_SIG_HOME (d.byHome d.rec_.defaultImp (m.nat (a + 6) 2))
  let p := w p Csr.LNK_E_RING_SIG_IDX (m.nat (a + 8) 1)
  let p := w p Csr.LNK_E_RING_SIG_EN (flag (bitOf fl 0))
  let p := w p Csr.LNK_E_RING_PAUSE_EN (flag (bitOf fl 1))
  let p := w p Csr.LNK_E_RING_PAUSE_MARK (m.nat (a + 0xC) 2)
  let p := (w p Csr.LNK_E_RING_VALID 1).put { addr := 1024 * base, data := List.replicate 64 0 }
  p.modPort q fun x => { x with cons := x.cons.filter fun y => y.1 ≠ i }

/-- SETOFF_MAP: mirror contexts, shards and the acknowledgement wait (R284, R343, R383). -/
def Panel.setoffRec (p : Panel) (m : Mem) (d : FormeRegion) (a : Nat) : Panel :=
  let n (o k : Nat) : Nat := m.nat (a + o) k
  if n 0 1 = 3 then p.setField sitePD Csr.GAL_SO_ACK_WAIT (n 0x28 2)
  else
    let send := n 0 1 = 1
    let c := n 2 2
    let p := p.writeCtx c d.region 0 (if send then 0 else 1) (n 8 8) (n 0x10 4) (n 0x14 2) (n 0x16 1)
    let p := if send then p.writeRemote c (n 4 2) (n 6 2) (n 0x18 8) else p
    let p := if send then p.each memDieSites fun p md =>
        (p.setField md (Csr.GAL_SO_LAG (n 1 1)) 0).modMemDie md fun x => { x with stopped := x.stopped.filter (· ≠ n 1 1) }
      else p
    let p := if send then
        (p.setField sitePD Csr.GAL_SO_UNMIRRORED (putBits (p.field sitePD Csr.GAL_SO_UNMIRRORED) (n 1 1) 1 0)).setField sitePD
          (Csr.GAL_SO_ACKED (n 1 1)) 0
      else p
    p.addShard { region := d.region, shard := n 1 1, ctx := c, send := send, base := n 8 8, limit := n 0x10 4
                 accept := if send then [] else ((List.range 4).map fun i => n (0x20 + 2 * i) 2).filter (· ≠ 0xFFFF) }

/-- The copies, markers and reports that are on their way for some contexts are gone. -/
def Panel.dropCopies (p : Panel) (ctxs : List Nat) : Panel :=
  let keeps (x : NetMsg) : Bool := match x with
    | .setoff _ c _ _ _ => !ctxs.contains c
    | .resync _ c _ _ => !ctxs.contains c
    | .streamCopy _ c _ _ _ => !ctxs.contains c
    | .sheetEnd _ c _ => !ctxs.contains c
    | _ => true
  let p := { p with net := p.net.filter keeps }
  p.each (memDieSites.filter fun md => p.memDie md ≠ {}) fun p md =>
    let p := p.modMemDie md fun d =>
      { d with copies := d.copies.filter fun c => !ctxs.contains c.ctx,
               notices := d.notices.map fun n => { n with waits := n.waits.filter fun w => !ctxs.contains w.1 } }
    (p.showBuffer md).sheetEnds md

/-- A region's contexts become invalid, and its shards end; the region's lock-up writes its own anew (R343). -/
def Panel.dropLinks (p : Panel) (r : Nat) : Panel :=
  let ctxs := p.regionCtxs r
  let p := p.dropCopies ctxs
  let p := p.each ctxs fun p c => (p.freshCtx c).setCtxField c Csr.LNK_CTX_VALID 0
  let p := p.each (List.range 128) fun p q =>
    let ld := linkOfPort q
    if p.field ld (Csr.LNK_P_ROLE_OWNER (q % 4)) = r && !p.isSet ld (Csr.LNK_P_ROLE_TRANSIT (q % 4)) then
      let p := p.setFlag ld (Csr.LNK_F_WIN_VALID (q % 4)) false
      p.each (List.range 8) fun p i => p.setFlag ld (Csr.LNK_E_RING_VALID (q % 4) i) false
    else p
  { p with fabric := { p.fabric with shards := p.fabric.shards.filter fun h => h.region ≠ r } }

/-- RIGGING's records for the panel and for one region's streams, windows and rings. -/
def Panel.rigPanel (p : Panel) (m : Mem) (secs : List FormeSection) : Panel :=
  p.each (recsOf m secs 2) fun p (_, _, a) =>
    match m.nat a 1 with
    | 1 => p.rigDie m a
    | 2 => p.rigPortOwner m a
    | _ => p
def Panel.rigRegionRecs (p : Panel) (m : Mem) (secs : List FormeSection) (regs : List FormeRegion) (d : FormeRegion) : Panel :=
  p.each (recsOf m secs 2) fun p (x, _, a) =>
    if rigRegion m regs secs x a ≠ d.region then p
    else match m.nat a 1 with
      | 3 => p.rigStream m d a
      | 4 => p.rigFeeder m d a
      | 5 => p.rigRing m d a
      | _ => p

/-! ### Traces (R312, R371) -/

/-- The traces of a region are torn down, and those of an imposition written. -/
def Panel.loadTraces (p : Panel) (m : Mem) (d : FormeRegion) (imp : Nat) : Panel :=
  let p := p.each allSites fun p s => p.each (List.range 256) fun p t =>
    if p.isSet s (Csr.FAB_TRACE_VALID t) && p.field s (Csr.FAB_TRACE_REGION t) = d.region then
      p.setField s (Csr.FAB_TRACE t) 0 else p
  p.each ((d.serving 5 imp).flatMap fun x => (x.recs m).map (·.2)) fun p a =>
    p.setField (m.nat (a + 2) 2) (Csr.FAB_TRACE (m.nat a 1)) (m.nat (a + 4) 4)

/-! ### Pages, relocations and compositor images (R376–R378, R397) -/

/-- A field of a word among bytes takes a value. -/
def patchBytes (l : List Byte) (off n lsb width v : Nat) : List Byte :=
  l.take off ++ leBytes n (putBits (leAt l off n) lsb width v) ++ l.drop (off + n)

/-- The relocation records of an image. -/
def FormeRegion.relocs (d : FormeRegion) (m : Mem) (image : Nat) : List Nat :=
  ((recsOf m d.sections 9).map fun x => x.2.2).filter fun a => m.nat a 2 = image

/-- The site of a relocation's target under an imposition. -/
def FormeRegion.relocSite (d : FormeRegion) (m : Mem) (imp a : Nat) : Option Nat :=
  (d.imp imp).bind fun i => i.siteOf (m.nat (a + 2) 2)

/-- An image's pages, patched for an imposition. -/
def FormeRegion.pages (d : FormeRegion) (m : Mem) (imp : Nat) (im : ImageDesc) : List Byte :=
  (d.relocs m im.image).foldl (fun l a =>
    let w := m.nat (a + 4) 4
    match d.relocSite m imp a with
    | some site => if bitOf w 31 then l else
        patchBytes l (bitsOf w 0 31) 8 (m.nat (a + 9) 1) (m.nat (a + 0xA) 1) (relocSum m im a site)
    | none => l) (m.read (im.at_ + 0x1000) (65536 * im.pages))

/-- Word `w` of core `k` of an image, patched for an imposition. -/
def FormeRegion.coreWord (d : FormeRegion) (m : Mem) (imp : Nat) (im : ImageDesc) (k w : Nat) : Nat :=
  (d.relocs m im.image).foldl (fun v a =>
    let wh := m.nat (a + 4) 4
    match d.relocSite m imp a with
    | some site => if bitOf wh 31 && bitsOf wh 16 5 = k && bitsOf wh 0 14 = w then
        putBits v (m.nat (a + 9) 1) (m.nat (a + 0xA) 1) (relocSum m im a site) else v
    | none => v) (m.nat (im.at_ + ceilDiv (coreStart m im k) 64 * 64 + 4 * w) 4)

/-- The compositor images of an image are written into the instruction memories of its die, with zero beyond them. -/
def Panel.loadCores (p : Panel) (m : Mem) (d : FormeRegion) (imp : Nat) (im : ImageDesc) (s : Nat) : Panel :=
  let p := p.clearWords s 0x200000 0x400000
  p.each (List.range 32) fun p k =>
    if !bitOf im.cores k then p
    else p.each (List.range (m.nat (im.at_ + 0x70 + 2 * k) 2)) fun p w =>
      p.setField s (Csr.CMP_IMEM (16384 * k + w)) (d.coreWord m imp im k w)

/-- Every patch whose V differs from the imposition in force's is made again, in the copy at IMAGE_ADDR and in the image's die
(R397); so is every one that a KIND 2 forme has brought. -/
def Panel.repatch (p : Panel) (m : Mem) (r new : Nat) : Panel :=
  let g := p.region r
  let d := g.forme
  p.each d.images fun p im => p.each (d.relocs m im.image) fun p a =>
    match d.relocSite m new a with
    | none => p
    | some site =>
      if !g.newRelocs && (g.inForce.bind fun i => i.siteOf (m.nat (a + 2) 2)) = some site then p
      else
        let w := m.nat (a + 4) 4
        let lsb := m.nat (a + 9) 1
        let width := m.nat (a + 0xA) 1
        let v := relocSum m im a site
        if bitOf w 31 then
          match (d.imp new).bind fun i => i.siteOf im.image with
          | some s =>
            let f := Csr.CMP_IMEM (16384 * bitsOf w 16 5 + bitsOf w 0 14)
            p.setField s f (putBits (p.field s f) lsb width v)
          | none => p
        else
          let at_ := im.addr + bitsOf w 0 31
          p.put { addr := at_, data := leBytes 8 (putBits ((p.memory m).nat at_ 8) lsb width v) }

/-- Step 2 of R396: an image's pages are copied to IMAGE_ADDR and patched. -/
def Panel.copyPages (p : Panel) (m : Mem) (d : FormeRegion) (imp : Nat) (im : ImageDesc) : Panel :=
  p.put { addr := im.addr, data := d.pages m imp im }

/-! ### Descriptors (R379–R384) -/

/-- The allowance of an image (R372). -/
def FormeRegion.allowanceOf (d : FormeRegion) (imp image : Nat) : Nat :=
  let pick (i k : Nat) : Option Budget := d.budgets.find? fun u => u.imp = i && u.kind = k && (k = 1 || u.image = image)
  match pick imp 2, pick imp 1, pick 0xFF 2, pick 0xFF 1 with
  | some u, _, _, _ => u.allowance
  | none, some u, _, _ => u.allowance
  | none, none, some u, _ => u.allowance
  | none, none, none, some u => u.allowance
  | none, none, none, none => 10240

/-- How many clusters of a die are derated (R413). -/
def Panel.derated (p : Panel) (s : Nat) : Nat := ((List.range 4).filter fun c => p.unitState s (2 + c) = .derated).length

/-- DRW_TOK_ALLOW.EFFECTIVE (R413). -/
def Panel.showAllowance (p : Panel) (s : Nat) : Panel :=
  p.setField s Csr.DRW_TOK_ALLOW_EFFECTIVE (allowance (p.field s Csr.DRW_TOK_ALLOW_ALLOWANCE) (p.derated s))

/-- WINDOW_TABLE records of a die's image; a window's SRC_SITE is by home (R379). -/
def Panel.loadWindows (p : Panel) (m : Mem) (d : FormeRegion) (imp image s : Nat) : Panel :=
  p.each (((recsOf m d.sections 0xA).map fun x => x.2.2).filter fun a => m.nat a 2 = image) fun p a =>
    let c := m.nat (a + 3) 1
    let i := m.nat (a + 4) 1
    if m.nat (a + 2) 1 = 1 then
      let p := p.setWords s (Csr.SPR_WIN_BASE c i).off (m.nat (a + 0x10) 16) 4
      if p.isSet s (Csr.SPR_WIN_SRC_ANY c i) then p
      else p.setField s (Csr.SPR_WIN_SRC_SITE c i) (d.byHome imp (p.field s (Csr.SPR_WIN_SRC_SITE c i)))
    else p.setWords s (Csr.SPR_CDESC_SRC i).off (m.nat (a + 0x10) 32) 8

/-- GALLEY_CFG records of a die's image, and the region's timeouts (R381). -/
def Panel.loadGalleyCfg (p : Panel) (m : Mem) (d : FormeRegion) (image s : Nat) : Panel :=
  let p := p.setField s Csr.GAL_QUOTA 0x40404040
  p.each (d.recsFor m 0xC image) fun p a =>
    match m.nat (a + 2) 1 with
    | 1 =>
      let i := m.nat (a + 3) 1
      let p := p.setField s (Csr.GAL_DESC_BASE i) (m.nat (a + 8) 8)
      let p := p.setField s (Csr.GAL_DESC_LIMIT i) (m.nat (a + 0x10) 4)
      let p := p.setField s (Csr.GAL_DESC_KIND i) (m.nat (a + 0x14) 1)
      let p := p.setField s (Csr.GAL_DESC_TRACE i) (m.nat (a + 0x15) 1)
      p.setField s (Csr.GAL_DESC_VALID i) 1
    | 2 => p.setField s Csr.GAL_QUOTA (m.nat (a + 8) 4)
    | _ => (p.setField s Csr.GAL_TIMEOUT (m.nat (a + 8) 2)).setField s Csr.GAL_TIMEOUT_HOST (m.nat (a + 0xA) 2)

/-- CHECK_POLICY records of a die's image (R382). -/
def Panel.loadPolicy (p : Panel) (m : Mem) (d : FormeRegion) (image s : Nat) : Panel :=
  p.each (d.recsFor m 0xD image) fun p a =>
    match m.nat (a + 2) 1 with
    | 1 => p.setField s Csr.DEN_CHECK_CFG (m.nat (a + 8) 4)
    | 2 =>
      let i := m.nat (a + 3) 1
      let p := p.setField s (Csr.DEN_BOUND_RMAX i) (m.nat (a + 8) 4)
      let p := p.setField s (Csr.DEN_BOUND_LO i) (m.nat (a + 0xC) 4)
      let p := p.setField s (Csr.DEN_BOUND_HI i) (m.nat (a + 0x10) 4)
      let p := p.setField s (Csr.DEN_BOUND_ZMAX i) (m.nat (a + 0x14) 2)
      p.setField s (Csr.DEN_BOUND_VALID i) 1
    | _ => p

/-- ROUTING_GATE records of a die's image (R384). -/
def Panel.loadGates (p : Panel) (m : Mem) (d : FormeRegion) (image s : Nat) : Panel :=
  p.each (((recsOf m d.sections 0x11).map fun x => x.2.2).filter fun a => m.nat a 2 = image) fun p a =>
    let i := m.nat (a + 3) 1
    match m.nat (a + 2) 1 with
    | 1 => p.setWords s (Csr.JUS_GATE_E_M1 i).off (m.nat (a + 0x10) 8) 2
    | 2 => p.setWords s (Csr.JUS_ETAB_BASE (m.nat (a + 4) 2)).off (m.nat (a + 0x10) (4 * m.nat (a + 6) 1)) (m.nat (a + 6) 1)
    | 3 => p.setWords s (Csr.JUS_JDESC_ICLM i).off (m.nat (a + 0x10) 16) 4
    | _ => p.setWords s (Csr.JUS_MDESC_CL i).off (m.nat (a + 0x10) 32) 8

/-- The descriptors of earlier work on a die are cleared: entries, windows, galleys, gates, bounds and policies. -/
def Panel.clearDescriptors (p : Panel) (s : Nat) : Panel :=
  let o (f : Fld) : Nat := f.off
  let p := p.clearWords s (o (Csr.STK_SEQ_ENTRY_OFFSET 0)) (o (Csr.STK_SEQ_ENTRY_OFFSET 16))
  let p := p.clearWords s (o (Csr.SPR_WIN_BASE 0 0)) (o (Csr.SPR_WIN_BASE 4 0))
  let p := p.clearWords s (o (Csr.SPR_CDESC_SRC 0)) (o (Csr.SPR_CDESC_SRC 16))
  let p := p.clearWords s (o (Csr.GAL_DESC_BASE 0)) (o (Csr.GAL_DESC_BASE 16))
  let p := p.clearWords s (o Csr.GAL_TIMEOUT) (o Csr.GAL_QUOTA + 4)
  let p := p.clearWords s (o (Csr.JUS_GATE_E_M1 0)) (o (Csr.JUS_MDESC_CL 16))
  let p := p.clearWords s (o (Csr.JUS_ETAB_BASE 0)) (o (Csr.JUS_ETAB_BASE 16384))
  let p := p.clearWords s (o (Csr.DEN_BOUND_RMAX 0)) (o (Csr.DEN_BOUND_RMAX 16))
  p.clearWords s (o (Csr.DEN_CHECK_CFG_TOL_MULT)) (o (Csr.DEN_CHECK_CFG_TOL_MULT) + 4)

/-- ERR_RSV0–7 of a die: the region's reserves by hop count and then by site (R430). -/
def Panel.loadReserves (p : Panel) (d : FormeRegion) (s : Nat) : Panel :=
  let v := p.field p.primary Csr.FAB_STATUS_EPOCH
  let hops (t : Nat) : Nat := (routePath (fun q => p.routeCode q t v) 468 s).length
  let l := ((d.reserves.map fun x => (hops x.1, x.1, x.2)).mergeSort fun a b =>
    a.1 < b.1 || (a.1 = b.1 && a.2.1 ≤ b.2.1)).take 8
  let p := p.each (List.range 8) fun p i => p.setFlag s (Csr.ERR_RSV_VALID i) false
  p.each l.zipIdx fun p (x, i) =>
    ((p.setField s (Csr.ERR_RSV_SITE i) x.2.1).setField s (Csr.ERR_RSV_CLUSTERS i) x.2.2).setFlag s (Csr.ERR_RSV_VALID i) true

/-! ### Counters (R126, R380) -/

/-- The counters, cursors, watch cursors and watches of a region's dies take their SYNC_ALLOC values for an imposition, and
every window closes (R396 step 5). -/
def Panel.loadSync (p : Panel) (m : Mem) (d : FormeRegion) (imp : Nat) : Panel :=
  let recs := (recsOf m d.sections 0xB).map fun x => x.2.2
  p.each d.rec_.sites fun p s =>
    let p := p.clearWords s (Csr.STK_SYNC_CTR 0).off (Csr.STK_SYNC_WCUR 16).off
    let p := (p.setField s Csr.STK_SYNC_WSTATE_READY 0).setField s Csr.STK_SYNC_WSTATE_PENDING 0
    let p := p.setWatches s []
    let p := { p with syncRegion := p.syncRegion.filter fun x => x.1 / 256 ≠ s }
    let p := p.each (List.range 4) fun p c => p.closeWindows s c
    match (d.imp imp).bind fun i => i.places.find? fun x => x.2 = s with
    | none => p
    | some (image, _) => p.each (recs.filter fun a => m.nat a 2 = image) fun p a =>
      let i := m.nat (a + 3) 1
      if m.nat (a + 2) 1 = 0 then
        let p := { p with syncRegion := SMap.set (fun _ => 0) p.syncRegion (s * 256 + i) (d.region + 1) }
        (p.setField s (Csr.STK_SYNC_CTR i) (m.nat (a + 4) 4)).setField s (Csr.STK_SYNC_CUR i) (m.nat (a + 8) 4)
      else p.setField s (Csr.STK_SYNC_WCUR i) (m.nat (a + 4) 4)

/-! ### A die, a region -/

/-- The galleys of a die are idle and their counts and cursors zero (R275). -/
def Panel.freshGalleys (p : Panel) (s : Nat) : Panel :=
  p.each (List.range 16) fun p i =>
    ((p.setField s (Csr.GAL_G_ISSUED i) 0).setField s (Csr.GAL_G_COMPLETED i) 0).setField s (Csr.GAL_G_CURSOR i) 0

/-- The allowance of a die that runs an image (R372, R413). -/
def Panel.loadAllowance (p : Panel) (d : FormeRegion) (imp image s : Nat) : Panel :=
  (p.setField s Csr.DRW_TOK_ALLOW_ALLOWANCE (d.allowanceOf imp image)).showAllowance s

/-- The registers of a region's die under an imposition, for the image that it runs, if any. -/
def Panel.loadDie (p : Panel) (m : Mem) (d : FormeRegion) (imp s : Nat) : Panel :=
  let p := (p.stopDie s).clearDescriptors s
  let p := (p.setField s Csr.STK_STATUS 0).setField s Csr.STK_STATUS_REGION d.region
  let p := p.setFlag s Csr.STK_STATUS_IN_REGION true
  let p := p.setField s Csr.STK_SEQ_SYNC_TIMEOUT d.rec_.syncTimeout
  let p := p.setField s Csr.CLK_HOLD_TIMEOUT d.rec_.holdTimeout
  let p := (p.loadReserves d s).clearPages s
  match (d.imp imp).bind fun i => i.places.find? fun x => x.2 = s with
  | none => p.setField s Csr.STK_SEQ_PAGES 0
  | some (image, _) =>
    match d.image image with
    | none => p
    | some im =>
      let p := p.setField s Csr.STK_SEQ_IMAGE im.addr
      let p := p.setField s Csr.STK_SEQ_PAGES im.pages
      let p := p.setWords s (Csr.STK_SEQ_ENTRY_OFFSET 0).off (m.nat (im.at_ + 0x30) 64) 16
      let p := p.loadAllowance d imp image s
      let p := p.modSeq s fun q => { q with seed := d.rec_.seed, work := im.work, cycles := 0 }
      let p := p.loadWindows m d imp image s
      let p := p.loadGalleyCfg m d image s
      let p := p.loadPolicy m d image s
      p.loadGates m d image s

/-- The region's registers on PD (R366). -/
def Panel.loadStk (p : Panel) (d : FormeRegion) (imp : Nat) : Panel :=
  let r := d.region
  let k := d.rec_
  let p := p.setFlag sitePD (Csr.STK_R_CTRL_ALIGN r) k.align
  let p := p.setField sitePD (Csr.STK_R_CTRL_SLUR_ALARM r) k.slurAlarm
  let p := p.setField sitePD (Csr.STK_R_PERIOD r) k.period
  let p := p.setField sitePD (Csr.STK_R_SCHED_LEN r) (d.schedLen imp)
  let p := p.setField sitePD (Csr.STK_R_SHEET_LEN r) k.sheetLen
  let p := p.setField sitePD (Csr.STK_R_SLUR_LIMIT r) k.slurLimit
  p.setField sitePD (Csr.STK_R_COMMIT_ADDR r) k.commitAddr

/-- Step 4 of R396: the constants in LPDDR5X, and those of the slices of placed images; a slice that is not up cannot be
written, which the flag reports. -/
def Panel.loadConsts (p : Panel) (m : Mem) (d : FormeRegion) (imp : Nat) (lpddr slices : Bool) : Panel × Bool :=
  (recsOf m d.sections 0x10).foldl (fun (q : Panel × Bool) (x, _, a) =>
    let len := m.nat (a + 4) 4
    let data := m.read (x.addr + m.nat (a + 0x10) 4) len
    let addr := m.nat (a + 8) 8
    if m.nat a 1 = 0 then (if lpddr then q.1.put { addr := addr, data := data } else q.1, q.2)
    else if !slices then q
    else match (d.imp imp).bind fun i => i.siteOf (m.nat (a + 2) 2) with
      | none => q
      | some s =>
        let c := m.nat (a + 1) 1
        if q.1.sliceUp s c then (q.1.put { addr := sliceAddr s c addr, data := data }, q.2) else (q.1, false)) (p, true)

/-- One row of a page as its reading lands: data and fox (R121); a row of an unpopulated granule is foxed (R17). -/
def Panel.pageRow (p : Panel) (m : Mem) (a : Nat) : Delivered :=
  { data := m.read a 64, fox := m.tableFox a || !p.populated a }

/-- Step 7 of R396: PD has the page that ENTRY0 names loaded into the half that it names, on one die. -/
def Panel.loadEntryPage (p : Panel) (m : Mem) (s : Nat) : Panel :=
  let half := p.field s (Csr.STK_SEQ_ENTRY_HALF 0)
  let page := p.field s (Csr.STK_SEQ_ENTRY_PAGE 0)
  let base := p.field s Csr.STK_SEQ_IMAGE + 65536 * page
  let p := if half = 0 then p.setField s Csr.STK_SEQ_HALF_PAGE_H0 page else p.setField s Csr.STK_SEQ_HALF_PAGE_H1 page
  let rows := (List.range 1024).map fun i => p.pageRow m (base + 64 * i)
  let p := p.each ((List.range 1024).map (base + 64 * ·)) fun p a =>
    if p.populated a && m.tableFox a then p.tally (memSite a) (Csr.GAL_CH_FOXRD (memChannel a)) 1 else p
  let p := p.modSeq s fun q => { q with complete := setNth q.complete half true, foxed := setNth q.foxed half false,
                                        loading := setNth q.loading half false, readsLeft := setNth q.readsLeft half 1 }
  (p.landLine s (1024 * half) rows).seqStatus s

/-- The sites on which an imposition runs images. -/
def FormeRegion.placed (d : FormeRegion) (imp : Nat) : List Nat := (d.runs imp).map (·.1)

/-- Step 7 on every placed die; the flag says that no page is foxed. -/
def Panel.loadEntryPages (p : Panel) (m : Mem) (d : FormeRegion) (imp : Nat) : Panel × Bool :=
  let mem := p.memory m
  let p := p.each (d.placed imp) fun p s => p.loadEntryPage mem s
  (p, (d.placed imp).all fun s => !(p.seq s).foxed.any id)

/-- The staged sections that PD rereads carry their CRC (R389). -/
def FormeRegion.staged (d : FormeRegion) (m : Mem) : Bool := (d.sections ++ d.rigging).all fun x => x.crcOk m

/-- A die that keeps its image at a switch: its line buffer is invalid, and its fields by home and its allowance follow the new
imposition (R365, R372, R409). -/
def Panel.keepDie (p : Panel) (m : Mem) (d : FormeRegion) (imp image s : Nat) : Panel :=
  (((p.stopDie s).clearPages s).loadWindows m d imp image s).loadAllowance d imp image s

/-- The signal homes of a region's streams, feeder windows and rings follow an imposition (R365, R369). -/
def Panel.rehome (p : Panel) (m : Mem) (d : FormeRegion) (imp : Nat) : Panel :=
  p.each d.rigs fun p a =>
    let c := m.nat (a + 2) 2
    let home (o : Nat) : Nat := d.byHome imp (m.nat (a + o) 2)
    match m.nat a 1 with
    | 3 => p.setCtxField c Csr.LNK_CTX_SIG_HOME (home 0xA)
    | 4 => p.setField (linkOfPort c) (Csr.LNK_F_WIN_SIG_HOME (c % 4)) (home 6)
    | _ => p.setField (linkOfPort c) (Csr.LNK_E_RING_SIG_HOME (c % 4) (m.nat (a + 4) 1)) (home 6)

/-- What an imposition switch and a restart reload (R409, R440 step 6): the registers and compositor images of the dies whose
image changes, patches, traces, counters and windows, fields by home, and the entry page. A restart writes every die's registers,
its engines are empty and its galleys' counts begin at zero (R179, R202, R275). -/
def Panel.reload (p : Panel) (m : Mem) (r new : Nat) (restart initial : Bool) : Panel :=
  let g := p.region r
  let d := g.forme
  let was (s : Nat) : Option (Nat × Nat) := g.inForce.bind fun i => i.places.find? fun x => x.2 = s
  let p := p.setField sitePD (Csr.STK_R_SCHED_LEN r) (d.schedLen new)
  let p := p.each d.rec_.sites fun p s =>
    if restart then ((p.quietDie s).freshGalleys s).loadDie m d new s
    else match (d.imp new).bind fun i => i.places.find? fun x => x.2 = s with
      | some x => if was s = some x then p.keepDie m d new x.1 s else p.loadDie m d new s
      | none => p.loadDie m d new s
  let p := p.repatch m r new
  let p := p.each d.images fun p im =>
    match (d.imp new).bind fun i => i.siteOf im.image with
    | some s => if was s = some (im.image, s) then p else p.loadCores m d new im s
    | none => p
  let p := (p.rehome m d new).loadTraces m d new
  let p := if initial then (p.loadConsts m d new true true).1 else p
  let p := p.loadSync m d new
  let p := p.modRegion r fun g => { g with inForce := d.imp new, newRelocs := false }
  (p.loadEntryPages m d new).1

end Sys2Proof.Machine
end

