-- ==== Sys2Proof/Machine/Domains.lean ====
section
/-! DEFINITION. Power domains (R453, R454): the headroom ledgers (R458), and what a domain that goes dark takes with it. -/

namespace Sys2Proof.Machine

/-! ### Domains (R453, R454) -/

/-- The domains of a die: four clusters and the uncore, or core and PHY or I/O. -/
def domainsOf (s : Nat) : List Nat := if s < 400 then [0, 1, 2, 3, 4] else [0, 1]

/-- Whether a domain is a cluster. -/
def isCluster (s d : Nat) : Bool := s < 400 && d < 4


/-- The unit that a failed domain makes bad (R456). -/
def domainUnit (s d : Nat) : Nat := if isCluster s d then 2 + d else 1

/-- A die closes or opens stages (PWR_STATUS.SEQ_BUSY). -/
def Panel.showSeqBusy (p : Panel) (s : Nat) : Panel :=
  p.setFlag s Csr.PWR_STATUS_SEQ_BUSY ((domainsOf s).any fun d =>
    p.field s (Csr.PWR_DOM_STATE d) = domTurningOn && p.field s (Csr.PWR_DOM_STAGE d) < 4)

/-! ### The ledgers (R458) -/

/-- Adds a reservation of a domain to its group's ledger and the rail's. -/
def Panel.reserve (p : Panel) (s d amps : Nat) : Panel :=
  let p := p.modDomain s d fun x => { x with reserved := x.reserved + amps }
  (p.count sitePD (Csr.PWR_GRP_RESERVED (girthGroup s)) amps).count sitePD Csr.PWR_RAIL_RESERVED amps

/-- Releases a domain's reservation in both ledgers. -/
def Panel.unreserve (p : Panel) (s d : Nat) : Panel :=
  let r := (p.domain s d).reserved
  let take (p : Panel) (f : Fld) : Panel := p.setField sitePD f (p.field sitePD f - r)
  let p := take (take p (Csr.PWR_GRP_RESERVED (girthGroup s))) Csr.PWR_RAIL_RESERVED
  p.modDomain s d fun x => { x with reserved := 0 }

/-- The headroom test of R458 on a group's ledger and the rail's. -/
def Panel.headroom (p : Panel) (s amps : Nat) : Bool :=
  let g := girthGroup s
  p.field sitePD (Csr.PWR_GRP_PEAK_LAST g) + p.field sitePD (Csr.PWR_GRP_RESERVED g) + amps ≤ p.field sitePD (Csr.PWR_GRP_LIMIT g)
    && p.field sitePD Csr.PWR_RAIL_PEAK_LAST + p.field sitePD Csr.PWR_RAIL_RESERVED + amps ≤ p.field sitePD Csr.PWR_RAIL_LIMIT
    && !p.isSet sitePD (Csr.PWR_GRP_LOW g)

/-- What a domain's turn-on reserves: CL_RSV or UNC_RSV. -/
def Panel.reservation (p : Panel) (s d : Nat) : Nat :=
  if isCluster s d then p.field s Csr.PWR_SEQ_CFG_CL_RSV else p.field s Csr.PWR_SEQ_CFG_UNC_RSV

/-! ### Off -/

/-- A cluster's state is lost: its engines, mover, range scoreboard, threads and windows (R250, R460). -/
def Panel.loseCluster (p : Panel) (s c : Nat) : Panel :=
  let p := ((p.loseEngine s c 0).loseEngine s c 1).modMover s c fun _ => {}
  let p := (((p.setBoard s c []).engineStatus s).closeWindows s c).showCopy s c
  let p := { p with threads := p.threads.filter fun x => x.1 / 32 ≠ s * 4 + c }
  p.modSeq s fun q => { q with launched := q.launched.filter fun t => t / 32 ≠ c }

/-- A domain goes dark (R460): its logic state is gone, its reservation is released and its oscillator stops. The state of a
die's uncore or core stays in its registers until the domain is on again, when they take their reset values. -/
def Panel.darken (p : Panel) (s d : Nat) : Panel :=
  let p := p.unreserve s d
  let p := p.modDomain s d fun _ => {}
  let p := p.setField s (Csr.PWR_DOM_STATE d) domDark
  let p := p.setField s (Csr.PWR_DOM_STAGE d) 0
  let p := (p.setFlag s (Csr.PWR_DOM_REQ_ON d) false).setFlag s (Csr.PWR_DOM_REQ_OFF d) false
  let p := p.setDomainUp s d false
  if isCluster s d then
    let p := (p.loseCluster s d).setField s (Csr.PWR_REG_VOUT d) 0
    p.setField s Csr.SPR_STATUS_FILLING (putBits (p.field s Csr.SPR_STATUS_FILLING) d 1 0)
  else if d = logicDomain s then
    let p := (p.setFlag s Csr.PWR_STATUS_REG_A_OK false).setFlag s Csr.PWR_STATUS_REG_B_OK false
    let p := p.clearRouter s
    if s < 400 then p.quietDie s else p
  else (p.setFlag s Csr.PWR_STATUS_IO_A_OK false).setFlag s Csr.PWR_STATUS_IO_B_OK false

/-- Every domain of a die goes dark. -/
def Panel.darkenDie (p : Panel) (s : Nat) : Panel := (p.each (domainsOf s) fun p d => p.darken s d).showSeqBusy s

/-- The domains of a compute die whose uncore is not good stay dark (R27); a failed domain stays failed. -/
def Panel.darkenBad (p : Panel) : Panel :=
  p.each ((List.range 400).filter fun s => !p.logicGood s) fun p s =>
    let up := (domainsOf s).filter fun d => let st := p.field s (Csr.PWR_DOM_STATE d); st ≠ domDark && st ≠ domFailed
    if up.isEmpty then p else (p.each up fun p d => p.darken s d).showSeqBusy s

end Sys2Proof.Machine
end

