-- ==== Sys2Proof/Machine/HostRing.lean ====
section
/-! DEFINITION. The completion of job-ring descriptors (R517, R518): the record in host memory and its MSI-X vector. -/

namespace Sys2Proof.Machine

/-- The descriptors that a ring has accepted and not completed. -/
def Panel.ring (p : Panel) (r : Nat) : List HostDesc := SMap.get (fun _ => []) p.host.rings r
def Panel.setRing (p : Panel) (r : Nat) (l : List HostDesc) : Panel :=
  { p with host := { p.host with rings := SMap.set (fun _ => []) p.host.rings r l } }

/-- HD moves data and answers: its PCIe function runs, and DMA is enabled (R507, R520). -/
def Panel.hostUp (p : Panel) : Bool :=
  p.isSet siteHD Csr.HST_STATUS_LINK_UP && !p.isSet siteHD Csr.HST_STATUS_D3 && !p.contain.lost.contains siteHD
def Panel.dmaUp (p : Panel) : Bool := p.hostUp && p.isSet siteHD Csr.HST_CTRL_DMA_EN

/-- The completion record and the MSI-X vector of a descriptor (R517). -/
def Panel.hostRecord (p : Panel) (d : HostDesc) (status code : Nat) : Panel :=
  if !p.dmaUp then p
  else
    let p := if d.compl = 0 then p
      else p.emit (.hostWrite d.compl (leBytes 4 d.tag ++ leBytes 2 status ++ leBytes 2 code ++ leBytes 8 p.now) false)
    if d.irq then p.emit (.msix d.vector) else p

/-- A descriptor of a ring completes with a status and a fault code. -/
def Panel.complete (p : Panel) (r : Nat) (d : HostDesc) (status code : Nat) : Panel :=
  let p := p.setRing r ((p.ring r).filter fun x => x.seq ≠ d.seq)
  let f := Csr.HST_RING_DONE r
  (p.setField siteHD f ((p.field siteHD f + 1) % 2 ^ 32)).hostRecord d status code

/-- Every WAIT pending on a region's ring completes with STATUS 4, as the region aborts, restarts or stops (R518). -/
def Panel.endWaits (p : Panel) (r : Nat) : Panel :=
  p.each ((p.ring r).filter fun d => d.op = 4 && d.started.isSome) fun p d => p.complete r d 4 0

end Sys2Proof.Machine
end

