-- ==== Sys2Proof/Machine/Abort.lean ====
section
/-! DEFINITION. A region's return to its last sheet (R440, R441), its removal from service, tie-off (R403), and the loss of
a die and of the primary die (R443–R447). -/

namespace Sys2Proof.Machine

/-! ### Marks as the registers show them (R423) -/

/-- ERR_R_STATE of a region follows its open marks. -/
def Panel.showMarks (p : Panel) (r : Nat) : Panel :=
  let n (f : Mark → Bool) : Nat := min 255 ((p.contain.marks.filter fun k => k.region = r && f k).length)
  (p.setField sitePD (Csr.ERR_R_STATE_OPEN r) (n fun k => k.kind ≠ .fox)).setField sitePD (Csr.ERR_R_STATE_FOX r)
    (n fun k => k.kind = .fox)

/-- ERR_STATUS.OPEN of a die follows its open entry marks of the current stroke. -/
def Panel.showDieMarks (p : Panel) (s : Nat) : Panel :=
  let k := (p.contain.marks.filter fun k => k.kind = .entry && k.site = s && k.stroke = p.field s Csr.STK_STROKE).length
  p.setField s Csr.ERR_STATUS_OPEN (min 31 k)

/-- Takes the marks that satisfy a test away. -/
def Panel.dropMarks (p : Panel) (r : Nat) (f : Mark → Bool) : Panel :=
  let sites := distinct ((p.contain.marks.filter fun k => k.region = r && f k).map (·.site))
  let p := (p.modContain fun c => { c with marks := c.marks.filter fun k => !(k.region = r && f k) }).showMarks r
  p.each sites fun p s => p.showDieMarks s

/-! ### Reprints that end (R430, R431) -/

/-- A reserve cluster is claimed or released, as ERR_STATUS.RSV_BUSY shows. -/
def Panel.showReserve (p : Panel) (s c : Nat) (busy : Bool) : Panel :=
  p.setField s Csr.ERR_STATUS_RSV_BUSY (putBits (p.field s Csr.ERR_STATUS_RSV_BUSY) c 1 (flag busy))

/-- The claim of a reprint is released: its reserve is free, and what is under way between the two dies is dropped. -/
def Panel.release (p : Panel) (r : Reprint) : Panel :=
  let key := r.peer * 4 + r.peerCluster
  let p := { p with net := p.net.filter fun msg => match msg with
    | .reprintClaim s i _ _ => !(s = r.site && i = r.slot)
    | .reprintGrant s i _ => !(s = r.site && i = r.slot)
    | .reprintOperands s i => !(s = r.site && i = r.slot)
    | .reprintResult s i => !(s = r.site && i = r.slot)
    | _ => true }
  if 2 ≤ r.state && p.contain.claimed.contains key then
    let p := p.modContain fun c => { c with claimed := c.claimed.filter (· ≠ key) }
    (p.setWords r.peer ((Csr.ERR_RP_STATE r.peerSlot).off) 0 4).showReserve r.peer r.peerCluster false
  else p

/-- A reprint ends: its claim is released and its number is free. -/
def Panel.endReprint (p : Panel) (r : Reprint) : Panel := (p.release r).setReprint r.site r.slot none

/-! ### Out of service -/

/-- A region that a standalone-mode compute reset has to restart is done; 0x1223 follows the last one (R438). -/
def Panel.standaloneDone (p : Panel) (r : Nat) : Panel :=
  if !p.contain.resetRegions.contains r then p
  else
    let p := p.modContain fun k => { k with resetRegions := k.resetRegions.filter (· ≠ r) }
    p.raiseIf p.contain.resetRegions.isEmpty p.primary 0x1223

/-- A region leaves service until a partial lock-up (R440 step 5, R441). -/
def Panel.leaveService (p : Panel) (r : Nat) : Panel :=
  let p := (p.setFlag sitePD (Csr.STK_R_CTRL_ENABLE r) false).setFlag sitePD (Csr.STK_R_CTRL_RUNNING r) false
  let p := p.setField sitePD (Csr.FRM_R_STATE_STATE r) 5
  let p := p.modRegion r fun g => { g with abortAt := none, restart := none, lostSite := none, stopped := 0, warmSince := none }
  let p := p.each (p.region r).sites fun p s => p.quietDie s
  (p.raiseRegion r 0x1213).standaloneDone r

/-! ### Abort (R440 steps 1–3) -/

/-- Galley requests of a die that are dropped: those that left complete without effect, the others never leave (R275). -/
def Panel.dropGalleys (p : Panel) (s : Nat) : Panel :=
  p.each (List.range 5) fun p u =>
    p.setGalley s u (((p.galley s u).filter (·.sent)).map fun q => { q with dropped := true })

/-- Turn-ons of a region's clusters that have not begun are withdrawn (spec/19, cases). -/
def Panel.withdraw (p : Panel) (s : Nat) : Panel :=
  p.each (List.range 4) fun p c =>
    if (p.domain s c).reqOn && p.field s (Csr.PWR_DOM_STATE c) = domDark then
      (p.modDomain s c fun d => { d with reqOn := false }).setField s (Csr.PWR_DOM_DEFERRALS c) 0
    else p

/-- A stream context of a region starts anew (R359, R440 step 3); a failed one stays failed (R348). -/
def Panel.freshStreams (p : Panel) (r : Nat) : Panel :=
  p.each ((p.regionCtxs r).filter fun c => p.ctxField c Csr.LNK_CTX_KIND = 1) fun p c => p.emptyCtx c

/-- What PD does as a region's abort begins (R440 steps 1–3): the settle time starts. -/
def Panel.beginAbort (p : Panel) (r code : Nat) : Panel :=
  let p := p.setField sitePD (Csr.ERR_R_LAST_CODE r) code
  let p := p.setField sitePD (Csr.ERR_R_LAST_STROKE r) (p.field sitePD (Csr.STK_R_STROKE r))
  let p := (p.dropMarks r fun _ => true).endWaits r
  let sites := (p.region r).sites
  let p := p.each (p.contain.reprints.filter fun x => sites.contains x.site) fun p x => p.endReprint x
  let p := p.each sites fun p s =>
    (p.each (List.range 4) fun p c => p.closeWindows s c)
  let p := p.each sites fun p s =>
    ((p.dropGalleys s).withdraw s).modClock s fun c => { c with ticks := [] }
  let p := p.freshStreams r
  let p := { p with fabric := { p.fabric with waits := p.fabric.waits.filter fun w => w.region ≠ r } }
  (p.dropTick r).modRegion r fun g =>
    { g with abortAt := some p.now, restart := none, ended := [], lateEnds := [], tickSent := false, step := none,
             slurOpen := false, slurRun := 0, extension := 0, commitDue := none, commitOk := false, first := false,
             stopTick := false }

/-- A running region aborts to its last sheet (R440). An abort that is already settling or restarting goes on, unless
`anew`: a loss while the region restarts begins the restart again (R444). -/
def Panel.abortRegion (p : Panel) (r code : Nat) (anew : Bool) : Panel :=
  let g := p.region r
  if !p.running r then p
  else if g.abortAt.isSome then
    if g.restart.isSome && anew then p.modRegion r fun g => { g with abortAt := some p.now, restart := none } else p
  else
    (p.count sitePD (Csr.ERR_R_STATE_ABORTS r) 1).beginAbort r code

/-- PD itself raises a code about a region and acts on it. -/
def Panel.raiseAbort (p : Panel) (r code : Nat) : Panel := (p.raiseRegion r code).abortRegion r code false

/-! ### Tie-off (R403) -/

/-- The edges of a region's dies that lead out of the region, and the same edges from outside. -/
def borderEdges (sites : List Nat) : List (Nat × Nat) :=
  sites.flatMap fun s => ((List.range 4).map fun e => (s, e, facing s e)).flatMap fun x =>
    if sites.contains x.2.2.1 then [] else [(x.1, x.2.1), x.2.2]

/-- Ties or unties an edge of a die. -/
def Panel.tieEdge (p : Panel) (s e : Nat) (on : Bool) : Panel :=
  p.tieMask s (putBits (p.field s Csr.AZL_CTRL_TIE_MASK) e 1 (flag on))

/-- Ties a region off, or unties it. -/
def Panel.tieRegion (p : Panel) (r : Nat) (on : Bool) : Panel :=
  p.each (borderEdges (p.region r).sites) fun p x => p.tieEdge x.1 x.2 on

/-! ### Lock-up phases -/

/-- FRM_STATUS.PHASE changes, which PD reports (spec/16). -/
def Panel.phase (p : Panel) (n : Nat) : Panel :=
  ((p.setField sitePD Csr.FRM_STATUS_PHASE n).setFlag sitePD Csr.FRM_STATUS_BUSY (n ≠ 0 && n < 9)).noteChange 2

/-- The regions of the lock-up in progress. -/
def Panel.lockRegions (p : Panel) : List Nat := p.lockUp.defs.map (·.region)

/-- A lock-up in progress is abandoned (R406, spec/20 cases): regions in phases 5 to 7 stay tied and out of service. -/
def Panel.abandonLockUp (p : Panel) : Panel :=
  if !p.isSet sitePD Csr.FRM_STATUS_BUSY then p
  else
    let ph := p.field sitePD Csr.FRM_STATUS_PHASE
    let p := if 5 ≤ ph then p.each p.lockRegions fun p r => p.setField sitePD (Csr.FRM_R_STATE_STATE r) 1
      else p.each p.lockRegions fun p r => p.modRegion r fun g => { g with stopAtTick := false }
    ({ p with lockUp := {} } : Panel).phase 11

/-! ### Loss of a die (R443–R447) -/

/-- Every neighbour of a die cuts the edge that faces it, by PD's order (R444 step 2). -/
def Panel.cutAround (p : Panel) (s : Nat) : Panel :=
  p.each (List.range (faceCount s)) fun p e =>
    let f := facing s e
    p.cutEdge f.1 f.2 0x0A08

/-- Routes go around a die as soon as a flip may begin (R444 step 3). -/
def Panel.routeAround (p : Panel) (s : Nat) : Panel :=
  ({ p with fabric := { p.fabric with avoid := (p.fabric.avoid.filter (· ≠ s)) ++ [s] } } : Panel).reroute

/-- What a lost link die takes with it (R446): its ports and its contexts. -/
def Panel.loseLink (p : Panel) (ld : Nat) : Panel :=
  let k := (ld - 400) / 2
  let p := p.each ((List.range 4).map fun i => 4 * k + i) fun p q => p.portDown q
  p.each ((ctxsOf ld).filter fun c => p.ctxField c Csr.LNK_CTX_VALID = 1) fun p c =>
    let p := p.failCtx c
    if p.ctxField c Csr.LNK_CTX_KIND = 1 then p.abortRegion (p.ctxField c Csr.LNK_CTX_REGION) 0x0B08 false else p

/-- The acting primary die enables its own MCTP responder, at 0x31 on PD and at 0x32 on AD (R536). -/
def Panel.fallback (p : Panel) : Panel :=
  (p.setFlag p.primary Csr.TCK_STATUS_FALLBACK true).setField p.primary Csr.TCK_SMB_ADDR (if p.primary = siteAD then 0x32 else 0x31)

/-- AD takes over from PD (R447, R505); with AD lost as well, or unable to stand in (R495), every region stops (R446). -/
def Panel.losePrimary (p : Panel) (s : Nat) : Panel :=
  if s ≠ p.primary then p
  else if s = sitePD && !p.contain.lost.contains siteAD && p.logicGood siteAD
      && p.isSet sitePD Csr.PWR_RST_STATUS_AD_STANDBY then
    let p := p.modBoot fun b => { b with primary := siteAD, flashSel := true, refFrom := siteAD }
    let p := p.takePanelTime.setFlag sitePD Csr.PWR_RST_STATUS_AD_PRIMARY true
    let p := if p.contain.lost.contains siteTD then p.fallback else p
    ((p.raise siteAD 0x1220).noteChange 4).abandonLockUp
  else p.raise p.primary 0x1221

/-- TD is lost (R446, R536): its queued events are lost with it, and the acting primary die answers on SMBus. -/
def Panel.loseTack (p : Panel) : Panel :=
  let p := p.modTack fun t => { t with events := [], changes := [], managers := [] }
  p.fallback.raise p.primary 0x1110

/-- The region whose sites hold a die, when it is locked up. -/
def Panel.regionWith (p : Panel) (s : Nat) : Option Nat :=
  allRegions.find? fun r => p.lockedUp r && (p.region r).sites.contains s

/-- A die is declared lost, for a cause of R32: 5 missed heartbeats or corrections, 4 power; 0 is the halt of R489, which
records no entry. A compute die whose uncore is bad from then on stays dark (R27). -/
def Panel.dieLost (p : Panel) (s cause : Nat) : Panel :=
  if p.contain.lost.contains s then p
  else
    let p := p.setField sitePD Csr.ERR_LOST_SITE s
    let p := p.setField sitePD Csr.ERR_LOST_CAUSE cause
    let p := p.setField sitePD Csr.ERR_LOST_TIME (p.now % 2 ^ 48)
    let p := p.modContain fun c => { c with lost := c.lost ++ [s] }
    let p := if s = sitePD || s = siteAD then p.losePrimary s else p
    let p := if s = siteTD then p.loseTack else if s = siteHD then p.raise p.primary 0x1010 else p
    let p := match p.regionWith s with
      | some r =>
        let p := p.raiseFor p.primary 0x1211 (severityOf 0x1211) (some r) 0 s
        let p := (p.abortRegion r 0x1211 true).modRegion r fun g => { g with lostSite := some s }
        p.cutAround s
      | none => p
    let p := if dieClass s = .link then p.loseLink s else p
    let p := p.routeAround s
    if cause = 0 then p else ((p.appendField s 1 2 cause 0x1211).merge cause).darkenBad

/-! ### The commands -/

/-- STROKE_ABORT_MSG (R440 step 1): a die of an aborting region takes the abort. -/
def execStrokeAbortMsg (site : Nat) (s : State) : Host.Outcome State Fault Refusal :=
  .next (s.quiet fun p =>
    match p.regionOf site with
    | some r => if (p.region r).abortAt.isSome then p.quietDie site else p
    | none => p)

/-- REGION_ABORT (R440 steps 1–4): PD begins a region's restart for a code. -/
def execRegionAbort (region code : Nat) (s : State) : Host.Outcome State Fault Refusal :=
  .next (s.quiet fun p => p.abortRegion region code false)

/-! ### The restart (R440 steps 4–7) -/

/-- Whether the commit record at an address is valid: its CRC is correct (R100). -/
def recordValid (m : Mem) (a : Nat) : Bool := crc32c (m.read a 60) = m.nat (a + 0x3C) 4

/-- The rank of a record's sheet: that of R399 ranks lowest (R100). -/
def sheetRank (sheet : Nat) : Nat := (sheet + 1) % 2 ^ 32

/-- The slots of a region's commit pair that hold a valid record, with their rank. -/
def Panel.records (p : Panel) (m : Mem) (r : Nat) : List (Nat × Nat) :=
  let b := p.field sitePD (Csr.STK_R_COMMIT_ADDR r)
  ([b, b + 64].filter (recordValid m)).map fun a => (a, sheetRank (m.nat (a + 8) 4))

/-- The newer of some records. -/
def newerRecord : List (Nat × Nat) → Option (Nat × Nat)
  | [] => none
  | x :: xs => match newerRecord xs with
    | some y => if x.2 < y.2 then some y else some x
    | none => some x

/-- The restart point of a region: the address of its valid record with the higher sheet number whose lock-up sequence is
FRM_R_SEQ (R398, R440 step 5). -/
def Panel.restartPoint (p : Panel) (m : Mem) (r : Nat) : Option Nat :=
  (newerRecord ((p.records m r).filter fun x => m.nat (x.1 + 0xC) 4 = p.field sitePD (Csr.FRM_R_SEQ r))).map (·.1)

/-- The single-loss imposition for a lost site (R374, R444). -/
def FormeRegion.lossImp (d : FormeRegion) (s : Nat) : Option Nat :=
  (d.imps.find? fun i => i.ikind = 1 && i.lost = s).map (·.num)

/-- A request to switch impositions is taken away with 0x0122 (spec/16, cases). -/
def Panel.replaceRequest (p : Panel) (r : Nat) : Panel :=
  if (p.region r).impRequest.isNone then p
  else
    let p := p.modRegion r fun g => { g with impRequest := none }
    (p.setFlag sitePD (Csr.FRM_R_IMP_PENDING r) false).raiseRegion r 0x0122

/-- Messages of a region's abandoned strokes that are still on the fabric are gone by the end of the settle time (R107,
R563). -/
def Panel.dropStale (p : Panel) (r : Nat) : Panel :=
  let sites := (p.region r).sites
  { p with net := p.net.filter fun msg => match msg with
    | .sadd src _ _ _ => !sites.contains src && src ≠ 512 + r
    | .watch src _ _ _ _ => !sites.contains src
    | .reached _ dst _ => !sites.contains dst
    | .lastArrival _ dst => !sites.contains dst
    | .put src _ _ _ _ _ => !sites.contains src
    | .traceFlit _ _ h _ _ _ => h.region ≠ r
    | _ => true }

/-- The reload of R440 step 6 is due for a restart point: the stroke and the imposition are fixed and the clusters that it
needs are requested. -/
def Panel.beginRestart (p : Panel) (m : Mem) (r : Nat) : Panel :=
  match p.restartPoint m r with
  | none => p.leaveService r
  | some a =>
    let d := (p.region r).forme
    let stroke := m.nat (a + 0x10) 8
    let go (p : Panel) (imp : Nat) : Panel :=
      let p := p.modRegion r fun g => { g with restart := some (stroke, imp), stopped := 0 }
      p.wantClusters d imp false
    match (p.region r).lostSite with
    | none => go p (m.nat (a + 5) 1)
    | some s =>
      match d.lossImp s with
      | some i => go ((p.replaceRequest r).raiseRegion r 0x1212) i
      | none => p.leaveService r

/-- A region that waits for a lock-up's stop tick is stopped: it is tied and out of service (R401, R403). -/
def Panel.stopForLockUp (p : Panel) (r : Nat) : Panel :=
  let p := p.dropTick r
  let p := p.modRegion r fun g => { g with stopAtTick := false, stopTick := false, abortAt := none, restart := none,
                                           tickSent := false, commitDue := none, ended := [], lateEnds := [],
                                           slurOpen := false, warmSince := none, stopped := 0 }
  let p := (p.setFlag sitePD (Csr.STK_R_CTRL_ENABLE r) false).setFlag sitePD (Csr.STK_R_CTRL_RUNNING r) false
  let p := p.each (p.region r).sites fun p s => (p.quietDie s).dropGalleys s
  let p := (p.dropMarks r fun _ => true).each (p.contain.reprints.filter fun x => (p.region r).sites.contains x.site)
    fun p x => p.endReprint x
  (((p.setField sitePD (Csr.FRM_R_STATE_STATE r) 1).endWaits r).tieRegion r true).phase 5

/-- The stamp of the first tick of a region at least 1 µs from now, on its grid (R91, R440 step 7). -/
def Panel.firstStamp (p : Panel) (r : Nat) : Nat :=
  let t := p.now + usCycles 1
  if p.isSet sitePD (Csr.STK_R_CTRL_ALIGN r) then
    let per := max 1 (p.field sitePD (Csr.STK_R_PERIOD r))
    ceilDiv t per * per
  else t

/-- A region's next stroke is stamped, and the tick begins the stroke that STK_R_STROKE names. -/
def Panel.stampFirst (p : Panel) (r stroke : Nat) : Panel :=
  let t := p.firstStamp r
  let p := p.setField sitePD (Csr.STK_R_STROKE r) stroke
  let p := p.setField sitePD (Csr.STK_R_NEXT_TICK r) t
  let p := p.setFlag sitePD (Csr.STK_R_CTRL_ENABLE r) true
  let p := p.each (p.region r).sites fun p s =>
    let p := (p.setField s Csr.STK_STROKE stroke).setFlag s Csr.STK_STATUS_IN_STROKE false
    let p := p.modClock s fun k => { k with ticks := [], endDue := false }
    ((p.setFlag s Csr.STK_STATUS_ENDED false).setFlag s Csr.STK_STATUS_SLURRING false).setFlag s Csr.STK_STATUS_SHEET_END false
  p.modRegion r fun g => { g with first := true, tickSent := false, ended := [], lateEnds := [], slurOpen := false,
                                  extension := 0, begun := t, tickAt := t, stopTick := false, slurRun := 0 }

/-- No galley request of a region's dies is in flight (R275). -/
def Panel.galleysIdle (p : Panel) (r : Nat) : Bool :=
  (p.region r).sites.all fun s => (List.range 5).all fun u => (p.galley s u).isEmpty

end Sys2Proof.Machine
end

