-- ==== Sys2Proof/Machine/Reprint.lean ====
section
/-! DEFINITION. Reprint (R428–R435, R566) and ERR_R_CFG.ACCEPT (R425): claims, operands, the replay on a reserve cluster,
the comparison and its outcomes. -/

namespace Sys2Proof.Machine

/-! ### Settling (R423–R425) -/

/-- A check mark of a die for a stroke that has ended settles with the last open entry mark of that stroke (R424). -/
def Panel.settleChecks (p : Panel) (r s stroke : Nat) : Panel :=
  if stroke < p.field s Csr.STK_STROKE
      && !(p.contain.marks.any fun k => k.kind = .entry && k.site = s && k.stroke = stroke) then
    p.dropMarks r fun k => k.kind = .check && k.site = s && k.stroke = stroke
  else p

/-- An entry mark settles. -/
def Panel.settle (p : Panel) (k : Mark) : Panel :=
  let p := (p.modContain fun c => { c with marks := c.marks.erase k }).showMarks k.region
  (p.showDieMarks k.site).settleChecks k.region k.site k.stroke

/-- A count of the stroke for ERR_MARK_LAST: a confirmed reprint, or a correction. -/
def Panel.countMark (p : Panel) (s : Nat) (confirmed : Bool) : Panel :=
  p.modContain fun c => { c with strokeCounts := SMap.modify (fun _ => (0, 0)) c.strokeCounts s fun x =>
    if confirmed then (x.1 + 1, x.2) else (x.1, x.2 + 1) }

/-! ### Claims (R430) -/

/-- Whether a reserve cluster grants a claim: its die is usable, since a partial one is outside the reprint reserve (R26), it
works, it serves no other reprint, it has a free ERR_RP register, and its die is under no field BIST. -/
def Panel.grants (p : Panel) (s c : Nat) : Option Nat :=
  if p.clusterWorks s c && p.usable s && p.lives s && !p.contain.claimed.contains (s * 4 + c) && !p.underBist s then
    (List.range 4).find? fun i => p.field s (Csr.ERR_RP_STATE i) = 0
  else none

/-- Shows a reprint in the ERR_RP register of its reserve (ROLE 1). -/
def Panel.showPeer (p : Panel) (r : Reprint) : Panel :=
  p.setWords r.peer ((Csr.ERR_RP_STATE r.peerSlot).off)
    (r.shown + 2 ^ 3 + 2 ^ 4 * r.site + 2 ^ 13 * r.peerCluster + 2 ^ 15 * (if r.shadow then 0 else r.engine) + 2 ^ 16 * r.row
      + 2 ^ 25 * r.count + 2 ^ 64 * (r.cycle % 2 ^ 32)) 4

/-- A reprint moves on, on both dies' registers. -/
def Panel.advanceReprint (p : Panel) (r : Reprint) : Panel := (p.setReprint r.site r.slot (some r)).showPeer r

/-- The reserve's answer to a claim (R430). -/
def Panel.answerClaim (p : Panel) (site slot reserve cluster : Nat) : Panel :=
  let msg := NetMsg.reprintClaim site slot reserve cluster
  if !p.net.contains msg then p
  else
    let p := p.arrive msg
    match p.reprint site slot, p.grants reserve cluster with
    | some r, some i =>
      let p := p.modContain fun c => { c with claimed := c.claimed ++ [reserve * 4 + cluster] }
      let p := (p.showReserve reserve cluster true).advanceReprint { r with state := 2, peerSlot := i, granted := p.now }
      p.send (.reprintGrant site slot true)
    | _, _ => p.send (.reprintGrant site slot false)

/-! ### Operands (R428, R431 step 3, R566) -/

/-- The slice pieces that the entries of a log read, in the order of their CRCs; the KLEN of each bank is that of the load
that last filled it. -/
def logPieces (e : Nat) : List PassEntry → Nat → Nat → List (PassEntry × List (Nat × Nat))
  | [], _, _ => []
  | x :: xs, k0, k1 =>
    if x.load then
      let (bank, klen, ps) := if e = 0 then
          let a := wloadArgs x.word x.ximm
          (a.bank, a.klen, a.pieces)
        else
          let a := sloadArgs x.word x.ximm
          let (v, t, s) := a.pieces
          (a.bank, a.klen, v ++ t ++ s)
      (x, ps) :: logPieces e xs (if bank = 0 then klen else k0) (if bank = 0 then k1 else klen)
    else if bitsOf x.word 58 6 = 2 then
      let a := streamArgs e x.word
      let klen := if a.bank = 0 then k0 else k1
      let n := ceilDiv (klen * widthOf a.xfmt) 8
      let vals := (List.range a.mlen).map fun i => (64 * a.addr + 64 * a.stride * i, n)
      let scs := if isMx a.xfmt then
        (List.range a.mlen).map fun i => (64 * (x.ximm % 2 ^ 21) + klen / 32 * i, klen / 32) else []
      (x, vals ++ scs) :: logPieces e xs k0 k1
    else
      let a := initArgs e x.word
      (x, (List.range a.mlen).map fun i => (64 * a.addr + 1024 * i, 1024)) :: logPieces e xs k0 k1

/-- The log entries that a reprint replays: those of its half from before the DRAIN. -/
def Panel.reprintLog (p : Panel) (r : Reprint) : List PassEntry :=
  (p.passLog r.site r.cluster r.engine (r.row / halfRows r.engine)).filter fun x => x.cycle < r.cycle

/-- The dense shadow that CHECK_POLICY names for an SLOAD (R382 KIND 3, R434), as the WLOAD of it: ADDR + DELTA with column
stride HSTRIDE; the scale plane is shared (R216). -/
def Panel.shadowLoad (p : Panel) (m : Mem) (s c : Nat) (x : PassEntry) : Option WloadArgs :=
  match p.regionOf s with
  | none => none
  | some g =>
    let d := (p.region g).forme
    match (d.imp (p.field sitePD (Csr.FRM_R_IMP_CURRENT g))).bind fun i => i.places.find? fun q => q.2 = s with
    | none => none
    | some (image, _) =>
      match d.image image with
      | none => none
      | some im =>
        (d.shadows.find? fun h => (h.image = image || h.image = 0xFFFF) && h.cl = c
          && m.nat (im.addr + h.off) 8 = x.word).map fun h =>
          let a := sloadArgs x.word x.ximm
          { bank := a.bank, wfmt := a.wfmt, klen := a.klen, nlen := a.nlen, addr := ((a.addr : Int) + h.delta).toNat,
            stride := h.hstride, saddr := a.saddr }

/-- The SLOAD of a log entry failed the checker: some drained row was foxed by it, as its mark's `load` or its bank says. -/
def Panel.failedLoad (p : Panel) (r : Reprint) (x : PassEntry) : Bool :=
  x.load && p.contain.badRows.any fun b => b.1 = r.site * 4 + r.cluster && b.2.1 = x.cycle

/-- The WLOAD that replaces a load in a reprint, when it is a shadow reprint (R434). -/
def Panel.replaced (p : Panel) (m : Mem) (r : Reprint) (x : PassEntry) : Option WloadArgs :=
  if r.shadow && x.load then p.shadowLoad m r.site r.cluster x else none

/-- The slice offsets of the rows that a piece of operands touches: a bank is read a whole row at a time (R242). -/
def pieceRows (o : Nat × Nat) : List Nat :=
  (List.range (rowsTouched o.1 o.2)).map fun i => 64 * (o.1 / 64 + i)

/-- The reprint is granted (R431 step 3): the operands are read again in one read, and every CRC must equal the log's; a shadow
reprint needs the shadow of every load that failed. The operands go as the rows read (DEDUCED, notes/assumptions/130.md). -/
def Panel.sendOperands (p : Panel) (m : Mem) (r : Reprint) : Panel :=
  let entries := logPieces r.engine (p.reprintLog r) 0 0
  let shadow (x : PassEntry) : List (Nat × Nat) := match p.replaced m r x with
    | some a => a.pieces
    | none => []
  let crc (x : PassEntry × List (Nat × Nat)) : Nat :=
    crc32c (x.2.flatMap fun o => (p.memory m).read (sliceAddr r.site r.cluster o.1) o.2)
  let ok := entries.all fun x =>
    crc x = x.1.crc && !(r.shadow && p.failedLoad r x.1 && (p.replaced m r x.1).isNone)
  let rows := (entries.flatMap fun x => x.2 ++ shadow x.1).flatMap pieceRows
  let (ds, p) := p.gather m r.site r.cluster (rows.map fun o => (o, 64))
  if ok then (p.advanceReprint { r with operands := rows.zip ds }).send (.reprintOperands r.site r.slot)
  else (p.endReprint r).raise r.site 0x1205

/-- A grant or a refusal reaches the original die (R430, R431). -/
def Panel.reprintGranted (p : Panel) (m : Mem) (site slot : Nat) (granted : Bool) : Panel :=
  let msg := NetMsg.reprintGrant site slot granted
  if !p.net.contains msg then p
  else
    let p := p.arrive msg
    match p.reprint site slot with
    | some r => if granted then p.sendOperands m r else p.claimNext r
    | none => p

/-- The operands land in the reserve's slice at the same offsets (R431 step 3): full-row writes, each with the fox bit that the
original read (R256). -/
def Panel.landOperands (p : Panel) (site slot : Nat) : Panel :=
  let msg := NetMsg.reprintOperands site slot
  if !p.net.contains msg then p
  else
    let p := p.arrive msg
    match p.reprint site slot with
    | none => p
    | some r =>
      let p := p.each r.operands fun p x =>
        p.put { addr := sliceAddr r.peer r.peerCluster x.1, data := x.2.data, fox := some x.2.fox }
      p.advanceReprint { r with state := 3, operands := [] }

/-! ### The replay (R431 steps 4 and 5, R434) -/

/-- The engine of the reserve while it replays. -/
structure Replay where
  banks : List Bank := [{}, {}]
  rows : SMap Row := []
deriving DecidableEq, Repr

/-- Tokens of `n` rows, `k` each, on a die's meter (R412, R431). -/
def Panel.chargeRows (p : Panel) (s k : Nat) : Nat → Panel
  | 0 => p
  | n + 1 =>
    let sum := k + (p.seq s).tokens.sum
    let p := ((p.period s k).tally s Csr.DRW_TOK_USED k).setField s Csr.DRW_TOK_PEAK
      (max (p.field s Csr.DRW_TOK_PEAK) sum)
    p.chargeRows s k n

/-- One entry replays on the reserve, on the rows of the drained range that it names. -/
def Panel.replayEntry (m : Mem) (r : Reprint) (shadow : PassEntry → Option WloadArgs) (q : Replay × Panel) (x : PassEntry) :
    Replay × Panel :=
  let s := r.peer
  let c := r.peerCluster
  let (st, p) := q
  let inRange (k : Nat) : Bool := r.row ≤ k && k < r.row + r.count
  if x.load then
    let (b, bank, p) := match shadow x with
      | some a => let (b, p) := p.wloadTile m s c a x.word x.ximm x.cycle; (b, a.bank, p)
      | none =>
        if r.engine = 0 then
          let a := wloadArgs x.word x.ximm
          let (b, p) := p.wloadTile m s c a x.word x.ximm x.cycle
          (b, a.bank, p)
        else
          let a := sloadArgs x.word x.ximm
          let (b, p) := p.sloadTile m s c a false x.word x.ximm x.cycle
          (b, a.bank, p)
    ({ st with banks := setNth st.banks bank { b with ready := true, loading := false } }, p)
  else if bitsOf x.word 58 6 = 2 then
    let a := streamArgs r.engine x.word
    if !((List.range a.mlen).any fun i => inRange (a.acc + i)) then (st, p)
    else
      let b := nth st.banks a.bank {}
      let (xs, _, p) := p.inputRows m s c b.klen a (x.ximm % 2 ^ 21)
      let p := p.chargeRows s (if r.engine = 0 || r.shadow then 8 else 4) a.mlen
      xs.zipIdx.foldl (fun (q : Replay × Panel) (xi : InputRow × Nat) =>
        let k := a.acc + xi.2
        if inRange k then
          let (row, p) := q.2.foxRow (streamRow b a xi.1 (SMap.get (fun _ => {}) q.1.rows k))
          ({ q.1 with rows := SMap.set (fun _ => {}) q.1.rows k row }, p)
        else q) (st, p)
  else
    let a := initArgs r.engine x.word
    if !((List.range a.mlen).any fun i => inRange (a.acc + i)) then (st, p)
    else
      let (rows, _, _, p) := p.initRows m s c r.engine x.word
      (rows.zipIdx.foldl (fun (st : Replay) (xi : Row × Nat) =>
        if inRange (a.acc + xi.2) then { st with rows := SMap.set (fun _ => {}) st.rows (a.acc + xi.2) xi.1 } else st) st, p)

/-- The reserve drains the replayed range with the original's CHK and bound, and returns the rows (R431 step 5). `upset` is
what a fault of the reserve did to the drained values; RP_INJECT inverts bit 0 of row 0. -/
def Panel.replay (p : Panel) (m : Mem) (site slot : Nat) (upset : List (Nat × Nat × Nat)) : Panel :=
  match p.reprint site slot with
  | none => p
  | some r =>
    if r.state ≠ 3 then p
    else
      let m' := p.memory m
      let log := p.reprintLog r
      let shadow := p.replaced m' r
      let (st, p) := log.foldl (Panel.replayEntry m' r shadow) ({}, p)
      let rows := (List.range r.count).map fun i => SMap.get (fun _ => {}) st.rows (r.row + i)
      let hit (x : Row) (u : Nat × Nat × Nat) : Row :=
        { x with vals := setNth x.vals u.2.1 (Nat.xor (nth x.vals u.2.1 0) u.2.2 % 2 ^ 32) }
      let rows := rows.zipIdx.map fun ri => (upset.filter fun u => u.1 = ri.2).foldl hit ri.1
      let (bound, chk) := match p.contain.marks.find? r.isFor with
        | some k => (k.bound, k.chk)
        | none => (0, false)
      let failed := (verdicts (p.checkCfg site bound chk) false rows).any (·.mismatch)
      let out := rows.map fun x => (⟨x.image, x.fox⟩ : Delivered)
      let inj := p.isSet r.peer Csr.ERR_CTRL_RP_INJECT
      let out := if inj then out.mapIdx fun i d =>
          if i = 0 then { d with data := setNth d.data 0 (BitVec.ofNat 8 (Nat.xor (nth d.data 0 0).toNat 1)) } else d
        else out
      let p := if inj then p.setFlag r.peer Csr.ERR_CTRL_RP_INJECT false else p
      (p.advanceReprint { r with state := 4, result := some (out, failed) }).send (.reprintResult site slot)

/-! ### Outcomes (R432–R435) -/

/-- The rows of a drained range as the comparison reads them from the original's slice at phase 14 (R431 step 6, R257). -/
def Panel.drainedRows (p : Panel) (m : Mem) (k : Mark) : List Delivered × Panel :=
  p.gather m k.site k.cluster ((List.range k.count).map fun i => (k.addr + 1024 * i, 1024))

/-- Rows written over a drained range (R433, R434). -/
def Panel.replaceRows (p : Panel) (k : Mark) (rows : List Delivered) : Panel :=
  p.each rows.zipIdx fun p x =>
    p.put { addr := sliceAddr k.site k.cluster (k.addr + 1024 * x.2), data := x.1.data, fox := some x.1.fox }

/-- A second reserve runs the reprint while the first one's rows are kept (R432, R434). -/
def Panel.arbitrate (p : Panel) (r : Reprint) (rows : List Delivered) : Panel :=
  (p.release r).claimNext { r with first := some rows, result := none }

/-- A correction (R433) is counted; at REPEAT of one die within a sheet, PD treats it as lost (R435). -/
def Panel.countCorrection (p : Panel) (s region : Nat) : Panel :=
  let p := (p.countMark s false).count sitePD (Csr.ERR_R_COUNT_CORRECTIONS region) 1
  let p := p.count sitePD (Csr.ERR_SUSPECT_CORRECTIONS s) 1
  let p := p.modContain fun c => { c with sheetCorrections := SMap.modify (fun _ => 0) c.sheetCorrections s (· + 1) }
  if SMap.get (fun _ => 0) p.contain.sheetCorrections s = p.acting sitePD (Csr.ERR_R_CFG_REPEAT region) then
    let p := p.setFlag sitePD (Csr.ERR_SUSPECT_REPEAT s) true
    (p.raiseFor p.primary 0x1215 .notice (some region) 0 s).dieLost s 5
  else p

/-- The arbiter agreed with the first reprint (R433). -/
def Panel.correct (p : Panel) (r : Reprint) (k : Mark) (rows : List Delivered) : Panel :=
  let p := p.endReprint r
  if k.touched then
    let p := p.raiseFor p.primary 0x1203 (severityOf 0x1203) (some k.region) k.cluster k.site
    (p.countCorrection k.site k.region).abortRegion k.region 0x1203 false
  else
    let p := ((p.replaceRows k rows).settle k).raiseAt k.site k.cluster 0x1202
    p.countCorrection k.site k.region

/-- Two shadow reprints agreed on an untouched range (R434): the rows replace the foxed ones, the entry mark settles, and so
does the fox mark that the SDRAIN opened. -/
def Panel.shadowReplace (p : Panel) (r : Reprint) (k : Mark) (rows : List Delivered) : Panel :=
  let p := ((p.endReprint r).replaceRows k rows).settle k
  let fox := p.contain.marks.find? fun q =>
    q.kind = .fox && q.site = k.site && q.cluster = k.cluster && q.stroke = k.stroke && q.code = 0x0518
  let p := match fox with
    | some q => (p.modContain fun c => { c with marks := c.marks.erase q }).showMarks k.region
    | none => p
  let p := p.modContain fun c => { c with badRows := c.badRows.filter fun b =>
    !(b.1 = k.site * 4 + k.cluster && k.row ≤ b.2.2 && b.2.2 < k.row + k.count) }
  p.raiseAt k.site k.cluster 0x1208

/-- The comparison ends (R432, R434). -/
def Panel.reprintCompared (p : Panel) (m : Mem) (site slot : Nat) : Panel :=
  let msg := NetMsg.reprintResult site slot
  if !p.net.contains msg then p
  else
    let p := p.arrive msg
    match p.reprint site slot with
    | none => p
    | some r =>
      match r.result, p.contain.marks.find? r.isFor with
      | some (rows, failed), some k =>
        let leave (p : Panel) : Panel := (p.endReprint r).raise site 0x1205
        match r.first with
        | none =>
          if r.shadow then p.arbitrate r rows
          else
            let (stored, p) := p.drainedRows m k
            if stored = rows then
              if k.checksum && failed then leave p
              else (((p.endReprint r).settle k).countMark site true).raiseAt site k.cluster 0x1201
            else if failed then leave p
            else p.arbitrate r rows
        | some f =>
          if f ≠ rows then leave p
          else if !r.shadow then p.correct r k rows
          else if k.touched then p.endReprint r
          else p.shadowReplace r k rows
      | _, _ => p.endReprint r

/-- A reprint passes its timeout (R431): the next cluster is claimed once, with 0x1222; a second timeout leaves the mark
open. -/
def Panel.reprintTimeout (p : Panel) (site slot : Nat) : Panel :=
  match p.reprint site slot with
  | none => p
  | some r =>
    if r.timeouts = 0 then
      ((p.release r).raise site 0x1222).claimNext { r with timeouts := 1, operands := [], result := none }
    else (p.endReprint r).raise site 0x1205

/-! ### The commands -/

/-- ERR_R_CFG.ACCEPT settles every open entry and check mark of a region, with 0x1207 (R425). -/
def Panel.acceptMarks (p : Panel) (region : Nat) : Panel :=
  (p.dropMarks region fun k => k.kind ≠ .fox).raiseRegion region 0x1207

/-- ERR_ACCEPT (R425). -/
def execErrAccept (region : Nat) (s : State) : Host.Outcome State Fault Refusal :=
  .next (s.quiet fun p => p.acceptMarks region)

/-- REPRINT_CLAIM (R430). -/
def execReprintClaim (site slot reserve cluster : Nat) (s : State) : Host.Outcome State Fault Refusal :=
  .next (s.quiet fun p => p.answerClaim site slot reserve cluster)

/-- REPRINT_GRANT (R431). -/
def execReprintGrant (site slot : Nat) (granted : Bool) (s : State) : Host.Outcome State Fault Refusal :=
  .next (s.store fun m p => p.reprintGranted m site slot granted)

/-- REPRINT_OPERANDS (R566). -/
def execReprintOperands (site slot : Nat) (s : State) : Host.Outcome State Fault Refusal :=
  .next (s.store fun _ p => p.landOperands site slot)

/-- REPRINT_REPLAY_DONE (R431). -/
def execReprintReplayDone (site slot : Nat) (upset : List (Nat × Nat × Nat)) (s : State) :
    Host.Outcome State Fault Refusal :=
  .next (s.store fun m p => p.replay m site slot upset)

/-- REPRINT_RESULT (R432). -/
def execReprintResult (site slot : Nat) (s : State) : Host.Outcome State Fault Refusal :=
  .next (s.store fun m p => p.reprintCompared m site slot)

/-- REPRINT_TIMEOUT (R431). -/
def execReprintTimeout (site slot : Nat) (s : State) : Host.Outcome State Fault Refusal :=
  .next (s.quiet fun p => p.reprintTimeout site slot)

/-- ERR_RP_INJECT (R431): ERR_CTRL.RP_INJECT is armed on a reserve die. -/
def execErrRpInject (site : Nat) (s : State) : Host.Outcome State Fault Refusal :=
  .next (s.quiet fun p => p.setFlag site Csr.ERR_CTRL_RP_INJECT true)

end Sys2Proof.Machine
end

