-- ==== Sys2Proof/Machine/Power.lean ====
section
/-! DEFINITION. Power domains, the headroom ledgers, regulators and rails (spec/19), and the loss of an oscillator (R53). -/

namespace Sys2Proof.Machine

/-! ### What a failed cluster takes with it (R456, R463–R465) -/

/-- A placed image of the imposition in force uses a cluster (R463, R464). -/
def Panel.clusterUsed (p : Panel) (s c : Nat) : Bool :=
  match p.regionOf s with
  | some r => p.running r && namesCluster ((p.region r).forme.runs (p.field sitePD (Csr.FRM_R_IMP_CURRENT r))) s c
  | none => false

/-- The region of a site aborts, and its restart looks for the single-loss imposition of the site (R464). -/
def Panel.lossAbort (p : Panel) (s code : Nat) : Panel :=
  match p.regionOf s with
  | some r => (p.abortRegion r code true).modRegion r fun g => { g with lostSite := some s }
  | none => p

/-- Raises a code of a cluster at region-abort when a placed image uses it, with R464's abort, and otherwise at notice or
for no region. -/
def Panel.raiseUsed (p : Panel) (s c code : Nat) : Panel :=
  if p.clusterUsed s c then
    (p.raiseFor p.primary code .regionAbort (p.regionOf s) c s).lossAbort s code
  else p.raiseFor p.primary code .notice none c s

/-- A cluster is recorded in the field errata with cause 4 and the floor plan is merged (R456, R463). -/
def Panel.recordPower (p : Panel) (s u state code : Nat) : Panel := ((p.appendField s u state 4 code).merge 4).darkenBad

/-- A cluster that only a single-loss imposition of the region in RUN mode needs, beside the imposition in force (R445). -/
def Panel.heldForLoss (p : Panel) (s c : Nat) : Bool :=
  match p.regionOf s with
  | some r =>
    let d := (p.region r).forme
    let cur := p.field sitePD (Csr.FRM_R_IMP_CURRENT r)
    p.running r && p.drawMode = 2 && !namesCluster (d.runs cur) s c
      && (d.imps.filter fun i => i.ikind = 1 && i.num ≠ cur).any fun i => namesCluster (d.runs i.num) s c
  | none => false

/-- A domain is marked failed with 0x0C0F (R456); 0x1224 when it was held for a single-loss imposition (R445). -/
def Panel.failDomain (p : Panel) (s d : Nat) : Panel :=
  let used := p.clusterUsed s d
  let p := (p.darken s d).setField s (Csr.PWR_DOM_STATE d) domFailed
  let p := (p.showSeqBusy s).recordPower s (domainUnit s d) 2 0x0C0F
  let p := p.raiseFor p.primary 0x0C0F (severityOf 0x0C0F) (if used || !isCluster s d then p.regionOf s else none) d s
  let p := if isCluster s d && p.heldForLoss s d then p.raiseFor p.primary 0x1224 .notice (p.regionOf s) d s else p
  if !isCluster s d then p.dieLost s 4 else if used then p.lossAbort s 0x0C0F else p

/-! ### On (R456–R459) -/

/-- Another domain of the die is closing its stages (R457). -/
def Panel.staging (p : Panel) (s : Nat) : Bool := p.isSet s Csr.PWR_STATUS_SEQ_BUSY

/-- Stage 1 closes; `forced` says that the turn-on is forced (R459). -/
def Panel.startTurnOn (p : Panel) (s d : Nat) (forced : Bool) : Panel :=
  let p := p.modDomain s d fun x => { x with reqOn := false, since := p.now, good := none }
  let p := p.setField s (Csr.PWR_DOM_STATE d) domTurningOn
  let p := p.setField s (Csr.PWR_DOM_STAGE d) 1
  let p := (p.setFlag s (Csr.PWR_DOM_FORCED d) forced).setFlag s (Csr.PWR_DOM_REQ_ON d) false
  (p.reserve s d (p.reservation s d)).showSeqBusy s

/-- A die's domains stay dark: it is never powered (R31), or is a compute die whose uncore is bad or unproven (R27). -/
def Panel.keptDark (p : Panel) (s : Nat) : Bool := p.noPower s || (s < 400 && !p.logicGood s)

/-- A turn-on is attempted (R457–R459) with the ledgers' measured peaks. -/
def Panel.attempt (p : Panel) (s d groupPeak railPeak : Nat) : Panel :=
  let p := p.setField sitePD (Csr.PWR_GRP_PEAK_LAST (girthGroup s)) groupPeak
  let p := p.setField sitePD Csr.PWR_RAIL_PEAK_LAST railPeak
  if !(p.domain s d).reqOn || p.field s (Csr.PWR_DOM_STATE d) ≠ domDark || p.keptDark s || p.staging s then p
  else
    let n := p.field s (Csr.PWR_DOM_DEFERRALS d)
    if p.acting s Csr.PWR_SEQ_CFG_DEFER_MAX ≤ n && !p.isSet sitePD (Csr.PWR_GRP_LOW (girthGroup s)) then
      (p.startTurnOn s d true).raiseFor p.primary 0x0C08 .notice (p.regionOf s) d s
    else if p.headroom s (p.reservation s d) then p.startTurnOn s d false
    else
      let p := p.count s (Csr.PWR_DOM_DEFERRALS d) 1
      if n = 0 then p.raiseFor p.primary 0x0C07 .notice (p.regionOf s) d s else p

/-- A request to turn a domain on (R457); a new request starts with no deferral. -/
def Panel.requestOn (p : Panel) (s d : Nat) : Panel :=
  if (p.domain s d).reqOn || p.field s (Csr.PWR_DOM_STATE d) ≠ domDark then
    p.modDomain s d fun x => { x with reqOff := false }
  else
    let p := p.modDomain s d fun x => { x with reqOn := true, reqOff := false }
    (p.setField s (Csr.PWR_DOM_DEFERRALS d) 0).setFlag s (Csr.PWR_DOM_REQ_ON d) true

/-- A request to switch a domain off at the next tick (R460); a domain that is only requested on is withdrawn at once. No request
switches an uncore, core, PHY or I/O domain off (R454). -/
def Panel.requestOff (p : Panel) (s d : Nat) : Panel :=
  let p := (p.modDomain s d fun x => { x with reqOn := false }).setFlag s (Csr.PWR_DOM_REQ_ON d) false
  if p.field s (Csr.PWR_DOM_STATE d) = domDark || !isCluster s d then p
  else (p.modDomain s d fun x => { x with reqOff := true }).setFlag s (Csr.PWR_DOM_REQ_OFF d) true

/-- The next header stage closes; one that does not close raises 0x0C10 and fails the domain. A turn-on whose request was
withdrawn ends here (R460). -/
def Panel.stageStep (p : Panel) (s d : Nat) (ok : Bool) : Panel :=
  if p.field s (Csr.PWR_DOM_STATE d) ≠ domTurningOn || 4 ≤ p.field s (Csr.PWR_DOM_STAGE d) then p
  else if !ok then (p.raise s 0x0C10).failDomain s d
  else
    let p := (p.setField s (Csr.PWR_DOM_STAGE d) (p.field s (Csr.PWR_DOM_STAGE d) + 1)).showSeqBusy s
    if (p.domain s d).reqOff then (p.darken s d).showSeqBusy s else p

/-- The output voltage of a cluster regulator (R455): VCLUSTER + TRIM, clamped to 550–900 mV. -/
def Panel.clusterVolts (p : Panel) (s c : Nat) : Nat :=
  let trim := max (-8) (min 8 (signed 8 (bitsOf (p.field s Csr.PWR_TRIM) (8 * c) 8)))
  (max 550 (min 900 ((p.acting s Csr.PWR_VSET_VCLUSTER : Int) + 5 * trim))).toNat

/-- A die whose uncore or core powers up begins at its reset values (R501): registers, sequencer, counters, galleys, bundle
ends, port and memory-die state. What its regulators have lost, its fuses and its unit states stay. -/
def Panel.freshDie (p : Panel) (s : Nat) : Panel :=
  let lo := Csr.PWR_CTRL.off
  let p := (p.clearWords s 0 lo).clearWords s (lo + 0x60) 0x400000
  let keep {α : Type} (w : Nat) (m : SMap α) : SMap α := m.filter fun x => x.1 / w ≠ s
  { p with clocks := keep 1 p.clocks, threads := keep 128 p.threads, seqs := keep 1 p.seqs, watches := keep 1 p.watches,
           syncRegion := keep 256 p.syncRegion, engines := keep 8 p.engines, boards := keep 4 p.boards,
           movers := keep 4 p.movers, slot12 := keep 1 p.slot12, galleys := keep 8 p.galleys, memDies := keep 1 p.memDies,
           mesh := keep 64 p.mesh, meshWire := keep 64 p.meshWire, meshOps := keep 1 p.meshOps,
           bundles := keep 64 p.bundles, windowBase := keep 128 p.windowBase, suspectReport := keep 1 p.suspectReport,
           tallies := keep 0x400000 p.tallies, links := keep 1 p.links }

/-- A die whose logic has power again is no longer lost, and routes written from then on may lead through it (R489, R503). -/
def Panel.revive (p : Panel) (s : Nat) : Panel :=
  { p.modContain fun k => { k with lost := k.lost.filter (· ≠ s) } with
      fabric := { p.fabric with avoid := p.fabric.avoid.filter (· ≠ s) }
      tack := { p.tack with awaitHb := p.tack.awaitHb.filter (· ≠ s) ++ [s] } }

/-- A domain reaches power good (R456): its oscillator starts; a cluster begins its fox-fill (R259), any other is on; one whose
request was withdrawn is switched off (R460). -/
def Panel.powerGood (p : Panel) (s d : Nat) : Panel :=
  if p.field s (Csr.PWR_DOM_STATE d) ≠ domTurningOn || p.field s (Csr.PWR_DOM_STAGE d) < 4 || (p.domain s d).good.isSome then p
  else
    let p := if d = logicDomain s && s < 464 then (p.freshDie s).revive s else p
    let p := (p.modDomain s d fun x => { x with good := some p.now }).setDomainUp s d true
    if (p.domain s d).reqOff then (p.darken s d).showSeqBusy s
    else if isCluster s d then
      let p := p.setField s (Csr.PWR_REG_VOUT d) (p.clusterVolts s d)
      let p := p.modDomain s d fun x => { x with filling := true }
      p.setField s Csr.SPR_STATUS_FILLING (putBits (p.field s Csr.SPR_STATUS_FILLING) d 1 1)
    else
      let p := p.setField s (Csr.PWR_DOM_STATE d) domOn
      if d = logicDomain s then
        (p.setFlag s Csr.PWR_STATUS_REG_A_OK true).setFlag s Csr.PWR_STATUS_REG_B_OK true
      else (p.setFlag s Csr.PWR_STATUS_IO_A_OK true).setFlag s Csr.PWR_STATUS_IO_B_OK true

/-- A domain is on at once, as a wave or a reset brings it up within its slot (R461, R503). -/
def Panel.powerUp (p : Panel) (s d : Nat) : Panel :=
  if p.noPower s || p.field s (Csr.PWR_DOM_STATE d) = domFailed then p
  else
    let p := p.setField s (Csr.PWR_DOM_STATE d) domTurningOn
    let p := (p.setField s (Csr.PWR_DOM_STAGE d) 4).powerGood s d
    let p := p.modDomain s d fun x => { x with good := none }
    if isCluster s d then
      let p := p.modDomain s d fun x => { x with filling := false }
      let p := p.setField s Csr.SPR_STATUS_FILLING (putBits (p.field s Csr.SPR_STATUS_FILLING) d 1 0)
      (p.setField s (Csr.PWR_DOM_STATE d) domOn).foxFill s d
    else p

/-! ### At a tick (R454, R455, R460, R463) -/

/-- A cluster is derated from now on (R463). -/
def Panel.derate (p : Panel) (s c code : Nat) : Panel :=
  let p := p.recordPower s (2 + c) 1 code
  let p := p.setField s Csr.PWR_STATUS_DERATED (putBits (p.field s Csr.PWR_STATUS_DERATED) c 1 1)
  (p.showAllowance s).engineStatus s

/-- What a tick does to a die's domains: switch-offs (a domain that is turning on completes its step first, R460), VCLUSTER,
derates. -/
def Panel.powerTick (p : Panel) (s : Nat) : Panel :=
  let p := p.each (domainsOf s) fun p d =>
    if (p.domain s d).reqOff && p.field s (Csr.PWR_DOM_STATE d) ≠ domTurningOn then (p.darken s d).showSeqBusy s else p
  let p := match p.power.nextVset.find? fun x => x.1 = s with
    | some _ =>
      let p := p.modPower fun w => { w with nextVset := w.nextVset.filter fun x => x.1 ≠ s }
      p.each (List.range 4) fun p c => if p.domainUp s c then p.setField s (Csr.PWR_REG_VOUT c) (p.clusterVolts s c) else p
    | none => p
  let due := p.power.derateAtTick.filter fun k => k.1 / 4 = s
  let p := p.modPower fun w => { w with derateAtTick := w.derateAtTick.filter fun k => k.1 / 4 ≠ s }
  p.each due fun p k => p.derate s (k.1 % 4) k.2

/-- A value is written to PWR_VSET (R455): it takes effect at the next tick of the die's region, and at once where there is
none. -/
def Panel.setVset (p : Panel) (s mv : Nat) : Panel :=
  let p := p.setField s Csr.PWR_VSET_VCLUSTER mv
  let p := p.modPower fun w => { w with nextVset := SMap.set (fun _ => 1024) w.nextVset s (mv % 1024) }
  if p.dieRunning s then p else p.powerTick s

/-- Each cluster regulator's peak of the stroke (0.1 A), its share of the capacity it still has, and 0x0C09 past HEAD_WARN
(R466). -/
def Panel.regulatorPeaks (p : Panel) (s : Nat) (peaks : List Nat) : Panel :=
  p.each peaks.zipIdx fun p x =>
    if 4 ≤ x.2 then p
    else
      let c := x.2
      let cap := 40 * (8 - p.field s (Csr.PWR_REG_LOST c))
      let share := if cap = 0 then 0 else min 127 (x.1 * 100 / cap)
      let p := (p.setField s (Csr.PWR_REG_PEAK c) x.1).setField s (Csr.PWR_REG_SHARE c) share
      if p.field s Csr.PWR_SEQ_CFG_HEAD_WARN < share then
        (p.modContain fun k => { k with symptom := (k.symptom.filter (· ≠ s)) ++ [s] }).raiseAt s c 0x0C09
      else p

/-! ### Faults of regulators and rails -/

/-- A phase of a cluster regulator is lost (R462–R464). -/
def Panel.losePhase (p : Panel) (s c phase : Nat) : Panel :=
  let ok := p.field s (Csr.PWR_REG_PHASE_OK c)
  if !bitOf ok phase || 400 ≤ s || 4 ≤ c then p
  else
    let n := p.field s (Csr.PWR_REG_LOST c) + 1
    let p := (p.setField s (Csr.PWR_REG_PHASE_OK c) (putBits ok phase 1 0)).setField s (Csr.PWR_REG_LOST c) n
    let used := p.clusterUsed s c
    let allowed := match p.regionOf s with
      | some r => namesCluster ((p.region r).forme.derateOk.map fun x => (x.1, x.2 / 2)) s c
      | none => true
    if n ≤ 2 then p.raiseAt s c 0x0C01
    else if n = 3 then
      let code := if used && !allowed then 0x0C03 else 0x0C02
      let p := if code = 0x0C03 then p.raiseUsed s c code else p.raiseAt s c code
      if p.dieRunning s then p.modPower fun w => { w with derateAtTick := w.derateAtTick ++ [(s * 4 + c, code)] }
      else p.derate s c code
    else if n = 4 then
      let p := ((p.darken s c).showSeqBusy s).recordPower s (2 + c) 2 0x0C04
      if used then (p.raiseFor p.primary 0x0C04 .regionAbort (p.regionOf s) c s).lossAbort s 0x0C04
      else p.raiseFor p.primary 0x0C04 .notice none c s
    else p

/-- The first phase of a regulator that is in service. -/
def firstPhase (ok : Nat) : Nat := (List.range 8).findIdx fun i => bitOf ok i

/-- One of a domain's two regulators fails (R465). `io` names the PHY or I/O domain; `b` the second regulator. -/
def Panel.loseRegulator (p : Panel) (s : Nat) (io b : Bool) : Panel :=
  let f := if io then (if b then Csr.PWR_STATUS_IO_B_OK else Csr.PWR_STATUS_IO_A_OK)
    else if b then Csr.PWR_STATUS_REG_B_OK else Csr.PWR_STATUS_REG_A_OK
  let other := if io then (if b then Csr.PWR_STATUS_IO_A_OK else Csr.PWR_STATUS_IO_B_OK)
    else if b then Csr.PWR_STATUS_REG_A_OK else Csr.PWR_STATUS_REG_B_OK
  if !p.isSet s f then p
  else
    let p := p.setFlag s f false
    if p.isSet s other then p.raise s (if s < 400 then 0x0C05 else 0x0C0E)
    else
      let p := p.darken s (if io then 1 else logicDomain s)
      let p := if io then p.raise s 0x0C06 else p.raiseFor p.primary 0x0C06 (severityOf 0x0C06) (p.regionOf s) 0 s
      p.dieLost s 4

/-- A group's sense voltage, in mV (R452). -/
def Panel.groupSense (p : Panel) (g mv : Nat) : Panel :=
  let was := p.isSet sitePD (Csr.PWR_GRP_LOW g)
  let p := (p.setField sitePD (Csr.PWR_GRP_SENSE g) mv).setFlag sitePD (Csr.PWR_GRP_LOW g) (mv < 1710)
  p.raiseIf (mv < 1710 && !was) p.primary 0x0C0A

/-- A group below 1.62 V for 10 µs (R452): its dies are off and lost. -/
def Panel.groupLost (p : Panel) (g : Nat) : Panel :=
  let sites := girthSites g
  let regs := distinct (sites.filterMap fun s => p.regionWith s)
  let p := p.each sites fun p s => p.darkenDie s
  let p := if regs.isEmpty then p.raiseFor p.primary 0x0C0B (severityOf 0x0C0B) none 0 g
    else p.each regs fun p r => p.raiseFor p.primary 0x0C0B (severityOf 0x0C0B) (some r) 0 g
  p.each sites fun p s => p.dieLost s 4

/-- The panel rail fails, or the tray withdraws power good (R452). -/
def Panel.railFail (p : Panel) (withdrawn : Bool) : Panel :=
  let p := p.each allSites fun p s => p.darkenDie s
  let p := if withdrawn then p.modBoot fun b => { b with pwrGood := false, phase := .held } else p
  p.raise p.primary 0x0C0D

/-- An adaptive oscillator stops (R53, spec/03 cases): a cluster goes dark, the die reports it and its region aborts; with its
uncore or core the die is lost, and the acting primary die reports that, since the die itself no longer can (R18). A clock that
runs from a fixed reference is no adaptive oscillator. -/
def Panel.oscillatorStop (p : Panel) (s d : Nat) : Panel :=
  if !adaptiveClock s d then p
  else
    let p := p.darken s d
    if isCluster s d then
      let p := p.raise s 0x030B
      match p.regionOf s with
      | some r => p.abortRegion r 0x030B false
      | none => p
    else (p.raiseFor p.primary 0x030B (severityOf 0x030B) (p.regionOf s) 0 s).dieLost s 5

/-! ### The commands -/

/-- OSCILLATOR_STOP (R53). -/
def execOscillatorStop (site domain : Nat) (s : State) : Host.Outcome State Fault Refusal :=
  .next (s.store fun _ p => p.oscillatorStop site domain)

/-- PWR_REQ_ON (R457). -/
def execPwrReqOn (site domain : Nat) (s : State) : Host.Outcome State Fault Refusal :=
  .next (s.quiet fun p => p.requestOn site domain)

/-- PWR_REQ_OFF (R460). -/
def execPwrReqOff (site domain : Nat) (s : State) : Host.Outcome State Fault Refusal :=
  .next (s.quiet fun p => p.requestOff site domain)

/-- TURN_ON_ATTEMPT (R458): the ledgers' PEAK_LAST as measured, in A. -/
def execTurnOnAttempt (site domain groupPeak railPeak : Nat) (s : State) : Host.Outcome State Fault Refusal :=
  .next (s.quiet fun p => p.attempt site domain groupPeak railPeak)

/-- HEADER_STAGE_STEP (R456); `ok` says that the stage closed. -/
def execHeaderStageStep (site domain : Nat) (ok : Bool) (s : State) : Host.Outcome State Fault Refusal :=
  .next (s.store fun _ p => p.stageStep site domain ok)

/-- DOMAIN_POWER_GOOD (R456). -/
def execDomainPowerGood (site domain : Nat) (s : State) : Host.Outcome State Fault Refusal :=
  .next (s.quiet fun p => p.powerGood site domain)

/-- POWER_GOOD_TIMEOUT (R456). -/
def execPowerGoodTimeout (site domain : Nat) (s : State) : Host.Outcome State Fault Refusal :=
  .next (s.store fun _ p =>
    if p.field site (Csr.PWR_DOM_STATE domain) = domTurningOn && (p.domain site domain).good.isNone then
      p.failDomain site domain
    else p)

/-- RESERVATION_RELEASE (R458). -/
def execReservationRelease (site domain : Nat) (s : State) : Host.Outcome State Fault Refusal :=
  .next (s.quiet fun p => if (p.domain site domain).good.isSome then p.unreserve site domain else p)

/-- PHASE_LOSS (R463). -/
def execPhaseLoss (site cluster phase : Nat) (s : State) : Host.Outcome State Fault Refusal :=
  .next (s.store fun _ p => p.losePhase site cluster phase)

/-- PWR_CTRL.PH_INJECT disables one more phase of a cluster's regulator (R462). -/
def Panel.injectPhase (p : Panel) (site cluster : Nat) : Panel :=
  p.losePhase site cluster (firstPhase (p.field site (Csr.PWR_REG_PHASE_OK cluster)))

/-- PH_INJECT (R462): PWR_CTRL.PH_INJECT with its INJ_CL. -/
def execPhInject (site cluster : Nat) (s : State) : Host.Outcome State Fault Refusal :=
  .next (s.store fun _ p => (p.setField site Csr.PWR_CTRL_INJ_CL cluster).injectPhase site cluster)

/-- UNCORE_REGULATOR_FAIL (R465). -/
def execUncoreRegulatorFail (site : Nat) (io b : Bool) (s : State) : Host.Outcome State Fault Refusal :=
  .next (s.store fun _ p => p.loseRegulator site io b)

/-- PWR_VSET_WRITE (R455). -/
def execPwrVsetWrite (site mv : Nat) (s : State) : Host.Outcome State Fault Refusal :=
  .next (s.store fun _ p => p.setVset site mv)

/-- GROUP_SENSE_LOW (R452): the sense voltage of a girth group, in mV. -/
def execGroupSenseLow (group mv : Nat) (s : State) : Host.Outcome State Fault Refusal :=
  .next (s.quiet fun p => p.groupSense group mv)

/-- GROUP_UNDERVOLT (R452). -/
def execGroupUndervolt (group : Nat) (s : State) : Host.Outcome State Fault Refusal :=
  .next (s.store fun _ p => p.groupLost group)

/-- RAIL_FAIL (R452). -/
def execRailFail (withdrawn : Bool) (s : State) : Host.Outcome State Fault Refusal :=
  .next (s.quiet fun p => p.railFail withdrawn)

/-- GROUP_OVER_LIMIT (R458): the group's current, in A, exceeded LIMIT for a whole 100 µs window. -/
def execGroupOverLimit (group amps : Nat) (s : State) : Host.Outcome State Fault Refusal :=
  .next (s.quiet fun p => (p.setField sitePD (Csr.PWR_GRP_NOW group) amps).raise p.primary 0x0C0C)

end Sys2Proof.Machine
end

