-- ==== Sys2Proof/Machine/Modes.lean ====
section
/-! DEFINITION. Draw modes and setpoints (R467–R469, R479, R480), imposition requests (R407, R408), and the end of an abort:
the settle time and the reload (R440 steps 4 to 7). -/

namespace Sys2Proof.Machine

/-! ### Setpoints (R468, R469) -/

/-- A written setpoint as it is kept: outside 4 to 100 it is clamped, with 0x1307 (R468). -/
def Panel.clampSetpoint (p : Panel) (v : Nat) : Nat × Panel :=
  if v < 4 then (4, p.raise p.primary 0x1307) else if 100 < v then (100, p.raise p.primary 0x1307) else (v, p)

/-- S_req, with B falling to it at once; B rises only in RUN, which RAMPING shows (R468, R469). -/
def Panel.showSetpoint (p : Panel) : Panel :=
  let f (x : Fld) : Nat := p.field sitePD x
  let s := min (min (f Csr.DRW_SP_TACK_SETPOINT) (f Csr.DRW_SP_HOST_SETPOINT)) (min (f Csr.DRW_STATUS_FLOW_CAP) 100)
  let b := min (f Csr.DRW_STATUS_BUDGET) s
  let p := (p.setField sitePD Csr.DRW_STATUS_S_REQ s).setField sitePD Csr.DRW_STATUS_BUDGET b
  p.setFlag sitePD Csr.DRW_STATUS_RAMPING (p.drawMode = 2 && b < s)

/-! ### Modes (R467, R479, R480) -/

/-- The effective mode that the tack and the host mode ask for (R467); the unassigned code 3 acts as RUN. -/
def Panel.askedMode (p : Panel) : Nat :=
  min 2 (min (p.field sitePD Csr.DRW_SP_TACK_MODE) (p.field sitePD Csr.DRW_SP_HOST_MODE))

/-- The powered clusters of a stopped region go to keep-warm, or dark in PARK (R479). -/
def Panel.restRegion (p : Panel) (r : Nat) : Panel :=
  p.each (p.region r).sites fun p s => p.each (List.range 4) fun p c =>
    if p.drawMode = 0 then (if p.field s (Csr.PWR_DOM_STATE c) = domFailed then p else p.darken s c)
    else if p.domainUp s c then p.want s c 1 else p

/-- What PARK does once every region has stopped: every cluster dark, uncores at p = 128, LPDDR5X in self-refresh (R479). -/
def Panel.parkAll (p : Panel) : Panel :=
  let p := p.each (List.range 400) fun p s =>
    let p := p.each (List.range 4) fun p c => if p.field s (Csr.PWR_DOM_STATE c) = domFailed then p else p.darken s c
    ((p.showSeqBusy s).setField s Csr.CLK_PERIOD 128).modClock s fun k => { k with period := 128 }
  p.each memDieSites fun p md => p.modMemDie md fun d => { d with selfRefresh := true }

/-- The region's clusters are requested again as the effective mode wants them, and reserves are held warm (R430, R445). -/
def Panel.rewarm (p : Panel) (r : Nat) : Panel :=
  let d := (p.region r).forme
  let p := p.each d.reserves fun p x => p.each (List.range 4) fun p c => if bitOf x.2 c then p.want x.1 c 1 else p
  let cur := p.field sitePD (Csr.FRM_R_IMP_CURRENT r)
  if p.drawMode = 2 then p.wantClusters d cur false
  else p.each (d.runs cur) fun p x => p.each (List.range 4) fun p c => if bitOf x.2 c then p.want x.1 c 1 else p

/-- Leaving PARK: LPDDR5X leaves self-refresh, uncores return to p = 64, and clusters are requested (R480). -/
def Panel.unpark (p : Panel) : Panel :=
  let p := p.each memDieSites fun p md => p.modMemDie md fun d => { d with selfRefresh := false }
  let p := p.each (List.range 400) fun p s => (p.setField s Csr.CLK_PERIOD 64).modClock s fun k => { k with period := 64 }
  p.each (allRegions.filter p.running) fun p r => p.rewarm r

/-- CHANGING lasts until every running region has stopped; PARK is then complete (R479). -/
def Panel.modeSettled (p : Panel) : Panel :=
  let waits := allRegions.any fun r => p.running r && (p.region r).warmSince.isSome
  let p := p.setFlag sitePD Csr.DRW_STATUS_CHANGING waits
  if !waits && p.drawMode = 0 then p.parkAll else p

/-- A region stops for the draw mode (R479): ENABLE clears and its clusters rest. From PARK it restarts from its restart
point. `how` is 1 at a commit tick and 2 after an abort. -/
def Panel.modeStop (p : Panel) (r how : Nat) : Panel :=
  let p := p.setFlag sitePD (Csr.STK_R_CTRL_ENABLE r) false
  let p := p.modRegion r fun g =>
    { g with warmSince := none, stopTick := false, stopped := if p.drawMode = 0 then 2 else how, tickSent := false,
             step := none, abortAt := none, restart := none }
  (p.restRegion r).modeSettled

/-- A stopped region resumes in RUN (R480): from a commit tick it begins its next sheet, and otherwise it restarts. -/
def Panel.resume (p : Panel) (m : Mem) (r : Nat) : Panel :=
  let g := p.region r
  let cur := p.field sitePD (Csr.FRM_R_IMP_CURRENT r)
  if g.stopped = 1 then
    let next := p.field sitePD (Csr.STK_R_STROKE r) + (if g.first then 0 else 1)
    ((p.modRegion r fun g => { g with stopped := 0 }).wantClusters g.forme cur false).stampFirst r next
  else if g.stopped = 2 then p.beginRestart m r
  else p.modRegion r fun g => { g with warmSince := none, stopTick := false }

/-- The effective mode follows the tack and host modes, with 0x1308 (R467, R479, R480). -/
def Panel.applyMode (p : Panel) (m : Mem) : Panel :=
  let old := p.drawMode
  let new := p.askedMode
  if new = old then p
  else
    let p := ((p.setField sitePD Csr.DRW_STATUS_MODE new).raise p.primary 0x1308).noteChange 0
    let run := allRegions.filter p.running
    let p := if old = 0 then p.unpark else p
    if new = 2 then
      let p := (p.setField sitePD Csr.DRW_STATUS_BUDGET 8).showSetpoint
      (p.each run fun p r => p.resume m r).modeSettled
    else
      let p := p.showSetpoint
      let p := p.each run fun p r =>
        let g := p.region r
        if g.stopped ≠ 0 then (if new = 0 then (p.modRegion r fun g => { g with stopped := 2 }).restRegion r else p)
        else if g.warmSince.isSome then p
        else p.modRegion r fun g => { g with warmSince := some p.now }
      p.modeSettled

/-- Tack writes its setpoint and mode (R468, R483). After a coolant stop the mode is taken only with a flow of at least
26 L/min. -/
def Panel.tackSetpoint (p : Panel) (m : Mem) (setpoint mode : Nat) : Panel :=
  let (v, p) := p.clampSetpoint setpoint
  let p := p.setField sitePD Csr.DRW_SP_TACK_SETPOINT v
  let p := p.setFlag sitePD Csr.DRW_STATUS_LEASE_EXP false
  let stopped := p.isSet sitePD Csr.THM_FLOW_STOPPED
  let flows := p.isSet sitePD Csr.THM_FLOW_VALID && 260 ≤ p.field sitePD Csr.THM_FLOW_FLOW
  let p := if stopped && !flows then p
    else (p.setField sitePD Csr.DRW_SP_TACK_MODE mode).setFlag sitePD Csr.THM_FLOW_STOPPED false
  p.showSetpoint.applyMode m

/-- The host writes its setpoint and mode (R468); one above the tack value raises 0x1302. -/
def Panel.hostSetpoint (p : Panel) (m : Mem) (setpoint mode : Nat) : Panel :=
  let (v, p) := p.clampSetpoint setpoint
  let p := (p.setField sitePD Csr.DRW_SP_HOST_SETPOINT v).setField sitePD Csr.DRW_SP_HOST_MODE mode
  let above := p.field sitePD Csr.DRW_SP_TACK_SETPOINT < v
    || min 2 (p.field sitePD Csr.DRW_SP_TACK_MODE) < min 2 (p.field sitePD Csr.DRW_SP_HOST_MODE)
  (p.raiseIf above p.primary 0x1302).showSetpoint.applyMode m

/-! ### Imposition requests (R407, R408, R476) -/

/-- A request for an imposition of a region: discarded with 0x0122, or latched in place of one still pending, which also
raises 0x0122; the clusters that it needs are powered and held warm (R407, R408). `draw` says that the draw controller asks. -/
def Panel.requestImp (p : Panel) (r imp : Nat) (draw : Bool) : Panel :=
  let ph := p.field sitePD Csr.FRM_STATUS_PHASE
  let locking := p.isSet sitePD Csr.FRM_STATUS_BUSY && 4 ≤ ph && ph ≤ 7 && p.lockRegions.contains r
  if !p.lockedUp r || p.field sitePD (Csr.FRM_R_IMP_COUNT_M1 r) < imp || locking then p.raiseRegion r 0x0122
  else
    let p := if (p.region r).impRequest.isSome then p.raiseRegion r 0x0122 else p
    let p := p.modRegion r fun g => { g with impRequest := some (imp, flag draw) }
    let p := p.setFlag sitePD (Csr.FRM_R_IMP_PENDING r) true
    if p.drawMode = 2 then p.wantClusters (p.region r).forme imp true else p

/-! ### The commands -/

/-- DRW_SP_TACK_WRITE (R468, R483): TD writes the tack setpoint and mode. -/
def execDrwSpTackWrite (setpoint mode : Nat) (s : State) : Host.Outcome State Fault Refusal :=
  .next (s.store fun m p => p.tackSetpoint m setpoint mode)

/-- DRW_SP_HOST_WRITE (R468). -/
def execDrwSpHostWrite (setpoint mode : Nat) (s : State) : Host.Outcome State Fault Refusal :=
  .next (s.store fun m p => p.hostSetpoint m setpoint mode)

/-- TACK_LEASE_EXPIRED (R468): no tack write for LEASE seconds; the last values stay. -/
def execTackLeaseExpired (s : State) : Host.Outcome State Fault Refusal :=
  .next (s.quiet fun p =>
    if p.field sitePD Csr.DRW_CTRL_LEASE = 0 || p.isSet sitePD Csr.DRW_STATUS_LEASE_EXP then p
    else (p.setFlag sitePD Csr.DRW_STATUS_LEASE_EXP true).raise p.primary 0x1306)

/-- BUDGET_RAMP_STEP (R469): B rises by 1 toward S_req. -/
def execBudgetRampStep (s : State) : Host.Outcome State Fault Refusal :=
  .next (s.quiet fun p =>
    let b := p.field sitePD Csr.DRW_STATUS_BUDGET
    if p.drawMode = 2 && b < p.field sitePD Csr.DRW_STATUS_S_REQ then
      (p.setField sitePD Csr.DRW_STATUS_BUDGET (b + 1)).showSetpoint
    else p)

/-- WARM_WAIT_EXPIRED (R479): a region that has not committed within WARM_WAIT aborts, and stops as the abort settles. -/
def execWarmWaitExpired (region : Nat) (s : State) : Host.Outcome State Fault Refusal :=
  .next (s.quiet fun p =>
    let g := p.region region
    if p.running region && g.warmSince.isSome && g.stopped = 0 && g.abortAt.isNone then p.raiseAbort region 0x1305 else p)

/-- IMPOSITION_REQUEST (R407). -/
def execImpositionRequest (region imp : Nat) (draw : Bool) (s : State) : Host.Outcome State Fault Refusal :=
  .next (s.quiet fun p =>
    let p := if draw then p else p.setField sitePD (Csr.FRM_R_IMP_REQUEST region) imp
    p.requestImp region imp draw)

/-- ABORT_SETTLE_EXPIRED (R440 steps 4 to 6, R441, R479). -/
def execAbortSettleExpired (region : Nat) (s : State) : Host.Outcome State Fault Refusal :=
  .next (s.quiet fun p =>
    let g := p.region region
    if g.abortAt.isNone || g.restart.isSome then p
    else
      let p := p.each g.sites fun p x => p.quietDie x
      let p := p.dropStale region
      if g.stopAtTick then p.stopForLockUp region
      else if p.acting sitePD (Csr.ERR_R_CFG_ABORT_LIMIT region) ≤ p.field sitePD (Csr.ERR_R_STATE_ABORTS region) then
        (p.leaveService region).modeSettled
      else if p.drawMode ≠ 2 then p.modeStop region 2
      else p.beginRestart s.mem region)

/-- RESTART_RELOAD_DONE (R440 steps 6 and 7): once the clusters are up and the galleys drained (R275), the sections reread
carry their CRC (R389), and what R409 lists is reloaded; the restart is stamped with 0x1214. -/
def execRestartReloadDone (region : Nat) (s : State) : Host.Outcome State Fault Refusal :=
  .next (s.store fun m p =>
    let g := p.region region
    match g.restart with
    | none => p
    | some (stroke, imp) =>
      let d := g.forme
      let old := p.field sitePD (Csr.FRM_R_IMP_CURRENT region)
      if !p.clustersUp d imp || !p.galleysIdle region then p
      else if (stroke = 0 || old ≠ imp) && !d.staged m then (p.raiseRegion region 0x0113).leaveService region
      else
        let p := p.reload m region imp true (stroke = 0)
        let p := p.setField sitePD (Csr.FRM_R_IMP_CURRENT region) imp
        let p := p.modRegion region fun g =>
          { g with abortAt := none, restart := none, restartedAt := p.now, stopTick := false }
        let p := p.count sitePD (Csr.ERR_R_COUNT_RESTARTS region) 1
        ((p.stampFirst region stroke).raiseRegion region 0x1214).standaloneDone region)

end Sys2Proof.Machine
end

