-- ==== Sys2Proof/Machine/Draw.lean ====
section
/-! DEFINITION. Draw control and cooling (spec/20): measured draw, the values that a tick gives a region (R470–R477), keep-warm
(R478), coolant (R481–R483), temperatures, the forecast and the throttles (R484–R490). -/

namespace Sys2Proof.Machine

/-- Changes what draw control keeps. -/
def Panel.modDraw (p : Panel) (f : DrawSide → DrawSide) : Panel := { p with drawSide := f p.drawSide }

/-! ### Measured draw (R470, R471) -/

/-- A die's mean power in 10 mW. -/
def Panel.diePower (p : Panel) (s : Nat) : Nat := p.field s Csr.DRW_DIE_POWER

/-- The power at which PD counts a die: 75 W under field BIST (R51), and nothing while it is dark. -/
def Panel.countedPower (p : Panel) (s : Nat) : Nat :=
  if p.underBist s then 7500 else if p.lives s then p.diePower s else 0

/-- Draw of some dies in 10 mW. -/
def Panel.drawOf (p : Panel) (sites : List Nat) : Nat := (sites.map p.countedPower).sum

/-- The sites of regions in force. -/
def Panel.regionSites (p : Panel) : List Nat := (allRegions.filter p.lockedUp).flatMap fun r => (p.region r).sites

/-- DRW_MEASURED and every M_r follow the dies' readings, in W. -/
def Panel.showDraw (p : Panel) : Panel :=
  let inside := p.regionSites
  let all := p.drawOf allSites
  let p := p.setField sitePD Csr.DRW_MEASURED_PANEL (min 0xFFFF (all / 100))
  let p := p.setField sitePD Csr.DRW_MEASURED_OUTSIDE (min 0xFFFF ((all - p.drawOf inside) / 100))
  p.each (allRegions.filter p.lockedUp) fun p r =>
    p.setField sitePD (Csr.DRW_R_DRAW_M r) (min 0xFFFF (p.drawOf (p.region r).sites / 100))

/-- SHARE of a region under an imposition (R372). -/
def FormeRegion.shareIn (d : FormeRegion) (imp : Nat) : Nat :=
  let pick (i : Nat) : Option Budget := d.budgets.find? fun u => u.imp = i && u.kind = 1
  match pick imp, pick 0xFF with
  | some u, _ => u.share
  | none, some u => u.share
  | none, none => 0

/-- The imposition in force of a region. -/
def Panel.impOf (p : Panel) (r : Nat) : Nat := p.field sitePD (Csr.FRM_R_IMP_CURRENT r)

/-- S_r = min(B, C_r) (R470). -/
def Panel.setpointOf (p : Panel) (r : Nat) : Nat :=
  min (p.field sitePD Csr.DRW_STATUS_BUDGET) (p.field sitePD (Csr.DRW_R_STATE_C r))

/-- B_r in W: SHARE × S_r × 3, scaled by B / panel draw while R477 scales. -/
def Panel.budgetOf (p : Panel) (r : Nat) : Nat :=
  let b := (p.region r).forme.shareIn (p.impOf r) * p.setpointOf r * 3
  let panel := p.field sitePD Csr.DRW_MEASURED_PANEL
  if p.isSet sitePD Csr.DRW_STATUS_SCALED && panel ≠ 0 then b * (300 * p.field sitePD Csr.DRW_STATUS_BUDGET) / panel else b

/-! ### Bands (R472, R476) -/

/-- How far a setpoint lies from a band. -/
def Band.far (b : Band) (s : Nat) : Nat := if s < b.lo then b.lo - s else s - b.hi

/-- The nearest of some bands. -/
def nearest (s : Nat) : List Band → Option Band
  | [] => none
  | b :: bs => match nearest s bs with
    | some c => if c.far s < b.far s then some c else some b
    | none => some b

/-- The band that a setpoint selects (R375), and the one on which the region runs: the nearest that names the imposition in
force, or the selected one when none names it, as under a single-loss imposition. -/
def FormeRegion.bandAt (d : FormeRegion) (s : Nat) : Option Band := nearest s d.bands
def FormeRegion.bandFor (d : FormeRegion) (s imp : Nat) : Option Band :=
  match nearest s (d.bands.filter fun b => b.imp = imp) with
  | some b => some b
  | none => d.bandAt s

/-- An imposition places no image on a lost die. -/
def Panel.impLives (p : Panel) (d : FormeRegion) (imp : Nat) : Bool :=
  (d.runs imp).all fun x => !p.contain.lost.contains x.1

/-- The draw controller asks for the imposition of the band that S_r selects when another is in force (R476). -/
def Panel.drawRequest (p : Panel) (r : Nat) : Panel :=
  let d := (p.region r).forme
  match d.bandAt (p.setpointOf r) with
  | none => p
  | some b =>
    let pending := match (p.region r).impRequest with
      | some x => x.1 = b.imp
      | none => false
    if b.imp = p.impOf r || pending || !p.impLives d b.imp then p else p.requestImp r b.imp true

/-! ### The values of the next stroke (R472–R475, R486) -/

/-- P of a region. -/
def Panel.periodOf (p : Panel) (r : Nat) : Nat := p.acting sitePD (Csr.STK_R_PERIOD r)

/-- W_trim that makes the effective period `peff`, within 0 and P − W_band − W_therm (R473). -/
def Panel.trimFor (p : Panel) (r peff per stretch : Nat) : Nat :=
  let therm := p.field sitePD (Csr.DRW_R_THERM r)
  min (peff - ceilDiv (p.periodOf r * per) 64 - stretch - therm) (p.periodOf r - stretch - therm)

/-- W_therm rises by ⌈P / 8⌉ when a die of the region forecasts above PRED, and falls by ⌈P / 32⌉ when every die forecasts at
or below PRED − 3 °C (R486). -/
def Panel.thermStretch (p : Panel) (r : Nat) : Panel :=
  let sites := (p.region r).sites
  let pred := 4 * p.acting sitePD Csr.THM_CFG_PRED
  let f (s : Nat) : Nat := p.field s Csr.THM_TEMP_FORECAST
  let w := p.field sitePD (Csr.DRW_R_THERM r)
  let n := p.periodOf r
  let w' := if sites.any fun s => pred < f s then min n (w + ceilDiv n 8)
    else if sites.all fun s => f s ≤ pred - 12 then w - ceilDiv n 32
    else w
  p.setField sitePD (Csr.DRW_R_THERM r) w'

/-- VCLUSTER applied at a region's last tick. -/
def Panel.voltsOf (p : Panel) (r : Nat) : Nat := SMap.get (fun _ => 750) p.drawSide.volts r

/-- What PD computes and writes before it sends a region's tick (R472): W_therm, the band with its carried-over W_trim, then
p, VCLUSTER, the stretch and the step's duration D. -/
def Panel.drawTick (p : Panel) (r : Nat) : Panel :=
  let p := (p.thermStretch r).drawRequest r
  let g := p.region r
  let s := p.setpointOf r
  let band := (g.forme.bandFor s (p.impOf r)).getD { lo := 0, hi := 100, imp := p.impOf r, period := 64, stretch := 0, vset := 750 }
  let was := SMap.get (fun _ => 0) p.drawSide.band r
  let vOld := p.voltsOf r
  let trim := if was = band.lo + 1 then p.field sitePD (Csr.DRW_R_TRIM r)
    else if was = 0 then 0
    else p.trimFor r (ceilDiv (p.effPeriod r * band.vset ^ 2) (max 1 vOld ^ 2)) band.period band.stretch
  let p := p.setField sitePD (Csr.DRW_R_TRIM r) trim
  let w := min (p.periodOf r) (band.stretch + trim + p.field sitePD (Csr.DRW_R_THERM r))
  let p := p.setField sitePD (Csr.DRW_R_STATE_S r) s
  let p := p.setField sitePD (Csr.DRW_R_STATE_BAND_LO r) band.lo
  let p := p.setField sitePD (Csr.DRW_R_STATE_BAND_IMP r) band.imp
  let p := p.setField sitePD (Csr.DRW_R_DRAW_B r) (min 0xFFFF (p.budgetOf r))
  let p := p.setField sitePD (Csr.STK_R_DRAW_STRETCH r) w
  let p := p.each g.sites fun p x => p.periodWrite x band.period true
  let p := p.each g.sites fun p x => if p.field x Csr.PWR_VSET_VCLUSTER = band.vset then p else p.setVset x band.vset
  let d := (if band.period = g.period then 0 else 625) + 50 * (band.vset - vOld)
  let p := p.modDraw fun x => { x with band := SMap.set (fun _ => 0) x.band r (band.lo + 1),
                                       volts := SMap.set (fun _ => 750) x.volts r band.vset }
  if d = 0 then p
  else
    let p := (p.setField sitePD (Csr.STK_R_STEP r) d).setField sitePD (Csr.DRW_R_STEP r) d
    p.modRegion r fun g => { g with step := some d }

/-! ### The trim loop and overdraw (R474, R477) -/

/-- A region's W_trim by its measured draw, when it is off its budget by more than 1 % (R474). -/
def Panel.trimRegion (p : Panel) (r : Nat) : Panel :=
  let g := p.region r
  let b := 100 * p.budgetOf r
  let m := p.drawOf g.sites
  let p := p.setField sitePD (Csr.DRW_R_DRAW_B r) (min 0xFFFF (p.budgetOf r))
  let n := SMap.get (fun _ => 0) p.drawSide.overRegion r
  let p := p.modDraw fun x => { x with overRegion := SMap.set (fun _ => 0) x.overRegion r (if b < m then n + 1 else 0) }
  let p := if b < m && n + 1 = 20 then p.raiseRegion r 0x1304 else p
  let off := if m < b then b - m else m - b
  if !p.isSet sitePD Csr.DRW_CTRL_TRIM_EN || b = 0 || 100 * off ≤ b then p
  else
    match g.forme.bandFor (p.setpointOf r) (p.impOf r) with
    | none => p
    | some band => p.setField sitePD (Csr.DRW_R_TRIM r) (p.trimFor r (ceilDiv (p.effPeriod r * m) b) band.period band.stretch)

/-- The panel's draw against B: beyond 2 % of TDP over 10 ms every B_r is scaled, until the excess ends (R477). -/
def Panel.scaleDraw (p : Panel) : Panel :=
  let high := 100 * (300 * p.field sitePD Csr.DRW_STATUS_BUDGET + 600) < p.drawOf allSites
  let n := p.drawSide.overdraw + 1
  let p := p.modDraw fun x => { x with overdraw := if high then n else 0 }
  if !high then p.setFlag sitePD Csr.DRW_STATUS_SCALED false
  else if n = 10 then (p.setFlag sitePD Csr.DRW_STATUS_SCALED true).raise p.primary 0x1303
  else p

/-! ### Coolant (R481–R483) -/

/-- Writes a coolant register of PD and of TD. -/
def Panel.setCool (p : Panel) (f : Fld) (v : Nat) : Panel := (p.setField sitePD f v).setField siteTD f v

/-- The flow cap (R482): 25 while the reading is invalid. -/
def Panel.showFlowCap (p : Panel) : Panel :=
  let cap := if !p.isSet sitePD Csr.THM_FLOW_VALID || p.drawSide.cap25 then 25 else if p.drawSide.cap60 then 60 else 100
  (p.setField sitePD Csr.DRW_STATUS_FLOW_CAP cap).showSetpoint

/-- The flow reading is invalid: the cap is 25, and 0x0D0E is raised as it becomes so (R481). -/
def Panel.flowInvalid (p : Panel) : Panel :=
  let first := p.isSet sitePD Csr.THM_FLOW_VALID || p.field sitePD Csr.DRW_STATUS_FLOW_CAP ≠ 25
  let p := (p.setCool Csr.THM_FLOW_VALID 0).raiseIf first siteTD 0x0D0E
  let p := p.modDraw fun x => { x with flowAt := none, above14 := none, above22 := none }
  p.showFlowCap

/-- The row of R482 for a flow in 0.1 L/min. -/
def flowRow (flow : Nat) : Nat := if 260 ≤ flow then 0 else if 200 ≤ flow then 1 else if 120 ≤ flow then 2 else 3

/-- One second and one millisecond in nominal cycles. -/
def msCycles (n : Nat) : Nat := usCycles (1000 * n)

/-- The panel time since which a condition holds. -/
def since (now : Nat) (holds : Bool) (old : Option Nat) : Option Nat := if holds then some (old.getD now) else none

/-- A condition has held for a time. -/
def lasted (now span : Nat) : Option Nat → Bool
  | some t => t + span ≤ now
  | none => false

/-- The coolant has stopped (R483): below 6 L/min, or more than 40 % below the highest sample of the last 100 ms. -/
def flowStopped (flow : Nat) (last : List Nat) : Bool := flow < 60 || 10 * flow < 6 * last.foldl max 0

/-- What a coolant stop does, without waiting for a tick (R483). -/
def Panel.coolantStop (p : Panel) (m : Mem) : Panel :=
  let run := allRegions.filter p.running
  let p := if run.isEmpty then p.raiseFor p.primary 0x0D08 (severityOf 0x0D08) none 0 0 else p
  let p := p.each run fun p r => (p.raiseRegion r 0x0D08).abortRegion r 0x0D08 false
  let p := (p.setCool Csr.THM_FLOW_STOPPED 1).abandonLockUp
  let p := (p.setField sitePD Csr.DRW_SP_TACK_MODE 0).setField sitePD Csr.DRW_SP_HOST_MODE 0
  (p.applyMode m).parkAll

/-- A valid flow sample (R481–R483). -/
def Panel.flowSample (p : Panel) (m : Mem) (flow : Nat) : Panel :=
  let was := if p.isSet sitePD Csr.THM_FLOW_VALID then p.field sitePD Csr.THM_FLOW_ROW else 0
  let row := flowRow flow
  let p := ((p.setCool Csr.THM_FLOW_FLOW flow).setCool Csr.THM_FLOW_VALID 1).setCool Csr.THM_FLOW_ROW row
  let p := p.each [1, 2, 3] fun p k => p.raiseIf (was < k && k ≤ row) siteTD (0x0D09 + k)
  let x := p.drawSide
  let a14 := since p.now (140 ≤ flow) x.above14
  let a22 := since p.now (220 ≤ flow) x.above22
  let stop := flowStopped flow x.flows && !p.isSet sitePD Csr.THM_FLOW_STOPPED
  let p := p.modDraw fun x =>
    { x with flowAt := some p.now, flows := (flow :: x.flows).take 100, above14 := a14, above22 := a22
             cap25 := flow < 120 || (x.cap25 && !lasted p.now (msCycles 1000) a14)
             cap60 := flow < 200 || (x.cap60 && !lasted p.now (msCycles 1000) a22) }
  let p := p.showFlowCap
  if stop then p.coolantStop m else p

/-- The inlet temperature: outside 20 to 45 °C for 1 s it raises 0x0D0D (R481). -/
def Panel.inletSample (p : Panel) (inlet : Nat) : Panel :=
  let bad := inlet < 80 || 180 < inlet
  let t := since p.now bad p.drawSide.inletSince
  let due := lasted p.now (msCycles 1000) t && !p.drawSide.inletNoted
  let p := p.modDraw fun x => { x with inletSince := t, inletNoted := bad && (x.inletNoted || due) }
  p.raiseIf due siteTD 0x0D0D

/-! ### Temperatures and the forecast (R484–R490) -/

/-- The hottest valid reading of a block's sensors, in 0.25 °C, and their validity mask. -/
def hottest (l : List (Option Nat)) : Nat := (l.filterMap id).foldl max 0
def validMask (l : List (Option Nat)) : Nat := (l.zipIdx.map fun x => if x.1.isSome then 2 ^ x.2 else 0).sum


/-- Emergency throttle (R488): from EMERG on full stretch, until 1 ms at or below EMERG − 3 °C. -/
def Panel.emergencyThrottle (p : Panel) (s t : Nat) : Panel :=
  let e := 4 * p.acting sitePD Csr.THM_CFG_EMERG
  if e ≤ t then
    let p := p.modDraw fun x => { x with coolSince := SMap.set (fun _ => 0) x.coolSince s 0 }
    if p.isSet s Csr.THM_STATUS_EMERG then p
    else (((p.setFlag s Csr.THM_STATUS_EMERG true).setField s Csr.CLK_FORCED_STRETCH 8).raise s 0x0D03).stopBist s
  else if !p.isSet s Csr.THM_STATUS_EMERG then p
  else if t ≤ e - 12 then
    match SMap.get (fun _ => 0) p.drawSide.coolSince s with
    | 0 => p.modDraw fun x => { x with coolSince := SMap.set (fun _ => 0) x.coolSince s (p.now + 1) }
    | k + 1 =>
      if k + msCycles 1 ≤ p.now then
        let p := p.modDraw fun x => { x with coolSince := SMap.set (fun _ => 0) x.coolSince s 0 }
        (p.setFlag s Csr.THM_STATUS_EMERG false).setField s Csr.CLK_FORCED_STRETCH 0
      else p
  else p.modDraw fun x => { x with coolSince := SMap.set (fun _ => 0) x.coolSince s 0 }

/-- A die at HALT switches every domain off and is treated as lost, without an errata entry (R489). -/
def Panel.thermalHalt (p : Panel) (s : Nat) : Panel := (((p.raise s 0x0D05).darkenDie s).dieLost s 0)

/-- The die's sensors are read (R484, R488, R489): clusters, then the uncore or core. -/
def Panel.readSensors (p : Panel) (s : Nat) (sensors : List (List (Option Nat))) : Panel :=
  if !p.lives s then p
  else
    let p := p.each (sensors.zipIdx.take 5) fun p x =>
      (p.setField s (Csr.THM_CL_TEMP x.2) (hottest x.1)).setField s (Csr.THM_CL_VALID x.2) (validMask x.1)
    let all := sensors.flatMap id
    let t := if all.all Option.isNone then 420 else min 1023 (hottest all)
    let p := (p.setField s Csr.THM_TEMP_NOW t).emergencyThrottle s t
    if 4 * p.acting sitePD Csr.THM_CFG_HALT ≤ t then p.thermalHalt s else p

/-- The largest `x` with x ^ 5 ≤ `v`, from bit `n - 1` down. -/
def root5 (v : Nat) : Nat → Nat → Nat
  | 0, x => x
  | n + 1, x => root5 v n (if (x + 2 ^ n) ^ 5 ≤ v then x + 2 ^ n else x)

/-- (32 / F)^0.8 in units of 2^-40, for F in 0.1 L/min, not 0 (R485). -/
def flowFactor (flow : Nat) : Nat := root5 (320 ^ 4 * 2 ^ 200 / flow ^ 4) 50 0

/-- e^(5 / tau) in units of 2^-40, by its series: `n` more terms after the term `t`, which is the `k`-th. -/
def expSeries (tau : Nat) : Nat → Nat → Nat → Nat
  | 0, _, t => t
  | n + 1, k, t => t + expSeries tau n (k + 1) (t * 5 / (tau * (k + 1)))

/-- e^(−5 / tau) in units of 2^-40 (R485). -/
def decay (tau : Nat) : Nat := 2 ^ 80 / expSeries tau 60 0 (2 ^ 40)

/-- The power a forecast takes: scaled by B_r / M_r when a step is announced for the region's next tick (R485). -/
def Panel.forecastPower (p : Panel) (s : Nat) : Nat :=
  let w := p.diePower s
  match p.regionOf s with
  | none => w
  | some r =>
    let m := p.field sitePD (Csr.DRW_R_DRAW_M r)
    if (p.region r).step.isSome && m ≠ 0 then w * p.field sitePD (Csr.DRW_R_DRAW_B r) / m else w

/-- The forecast 5 ms ahead in 0.25 °C, in units of 2^-40 until it is rounded to the nearest (R485). T_c and T_ss are taken
exactly: a quarter degree is 250 mK, and a power of 10 mW times mK/W is 10^-2 mK. -/
def Panel.forecast (p : Panel) (s flow : Nat) : Nat :=
  let q : Int := 2 ^ 40
  let tin : Int := p.field sitePD Csr.THM_COOL_INLET
  let tout : Int := p.field sitePD Csr.THM_COOL_OUTLET
  let tc := tin * q + (p.field s Csr.THM_MODEL_POSF : Int) * (tout - tin) * q / 255
  let rise : Int := (p.field s Csr.THM_MODEL_THETA * flowFactor flow * p.forecastPower s / 25000 : Nat)
  let tss := tc + rise
  let now : Int := p.field s Csr.THM_TEMP_NOW
  let t := tss + (now * q - tss) * decay (p.acting s Csr.THM_MODEL_TAU) / q
  min 1023 ((t + q / 2) / q).toNat

/-- A forecast is made (R485, R486): a die that begins to forecast above PRED raises 0x0D01. -/
def Panel.makeForecast (p : Panel) (s : Nat) : Panel :=
  if !p.lives s then p
  else
    let flow := p.field sitePD Csr.THM_FLOW_FLOW
    let (t, p) := if flow = 0 then p.draw 485 10 else (p.forecast s flow, p)
    let above := 4 * p.acting sitePD Csr.THM_CFG_PRED < t
    let first := above && !p.isSet s Csr.THM_STATUS_PRED
    ((p.setField s Csr.THM_TEMP_FORECAST t).setFlag s Csr.THM_STATUS_PRED above).raiseIf first s 0x0D01

/-! ### Keep-warm (R478) -/

/-- The clusters of a die at keep-warm. -/
def Panel.warmClusters (p : Panel) (s : Nat) : List Nat :=
  if s < 400 then (List.range 4).filter fun c => p.field s (Csr.PWR_DOM_STATE c) = domWarm else []

/-- A die's warming duty moves one sixteenth toward TARGET; 0x0D0F after 1 s at the cap below 45 °C (R478). -/
def Panel.warmDuty (p : Panel) (s : Nat) : Panel :=
  if (p.warmClusters s).isEmpty then
    let p := p.modDraw fun x => { x with shortSince := SMap.set (fun _ => 0) x.shortSince s 0 }
    (p.setField s Csr.THM_STATUS_DUTY 0).setFlag s Csr.THM_STATUS_WARM_SHORT false
  else
    let cap := min 16 (p.field s Csr.THM_WARM_DUTY_MAX)
    let hot := (List.range 4).foldl (fun t c => max t (p.field s (Csr.THM_CL_TEMP c))) 0
    let target := 4 * p.acting s Csr.THM_WARM_TARGET
    let d := p.field s Csr.THM_STATUS_DUTY
    let d := min cap (if hot < target then d + 1 else if target + 12 < hot then d - 1 else d)
    let p := p.setField s Csr.THM_STATUS_DUTY d
    if d = cap && p.field s Csr.THM_TEMP_NOW < 180 then
      match SMap.get (fun _ => 0) p.drawSide.shortSince s with
      | 0 => p.modDraw fun x => { x with shortSince := SMap.set (fun _ => 0) x.shortSince s (p.now + 1) }
      | k + 1 =>
        if k + msCycles 1000 ≤ p.now && !p.isSet s Csr.THM_STATUS_WARM_SHORT then
          (p.setFlag s Csr.THM_STATUS_WARM_SHORT true).raise s 0x0D0F
        else p
    else
      (p.modDraw fun x => { x with shortSince := SMap.set (fun _ => 0) x.shortSince s 0 }).setFlag s
        Csr.THM_STATUS_WARM_SHORT false

/-- PD caps DUTY_MAX of the dies that keep clusters warm; how far is a free value (R478). -/
def Panel.capDuty (p : Panel) : Panel :=
  let sites := (List.range 400).filter fun s => !(p.warmClusters s).isEmpty
  if sites.isEmpty then p
  else
    let (v, p) := p.draw 478 16
    p.each sites fun p s => p.setField s Csr.THM_WARM_DUTY_MAX (v % 17)

/-! ### The commands -/

/-- DIE_POWER_REPORT (R471): a die's mean power over 1 ms, in 10 mW. -/
def execDiePowerReport (site power : Nat) (s : State) : Host.Outcome State Fault Refusal :=
  .next (s.quiet fun p => (p.setField site Csr.DRW_DIE_POWER power).showDraw)

/-- DRAW_TRIM_UPDATE (R474, R477; R478 and R481 have their 1 ms at PD here too). -/
def execDrawTrimUpdate (s : State) : Host.Outcome State Fault Refusal :=
  .next (s.quiet fun p =>
    let p := match p.drawSide.flowAt with
      | some t => if t + msCycles 10 < p.now then p.flowInvalid else p
      | none => p
    let p := p.scaleDraw
    let p := p.each (allRegions.filter fun r => p.running r && p.isSet sitePD (Csr.STK_R_CTRL_ENABLE r)) fun p r => p.trimRegion r
    p.capDuty)

/-- WARM_DUTY_UPDATE (R478). -/
def execWarmDutyUpdate (site : Nat) (s : State) : Host.Outcome State Fault Refusal :=
  .next (s.quiet fun p => p.warmDuty site)

/-- The voltage in mV of a conversion that completed in range (R554). -/
def clt (v : Option Nat) : Option Nat := v.filter fun mv => 100 ≤ mv && mv ≤ 1300

/-- A temperature in 0.25 °C from 0.2 V + 10 mV/°C, and a flow in 0.1 L/min from 0.2 V + 20 mV per L/min (R554), rounded down
(notes/assumptions/148.md). -/
def cltTemp (mv : Nat) : Nat := (mv - 200) * 2 / 5
def cltFlow (mv : Nat) : Nat := (mv - 200) / 2

/-- TD shows a temperature that it read; without a valid reading the last one stays. -/
def Panel.showTemp (p : Panel) (f : Fld) (v : Option Nat) : Panel :=
  match clt v with
  | some mv => p.setCool f (cltTemp mv)
  | none => p

/-- What the flow's conversion does (R481, R554): out of range it is invalid at once; one that did not complete leaves the last one to
age. -/
def Panel.flowReading (p : Panel) (m : Mem) (v : Option Nat) : Panel :=
  match clt v with
  | some mv => p.flowSample m (cltFlow mv)
  | none => if v.isSome then p.flowInvalid else p

/-- TD takes the three coolant conversions of a millisecond, and broadcasts its readings (R481, R554). -/
def Panel.coolant (p : Panel) (m : Mem) (tin tout flow : Option Nat) : Panel :=
  let p := (p.showTemp Csr.THM_COOL_INLET tin).showTemp Csr.THM_COOL_OUTLET tout
  let f (x : Fld) : Nat := p.field siteTD x
  let p := p.sendControl siteTD 0xFFFF (.coolant (f Csr.THM_COOL_INLET) (f Csr.THM_COOL_OUTLET)
    (match clt flow with | some mv => cltFlow mv | none => 1024))
  (p.inletSample (p.field siteTD Csr.THM_COOL_INLET)).flowReading m flow

/-- COOLANT_SAMPLE (R481, R554): the voltages of CLT_TIN, CLT_TOUT and CLT_FLOW in mV; `none` where the conversion did not
complete. -/
def execCoolantSample (tin tout flow : Option Nat) (s : State) : Host.Outcome State Fault Refusal :=
  .next (s.store fun m p => if p.tackDie then p.coolant m tin tout flow else p)

/-- THERMAL_FORECAST (R485). -/
def execThermalForecast (site : Nat) (s : State) : Host.Outcome State Fault Refusal :=
  .next (s.quiet fun p => p.makeForecast site)

/-- THERMAL_SUSTAIN_EXPIRED (R487): W_therm has stayed above 0 for THM_SUSTAIN. -/
def execThermalSustainExpired (region : Nat) (s : State) : Host.Outcome State Fault Refusal :=
  .next (s.quiet fun p =>
    if p.field sitePD (Csr.DRW_R_THERM region) = 0 then p
    else (p.setField sitePD (Csr.DRW_R_STATE_C region) (max 4 (p.field sitePD (Csr.DRW_R_STATE_C region) - 5))).raiseRegion
      region 0x0D02)

/-- THERMAL_CAP_RISE (R487): a second in which W_therm is 0 and no die forecasts above PRED − 5 °C. -/
def execThermalCapRise (region : Nat) (s : State) : Host.Outcome State Fault Refusal :=
  .next (s.quiet fun p =>
    let cool := (p.region region).sites.all fun s =>
      p.field s Csr.THM_TEMP_FORECAST ≤ 4 * p.acting sitePD Csr.THM_CFG_PRED - 20
    if p.field sitePD (Csr.DRW_R_THERM region) = 0 && cool then
      p.setField sitePD (Csr.DRW_R_STATE_C region) (min 100 (p.field sitePD (Csr.DRW_R_STATE_C region) + 1))
    else p)

/-- SENSOR_READ (R484): the readings in 0.25 °C of each cluster's four sensors and of the uncore's two, `none` an invalid
one. -/
def execSensorRead (site : Nat) (sensors : List (List (Option Nat))) (s : State) : Host.Outcome State Fault Refusal :=
  .next (s.store fun _ p => p.readSensors site sensors)

/-- HOT_TRIP (R490): a die at 115 °C pulls HOT_TRIP_N, and TD records it. -/
def execHotTrip (_site : Nat) (s : State) : Host.Outcome State Fault Refusal :=
  .next (s.quiet fun p =>
    let p := p.modBoot fun b => { b with hotTrip := true }
    p.raiseIf p.tackDie siteTD 0x0D06)

end Sys2Proof.Machine
end

