-- ==== Sys2Proof/Machine/Strokes.lean ====
section
/-! DEFINITION. Strokes, ticks, slurs and sheets (spec/04): the tick message, what a tick does on a die and at the acting
primary die, the end of a stroke, marks that settle there (R424–R427, R437), commits (R99–R102) and imposition switches
(R408, R409). -/

namespace Sys2Proof.Machine

/-! ### Sheets (R87) -/

/-- The sheet length H of a region. -/
def Panel.sheetLen (p : Panel) (r : Nat) : Nat := p.acting sitePD (Csr.STK_R_SHEET_LEN r)

/-- A stroke ends its sheet. -/
def Panel.endsSheet (p : Panel) (r k : Nat) : Bool := (k + 1) % p.sheetLen r = 0

/-- The current stroke of a region, as STK_R_STROKE names it. -/
def Panel.strokeOf (p : Panel) (r : Nat) : Nat := p.field sitePD (Csr.STK_R_STROKE r)

/-- A die runs a line image. -/
def Panel.placedDie (p : Panel) (s : Nat) : Bool := p.field s Csr.STK_SEQ_PAGES ≠ 0

/-! ### Counts that a die latches at its tick -/

/-- The counts of a compute die that a tick latches. -/
def tickCounts : List Fld :=
  ((List.range 4).flatMap fun c =>
    [Csr.DEN_C_ROWS c, Csr.DEN_C_CHECKS c, Csr.DEN_C_MISMATCH c, Csr.DEN_C_BOUND_FAIL c, Csr.DEN_C_FOXED c, Csr.DEN_C_SAT c,
     Csr.DEN_C_NONFINITE c, Csr.SPA_C_ROWS c, Csr.SPA_C_CHECKS c, Csr.SPA_C_MISMATCH c, Csr.SPA_C_BOUND_FAIL c,
     Csr.SPA_C_FOXED c, Csr.SPA_C_NONFIN_SAT_SAT c, Csr.SPA_C_NONFIN_SAT_NONFIN c, Csr.SPA_C_META_FAIL c, Csr.SPA_C_PRUNED c,
     Csr.SPR_C_BANK_HOLD c, Csr.SPR_C_SB_HOLD c, Csr.SPR_C_SB_FULL c, Csr.SPR_C_PAR c, Csr.SPR_C_NAN_SQUASH c,
     Csr.SPR_C_REJECT c, Csr.SPR_C_LANDED c])
  ++ ((List.range 16).flatMap fun i => [Csr.GAL_G_FULL i, Csr.GAL_G_QWAIT_QWAIT i, Csr.GAL_G_QWAIT_FOXED i])
  ++ [Csr.JUS_GATE_LAST_SERVED, Csr.JUS_GATE_LAST_CARRIED, Csr.JUS_GATE_LAST_RESIDUAL, Csr.JUS_GATE_LAST_FOXED,
      Csr.JUS_JUST_LAST_WRITTEN, Csr.JUS_JUST_LAST_DROPPED, Csr.JUS_MERGE_LAST, Csr.DRW_TOK_LAST_HELD,
      Csr.DRW_TOK_LAST_HOLDS, Csr.DRW_TOK_USED]

/-- The counts of any die's router and bundles that a tick latches. -/
def linkCounts (s : Nat) : List Fld :=
  [Csr.FAB_MESH_LAST_SENT, Csr.FAB_MESH_LAST_READ, Csr.FAB_DROP_LAST_DOWN, Csr.FAB_DROP_LAST_NOROUTE]
  ++ (List.range 6).map Csr.FAB_REIN_LAST
  ++ (List.range (16 * faceCount s)).flatMap fun b => [Csr.AZL_BERR_CRC b, Csr.AZL_BERR_REPLAY b]

/-- Each monitor's stroke minimum is judged against WARN and SUSPECT (R57), and the minima start anew. -/
def Panel.judgeMargins (p : Panel) (s : Nat) : Panel :=
  let p := p.each (p.clock s).minMargin fun p x =>
    let p := if x.2 < p.field s Csr.CLK_MARGIN_CFG_WARN then p.raiseAt s x.1 0x0309 else p
    if x.2 < p.field s Csr.CLK_MARGIN_CFG_SUSPECT then p.raiseAt s x.1 0x030A else p
  p.modClock s fun k => { k with minMargin := [] }

/-- The die's slips, forced slips, holds and waits of the stroke are latched (R61, R83, R134). -/
def Panel.latchClock (p : Panel) (s : Nat) : Panel :=
  let k := p.clock s
  let q := p.seq s
  let p := p.setField s Csr.CLK_SLIP_LAST (min 0xFFFFFFFF k.slips)
  let p := p.setField s Csr.CLK_SLIP_TIME_LAST (min 0xFFFFFFFF k.slipTime)
  let p := p.setField s Csr.CLK_FORCED_COUNT (min 0xFFFFFF k.forced)
  let p := p.setField s Csr.CLK_HOLD_LAST_HOLDS (min 0xFFFF k.holds)
  let p := p.setField s Csr.CLK_HOLD_LAST_CYCLES (min 0xFFFFFFFF k.holdCycles)
  let p := p.setField s Csr.STK_SEQ_WAIT_LAST_STALLS (min 0xFFFF q.waits)
  let p := p.setField s Csr.STK_SEQ_WAIT_LAST_CYCLES (min 0xFFFFFFFF q.waitCycles)
  let p := p.modSeq s fun q => { q with waits := 0, waitCycles := 0, thisWait := 0, overdrawn := false }
  p.modClock s fun k => { k with slips := 0, slipTime := 0, forced := 0, holds := 0, holdCycles := 0, stretched := [], lastSlip := none }

/-- ERR_MARK_LAST of a die for its finished stroke. -/
def Panel.latchMarks (p : Panel) (s : Nat) : Panel :=
  let k := p.field s Csr.STK_STROKE
  let c := SMap.get (fun _ => (0, 0)) p.contain.strokeCounts s
  let n (f : Mark → Bool) : Nat := min 255 ((p.contain.marks.filter fun m => m.site = s && m.stroke = k && f m).length)
  let p := p.setField s Csr.ERR_MARK_LAST_CONFIRMED (min 255 c.1)
  let p := p.setField s Csr.ERR_MARK_LAST_CORRECTED (min 255 c.2)
  let p := p.setField s Csr.ERR_MARK_LAST_LEFT_OPEN (n fun m => m.kind ≠ .fox)
  let p := p.setField s Csr.ERR_MARK_LAST_FOX (n fun m => m.kind = .fox)
  p.modContain fun c => { c with strokeCounts := SMap.set (fun _ => (0, 0)) c.strokeCounts s (0, 0) }

/-- The suspect entries of both engines go to the die's suspect report and are cleared (R189, R210). -/
def Panel.reportSuspects (p : Panel) (s : Nat) : Panel :=
  let words (f : Nat → Fld) (n : Nat) : List Nat := (List.range n).map fun i => p.words s (f i).off 4
  let report := words Csr.DEN_SUSPECT (p.field s Csr.DEN_SUSPECT_COUNT) ++ words Csr.SPA_SUSPECT (p.field s Csr.SPA_SUSPECT_COUNT)
  let p := { p with suspectReport := SMap.set (fun _ => []) p.suspectReport s report }
  let p := p.each (List.range (p.field s Csr.DEN_SUSPECT_COUNT)) fun p i => p.setWords s (Csr.DEN_SUSPECT i).off 0 4
  let p := p.each (List.range (p.field s Csr.SPA_SUSPECT_COUNT)) fun p i => p.setWords s (Csr.SPA_SUSPECT i).off 0 4
  (p.setField s Csr.DEN_SUSPECT_COUNT 0).setField s Csr.SPA_SUSPECT_COUNT 0

/-- The pass logs of a die empty, and its rows were initialised in no stroke that runs (R428, R429). -/
def Panel.emptyLogs (p : Panel) (s : Nat) : Panel :=
  let p := p.modContain fun c => { c with logs := c.logs.filter fun x => x.1 / 16 ≠ s,
                                          badRows := c.badRows.filter fun b => b.1 / 4 ≠ s }
  let p := p.clearWords s (Csr.ERR_PASSLOG_WORD 0 0).off ((Csr.ERR_PASSLOG_WORD 15 31).off + 0x20)
  let p := p.setField s Csr.ERR_STATUS_LOG_OVF 0
  p.each (List.range 8) fun p i => p.modEngine s (i / 2) (i % 2) fun g =>
    { g with rows := (g.rows.map fun x => (x.1, { x.2 with fresh := false })).filter fun x => x.2 ≠ {} }

/-! ### Marks that settle at the end of a stroke (R424, R425) -/

/-- At the end of a die's stroke its check marks settle unless an entry mark is open, and so does the fox mark of a failed SE
bank whose foxed rows have all been replaced. -/
def Panel.settleStroke (p : Panel) (s r k : Nat) : Panel :=
  let open_ := p.contain.marks.any fun m => m.kind = .entry && m.site = s && m.stroke = k
  let p := if open_ then p else p.dropMarks r fun m => m.kind = .check && m.site = s && m.stroke = k
  p.dropMarks r fun m => m.kind = .fox && m.site = s && m.stroke = k && (match m.load with
    | some cyc => !(p.contain.badRows.any fun b => b.1 = s * 4 + m.cluster && b.2.1 = cyc)
    | none => false)

/-! ### A die's stroke (R88, R92, R123) -/

/-- The tick that ends a die's stroke, before the next one begins: margins judged, marks settled, counts latched. -/
def Panel.closeDie (p : Panel) (s r : Nat) : Panel :=
  let k := p.field s Csr.STK_STROKE
  let p := (p.judgeMargins s).settleStroke s r k
  let p := ((p.latchMarks s).latchClock s).reportSuspects s
  let p := p.each (tickCounts ++ linkCounts s) fun p f => p.latch s f
  (p.emptyLogs s).setField s Csr.STK_SEQ_POS_CYCLE 0

/-- What takes effect on a die at its tick (R62, R413, R454, R455, R463). -/
def Panel.tickValues (p : Panel) (s : Nat) : Panel :=
  let p := p.modClock s fun k => { k with period := p.field s Csr.CLK_PERIOD }
  (p.powerTick s).showAllowance s

/-- The sequencer enters the stroke (R121, R123): entry 0 at the first stroke of a sheet, else where ENDS sent it. -/
def Panel.enterStroke (p : Panel) (s : Nat) (first : Bool) : Panel :=
  let q := p.seq s
  let e := if first then 0 else q.nextEntry
  let go (half pos : Nat) (p : Panel) : Panel := (p.goTo s half pos).setFlag s Csr.STK_SEQ_STATUS_ISSUING true
  match (if first then none else q.nextPos) with
  | some (pos, half) => go half pos p
  | none =>
    let half := p.field s (Csr.STK_SEQ_ENTRY_HALF e)
    let code := if p.isSet s (Csr.STK_SEQ_ENTRY_VALID e) then p.enterCode s half (some (p.field s (Csr.STK_SEQ_ENTRY_PAGE e)))
      else some 0x0222
    match code with
    | some c => (p.setField s Csr.STK_SEQ_POS_HALF half).seqFault s c
    | none => go half (p.field s (Csr.STK_SEQ_ENTRY_OFFSET e)) p

/-- Stroke `k` begins on a die, with line 0 next (R92, R114). A die without an image has no work in it, and reports its end at the
tick that begins the stroke (R89). -/
def Panel.beginStroke (p : Panel) (s r k stamp : Nat) : Panel :=
  let p := (p.setField s Csr.STK_STROKE k).modClock s fun c => { c with strokeTick := stamp }
  let work := p.placedDie s
  let p := (p.setFlag s Csr.STK_STATUS_IN_STROKE work).setFlag s Csr.STK_STATUS_ENDED (!work)
  let p := if work then p else
    (p.setField s Csr.STK_END_LAST 0).modClock s fun c => { c with strokeEnd := stamp, endDue := true }
  let p := (p.setFlag s Csr.STK_STATUS_SLURRING false).setFlag s Csr.STK_STATUS_SHEET_END (p.endsSheet r k)
  let first := k % p.sheetLen r = 0
  let p := p.modSeq s fun q =>
    { q with firstOfSheet := first, ended := false, loops := [], bodyHasLine := false, markerRun := false, quadLeft := 0,
             stalled := none, stalledRecord := false, holdCause := 0, holdBy := [] }
  let p := p.each (List.range 4) fun p c => p.modMover s c fun v => { v with draws := 0 }
  let p := p.setField s Csr.STK_SEQ_POS_CYCLE 0
  if work then p.enterStroke s first else p.setFlag s Csr.STK_SEQ_STATUS_ISSUING false

/-- A region's ticks have stopped, or the tick at hand stops it: no stroke begins. -/
def Panel.noNextStroke (p : Panel) (r : Nat) : Bool :=
  (p.region r).stopTick || !p.isSet sitePD (Csr.STK_R_CTRL_ENABLE r) || p.boot.halted

/-- The tick that follows a stroke that a die has ended (R92); `spare` is tick minus end. -/
def Panel.nextStroke (p : Panel) (s r stamp spare : Nat) : Panel :=
  let p := p.setField s Csr.STK_GUTTER_MIN (min (p.field s Csr.STK_GUTTER_MIN) spare)
  let p := (p.closeDie s r).tickValues s
  if p.noNextStroke r then p.setFlag s Csr.STK_STATUS_SLURRING false
  else p.beginStroke s r (p.field s Csr.STK_STROKE + 1) stamp

/-- A tick takes effect on a die of a region (R92, R96). A die that has not ended its stroke slurs, and the tick stays due. -/
def Panel.dieTick (p : Panel) (s r stamp : Nat) (peaks : List Nat) : Panel :=
  let drop (p : Panel) : Panel := p.modClock s fun k => { k with ticks := k.ticks.filter fun x => !(x.1 = stamp && bitOf x.2 r) }
  if 400 ≤ s then
    let p := (drop p).modMemDie s fun d => { d with slotsFull := false }
    p.each (linkCounts s) fun p f => p.latch s f
  else if p.regionOf s ≠ some r then drop p
  else if p.isSet s Csr.STK_STATUS_SLURRING then p
  else
    let p := p.regulatorPeaks s peaks
    if p.isSet s Csr.STK_STATUS_IN_STROKE then
      let p := (p.setFlag s Csr.STK_STATUS_SLURRING true).count s Csr.STK_SLUR_COUNT 1
      p.setField s Csr.STK_GUTTER_MIN 0
    else if p.isSet s Csr.STK_STATUS_ENDED then (drop p).nextStroke s r stamp (stamp - (p.clock s).strokeEnd)
    else
      let p := ((drop p).closeDie s r).tickValues s
      if p.noNextStroke r then p else p.beginStroke s r (p.field s Csr.STK_STROKE) stamp

/-- A die has ended its stroke (R88): the last line has issued and everything it began is visible, galley reads among it (R267); in
a sheet-ending stroke every galley write has completed. -/
def Panel.strokeDone (p : Panel) (s : Nat) : Bool :=
  let q := p.seq s
  !p.placedDie s ||
    (q.ended && q.stalled.isNone && q.quadLeft = 0 && q.launched.isEmpty
      && (List.range 8).all (fun i => (p.engine s (i / 2) (i % 2)).ops.isEmpty)
      && (List.range 4).all (fun c => (p.mover s c).ops.isEmpty && (p.mover s c).outbound.isEmpty)
      && (p.slot12Ops s).isEmpty && (p.runningOps s).all (fun o => o.done = o.count)
      && !(p.contain.reprints.any fun r => r.site = s)
      && (List.range 4).all (fun u => (p.galley s u).all fun x => x.write || x.dropped)
      && (!p.isSet s Csr.STK_STATUS_SHEET_END || (List.range 4).all fun u => (p.galley s u).all fun x => !x.write))

/-- Rows of mesh reads that are still landing have become visible by the end of the stroke (R88, R295). -/
def Panel.meshFinish (p : Panel) (s : Nat) : Panel :=
  let p := p.each (p.runningOps s) fun p o =>
    (p.each o.landing fun p x => p.landRows s o.cluster x.2.1 [x.2.2]).retire s o.id
  p.setRunning s []

/-- The end of a die's stroke (R88, R89): with its tick already past, the die begins the next one at once (R92). -/
def Panel.endStroke (p : Panel) (s : Nat) : Panel :=
  match p.regionOf s with
  | none => p
  | some r =>
    if !p.isSet s Csr.STK_STATUS_IN_STROKE || !p.strokeDone s then p
    else
      let p := p.meshFinish s
      let t := (p.dieTime s).toNat
      let p := p.setField s Csr.STK_END_LAST (min 0xFFFFFFFF (t - (p.clock s).strokeTick))
      let p := p.modClock s fun k => { k with strokeEnd := t, endDue := true }
      let p := (p.setFlag s Csr.STK_STATUS_IN_STROKE false).setFlag s Csr.STK_STATUS_ENDED true
      let p := p.setFlag s Csr.STK_SEQ_STATUS_ISSUING false
      if !p.isSet s Csr.STK_STATUS_SLURRING then p
      else
        match (p.clock s).ticks.find? fun x => bitOf x.2 r with
        | some x => (p.modClock s fun k => { k with ticks := k.ticks.filter (· ≠ x) }).nextStroke s r x.1 0
        | none => p.setFlag s Csr.STK_STATUS_SLURRING false

/-! ### At the acting primary die: scores (R426, R427) -/

/-- The window of a die's scores begins anew after WINDOW strokes. -/
def Panel.scoreWindow (p : Panel) (s k : Nat) : Panel :=
  let at_ := SMap.get (fun _ => 0) p.contain.windowAt s
  if k < at_ + p.field sitePD Csr.ERR_LA_CFG_WINDOW then p
  else p.modContain fun c =>
    { c with windowAt := SMap.set (fun _ => 0) c.windowAt s k, syncScore := SMap.set (fun _ => 0) c.syncScore s 0,
             marginScore := SMap.set (fun _ => 0) c.marginScore s 0,
             reported := c.reported.filter fun n => n / 2 ≠ s }

/-- A tick adds to a die's scores; each code once per window. -/
def Panel.scoreDie (p : Panel) (s k : Nat) : Panel :=
  let p := p.scoreWindow s k
  let la := SMap.get (fun _ => 0) p.contain.syncScore s + p.field s Csr.STK_SEQ_LAST_ARR
  let ml := SMap.get (fun _ => 0) p.contain.marginScore s + flag (p.contain.symptom.contains s)
  let p := p.setField s Csr.STK_SEQ_LAST_ARR 0
  let p := p.modContain fun c =>
    { c with syncScore := SMap.set (fun _ => 0) c.syncScore s la, marginScore := SMap.set (fun _ => 0) c.marginScore s ml,
             symptom := c.symptom.filter (· ≠ s) }
  let note (p : Panel) (n code : Nat) (f : Fld) : Panel :=
    ((p.modContain fun c => { c with reported := c.reported ++ [n] }).setFlag sitePD f true).raiseFor p.primary code .notice
      (p.regionOf s) 0 s
  let p := if p.field sitePD Csr.ERR_LA_CFG_LA_LIMIT ≤ la && la ≠ 0 && !p.contain.reported.contains (2 * s) then
      note p (2 * s) 0x1218 (Csr.ERR_SUSPECT_SYNC s) else p
  if p.field sitePD Csr.ERR_ML_CFG_ML_LIMIT ≤ ml && ml ≠ 0 && !p.contain.reported.contains (2 * s + 1) then
    note p (2 * s + 1) 0x1219 (Csr.ERR_SUSPECT_MARGIN s) else p

/-! ### At the acting primary die: ticks and slurs (R90–R98) -/

/-- A panel time raised to the grid of an aligned region (R91). -/
def Panel.onGrid (p : Panel) (r t : Nat) : Nat :=
  if p.isSet sitePD (Csr.STK_R_CTRL_ALIGN r) then ceilDiv t (p.periodOf r) * p.periodOf r else t

/-- Stroke lock stamps the ticks of a region (R72). -/
def Panel.strokeLocked (p : Panel) (r : Nat) : Bool :=
  p.isSet siteTD Csr.CLK_TIME_CTRL_TIN_LOCK && p.field siteTD Csr.CLK_TIME_CTRL_LOCK_REGION = r && !p.servo.fallback

/-- The stamp of a region's next tick (R91): B_k + P_eff + E, on the grid; 0x0206 when a slur or an extension moves it to a
later grid point. A first tick, and one that a TIME_IN edge has stamped (R72), stay as they are. -/
def Panel.stampTick (p : Panel) (r : Nat) : Panel :=
  let g := p.region r
  if g.first || (p.strokeLocked r && g.tickAt < p.field sitePD (Csr.STK_R_NEXT_TICK r)) then p
  else
    let n := p.effPeriod r
    let t := p.onGrid r (g.begun + n + g.extension)
    let p := (p.setField sitePD (Csr.STK_R_NEXT_TICK r) t).modServo fun v =>
      if p.strokeLocked r then { v with missed := v.missed + 1 } else v
    if p.isSet sitePD (Csr.STK_R_CTRL_ALIGN r) && p.onGrid r (g.tickAt + n) < t then p.raiseRegion r 0x0206 else p

/-- The tick of a region that PD sends next stops it: for a lock-up (R401) or a draw mode (R479). -/
def Panel.stopsNext (p : Panel) (r : Nat) : Bool :=
  let g := p.region r
  let ends := !g.first && p.endsSheet r (p.strokeOf r)
  (g.stopAtTick && (!p.isSet sitePD Csr.FRM_CTRL_AT_SHEET || ends)) || (g.warmSince.isSome && ends)

/-- PD may send a region's next tick message: the region is ticked, its current stroke's start is fixed (R91), and a commit
that is due has been made. A tick that stroke lock deferred waits for its edge (R72). -/
def Panel.mayTick (p : Panel) (r : Nat) : Bool :=
  let g := p.region r
  p.isSet sitePD (Csr.STK_R_CTRL_ENABLE r) && !p.boot.halted && !g.tickSent && !g.slurOpen && g.commitDue.isNone
    && g.abortAt.isNone && !(p.strokeLocked r && p.servo.edgeReady)

/-- E of a stroke that begins with a delay D (R94): D beyond the stroke's gutter. -/
def Panel.extensionFor (p : Panel) (r d : Nat) : Nat :=
  if 64 * p.effPeriod r < 64 * d + p.field sitePD (Csr.STK_R_SCHED_LEN r) * (p.region r).period then d else 0

/-- The planned extension of the current stroke, with its length in STK_R_EXT_LAST in µs (R94). -/
def Panel.setExtension (p : Panel) (r d : Nat) : Panel :=
  let e := p.extensionFor r d
  let p := p.modRegion r fun g => { g with extension := e }
  if e = 0 then p else p.setField sitePD (Csr.STK_R_EXT_LAST r) (min 0xFFFF (ceilDiv e 1250))

/-- Every die of a region has ended stroke `k` (R424, R425, R437): marks settle, an open fox mark aborts the region, and a
sheet-ending stroke makes a commit due. -/
def Panel.closeStroke (p : Panel) (r k : Nat) (slurred : Bool) : Panel :=
  let p := p.each ((p.region r).sites.filter fun s => p.field s Csr.STK_STROKE = k) fun p s => p.settleStroke s r k
  if p.contain.marks.any fun m => m.kind = .fox && m.region = r && m.stroke ≤ k then p.raiseAbort r 0x1210
  else if p.endsSheet r k then
    p.modRegion r fun g => { g with commitDue := some (k / p.sheetLen r), commitOk := !slurred }
  else p

/-- The tick of a region at the acting primary die (R87, R90, R92, R96, R401). -/
def Panel.primaryTick (p : Panel) (r : Nat) : Panel :=
  let g := p.region r
  if p.boot.halted || !g.tickSent || !p.isSet sitePD (Csr.STK_R_CTRL_ENABLE r) then p
  else
    let t := p.field sitePD (Csr.STK_R_NEXT_TICK r)
    let k := p.strokeOf r
    let p := if p.field siteTD Csr.CLK_TIME_CTRL_TOUT_MODE = 2 && p.field siteTD Csr.CLK_TIME_CTRL_TOUT_REGION = r then
        p.modServo fun v => { v with timeOut := some (t, usCycles 1) } else p
    let p := p.each g.sites fun p s => p.scoreDie s k
    if g.stopTick && g.stopAtTick && !p.isSet sitePD Csr.FRM_CTRL_AT_SHEET then p.stopForLockUp r
    else
      let owed := if g.first then [] else g.sites.filter fun s => !(g.ended.any fun x => x.1 = s)
      let p := if g.first || g.stopTick then p else p.setField sitePD (Csr.STK_R_STROKE r) (k + 1)
      let d := g.step.getD 0
      let period := match g.sites with
        | s :: _ => p.field s Csr.CLK_PERIOD
        | [] => 64
      let w := min (p.periodOf r) (p.field sitePD (Csr.STK_R_DRAW_STRETCH r))
      let p := p.modRegion r fun g =>
        { g with tickAt := t, begun := t, ended := [], lateEnds := owed, slurOpen := !owed.isEmpty, tickSent := false,
                 first := false, step := none, stepNow := d, period := period, stretch := w }
      let p := p.setExtension r d
      if g.first then p
      else if owed.isEmpty then (p.modRegion r fun g => { g with slurRun := 0 }).closeStroke r k false
      else p

/-- Every die that owed its report at the tick has ended the stroke (R91, R96, R98): B is fixed, a slur is counted, and the stroke
closes. When each of them had ended by the tick, and only its report was on its way, the region has not slurred. -/
def Panel.slurOver (p : Panel) (r : Nat) : Panel :=
  let g := p.region r
  let k := p.strokeOf r - (if g.stopTick then 0 else 1)
  if g.begun ≤ g.tickAt then (p.modRegion r fun g => { g with slurOpen := false, slurRun := 0 }).closeStroke r k false
  else
  let n := g.slurRun + 1
  let alarm := p.field sitePD (Csr.STK_R_CTRL_SLUR_ALARM r)
  let p := p.modRegion r fun g => { g with slurOpen := false, slurRun := n }
  let p := p.count sitePD (Csr.STK_R_SLURS r) 1
  let p := (p.setField sitePD (Csr.STK_R_SLUR_LAST r) (min 0xFFFFFFFF (g.begun - g.tickAt))).raiseRegion r 0x0201
  let p := if alarm ≠ 0 && alarm < n && (n - 1) % alarm = 0 then p.raiseRegion r 0x0203 else p
  p.closeStroke r k true

/-- PD receives a die's end report (R89). -/
def Panel.endReport (p : Panel) (s : Nat) : Panel :=
  match p.regionOf s with
  | none => p
  | some r =>
    let c := p.clock s
    if !c.endDue then p
    else
      let p := p.modClock s fun k => { k with endDue := false }
      let g := p.region r
      if !g.lateEnds.contains s then
        p.modRegion r fun g => { g with ended := SMap.insert g.ended s c.strokeEnd }
      else
        let p := p.modRegion r fun g =>
          { g with lateEnds := g.lateEnds.filter (· ≠ s), begun := max g.begun c.strokeEnd }
        if (p.region r).lateEnds.isEmpty then p.slurOver r else p

/-! ### Commits (R99–R101, R287) -/

/-- The 64 bytes of a commit record (R100). -/
def Panel.recordBytes (p : Panel) (w : SheetWait) (flags : Nat) : List Byte :=
  let body := [0x4B, 0x59, 0x53, 0x43] ++ leBytes 1 w.region ++ leBytes 1 w.imposition ++ leBytes 2 flags ++ leBytes 4 w.sheet
    ++ leBytes 4 (p.field sitePD (Csr.FRM_R_SEQ w.region)) ++ leBytes 8 w.stroke ++ leBytes 8 w.tick
    ++ leBytes 4 (p.field sitePD Csr.BST_FP_SEQ) ++ List.replicate 24 0
  body ++ leBytes 4 (crc32c body)

/-- The slot of a region's commit pair that is overwritten: the one that does not hold the newer valid record (R100). -/
def Panel.recordSlot (p : Panel) (m : Mem) (r : Nat) : Nat :=
  let b := p.field sitePD (Csr.STK_R_COMMIT_ADDR r)
  match newerRecord (p.records m r) with
  | some (a, _) => if a = b then b + 64 else b
  | none => b

/-- A send shard is unmirrored (R286). -/
def Panel.unmirrored (p : Panel) (h : Shard) : Bool := bitOf (p.field sitePD Csr.GAL_SO_UNMIRRORED) h.shard

/-- The commit record is written, and the sheet is committed (R99, R100, R441). It is copied as any write is (R285). -/
def Panel.writeRecord (p : Panel) (m : Mem) (w : SheetWait) (acked : Bool) : Panel :=
  let r := w.region
  let flags := flag acked + 2 * flag ((p.sendShards r).any p.unmirrored)
  let p := (p.acceptRows (p.recordSlot (p.memory m) r) [⟨p.recordBytes w flags, false⟩] none).1
  let p := p.setField sitePD (Csr.STK_R_SHEET r) w.sheet
  let p := (p.setField sitePD (Csr.ERR_R_STATE_ABORTS r) 0).setField sitePD (Csr.ERR_R_STATE_SKIPPED r) 0
  let p := p.setFlag sitePD (Csr.FRM_R_STATE_INITIAL r) false
  let p := if (p.region r).abortAt.isNone then p.modRegion r fun g => { g with lostSite := none } else p
  let sites := (p.region r).sites
  p.modContain fun c => { c with sheetCorrections := c.sheetCorrections.filter fun x => !sites.contains x.1 }

/-- PD sends the sheet marker to every usable memory die, and the record waits for the mirrored shards (R287). -/
def Panel.askPartners (p : Panel) (m : Mem) (w : SheetWait) : Panel :=
  let p := p.each (memDieSites.filter p.memGood) fun p md => p.send (.setmark md w.region w.sheet)
  let mine := (p.sendShards w.region).map (·.shard)
  let marked := p.fabric.resync.map fun (x : Nat × Option Nat) =>
    if mine.contains x.1 && x.2.isNone then (x.1, some w.sheet) else x
  let p := { p with fabric := { p.fabric with resync := marked } }
  let ctxs := distinct (((p.sendShards w.region).filter fun h => !p.unmirrored h).map (·.ctx))
  if ctxs.isEmpty then p.writeRecord m w true
  else { p with fabric := { p.fabric with waits := p.fabric.waits ++ [{ w with ctxs := ctxs }] } }

/-- A switch that is due is deferred to a later commit (R102, R408). -/
def Panel.deferSwitch (p : Panel) (r : Nat) : Panel :=
  if (p.region r).impRequest.isSome then p.raiseRegion r 0x0121 else p

/-- A region that was to stop at this commit runs on, because the sheet was not committed. -/
def Panel.runOn (p : Panel) (r : Nat) : Panel :=
  if (p.region r).stopTick then p.stampFirst r (p.strokeOf r + 1) else p

/-- The switch of R409 at a commit tick: the gap runs with a step as the longer D (R94); how long PD's gap is, is a free value
of 1 to 150 µs. Every die of the region then begins its stroke anew, at entry 0. -/
def Panel.switchTo (p : Panel) (m : Mem) (r imp : Nat) : Panel :=
  let d := (p.region r).forme
  let (v, p) := p.draw 409 16
  let us := v % 150 + 1
  let p := p.reload m r imp false false
  let p := (p.setField sitePD (Csr.FRM_R_IMP_CURRENT r) imp).setFlag sitePD (Csr.FRM_R_IMP_PENDING r) false
  let p := (p.modRegion r fun g => { g with impRequest := none }).setField sitePD (Csr.FRM_R_GAP r) us
  let gap := max (p.region r).stepNow (usCycles us)
  let p := (p.setField sitePD (Csr.STK_R_STEP r) gap).setExtension r gap
  let p := p.wantClusters d imp false
  let k := p.strokeOf r
  p.each d.rec_.sites fun p s =>
    if p.field s Csr.STK_STROKE = k then p.beginStroke s r k (p.region r).tickAt else p.setField s Csr.STK_STROKE k

/-- A pending imposition request at a commit tick (R102, R389, R408). -/
def Panel.trySwitch (p : Panel) (m : Mem) (r : Nat) : Panel :=
  let g := p.region r
  match g.impRequest with
  | none => p
  | some (imp, _) =>
    if !g.commitOk || g.stopTick || !p.clustersUp g.forme imp then p.deferSwitch r
    else if !g.forme.staged m then (p.raiseRegion r 0x0113).leaveService r
    else p.switchTo m r imp

/-- A region stops at its commit: for a lock-up with AT_SHEET (R401), or for the draw mode (R479). -/
def Panel.stopAtCommit (p : Panel) (r : Nat) : Panel :=
  let g := p.region r
  if !g.stopTick || !p.running r then p
  else if g.stopAtTick then p.stopForLockUp r
  else p.modeStop r 1

/-- A sheet is committed, or its commit is skipped (R99, R101, R425). `writeOk` says that the record's write succeeds. -/
def Panel.commitSheet (p : Panel) (m : Mem) (r : Nat) (writeOk : Bool) : Panel :=
  let g := p.region r
  match g.commitDue with
  | none => p
  | some j =>
    let next := (j + 1) * p.sheetLen r
    let p := p.modRegion r fun g => { g with commitDue := none }
    if p.contain.marks.any fun k => k.region = r && k.stroke < next then
      let p := (p.raiseRegion r 0x0204).count sitePD (Csr.ERR_R_STATE_SKIPPED r) 1
      let p := p.deferSwitch r
      if p.field sitePD (Csr.ERR_R_CFG_OPEN_SHEETS r) < p.field sitePD (Csr.ERR_R_STATE_SKIPPED r) then p.raiseAbort r 0x1206
      else p.runOn r
    else if !writeOk || !p.populated (p.recordSlot m r) then ((p.raiseRegion r 0x0205).deferSwitch r).runOn r
    else
      let p := p.trySwitch m r
      let p := p.askPartners m { region := r, sheet := j, ctxs := [], stroke := next, imposition := p.impOf r, tick := g.tickAt }
      p.stopAtCommit r

/-- The first sheet wait of a region that satisfies a test. -/
def Panel.sheetWait (p : Panel) (f : SheetWait → Bool) : Option SheetWait := p.fabric.waits.find? f

/-- The contexts of a sheet wait that still hold the record back: those of a shard that is mirrored (R287). -/
def Panel.stillAwaited (p : Panel) (w : SheetWait) : List Nat :=
  w.ctxs.filter fun c => (p.sendShards w.region).any fun h => h.ctx = c && !p.unmirrored h

/-- Removes a sheet wait, and keeps it with fewer contexts when some are left. -/
def Panel.endWait (p : Panel) (w : SheetWait) (left : List Nat) : Panel :=
  { p with fabric := { p.fabric with waits := p.fabric.waits.filterMap fun x =>
      if x = w then (if left.isEmpty then none else some { w with ctxs := left }) else some x } }

/-- PD receives the acknowledgement of a sheet for a context (R287, R289). -/
def Panel.sheetAcked (p : Panel) (m : Mem) (ctx sheet : Nat) : Panel :=
  let msg := NetMsg.setmarkAck ctx sheet
  if !p.net.contains msg then p
  else
    let p := p.arrive msg
    let shards := p.fabric.shards.filter fun h => h.send && !h.stream && h.ctx = ctx
    let again := shards.filter fun h => p.fabric.resync.any fun (x : Nat × Option Nat) => x.1 = h.shard && x.2.any (· ≤ sheet)
    let p := p.each shards fun p h => p.setField sitePD (Csr.GAL_SO_ACKED h.shard) sheet
    let p := p.each again fun p h =>
      let p := { p with fabric := { p.fabric with resync := p.fabric.resync.filter fun (x : Nat × Option Nat) => x.1 ≠ h.shard } }
      (p.setField sitePD Csr.GAL_SO_UNMIRRORED (putBits (p.field sitePD Csr.GAL_SO_UNMIRRORED) h.shard 1 0)).raiseRegion h.region
        0x0823
    match p.sheetWait fun w => w.sheet = sheet && w.ctxs.contains ctx with
    | some w =>
      let left := (p.stillAwaited w).filter (· ≠ ctx)
      let p := p.endWait w left
      if left.isEmpty then p.writeRecord m w true else p
    | none => if again.isEmpty then p.raise p.primary 0x0821 else p

/-! ### The commands -/

/-- A region's tick message goes out (R66): it joins a message with the same stamp, whose mask then names both regions. -/
def Panel.postTick (p : Panel) (r : Nat) : Panel :=
  let t := p.field sitePD (Csr.STK_R_NEXT_TICK r)
  (p.dropTick r).modServo fun v =>
    { v with tickMsgs := if v.tickMsgs.any fun x => x.1 = t then v.tickMsgs.map fun x => if x.1 = t then (t, x.2 + 2 ^ r) else x
                         else v.tickMsgs ++ [(t, 2 ^ r)] }

/-- TICK_SEND (R91, R472): PD stamps a region's next tick, writes its draw values and sends the tick message. -/
def execTickSend (region : Nat) (s : State) : Host.Outcome State Fault Refusal :=
  .next (s.store fun _ p =>
    if !p.mayTick region then p
    else
      let p := p.stampTick region
      let stop := p.stopsNext region
      let p := if stop then p else p.drawTick region
      (p.modRegion region fun g => { g with tickSent := true, stopTick := stop }).postTick region)

/-- TICK_MESSAGE (R66): the message that ticks a region reaches a die; one that arrives after its stamp acts at once, with
0x0306. -/
def execTickMessage (site region : Nat) (s : State) : Host.Outcome State Fault Refusal :=
  .next (s.store fun _ p =>
    match p.servo.tickMsgs.find? fun x => bitOf x.2 region with
    | none => p
    | some x =>
      let p := p.modClock site fun k => { k with ticks := k.ticks ++ [x] }
      if (x.1 : Int) < p.dieTime site then (p.raise site 0x0306).dieTick site region x.1 [] else p)

/-- STROKE_TICK (R92): the panel time of a die reaches a tick's stamp. `peaks` are its cluster regulators' peaks of the stroke
in 0.1 A (R466). At the acting primary die it is the region's tick. -/
def execStrokeTick (site region : Nat) (peaks : List Nat) (s : State) : Host.Outcome State Fault Refusal :=
  .next (s.store fun _ p =>
    if site = p.primary then p.primaryTick region
    else match (p.clock site).ticks.find? fun x => bitOf x.2 region with
      | some x => p.dieTick site region x.1 peaks
      | none => p)

/-- END_OF_STROKE (R88, R89). -/
def execEndOfStroke (site : Nat) (s : State) : Host.Outcome State Fault Refusal :=
  .next (s.store fun _ p => p.endStroke site)

/-- STROKE_END_REPORT (R89). -/
def execStrokeEndReport (site : Nat) (s : State) : Host.Outcome State Fault Refusal :=
  .next (s.quiet fun p => p.endReport site)

/-- SLUR_LIMIT_EXPIRED (R97). -/
def execSlurLimitExpired (region : Nat) (s : State) : Host.Outcome State Fault Refusal :=
  .next (s.quiet fun p => if (p.region region).slurOpen then p.raiseAbort region 0x0202 else p)

/-- D in nominal cycles is written to STK_R_STEP, for the next tick (R94). -/
def Panel.announceStep (p : Panel) (region d : Nat) : Panel :=
  (p.setField sitePD (Csr.STK_R_STEP region) d).modRegion region fun g => { g with step := some (d % 2 ^ 24) }

/-- STEP_ANNOUNCE (R94). -/
def execStepAnnounce (region d : Nat) (s : State) : Host.Outcome State Fault Refusal :=
  .next (s.quiet fun p => p.announceStep region d)

/-- SHEET_COMMIT (R99). `writeOk` says that the write of the commit record succeeds. -/
def execSheetCommit (region : Nat) (writeOk : Bool) (s : State) : Host.Outcome State Fault Refusal :=
  .next (s.store fun m p => p.commitSheet m region writeOk)

/-- SETMARK_ACK (R287). -/
def execSetmarkAck (ctx sheet : Nat) (s : State) : Host.Outcome State Fault Refusal :=
  .next (s.store fun m p => p.sheetAcked m ctx sheet)

/-- SETOFF_ACK_WAIT_EXPIRED (R287): the record of the region's oldest waiting sheet is written, without flag [0] unless every shard
that it still waits for has become unmirrored. -/
def execSetoffAckWaitExpired (region : Nat) (s : State) : Host.Outcome State Fault Refusal :=
  .next (s.store fun m p =>
    match p.sheetWait fun w => w.region = region with
    | some w => (p.endWait w []).writeRecord m w (p.stillAwaited w).isEmpty
    | none => p)

end Sys2Proof.Machine
end

