-- ==== Sys2Proof/Machine/Reset.lean ====
section
/-! DEFINITION. The boot flash's descriptors and the choice of the image (R493, R494), the reset scopes (R501–R504) and the
field self-test (R50–R52). -/

namespace Sys2Proof.Machine

/-! ### Boot descriptors (R493, R494) -/

/-- A boot descriptor (R493). -/
structure BootDesc where
  seq : Nat := 0
  prefer : Nat := 0
  trial : Nat := 0
  tries : Nat := 0
  attempts : Nat := 0
  lenA : Nat := 0
  lenB : Nat := 0
  boots : Nat := 0
deriving DecidableEq, Repr

/-- The 60 bytes of a descriptor before its CRC. -/
def BootDesc.body (d : BootDesc) : List Byte :=
  [0x4B, 0x59, 0x42, 0x44] ++ leBytes 4 d.seq ++ leBytes 1 d.prefer ++ leBytes 1 d.trial ++ leBytes 1 d.tries
    ++ leBytes 1 d.attempts ++ leBytes 4 d.lenA ++ leBytes 4 d.lenB ++ leBytes 4 d.boots ++ List.replicate 36 0

/-- The 64 bytes of a descriptor. -/
def BootDesc.bytes (d : BootDesc) : List Byte := d.body ++ leBytes 4 (crc32c d.body)

/-- The flash address of a copy. -/
def descBase (copy : Nat) : Nat := 0x1000 * copy

/-- A copy of the descriptor, when its MAGIC and CRC are correct (R494). -/
def Panel.descCopy (p : Panel) (copy : Nat) : Option BootDesc :=
  let b := p.flashRead (descBase copy) 64
  if sliceBytes b 0 4 = [0x4B, 0x59, 0x42, 0x44] && crc32c (b.take 60) = leAt b 0x3C 4 then
    some { seq := leAt b 4 4, prefer := leAt b 8 1, trial := leAt b 9 1, tries := leAt b 10 1, attempts := leAt b 11 1,
           lenA := leAt b 0xC 4, lenB := leAt b 0x10 4, boots := leAt b 0x14 4 }
  else none

/-- The copy with the higher SEQ, and its number. -/
def Panel.bestDesc (p : Panel) : Option (Nat × BootDesc) :=
  match p.descCopy 0, p.descCopy 1 with
  | some a, some b => if a.seq < b.seq then some (1, b) else some (0, a)
  | some a, none => some (0, a)
  | none, some b => some (1, b)
  | none, none => none

/-- The descriptor in force; with no valid copy, one that prefers image A. -/
def Panel.desc (p : Panel) : BootDesc :=
  match p.bestDesc with
  | some (_, d) => d
  | none => {}

/-- A new descriptor is written with the next SEQ, over the copy with the lower SEQ first and then over the other. -/
def Panel.writeDesc (p : Panel) (d : BootDesc) : Panel :=
  let (best, seq) := match p.bestDesc with
    | some (c, e) => (c, e.seq + 1)
    | none => (1, 0)
  let b := ({ d with seq := seq } : BootDesc).bytes
  (p.flashWrite (descBase (1 - best)) b).flashWrite (descBase best) b

/-- An image fails verification: its code (R542). -/
def Panel.imageCode (p : Panel) (img : Nat) : Option Nat :=
  match p.verifyImage img with
  | .ok _ => none
  | .error c => some c

/-- Firmware of an image starts: what it reports of itself, and BOOTS of the descriptor (R494, R550). -/
def Panel.startImage (p : Panel) (img : Nat) (onTrial : Bool) : Panel :=
  let h := p.imageHeader img
  let slot := match p.verifyImage img with
    | .ok s => s
    | .error _ => 0
  let hash := Config.sha384 (p.flashRead (imageBase img) (leAt h 0x10 8 - 104))
  let p := p.modBoot fun b => { b with imageHash := hash, imageSvn := leAt h 0xC 4, imageSlot := slot,
                                       imageRevoke := leAt h 6 1 % 16 }
  (p.setField sitePD Csr.PWR_RST_STATUS_IMAGE img).setFlag sitePD Csr.PWR_RST_STATUS_TRIAL onTrial

/-- BOOTS rises at every cold and warm reset (R494). -/
def Panel.countBoot (p : Panel) : Panel :=
  let d := p.desc
  (p.writeDesc { d with boots := d.boots + 1 }).setField sitePD Csr.PWR_BOOT (d.boots + 1)

/-- The boot ROM's choice of the image (R494); the answer is false when both images fail. A trial that is still on has had an attempt
that did not reach READY, once any was made: 0x0F07. -/
def Panel.selectImage (p : Panel) : Bool × Panel :=
  let d := p.desc
  let p := p.raiseIf (d.trial = 1 && 0 < d.attempts) p.primary 0x0F07
  let (d', fresh) := if d.trial = 1 then
      (if d.attempts < d.tries then { d with attempts := d.attempts + 1 }
       else { d with trial := 0, prefer := 1 - d.prefer % 2 }, true)
    else (d, false)
  let p := if fresh then p.writeDesc d' else p
  let img := d'.prefer % 2
  match p.imageCode img with
  | none => (true, p.startImage img (d'.trial = 1))
  | some c =>
    let p := p.raise p.primary c
    match p.imageCode (1 - img) with
    | none => (true, p.startImage (1 - img) false)
    | some c' => (false, (p.raise p.primary c').raise p.primary 0x0F04)

/-! ### Bring-up steps -/

/-- Step `n` of R496 ends: its time goes to PWR_BU_LOG, and the next step is in progress. -/
def Panel.stepDone (p : Panel) (n : Nat) : Panel :=
  let us := min 0xFFFFFF ((p.now - p.boot.ref) / 1250)
  (p.setField sitePD (Csr.PWR_BU_LOG (n - 1)) us).setField sitePD Csr.PWR_RST_STATUS_STEP (min 15 (n + 1))

/-- Bring-up stops at a step. -/
def Panel.bootFailed (p : Panel) (step : Nat) (ph : BootPhase) : Panel :=
  let p := (p.setField sitePD Csr.PWR_RST_STATUS_STEP step).setFlag sitePD Csr.PWR_RST_STATUS_FAILED true
  p.modBoot fun b => { b with phase := ph }

/-- A reset of a scope is in progress (R502). -/
def Panel.beginReset (p : Panel) (scope site cl : Nat) : Panel :=
  let p := p.modBoot fun b => { b with resetting := some (scope, site, cl) }
  let p := (p.setFlag sitePD Csr.PWR_RST_STATUS_BUSY true).setField sitePD Csr.PWR_RST_STATUS_LAST_SCOPE scope
  (if scope ≤ 3 then p.setFlag sitePD Csr.PWR_RST_STATUS_READY false else p).noteChange 1


/-- Everything that a cold reset leaves: flash, fuses, and what the panel is told from outside. LPDDR5X and the slices lose
their contents, and every row is foxed (R69, R282, R501). -/
def Panel.coldClear (p : Panel) : Panel :=
  let b : Boot := { pwrGood := p.boot.pwrGood, rstLow := p.boot.rstLow, refPD := p.boot.refPD, refAD := p.boot.refAD, cold := true }
  let q : Panel :=
    { flash := p.flash, fuses := { p.fuses with formeDigest := [] }
      plan := { dieFuse := p.plan.dieFuse, panelFuse := p.plan.panelFuse }
      boot := b, fresh := p.fresh, writes := p.writes, out := p.out }
  q.put { addr := 0, clear := 2 ^ 48, foxChannels := List.range 256, fox := none, parity := none }

/-- A domain of a die fails to reach power good as bring-up turns it on (R456, spec/21 cases). -/
def Panel.failAtBoot (p : Panel) (s d : Nat) : Panel :=
  let p := (p.darken s d).setField s (Csr.PWR_DOM_STATE d) domFailed
  (p.appendField s (domainUnit s d) 2 4 0x0C0F).raiseFor p.primary 0x0C0F .notice none d s

/-- The capability descriptor that a die of the panel sends (R328): a Lamxadric die's maker, profiles and depths (R302, R324);
PART, STEPPING and SIGSET are the implementation's. Mesh is a role of compute dies (R292). -/
def localDescriptor (s : Nat) : List Byte :=
  let ident := (Config.dieIdent s).toNat
  let b (n : Nat) : Byte := BitVec.ofNat 8 n
  leBytes 2 0x4C58 ++ leBytes 2 ident ++ [b (dieTypeNo s), b (ident / 2 ^ 16), 3, if s < 400 then 15 else 14]
    ++ [4, 8, 8, 8, 16, 8, 16, 1] ++ leBytes 4 (ident / 2 ^ 24)

/-- The domains of a die turn on, but for those that fail; once its logic has power it sends its descriptor on every edge (R328). -/
def Panel.bootDie (p : Panel) (failed : List (Nat × Nat)) (s : Nat) : Panel :=
  if p.noPower s then p
  else
    let p := p.each ((domainsOf s).mergeSort fun a b => b ≤ a) fun p d =>
      if failed.contains (s, d) then p.failAtBoot s d else p.powerUp s d
    let p := p.setField s Csr.AZL_CAP_LOCAL (leNat (localDescriptor s))
    if p.lives s then p.each (List.range (faceCount s)) fun p e => p.sendDescriptor s e else p

/-- PD does not come up with its power: AD boots the image itself and acts as the primary die (R505). -/
def Panel.adBoots (p : Panel) : Panel :=
  let p := p.modBoot fun b => { b with primary := siteAD, flashSel := true, refFrom := siteAD }
  let p := (p.setFlag sitePD Csr.PWR_RST_STATUS_AD_PRIMARY true).setFlag sitePD Csr.PWR_RST_STATUS_AD_STANDBY true
  (p.raise siteAD 0x1220).noteChange 4

/-- A cold reset, through step 6 of R496: the corner dies come up, each runs its own BIST (R43; `streams` are the snapshots that
their BISTs give, by site), the ROM chooses an image, the field errata copies are read, and the flash-free message goes to AD. -/
def Panel.coldReset (p : Panel) (failed : List (Nat × Nat)) (streams : List (Nat × List Nat)) : Panel :=
  let p := (p.coldClear.beginReset 1 0 0).stepDone 0
  let p := p.each [sitePD, siteHD, siteTD, siteAD] fun p s =>
    let p := p.bootDie failed s
    if p.lives s then p.cornerBist s (((streams.find? fun x => x.1 = s).map (·.2)).getD []) else p
  let p := if p.lives sitePD || !p.lives siteAD then p else p.adBoots
  let p := (p.showFuses.setFlag p.primary Csr.CLK_STATUS_PTIME_VALID true).modClock p.primary fun c => { c with reload := false }
  let p := (p.stepDone 1).stepDone 2
  if !p.lives p.primary then (p.raise p.primary 0x1221).bootFailed 1 .stopped
  else
    let (ok, p) := p.selectImage
    if !ok then p.bootFailed 3 .rom
    else
      let p := ((p.stepDone 3).stepDone 4).stepDone 5
      let p := p.countBoot.repairErrata
      let p := (if p.primary = sitePD then p.sendTack .flashFree else p).stepDone 6
      let p := p.each [sitePD, siteAD, siteTD] fun p s => p.sendTack (.dist s)
      p.modBoot fun b => { b with phase := .waves, slot := 0, cornerSlot := true }

/-! ### What the scopes clear (R501, R503) -/

/-- The CSR words of a die's blocks that a compute reset clears: STK, GAL, SPR, JUS, DEN, SPA and the line buffer (R509). -/
def uncoreBlocks : List (Nat × Nat) :=
  [(0, 0x10000), (0x60000, 0xA0000), (0xA8000, 0xB0000), (0x100000, 0x200000)]

/-- An uncore's sequencer, line buffer, counters, watches, galleys and engine, gate and slice state reset, and its mesh
buffers empty (R298, R503). -/
def Panel.resetUncore (p : Panel) (s : Nat) : Panel :=
  let p := (p.quietDie s).emptyLogs s
  let p := p.each uncoreBlocks fun p r => p.clearWords s r.1 r.2
  let keep {α : Type} (w : Nat) (m : SMap α) : SMap α := m.filter fun x => x.1 / w ≠ s
  let p := { p with seqs := keep 1 p.seqs, watches := keep 1 p.watches, syncRegion := keep 256 p.syncRegion,
                    engines := keep 8 p.engines, boards := keep 4 p.boards, movers := keep 4 p.movers, slot12 := keep 1 p.slot12,
                    galleys := keep 8 p.galleys, meshOps := keep 1 p.meshOps, windowBase := keep 128 p.windowBase,
                    suspectReport := keep 1 p.suspectReport, tallies := keep 0x400000 p.tallies,
                    meshWire := keep 64 p.meshWire, routers := keep 1 p.routers }
  p.modClock s fun k => { k with ticks := [], endDue := false, strokeTick := 0, strokeEnd := 0 }

/-- The cluster domains of a die go dark, but for failed ones. -/
def Panel.darkClusters (p : Panel) (s : Nat) : Panel :=
  (p.each (List.range 4) fun p c => if p.field s (Csr.PWR_DOM_STATE c) = domFailed then p else p.darken s c).showSeqBusy s

/-- A region and its forme are gone: its work, waits, contexts and traces, and its claims (R503, R518). -/
def Panel.loseRegion (p : Panel) (r : Nat) : Panel :=
  let g := p.region r
  let p := (p.endWaits r).dropMarks r fun _ => true
  let p := p.each (p.contain.reprints.filter fun x => g.sites.contains x.site) fun p x => p.endReprint x
  let p := p.each g.sites fun p s => ((p.quietDie s).dropGalleys s).setField s Csr.STK_STATUS 0
  let p := (p.dropLinks r).dropTick r
  let p := p.each allSites fun p s => p.each (List.range 256) fun p t =>
    if p.isSet s (Csr.FAB_TRACE_VALID t) && p.field s (Csr.FAB_TRACE_REGION t) = r then p.setField s (Csr.FAB_TRACE t) 0 else p
  let p := (p.setFlag sitePD (Csr.STK_R_CTRL_ENABLE r) false).setFlag sitePD (Csr.STK_R_CTRL_RUNNING r) false
  let p := (p.setField sitePD (Csr.FRM_R_STATE_STATE r) 0).setFlag sitePD (Csr.FRM_R_IMP_PENDING r) false
  let p := { p with fuses := { p.fuses with formeDigest := SMap.set (fun _ => []) p.fuses.formeDigest r [] }
                    fabric := { p.fabric with waits := p.fabric.waits.filter fun w => w.region ≠ r }
                    drawSide := { p.drawSide with band := SMap.set (fun _ => 0) p.drawSide.band r 0
                                                  volts := SMap.set (fun _ => 750) p.drawSide.volts r 750
                                                  overRegion := SMap.set (fun _ => 0) p.drawSide.overRegion r 0 } }
  p.modRegion r fun _ => {}

/-- Every region stops and is lost; a lock-up in progress is abandoned (R503, R504). -/
def Panel.loseRegions (p : Panel) : Panel :=
  let locking := p.lockRegions
  let p := p.abandonLockUp
  p.each (allRegions.filter fun r => p.lockedUp r || locking.contains r) fun p r => p.loseRegion r


/-- The fox summaries of a memory die are rebuilt from its tables, and it leaves self-refresh (R282). -/
def Panel.wakeMemory (p : Panel) (m : Mem) (md : Nat) : Panel :=
  let chans := (List.range 256).filter fun c => memSite (1024 * c) = md
  let keys := distinct ((m.fox.filter fun x => isLpddr (64 * x.1)).map fun x => summaryKey (64 * x.1))
  let p := p.each (keys.filter fun k => chans.contains (k / 2 ^ 17) && segmentClean m (k / 2 ^ 17) (k % 2 ^ 17)) fun p k =>
    p.put { fox := none, parity := none, clean := some k }
  p.modMemDie md fun d => { d with selfRefresh := false }

/-! ### Untying (R403, R331) -/

/-- An edge of a die is still tied because of a region that is tied: either end belongs to one. -/
def Panel.edgeHeld (p : Panel) (s e : Nat) : Bool :=
  let tied (t : Nat) : Bool := allRegions.any fun r => p.field sitePD (Csr.FRM_R_STATE_STATE r) = 1 && (p.region r).sites.contains t
  let f := (facing s e).1
  (tied s && !(p.regionWith s = p.regionWith f)) || (tied f && !(p.regionWith s = p.regionWith f))

/-- Unties both ends of an edge, unless a tied region holds it. -/
def Panel.untieEdge (p : Panel) (s e : Nat) : Panel :=
  if p.edgeHeld s e then p
  else
    let f := facing s e
    (p.tieEdge s e false).tieEdge f.1 f.2 false

/-! ### The scopes (R503) -/

/-- A warm reset: every region stops, LPDDR5X goes to self-refresh, compute and edge dies go dark, and bring-up runs again from
its waves. -/
def Panel.warmReset (p : Panel) : Panel :=
  let p := (p.loseRegions.each allSites fun p s => p.stopBist s).beginReset 2 0 0
  let p := p.each (List.range 464) fun p s => p.darkenDie s
  let p := p.each memDieSites fun p md => p.modMemDie md fun d => { d with selfRefresh := true }
  let p := p.each (List.range 16) fun p n => p.setField sitePD (Csr.PWR_BU_LOG n) 0
  let p := p.countBoot
  let p := { p with net := [], injected := [], routers := [], contexts := [], ports := [], fabric := {}, contain := {}, power := { p.power with nextVset := [], derateAtTick := [] } }
  let p := (p.each [sitePD, siteAD] fun p s => p.setFlag s Csr.TCK_STATUS_FALLBACK false).modTack fun t =>
    { t with losses := [], awaitHb := List.range 464 }
  let p := p.modPlan fun q => { q with bootBad := q.bootBad.filter fun b => 464 ≤ b.1, unstored := [], signatures := []
                                       reports := q.reports.filter fun r => 464 ≤ r.target }
  let p := (p.setField sitePD Csr.PWR_RST_STATUS_STEP 7).setFlag sitePD Csr.PWR_RST_STATUS_FAILED false
  p.modBoot fun b => { b with phase := .waves, slot := 0, cornerSlot := false, halted := false, ref := p.now }

/-- What a compute reset does to the dies: clusters dark, uncores reset, and memory back from self-refresh. -/
def Panel.resetComputeDies (p : Panel) (m : Mem) : Panel :=
  let p := p.each (List.range 400) fun p s => ((p.stopBist s).resetUncore s).darkClusters s
  let p := p.modTack fun t => { t with awaitHb := t.awaitHb.filter (400 ≤ ·) ++ List.range 400 }
  let p := p.each memDieSites fun p md => p.modMemDie md fun d => { d with selfRefresh := true }
  p.each memDieSites fun p md => p.wakeMemory m md

/-- A compute reset. -/
def Panel.computeReset (p : Panel) (m : Mem) : Panel :=
  ((p.loseRegions.beginReset 3 0 0).resetComputeDies m).endReset

/-- A region reset: tied off, its galleys drained, its dies reset, its claims released. -/
def Panel.regionReset (p : Panel) (r : Nat) : Panel :=
  let sites := (p.region r).sites
  let p := (p.beginReset 4 r 0).tieRegion r true
  let p := p.loseRegion r
  let p := p.each sites fun p s => ((p.stopBist s).resetUncore s).darkClusters s
  p.endReset

/-- What a die-scope reset keeps of a die's fabric registers, which PD writes back: rigging, broadcast tree and routes. -/
def Panel.fabricWords (p : Panel) (s : Nat) : SMap Word :=
  p.csr.filter fun x => csrKey s (Csr.FAB_REIN_CFG).off ≤ x.1 && x.1 < csrKey s ((Csr.FAB_RT 467).off + 4)

/-- The bundles of a die train again at both ends, with the wires that fail, and each crossing is registered (R76, R330). An edge that
its peer has cut stays cut until it is rejoined (R334). -/
def Panel.retrainDie (p : Panel) (s : Nat) (wires raws : List (Nat × Nat)) : Panel :=
  p.each (List.range (16 * faceCount s)) fun p b =>
    let failed := (wires.filter fun x => x.1 = b).map (·.2)
    let (f, fb) := farBundle s b
    if p.edgeCut f (faceOf fb) || !p.peersOk s (faceOf b) then p
    else
    let p := (p.trainBundle s b [] failed).trainBundle f fb failed []
    match raws.find? fun x => x.1 = b with
    | some x => if p.azState s b = azBad then p else p.registerBundle s b x.2
    | none => p

/-- A die reset: its edges tied, its domains off and on, proof in neighbour mode, training, and a merge. `reports` are the
testers' reports of the run. -/
def Panel.dieReset (p : Panel) (m : Mem) (s : Nat) (failed : List (Nat × Nat)) (reports : List ProofReport)
    (wires raws : List (Nat × Nat)) : Panel :=
  let p := (p.stopBist s).beginReset 5 s 0
  let p := p.each (List.range (faceCount s)) fun p e => let f := facing s e; p.tieEdge f.1 f.2 true
  let p := if dieClass s = .link then p.loseLink s else p
  let saved := p.fabricWords s
  let p := (p.darkenDie s).bootDie failed s
  let p := saved.foldl (fun (p : Panel) x => { p with csr := SMap.set resetWord p.csr x.1 x.2 }) p
  let p := if s < 400 then p.each (List.range 4) fun p c =>
      if p.field s (Csr.PWR_DOM_STATE c) = domFailed then p else (p.foxFill s c).darken s c else p
  let p := p.forgetReports [s]
  let p := p.modPlan fun q => { q with bootBad := q.bootBad.filter fun b => b.1 ≠ s
                                       reports := q.reports ++ reports.filter fun r => r.target = s }
  let p := p.each (List.range (faceCount s)) fun p e => p.exchange s e
  let p := ((p.collectReports [s]).judge [s]).retrainDie s wires raws
  let p := p.each (List.range (faceCount s)) fun p e => p.untieEdge s e
  let p := if dieClass s = .memory then p.wakeMemory m s else p
  let p := (p.setFlag s Csr.CLK_CTRL_FIXED false).setFlag s Csr.CLK_STATUS_REGISTERED true
  (p.merge 1).darkenBad.endReset

/-- A cluster reset: the domain goes off and on, and its slice fox-fills; the reset is complete when the fill ends (R259). -/
def Panel.clusterReset (p : Panel) (s c : Nat) : Panel :=
  let p := (p.stopBist s).beginReset 6 s c
  if p.field s (Csr.PWR_DOM_STATE c) = domFailed || p.keptDark s then p.endReset
  else
    let p := (p.darken s c).setField s (Csr.PWR_DOM_STATE c) domTurningOn
    (p.setField s (Csr.PWR_DOM_STAGE c) 4).powerGood s c

/-! ### Requests (R502, R504) -/

/-- A cold reset is in progress, and not one that still waits to be carried out. -/
def Panel.coldRuns (p : Panel) : Bool :=
  p.boot.resetting = some (1, 0, 0) && !p.boot.coldAsked && (p.boot.phase = .waves || p.boot.phase = .rigging)

/-- Who requests a reset (R502): 0 tack or PLDM, 1 the host, 2 firmware. A refused request answers 0, an accepted one 1, and
one that waits for a lock-up 2. -/
def Panel.resetAnswer (p : Panel) (src scope region site cl : Nat) : Nat :=
  let up := p.boot.phase = .ready || p.boot.phase = .rigging || p.boot.phase = .waves
  let smaller := match p.boot.resetting with
    | some (now, _, _) => now ≤ scope
    | none => false
  let locking (r : Nat) : Bool :=
    let ph := p.field sitePD Csr.FRM_STATUS_PHASE
    p.isSet sitePD Csr.FRM_STATUS_BUSY && 4 ≤ ph && ph ≤ 7 && p.lockRegions.contains r
  let quiet : Nat := match p.regionOf site with
    | some r =>
      let st := p.field sitePD (Csr.FRM_R_STATE_STATE r)
      if locking r then 2 else if st = 1 || st = 5 || st = 0 then 1 else 0
    | none => if p.reserveBusy site then 0 else 1
  if scope = 0 || 7 ≤ scope || (src = 1 && scope ≤ 2) || (src = 2 && scope = 1) then 0
  else if scope = 1 then flag (!p.coldRuns)
  else if !up || smaller then 0
  else match scope with
    | 2 => 1
    | 3 => if p.boot.phase = .ready then 1 else 0
    | 4 => if region < 16 && p.boot.phase = .ready && !locking region then 1 else 0
    | 5 =>
      if 464 ≤ site || p.boot.phase ≠ .ready || (dieClass site = .memory && allRegions.any p.running) then 0 else quiet
    | _ => if 400 ≤ site || 4 ≤ cl || p.boot.phase ≠ .ready then 0 else quiet

/-- A reset is requested (R502). A cold reset begins here and RESET_COLD_REQUEST carries it out, with what the corner dies' BISTs
give; a die reset begins here and ends with RESET_DIE. -/
def Panel.requestReset (p : Panel) (m : Mem) (src scope region site cl : Nat) : Panel :=
  match p.resetAnswer src scope region site cl with
  | 0 => p.setFlag sitePD Csr.PWR_RST_STATUS_REFUSED true
  | 1 => match scope with
    | 1 => (p.beginReset 1 0 0).modBoot fun b => { b with coldAsked := true }
    | 2 => p.warmReset
    | 3 => p.computeReset m
    | 4 => p.regionReset region
    | 5 => p.beginReset 5 site 0
    | _ => p.clusterReset site cl
  | _ => p.modBoot fun b => { b with resetWaits := some (scope, site, cl) }

/-- A lock-up has ended: a die or cluster reset that waited for it is requested again (R504). -/
def Panel.resetAfterLockUp (p : Panel) (m : Mem) : Panel :=
  match p.boot.resetWaits with
  | none => p
  | some (scope, site, cl) => (p.modBoot fun b => { b with resetWaits := none }).requestReset m 0 scope 0 site cl

/-! ### Field self-test (R50–R52) -/

/-- A field BIST is asked for (R50): refused with its code and REFUSED, or begun. A die whose agent is dark takes no start, and one
that is never powered is never tested (R18, R31). A loopback run takes the die's bundles out of service (R52). -/
def Panel.startBist (p : Panel) (s mode kinds units : Nat) : Panel :=
  if !p.lives s || p.noPower s then p
  else
    let p := ((p.setField s Csr.BST_CTRL_MODE mode).setField s Csr.BST_CTRL_KIND kinds).setField s Csr.BST_CTRL_UNITS units
    match p.bistRefusal s with
    | some code => (p.setFlag s Csr.BST_STATUS_REFUSED true).raise s code
    | none =>
      let looped := if bitOf kinds 2 then (List.range (16 * faceCount s)).filter fun b => p.azState s b = azUp else []
      let run : BistRun := { site := s, neighbour := mode = 1, kinds := kinds % 8, units := units % 32, looped := looped,
                             before := p.plan.reports.filter fun r => r.target = s }
      let p := (p.forgetReports [s]).modPlan fun q => { q with bists := q.bists ++ [run] }
      let p := p.setLooped s looped azUp azTraining
      ((p.setFlag s Csr.BST_STATUS_BUSY true).setFlag s Csr.BST_STATUS_DONE false).setFlag s Csr.BST_STATUS_ABORTED false

/-- What memory BIST of some units of a compute die (bit 0 the uncore, bits 1 to 4 the clusters) overwrites (R41): the line buffer;
a cluster's slice, which fox-fills, and its cores' instruction memories. -/
def Panel.memoryBist (p : Panel) (s units : Nat) : Panel :=
  let p := if bitOf units 0 then (p.clearPages s).clearWords s 0x100000 0x200000 else p
  p.each ((List.range 4).filter fun c => bitOf units (c + 1)) fun p c =>
    (p.clearWords s (0x200000 + 0x80000 * c) (0x280000 + 0x80000 * c)).beginFill s c

/-- What the kinds of a run destroy on the units that it tests (R41, R52): logic the uncore and cluster state, memory what memory
BIST overwrites. -/
def Panel.bistDestroys (p : Panel) (s kinds units : Nat) : Panel :=
  if 400 ≤ s then p
  else
    let p := if !bitOf kinds 0 then p
      else
        let p := if bitOf units 0 then p.resetUncore s else p
        p.each ((List.range 4).filter fun c => bitOf units (c + 1)) fun p c => p.loseCluster s c
    if bitOf kinds 1 then p.memoryBist s units else p

/-- BST_RESULT of a die for the units of a run, from states (R52). -/
def Panel.showResult (p : Panel) (s units : Nat) (st : Nat → UnitState) : Panel :=
  let code (u : Nat) : Nat := if bitOf units (u - 1) then resultCode (st u) else 0
  let p := p.setField s Csr.BST_RESULT_UNCORE (code 1)
  p.setField s Csr.BST_RESULT_CLUSTER (if s < 400 then code 2 + 4 * code 3 + 16 * code 4 + 64 * code 5 else 0)

/-- BST_REPORT of each tester that faces a target: its own report (R37, R38). -/
def Panel.showReports (p : Panel) (s : Nat) : Panel :=
  let rs := p.plan.reports
  p.each (List.range (faceCount s)) fun p e =>
    let (t, te) := facing s e
    let out (u : Nat) : Option ProofOutcome := outcomeOf rs t s u
    let mism := ((List.range 5).map fun i => 2 ^ i * flag (out (1 + i) = some .mismatch)).sum
    let p := p.setField t (Csr.BST_REPORT_OUTCOME te) (match out 1 with
      | none => 0
      | some .noResponse => 3
      | some .mismatch => 2
      | some .matched => if mism = 0 then 1 else 2)
    let p := p.setFlag t (Csr.BST_REPORT_QUALIFIED te) (p.qualified rs t)
    p.setField t (Csr.BST_REPORT_MISMATCH te) mism

/-- A field BIST run completes (R52): `loopback` lists the bundles that fail. In neighbour mode PD judges the reports, records
what is new with cause 2 and merges. -/
def Panel.endBist (p : Panel) (s : Nat) (loopback : List Nat) : Panel :=
  match p.plan.bists.find? fun b => b.site = s with
  | none => p
  | some run =>
    let p := (p.setFlag s Csr.BST_STATUS_BUSY false).setFlag s Csr.BST_STATUS_DONE true
    let p := (p.bistDestroys s run.kinds run.units).collectReports [s]
    let rs := p.plan.reports
    let tested := maskUnits run.units
    let p := p.leaveBist s fun u => run.neighbour && tested.contains u
    let bad := if bitOf run.kinds 2 then loopback else []
    let p := p.setField s Csr.BST_BUNDLE_FAIL ((distinct bad).map fun b => 2 ^ b).sum
    if !run.neighbour then
      p.showResult s run.units fun u => match outcomeOf rs s s u with
        | some .matched => .good
        | some .mismatch => .bad
        | _ => .unproven
    else
      let old := p.plan.verdict
      let p := p.judge [s]
      let p := p.modPlan fun q => { q with verdict := (unitsOf s).foldl (fun v u =>
        if tested.contains u then v else SMap.set (fun _ => .good) v (unitKey s u) (SMap.get (fun _ => .good) old (unitKey s u))) q.verdict }
      let p := p.each bad fun p b => ((p.appendField s (64 + b) 2 3 0x0E0E).badThisBoot s (64 + b)).raise s 0x0E0E
      let silent := (p.testers rs s).any fun t => tested.any fun u => outcomeOf rs t s u = some .noResponse
      let p := p.raiseIf silent p.primary 0x0E07
      let known := tested.any fun u => p.verdictOf s u = .bad && p.fieldState s u = 2
      let p := p.raiseIf known p.primary 0x0E06
      let p := (p.showReports s).showResult s run.units (p.verdictOf s)
      (p.merge 2).darkenBad

/-! ### The commands -/

/-- COLD_RESET (R492): PWR_GOOD rises, or PANEL_RST_N rises while PWR_GOOD is high; `failed` are the corner domains, as (site,
domain), that do not reach power good, and `streams` the snapshots of each corner die's own BIST (R43), by site. -/
def execColdReset (failed : List (Nat × Nat)) (streams : List (Nat × List Nat)) (s : State) :
    Host.Outcome State Fault Refusal :=
  .next (s.act fun _ p => (p.modBoot fun b => { b with pwrGood := true, rstLow := false }).coldReset failed streams)

/-- PANEL_RST_ASSERT (R492): the panel is held in cold reset; only the corner domains are up. -/
def execPanelRstAssert (s : State) : Host.Outcome State Fault Refusal :=
  .next (s.act fun _ p =>
    let p := (p.modBoot fun b => { b with rstLow := true }).coldClear
    if p.boot.pwrGood then p.each [sitePD, siteHD, siteTD, siteAD] fun p s => p.bootDie [] s else p)

/-- RESET_COLD_REQUEST (R502): tack or PLDM, with the snapshots of each corner die's BIST (R43), by site. A cold reset already
requested is carried out; one that runs is not begun again. -/
def execResetColdRequest (streams : List (Nat × List Nat)) (s : State) : Host.Outcome State Fault Refusal :=
  .next (s.act fun _ p =>
    if p.coldRuns then p.setFlag sitePD Csr.PWR_RST_STATUS_REFUSED true
    else if p.boot.pwrGood && !p.boot.rstLow then p.coldReset [] streams else p)

/-- RESET_WARM (R503), by tack (0), the host (1) or firmware (2). -/
def execResetWarm (src : Nat) (s : State) : Host.Outcome State Fault Refusal :=
  .next (s.store fun m p => p.requestReset m (src % 3) 2 0 0 0)

/-- RESET_COMPUTE (R503). -/
def execResetCompute (src : Nat) (s : State) : Host.Outcome State Fault Refusal :=
  .next (s.store fun m p => p.requestReset m (src % 3) 3 0 0 0)

/-- RESET_REGION (R503). -/
def execResetRegion (src region : Nat) (s : State) : Host.Outcome State Fault Refusal :=
  .next (s.store fun m p => p.requestReset m (src % 3) 4 region 0 0)

/-- RESET_DIE (R503): `failed` domains, the testers' `reports`, the receive wires that fail and the raw latencies, by bundle. A
die reset already requested is carried out. -/
def execResetDie (src site : Nat) (failed : List (Nat × Nat)) (reports : List ProofReport) (wires raws : List (Nat × Nat))
    (s : State) : Host.Outcome State Fault Refusal :=
  .next (s.store fun m p =>
    let p := if p.boot.resetting = some (5, site, 0) then p else p.requestReset m (src % 3) 5 0 site 0
    if p.boot.resetting = some (5, site, 0) then p.dieReset m site failed reports wires raws else p)

/-- RESET_CLUSTER (R503). -/
def execResetCluster (src site cluster : Nat) (s : State) : Host.Outcome State Fault Refusal :=
  .next (s.store fun m p => p.requestReset m (src % 3) 6 0 site cluster)

/-- FIELD_BIST_START (R50): BST_CTRL's MODE, KIND and UNITS. -/
def execFieldBistStart (site mode kinds units : Nat) (s : State) : Host.Outcome State Fault Refusal :=
  .next (s.store fun _ p => p.startBist site mode kinds units)

/-- FIELD_BIST_ABORT (R52): BST_CTRL.ABORT, or a thermal emergency on the target. -/
def execFieldBistAbort (site : Nat) (s : State) : Host.Outcome State Fault Refusal :=
  .next (s.quiet fun p => p.stopBist site)

/-- FIELD_BIST_DONE (R52). -/
def execFieldBistDone (site : Nat) (loopback : List Nat) (s : State) : Host.Outcome State Fault Refusal :=
  .next (s.store fun _ p => p.endBist site loopback)

end Sys2Proof.Machine
end

