-- ==== Sys2Proof/Machine/BringUp.lean ====
section
/-! DEFINITION. Bring-up from the power waves to READY (R42–R44, R76, R77, R330, R495–R500). -/

namespace Sys2Proof.Machine

/-! ### AD's image (R495) -/

/-- AD takes the flash, reads and verifies the image that PD booted, and gives the flash back. -/
def Panel.flashFree (p : Panel) : Panel :=
  if !p.tack.frames.contains .flashFree then p
  else
    let p := p.modTack fun t => { t with frames := t.frames.filter (· ≠ .flashFree) }
    let ok := (p.imageCode (p.field sitePD Csr.PWR_RST_STATUS_IMAGE)).isNone
    let p := p.setFlag sitePD Csr.PWR_RST_STATUS_AD_STANDBY ok
    if ok then p else p.raise siteAD 0x0F06

/-! ### Waves and proof (R42, R461, R497) -/

/-- The dies that are proved in a slot: the compute dies of the wave before, and the edge dies of the wave before that. -/
def provedIn (slot : Nat) : List Nat :=
  (if 1 ≤ slot then waveSites (slot - 1) else []) ++ if 2 ≤ slot then waveEdgeDies (slot - 2) else []

/-- A die was powered before another, so that the bundles between them train in the other's proof slot (R330). -/
def poweredBefore (far s : Nat) : Bool :=
  464 ≤ far || (400 ≤ s && s < 464) || (far < 400 && s < 400 && waveOf far < waveOf s)

/-- The bundles of a die with dies powered before it train (R330 steps 1 to 6); `wires` are the wires that fail, as (site,
bundle, wire) of the receiving end. -/
def Panel.trainDie (p : Panel) (wires : List (Nat × Nat × Nat)) (s : Nat) : Panel :=
  p.each (List.range (faceCount s)) fun p e =>
    if !poweredBefore (facing s e).1 s || !p.peersOk s e then p
    else p.each (faceBundles e) fun p b =>
      let (f, fb) := farBundle s b
      let at_ (t k : Nat) : List Nat := (wires.filter fun x => x.1 = t && x.2.1 = k).map (·.2.2)
      (p.trainBundle s b (at_ f fb) (at_ s b)).trainBundle f fb (at_ s b) (at_ f fb)

/-- A memory die trains its channels (R497): those that fail are bad for this boot. In a cold reset its tables are all ones
already; in a warm one they are kept, and the summaries are rebuilt (R282). -/
def Panel.trainMemory (p : Panel) (m : Mem) (failed : List (Nat × Nat)) (md : Nat) : Panel :=
  let p := p.each (List.range 8) fun p ch => if failed.contains (md, ch) then p.badThisBoot md (16 + ch) else p
  if p.boot.cornerSlot then p.modMemDie md fun d => { d with selfRefresh := false } else p.wakeMemory m md

/-- Slot `w` of the waves begins (R42): wave `w` turns on, and the dies of `provedIn w` are put under test. -/
def Panel.waveSlot (p : Panel) (m : Mem) (failed channels : List (Nat × Nat)) (wires : List (Nat × Nat × Nat)) : Panel :=
  let w := p.boot.slot
  if p.boot.phase ≠ .waves || 40 ≤ w then p
  else
    let p := if w = 0 then p.setField sitePD Csr.PWR_RST_STATUS_STEP 7 else if w = 1 then p.stepDone 7 else p
    let up := (waveSites w ++ waveEdgeDies w)
    let p := p.each up fun p s => p.bootDie failed s
    let p := p.each (up.filter fun s => dieClass s = .memory) fun p md => p.modMemDie md fun d => { d with selfRefresh := true }
    let test := (provedIn w).filter fun s => !p.noPower s
    let p := (p.forgetReports test).each test fun p s => p.trainDie wires s
    let p := p.each (test.filter fun s => dieClass s = .memory) fun p md => p.trainMemory m channels md
    p.modBoot fun b => { b with slot := w + 1 }

/-- The reports of the dies under test are due (R42), and their memories hold no data (R41); a die that is never powered is never
tested (R31). -/
def Panel.proofDeadline (p : Panel) : Panel :=
  if p.boot.phase ≠ .waves || p.boot.slot = 0 then p
  else
    let test := (provedIn (p.boot.slot - 1)).filter fun s => !p.noPower s
    let p := p.collectReports test
    let p := p.each (test.filter (· < 400)) fun p s => p.memoryBist s 31
    p.each test fun p s => p.raiseIf ((p.testers p.plan.reports s).any fun t =>
      outcomeOf p.plan.reports t s 1 = some .noResponse) p.primary 0x0E07

/-! ### The broadcast tree and tree routes (R316, R498) -/

/-- An edge joins two usable dies by at least one bundle that is up. -/
def Panel.edgeUsable (p : Panel) (s e : Nat) : Bool :=
  p.logicGood (facing s e).1 && (faceBundles e).any fun b =>
    let (f, fb) := farBundle s b
    p.azState s b = azUp && p.azState f fb = azUp && p.bundleGood s (64 + b)

/-- A tree grows by the dies that its dies reach, as (die, parent), in order. -/
def Panel.growTree (p : Panel) : Nat → List (Nat × Nat) → List (Nat × Nat)
  | 0, t => t
  | n + 1, t => p.growTree n (t.foldl (fun t x => (List.range (faceCount x.1)).foldl (fun t e =>
      let f := (facing x.1 e).1
      if p.edgeUsable x.1 e && !(t.any fun y => y.1 = f) then t ++ [(f, x.1)] else t) t) t)

/-- The parent list of the acting primary die: its own entry names itself. -/
def Panel.parentList (p : Panel) : List (Nat × Nat) := p.growTree siteCount [(p.primary, p.primary)]

/-- The first face of a die that leads to another by an edge in use; 7 when there is none. -/
def Panel.faceTo (p : Panel) (s t : Nat) : Nat :=
  match (List.range (faceCount s)).find? fun e => (facing s e).1 = t && p.edgeUsable s e with
  | some e => e
  | none => 7

/-- The path from a die up to the root of a parent list. -/
def treePath (t : List (Nat × Nat)) : Nat → Nat → List Nat
  | 0, s => [s]
  | n + 1, s =>
    match t.find? fun x => x.1 = s with
    | some x => if x.2 = s then [s] else s :: treePath t n x.2
    | none => [s]

/-- The die that comes before `s` on a path: the child of `s` whose subtree holds the path's first die. -/
def childOn : List Nat → Nat → Option Nat
  | a :: b :: l, s => if b = s then some a else childOn (b :: l) s
  | _, _ => none

/-- The tree route of a die to a destination: 4 at the destination, the child whose subtree holds it, else the parent (R498). -/
def Panel.treeCode (p : Panel) (t : List (Nat × Nat)) (s d : Nat) : Nat :=
  if !(t.any fun x => x.1 = d) then 15
  else if s = d then 4
  else match childOn (treePath t siteCount d) s with
    | some c => p.faceTo s c
    | none => match t.find? fun x => x.1 = s with
      | some x => p.faceTo s x.2
      | none => 15

/-- Every die takes its broadcast entry, its packet rigging and its tree routes from the parent list (R498). -/
def Panel.rigTree (p : Panel) : Panel :=
  let t := p.parentList
  p.each (t.map (·.1)) fun q s =>
    let children := (List.range (faceCount s)).filter fun e => p.edgeUsable s e
      && (t.any fun x => x.1 = (facing s e).1 && x.2 = s && x.1 ≠ s) && p.faceTo s (facing s e).1 = e
    let parent := match t.find? fun x => x.1 = s with
      | some x => if x.2 = s then 7 else p.faceTo s x.2
      | none => 7
    let q := (q.setFlag s Csr.FAB_BTREE_LOCAL true).setField s Csr.FAB_BTREE_CHILD (children.map fun e => 2 ^ e).sum
    let q := (q.setField s Csr.FAB_BTREE_PARENT parent).setFlag s Csr.FAB_BTREE_VALID true
    let q := q.each (List.range (16 * faceCount s)) fun q b =>
      if p.azState s b = azUp && p.bundleGood s (64 + b) then
        (q.setField s (Csr.FAB_RIG (b / 16)) (putBits (q.field s (Csr.FAB_RIG (b / 16))) (2 * (b % 16)) 2 2)).setField s
          (Csr.AZL_BUNDLE_ROLE b) 2
      else q
    q.each allSites fun q d => let c := p.treeCode t s d; q.setField s (Csr.FAB_RT d) (c + 16 * c)

/-! ### Registration and echo (R76, R77) -/

/-- Step 13 of R496: the crossings are registered with the raw latencies measured, as (site, bundle, raw), each die takes its
tree delay in nominal cycles, and a die whose echo is missing, or takes more than 800 ns, is unusable for this boot. -/
def Panel.registerAll (p : Panel) (raws : List (Nat × Nat × Nat)) (delays : List (Nat × Nat)) (silent : List Nat) : Panel :=
  let p := p.each raws fun p x => if p.azState x.1 x.2.1 = azBad then p else p.registerBundle x.1 x.2.1 x.2.2
  let lost := distinct (silent ++ (delays.filter fun x => 500 < x.2).map (·.1))
  let p := p.each delays fun p x => p.setField x.1 Csr.CLK_TREE_DELAY (min 0x3FF x.2)
  let p := p.each lost fun p s => (p.badThisBoot s 1).raise p.primary 0x0305
  let p := p.each (allSites.filter p.logicGood) fun p s =>
    (p.setFlag s Csr.CLK_CTRL_FIXED false).setFlag s Csr.CLK_STATUS_REGISTERED true
  let late := raws.any fun x => p.plan.bootBad.contains (x.1, 64 + x.2.1)
  if lost.isEmpty && !late then p else (p.merge 0).darkenBad

/-! ### The end of proof (R43, R44, R500) -/

/-- AD takes over at the end of proof (R500), before the floor plan is published. -/
def Panel.takeOverAtProof (p : Panel) : Panel :=
  let p := p.modBoot fun b => { b with primary := siteAD, flashSel := true, refFrom := siteAD }
  let p := p.takePanelTime.setFlag sitePD Csr.PWR_RST_STATUS_AD_PRIMARY true
  let p := p.each [0, 1] fun p d => p.darken sitePD d
  (p.raise siteAD 0x0E0B).noteChange 4

/-- In slot 40 the testers of a corner die read the log that its BIST left and fold it (R43). The log does not say which unit a
snapshot belongs to: each unit's signature is that of the whole stream (DESIGN CHOICE: notes/assumptions/142.md). -/
def Panel.foldLog (p : Panel) (c : Nat) : Panel :=
  p.each ((facingDies c).filter p.lives) fun p t => p.foldStream t c (p.cornerLog c)

/-- Proof ends, and steps 9 to 13 of R496 run; step 14 begins with the ports' roles of the rigging
settings. -/
def Panel.endProof (p : Panel) (raws : List (Nat × Nat × Nat)) (delays : List (Nat × Nat)) (silent : List Nat) : Panel :=
  if p.boot.phase ≠ .waves || p.boot.slot < 40 then p
  else
    let corners := [sitePD, siteHD, siteTD, siteAD]
    let p := if p.boot.cornerSlot then
        ((p.each corners fun p c => p.foldLog c).collectReports corners).judge allSites
      else p.judge (List.range 464)
    let p := (p.stepDone 8).stepDone 9
    let pd := p.mergedState sitePD 1 = .good
    let ad := p.mergedState siteAD 1 = .good && p.isSet sitePD Csr.PWR_RST_STATUS_AD_STANDBY
    if !pd && !ad then (p.raise p.primary 0x0E0C).bootFailed 9 .stopped
    else
      let p := if pd || p.primary = siteAD then p else p.takeOverAtProof
      let p := (p.merge 1).darkenBad.stepDone 10
      let p := (p.rigTree.stepDone 11).stepDone 12
      let p := (p.registerAll raws delays silent).stepDone 13
      let p := if p.tack.settings then p.each linkSites fun p s => p.setPanelId s p.tack.panelId else p
      let p := { p with fabric := { p.fabric with memRate := p.tack.memRate } }
      let p := p.each (p.tack.rigging.map (·.1)) fun p q => if q < 128 then p.rigFromSettings q else p
      p.modBoot fun b => { b with phase := .rigging, slot := 41 }

/-! ### READY (R496 step 15, R499) -/

/-- At READY, firmware clears TRIAL in the descriptor, or burns what R543 and R544 say. -/
def Panel.settleImage (p : Panel) : Panel :=
  if p.isSet sitePD Csr.PWR_RST_STATUS_TRIAL then
    (p.writeDesc { p.desc with trial := 0 }).setFlag sitePD Csr.PWR_RST_STATUS_TRIAL false
  else p.raiseMinSvn

/-- Bring-up is complete: ports still training are left down with 0x0B0E, clusters stay dark until a lock-up, and READY is
set. -/
def Panel.bringUpReady (p : Panel) : Panel :=
  if p.boot.phase ≠ .rigging then p
  else
    let p := p.each (List.range 128) fun p q =>
      let role := p.portRole q
      if (role = 1 || role = 2) && !p.portUp q && !(p.port q).trained then (p.setPortState q 3).raisePort q 0x0B0E else p
    let p := p.each (List.range 400) fun p s => p.darkClusters s
    let p := (p.stepDone 14).stepDone 15
    let p := p.modBoot fun b => { b with phase := .ready }
    p.settleImage.endReset

/-! ### The commands -/

/-- FLASH_FREE (R495). -/
def execFlashFree (s : State) : Host.Outcome State Fault Refusal := .next (s.quiet fun p => p.flashFree)

/-- POWER_WAVE_SLOT (R42): the domains, as (site, domain), that fail power good; the channels, as (site, channel), that fail
training; the wires that fail, as (site, bundle, wire). -/
def execPowerWaveSlot (failed channels : List (Nat × Nat)) (wires : List (Nat × Nat × Nat)) (s : State) :
    Host.Outcome State Fault Refusal :=
  .next (s.store fun m p => p.waveSlot m failed channels wires)

/-- PROOF_REPORT_DEADLINE (R42). -/
def execProofReportDeadline (s : State) : Host.Outcome State Fault Refusal := .next (s.store fun _ p => p.proofDeadline)

/-- CORNER_PROOF_SLOT (R43): the end of proof; raw latencies of crossings, tree delays, and dies whose echo is missing. -/
def execCornerProofSlot (raws : List (Nat × Nat × Nat)) (delays : List (Nat × Nat)) (silent : List Nat) (s : State) :
    Host.Outcome State Fault Refusal :=
  .next (s.store fun _ p => p.endProof raws delays silent)

/-- BCAST_VERIFY_REPORT (R317). -/
def execBcastVerifyReport (site : Nat) (ok : Bool) (s : State) : Host.Outcome State Fault Refusal :=
  .next (s.store fun _ p => (p.bcastVerified site ok).darkenBad)

/-- BRING_UP_READY (R496 step 15). -/
def execBringUpReady (s : State) : Host.Outcome State Fault Refusal := .next (s.store fun _ p => p.bringUpReady)

end Sys2Proof.Machine
end

