-- ==== Sys2Proof/Machine/LockUp.lean ====
section
/-! DEFINITION. Lock-up (R387–R406): reading, verifying and checking a forme, the detour and final routes, the load, the first
stroke; and the restart after a compute reset of standalone containment (R438). -/

namespace Sys2Proof.Machine

/-! ### Refusal (R391) -/

/-- FRM_STATUS takes the KIND and the region of the forme at an address. -/
def Panel.showForme (p : Panel) (m : Mem) (b : Nat) : Panel :=
  let full := m.nat (b + 6) 1 = 0
  let one := match maskRegions (m.nat (b + 0xE) 2) with
    | r :: _ => r
    | [] => 0
  let p := (p.setField sitePD Csr.FRM_STATUS_LOADED 0).setField sitePD Csr.FRM_STATUS_TOTAL 0
  (p.setField sitePD Csr.FRM_STATUS_REGION (if full then 0 else one)).setFlag sitePD Csr.FRM_STATUS_FULL full

/-- A lock-up is refused by a check: PHASE reads rejected, and FRM_DETAIL and FRM_CONFLICT name what failed; the range of a
conflict is named by its first granule. -/
def Panel.refuseForme (p : Panel) (bad : FormeBad) (claims : Option (Claim × Claim)) : Panel :=
  let p := (p.setField sitePD Csr.FRM_DETAIL_SECTION bad.2.1).setField sitePD Csr.FRM_DETAIL_RECORD bad.2.2
  let p := p.setField sitePD Csr.FRM_DETAIL_CODE bad.1
  let p := match claims with
    | some (c, d) =>
      let index := if c.kind = 8 then c.index / 1024 else c.index
      let p := (p.setField sitePD Csr.FRM_CONFLICT_KIND c.kind).setField sitePD Csr.FRM_CONFLICT_INDEX index
      (p.setField sitePD Csr.FRM_CONFLICT_CLAIMANT c.who).setField sitePD Csr.FRM_CONFLICT_INFORCE d.who
    | none => p
  (p.phase 10).raise p.primary bad.1

/-! ### Routes (R308, R400, R402) -/

/-- Every usable router's version `v` takes the codes of a nibble of ROUTE_TABLE; a die without a record keeps the routes in
force. -/
def Panel.writeRoutes (p : Panel) (m : Mem) (secs : List FormeSection) (nib v : Nat) : Panel :=
  let now := p.field p.primary Csr.FAB_STATUS_EPOCH
  let recs := (recsOf m secs 4).map fun x => x.2.2
  p.each p.routerDies fun p s =>
    let rec_ := recs.find? fun a => m.nat a 2 = s
    p.each allSites fun p d =>
      let code := match rec_ with
        | some a => bitsOf (m.nat (a + 0xC + d) 1) (4 * nib) 4
        | none => p.routeCode s d now
      p.setField s (Csr.FAB_RT d) (putBits (p.field s (Csr.FAB_RT d)) (4 * (v % 2)) 4 code)

/-- The lock-up's flip to the detour (nibble 0) or final (nibble 1) routes begins, or waits for a flip in progress. -/
def Panel.lockFlip (p : Panel) (m : Mem) (nib : Nat) : Panel :=
  if !p.lockUp.hasRoutes then p
  else if p.isSet p.primary Csr.FAB_STATUS_FLIPPING then { p with lockUp := { p.lockUp with flipWaits := true } }
  else
    let v := (p.field p.primary Csr.FAB_STATUS_EPOCH + 1) % 2
    let p := ({ p with lockUp := { p.lockUp with flipWaits := false } } : Panel)
    (p.writeRoutes m p.lockUp.panel nib v).flipRoutes

/-- The lock-up's flip has drained. -/
def Panel.lockDrained (p : Panel) : Bool :=
  !p.lockUp.hasRoutes || (!p.lockUp.flipWaits && p.isSet p.primary Csr.FAB_STATUS_OLD_DRAINED)

/-- A full lock-up writes both versions, and every injection epoch and PEPOCH is 0 (R400). -/
def Panel.fullRoutes (p : Panel) (m : Mem) (secs : List FormeSection) : Panel :=
  let p := (p.writeRoutes m secs 0 0).writeRoutes m secs 1 1
  let p := p.each allSites fun p s => (p.setField s Csr.FAB_STATUS_EPOCH 0).setFlag s Csr.FAB_STATUS_FLIPPING false
  let p := p.each linkSites fun p ld =>
    ((p.setField ld Csr.LNK_STATUS_PEPOCH 0).setFlag ld Csr.LNK_STATUS_FLIPPING false).modLink ld fun x => { x with flipping := false }
  { (p.setField sitePD Csr.LNK_STATUS_PEPOCH 0).setField siteAD Csr.LNK_STATUS_PEPOCH 0 with
      fabric := { p.fabric with notIdle := [], drainedBy := [], portFlippedBy := [], portFlipAt := none } }

/-! ### Ends -/

/-- A lock-up ends: routes around lost dies may be written again, and a reset that waited is requested. -/
def Panel.endLockUp (p : Panel) (m : Mem) (ph : Nat) : Panel :=
  ((({ p with lockUp := {} } : Panel).phase ph).reroute).resetAfterLockUp m

/-- A region of the lock-up stays tied and out of service, with a code. -/
def Panel.stayTied (p : Panel) (r code : Nat) : Panel :=
  ((p.setField sitePD (Csr.FRM_R_STATE_STATE r) 1).tieRegion r true).raiseRegion r code

/-! ### The load (R396) -/

/-- A region's dies of before that its new forme does not have leave it, with p = 64 and VCLUSTER = 750 mV from then on (R472). -/
def Panel.leaveSites (p : Panel) (old new : List Nat) : Panel :=
  p.each (old.filter fun s => !new.contains s) fun p s =>
    let p := ((p.quietDie s).setField s Csr.STK_STATUS 0).setField s Csr.STK_SEQ_PAGES 0
    let p := (p.periodWrite s 64 true).setVset s 750
    p.each (List.range 4) fun p c => p.want s c 0

/-- Steps 1 to 5 of R396 for a region, and step 6 begins: the clusters of the imposition are requested. `tied` says that the
region is tied as it loads. -/
def Panel.loadRegion (p : Panel) (m : Mem) (d : FormeRegion) (imp : Nat) (secs : List FormeSection) (regs : List FormeRegion)
    (tied : Bool) : Panel :=
  let r := d.region
  let old := (p.region r).sites
  let p := (p.leaveSites old d.rec_.sites).replaceRequest r
  let p := p.modRegion r fun _ =>
    { sites := d.rec_.sites, forme := d, restartedAt := p.now, inForce := d.imp imp }
  let p := if tied then p.tieRegion r true else p
  let p := p.dropLinks r
  let p := p.rigRegionRecs m secs regs d
  let p := p.each ((recsOf m d.sections 0xE).map fun x => x.2.2) fun p a => p.setoffRec m d a
  let p := (p.loadTraces m d imp).loadStk d imp
  let p := (p.setField sitePD (Csr.FRM_R_IMP_CURRENT r) imp).setField sitePD (Csr.FRM_R_IMP_COUNT_M1 r) (d.rec_.impCount - 1)
  let p := p.each d.rec_.sites fun p s => ((p.quietDie s).freshGalleys s).loadDie m d imp s
  let p := p.each d.images fun p im => p.copyPages m d imp im
  let p := p.each d.images fun p im => match (d.imp imp).bind fun i => i.siteOf im.image with
    | some s => p.loadCores m d imp im s
    | none => p
  let p := (p.loadConsts m d imp true false).1
  (p.loadSync m d imp).rewarm r

/-- What a region's registers on PD begin at: counts since lock-up, and the draw controller's values (R470, R473, R487). -/
def Panel.freshRegion (p : Panel) (r : Nat) : Panel :=
  let f (p : Panel) (x : Fld) : Panel := p.setField sitePD x 0
  let p := f (f (f (f p (Csr.ERR_R_COUNT_CORRECTIONS r)) (Csr.ERR_R_COUNT_RESTARTS r)) (Csr.ERR_R_STATE_ABORTS r))
    (Csr.ERR_R_STATE_SKIPPED r)
  let p := f (f (f (f p (Csr.STK_R_SLURS r)) (Csr.STK_R_SHEET r)) (Csr.STK_R_STROKE r)) (Csr.FRM_R_GAP r)
  let p := p.each (p.region r).sites fun p s => if s < 400 then (p.setField sitePD (Csr.ERR_SUSPECT_CORRECTIONS s) 0).setField s Csr.STK_SLUR_COUNT 0 else p
  let p := p.setField sitePD (Csr.DRW_R_STATE_C r) 100
  { p with drawSide := { p.drawSide with band := SMap.set (fun _ => 0) p.drawSide.band r 0
                                         volts := SMap.set (fun _ => 750) p.drawSide.volts r 750
                                         overRegion := SMap.set (fun _ => 0) p.drawSide.overRegion r 0 } }

/-- The initial commit record in the first slot, and zero over the second (R399). -/
def Panel.writeInitial (p : Panel) (r imp : Nat) : Panel :=
  let a := p.field sitePD (Csr.STK_R_COMMIT_ADDR r)
  let w : SheetWait := { region := r, sheet := 0xFFFFFFFF, ctxs := [], stroke := 0, imposition := imp, tick := 0 }
  (p.acceptRows a [⟨p.recordBytes w 0, false⟩, ⟨List.replicate 64 0, false⟩] none).1

/-- Every address that a region's load writes is populated, and its dies are there (R396). -/
def Panel.loadable (p : Panel) (d : FormeRegion) : Bool :=
  p.rangePopulated d.rec_.commitAddr 128
    && (d.images.all fun im => p.rangePopulated im.addr (65536 * im.pages))
    && (d.rec_.sites.all fun s => !p.contain.lost.contains s && p.logicGood s)
    && (d.runs d.rec_.defaultImp).all fun x => (List.range 4).all fun c =>
      !bitOf x.2 c || p.field x.1 (Csr.PWR_DOM_STATE c) ≠ domFailed

/-- Steps 7 and 8 of R396, and the slice constants of step 4, once the clusters are up; a page that loads foxed, or a write that
fails, leaves the region tied with 0x0114. -/
def Panel.finishRegion (p : Panel) (m : Mem) (d : FormeRegion) : Panel :=
  let r := d.region
  let imp := d.rec_.defaultImp
  let (p, wrote) := p.loadConsts m d imp false true
  let (p, clean) := p.loadEntryPages m d imp
  if !wrote || !clean || !p.loadable d then p.stayTied r 0x0114
  else
    let f := Csr.FRM_R_SEQ r
    let p := (p.setField sitePD f ((p.field sitePD f + 1) % 2 ^ 32)).writeInitial r imp
    let p := p.setFlag sitePD (Csr.FRM_R_STATE_INITIAL r) true
    let p := { p with fuses := { p.fuses with formeDigest := SMap.set (fun _ => []) p.fuses.formeDigest r p.lockUp.digest } }
    let p := p.setField sitePD Csr.FRM_STATUS_LOADED (p.field sitePD Csr.FRM_STATUS_LOADED + d.rec_.sites.length)
    p.setField sitePD (Csr.FRM_R_STATE_STATE r) 3

/-- A loaded region begins service: stroke 0 is stamped, or waits for RUN (R400, R404 step 8, R480). -/
def Panel.beginService (p : Panel) (r : Nat) : Panel :=
  let p := (p.setField sitePD (Csr.FRM_R_STATE_STATE r) 4).setFlag sitePD (Csr.STK_R_CTRL_RUNNING r) true
  if p.drawMode = 2 then p.stampFirst r 0
  else (p.modRegion r fun g => { g with stopped := 1, first := true }).restRegion r

/-- The panel address of the forme of the lock-up in progress. -/
def Panel.formeAddr (p : Panel) : Nat := p.field sitePD Csr.FRM_SRC_ADDR

/-- The floor-plan check again, when the plan has been merged since (R393). -/
def Panel.recheckFails (p : Panel) (m : Mem) : Bool :=
  p.lockUp.mergeSeq ≠ p.field sitePD Csr.BST_FP_SEQ
    && (let x := p.formeCtx m p.formeAddr
        if p.lockUp.exact then !x.digestSame else !x.floorBad.isEmpty)

/-- The dies of the lock-up under a field BIST (spec/02 and spec/16, cases). -/
def Panel.lockBist (p : Panel) : Bool := p.lockUp.defs.any fun d => d.rec_.sites.any p.underBist

/-- The load begins (R396 steps 1 to 6). -/
def Panel.beginLoad (p : Panel) (m : Mem) : Panel :=
  let full := p.lockUp.kind = 0
  let secs := p.lockUp.panel
  let regs := p.lockUp.defs
  let p := p.phase 6
  let p := if full then
      let p := p.fullRoutes m secs
      { p with fabric := { p.fabric with containMode := p.lockUp.contain, shards := [] } }
    else p
  let p := p.rigPanel m secs
  let p := p.each regs fun p d =>
    let p := p.setField sitePD (Csr.FRM_R_STATE_STATE d.region) 2
    (p.loadRegion m d d.rec_.defaultImp secs regs (!full)).freshRegion d.region
  { p with lockUp := { p.lockUp with powering := true } }

/-- Once every cluster is up, the load ends (R396 steps 7 and 8); a full lock-up then begins service, a partial one unties its
region and flips to the final routes. -/
def Panel.endLoad (p : Panel) (m : Mem) : Panel :=
  let regs := p.lockUp.defs
  if !regs.all fun d => p.clustersUp d d.rec_.defaultImp || !p.loadable d then p
  else
    let p := p.each regs fun p d => p.finishRegion m d
    let good := regs.filter fun d => p.field sitePD (Csr.FRM_R_STATE_STATE d.region) = 3
    if good.isEmpty then p.endLockUp m 11
    else if p.lockUp.kind = 0 then
      let p := p.each allSites fun p s => p.each (List.range (faceCount s)) fun p e => p.untieEdge s e
      (p.each good fun p d => p.beginService d.region).endLockUp m 9
    else
      let p := p.phase 7
      let p := p.each good fun p d => p.each (borderEdges d.rec_.sites) fun p x => p.untieEdge x.1 x.2
      p.lockFlip m 1

/-! ### The steps -/

/-- A forme of KIND 2 is applied: the region's impositions change, and what its images hold stays (R363). -/
def Panel.applyPatch (p : Panel) (m : Mem) (d : FormeRegion) (digest : List Byte) : Panel :=
  let r := d.region
  let p := p.modRegion r fun g => { g with forme := d, newRelocs := true }
  let p := { p with fuses := { p.fuses with formeDigest := SMap.set (fun _ => []) p.fuses.formeDigest r digest } }
  (p.setField sitePD (Csr.FRM_R_IMP_COUNT_M1 r) (d.rec_.impCount - 1)).endLockUp m 9

/-- The stop tick is asked for, or the region stops at once when it is not running (R401, R404 steps 4 and 5). -/
def Panel.awaitStop (p : Panel) (r : Nat) : Panel :=
  let g := p.region r
  if p.running r && g.stopped = 0 && p.isSet sitePD (Csr.STK_R_CTRL_ENABLE r) || g.abortAt.isSome then
    (p.phase 4).modRegion r fun g => { g with stopAtTick := true }
  else p.stopForLockUp r

/-- FRM_CTRL.START: the forme is read, verified and checked (R387–R393), and a full, partial or imposition lock-up begins. -/
def Panel.startLockUp (p : Panel) (m : Mem) : Panel :=
  let p := p.setFlag sitePD Csr.FRM_CTRL_START false
  if p.isSet sitePD Csr.FRM_STATUS_BUSY || !p.isSet sitePD Csr.PWR_RST_STATUS_READY then p.raise p.primary 0x0110
  else
    let b := p.formeAddr
    let len := p.field sitePD Csr.FRM_SRC_LEN
    if !p.headerOk m b len then (p.showForme m b).refuseForme (0x0101, 0, 0) none
    else match p.verifyForme m b with
      | some code => p.raise p.primary code
      | none =>
        let x := p.formeCtx m b
        match x.firstBad with
        | some (bad, claims) => (p.showForme m b).refuseForme bad claims
        | none =>
          let p := p.raiseIf (m.nat (b + 7) 1 = 0 && !x.digestSame) p.primary 0x0120
          let digest := Config.sha384 (m.read b (sigOffset m b))
          let p := p.showForme m b
          let total := (x.regs.map fun d => d.rec_.sites.length).sum
          let p := p.setField sitePD Csr.FRM_STATUS_TOTAL total
          let p := (p.phase 1).phase 2
          let p := { p with lockUp :=
            { kind := x.kind, defs := x.regs, panel := x.secs.filter fun s => s.type ≤ 4, contain := m.nat (b + 0x56) 1
              mergeSeq := p.field sitePD Csr.BST_FP_SEQ, exact := m.nat (b + 7) 1 = 1
              hasRoutes := x.kind = 1 && !(ofType x.secs 4).isEmpty, digest := digest } }
          match x.kind, x.regs with
          | 2, d :: _ => p.applyPatch m d digest
          | 1, d :: _ => if p.lockUp.hasRoutes then (p.phase 3).lockFlip m 0 else p.awaitStop d.region
          | _, _ => p.phase 6

/-- LOCKUP_DETOUR_DRAINED's effect: with the detour version drained, the region's stop tick is awaited. -/
def Panel.detourDrained (p : Panel) (m : Mem) : Panel :=
  if p.field sitePD Csr.FRM_STATUS_PHASE ≠ 3 then p
  else if p.lockUp.flipWaits then p.lockFlip m 0
  else if !p.lockDrained then p
  else match p.lockRegions with
    | r :: _ => p.awaitStop r
    | [] => p

/-- LOCKUP_TIED_DRAINED's effect: with its galleys drained and no BIST on its dies, the region loads. -/
def Panel.tiedDrained (p : Panel) (m : Mem) : Panel :=
  let ph := p.field sitePD Csr.FRM_STATUS_PHASE
  if ph ≠ 5 && ph ≠ 6 then p
  else if p.recheckFails m then (p.each p.lockRegions fun p r => p.stayTied r 0x0105).endLockUp m 11
  else
    let p := { p with lockUp := { p.lockUp with mergeSeq := p.field sitePD Csr.BST_FP_SEQ } }
    if p.lockUp.powering then p.endLoad m
    else if !(p.lockRegions.all p.galleysIdle) || p.lockBist then p
    else (p.beginLoad m).endLoad m

/-- LOCKUP_FINAL_DRAINED's effect: with the final version drained, stroke 0 is stamped (R404 step 8). -/
def Panel.finalDrained (p : Panel) (m : Mem) : Panel :=
  if p.field sitePD Csr.FRM_STATUS_PHASE ≠ 7 then p
  else if p.lockUp.flipWaits then p.lockFlip m 1
  else if !p.lockDrained then p
  else ((p.phase 8).each p.lockRegions fun p r => p.beginService r).endLockUp m 9

/-- FRM_CTRL.ABORT (R406): accepted in phases 1 to 3, and leaves every region as it was. -/
def Panel.abortLockUp (p : Panel) (m : Mem) : Panel :=
  let p := p.setFlag sitePD Csr.FRM_CTRL_ABORT false
  let ph := p.field sitePD Csr.FRM_STATUS_PHASE
  if 1 ≤ ph && ph ≤ 3 then p.endLockUp m 11 else p

/-! ### Standalone containment (R438) -/

/-- The compute reset of standalone containment: every running region is loaded from its staged forme under R396 and restarts
from its restart point under R440; 0x1223 follows the last restart. -/
def Panel.standaloneReset (p : Panel) (m : Mem) (code : Nat) : Panel :=
  let regs := allRegions.filter p.running
  let p := p.each regs fun p r => p.abortRegion r code false
  let p := (p.abandonLockUp.beginReset 3 0 0).resetComputeDies m
  let p := p.each regs fun p r =>
    let d := (p.region r).forme
    let imp := p.field sitePD (Csr.FRM_R_IMP_CURRENT r)
    let p := p.each d.rec_.sites fun p s => ((p.quietDie s).freshGalleys s).loadDie m d imp s
    let p := p.each d.images fun p im => p.copyPages m d imp im
    let p := p.each d.images fun p im => match (d.imp imp).bind fun i => i.siteOf im.image with
      | some s => p.loadCores m d imp im s
      | none => p
    let p := (p.loadConsts m d imp true false).1
    p.loadSync m d imp
  let p := p.modContain fun k => { k with resetRegions := regs }
  p.endReset

/-! ### The commands -/

/-- FRM_START (R387–R393). -/
def execFrmStart (s : State) : Host.Outcome State Fault Refusal := .next (s.store fun m p => p.startLockUp m)

/-- FRM_ABORT (R406). -/
def execFrmAbort (s : State) : Host.Outcome State Fault Refusal := .next (s.store fun m p => p.abortLockUp m)

/-- LOCKUP_DETOUR_DRAINED (R404 step 4). -/
def execLockupDetourDrained (s : State) : Host.Outcome State Fault Refusal := .next (s.store fun m p => p.detourDrained m)

/-- LOCKUP_TIED_DRAINED (R396, R404 step 6); while clusters turn on, a later one completes the load. -/
def execLockupTiedDrained (s : State) : Host.Outcome State Fault Refusal := .next (s.store fun m p => p.tiedDrained m)

/-- LOCKUP_FINAL_DRAINED (R404 step 8). -/
def execLockupFinalDrained (s : State) : Host.Outcome State Fault Refusal := .next (s.store fun m p => p.finalDrained m)

end Sys2Proof.Machine
end

