-- ==== Sys2Proof/Machine/Access.lean ====
section
/-! DEFINITION. Register and memory accesses from outside the units: the host through BAR0 and BAR2, tack, and the DMA engine
of HD. A register write does what its field types and the chapter that owns the register say (R5, R6, R502, R537). -/

namespace Sys2Proof.Machine

/-! ### Which dies and registers answer (R510, R537) -/

/-- A die answers register accesses: it is powered, usable in the floor plan and not in reset (R510). -/
def Panel.answers (p : Panel) (s : Nat) : Bool :=
  s < siteCount && p.lives s && p.logicGood s && !p.contain.lost.contains s &&
    match p.boot.resetting with
    | some (5, x, _) => x ≠ s
    | _ => true

/-- A tack link is up: both agents are powered, and PD has not marked it down (R521, R526). -/
def Panel.tackUp (p : Panel) (s i : Nat) : Bool :=
  match (tackLinks s)[i]? with
  | some n => p.lives s && p.lives n && !(p.agent s).down.contains i
  | none => false

/-- The tack links of a die that are up, as a mask. -/
def Panel.tackMask (p : Panel) (s : Nat) : Nat := ((List.range 5).map fun i => 2 ^ i * flag (p.tackUp s i)).sum

/-- An offset lies in a range of a CSR window. -/
def offIn (o lo hi : Nat) : Bool := lo ≤ o && o < hi

/-- Registers of a compute die that lock-up writes, whose writes are ignored while the die's region runs: the sequencer and
sync registers, GAL, SPR windows and descriptors, JUS, ERR_RSV, DEN_CHECK_CFG, DEN_BOUND, DRW_TOK_ALLOW, the rigging, and the
instruction memories (the register sections of spec/05, 07, 09, 10, 11, 12, 17, 18). -/
def lockUpWrites (o : Nat) : Bool :=
  offIn o 0x40 0x2000 || offIn o 0x60004 0x61000 || offIn o 0x70800 0x71000 || offIn o 0x71200 0x71400
    || offIn o 0x80000 0xA0000 || offIn o 0xA0020 0xA0040 || o = 0xA8008 || offIn o 0xA8200 0xA8300 || o = 0x20400
    || offIn o 0x50040 0x50050 || offIn o 0x200000 0x400000

/-- A write to a register is ignored because a region that uses it runs. -/
def Panel.writeLocked (p : Panel) (s o : Nat) : Bool :=
  let owner (q : Nat) : Bool := !p.isSet s (Csr.LNK_P_ROLE_TRANSIT q) && p.running (p.field s (Csr.LNK_P_ROLE_OWNER q))
  if offIn o 0x52000 0x52400 then
    let t := (o - 0x52000) / 4
    p.isSet s (Csr.FAB_TRACE_VALID t) && p.running (p.field s (Csr.FAB_TRACE_REGION t))
  else match dieClass s with
    | .compute => p.dieRunning s && lockUpWrites o
    | .link =>
      if offIn o 0xE0000 0xE1000 then
        let j := (o - 0xE0000) / 32
        p.isSet s (Csr.LNK_CTX_VALID j) && p.running (p.field s (Csr.LNK_CTX_REGION j))
      else if offIn o 0xC3000 0xC3400 then owner ((o - 0xC3000) / 256)
      else if offIn o 0xC3900 0xC3940 then owner ((o - 0xC3900) / 16)
      else false
    | .pd | .ad => offIn o 0x100 0x900 && (o - 0x100) % 128 = 0 && p.running ((o - 0x100) / 128)
    | _ => false

/-! ### Reading (R5, R6) -/

/-- DEN_STATUS, SPA_STATUS, JUS_STATUS and SPR_STATUS of a compute die as its ports stand in its present die cycle. -/
def Panel.portStatus (p : Panel) (s : Nat) : Panel :=
  let p := (p.engineStatus s).setSlot12 s (p.slot12Ops s)
  p.each (List.range 4) fun p c => p.showCopy s c

/-- The bytes of registers that are wired to something else than a stored word: the die's panel-time count, its tack links, the
edges that are down, its ports, an attestation in progress, the serial, the identity key and the fused MAC addresses, from the word
at `o`. -/
def Panel.liveWord (p : Panel) (s o : Nat) : Option Nat :=
  let ad := flag (s = siteAD)
  if o = Csr.TCK_STATUS.off then some (putBits (p.word s o).toNat 0 5 (p.tackMask s))
  else if o = Csr.FAB_STATUS.off then some (putBits (p.word s o).toNat Csr.FAB_STATUS_EDGE_DOWN.lsb 4 (p.edgesDown s))
  else if o / 8 * 8 = Csr.CLK_PTIME.off then some ((p.dieTime s).toNat / 2 ^ (8 * (o % 8)) % 2 ^ 32)
  else match dieClass s with
    | .compute =>
      if hasNat [Csr.DEN_STATUS.off, Csr.SPA_STATUS.off, Csr.JUS_STATUS.off, Csr.SPR_STATUS.off] o then
        some ((p.portStatus s).word s o).toNat
      else none
    | .pd | .ad =>
      if o = Csr.SEC_STATUS_BUSY.off && s = p.primary then
        let w := (p.word s o).toNat
        some (putBits (if p.attesting then putBits w 1 1 0 else w) 0 1 (flag p.attesting))
      else if o / 8 * 8 = Csr.SEC_SERIAL.off then some (Config.serial.toNat / 2 ^ (8 * (o % 8)) % 2 ^ 32)
      else if offIn o Csr.SEC_IDKEY.off (Csr.SEC_IDKEY.off + 52) then
        some (leAt (Config.identityKey ad ++ [0, 0, 0]) (o - Csr.SEC_IDKEY.off) 4)
      else none
    | .td =>
      if offIn o (Csr.TCK_MAC 0).off ((Csr.TCK_MAC 0).off + 16) then
        some ((Config.mac (flag ((Csr.TCK_MAC 1).off ≤ o))).toNat / 2 ^ (8 * (o % 8)) % 2 ^ 32)
      else none
    | _ => none

/-- A word of a CSR window is read: WO bits and registers that do not exist read as zero, and RC bits then take their reset
value (R5, R6). -/
def Panel.regRead (p : Panel) (s o : Nat) : Nat × Panel :=
  match p.liveWord s o with
  | some v => (v, p)
  | none =>
    let h := homeSite s o
    let w := (p.word s o).toNat
    let p := p.setWord s o (BitVec.ofNat 32 (mapWord (fun i => afterReadByte h (o + i)) w))
    (mapWord (fun i => readByte h (o + i)) w, p)

/-- `n` words from an offset, read in order, as bytes. -/
def Panel.regReads (p : Panel) (s o : Nat) : Nat → List Byte × Panel
  | 0 => ([], p)
  | n + 1 =>
    let (w, p) := p.regRead s o
    let (bs, p) := p.regReads s (o + 4) n
    (leBytes 4 w ++ bs, p)

/-! ### Writing -/

/-- The base of BAR2, 64 GiB aligned (R511). -/
def Panel.b2Base (p : Panel) : Nat := p.field siteHD Csr.HST_B2_BASE

/-- HST_B2_BASE takes a value, at once or once the BAR2 requests that wait have completed (R512). -/
def Panel.setB2Base (p : Panel) (base : Nat) : Panel :=
  let v := base % 2 ^ 64 / 2 ^ 36 * 2 ^ 36
  if p.host.held.isEmpty then p.setField siteHD Csr.HST_B2_BASE v
  else { p with host := { p.host with newBase := some v } }

/-- HST_STATUS.RING_EN shows the enabled rings. -/
def Panel.showRings (p : Panel) : Panel :=
  p.setField siteHD Csr.HST_STATUS_RING_EN
    (allRegions.map fun r => 2 ^ r * flag (p.isSet siteHD (Csr.HST_RING_ENABLE r))).sum

/-- A word of HST_RING r is written; while ENABLE is 1, BASE and SIZE keep their values. -/
def Panel.writeRing (p : Panel) (o : Nat) (w : Word) : Panel :=
  let r := (o - (Csr.HST_RING 0).off) / 32
  let k := (o - (Csr.HST_RING 0).off) % 32 / 4
  if !p.isSet siteHD (Csr.HST_RING_ENABLE r) then (p.csrWrite siteHD o w).showRings
  else if k < 2 then p
  else
    let size := p.field siteHD (Csr.HST_RING_SIZE r)
    ((p.csrWrite siteHD o w).setField siteHD (Csr.HST_RING_SIZE r) size).showRings

/-- A command bit of a word that is written. -/
def cmdBit (w : Word) (i : Nat) : Bool := bitOf w.toNat i

/-- A word whose command bits in `mask` act as they are written and read back as zero. -/
def Panel.csrCommand (p : Panel) (s o mask : Nat) (w : Word) : Panel :=
  p.csrWrite s o (BitVec.ofNat 32 (Nat.land w.toNat (Nat.xor 0xFFFFFFFF mask)))

/-- Does a thing when a command bit is written. -/
def Panel.on (p : Panel) (w : Word) (i : Nat) (f : Panel → Panel) : Panel := if cmdBit w i then f p else p

/-- A write to AZL_CTRL (R326, R331, R333, R334). No wire fails in the training that REJOIN begins; AZ_REJOIN has such cases. -/
def Panel.writeAzl (p : Panel) (s o : Nat) (w : Word) : Panel :=
  let e := bitsOf w.toNat 2 2
  let p := p.csrCommand s o 0x3C13 w
  let p := p.on w 0 fun p => p.cutEdge s e 0x0A08
  let p := p.on w 1 fun p => p.rejoinEdge s e []
  let p := p.on w 4 fun p => p.retrain s (16 * e + bitsOf w.toNat 5 4)
  let mask := bitsOf w.toNat 10 4
  if mask = p.field s Csr.AZL_CTRL_TIE_MASK then p else p.tieMask s mask

/-- A write to PWR_RST_CTRL on the acting primary die (R502). -/
def Panel.writeReset (p : Panel) (m : Mem) (src o : Nat) (w : Word) : Panel :=
  let p := p.csrCommand sitePD o 8 w
  p.on w 3 fun p => p.requestReset m src (p.field sitePD Csr.PWR_RST_CTRL_SCOPE) (p.field sitePD Csr.PWR_RST_CTRL_REGION)
    (p.field sitePD Csr.PWR_RST_CTRL_SITE) (p.field sitePD Csr.PWR_RST_CTRL_CL)

/-- A write to a register that only PD and AD have; one on the die that is not acting as primary stores the value only, and its
command bits do nothing. -/
def Panel.writePrimary (p : Panel) (m : Mem) (src s o : Nat) (w : Word) : Panel :=
  let v := w.toNat
  let act := s = p.primary
  if o = Csr.PWR_RST_CTRL_GO.off then (if act then p.writeReset m src o w else p.csrCommand s o 8 w)
  else if o = Csr.FRM_CTRL_START.off then
    let p := p.csrCommand s o 3 w
    if act then (p.on w 1 fun p => p.abortLockUp m).on w 0 fun p => p.startLockUp m else p
  else if offIn o (Csr.FRM_R_IMP_REQ 0).off ((Csr.FRM_R_IMP_REQ 15).off + 4)
      && (o - (Csr.FRM_R_IMP_REQ 0).off) % 16 = 0 then
    let p := p.csrCommand s o 0x80 w
    if act then p.on w 7 fun p => p.requestImp ((o - (Csr.FRM_R_IMP_REQ 0).off) / 16) (bitsOf v 4 3) false else p
  else if offIn o (Csr.STK_R_STEP 0).off ((Csr.STK_R_STEP 15).off + 4) && (o - (Csr.STK_R_STEP 0).off) % 128 = 0 then
    p.announceStep ((o - (Csr.STK_R_STEP 0).off) / 128) (v % 2 ^ 24)
  else if offIn o (Csr.ERR_R_CFG_ACCEPT 0).off ((Csr.ERR_R_CFG_ACCEPT 15).off + 4)
      && (o - (Csr.ERR_R_CFG_ACCEPT 0).off) % 16 = 0 then
    let p := p.csrCommand s o 0x1000 w
    if act then p.on w 12 fun p => p.acceptMarks ((o - (Csr.ERR_R_CFG_ACCEPT 0).off) / 16) else p
  else if o = Csr.ERR_HB_CFG_MISS.off then
    (p.csrWrite s o w).sendControl p.primary 0xFFFF (.heartbeat (v % 16))
  else if o = Csr.GAL_SO_CTRL_SHARD.off then
    let p := p.csrCommand s o 0x40 w
    if act then p.on w 6 fun p => p.resyncShard (v % 64) else p
  else if o = Csr.SEC_CTRL_CMD.off then
    let p := p.csrCommand s o 3 w
    if act then
      let p := p.on w 0 fun p => p.ownerRecord false (m.read (p.field p.primary Csr.SEC_CMD_ADDR) 176) true
      p.on w 1 fun p => p.attest (leBytes 32 (p.field p.primary Csr.SEC_NONCE))
    else p
  else if o = Csr.DRW_SP_TACK_SETPOINT.off then
    if act && src ≠ 1 then p.tackSetpoint m (v % 128) (bitsOf v 8 2) else p
  else if o = Csr.DRW_SP_HOST_SETPOINT.off then
    if act then p.hostSetpoint m (v % 128) (bitsOf v 8 2) else p
  else if o = Csr.LNK_CTRL_FLIP.off then
    let p := p.csrCommand s o 0x3D w
    if act then p.on w 0 fun p => p.askPortFlip else p
  else p.csrWrite s o w

/-- The active port changes, with 0x1105; PTP follows it (R70). -/
def Panel.activate (p : Panel) (port : Nat) : Panel :=
  ((p.setField siteTD Csr.TCK_NET_STATUS_ACTIVE port).setField siteTD Csr.CLK_PTP_STATUS_PORT port).raise siteTD 0x1105

/-- The port that TCK_NET_CTRL.PREFER names becomes active when both are up (R529). -/
def Panel.preferPort (p : Panel) : Panel :=
  let want := p.field siteTD Csr.TCK_NET_CTRL_PREFER
  if p.field siteTD Csr.TCK_NET_STATUS_LINK = 3 && p.field siteTD Csr.TCK_NET_STATUS_ACTIVE ≠ want then p.activate want else p

/-- A write to a register of every die type that does more than store its value. -/
def Panel.writeAny (p : Panel) (m : Mem) (src s o : Nat) (w : Word) : Panel :=
  let v := w.toNat
  if o = Csr.CLK_PERIOD.off then p.periodWrite s (v % 256) false
  else if o = Csr.FAB_CTRL_FLIP.off then
    let p := p.csrCommand s o 1 w
    if s = p.primary then p.on w 0 fun p => p.askFlip else p
  else if o / 8 * 8 = Csr.FAB_REIN_CFG.off then (p.csrWrite s o w).showQueues s
  else if offIn o (Csr.FAB_RT 0).off ((Csr.FAB_RT 467).off + 4) then
    p.each (List.range 4) fun p i => p.writeRoute s (o + i - (Csr.FAB_RT 0).off) (bitsOf v (8 * i) 8)
  else if o = Csr.PWR_CTRL_PH_INJECT.off then
    (p.csrCommand s o 1 w).on w 0 fun p => if s < 400 then p.injectPhase s (bitsOf v 1 2) else p
  else if o = Csr.PWR_VSET_VCLUSTER.off then p.setVset s (v % 1024)
  else if offIn o (Csr.PWR_DOM_REQ_ON 0).off ((Csr.PWR_DOM_REQ_ON 4).off + 4) then
    let d := (o - (Csr.PWR_DOM_REQ_ON 0).off) / 4
    (p.on w 11 fun p => p.requestOn s d).on w 12 fun p => p.requestOff s d
  else if o = Csr.BST_CTRL_START.off then
    let p := p.csrCommand s o 3 w
    (p.on w 1 fun p => p.stopBist s).on w 0 fun p => p.startBist s (bitsOf v 2 2) (bitsOf v 4 3) (bitsOf v 8 5)
  else if o = Csr.AZL_CTRL_CUT.off then p.writeAzl s o w
  else match dieClass s with
    | .pd | .ad => p.writePrimary m src s o w
    | .link =>
      if o = Csr.LNK_CTRL_FLIP.off then (p.csrCommand s o 0x3D w).rerig s (bitsOf v 2 4)
      else if o = Csr.LNK_PANEL_ID.off then p.setPanelId s v
      else if offIn o (Csr.LNK_PT 0).off ((Csr.LNK_PT 4095).off + 4) then p.writePort s ((o - (Csr.LNK_PT 0).off) / 4) v
      else p.csrWrite s o w
    | .hd =>
      if o = Csr.HST_B2_BASE.off then p
      else if o = Csr.HST_B2_BASE.off + 4 then p.setB2Base (v * 2 ^ 32)
      else if offIn o (Csr.HST_RING 0).off ((Csr.HST_RING 15).off + 32) then p.writeRing o w
      else p.csrWrite s o w
    | .td => let p := p.csrWrite s o w; if o = Csr.TCK_NET_CTRL_PREFER.off then p.preferPort else p
    | _ => p.csrWrite s o w

/-- The bits of a word that hold the panel ID, TIME_IN ownership or the PTP settings: only PLDM sets them (R537). -/
def settingsMask (s o : Nat) : Word :=
  if dieClass s = .link then (if o = Csr.LNK_PANEL_ID.off then 0xFFF else 0)
  else if s ≠ siteTD then 0
  else if o = Csr.TCK_PTP_DOMAIN.off then 0x3FF
  else if o = Csr.CLK_TIME_CTRL_TIN_PPS.off then 0xF03
  else 0

/-- The word that a source may write: the host (1) and the management ports (3) leave the panel's settings as they are (R537). -/
def Panel.permitted (p : Panel) (src s o : Nat) (w : Word) : Word :=
  let mask := if src = 1 || src = 3 then settingsMask s o else 0
  (w &&& ~~~mask) ||| (BitVec.ofNat 32 (p.field s ⟨o, 0, 32, 0, 0⟩) &&& mask)

/-- A word of a CSR window is written by tack (0), the host (1), firmware (2) or a manager (3), with everything that the write does (R5, R502,
R537). It runs under `State.act`, since tack may ask for a cold reset. -/
def Panel.regWrite (p : Panel) (m : Mem) (src s o : Nat) (w : Word) : Panel :=
  if p.writeLocked s o then p else p.writeAny m src s (o / 4 * 4) (p.permitted src s (o / 4 * 4) w)

/-- Words written in order. -/
def Panel.regWrites (p : Panel) (m : Mem) (src s o : Nat) : List Word → Panel
  | [] => p
  | w :: ws => (p.regWrite m src s o w).regWrites m src s (o + 4) ws

/-- Bytes as 32-bit words, little-endian. -/
def wordsOf (bs : List Byte) : List Word :=
  (List.range (bs.length / 4)).map fun i => BitVec.ofNat 32 (leAt bs (4 * i) 4)

/-! ### Panel memory from outside (R17, R253, R281, R511) -/

/-- Where an address of the SRAM range lies: its site, its cluster and its byte in the slice (R16, R239). -/
def sramPlace (a : Nat) : Option (Nat × Nat × Nat) :=
  let d := a - 0x100000000000
  let s := d / 0x40000000
  let o := d % 0x40000000
  if 0x100000000000 ≤ a && s < 400 && o < 0x14000000 then some (s, o / 0x5000000, o % 0x5000000) else none

/-- Where an address of the CSR range lies: its site and its offset in the CSR window (R16). -/
def csrPlace (a : Nat) : Option (Nat × Nat) :=
  let d := a - 0x200000000000
  if 0x200000000000 ≤ a && d / 0x1000000 < siteCount then some (d / 0x1000000, d % 0x1000000) else none


/-- A row of panel memory can be reached: LPDDR5X that is populated, or a slice that is up (R17, R511). -/
def Panel.reachable (p : Panel) (a : Nat) : Bool :=
  match sramPlace a with
  | some (s, c, _) => p.usable s && p.sliceUp s c
  | none => p.populated a

/-- The row of panel memory that holds an address, as a read from outside delivers it: foxed when it cannot be reached, or as
its fox bit, its parity or the fox table says (R17, R257, R281). -/
def Panel.outsideRow (p : Panel) (m : Mem) (a : Nat) : Delivered × Panel :=
  let b := a / 64 * 64
  if !p.reachable b then (⟨List.replicate 64 0, true⟩, p)
  else match sramPlace b with
    | some (s, c, o) => p.sliceRead m s c o 64
    | none =>
      let fox := (p.memory m).tableFox b
      (⟨(p.memory m).read b 64, fox⟩, p.tally (memSite b) (Csr.GAL_CH_FOXRD (memChannel b)) (flag fox))

/-- Rows read in order. -/
def Panel.outsideRows (p : Panel) (m : Mem) (a : Nat) : Nat → List Delivered × Panel
  | 0 => ([], p)
  | n + 1 =>
    let (d, p) := p.outsideRow m a
    let (ds, p) := p.outsideRows m (a + 64) n
    (d :: ds, p)

/-- What a write from outside does with its row (R17, R253): 0 it is written, 1 discarded since the address cannot be reached,
2 discarded with 0x0713 since the cluster's region runs. -/
def Panel.outsideRefusal (p : Panel) (a : Nat) : Nat :=
  match sramPlace a with
  | some (s, _, _) => if p.dieRunning s then 2 else if p.reachable a then 0 else 1
  | none => if p.populated a then 0 else 1

/-- A row of LPDDR5X with bytes from `a` on replaced: a whole row takes the fox bit of its data, a part keeps the row's (R281). -/
def patchedRow (m : Mem) (a : Nat) (d : Delivered) : Delivered :=
  let b := a / 64 * 64
  let i := a - b
  let old := m.read b 64
  ⟨old.take i ++ d.data ++ old.drop (i + d.data.length), d.fox || (d.data.length ≠ 64 && m.tableFox b)⟩

/-- Bytes that lie within one row, written from outside. A whole row takes the fox bit of its data and a part keeps the row's
(R256, R281); a row of LPDDR5X inside a send shard or a stream range is copied as any write is (R285, R344); one that is discarded
raises 0x0713 when its region runs (R253). -/
def Panel.outsideWrite (p : Panel) (m : Mem) (a : Nat) (d : Delivered) : Panel :=
  match p.outsideRefusal a, sramPlace a with
  | 0, none => (p.acceptRows (a / 64 * 64) [patchedRow (p.memory m) a d] none).1
  | 0, some _ =>
    if d.data.length = 64 then p.put { addr := a, data := d.data, fox := some d.fox }
    else p.put { addr := a, data := d.data, fox := if d.fox then some true else none, parity := none }
  | 2, some (s, c, _) => p.raiseAt s c 0x0713
  | _, _ => p

/-- Rows written in order from an address. -/
def Panel.outsideWrites (p : Panel) (m : Mem) (a : Nat) : List Delivered → Panel
  | [] => p
  | d :: ds => (p.outsideWrite m a d).outsideWrites m (a + 64) ds

/-- Bytes at any alignment cut where rows end: (address, bytes). -/
def rowPieces : Nat → Nat → List Byte → List (Nat × List Byte)
  | 0, _, _ => []
  | fuel + 1, a, bs =>
    if bs.isEmpty then []
    else
      let n := 64 - a % 64
      (a, bs.take n) :: rowPieces fuel (a + n) (bs.drop n)

/-! ### The command -/

/-- REGISTER_WRITE (R5): a write of a word by tack (0), the host (1) or firmware (2) to a register with no row of its own. -/
def execRegisterWrite (src site off : Nat) (value : Word) (s : State) : Host.Outcome State Fault Refusal :=
  .next (s.act fun m p => p.regWrite m (src % 3) site off value)

end Sys2Proof.Machine
end

