-- ==== Sys2Proof/Machine/Tack.lean ====
section
/-! DEFINITION. The tack mesh (spec/23): heartbeats and losses, fault reports, register accesses and control frames between
agents, TD's event queue and the management ports. -/

namespace Sys2Proof.Machine

/-! ### Floods (R522, R523) -/

/-- An agent accepts a flood frame: its ID lies up to 127 ahead of the last one seen from that origin (R523). -/
def Panel.accepts (p : Panel) (site origin id : Nat) : Bool :=
  match SMap.get (fun _ => 0) (p.agent site).seen origin with
  | 0 => true
  | k + 1 => let d := (id + 256 - k % 256) % 256; 1 ≤ d && d ≤ 127

/-- An agent notes the ID of a flood frame that it has accepted. -/
def Panel.note (p : Panel) (site origin id : Nat) : Panel :=
  p.modAgent site fun a => { a with seen := SMap.set (fun _ => 0) a.seen origin (id % 256 + 1) }

/-- Every powered agent has seen a flood frame. -/
def Panel.floodOver (p : Panel) (origin id : Nat) : Bool :=
  allSites.all fun s => !p.lives s || s = origin || !p.accepts s origin id

/-- PD, AD and TD flood a DIST beacon (R523). -/
def Panel.beacons (p : Panel) : Panel := p.each [sitePD, siteAD, siteTD] fun p s => p.sendTack (.dist s)

/-- CONTROL frames that every powered agent has seen are no longer on the mesh, nor is one that its acting site has taken. -/
def Panel.dropFlood (p : Panel) (site : Nat) (h : TackHeader) (c : Control) : Panel :=
  if h.dst = site || p.floodOver h.origin h.id then p.modTack fun t => { t with frames := t.frames.erase (.control h c) } else p

/-! ### Heartbeats and loss (R525, R526) -/

/-- The length of a heartbeat slot in nominal cycles. -/
def slotCycles : Nat := 12500

/-- The links of a die that are up, and its watchers over them. -/
def Panel.upLinks (p : Panel) (s : Nat) : List Nat := (List.range (tackLinks s).length).filter (p.tackUp s)

/-- A tack link is marked down at both ends, with 0x1101 (R526); a die whose links are all down is declared lost. -/
def Panel.markLink (p : Panel) (watcher lost : Nat) : Panel :=
  let cut (p : Panel) (a b : Nat) : Panel :=
    match tackLinkTo a b with
    | some i => p.modAgent a fun x => { x with down := (x.down.filter (· ≠ i)) ++ [i] }
    | none => p
  let p := ((cut p watcher lost).modTack fun t => { t with losses := t.losses.filter fun l => l.1 ≠ watcher || l.2.1 ≠ lost })
  let p := ((cut p lost watcher).beacons).raise p.primary 0x1101
  if p.lives lost && (p.upLinks lost).isEmpty then p.dieLost lost 5 else p

/-- LOSS frames that stayed alone for two slots mark their link down (R526). -/
def Panel.settleLosses (p : Panel) : Panel :=
  p.each (p.tack.losses.filter fun l => l.2.2 + 2 < p.now / slotCycles) fun p l => p.markLink l.1 l.2.1

/-- An agent sends HB on every up link (R525): the agents beyond hear it, and their misses of it end. -/
def Panel.heartbeat (p : Panel) (s : Nat) : Panel :=
  if !p.lives s || p.contain.lost.contains s then p
  else
    let p := p.modTack fun t => { t with awaitHb := t.awaitHb.filter (· ≠ s) }
    let p := p.each (p.upLinks s) fun p i =>
      match (tackLinks s)[i]? with
      | none => p
      | some n => match tackLinkTo n s with
        | none => p
        | some j =>
          let p := p.modAgent n fun a => { a with misses := SMap.set (fun _ => 0) a.misses j 0 }
          p.setField n Csr.TCK_STATUS_HB_OK (putBits (p.field n Csr.TCK_STATUS_HB_OK) j 1 1)
    if s = p.primary then p.settleLosses else p

/-- A slot passes in which an agent receives no HB on a link (R525); at MISS of them in a row it floods a LOSS frame. -/
def Panel.missHeartbeat (p : Panel) (s link : Nat) : Panel :=
  match (tackLinks s)[link]? with
  | none => p
  | some lost =>
    let n := SMap.get (fun _ => 0) (p.agent s).misses link + 1
    let p := p.modAgent s fun a => { a with misses := SMap.set (fun _ => 0) a.misses link n }
    let p := p.setField s Csr.TCK_STATUS_HB_OK (putBits (p.field s Csr.TCK_STATUS_HB_OK) link 1 0)
    if n = clampTo 2 15 (p.agent s).miss then p.sendTack (.loss s lost (p.now / slotCycles)) else p

/-- The acting primary die, or AD for PD, takes a LOSS frame (R526); one for a die that is dark or in a reset, or that has sent no HB
since, is ignored. -/
def Panel.takeLoss (p : Panel) (watcher lost slot : Nat) : Panel :=
  let p := p.modTack fun t => { t with frames := t.frames.erase (.loss watcher lost slot) }
  let ordered := match p.boot.resetting with
    | some (5, s, _) => s = lost
    | some (scope, _, _) => scope ≤ 2
    | none => false
  if !p.lives lost || ordered || p.tack.awaitHb.contains lost || p.contain.lost.contains lost || (tackLinkTo lost watcher).isNone
  then p
  else
    let declare (p : Panel) : Panel :=
      let p := p.modTack fun t => { t with losses := t.losses.filter fun l => l.2.1 ≠ lost }
      (p.dieLost lost 5).setField sitePD Csr.ERR_LOST_TIME (slot * slotCycles % 2 ^ 48)
    let others := p.tack.losses.any fun l => l.2.1 = lost && l.1 ≠ watcher
    if (p.upLinks lost).length ≤ 1 || others then declare p
    else if p.tack.losses.any fun l => l.1 = watcher && l.2.1 = lost then p
    else p.modTack fun t => { t with losses := t.losses ++ [(watcher, lost, slot)] }

/-! ### Events (R532) -/

/-- The bytes of a fault record (R527). -/
def recBytes (r : FaultRec) : List Byte :=
  leBytes 2 r.code ++ leBytes 1 (sevRank r.sev) ++ leBytes 1 r.cluster ++ leBytes 1 r.region ++ leBytes 1 r.count
    ++ leBytes 4 r.detail ++ leBytes 4 r.stroke ++ leBytes 8 r.time

/-- A manager of TD. -/
def Panel.manager (p : Panel) (k : Nat) : Manager := SMap.get (fun _ => {}) p.tack.managers k
def Panel.modManager (p : Panel) (k : Nat) (f : Manager → Manager) : Panel :=
  p.modTack fun t => { t with managers := SMap.modify (fun _ => {}) t.managers k f }

/-- A management port is up, so that datagrams leave (R529). -/
def Panel.lanUp (p : Panel) : Bool := p.field siteTD Csr.TCK_NET_STATUS_LINK ≠ 0

/-- The bytes of a tack datagram that TD sends (R530), at the panel time of now. -/
def Panel.datagramBytes (p : Panel) (op reply status txid : Nat) (body : List Byte) : List Byte :=
  let head := leBytes 2 0x544B ++ leBytes 1 1 ++ leBytes 1 op ++ leBytes 1 reply ++ leBytes 1 status ++ leBytes 2 body.length
    ++ leBytes 4 txid ++ leBytes 2 p.tack.panelId ++ leBytes 2 0 ++ leBytes 8 p.now ++ body
  head ++ leBytes 4 (crc32c head)

/-- TD sends a datagram of its own, whose TXID it chooses (R530); none leaves while both ports are down. -/
def Panel.tell (p : Panel) (k op : Nat) (body : List Byte) : Panel :=
  let (txid, p) := p.draw 530 32
  if p.lanUp then p.emit (.datagram k (p.datagramBytes op 0 0 txid body)) else p

/-- The managers whose datagrams TD accepts. -/
def Panel.managersUp (p : Panel) : List Nat := (List.range 4).filter fun k => p.isSet siteTD (Csr.TCK_MGR_VALID k)

/-- TCK_EVQ shows the records queued. -/
def Panel.showQueue (p : Panel) : Panel := p.setField siteTD Csr.TCK_EVQ_QUEUED p.tack.events.length

/-- Room in the event queue (R532): the oldest notice goes, or else the oldest record, and is counted, with 0x1107 once per
second. -/
def Panel.roomForEvent (p : Panel) : Panel :=
  if p.tack.events.length < 1024 then p
  else
    let victim := match p.tack.events.find? fun e => e.2.sev = .notice with
      | some e => some e.1
      | none => p.tack.events.head?.map (·.1)
    let p := p.modTack fun t => { t with events := t.events.filter fun e => some e.1 ≠ victim }
    let p := p.count siteTD Csr.TCK_EVQ_DROPPED 1
    let due : Bool := match p.tack.overflowAt with
      | some t => t + 1250000000 ≤ p.now
      | none => true
    if due then (p.modTack fun t => { t with overflowAt := some p.now }).raise siteTD 0x1107 else p

/-- An EVENT datagram goes to a manager and awaits its acknowledgement; it waits unsent while both ports are down. -/
def Panel.sendEvent (p : Panel) (k seq : Nat) (body : List Byte) : Panel :=
  (p.modManager k fun g => { g with unacked := g.unacked ++ [(seq, flag p.lanUp)] }).tell k 0x0B (leBytes 4 seq ++ body)

/-- A PlatformEventMessage for a fault record at or above TCK_SMB.MIN_SEV of the die that answers on SMBus (R535). -/
def Panel.smbEvent (p : Panel) (s : Nat) (r : FaultRec) : Panel :=
  if p.acting s Csr.TCK_SMB_MIN_SEV ≤ sevRank r.sev then p.emit (.pldm 2 (recBytes r)) else p

/-- TD queues a fault record and sends it to every manager that asks for its severity, and over SMBus (R532, R535). -/
def Panel.queueEvent (p : Panel) (r : FaultRec) : Panel :=
  if !p.tackDie then p
  else
    let p := p.roomForEvent
    let seq := p.tack.nextSeq
    let p := p.modTack fun t => { t with events := t.events ++ [(seq, r)], nextSeq := (seq + 1) % 2 ^ 32 }
    let p := p.showQueue
    let p := p.each (p.managersUp.filter fun k => p.acting siteTD (Csr.TCK_MGR_MIN_SEV k) ≤ sevRank r.sev) fun p k =>
      p.sendEvent k seq (recBytes r)
    p.smbEvent siteTD r

/-- The changes noted for managers go to those whose EVENTS mask names them; each takes a SEQ of its own (R532). -/
def Panel.flushChanges (p : Panel) : Panel :=
  if !p.tackDie then p
  else
    let l := p.tack.changes
    let p := p.modTack fun t => { t with changes := [] }
    p.each l fun p bit =>
      let seq := p.tack.nextSeq
      let p := p.modTack fun t => { t with nextSeq := (seq + 1) % 2 ^ 32 }
      p.each (p.managersUp.filter fun k => bitOf (p.field siteTD (Csr.TCK_MGR_EVENTS k)) bit) fun p k => p.sendEvent k seq []

/-- Records that no manager still awaits leave the queue. -/
def Panel.pruneEvents (p : Panel) : Panel :=
  let wanted (seq : Nat) : Bool := (List.range 4).any fun k => (p.manager k).unacked.any fun u => u.1 = seq
  (p.modTack fun t => { t with events := t.events.filter fun e => wanted e.1 }).showQueue

/-! ### Fault reports (R527, R528) -/

/-- PD acts on a fault record (R9, R437, R438): region-abort stops its region, and compute-reset resets every one. A report of a
fault from before the region's last restart began acts no more. -/
def Panel.actOnFault (p : Panel) (m : Mem) (r : FaultRec) : Panel :=
  let g := p.region r.region
  let fresh := p.running r.region && g.abortAt.isNone && g.restart.isNone && g.restartedAt ≤ r.time
  match r.sev with
  | .regionAbort => if r.region < 16 && fresh then p.abortRegion r.region r.code false else p
  | .computeReset => if r.region < 16 && !fresh then p else p.standaloneReset m r.code
  | _ => p

/-- Agents on the way of a directed frame for which no neighbour is nearer to its TARGET flood it, with 0x1103 (R523). -/
def Panel.stuckAgents (p : Panel) (dst : Nat) (via : List Nat) : Panel :=
  let f := if dst = siteTD then Csr.TCK_DIST_TD else if dst = siteAD then Csr.TCK_DIST_AD else Csr.TCK_DIST_PD
  p.each via fun p s =>
    let nearer := (p.upLinks s).any fun i => match (tackLinks s)[i]? with
      | some n => p.field n f < p.field s f
      | none => false
    p.raiseIf (!nearer) s 0x1103

/-- A FAULT frame reaches the acting primary die or TD (R527); the acting primary die tells the tray controller in TD's place while
TD is lost (R536). -/
def Panel.takeFault (p : Panel) (m : Mem) (dst : Nat) (r : FaultRec) (via : List Nat) : Panel :=
  let p := p.modTack fun t => { t with frames := t.frames.erase (.fault dst r) }
  let p := p.stuckAgents dst via
  if dst = siteTD then (p.queueEvent r).flushChanges
  else if dst = p.primary then
    (if p.contain.lost.contains siteTD then p.smbEvent dst r else p).actOnFault m r
  else p

/-- A fold of an agent ends after 1 ms (R528): what was added to its count goes out in one frame. -/
def Panel.endFold (p : Panel) (s code : Nat) : Panel :=
  match (p.agent s).folds.find? fun f => f.code = code with
  | none => p
  | some f =>
    let p := p.modAgent s fun a => { a with folds := a.folds.filter fun g => g.code ≠ code }
    if f.count ≤ 1 then p
    else
      let r := { f.last with count := f.count, sev := f.sev }
      (p.sendTack (.fault p.primary r)).sendTack (.fault siteTD r)

/-! ### Control frames (R522) -/

/-- One entry of the broadcast tree: the die takes its parent edge, and the parent a child edge (R316, R498). -/
def Panel.treeEntry (p : Panel) (site child parent : Nat) : Panel :=
  let faceTo (s n : Nat) : Option Nat := (List.range (faceCount s)).find? fun e => (facing s e).1 = n
  if site = child then
    let e := if child = parent then 7 else (faceTo child parent).getD 7
    ((p.setFlag site Csr.FAB_BTREE_LOCAL true).setField site Csr.FAB_BTREE_PARENT e).setFlag site Csr.FAB_BTREE_VALID true
  else if site = parent then
    match faceTo parent child with
    | some e => p.setField site Csr.FAB_BTREE_CHILD (putBits (p.field site Csr.FAB_BTREE_CHILD) e 1 1)
    | none => p
  else p

/-- A CONTROL frame acts at a site. -/
def Panel.actControl (p : Panel) (site : Nat) (c : Control) : Panel :=
  match c with
  | .epochFlip v => p.takeEpoch site (v % 2)
  | .epochDrained s => if site = p.primary then p.routerDrained s else p
  | .portFlip v => if dieClass site = .link then p.takePortFlip site (v % 2) else p
  | .portFlipped s => if site = p.primary then p.portFlipReport s else p
  | .treeParent s parent => p.treeEntry site s parent
  | .proofReport r =>
    if site = p.primary then p.modPlan fun q => { q with reports := (q.reports.filter fun x =>
      !(x.tester = r.tester && x.target = r.target && x.unit = r.unit)) ++ [r] } else p
  | .bcastResult s ok => if site = p.primary then (p.bcastVerified s ok).darkenBad else p
  | .coolant _ _ _ => p
  | .heartbeat miss => p.modAgent site fun a => { a with miss := miss % 16 }

/-- A CONTROL frame reaches an agent (R522, R523): a duplicate is discarded, and the frame acts at its DST. -/
def Panel.takeControl (p : Panel) (site : Nat) (h : TackHeader) (c : Control) : Panel :=
  if !p.accepts site h.origin h.id then p
  else
    let p := (p.note site h.origin h.id).dropFlood site h c
    if h.dst = site || h.dst = 0xFFFF then p.actControl site c else p

/-! ### Management ports (R529) -/

/-- A management port's link goes down (R529): 0x1104, and the other port becomes active when its link is up. -/
def Panel.portLinkDown (p : Panel) (port : Nat) : Panel :=
  let l := putBits (p.field siteTD Csr.TCK_NET_STATUS_LINK) port 1 0
  let p := (p.setField siteTD Csr.TCK_NET_STATUS_LINK l).raise siteTD 0x1104
  if p.field siteTD Csr.TCK_NET_STATUS_ACTIVE = port && bitOf l (1 - port) then p.activate (1 - port) else p

/-- A management port's link comes up: it is the standby, or the active one when the active port is down or when PREFER names
it (R529). -/
def Panel.portLinkUp (p : Panel) (port : Nat) : Panel :=
  let old := p.field siteTD Csr.TCK_NET_STATUS_LINK
  let l := putBits old port 1 1
  let p := p.setField siteTD Csr.TCK_NET_STATUS_LINK l
  if l = 3 then p.preferPort
  else if p.field siteTD Csr.TCK_NET_STATUS_ACTIVE = port then p else p.activate port

/-! ### The commands -/

/-- TACK_HB_SEND (R525). -/
def execTackHbSend (site : Nat) (s : State) : Host.Outcome State Fault Refusal :=
  .next (s.store fun _ p => p.heartbeat site)

/-- TACK_HB_MISS (R525): a slot passes without an HB on a tack link of an agent. -/
def execTackHbMiss (site link : Nat) (s : State) : Host.Outcome State Fault Refusal :=
  .next (s.quiet fun p => p.missHeartbeat site link)

/-- LOSS_FRAME (R526). -/
def execLossFrame (watcher lost slot : Nat) (s : State) : Host.Outcome State Fault Refusal :=
  .next (s.store fun _ p => p.takeLoss watcher lost slot)

/-- FAULT_FRAME (R527): a FAULT frame reaches the acting primary die or TD; `via` are the agents that it passed. -/
def execFaultFrame (dst : Nat) (r : FaultRec) (via : List Nat) (s : State) : Host.Outcome State Fault Refusal :=
  .next (s.store fun m p => p.takeFault m dst r via)

/-- FAULT_FOLD_EXPIRED (R528). -/
def execFaultFoldExpired (site code : Nat) (s : State) : Host.Outcome State Fault Refusal :=
  .next (s.quiet fun p => p.endFold site code)

/-- CSR_RD (R522): the agent of a die reads a word and answers towards the requester's corner. -/
def execCsrRd (requester site off : Nat) (s : State) : Host.Outcome State Fault Refusal :=
  .next (s.quiet fun p =>
    if !p.lives site then p
    else
      let (w, p) := p.regRead site (off / 4 * 4)
      p.sendTack (.csrRsp requester site off (BitVec.ofNat 32 w)))

/-- CSR_WR (R522). -/
def execCsrWr (requester site off : Nat) (value : Word) (s : State) : Host.Outcome State Fault Refusal :=
  .next (s.act fun m p =>
    if !p.lives site then p
    else (p.regWrite m 0 site off value).sendTack (.csrRsp requester site off value))

/-- CSR_RSP (R522): the response is delivered. -/
def execCsrRsp (dst site off : Nat) (value : Word) (s : State) : Host.Outcome State Fault Refusal :=
  .next (s.quiet fun p =>
    (p.modTack fun t => { t with frames := t.frames.erase (.csrRsp dst site off value) }).emit (.word value))

/-- DIST_BEACON (R523): a DIST beacon of PD, AD or TD reaches an agent after `hops` hops. -/
def execDistBeacon (site origin id hops : Nat) (s : State) : Host.Outcome State Fault Refusal :=
  .next (s.quiet fun p =>
    if !p.accepts site origin id then p
    else
      let p := p.note site origin id
      let p := if p.floodOver origin id then p.modTack fun t => { t with frames := t.frames.erase (.dist origin) } else p
      if origin = sitePD then p.setField site Csr.TCK_DIST_PD hops
      else if origin = siteAD then p.setField site Csr.TCK_DIST_AD hops
      else if origin = siteTD then p.setField site Csr.TCK_DIST_TD hops
      else p)

/-- TACK_CONTROL (R522): a CONTROL frame reaches the agent of a site. -/
def execTackControl (site : Nat) (h : TackHeader) (c : Control) (s : State) : Host.Outcome State Fault Refusal :=
  .next (s.store fun _ p => p.takeControl site h c)

/-- TACK_LERR_LATCH (R522): the CRC failures on all links of an agent in the last 1 ms. -/
def execTackLerrLatch (site failures : Nat) (s : State) : Host.Outcome State Fault Refusal :=
  .next (s.quiet fun p => (p.setField site Csr.TCK_LERR failures).raiseIf (16 < failures) site 0x1102)

/-- MGMT_PORT_DOWN (R529). -/
def execMgmtPortDown (port : Nat) (s : State) : Host.Outcome State Fault Refusal :=
  .next (s.quiet fun p => if p.tackDie then p.portLinkDown (port % 2) else p)

/-- MGMT_PORT_UP (R529). -/
def execMgmtPortUp (port : Nat) (s : State) : Host.Outcome State Fault Refusal :=
  .next (s.quiet fun p => if p.tackDie then p.portLinkUp (port % 2) else p)

end Sys2Proof.Machine
end

