-- ==== Sys2Proof/Machine/Datagram.lean ====
section
/-! DEFINITION. TD's dealings with managers and the tray controller: datagrams, events and telemetry (R530–R533), PLDM
(R535), and firmware images (R494, R541, R542). -/

namespace Sys2Proof.Machine

/-! ### Requests and replies (R530, R531) -/

/-- TD refuses a datagram (R530): from an address that no manager has, with a bad CRC, another VERSION or another PANEL. -/
def Panel.datagramBad (p : Panel) (addr : Nat) (bs : List Byte) : Bool :=
  let n := 0x18 + leAt bs 6 2
  !(p.managersUp.any fun k => p.field siteTD (Csr.TCK_MGR_ADDR k) = addr) || bs.length ≠ n + 4
    || leAt bs n 4 ≠ crc32c (bs.take n) || leAt bs 2 1 ≠ 1 || leAt bs 0xC 2 ≠ p.tack.panelId

/-- A datagram is refused without a reply: 0x1106, once per 10 ms. -/
def Panel.refuseDatagram (p : Panel) : Panel :=
  let due : Bool := match p.tack.refusedAt with
    | some t => t + 12500000 ≤ p.now
    | none => true
  if p.tackDie && due then (p.modTack fun t => { t with refusedAt := some p.now }).raise siteTD 0x1106 else p

/-- A reply goes out and is kept among the last 64. -/
def Panel.reply (p : Panel) (k op txid status : Nat) (body : List Byte) : Panel :=
  (p.modManager k fun g => { g with cache := ({ txid := txid, op := op, status := status, body := body } :: g.cache).take 64 }).emit
    (.datagram k (p.datagramBytes op 1 status txid body))

/-- A request of a manager (R530): one from an address that is not valid is refused, one whose TXID is kept is answered from the
reply that is kept, and one that changes state needs WRITE. `late` says that the acting die has not confirmed in 10 ms
(R531). -/
def Panel.request (p : Panel) (k op txid : Nat) (changes late : Bool) (f : Panel → Nat × List Byte × Panel) : Panel :=
  if !p.tackDie then p
  else if 4 ≤ k || !p.isSet siteTD (Csr.TCK_MGR_VALID k) then p.refuseDatagram
  else match (p.manager k).cache.find? fun r => r.txid = txid with
    | some r => p.emit (.datagram k (p.datagramBytes r.op 1 r.status txid r.body))
    | none =>
      if changes && !p.isSet siteTD (Csr.TCK_MGR_WRITE k) then p.reply k op txid 1 []
      else
        let (status, body, p) := f p
        if late then p.reply k op txid 6 [] else p.reply k op txid status body

/-! ### IDENT, DRAW and telemetry -/

/-- The body of IDENT (R531): part, panel ID, image, READY, draw mode and merge sequence. -/
def Panel.identBody (p : Panel) : List Byte :=
  leBytes 4 0x4B500007 ++ leBytes 2 p.tack.panelId ++ leBytes 1 (p.field sitePD Csr.PWR_RST_STATUS_IMAGE)
    ++ leBytes 1 (p.field sitePD Csr.PWR_RST_STATUS_READY) ++ leBytes 1 p.drawMode ++ leBytes 4 (p.field sitePD Csr.BST_FP_SEQ)

/-- S_req and B, as the reply to DRAW gives them. -/
def Panel.drawBody (p : Panel) : List Byte :=
  leBytes 1 (p.field sitePD Csr.DRW_STATUS_S_REQ) ++ leBytes 1 (p.field sitePD Csr.DRW_STATUS_BUDGET)

/-- The hottest powered die and its temperature. -/
def Panel.hottest (p : Panel) : Nat × Nat :=
  (allSites.filter p.lives).foldl (fun b s => let t := p.field s Csr.THM_TEMP_NOW; if b.2 < t then (s, t) else b) (0, 0)

/-- The slurs of a region since a manager's last TELEM. -/
def Panel.slursSince (p : Panel) (k r : Nat) : Nat :=
  p.field sitePD (Csr.STK_R_SLURS r) - SMap.get (fun _ => 0) (p.manager k).slurBase r

/-- The body of TELEM (R533). -/
def Panel.telemBody (p : Panel) (k : Nat) : List Byte :=
  let f (x : Fld) : Nat := p.field sitePD x
  let hot := p.hottest
  let regs := allRegions.filter p.lockedUp
  let suspects := (List.range 400).filter fun s => p.isSet sitePD (Csr.ERR_SUSPECT_SYNC s) || p.isSet sitePD (Csr.ERR_SUSPECT_MARGIN s)
  leBytes 8 p.now ++ leBytes 1 p.drawMode ++ p.drawBody ++ leBytes 2 (f Csr.DRW_MEASURED_PANEL)
    ++ leBytes 2 (f Csr.THM_FLOW_FLOW) ++ leBytes 2 (f Csr.THM_COOL_INLET) ++ leBytes 2 (f Csr.THM_COOL_OUTLET)
    ++ leBytes 2 hot.1 ++ leBytes 2 hot.2 ++ leBytes 1 regs.length
    ++ (regs.flatMap fun r => leBytes 1 r ++ leBytes 1 (f (Csr.FRM_R_STATE_STATE r)) ++ leBytes 8 (f (Csr.STK_R_STROKE r))
      ++ leBytes 4 (f (Csr.STK_R_SHEET r)) ++ leBytes 1 (f (Csr.DRW_R_STATE_S r)) ++ leBytes 4 (p.slursSince k r))
    ++ leBytes 2 suspects.length
    ++ (suspects.flatMap fun s => leBytes 2 s ++ leBytes 1 (f (Csr.ERR_SUSPECT_SYNC s) + 2 * f (Csr.ERR_SUSPECT_MARGIN s))
      ++ leBytes 4 (SMap.get (fun _ => 0) p.contain.syncScore s) ++ leBytes 4 (SMap.get (fun _ => 0) p.contain.marginScore s))
    ++ leBytes 4 (f Csr.BST_FP_SEQ) ++ leBytes 4 p.tack.nextSeq

/-- A TELEM datagram goes to a manager (R533). -/
def Panel.telem (p : Panel) (k : Nat) : Panel :=
  if !p.tackDie || !p.managersUp.contains k || p.field siteTD (Csr.TCK_MGR_TELEM_MS k) = 0 then p
  else
    let p := p.flushChanges
    let p := p.tell k 0x0D (p.telemBody k)
    p.modManager k fun g =>
      { g with telems := g.telems + 1
               slurBase := allRegions.foldl (fun b r => SMap.set (fun _ => 0) b r (p.field sitePD (Csr.STK_R_SLURS r))) g.slurBase }

/-! ### Register and memory access (R531) -/

/-- CSR_READ: 1 to 64 words of a CSR window. TD raises 0x1106 when the die does not answer (R17; notes/assumptions/136.md). -/
def Panel.csrReadOp (p : Panel) (site off words : Nat) : Nat × List Byte × Panel :=
  if words < 1 || 64 < words || off % 4 ≠ 0 || siteCount ≤ site then (3, [], p)
  else if !p.answers site then (5, [], p.raise siteTD 0x1106)
  else
    let (bs, p) := p.regReads site off words
    (0, bs, p)

/-- CSR_WRITE: 1 to 64 words. -/
def Panel.csrWriteOp (p : Panel) (m : Mem) (site off : Nat) (ws : List Word) : Nat × List Byte × Panel :=
  if ws.isEmpty || 64 < ws.length || off % 4 ≠ 0 || siteCount ≤ site then (3, [], p)
  else if !p.answers site then (5, [], p.raise siteTD 0x1106)
  else (0, [], p.regWrites m 3 site off ws)

/-- A row of the panel address space can be reached from tack: panel memory, the CSR window of a die that answers, or host memory
while HD's DMA runs (R16, R17). -/
def Panel.tackReach (p : Panel) (a : Nat) : Bool :=
  match csrPlace a with
  | some (s, _) => p.answers s
  | none => if isHostAddr a then p.dmaUp else p.reachable a

/-- One row of the panel address space as MEM_READ delivers it (R16, R17): what host memory holds is a free value
(notes/assumptions/136.md). -/
def Panel.tackRow (p : Panel) (m : Mem) (a : Nat) : Delivered × Panel :=
  if !p.tackReach a then (⟨List.replicate 64 0, true⟩, p)
  else match csrPlace a with
    | some (s, o) =>
      let (bs, p) := p.regReads s o 16
      (⟨bs, false⟩, p)
    | none =>
      if isHostAddr a then
        let (bs, p) := p.drawBytes 16 64
        (⟨bs, false⟩, p)
      else p.outsideRow m a

/-- Rows read in order. -/
def Panel.tackRows (p : Panel) (m : Mem) (a : Nat) : Nat → List Delivered × Panel
  | 0 => ([], p)
  | n + 1 =>
    let (d, p) := p.tackRow m a
    let (ds, p) := p.tackRows m (a + 64) n
    (d :: ds, p)

/-- One row of the panel address space written by MEM_WRITE (R16, R253, R281). -/
def Panel.tackWriteRow (p : Panel) (m : Mem) (a : Nat) (d : Delivered) : Panel :=
  if !p.tackReach a then p.outsideWrite m a d
  else match csrPlace a with
    | some (s, o) => p.regWrites m 3 s o (wordsOf d.data)
    | none => if isHostAddr a then p.emit (.hostWrite a d.data d.fox) else p.outsideWrite m a d

/-- Every row of a range can be reached from tack. -/
def Panel.tackReaches (p : Panel) (a rows : Nat) : Bool := (List.range rows).all fun i => p.tackReach (a + 64 * i)

/-- MEM_READ: up to 1,024 bytes; foxed rows give STATUS 2 and a FOXMASK. TD raises 0x1106 for a row that cannot be reached. -/
def Panel.memReadOp (p : Panel) (m : Mem) (addr len : Nat) : Nat × List Byte × Panel :=
  if 1024 < len || len % 64 ≠ 0 || addr % 64 ≠ 0 || len = 0 then (3, [], p)
  else
    let far := !p.tackReaches addr (len / 64)
    let (rows, p) := p.tackRows m addr (len / 64)
    let mask := (rows.zipIdx.map fun x => 2 ^ x.2 * flag x.1.fox).sum
    (if mask = 0 then 0 else 2, rows.flatMap (·.data) ++ (if mask = 0 then [] else leBytes 2 mask), p.raiseIf far siteTD 0x1106)

/-- MEM_WRITE: rows written from outside; STATUS 1 when one is discarded for a running region, 5 when one cannot be reached, for
which TD raises 0x1106. -/
def Panel.memWriteOp (p : Panel) (m : Mem) (addr : Nat) (data : List Byte) : Nat × List Byte × Panel :=
  if 1024 < data.length || data.length % 64 ≠ 0 || addr % 64 ≠ 0 || data.isEmpty then (3, [], p)
  else
    let n := data.length / 64
    let far := !p.tackReaches addr n
    let held := (List.range n).any fun i => p.outsideRefusal (addr + 64 * i) = 2
    let status := if held then 1 else if far then 5 else 0
    (status, [], (p.each (rowsFrom data fun _ => false).zipIdx fun p x => p.tackWriteRow m (addr + 64 * x.2) x.1).raiseIf far siteTD
      0x1106)

/-! ### Resets, self-test and lock-up (R531) -/

/-- RESET: PWR_RST_CTRL with GO, by tack. -/
def Panel.resetOp (p : Panel) (m : Mem) (scope region site cl : Nat) : Nat × List Byte × Panel :=
  let p := (((p.setField sitePD Csr.PWR_RST_CTRL_SCOPE scope).setField sitePD Csr.PWR_RST_CTRL_REGION region).setField sitePD
    Csr.PWR_RST_CTRL_SITE site).setField sitePD Csr.PWR_RST_CTRL_CL cl
  let status := if p.resetAnswer 0 scope region site cl = 0 then 1 else 0
  (status, [], p.requestReset m 0 scope region site cl)

/-- BIST: the BST_CTRL value of a die. -/
def Panel.bistOp (p : Panel) (site value : Nat) : Nat × List Byte × Panel :=
  if siteCount ≤ site then (3, [], p)
  else if !p.answers site then (5, [], p)
  else
    let q := p.startBist site (bitsOf value 2 2) (bitsOf value 4 3) (bitsOf value 8 5)
    (if q.isSet site Csr.BST_STATUS_BUSY && !p.isSet site Csr.BST_STATUS_BUSY then 0 else 1, [], q)

/-- LOCKUP: the forme's source, and START; busy while a lock-up runs. -/
def Panel.lockUpOp (p : Panel) (m : Mem) (addr len : Nat) (atSheet : Bool) : Nat × List Byte × Panel :=
  let busy := p.isSet sitePD Csr.FRM_STATUS_BUSY
  let p := if busy then p else
    ((p.setField sitePD Csr.FRM_SRC_ADDR addr).setField sitePD Csr.FRM_SRC_LEN len).setFlag sitePD Csr.FRM_CTRL_AT_SHEET atSheet
  (if busy then 4 else 0, [], p.startLockUp m)

/-! ### Events (R532) -/

/-- A manager acknowledges every event up to SEQ. -/
def Panel.ackEvents (p : Panel) (k seq : Nat) : Panel :=
  (p.modManager k fun g => { g with unacked := g.unacked.filter fun u => !reached seq u.1 }).pruneEvents

/-- A manager's unacknowledged events are sent again; after 10 sends they are dropped for it, with 0x1108. While both ports are down
they wait. -/
def Panel.resendEvents (p : Panel) (k : Nat) : Panel :=
  if !p.tackDie || !p.lanUp then p
  else
    let p := p.flushChanges
    let us := (p.manager k).unacked
    let drop := us.any fun u => 10 ≤ u.2
    let keep := us.filter fun u => u.2 < 10
    let p := p.modManager k fun g => { g with unacked := keep.map fun u => (u.1, u.2 + 1) }
    let p := p.each keep fun p u =>
      let body := match p.tack.events.find? fun e => e.1 = u.1 with
        | some e => recBytes e.2
        | none => []
      p.tell k 0x0B (leBytes 4 u.1 ++ body)
    if drop then p.pruneEvents.raise siteTD 0x1108 else p

/-! ### Firmware images (R494, R531, R542) -/

/-- The image that is not running. -/
def Panel.otherImage (p : Panel) : Nat := 1 - p.field sitePD Csr.PWR_RST_STATUS_IMAGE % 2

/-- A chunk is written into an image. -/
def Panel.writeChunk (p : Panel) (img off : Nat) (data : List Byte) : Nat × List Byte × Panel :=
  if 0x2000000 < off + data.length then (3, [], p) else (0, [], p.flashWrite (imageBase img + off) data)

/-- The commit of the image that is not running: verified, and preferred on trial; refused with its code otherwise. -/
def Panel.commitImage (p : Panel) : Nat × List Byte × Panel :=
  let img := p.otherImage
  match p.imageCode img with
  | some c => (1, [], p.raise p.primary c)
  | none =>
    let d := p.desc
    let len := leAt (p.imageHeader img) 0x10 8
    let d := { d with prefer := img, trial := 1, attempts := 0, tries := clampTo 1 7 d.tries }
    (0, [], p.writeDesc (if img = 0 then { d with lenA := len } else { d with lenB := len }))

/-- The boot ROM takes a recovery image in image A (R494) and verifies it. The panel stays in the ROM at panel-halt: a new image runs
only after a cold reset (R8, R503). -/
def Panel.recoverBoot (p : Panel) : Panel :=
  match p.imageCode 0 with
  | some c => p.raise p.primary c
  | none => p

/-! ### Panel settings (R535) -/

/-- TD writes the panel settings where they belong. -/
def Panel.takeSettings (p : Panel) (g : PanelSettings) : Panel :=
  let p := p.each linkSites fun p s => p.setPanelId s g.panelId
  let rate := if [10667, 9600, 8533, 6400].contains g.memRate then g.memRate else p.tack.memRate
  let p := p.modTack fun t => { t with settings := true, panelId := g.panelId, memRate := rate, rigging := g.rigging.foldl (fun m x =>
    SMap.set (fun _ => 0) m x.1 (x.2.1 % 4 + 4 * (x.2.2 % 2))) t.rigging }
  let p := (p.setFlag siteTD Csr.CLK_TIME_CTRL_TIN_PPS (bitOf g.timeIn 0)).setFlag siteTD Csr.CLK_TIME_CTRL_TIN_LOCK (bitOf g.timeIn 1)
  let p := p.setField siteTD Csr.CLK_TIME_CTRL_LOCK_REGION g.lockRegion
  let p := (p.setField siteTD Csr.TCK_PTP_DOMAIN g.ptpDomain).setField siteTD Csr.TCK_PTP_PORT g.ptpPort
  let p := (p.setFlag siteTD Csr.TCK_PTP_ENABLE g.ptpEnable).setField siteTD Csr.TCK_IP g.address
  let p := (p.setField siteTD Csr.TCK_NET_CTRL_MODE0 (g.portModes % 2)).setField siteTD Csr.TCK_NET_CTRL_MODE1 (g.portModes / 2 % 2)
  let p := (p.setField siteTD Csr.TCK_NET_CTRL_PREFER g.ptpPort).preferPort
  p.each (g.managers.take 4).zipIdx fun p x =>
    ((p.setField siteTD (Csr.TCK_MGR_ADDR x.2) x.1.addr).setFlag siteTD (Csr.TCK_MGR_VALID x.2) true).setFlag siteTD
      (Csr.TCK_MGR_WRITE x.2) x.1.write

/-! ### The commands -/

/-- DATAGRAM_REFUSED (R530). -/
def execDatagramRefused (addr : Nat) (bytes : List Byte) (s : State) : Host.Outcome State Fault Refusal :=
  .next (s.quiet fun p => if p.datagramBad addr bytes then p.refuseDatagram else p)

/-- IDENT (R531). -/
def execIdent (mgr txid : Nat) (s : State) : Host.Outcome State Fault Refusal :=
  .next (s.quiet fun p => p.request mgr 1 txid false false fun p => (0, p.identBody, p))

/-- IDENT_UNSOLICITED (R531): every second, to every manager. -/
def execIdentUnsolicited (s : State) : Host.Outcome State Fault Refusal :=
  .next (s.quiet fun p =>
    if !p.tackDie then p
    else (p.modTack fun t => { t with idents := t.idents + 1 }).each p.managersUp fun p k => p.tell k 1 p.identBody)

/-- DRAW (R531). -/
def execDraw (mgr txid setpoint mode : Nat) (late : Bool) (s : State) : Host.Outcome State Fault Refusal :=
  .next (s.store fun m p => p.request mgr 2 txid true late fun p =>
    let p := p.tackSetpoint m setpoint mode
    (0, p.drawBody, p))

/-- CSR_READ (R531). -/
def execCsrRead (mgr txid site off words : Nat) (late : Bool) (s : State) : Host.Outcome State Fault Refusal :=
  .next (s.quiet fun p => p.request mgr 3 txid false late fun p => p.csrReadOp site off words)

/-- CSR_WRITE (R531). -/
def execCsrWrite (mgr txid site off : Nat) (values : List Word) (late : Bool) (s : State) : Host.Outcome State Fault Refusal :=
  .next (s.act fun m p => p.request mgr 4 txid true late fun p => p.csrWriteOp m site off values)

/-- MEM_READ (R531). -/
def execMemRead (mgr txid addr len : Nat) (late : Bool) (s : State) : Host.Outcome State Fault Refusal :=
  .next (s.store fun m p => p.request mgr 5 txid false late fun p => p.memReadOp m addr len)

/-- MEM_WRITE (R531, R253, R281). -/
def execMemWrite (mgr txid addr : Nat) (data : List Byte) (late : Bool) (s : State) : Host.Outcome State Fault Refusal :=
  .next (s.act fun m p => p.request mgr 6 txid true late fun p => p.memWriteOp m addr data)

/-- RESET (R531, R502). -/
def execReset (mgr txid scope region site cl : Nat) (late : Bool) (s : State) : Host.Outcome State Fault Refusal :=
  .next (s.act fun m p => p.request mgr 7 txid true late fun p => p.resetOp m scope region site cl)

/-- BIST (R531, R50). -/
def execBist (mgr txid site value : Nat) (late : Bool) (s : State) : Host.Outcome State Fault Refusal :=
  .next (s.store fun _ p => p.request mgr 8 txid true late fun p => p.bistOp site value)

/-- LOCKUP (R531). -/
def execLockup (mgr txid addr len : Nat) (atSheet late : Bool) (s : State) : Host.Outcome State Fault Refusal :=
  .next (s.store fun m p => p.request mgr 9 txid true late fun p => p.lockUpOp m addr len atSheet)

/-- SUBSCRIBE (R531). -/
def execSubscribe (mgr txid minSev events telemMs : Nat) (s : State) : Host.Outcome State Fault Refusal :=
  .next (s.quiet fun p => p.request mgr 0xA txid true false fun p =>
    (0, [], ((p.setField siteTD (Csr.TCK_MGR_MIN_SEV mgr) minSev).setField siteTD (Csr.TCK_MGR_EVENTS mgr) events).setField siteTD
      (Csr.TCK_MGR_TELEM_MS mgr) telemMs))

/-- EVENT_ACK (R532). -/
def execEventAck (mgr seq : Nat) (s : State) : Host.Outcome State Fault Refusal :=
  .next (s.quiet fun p => if p.tackDie && p.managersUp.contains mgr then p.ackEvents mgr seq else p)

/-- EVENT_RESEND (R532): every 100 ms, for a manager. -/
def execEventResend (mgr : Nat) (s : State) : Host.Outcome State Fault Refusal :=
  .next (s.quiet fun p => p.resendEvents mgr)

/-- TELEM (R533). -/
def execTelem (mgr : Nat) (s : State) : Host.Outcome State Fault Refusal := .next (s.quiet fun p => p.telem mgr)

/-- ATTEST (R550): by datagram (`mgr`, `txid`) with a nonce; the reply is the report, or busy. -/
def execAttest (mgr txid : Nat) (nonce : List Byte) (late : Bool) (s : State) : Host.Outcome State Fault Refusal :=
  .next (s.quiet fun p => p.request mgr 0xE txid false late fun p =>
    if nonce.length ≠ 32 then (3, [], p)
    else
      let busy := p.attesting
      let p := p.attest nonce
      if busy then (4, [], p) else (0, leBytes 320 (p.field p.primary Csr.SEC_REPORT), p))

/-- FIRMWARE_WRITE_CHUNK (R531). -/
def execFirmwareWriteChunk (mgr txid off : Nat) (data : List Byte) (late : Bool) (s : State) : Host.Outcome State Fault Refusal :=
  .next (s.quiet fun p => p.request mgr 0xF txid true late fun p => p.writeChunk p.otherImage off data)

/-- FIRMWARE_COMMIT (R542). -/
def execFirmwareCommit (mgr txid : Nat) (late : Bool) (s : State) : Host.Outcome State Fault Refusal :=
  .next (s.quiet fun p => p.request mgr 0xF txid true late fun p => p.commitImage)

/-- GET_PANEL_SETTINGS (R535): the tray controller's reply, or none within 100 ms. -/
def execGetPanelSettings (reply : Option PanelSettings) (s : State) : Host.Outcome State Fault Refusal :=
  .next (s.quiet fun p =>
    if !p.tackDie then p
    else match reply with
      | some g => p.takeSettings g
      | none => p.raise siteTD 0x110A)

/-- PLDM_EFFECTER (R535): 0 the tack setpoint, 1 the tack mode, 2 a reset scope, for the region, die and cluster that PWR_RST_CTRL
names. -/
def execPldmEffecter (effecter value : Nat) (s : State) : Host.Outcome State Fault Refusal :=
  .next (s.act fun m p =>
    let f (x : Fld) : Nat := p.field sitePD x
    match effecter with
    | 0 => p.tackSetpoint m value (f Csr.DRW_SP_TACK_MODE)
    | 1 => p.tackSetpoint m (f Csr.DRW_SP_TACK_SETPOINT) value
    | _ => (p.resetOp m value (f Csr.PWR_RST_CTRL_REGION) (f Csr.PWR_RST_CTRL_SITE) (f Csr.PWR_RST_CTRL_CL)).2.2)

/-- PLDM_FIRMWARE_UPDATE (R494, R535): a chunk of the image that is not running, or of a recovery image while the panel stays in
the ROM; with `last` the image is complete. -/
def execPldmFirmwareUpdate (off : Nat) (data : List Byte) (last : Bool) (s : State) : Host.Outcome State Fault Refusal :=
  .next (s.quiet fun p =>
    if p.boot.phase = .rom then
      let p := (p.writeChunk 0 off data).2.2
      if last then p.recoverBoot else p
    else
      let p := (p.writeChunk p.otherImage off data).2.2
      if last then p.commitImage.2.2 else p)

end Sys2Proof.Machine
end

