-- ==== Sys2Proof/Machine/Pcie.lean ====
section
/-! DEFINITION. The host interface (spec/22): the PCIe function, BAR0 and BAR2, and the job rings. -/

namespace Sys2Proof.Machine

/-! ### The PCIe function (R507, R520) -/

/-- Host DMA in flight ends with STATUS 3, and is not written to the host (R520). -/
def Panel.endDma (p : Panel) : Panel :=
  p.each allRegions fun p r =>
    p.each ((p.ring r).filter fun d => d.op ≤ 2 && d.started.isSome) fun p d => p.complete r d 3 0

/-- The PCIe link is down: HD answers nothing, and BAR2 requests that wait are gone (R520). -/
def Panel.linkDown (p : Panel) : Panel :=
  let p := ((p.setFlag siteHD Csr.HST_STATUS_LINK_UP false).setField siteHD Csr.HST_STATUS_SPEED 0).setField siteHD
    Csr.HST_STATUS_WIDTH 0
  let p := (p.setFlag siteHD Csr.HST_STATUS_D3 false).endDma
  { p with host := { p.host with held := [] } }

/-- PERST# resets HD's PCIe function and the HST registers, with their rings (R520). -/
def Panel.perst (p : Panel) : Panel :=
  let p := p.linkDown
  let p := p.clearWords siteHD 0x40000 0x50000
  ({ p with host := {} } : Panel).raise siteHD 0x1008

/-- The PCIe link trains up at a speed code and a width (R506, R520). -/
def Panel.linkUp (p : Panel) (speed width : Nat) : Panel :=
  if !p.lives siteHD || p.contain.lost.contains siteHD then p
  else ((p.setFlag siteHD Csr.HST_STATUS_LINK_UP true).setField siteHD Csr.HST_STATUS_SPEED speed).setField siteHD
    Csr.HST_STATUS_WIDTH (min 16 width)

/-! ### BAR0 (R508, R510) -/

/-- The die and the CSR offset that a BAR0 offset names: `none` when it lies in the reserved range; a site past the last one
stands for an aperture with VALID 0. -/
def Panel.bar0Target (p : Panel) (off : Nat) : Option (Nat × Nat) :=
  let o := off % 0x1000000
  if off < 0x1000000 then some (siteHD, o)
  else if off < 0x2000000 then some (p.primary, o)
  else if off < 0x3000000 then some (siteTD, o)
  else if off < 0x8000000 then none
  else
    let n := (off - 0x8000000) / 0x1000000
    some (if p.isSet siteHD (Csr.HST_AP_VALID n) then p.field siteHD (Csr.HST_AP_SITE n) else siteCount, o)

/-- A BAR0 access (R510): aligned and of 4 or 8 bytes, or answered with Unsupported Request; to a die that does not answer a
read gives all ones, a write is discarded, and 0x1001 is raised. -/
def Panel.bar0 (p : Panel) (m : Mem) (write : Bool) (off size data : Nat) : Panel :=
  if !p.hostUp || 0x10000000 ≤ off then p
  else if (size ≠ 4 && size ≠ 8) || off % size ≠ 0 then p.emit .unsupported
  else match p.bar0Target off with
    | none => if write then p else p.emit (.hostData (List.replicate size 0) false)
    | some (s, o) =>
      if s ≠ siteHD && !p.answers s then
        (if write then p else p.emit (.hostData (List.replicate size 0xFF) false)).raise siteHD 0x1001
      else if write then p.regWrites m 1 s o (wordsOf (leBytes size data))
      else
        let (bs, p) := p.regReads s o (size / 4)
        p.emit (.hostData bs false)

/-! ### BAR2 (R511, R512) -/

/-- A BAR2 request for LPDDR5X in self-refresh is held (R520). -/
def Panel.bar2Holds (p : Panel) (a : Nat) : Bool := isLpddr a && (p.memDie (memSite a)).selfRefresh

/-- Every row that `n` bytes at `a` touch can be reached. -/
def Panel.allReachable (p : Panel) (a n : Nat) : Bool :=
  (List.range (rowsTouched a n)).all fun i => p.reachable (a / 64 * 64 + 64 * i)

/-- A BAR2 request is performed (R511): `data` of a write, or `n` bytes read, poisoned when a row is foxed or cannot be
reached. An address that cannot be reached raises 0x1003. -/
def Panel.bar2Run (p : Panel) (m : Mem) (a : Nat) (data : Option (List Byte)) (n : Nat) : Panel :=
  match data with
  | some bs =>
    let far := !p.allReachable a bs.length
    (p.each (rowPieces (bs.length + 1) a bs) fun p x => p.outsideWrite m x.1 ⟨x.2, false⟩).raiseIf far siteHD 0x1003
  | none =>
    let far := !p.allReachable a n
    let (rows, p) := p.outsideRows m (a / 64 * 64) (rowsTouched a n)
    (p.emit (.hostData (sliceBytes (rows.flatMap (·.data)) (a % 64) n) (rows.any (·.fox)))).raiseIf far siteHD 0x1003

/-- The BAR2 requests that need no longer wait are performed in order, and a new base then takes effect (R512, R520). -/
def Panel.releaseHeld (p : Panel) (m : Mem) : Panel :=
  if p.host.held.isEmpty && p.host.newBase.isNone then p
  else
    let go := p.host.held.filter fun h => !p.bar2Holds h.addr
    let p := { p with host := { p.host with held := p.host.held.filter fun h => p.bar2Holds h.addr } }
    let p := p.each go fun p h => p.bar2Run m h.addr h.data h.length
    match p.host.held, p.host.newBase with
    | [], some b => ({ p with host := { p.host with newBase := none } } : Panel).setB2Base b
    | _, _ => p

/-- A BAR2 access at an offset (R511). -/
def Panel.bar2 (p : Panel) (m : Mem) (off : Nat) (data : Option (List Byte)) (n : Nat) : Panel :=
  let p := p.releaseHeld m
  if !p.hostUp || 2 ^ 36 ≤ off then p
  else
    let a := p.b2Base + off
    if p.bar2Holds a then { p with host := { p.host with held := p.host.held ++ [⟨a, data, n⟩] } }
    else p.bar2Run m a data n

/-! ### Job rings (R513–R518) -/

/-- A descriptor's fields (R515). -/
def parseDesc (b : List Byte) : HostDesc :=
  { op := leAt b 0 1, fence := bitOf (leAt b 1 1) 1, irq := bitOf (leAt b 1 1) 0, vector := leAt b 2 1, tag := leAt b 4 4,
    hostAddr := leAt b 8 8, panelAddr := leAt b 0x10 8, length := leAt b 0x18 4, home := leAt b 0x1C 2, idx := leAt b 0x1E 1,
    value := leAt b 0x20 4, compl := leAt b 0x28 8, seq := leAt b 0x30 4 }

/-- Whether a descriptor is accepted (R515) as number `seq` of its ring. -/
def descLegal (b : List Byte) (seq : Nat) : Bool :=
  let d := parseDesc b
  let zero := leAt b 1 1 < 4 && leAt b 3 1 = 0 && leAt b 0x1F 1 = 0 && leAt b 0x24 4 = 0 && leAt b 0x34 8 = 0
  let copy := d.hostAddr % 64 = 0 && d.panelAddr % 64 = 0 && d.panelAddr < 2 ^ 48 && d.length % 64 = 0 && 64 ≤ d.length
    && d.length ≤ 2 ^ 26
  b.length = 64 && crc32c (b.take 60) = leAt b 0x3C 4 && d.seq = seq && 1 ≤ d.op && d.op ≤ 5 && zero
    && (!d.irq || (16 ≤ d.vector && d.vector < 64)) && (2 < d.op || copy) && (d.op < 3 || d.op = 5 || d.home < siteCount)

/-- Descriptors are taken in order until one is refused (R515): that one completes with STATUS 2 and 0x1002 and is not counted
as accepted. CONS is written back for each that is (R514). -/
def Panel.acceptDescs (p : Panel) (r : Nat) : List (List Byte) → Panel
  | [] => p
  | b :: bs =>
    let f := Csr.HST_RING_CONS r
    let n := p.field siteHD f
    if descLegal b n then
      let p := p.setRing r (p.ring r ++ [parseDesc b])
      let p := p.setField siteHD f ((n + 1) % 2 ^ 32)
      (p.emit (.hostWrite (p.field siteHD (Csr.HST_RING_BASE r) + 4) (leBytes 4 ((n + 1) % 2 ^ 32)) false)).acceptDescs r bs
    else
      let done := Csr.HST_RING_DONE r
      ((p.setField siteHD done ((p.field siteHD done + 1) % 2 ^ 32)).hostRecord (parseDesc b) 2 0x1002).raise siteHD 0x1002

/-- The acting primary die polls a ring (R514): PROD as the header gives it, and the descriptors that follow; `ok` says that
the read succeeds. -/
def Panel.pollRing (p : Panel) (r prod : Nat) (descs : List (List Byte)) (ok : Bool) : Panel :=
  if !p.dmaUp || !p.isSet siteHD (Csr.HST_RING_ENABLE r) then p
  else if !ok then p.raise siteHD 0x1005
  else
    let p := p.setField siteHD (Csr.HST_RING_POLLS r) (p.field siteHD (Csr.HST_RING_POLLS r) + 1)
    let n := (prod + 2 ^ 32 - p.field siteHD (Csr.HST_RING_CONS r)) % 2 ^ 32
    if 2 ^ p.acting siteHD (Csr.HST_RING_SIZE r) < n then
      ((p.setFlag siteHD (Csr.HST_RING_ENABLE r) false).showRings).raise siteHD 0x1009
    else p.acceptDescs r (descs.take (min n 32))

/-- A descriptor that a ring holds, when it may start now (R516): in ring order, none before a WAIT that has not completed, a
FENCE and a SIGNAL after every earlier one, and at most eight copies in flight. -/
def Panel.mayStart (p : Panel) (r seq : Nat) : Option HostDesc :=
  let l := p.ring r
  let before := l.takeWhile fun d => d.seq ≠ seq
  match l.find? fun d => d.seq = seq with
  | none => none
  | some d =>
    let order := before.all fun x => x.started.isSome && x.op ≠ 4
    let alone := before.isEmpty || (!d.fence && d.op ≠ 3)
    let room := 2 < d.op || (before.filter fun x => x.op ≤ 2).length < 8
    if p.dmaUp && d.started.isNone && order && alone && room then some d else none

/-- A descriptor starts; `fox` says that it moved foxed or poisoned rows. -/
def Panel.startDesc (p : Panel) (r : Nat) (d : HostDesc) (fox : Bool) : Panel :=
  p.setRing r ((p.ring r).map fun x => if x.seq = d.seq then { x with started := some p.now, foxed := fox } else x)

/-- The physical site of a HOME under the imposition in force (R365, R516). -/
def Panel.homeSiteOf (p : Panel) (r home : Nat) : Nat :=
  (p.region r).forme.byHome (p.field sitePD (Csr.FRM_R_IMP_CURRENT r)) home

/-- COPY_IN: rows of host memory land in panel memory under R511, foxed where their completion was poisoned (R516, R517). -/
def Panel.copyIn (p : Panel) (m : Mem) (r seq : Nat) (rows : List Delivered) : Panel :=
  match p.mayStart r seq with
  | some d =>
    if d.op ≠ 1 then p
    else
      let rows := rows.take (d.length / 64)
      let far := !p.allReachable d.panelAddr d.length
      ((p.startDesc r d (rows.any (·.fox))).outsideWrites m d.panelAddr rows).raiseIf far siteHD 0x1003
  | none => p

/-- COPY_OUT: rows of panel memory are written to host memory, poisoned where they are foxed (R516, R517). -/
def Panel.copyOutHost (p : Panel) (m : Mem) (r seq : Nat) : Panel :=
  match p.mayStart r seq with
  | some d =>
    if d.op ≠ 2 then p
    else
      let far := !p.allReachable d.panelAddr d.length
      let (rows, p) := p.outsideRows m d.panelAddr (d.length / 64)
      let p := p.startDesc r d (rows.any (·.fox))
      (p.each rows.zipIdx fun p x => p.emit (.hostWrite (d.hostAddr + 64 * x.2) x.1.data x.1.fox)).raiseIf far siteHD 0x1003
  | none => p

/-- SIGNAL: an SADD for region r goes to the die that runs image HOME; STATUS 4 when the region does not run (R516, R518). -/
def Panel.hostSignal (p : Panel) (r seq : Nat) : Panel :=
  match p.mayStart r seq with
  | some d =>
    if d.op ≠ 3 then p
    else if !p.running r then p.complete r d 4 0
    else (p.send (.sadd (512 + r) (p.homeSiteOf r d.home) d.idx d.value)).complete r d 0 0
  | none => p

/-- WAIT: starts, or is looked at again; it completes when the counter has reached VALUE (R127, R516, R518). -/
def Panel.hostWait (p : Panel) (r seq : Nat) : Panel :=
  let p := match p.mayStart r seq with
    | some d => if d.op = 4 then p.startDesc r d false else p
    | none => p
  match (p.ring r).find? fun d => d.seq = seq && d.op = 4 && d.started.isSome with
  | none => p
  | some d =>
    if !p.running r then p.complete r d 4 0
    else if reached (p.field (p.homeSiteOf r d.home) (Csr.STK_SYNC_CTR d.idx)) d.value then p.complete r d 0 0
    else p

/-- A WAIT that has not completed in WAIT_TIMEOUT completes with STATUS 3 and 0x1006 (R516). -/
def Panel.waitTimeout (p : Panel) (r seq : Nat) : Panel :=
  match (p.ring r).find? fun d => d.seq = seq && d.op = 4 && d.started.isSome with
  | none => p
  | some d => (p.complete r d 3 0x1006).raise siteHD 0x1006

/-- NOTE only completes (R516). -/
def Panel.hostNote (p : Panel) (r seq : Nat) : Panel :=
  match p.mayStart r seq with
  | some d => if d.op = 5 then p.complete r d 0 0 else p
  | none => p

/-- A copy has moved its last row (R517): STATUS 1 when some were foxed. -/
def Panel.copyDone (p : Panel) (r seq : Nat) : Panel :=
  match (p.ring r).find? fun d => d.seq = seq && d.op ≤ 2 && d.started.isSome with
  | none => p
  | some d => if p.dmaUp then p.complete r d (flag d.foxed) 0 else p

/-! ### The commands -/

/-- PERST (R520). -/
def execPerst (s : State) : Host.Outcome State Fault Refusal := .next (s.quiet fun p => p.perst)

/-- PCIE_LINK_DOWN (R520): the link goes down without PERST#; the HST registers are kept. -/
def execPcieLinkDown (s : State) : Host.Outcome State Fault Refusal :=
  .next (s.quiet fun p => p.linkDown.raise siteHD 0x1008)

/-- PCIE_LINK_UP (R520): HST_STATUS takes the speed code and the number of lanes. -/
def execPcieLinkUp (speed width : Nat) (s : State) : Host.Outcome State Fault Refusal :=
  .next (s.quiet fun p => p.linkUp speed width)

/-- PCIE_POWER_STATE (R507): the function enters D3hot or D0. -/
def execPciePowerState (d3 : Bool) (s : State) : Host.Outcome State Fault Refusal :=
  .next (s.quiet fun p =>
    if p.isSet siteHD Csr.HST_STATUS_LINK_UP then p.setFlag siteHD Csr.HST_STATUS_D3 d3 else p)

/-- BAR0_ACCESS (R510). -/
def execBar0Access (write : Bool) (off size data : Nat) (s : State) : Host.Outcome State Fault Refusal :=
  .next (s.store fun m p => p.bar0 m write off size data)

/-- BAR2_ACCESS (R511): `data` of a write, or the length of a read. -/
def execBar2Access (off : Nat) (data : Option (List Byte)) (length : Nat) (s : State) : Host.Outcome State Fault Refusal :=
  .next (s.store fun m p => p.bar2 m off data length)

/-- HST_B2_BASE_WRITE (R512). -/
def execHstB2BaseWrite (base : Nat) (s : State) : Host.Outcome State Fault Refusal :=
  .next (s.store fun m p => (p.setB2Base base).releaseHeld m)

/-- RING_POLL (R514). -/
def execRingPoll (ring prod : Nat) (descs : List (List Byte)) (ok : Bool) (s : State) : Host.Outcome State Fault Refusal :=
  .next (s.quiet fun p => p.pollRing (ring % 16) prod descs ok)

/-- COPY_IN (R516): the descriptor of a ring that starts, and the rows of host memory that it reads. -/
def execCopyIn (ring seq : Nat) (rows : List Delivered) (s : State) : Host.Outcome State Fault Refusal :=
  .next (s.store fun m p => p.copyIn m (ring % 16) seq rows)

/-- COPY_OUT (R516). -/
def execCopyOut (ring seq : Nat) (s : State) : Host.Outcome State Fault Refusal :=
  .next (s.store fun m p => p.copyOutHost m (ring % 16) seq)

/-- HOST_SIGNAL (R516). -/
def execHostSignal (ring seq : Nat) (s : State) : Host.Outcome State Fault Refusal :=
  .next (s.quiet fun p => p.hostSignal (ring % 16) seq)

/-- HOST_WAIT (R516): the WAIT starts, or its counter is looked at again. -/
def execHostWait (ring seq : Nat) (s : State) : Host.Outcome State Fault Refusal :=
  .next (s.quiet fun p => p.hostWait (ring % 16) seq)

/-- NOTE (R516). -/
def execNote (ring seq : Nat) (s : State) : Host.Outcome State Fault Refusal :=
  .next (s.quiet fun p => p.hostNote (ring % 16) seq)

/-- HOST_COPY_DONE (R517). -/
def execHostCopyDone (ring seq : Nat) (s : State) : Host.Outcome State Fault Refusal :=
  .next (s.quiet fun p => p.copyDone (ring % 16) seq)

/-- HOST_WAIT_TIMEOUT (R516). -/
def execHostWaitTimeout (ring seq : Nat) (s : State) : Host.Outcome State Fault Refusal :=
  .next (s.quiet fun p => p.waitTimeout (ring % 16) seq)

end Sys2Proof.Machine
end

