-- ==== Sys2Proof/Machine/Dispatch.lean ====
section
/-! DEFINITION. The meaning of every command: one arm per constructor. -/

namespace Sys2Proof.Machine

/-- The effect of a command on everything but the queue. -/
def exec (i : Instr) (s : State) : Host.Outcome State Fault Refusal :=
  match i with
  | .coldReset failed streams => Sys2Proof.Machine.execColdReset failed streams s
  | .panelRstAssert => Sys2Proof.Machine.execPanelRstAssert s
  | .flashFree => Sys2Proof.Machine.execFlashFree s
  | .powerWaveSlot failed channels wires => Sys2Proof.Machine.execPowerWaveSlot failed channels wires s
  | .proofReportDeadline => Sys2Proof.Machine.execProofReportDeadline s
  | .cornerProofSlot raws delays silent => Sys2Proof.Machine.execCornerProofSlot raws delays silent s
  | .bringUpReady => Sys2Proof.Machine.execBringUpReady s
  | .fieldBistStart site mode kinds units => Sys2Proof.Machine.execFieldBistStart site mode kinds units s
  | .fieldBistAbort site => Sys2Proof.Machine.execFieldBistAbort site s
  | .fieldBistDone site loopback => Sys2Proof.Machine.execFieldBistDone site loopback s
  | .clkPeriodWrite site value draw => Sys2Proof.Machine.execClkPeriodWrite site value draw s
  | .marginStretch site domain margin sixteenths period => Sys2Proof.Machine.execMarginStretch site domain margin sixteenths period s
  | .domainSkewFault site indices => Sys2Proof.Machine.execDomainSkewFault site indices s
  | .oscillatorStop site domain => Sys2Proof.Machine.execOscillatorStop site domain s
  | .clkForcedWrite site value => Sys2Proof.Machine.execClkForcedWrite site value s
  | .refClkLoss site => Sys2Proof.Machine.execRefClkLoss site s
  | .timeBeaconSend => Sys2Proof.Machine.execTimeBeaconSend s
  | .timeBeacon site launch rate => Sys2Proof.Machine.execTimeBeacon site launch rate s
  | .tickSend region => Sys2Proof.Machine.execTickSend region s
  | .tickMessage site region => Sys2Proof.Machine.execTickMessage site region s
  | .strokeTick site region peaks => Sys2Proof.Machine.execStrokeTick site region peaks s
  | .ptpMessage m => Sys2Proof.Machine.execPtpMessage m s
  | .ptpHoldover => Sys2Proof.Machine.execPtpHoldover s
  | .timeInEdge => Sys2Proof.Machine.execTimeInEdge s
  | .strokeLockLost => Sys2Proof.Machine.execStrokeLockLost s
  | .timeOutPps => Sys2Proof.Machine.execTimeOutPps s
  | .meshWordArrive site bundle => Sys2Proof.Machine.execMeshWordArrive site bundle s
  | .holdEnd site cycles late => Sys2Proof.Machine.execHoldEnd site cycles late s
  | .holdTimeout site => Sys2Proof.Machine.execHoldTimeout site s
  | .endOfStroke site => Sys2Proof.Machine.execEndOfStroke site s
  | .strokeEndReport site => Sys2Proof.Machine.execStrokeEndReport site s
  | .slurLimitExpired region => Sys2Proof.Machine.execSlurLimitExpired region s
  | .stepAnnounce region d => Sys2Proof.Machine.execStepAnnounce region d s
  | .sheetCommit region writeOk => Sys2Proof.Machine.execSheetCommit region writeOk s
  | .lineIssue site late => Sys2Proof.Machine.execLineIssue site late s
  | .slotNop site slot => Sys2Proof.Machine.execSlotNop site slot s
  | .quad site late => Sys2Proof.Machine.execQuad site late s
  | .loopBegin site => Sys2Proof.Machine.execLoopBegin site s
  | .loopEnd site => Sys2Proof.Machine.execLoopEnd site s
  | .scheduleLengthReached site => Sys2Proof.Machine.execScheduleLengthReached site s
  | .ends site w => Sys2Proof.Machine.execEnds site w s
  | .launch site w => Sys2Proof.Machine.execLaunch site w s
  | .page site w => Sys2Proof.Machine.execPage site w s
  | .pageLoadComplete site half => Sys2Proof.Machine.execPageLoadComplete site half s
  | .jumpp site w => Sys2Proof.Machine.execJumpp site w s
  | .waitl site w => Sys2Proof.Machine.execWaitl site w s
  | .ximm site slot value => Sys2Proof.Machine.execXimm site slot value s
  | .mark site w => Sys2Proof.Machine.execMark site w s
  | .sadd site idx home delta => Sys2Proof.Machine.execSadd site idx home delta s
  | .sset site idx value => Sys2Proof.Machine.execSset site idx value s
  | .swait site w => Sys2Proof.Machine.execSwait site w s
  | .swaitb site w => Sys2Proof.Machine.execSwaitb site w s
  | .swatch site idx home slot abs target => Sys2Proof.Machine.execSwatch site idx home slot abs target s
  | .swaitw site w => Sys2Proof.Machine.execSwaitw site w s
  | .waitPass site cycles => Sys2Proof.Machine.execWaitPass site cycles s
  | .swaitbBoundExpired site => Sys2Proof.Machine.execSwaitbBoundExpired site s
  | .syncWaitTimeout site => Sys2Proof.Machine.execSyncWaitTimeout site s
  | .saddArrive home idx delta src => Sys2Proof.Machine.execSaddArrive home idx delta src s
  | .watchArrive home idx target waiter slot => Sys2Proof.Machine.execWatchArrive home idx target waiter slot s
  | .reachedArrive home waiter slot => Sys2Proof.Machine.execReachedArrive home waiter slot s
  | .lastArrivalNotice home site => Sys2Proof.Machine.execLastArrivalNotice home site s
  | .cmpAdd t rd rs1 rs2 => Sys2Proof.Machine.execCmpAdd t rd rs1 rs2 s
  | .cmpSub t rd rs1 rs2 => Sys2Proof.Machine.execCmpSub t rd rs1 rs2 s
  | .cmpAnd t rd rs1 rs2 => Sys2Proof.Machine.execCmpAnd t rd rs1 rs2 s
  | .cmpOr t rd rs1 rs2 => Sys2Proof.Machine.execCmpOr t rd rs1 rs2 s
  | .cmpXor t rd rs1 rs2 => Sys2Proof.Machine.execCmpXor t rd rs1 rs2 s
  | .cmpSll t rd rs1 rs2 => Sys2Proof.Machine.execCmpSll t rd rs1 rs2 s
  | .cmpSrl t rd rs1 rs2 => Sys2Proof.Machine.execCmpSrl t rd rs1 rs2 s
  | .cmpSra t rd rs1 rs2 => Sys2Proof.Machine.execCmpSra t rd rs1 rs2 s
  | .cmpSlt t rd rs1 rs2 => Sys2Proof.Machine.execCmpSlt t rd rs1 rs2 s
  | .cmpSltu t rd rs1 rs2 => Sys2Proof.Machine.execCmpSltu t rd rs1 rs2 s
  | .cmpMul t rd rs1 rs2 => Sys2Proof.Machine.execCmpMul t rd rs1 rs2 s
  | .cmpMulhu t rd rs1 rs2 => Sys2Proof.Machine.execCmpMulhu t rd rs1 rs2 s
  | .cmpMin t rd rs1 rs2 => Sys2Proof.Machine.execCmpMin t rd rs1 rs2 s
  | .cmpMax t rd rs1 rs2 => Sys2Proof.Machine.execCmpMax t rd rs1 rs2 s
  | .cmpAddi t rd rs1 imm => Sys2Proof.Machine.execCmpAddi t rd rs1 imm s
  | .cmpAndi t rd rs1 imm => Sys2Proof.Machine.execCmpAndi t rd rs1 imm s
  | .cmpOri t rd rs1 imm => Sys2Proof.Machine.execCmpOri t rd rs1 imm s
  | .cmpXori t rd rs1 imm => Sys2Proof.Machine.execCmpXori t rd rs1 imm s
  | .cmpSlli t rd rs1 sh => Sys2Proof.Machine.execCmpSlli t rd rs1 sh s
  | .cmpSrli t rd rs1 sh => Sys2Proof.Machine.execCmpSrli t rd rs1 sh s
  | .cmpSrai t rd rs1 sh => Sys2Proof.Machine.execCmpSrai t rd rs1 sh s
  | .cmpLui t rd imm => Sys2Proof.Machine.execCmpLui t rd imm s
  | .cmpLw t rd rs1 imm => Sys2Proof.Machine.execCmpLw t rd rs1 imm s
  | .cmpLbu t rd rs1 imm => Sys2Proof.Machine.execCmpLbu t rd rs1 imm s
  | .cmpSw t rs rs1 imm => Sys2Proof.Machine.execCmpSw t rs rs1 imm s
  | .cmpSb t rs rs1 imm => Sys2Proof.Machine.execCmpSb t rs rs1 imm s
  | .cmpBeq t rs1 rs2 off => Sys2Proof.Machine.execCmpBeq t rs1 rs2 off s
  | .cmpBne t rs1 rs2 off => Sys2Proof.Machine.execCmpBne t rs1 rs2 off s
  | .cmpBlt t rs1 rs2 off => Sys2Proof.Machine.execCmpBlt t rs1 rs2 off s
  | .cmpBge t rs1 rs2 off => Sys2Proof.Machine.execCmpBge t rs1 rs2 off s
  | .cmpBltu t rs1 rs2 off => Sys2Proof.Machine.execCmpBltu t rs1 rs2 off s
  | .cmpJal t rd target => Sys2Proof.Machine.execCmpJal t rd target s
  | .cmpJalr t rd rs1 imm => Sys2Proof.Machine.execCmpJalr t rd rs1 imm s
  | .cmpSig t rs idx imm8 => Sys2Proof.Machine.execCmpSig t rs idx imm8 s
  | .cmpSrd t rs idx => Sys2Proof.Machine.execCmpSrd t rs idx s
  | .cmpRds t rs item => Sys2Proof.Machine.execCmpRds t rs item s
  | .cmpEnd t rs idx imm8 => Sys2Proof.Machine.execCmpEnd t rs idx imm8 s
  | .cmpVld t vd rs1 imm8 => Sys2Proof.Machine.execCmpVld t vd rs1 imm8 s
  | .cmpVst t vs rs1 imm8 => Sys2Proof.Machine.execCmpVst t vs rs1 imm8 s
  | .cmpVadd t vd vs1 vs2 ty => Sys2Proof.Machine.execCmpVadd t vd vs1 vs2 ty s
  | .cmpVsub t vd vs1 vs2 ty => Sys2Proof.Machine.execCmpVsub t vd vs1 vs2 ty s
  | .cmpVmul t vd vs1 vs2 ty => Sys2Proof.Machine.execCmpVmul t vd vs1 vs2 ty s
  | .cmpVfma t vd vs1 vs2 ty => Sys2Proof.Machine.execCmpVfma t vd vs1 vs2 ty s
  | .cmpVmax t vd vs1 vs2 ty => Sys2Proof.Machine.execCmpVmax t vd vs1 vs2 ty s
  | .cmpVcmp t vd vs1 vs2 ty op => Sys2Proof.Machine.execCmpVcmp t vd vs1 vs2 ty op s
  | .cmpVsel t vd vs1 vs2 ty => Sys2Proof.Machine.execCmpVsel t vd vs1 vs2 ty s
  | .cmpVcvt t vd vs1 ty imm8 => Sys2Proof.Machine.execCmpVcvt t vd vs1 ty imm8 s
  | .cmpVred t vd vs1 ty => Sys2Proof.Machine.execCmpVred t vd vs1 ty s
  | .cmpVperm t vd vs1 vs2 ty => Sys2Proof.Machine.execCmpVperm t vd vs1 vs2 ty s
  | .cmpVspl t vd rs1 ty => Sys2Proof.Machine.execCmpVspl t vd rs1 ty s
  | .cmpVext t rd vs1 ty imm8 => Sys2Proof.Machine.execCmpVext t rd vs1 ty imm8 s
  | .cmpIllegal t => Sys2Proof.Machine.execCmpIllegal t s
  | .wload site cluster w ximm => Sys2Proof.Machine.execWload site cluster w ximm s
  | .stream site cluster w ximm => Sys2Proof.Machine.execStream site cluster w ximm s
  | .drain site cluster w => Sys2Proof.Machine.execDrain site cluster w s
  | .ainit site cluster w => Sys2Proof.Machine.execAinit site cluster w s
  | .wloadReady site cluster => Sys2Proof.Machine.execWloadReady site cluster s
  | .streamDone site cluster parity => Sys2Proof.Machine.execStreamDone site cluster parity s
  | .ainitDone site cluster => Sys2Proof.Machine.execAinitDone site cluster s
  | .drainDone site cluster upset => Sys2Proof.Machine.execDrainDone site cluster upset s
  | .denInject site cluster => Sys2Proof.Machine.execDenInject site cluster s
  | .sload site cluster w ximm => Sys2Proof.Machine.execSload site cluster w ximm s
  | .sstream site cluster w ximm => Sys2Proof.Machine.execSstream site cluster w ximm s
  | .sdrain site cluster w => Sys2Proof.Machine.execSdrain site cluster w s
  | .sainit site cluster w => Sys2Proof.Machine.execSainit site cluster w s
  | .sloadReady site cluster => Sys2Proof.Machine.execSloadReady site cluster s
  | .sstreamDone site cluster parity => Sys2Proof.Machine.execSstreamDone site cluster parity s
  | .sainitDone site cluster => Sys2Proof.Machine.execSainitDone site cluster s
  | .sdrainDone site cluster upset => Sys2Proof.Machine.execSdrainDone site cluster upset s
  | .spaInject site cluster => Sys2Proof.Machine.execSpaInject site cluster s
  | .spaMetaInject site cluster => Sys2Proof.Machine.execSpaMetaInject site cluster s
  | .gate site w ximm => Sys2Proof.Machine.execGate site w ximm s
  | .just site w => Sys2Proof.Machine.execJust site w s
  | .merge site w => Sys2Proof.Machine.execMerge site w s
  | .slot12Done site unit => Sys2Proof.Machine.execSlot12Done site unit s
  | .copy site cluster w => Sys2Proof.Machine.execCopy site cluster w s
  | .zero site cluster w => Sys2Proof.Machine.execZero site cluster w s
  | .store site cluster w ximm => Sys2Proof.Machine.execStore site cluster w ximm s
  | .cstore site cluster w => Sys2Proof.Machine.execCstore site cluster w s
  | .put site cluster w ximm => Sys2Proof.Machine.execPut site cluster w ximm s
  | .wopen site cluster w => Sys2Proof.Machine.execWopen site cluster w s
  | .wclose site cluster w => Sys2Proof.Machine.execWclose site cluster w s
  | .scratchOpDone site cluster => Sys2Proof.Machine.execScratchOpDone site cluster s
  | .putArrive src srcCluster site cluster row rows => Sys2Proof.Machine.execPutArrive src srcCluster site cluster row rows s
  | .scoreboardRetire site cluster id => Sys2Proof.Machine.execScoreboardRetire site cluster id s
  | .scrubAccess site cluster row upset => Sys2Proof.Machine.execScrubAccess site cluster row upset s
  | .parInject site cluster => Sys2Proof.Machine.execParInject site cluster s
  | .foxFillDone site cluster => Sys2Proof.Machine.execFoxFillDone site cluster s
  | .gread site cluster w => Sys2Proof.Machine.execGread site cluster w s
  | .gwrite site cluster w => Sys2Proof.Machine.execGwrite site cluster w s
  | .gwait site cluster w => Sys2Proof.Machine.execGwait site cluster w s
  | .gdrain site cluster w => Sys2Proof.Machine.execGdrain site cluster w s
  | .galleyRequestSend site cluster => Sys2Proof.Machine.execGalleyRequestSend site cluster s
  | .mdReadRequest k corrected retries failed => Sys2Proof.Machine.execMdReadRequest k corrected retries failed s
  | .mdWriteRequest k noise => Sys2Proof.Machine.execMdWriteRequest k noise s
  | .readDataLand k hostRows noise => Sys2Proof.Machine.execReadDataLand k hostRows noise s
  | .writeAckArrive k => Sys2Proof.Machine.execWriteAckArrive k s
  | .galleyTimeout k => Sys2Proof.Machine.execGalleyTimeout k s
  | .foxSummarySweep md channel => Sys2Proof.Machine.execFoxSummarySweep md channel s
  | .odeccPoll md odecc refresh temp => Sys2Proof.Machine.execOdeccPoll md odecc refresh temp s
  | .galCrcInject site cluster => Sys2Proof.Machine.execGalCrcInject site cluster s
  | .setoffCopyAck md ctx => Sys2Proof.Machine.execSetoffCopyAck md ctx s
  | .setmarkNotice md region sheet => Sys2Proof.Machine.execSetmarkNotice md region sheet s
  | .sheetEndReport md ctx sheet => Sys2Proof.Machine.execSheetEndReport md ctx sheet s
  | .setoffAckWaitExpired region => Sys2Proof.Machine.execSetoffAckWaitExpired region s
  | .setoffReceive ctx psn => Sys2Proof.Machine.execSetoffReceive ctx psn s
  | .setoffResync shard => Sys2Proof.Machine.execSetoffResync shard s
  | .msend site cluster w => Sys2Proof.Machine.execMsend site cluster w s
  | .mrecv site cluster w => Sys2Proof.Machine.execMrecv site cluster w s
  | .tsend site cluster w => Sys2Proof.Machine.execTsend site cluster w s
  | .packetHop site input cls => Sys2Proof.Machine.execPacketHop site input cls s
  | .reinAlarm site cls cycles => Sys2Proof.Machine.execReinAlarm site cls cycles s
  | .fabFlip => Sys2Proof.Machine.execFabFlip s
  | .epochFlipMsg site version => Sys2Proof.Machine.execEpochFlipMsg site version s
  | .routerDrainReport site => Sys2Proof.Machine.execRouterDrainReport site s
  | .drainNotice site => Sys2Proof.Machine.execDrainNotice site s
  | .fabRtWrite site dst value => Sys2Proof.Machine.execFabRtWrite site dst value s
  | .traceFlit site bundle trace noise => Sys2Proof.Machine.execTraceFlit site bundle trace noise s
  | .traceCreditTimeout site trace => Sys2Proof.Machine.execTraceCreditTimeout site trace s
  | .gtrDone k => Sys2Proof.Machine.execGtrDone k s
  | .bcast site off data => Sys2Proof.Machine.execBcast site off data s
  | .bcastEnd site crc => Sys2Proof.Machine.execBcastEnd site crc s
  | .bcastVerifyReport site ok => Sys2Proof.Machine.execBcastVerifyReport site ok s
  | .azIdle f => Sys2Proof.Machine.execAzIdle f s
  | .azData f cls => Sys2Proof.Machine.execAzData f cls s
  | .azKa f cls => Sys2Proof.Machine.execAzKa f cls s
  | .azNak f => Sys2Proof.Machine.execAzNak f s
  | .azTie f => Sys2Proof.Machine.execAzTie f s
  | .azCut f => Sys2Proof.Machine.execAzCut f s
  | .azTrunc f => Sys2Proof.Machine.execAzTrunc f s
  | .azCrcFail f => Sys2Proof.Machine.execAzCrcFail f s
  | .azNoGoodFrame site bundle => Sys2Proof.Machine.execAzNoGoodFrame site bundle s
  | .azRetrain site edge bundle => Sys2Proof.Machine.execAzRetrain site edge bundle s
  | .azRetrainDone site bundle ok tx rx raw => Sys2Proof.Machine.execAzRetrainDone site bundle ok tx rx raw s
  | .azCutTimeout site edge => Sys2Proof.Machine.execAzCutTimeout site edge s
  | .azCutOrder site edge => Sys2Proof.Machine.execAzCutOrder site edge s
  | .azRejoin site edge wires => Sys2Proof.Machine.execAzRejoin site edge wires s
  | .tieMaskWrite site mask => Sys2Proof.Machine.execTieMaskWrite site mask s
  | .tcDescriptor site edge frame => Sys2Proof.Machine.execTcDescriptor site edge frame s
  | .tcSnapshot tester target frame => Sys2Proof.Machine.execTcSnapshot tester target frame s
  | .tcLoopback site bundle tx rx => Sys2Proof.Machine.execTcLoopback site bundle tx rx s
  | .tcFrameCrcFail tester target frame => Sys2Proof.Machine.execTcFrameCrcFail tester target frame s
  | .plFrameRoute port words => Sys2Proof.Machine.execPlFrameRoute port words s
  | .transitPacket src port f => Sys2Proof.Machine.execTransitPacket src port f s
  | .plData f => Sys2Proof.Machine.execPlData f s
  | .plAck f => Sys2Proof.Machine.execPlAck f s
  | .plNak f => Sys2Proof.Machine.execPlNak f s
  | .plMark f => Sys2Proof.Machine.execPlMark f s
  | .plMarkAck f => Sys2Proof.Machine.execPlMarkAck f s
  | .setmarkAck ctx sheet => Sys2Proof.Machine.execSetmarkAck ctx sheet s
  | .plKeepalive port src => Sys2Proof.Machine.execPlKeepalive port src s
  | .plKeepaliveSend port => Sys2Proof.Machine.execPlKeepaliveSend port s
  | .plAckTimer ctx => Sys2Proof.Machine.execPlAckTimer ctx s
  | .plGapTimeout ctx => Sys2Proof.Machine.execPlGapTimeout ctx s
  | .plRtoExpire ctx psn => Sys2Proof.Machine.execPlRtoExpire ctx psn s
  | .streamCopyStored md ctx => Sys2Proof.Machine.execStreamCopyStored md ctx s
  | .plPortLoss port => Sys2Proof.Machine.execPlPortLoss port s
  | .plPortIdleTimeout port => Sys2Proof.Machine.execPlPortIdleTimeout port s
  | .lnkFlip => Sys2Proof.Machine.execLnkFlip s
  | .ptFlipMsg link version => Sys2Proof.Machine.execPtFlipMsg link version s
  | .ptOldIdle => Sys2Proof.Machine.execPtOldIdle s
  | .lnkPtWrite link panel value => Sys2Proof.Machine.execLnkPtWrite link panel value s
  | .lnkRerig link mask => Sys2Proof.Machine.execLnkRerig link mask s
  | .portTrainingDone port ok => Sys2Proof.Machine.execPortTrainingDone port ok s
  | .feedFrame port words => Sys2Proof.Machine.execFeedFrame port words s
  | .ethFrame port iface data fcsOk => Sys2Proof.Machine.execEthFrame port iface data fcsOk s
  | .ethConsPoll port iface => Sys2Proof.Machine.execEthConsPoll port iface s
  | .laneMarginSample link lane eye errors => Sys2Proof.Machine.execLaneMarginSample link lane eye errors s
  | .frmStart => Sys2Proof.Machine.execFrmStart s
  | .frmAbort => Sys2Proof.Machine.execFrmAbort s
  | .lockupDetourDrained => Sys2Proof.Machine.execLockupDetourDrained s
  | .lockupTiedDrained => Sys2Proof.Machine.execLockupTiedDrained s
  | .lockupFinalDrained => Sys2Proof.Machine.execLockupFinalDrained s
  | .impositionRequest region imp draw => Sys2Proof.Machine.execImpositionRequest region imp draw s
  | .overdrawRetry site => Sys2Proof.Machine.execOverdrawRetry site s
  | .errAccept region => Sys2Proof.Machine.execErrAccept region s
  | .reprintClaim site slot reserve cluster => Sys2Proof.Machine.execReprintClaim site slot reserve cluster s
  | .reprintGrant site slot granted => Sys2Proof.Machine.execReprintGrant site slot granted s
  | .reprintOperands site slot => Sys2Proof.Machine.execReprintOperands site slot s
  | .reprintReplayDone site slot upset => Sys2Proof.Machine.execReprintReplayDone site slot upset s
  | .reprintResult site slot => Sys2Proof.Machine.execReprintResult site slot s
  | .reprintTimeout site slot => Sys2Proof.Machine.execReprintTimeout site slot s
  | .errRpInject site => Sys2Proof.Machine.execErrRpInject site s
  | .strokeAbortMsg site => Sys2Proof.Machine.execStrokeAbortMsg site s
  | .regionAbort region code => Sys2Proof.Machine.execRegionAbort region code s
  | .abortSettleExpired region => Sys2Proof.Machine.execAbortSettleExpired region s
  | .restartReloadDone region => Sys2Proof.Machine.execRestartReloadDone region s
  | .pwrReqOn site domain => Sys2Proof.Machine.execPwrReqOn site domain s
  | .pwrReqOff site domain => Sys2Proof.Machine.execPwrReqOff site domain s
  | .turnOnAttempt site domain groupPeak railPeak => Sys2Proof.Machine.execTurnOnAttempt site domain groupPeak railPeak s
  | .headerStageStep site domain ok => Sys2Proof.Machine.execHeaderStageStep site domain ok s
  | .domainPowerGood site domain => Sys2Proof.Machine.execDomainPowerGood site domain s
  | .powerGoodTimeout site domain => Sys2Proof.Machine.execPowerGoodTimeout site domain s
  | .reservationRelease site domain => Sys2Proof.Machine.execReservationRelease site domain s
  | .phaseLoss site cluster phase => Sys2Proof.Machine.execPhaseLoss site cluster phase s
  | .phInject site cluster => Sys2Proof.Machine.execPhInject site cluster s
  | .uncoreRegulatorFail site io b => Sys2Proof.Machine.execUncoreRegulatorFail site io b s
  | .pwrVsetWrite site mv => Sys2Proof.Machine.execPwrVsetWrite site mv s
  | .groupSenseLow group mv => Sys2Proof.Machine.execGroupSenseLow group mv s
  | .groupUndervolt group => Sys2Proof.Machine.execGroupUndervolt group s
  | .railFail withdrawn => Sys2Proof.Machine.execRailFail withdrawn s
  | .groupOverLimit group amps => Sys2Proof.Machine.execGroupOverLimit group amps s
  | .drwSpTackWrite setpoint mode => Sys2Proof.Machine.execDrwSpTackWrite setpoint mode s
  | .drwSpHostWrite setpoint mode => Sys2Proof.Machine.execDrwSpHostWrite setpoint mode s
  | .tackLeaseExpired => Sys2Proof.Machine.execTackLeaseExpired s
  | .budgetRampStep => Sys2Proof.Machine.execBudgetRampStep s
  | .diePowerReport site power => Sys2Proof.Machine.execDiePowerReport site power s
  | .drawTrimUpdate => Sys2Proof.Machine.execDrawTrimUpdate s
  | .warmWaitExpired region => Sys2Proof.Machine.execWarmWaitExpired region s
  | .warmDutyUpdate site => Sys2Proof.Machine.execWarmDutyUpdate site s
  | .coolantSample tin tout flow => Sys2Proof.Machine.execCoolantSample tin tout flow s
  | .thermalForecast site => Sys2Proof.Machine.execThermalForecast site s
  | .thermalSustainExpired region => Sys2Proof.Machine.execThermalSustainExpired region s
  | .sensorRead site sensors => Sys2Proof.Machine.execSensorRead site sensors s
  | .hotTrip site => Sys2Proof.Machine.execHotTrip site s
  | .resetColdRequest streams => Sys2Proof.Machine.execResetColdRequest streams s
  | .resetWarm src => Sys2Proof.Machine.execResetWarm src s
  | .resetCompute src => Sys2Proof.Machine.execResetCompute src s
  | .resetRegion src region => Sys2Proof.Machine.execResetRegion src region s
  | .resetDie src site failed reports wires raws => Sys2Proof.Machine.execResetDie src site failed reports wires raws s
  | .resetCluster src site cluster => Sys2Proof.Machine.execResetCluster src site cluster s
  | .perst => Sys2Proof.Machine.execPerst s
  | .pcieLinkDown => Sys2Proof.Machine.execPcieLinkDown s
  | .pciePowerState d3 => Sys2Proof.Machine.execPciePowerState d3 s
  | .bar0Access write off size data => Sys2Proof.Machine.execBar0Access write off size data s
  | .bar2Access off data length => Sys2Proof.Machine.execBar2Access off data length s
  | .hstB2BaseWrite base => Sys2Proof.Machine.execHstB2BaseWrite base s
  | .ringPoll ring prod descs ok => Sys2Proof.Machine.execRingPoll ring prod descs ok s
  | .copyIn ring seq rows => Sys2Proof.Machine.execCopyIn ring seq rows s
  | .copyOut ring seq => Sys2Proof.Machine.execCopyOut ring seq s
  | .hostSignal ring seq => Sys2Proof.Machine.execHostSignal ring seq s
  | .hostWait ring seq => Sys2Proof.Machine.execHostWait ring seq s
  | .note ring seq => Sys2Proof.Machine.execNote ring seq s
  | .hostCopyDone ring seq => Sys2Proof.Machine.execHostCopyDone ring seq s
  | .hostWaitTimeout ring seq => Sys2Proof.Machine.execHostWaitTimeout ring seq s
  | .tackHbSend site => Sys2Proof.Machine.execTackHbSend site s
  | .tackHbMiss site link => Sys2Proof.Machine.execTackHbMiss site link s
  | .lossFrame watcher lost slot => Sys2Proof.Machine.execLossFrame watcher lost slot s
  | .faultFrame dst r via => Sys2Proof.Machine.execFaultFrame dst r via s
  | .faultFoldExpired site code => Sys2Proof.Machine.execFaultFoldExpired site code s
  | .csrRd requester site off => Sys2Proof.Machine.execCsrRd requester site off s
  | .csrWr requester site off value => Sys2Proof.Machine.execCsrWr requester site off value s
  | .csrRsp dst site off value => Sys2Proof.Machine.execCsrRsp dst site off value s
  | .distBeacon site origin id hops => Sys2Proof.Machine.execDistBeacon site origin id hops s
  | .tackControl site h c => Sys2Proof.Machine.execTackControl site h c s
  | .mgmtPortDown port => Sys2Proof.Machine.execMgmtPortDown port s
  | .datagramRefused addr bytes => Sys2Proof.Machine.execDatagramRefused addr bytes s
  | .ident mgr txid => Sys2Proof.Machine.execIdent mgr txid s
  | .identUnsolicited => Sys2Proof.Machine.execIdentUnsolicited s
  | .draw mgr txid setpoint mode late => Sys2Proof.Machine.execDraw mgr txid setpoint mode late s
  | .csrRead mgr txid site off words late => Sys2Proof.Machine.execCsrRead mgr txid site off words late s
  | .csrWrite mgr txid site off values late => Sys2Proof.Machine.execCsrWrite mgr txid site off values late s
  | .memRead mgr txid addr len late => Sys2Proof.Machine.execMemRead mgr txid addr len late s
  | .memWrite mgr txid addr data late => Sys2Proof.Machine.execMemWrite mgr txid addr data late s
  | .reset mgr txid scope region site cl late => Sys2Proof.Machine.execReset mgr txid scope region site cl late s
  | .bist mgr txid site value late => Sys2Proof.Machine.execBist mgr txid site value late s
  | .lockup mgr txid addr len atSheet late => Sys2Proof.Machine.execLockup mgr txid addr len atSheet late s
  | .subscribe mgr txid minSev events telemMs => Sys2Proof.Machine.execSubscribe mgr txid minSev events telemMs s
  | .eventAck mgr seq => Sys2Proof.Machine.execEventAck mgr seq s
  | .eventResend mgr => Sys2Proof.Machine.execEventResend mgr s
  | .telem mgr => Sys2Proof.Machine.execTelem mgr s
  | .attest mgr txid nonce late => Sys2Proof.Machine.execAttest mgr txid nonce late s
  | .firmwareWriteChunk mgr txid off data late => Sys2Proof.Machine.execFirmwareWriteChunk mgr txid off data late s
  | .firmwareCommit mgr txid late => Sys2Proof.Machine.execFirmwareCommit mgr txid late s
  | .getPanelSettings reply => Sys2Proof.Machine.execGetPanelSettings reply s
  | .pldmEffecter effecter value => Sys2Proof.Machine.execPldmEffecter effecter value s
  | .pldmFirmwareUpdate off data last => Sys2Proof.Machine.execPldmFirmwareUpdate off data last s
  | .ownerRecord pldm record readBack => Sys2Proof.Machine.execOwnerRecord pldm record readBack s
  | .registerWrite src site off value => Sys2Proof.Machine.execRegisterWrite src site off value s
  | .pcieLinkUp speed width => Sys2Proof.Machine.execPcieLinkUp speed width s
  | .mgmtPortUp port => Sys2Proof.Machine.execMgmtPortUp port s
  | .thermalCapRise region => Sys2Proof.Machine.execThermalCapRise region s
  | .portCountLatch link corrected uncorrectable => Sys2Proof.Machine.execPortCountLatch link corrected uncorrectable s
  | .tackLerrLatch site failures => Sys2Proof.Machine.execTackLerrLatch site failures s

end Sys2Proof.Machine
end

