-- ==== Sys2Proof/Machine/Idle.lean ====
section
/-! DEFINITION. What the panel does while no command waits: one cycle of the panel reference (R54, R64), and the held BAR2
requests that need no longer wait (R512). -/

namespace Sys2Proof.Machine

/-- The panel reference runs: PD is out of reset, and the corner that drives the tick tree has its REF_CLK (R54). -/
def Panel.refRuns (p : Panel) : Bool :=
  p.boot.phase ≠ .held && (if p.boot.refFrom = siteAD then p.boot.refAD else p.boot.refPD)

/-- The panel time after one cycle of the reference (R64). -/
def Panel.timeAfter (p : Panel) : TimeBase := if p.refRuns then p.refCycle.time else p.time

/-- One idle cycle (DESIGN CHOICE, notes/assumptions/11.md). -/
def State.idle (s : State) : State :=
  let t := s.p.timeAfter
  let p := { (if s.p.refRuns then s.p.refCycle else s.p) with out := [] }
  let p := p.releaseHeld s.mem
  { s with mem := s.mem.apply p.writes, p := { p with time := t, writes := [] } }

end Sys2Proof.Machine
end

