-- ==== Sys2Proof/Safety.lean ====
section
/-! DEFINITION. What counts as a safe state of the panel, and the words in which statements about commands are made. -/

namespace Sys2Proof.Machine

/-- The memory has its canonical form. -/
def State.memWf (s : State) : Prop := s.mem.wf = true

/-- The invariant that every step keeps: memory in canonical form, and no write to memory under way between commands. -/
def State.Inv (s : State) : Prop := s.memWf ∧ s.p.writes = []

/-- Panel time as one number: the count and its 32-bit fraction (R64). -/
def TimeBase.total (t : TimeBase) : Nat := t.now * 2 ^ 32 + t.frac

/-- The panel as a command finds it: without the outputs of the command before. -/
def State.seen (s : State) : Panel := { s.p with out := [], writes := [] }

/-- A compositor thread may issue (R81, R137, R138): its bit of STK_CMP_THREADS is set, no fault has stopped it, its die does not
hold, and its PC lies in the instruction memory. -/
def Panel.threadReady (p : Panel) (t : ThreadId) : Prop :=
  p.threadRuns t = true ∧ (p.thread t).stopped = false ∧ p.holding t.site = false ∧ (p.thread t).pc ≤ 16383

/-- The compositor thread of a compositor instruction. -/
def compositorThread : Instr → Option ThreadId
  | .cmpAdd t _ _ _ => some t
  | .cmpSub t _ _ _ => some t
  | .cmpAnd t _ _ _ => some t
  | .cmpOr t _ _ _ => some t
  | .cmpXor t _ _ _ => some t
  | .cmpSll t _ _ _ => some t
  | .cmpSrl t _ _ _ => some t
  | .cmpSra t _ _ _ => some t
  | .cmpSlt t _ _ _ => some t
  | .cmpSltu t _ _ _ => some t
  | .cmpMul t _ _ _ => some t
  | .cmpMulhu t _ _ _ => some t
  | .cmpMin t _ _ _ => some t
  | .cmpMax t _ _ _ => some t
  | .cmpAddi t _ _ _ => some t
  | .cmpAndi t _ _ _ => some t
  | .cmpOri t _ _ _ => some t
  | .cmpXori t _ _ _ => some t
  | .cmpSlli t _ _ _ => some t
  | .cmpSrli t _ _ _ => some t
  | .cmpSrai t _ _ _ => some t
  | .cmpLui t _ _ => some t
  | .cmpLw t _ _ _ => some t
  | .cmpLbu t _ _ _ => some t
  | .cmpSw t _ _ _ => some t
  | .cmpSb t _ _ _ => some t
  | .cmpBeq t _ _ _ => some t
  | .cmpBne t _ _ _ => some t
  | .cmpBlt t _ _ _ => some t
  | .cmpBge t _ _ _ => some t
  | .cmpBltu t _ _ _ => some t
  | .cmpJal t _ _ => some t
  | .cmpJalr t _ _ _ => some t
  | .cmpSig t _ _ _ => some t
  | .cmpSrd t _ _ => some t
  | .cmpRds t _ _ => some t
  | .cmpEnd t _ _ _ => some t
  | .cmpVld t _ _ _ => some t
  | .cmpVst t _ _ _ => some t
  | .cmpVadd t _ _ _ _ => some t
  | .cmpVsub t _ _ _ _ => some t
  | .cmpVmul t _ _ _ _ => some t
  | .cmpVfma t _ _ _ _ => some t
  | .cmpVmax t _ _ _ _ => some t
  | .cmpVcmp t _ _ _ _ _ => some t
  | .cmpVsel t _ _ _ _ => some t
  | .cmpVcvt t _ _ _ _ => some t
  | .cmpVred t _ _ _ => some t
  | .cmpVperm t _ _ _ _ => some t
  | .cmpVspl t _ _ _ => some t
  | .cmpVext t _ _ _ _ => some t
  | .cmpIllegal t => some t
  | _ => none

/-- The opcode and the fields of a compositor instruction's word (R140). -/
def cmpCode : Instr → Option (Nat × List CmpField)
  | .cmpAdd _ rd rs1 rs2 => some (0x01, fmtR rd rs1 rs2)
  | .cmpSub _ rd rs1 rs2 => some (0x02, fmtR rd rs1 rs2)
  | .cmpAnd _ rd rs1 rs2 => some (0x03, fmtR rd rs1 rs2)
  | .cmpOr _ rd rs1 rs2 => some (0x04, fmtR rd rs1 rs2)
  | .cmpXor _ rd rs1 rs2 => some (0x05, fmtR rd rs1 rs2)
  | .cmpSll _ rd rs1 rs2 => some (0x06, fmtR rd rs1 rs2)
  | .cmpSrl _ rd rs1 rs2 => some (0x07, fmtR rd rs1 rs2)
  | .cmpSra _ rd rs1 rs2 => some (0x08, fmtR rd rs1 rs2)
  | .cmpSlt _ rd rs1 rs2 => some (0x09, fmtR rd rs1 rs2)
  | .cmpSltu _ rd rs1 rs2 => some (0x0A, fmtR rd rs1 rs2)
  | .cmpMul _ rd rs1 rs2 => some (0x0B, fmtR rd rs1 rs2)
  | .cmpMulhu _ rd rs1 rs2 => some (0x0C, fmtR rd rs1 rs2)
  | .cmpMin _ rd rs1 rs2 => some (0x0D, fmtR rd rs1 rs2)
  | .cmpMax _ rd rs1 rs2 => some (0x0E, fmtR rd rs1 rs2)
  | .cmpAddi _ rd rs1 imm => some (0x0F, fmtI rd rs1 imm)
  | .cmpAndi _ rd rs1 imm => some (0x10, fmtI rd rs1 imm)
  | .cmpOri _ rd rs1 imm => some (0x11, fmtI rd rs1 imm)
  | .cmpXori _ rd rs1 imm => some (0x12, fmtI rd rs1 imm)
  | .cmpSlli _ rd rs1 sh => some (0x13, fmtSh rd rs1 sh)
  | .cmpSrli _ rd rs1 sh => some (0x14, fmtSh rd rs1 sh)
  | .cmpSrai _ rd rs1 sh => some (0x15, fmtSh rd rs1 sh)
  | .cmpLui _ rd imm => some (0x16, fmtI rd 0 imm)
  | .cmpLw _ rd rs1 imm => some (0x17, fmtI rd rs1 imm)
  | .cmpLbu _ rd rs1 imm => some (0x18, fmtI rd rs1 imm)
  | .cmpSw _ rs rs1 imm => some (0x19, fmtI rs rs1 imm)
  | .cmpSb _ rs rs1 imm => some (0x1A, fmtI rs rs1 imm)
  | .cmpBeq _ rs1 rs2 off => some (0x1B, fmtI rs1 rs2 off)
  | .cmpBne _ rs1 rs2 off => some (0x1C, fmtI rs1 rs2 off)
  | .cmpBlt _ rs1 rs2 off => some (0x1D, fmtI rs1 rs2 off)
  | .cmpBge _ rs1 rs2 off => some (0x1E, fmtI rs1 rs2 off)
  | .cmpBltu _ rs1 rs2 off => some (0x1F, fmtI rs1 rs2 off)
  | .cmpJal _ rd target => some (0x20, fmtJ rd target)
  | .cmpJalr _ rd rs1 imm => some (0x21, fmtI rd rs1 imm)
  | .cmpSig _ rs idx imm8 => some (0x22, fmtS rs idx imm8)
  | .cmpSrd _ rs idx => some (0x23, fmtS rs idx 0)
  | .cmpRds _ rs item => some (0x24, fmtS rs 0 item)
  | .cmpEnd _ rs idx imm8 => some (0x25, fmtS rs idx imm8)
  | .cmpVld _ vd rs1 imm8 => some (0x26, fmtVmem vd rs1 imm8)
  | .cmpVst _ vs rs1 imm8 => some (0x27, fmtVmem vs rs1 imm8)
  | .cmpVadd _ vd vs1 vs2 ty => some (0x28, fmtV vd vs1 vs2 ty)
  | .cmpVsub _ vd vs1 vs2 ty => some (0x29, fmtV vd vs1 vs2 ty)
  | .cmpVmul _ vd vs1 vs2 ty => some (0x2A, fmtV vd vs1 vs2 ty)
  | .cmpVfma _ vd vs1 vs2 ty => some (0x2B, fmtV vd vs1 vs2 ty)
  | .cmpVmax _ vd vs1 vs2 ty => some (0x2C, fmtV vd vs1 vs2 ty)
  | .cmpVcmp _ vd vs1 vs2 ty op => some (0x2D, fmtV vd vs1 vs2 ty ++ [(0, 8, op.toNat)])
  | .cmpVsel _ vd vs1 vs2 ty => some (0x2E, fmtV vd vs1 vs2 ty)
  | .cmpVcvt _ vd vs1 ty imm8 => some (0x2F, [(21, 5, vd.toNat), (16, 5, vs1.toNat), (8, 3, ty.toNat), (0, 8, imm8.toNat)])
  | .cmpVred _ vd vs1 ty => some (0x30, [(21, 5, vd.toNat), (16, 5, vs1.toNat), (8, 3, ty.toNat)])
  | .cmpVperm _ vd vs1 vs2 ty => some (0x31, fmtV vd vs1 vs2 ty)
  | .cmpVspl _ vd rs1 ty => some (0x32, [(21, 5, vd.toNat), (16, 5, rs1.toNat), (8, 3, ty.toNat)])
  | .cmpVext _ rd vs1 ty imm8 => some (0x33, [(21, 5, rd.toNat), (16, 5, vs1.toNat), (8, 3, ty.toNat), (0, 8, imm8.toNat)])
  | _ => none

/-- A compositor instruction issues (R137 to R140): its thread may issue, its die does not hold, and the word at the PC is that
instruction, and legal. -/
def Panel.canIssue (p : Panel) (t : ThreadId) (c : Instr) : Prop :=
  p.threadReady t ∧ ∃ op fs, cmpCode c = some (op, fs) ∧ cmpIs (p.cmpWord t) op fs = true ∧ cmpLegal (p.cmpWord t) = true

/-- The commands that may write memory: the ones whose effect stores rows, clears slices or sets fox bits. -/
def mayStore : Instr → Bool
  | .coldReset .. => true
  | .panelRstAssert .. => true
  | .powerWaveSlot .. => true
  | .proofReportDeadline .. => true
  | .cornerProofSlot .. => true
  | .bringUpReady .. => true
  | .fieldBistStart .. => true
  | .fieldBistDone .. => true
  | .oscillatorStop .. => true
  | .tickSend .. => true
  | .tickMessage .. => true
  | .strokeTick .. => true
  | .holdEnd .. => true
  | .endOfStroke .. => true
  | .sheetCommit .. => true
  | .lineIssue .. => true
  | .quad .. => true
  | .loopBegin .. => true
  | .loopEnd .. => true
  | .ends .. => true
  | .launch .. => true
  | .page .. => true
  | .jumpp .. => true
  | .waitl .. => true
  | .ximm .. => true
  | .mark .. => true
  | .swait .. => true
  | .swaitb .. => true
  | .swaitw .. => true
  | .waitPass .. => true
  | .cmpLw .. => true
  | .cmpLbu .. => true
  | .cmpSw .. => true
  | .cmpSb .. => true
  | .cmpVld .. => true
  | .cmpVst .. => true
  | .wload .. => true
  | .stream .. => true
  | .drain .. => true
  | .ainit .. => true
  | .drainDone .. => true
  | .sload .. => true
  | .sstream .. => true
  | .sdrain .. => true
  | .sainit .. => true
  | .sdrainDone .. => true
  | .gate .. => true
  | .just .. => true
  | .merge .. => true
  | .slot12Done .. => true
  | .copy .. => true
  | .zero .. => true
  | .store .. => true
  | .cstore .. => true
  | .put .. => true
  | .wopen .. => true
  | .wclose .. => true
  | .scratchOpDone .. => true
  | .putArrive .. => true
  | .scoreboardRetire .. => true
  | .scrubAccess .. => true
  | .foxFillDone .. => true
  | .gread .. => true
  | .gwrite .. => true
  | .gwait .. => true
  | .gdrain .. => true
  | .galleyRequestSend .. => true
  | .mdReadRequest .. => true
  | .mdWriteRequest .. => true
  | .readDataLand .. => true
  | .galleyTimeout .. => true
  | .foxSummarySweep .. => true
  | .setoffAckWaitExpired .. => true
  | .setoffReceive .. => true
  | .msend .. => true
  | .mrecv .. => true
  | .tsend .. => true
  | .traceFlit .. => true
  | .bcastVerifyReport .. => true
  | .azRetrainDone .. => true
  | .plData .. => true
  | .setmarkAck .. => true
  | .feedFrame .. => true
  | .ethFrame .. => true
  | .frmStart .. => true
  | .frmAbort .. => true
  | .lockupDetourDrained .. => true
  | .lockupTiedDrained .. => true
  | .lockupFinalDrained .. => true
  | .overdrawRetry .. => true
  | .reprintGrant .. => true
  | .reprintOperands .. => true
  | .reprintReplayDone .. => true
  | .reprintResult .. => true
  | .restartReloadDone .. => true
  | .headerStageStep .. => true
  | .powerGoodTimeout .. => true
  | .phaseLoss .. => true
  | .phInject .. => true
  | .uncoreRegulatorFail .. => true
  | .pwrVsetWrite .. => true
  | .groupUndervolt .. => true
  | .drwSpTackWrite .. => true
  | .drwSpHostWrite .. => true
  | .coolantSample .. => true
  | .sensorRead .. => true
  | .resetColdRequest .. => true
  | .resetWarm .. => true
  | .resetCompute .. => true
  | .resetRegion .. => true
  | .resetDie .. => true
  | .resetCluster .. => true
  | .bar0Access .. => true
  | .bar2Access .. => true
  | .hstB2BaseWrite .. => true
  | .copyIn .. => true
  | .copyOut .. => true
  | .tackHbSend .. => true
  | .lossFrame .. => true
  | .faultFrame .. => true
  | .csrWr .. => true
  | .tackControl .. => true
  | .draw .. => true
  | .csrWrite .. => true
  | .memRead .. => true
  | .memWrite .. => true
  | .reset .. => true
  | .bist .. => true
  | .lockup .. => true
  | .pldmEffecter .. => true
  | .registerWrite .. => true
  | _ => false

/-- The commands that may set panel time: the disciplining sources and what can cause a cold reset (R64, R69, R502). -/
def maySetTime : Instr → Bool
  | .coldReset .. => true
  | .panelRstAssert .. => true
  | .ptpMessage .. => true
  | .ptpHoldover .. => true
  | .timeInEdge .. => true
  | .resetColdRequest .. => true
  | .csrWr .. => true
  | .csrWrite .. => true
  | .memWrite .. => true
  | .reset .. => true
  | .pldmEffecter .. => true
  | .registerWrite .. => true
  | _ => false

end Sys2Proof.Machine
end

