-- ==== Sys2Proof/Certificates/Slice0/Obligations.lean ====
section
/-! DEFINITION. The statements for the provers: what each group of commands does, from the rules of spec/, and what every
step keeps. The clauses speak of `s.seen`, the panel as a command finds it (without the outputs of the command before). -/

open Sys2Proof Sys2Proof.Machine

/-- One step takes the command at the front of the queue and has exactly its effect on the state with the queue's rest. -/
def Obligations.StepRunsFrontCommand : Prop := ∀ (s : State) (c : Instr) (rest : List Instr),
  s.pending = c :: rest → step s = exec c { s with pending := rest }

/-- With no command waiting a step is one reference cycle (R64; that a step on an empty queue is this cycle is a DESIGN CHOICE,
notes/assumptions/11.md): panel time advances by 8 cycles and the signed rate word, and where no reference clock runs it stays;
no command is taken. -/
def Obligations.EmptyQueueRunsReferenceCycle : Prop := ∀ (s : State), s.pending = [] →
  (s.p.refRuns = true → ∃ t, step s = .next t ∧ t.pending = []
      ∧ t.p.time = s.p.time.advance (signed 32 (s.p.field s.p.primary Csr.CLK_RATE))
      ∧ (0 ≤ 8 * 2 ^ 32 + signed 32 (s.p.field s.p.primary Csr.CLK_RATE) →
          (t.p.time.total : Int) = s.p.time.total + (8 * 2 ^ 32 + signed 32 (s.p.field s.p.primary Csr.CLK_RATE))))
  ∧ (s.p.refRuns = false → ∃ t, step s = .next t ∧ t.p.time = s.p.time)

/-- The state after reset meets the invariant: memory lists nothing and no write is under way. -/
def Obligations.ResetMeetsInvariant : Prop := State.reset.Inv ∧ State.reset.pending = [] ∧ State.reset.p.time = {}

/-- Every step keeps the invariant: memory stays in its canonical form, and no write to memory is left under way. -/
def Obligations.StepKeepsInvariant : Prop := ∀ (s t : State), s.Inv → step s = .next t → t.Inv

/-- Panel time never decreases (R64), in any step from any state, but for a cold reset, which sets it to zero (R69). -/
def Obligations.PanelTimeNeverDecreases : Prop := ∀ (s t : State), step s = .next t →
  s.p.time.now ≤ t.p.time.now ∨ t.p.time = {}

/-- Every command completes: no command faults or is refused, and each leaves the queue of the commands after it. -/
def Obligations.EveryCommandCompletes : Prop := ∀ (c : Instr) (s : State), ∃ t, exec c s = .next t ∧ t.pending = s.pending

/-- A command that stores nothing leaves all of memory: every byte, every fox bit, every parity bit and every summary bit; and
only the disciplining sources and what may cause a cold reset change panel time. -/
def Obligations.CommandsLeaveMemoryAndTime : Prop := ∀ (c : Instr) (s t : State), exec c s = .next t →
  (mayStore c = false → (∀ a, t.mem.byte a = s.mem.byte a) ∧ (∀ a, t.mem.foxAt a = s.mem.foxAt a)
    ∧ t.mem.badParity = s.mem.badParity ∧ t.mem.summary = s.mem.summary)
  ∧ (maySetTime c = false → t.p.time = s.p.time)

/-- One write to memory (R256, R281): its bytes read back, in order from its address; every byte outside them, every fox bit of a
row that it does not touch, and every parity bit of such a row reads as before; the touched rows take its fox bit. -/
def Obligations.MemoryWriteReadsBack : Prop := ∀ (m : Mem) (a : Nat) (data : List Byte) (f : Bool),
  let m' := m.write { addr := a, data := data, fox := some f }
  m'.read a data.length = data
  ∧ (∀ b, b < a ∨ a + data.length ≤ b → m'.byte b = m.byte b)
  ∧ (∀ b, a ≤ b → b < a + data.length → m'.foxAt b = f ∧ m'.parityBad b = false)
  ∧ (∀ b, b / 64 < a / 64 ∨ (a + data.length - 1) / 64 < b / 64 ∨ data = [] →
      m'.foxAt b = m.foxAt b ∧ m'.parityBad b = m.parityBad b)

/-- Raising a fault (R7, R8): its code reads in the raising die's fault register of its class; it leaves panel time, the messages
on the fabric, every region and every command's writes as they are; a panel-halt fault halts the panel. -/
def Obligations.RaisedFaultIsRecorded : Prop := ∀ (p : Panel) (site code : Nat) (f : Fld),
  faultReg code = some f → code < 65536 →
  (p.raise site code).field site f = code
  ∧ (p.raise site code).time = p.time ∧ (p.raise site code).net = p.net ∧ (p.raise site code).regions = p.regions
  ∧ (p.raise site code).writes = p.writes
  ∧ (severityOf code = .panelHalt → (p.raise site code).boot.halted = true)
  ∧ (severityOf code ≠ .panelHalt → (p.raise site code).boot = p.boot)

/-- A write of a register byte (R5): a bit of type RW or WO takes the new value, writing 1 clears a W1C bit and sets a W1S bit, and
every other bit, RO and RC among them, stays; a WO bit reads as zero, and reading sets an RC bit to its reset value. -/
def Obligations.RegisterBitTypes : Prop := ∀ (site off old new : Nat) (r : RegRow) (b i : Nat),
  rowOf site off = some (r, b) → i < 8 →
  let is (tys : List FieldType) : Bool := bitOf (typeMask tys b r.fields) i
  let after : Bool := bitOf (writeByte site off old new) i
  (is [.w1s] = true → is [.rw, .wo] = false → is [.w1c] = false → after = (bitOf old i || bitOf new i))
  ∧ (is [.rw, .wo] = true → is [.w1c] = false → is [.w1s] = false → after = bitOf new i)
  ∧ (is [.w1c] = true → is [.rw, .wo] = false → is [.w1s] = false → after = (bitOf old i && !bitOf new i))
  ∧ (is [.rw, .wo] = false → is [.w1c] = false → is [.w1s] = false → after = bitOf old i)
  ∧ (is [.wo] = true → bitOf (readByte site off old) i = false)
  ∧ (is [.wo] = false → bitOf (readByte site off old) i = bitOf old i)
  ∧ (is [.rc] = false → bitOf (afterReadByte site off old) i = bitOf old i)
  ∧ (is [.rc] = true → bitOf (afterReadByte site off old) i = bitOf (resetOfFields b r.fields) i)

/-- CLK_PERIOD_WRITE and CLK_FORCED_WRITE (R55, R62, R63): what is stored, and when a write is ignored.

MARGIN_STRETCH (R53, R56 to R61): a margin below TRIGGER stretches an adaptive domain by 1 to 8 sixteenths. The first stretch of an
uncore period is one slip and adds its sixteenths to the slip time; a further one of the same period adds no slip and only what exceeds
the largest so far; under a forced stretch, which the periods themselves count, only the excess over it counts. A domain that the
coupling does not stretch keeps its count. Any other margin, and any margin under CLK_CTRL.FIXED, is only recorded; a domain that runs
from a fixed reference has none.

Completes, with its own effect as its conclusion (`exec … = .next …`): `.clkPeriodWrite`, `.marginStretch`,
`.clkForcedWrite`. -/
def Obligations.ClockPeriodsAndSlips : Prop := 
  (∀ (s : State) (site v : Nat),
    (64 ≤ v → v ≤ 128 → (∀ r, s.seen.regionOf site = some r → s.seen.lockedUp r = false) → ∀ draw,
      exec (.clkPeriodWrite site v draw) s = .next (s.quiet fun p => p.setField site Csr.CLK_PERIOD v))
    ∧ (64 ≤ v → v ≤ 128 →
      exec (.clkPeriodWrite site v true) s = .next (s.quiet fun p => p.setField site Csr.CLK_PERIOD v))
    ∧ (∀ r, s.seen.regionOf site = some r → s.seen.lockedUp r = true →
      exec (.clkPeriodWrite site v false) s = .next (s.quiet id))
    ∧ (v < 64 ∨ 128 < v → ∀ draw, exec (.clkPeriodWrite site v draw) s = .next (s.quiet id))
    ∧ exec (.clkForcedWrite site v) s = .next (s.quiet fun p => p.setField site Csr.CLK_FORCED_STRETCH v))
  ∧ (∀ (s : State) (site d m k period : Nat),
    let q := s.seen.noteMargin site d m
    let c := q.clock site
    let f := q.forcedStretch site
    let n := max 1 (min 8 k)
    (adaptiveClock site d = false → exec (.marginStretch site d m k period) s = .next (s.quiet id))
    ∧ (adaptiveClock site d = true → m < q.field site Csr.CLK_MARGIN_CFG_TRIGGER → q.isSet site Csr.CLK_CTRL_FIXED = false →
      ∃ t, exec (.marginStretch site d m k period) s = .next t
        ∧ ((∀ w, c.lastSlip ≠ some (period, w)) → (t.p.clock site).slips = c.slips + (if f = 0 then 1 else 0)
          ∧ (t.p.clock site).slipTime = c.slipTime + (max f n - f))
        ∧ (∀ w, c.lastSlip = some (period, w) → (t.p.clock site).slips = c.slips
          ∧ (t.p.clock site).slipTime = c.slipTime + (max (w.foldl (fun m x => max m x.2) f) n - w.foldl (fun m x => max m x.2) f))
        ∧ (∀ e, e ∉ q.coupled site d →
          SMap.get (fun _ => 0) (t.p.clock site).stretched e = SMap.get (fun _ => 0) c.stretched e)
        ∧ t.p.csr = q.csr ∧ t.mem = s.mem ∧ t.pending = s.pending)
    ∧ (adaptiveClock site d = true →
      q.field site Csr.CLK_MARGIN_CFG_TRIGGER ≤ m ∨ q.isSet site Csr.CLK_CTRL_FIXED = true →
      exec (.marginStretch site d m k period) s = .next (s.quiet fun p => p.noteMargin site d m)))

/-- DOMAIN_SKEW_FAULT (R60): when any two of the cycle indices differ by more than 2, the die raises 0x030C at region-abort;
otherwise nothing happens.

Completes, with its own effect as its conclusion (`exec … = .next …`): `.domainSkewFault`. -/
def Obligations.DomainSkewRaisesFault : Prop := ∀ (s : State) (site : Nat) (ix : List Nat),
  severityOf 0x030C = .regionAbort
  ∧ ((∃ a ∈ ix, ∃ b ∈ ix, a + 2 < b) →
    exec (.domainSkewFault site ix) s = .next (s.quiet fun p => p.raise site 0x030C))
  ∧ ((∀ a ∈ ix, ∀ b ∈ ix, b ≤ a + 2) → exec (.domainSkewFault site ix) s = .next (s.quiet id))

/-- REF_CLK_LOSS (R54): loss at the corner that drives the tick tree moves the reference to the other corner with 0x0311, loss at the
other corner moves nothing, and loss at both raises 0x0312.

TIME_BEACON_SEND and TIME_BEACON (R64, R65): PD's beacon carries its panel time and rate word. A die takes the rate word, and AD
keeps it in CLK_RATE; a die at most 1 cycle away leaves its count, one 2 to 16 cycles away slews with 0x0307, one further away is
invalid with 0x0308, and an invalid one loads the next beacon's value plus its tree delay. The acting primary die takes none.

Completes, with its own effect as its conclusion (`exec … = .next …`): `.refClkLoss`, `.timeBeaconSend`, `.timeBeacon`. -/
def Obligations.ReferenceAndBeacons : Prop := 
  (∀ (s : State),
    (s.p.boot.refAD = true → s.p.boot.refFrom = sitePD →
      exec (.refClkLoss sitePD) s = .next (s.quiet fun p =>
        (p.modBoot fun b => { b with refPD := false, refFrom := siteAD }).raise p.primary 0x0311))
    ∧ (s.p.boot.refPD = true → s.p.boot.refFrom = siteAD →
      exec (.refClkLoss siteAD) s = .next (s.quiet fun p =>
        (p.modBoot fun b => { b with refAD := false, refFrom := sitePD }).raise p.primary 0x0311))
    ∧ (s.p.boot.refPD = true → s.p.boot.refFrom = sitePD →
      exec (.refClkLoss siteAD) s = .next (s.quiet fun p => p.modBoot fun b => { b with refAD := false }))
    ∧ (s.p.boot.refPD = false →
      exec (.refClkLoss siteAD) s = .next (s.quiet fun p => (p.modBoot fun b => { b with refAD := false }).raise p.primary 0x0312))
    ∧ (s.p.boot.refAD = false →
      exec (.refClkLoss sitePD) s = .next (s.quiet fun p =>
        (p.modBoot fun b => { b with refPD := false }).raise p.primary 0x0312)))
  ∧ (∀ (s : State) (site launch rate : Nat),
    let want : Int := launch + s.seen.field site Csr.CLK_TREE_DELAY
    let away := want - s.seen.dieTime site
    let rated (p : Panel) : Panel :=
      let p := p.modClock site fun c => { c with rate := signed 32 rate }
      if site = siteAD then p.setField siteAD Csr.CLK_RATE rate else p
    (exec .timeBeaconSend s = .next (s.quiet fun p =>
      p.modServo fun v => { v with beacon := some (p.now, p.field p.primary Csr.CLK_RATE) }))
    ∧ (site = s.p.boot.primary → exec (.timeBeacon site launch rate) s = .next (s.quiet id))
    ∧ (site ≠ s.p.boot.primary →
      ((s.seen.clock site).reload = false → away.natAbs ≤ 1 →
        exec (.timeBeacon site launch rate) s = .next (s.quiet rated))
      ∧ ((s.seen.clock site).reload = false → 1 < away.natAbs → away.natAbs ≤ 16 →
        exec (.timeBeacon site launch rate) s = .next (s.quiet fun p =>
          ((rated p).modClock site fun c => { c with slew := away, slewAt := 0 }).raise site 0x0307))
      ∧ ((s.seen.clock site).reload = false → 16 < away.natAbs →
        exec (.timeBeacon site launch rate) s = .next (s.quiet fun p =>
          (((rated p).modClock site fun c => { c with reload := true }).setFlag site Csr.CLK_STATUS_PTIME_VALID false).raise site
            0x0308))
      ∧ ((s.seen.clock site).reload = true →
        ∃ t, exec (.timeBeacon site launch rate) s = .next t ∧ t.p.dieTime site = want
          ∧ (t.p.clock site).rate = signed 32 rate
          ∧ t.p.isSet site Csr.CLK_STATUS_PTIME_VALID = true ∧ t.mem = s.mem)))

/-- PTP_MESSAGE, PTP_HOLDOVER, TIME_IN_EDGE, STROKE_LOCK_LOST and TIME_OUT_PPS (R70 to R74, R536): a valid message or edge acts on the
servo as its kind says, under the pulse a sync gives only time of day, and a lost TD takes none; holdover keeps the rate word and
reads HOLDOVER with 0x030D; stroke lock lost falls back to internal timing; a whole second drives a 10 µs pulse. Panel time is never
behind where it stood.

Completes, with its own effect as its conclusion (`exec … = .next …`): `.ptpMessage`, `.ptpHoldover`, `.timeInEdge`,
`.strokeLockLost`, `.timeOutPps`. -/
def Obligations.TimeDisciplineCommands : Prop := ∀ (s : State),
  (∀ port d i sent received, s.seen.ptpValid port d 0 = true →
    exec (.ptpMessage (.delay port d sent received)) s = .next (s.retime fun p =>
      p.modServo fun v => { v with
        delay := (received - sent + (v.delay - signed 64 (p.field siteTD Csr.CLK_PTP_OFFSET))) / 2 })
    ∧ (i < -4 ∨ 0 < i → exec (.ptpMessage (.sync port d i sent received)) s = .next (s.retime id)))
  ∧ (∀ port d i origin received m, m = .sync port d i origin received ∨ m = .followUp port d i origin received →
    (s.seen.ptpValid port d i = false → exec (.ptpMessage m) s = .next (s.retime id))
    ∧ (s.seen.ptpValid port d i = true → s.seen.isSet siteTD Csr.CLK_TIME_CTRL_TIN_PPS = false →
      exec (.ptpMessage m) s = .next (s.retime fun p =>
        (p.modServo fun v => { v with interval := i }).servoOffset (origin + p.servo.delay - received)))
    ∧ (s.seen.ptpValid port d i = true → s.seen.isSet siteTD Csr.CLK_TIME_CTRL_TIN_PPS = true →
      s.seen.isSet siteTD Csr.CLK_TIME_CTRL_TIN_LOCK = false → s.p.servo.ppsEdge.isSome = true →
      exec (.ptpMessage m) s = .next (s.retime fun p =>
        (p.modServo fun v => { v with interval := i }).timeStep (origin + p.servo.delay - received))))
  ∧ (∃ t, exec .ptpHoldover s = .next t ∧ t.p.servo.inside = 0 ∧ t.p.servo.outside = 0
      ∧ t.p.field siteTD Csr.CLK_PTP_STATUS_STATE = 3
      ∧ t.p.field siteTD Csr.CLK_RATE = s.p.field siteTD Csr.CLK_RATE
      ∧ s.p.time.now ≤ t.p.time.now ∧ t.mem = s.mem ∧ t.pending = s.pending)
  ∧ (s.seen.tackDie = false → exec .timeInEdge s = .next (s.retime id))
  ∧ (s.seen.tackDie = true → s.seen.isSet siteTD Csr.CLK_TIME_CTRL_TIN_LOCK = false →
    s.seen.isSet siteTD Csr.CLK_TIME_CTRL_TIN_PPS = true →
    exec .timeInEdge s = .next (s.retime fun p =>
      let ph := p.now % secondCycles
      (p.modServo fun v => { v with ppsEdge := some p.now }).servoOffset
        (16 * (if 2 * ph < secondCycles then -(ph : Int) else (secondCycles : Int) - ph))))
  ∧ (s.seen.tackDie = true → s.seen.isSet siteTD Csr.CLK_TIME_CTRL_TIN_LOCK = true →
    let r := s.seen.field siteTD Csr.CLK_TIME_CTRL_LOCK_REGION
    let per := s.seen.effPeriod r
    let late := s.seen.now - s.p.servo.lockEdge.getD 0
    (s.seen.running r = false →
      exec .timeInEdge s = .next (s.retime fun p => p.modServo fun v => { v with lockEdge := some p.now }))
    ∧ (s.seen.running r = true → s.p.servo.lockEdge.isSome = true → inLockWindow per late = false →
      exec .timeInEdge s = .next (s.retime fun p => p.raise siteTD 0x0310))
    ∧ (s.seen.running r = true → s.p.servo.lockEdge = none ∨ inLockWindow per late = true →
      (s.p.region r).tickSent = false → (s.p.region r).slurOpen = false →
      (s.p.region r).begun + per + (s.p.region r).extension ≤ s.seen.now + s.seen.lockOffset + per / 1000 →
      ∃ t, exec .timeInEdge s = .next t
        ∧ t.p.field sitePD (Csr.STK_R_NEXT_TICK r) = (s.seen.now + s.seen.lockOffset) % 2 ^ (Csr.STK_R_NEXT_TICK r).width
        ∧ t.p.servo.lockEdge = some s.seen.now ∧ t.p.servo.edgeReady = false ∧ t.mem = s.mem ∧ s.p.time.now ≤ t.p.time.now))
  ∧ (∃ t, exec .strokeLockLost s = .next t ∧ t.p.servo.fallback = true ∧ t.p.servo.lockEdge = none
      ∧ t.p.servo.edgeReady = false ∧ t.mem = s.mem ∧ t.p.time = s.p.time)
  ∧ (s.seen.field siteTD Csr.CLK_TIME_CTRL_TOUT_MODE = 1 →
    exec .timeOutPps s = .next (s.quiet fun p => p.modServo fun v => { v with timeOut := some (p.now, 12500) }))
  ∧ (s.seen.field siteTD Csr.CLK_TIME_CTRL_TOUT_MODE ≠ 1 → exec .timeOutPps s = .next (s.quiet id))

/-- SADD, SSET and SADD_ARRIVE (R126, R129, R130, R131): on a die that no stalled line keeps, a local add gives the counter its sum
and a set its value and cursor, and the watches that it has then reached are no longer pending; an add to another home sends its
message; the home checks an arriving one. A counter that is not allocated stays, and a stalled die adds and sets nothing.

SWATCH, WATCH_ARRIVE, REACHED_ARRIVE and LAST_ARRIVAL_NOTICE (R131, R132): a watch slot that is pending or ready refuses
with 0x022B, a free one takes the effective target and goes to the home, which may be the die itself; the home answers a target reached,
refuses the 65th watch with 0x022A, and registers any other; the answer turns a pending slot ready; a last arrival is counted.

Completes, with its own effect as its conclusion (`exec … = .next …`): `.sadd`, `.sset`, `.swatch`, `.saddArrive`,
`.watchArrive`, `.reachedArrive`, `.lastArrivalNotice`. -/
def Obligations.SyncCounterCommands : Prop := 
  (∀ (s : State) (site idx home n : Nat),
    let left (v : Nat) : List Watch := (s.seen.watchesOf site).filter fun w => !(w.idx = idx && reached v w.target)
    (s.seen.frozen site = true → exec (.sadd site idx home n) s = .next (s.quiet id) ∧ exec (.sset site idx n) s = .next (s.quiet id))
    ∧ (s.seen.frozen site = false → homeOf site home = site → s.seen.counterRegion site idx = none →
      exec (.sadd site idx home n) s = .next (s.quiet id))
    ∧ (s.seen.frozen site = false → homeOf site home = site → (s.seen.counterRegion site idx).isSome → idx < 256 →
      ∃ t, exec (.sadd site idx home n) s = .next t
        ∧ t.p.field site (Csr.STK_SYNC_CTR idx) = (s.p.field site (Csr.STK_SYNC_CTR idx) + n) % 2 ^ 32
        ∧ t.p.watchesOf site = left ((s.p.field site (Csr.STK_SYNC_CTR idx) + n) % 2 ^ 32)
        ∧ t.mem = s.mem ∧ t.p.time = s.p.time)
    ∧ (s.seen.frozen site = false → homeOf site home ≠ site →
      exec (.sadd site idx home n) s = .next (s.quiet fun p => p.send (.sadd site (homeOf site home) idx n)))
    ∧ (s.seen.frozen site = false → s.seen.counterRegion site idx = none → exec (.sset site idx n) s = .next (s.quiet id))
    ∧ (s.seen.frozen site = false → (s.seen.counterRegion site idx).isSome → idx < 256 →
      ∃ t, exec (.sset site idx n) s = .next t ∧ t.p.field site (Csr.STK_SYNC_CTR idx) = n % 2 ^ 32
        ∧ t.p.field site (Csr.STK_SYNC_CUR idx) = n % 2 ^ 32 ∧ t.p.watchesOf site = left (n % 2 ^ 32)
        ∧ t.mem = s.mem ∧ t.p.time = s.p.time)
    ∧ (∀ src, (s.seen.arrive (.sadd src home idx n)).homeOk home idx src = true →
      exec (.saddArrive home idx n src) s = .next (s.quiet fun p => (p.arrive (.sadd src home idx n)).addCounter home idx n src))
    ∧ (∀ src, (s.seen.arrive (.sadd src home idx n)).homeOk home idx src = false →
      exec (.saddArrive home idx n src) s = .next (s.quiet fun p =>
        (p.arrive (.sadd src home idx n)).raiseFor home 0x022C (severityOf 0x022C)
          ((p.arrive (.sadd src home idx n)).senderRegion src) 0 src)))
  ∧ (∀ (s : State) (site idx home slot target : Nat) (abs : Bool),
    (s.seen.frozen site = true → exec (.swatch site idx home slot abs target) s = .next (s.quiet id))
    ∧ (s.seen.frozen site = false → bitOf (s.seen.field site Csr.STK_SYNC_WSTATE_PENDING) slot = true
        ∨ bitOf (s.seen.field site Csr.STK_SYNC_WSTATE_READY) slot = true →
      exec (.swatch site idx home slot abs target) s = .next (s.quiet fun p => p.seqFault site 0x022B))
    ∧ (s.seen.frozen site = false → bitOf (s.seen.field site Csr.STK_SYNC_WSTATE_PENDING) slot = false →
      bitOf (s.seen.field site Csr.STK_SYNC_WSTATE_READY) slot = false →
      let t := effTarget abs (s.seen.field site (Csr.STK_SYNC_WCUR slot)) target
      let q := s.seen.setField site (Csr.STK_SYNC_WCUR slot) t
      let q := q.setField site Csr.STK_SYNC_WSTATE_PENDING (putBits (q.field site Csr.STK_SYNC_WSTATE_PENDING) slot 1 1)
      (homeOf site home ≠ site →
        exec (.swatch site idx home slot abs target) s = .next (s.quiet fun _ => q.send (.watch site (homeOf site home) idx t slot)))
      ∧ (homeOf site home = site →
        exec (.swatch site idx home slot abs target) s = .next (s.quiet fun _ => q.watchArrives site idx t site slot)))
    ∧ (let q := s.seen.arrive (.watch site home idx target slot)
      (q.homeOk home idx site = false →
        exec (.watchArrive home idx target site slot) s = .next (s.quiet fun _ => q.refuseHome home site))
      ∧ (q.homeOk home idx site = true → reached (q.field home (Csr.STK_SYNC_CTR idx)) target = true → site ≠ home →
        exec (.watchArrive home idx target site slot) s = .next (s.quiet fun _ => q.send (.reached home site slot)))
      ∧ (q.homeOk home idx site = true → reached (q.field home (Csr.STK_SYNC_CTR idx)) target = true → site = home →
        exec (.watchArrive home idx target site slot) s = .next (s.quiet fun _ => q.slotReady home slot))
      ∧ (q.homeOk home idx site = true → reached (q.field home (Csr.STK_SYNC_CTR idx)) target = false →
        64 ≤ (q.watchesOf home).length →
        exec (.watchArrive home idx target site slot) s = .next (s.quiet fun _ => q.raise site 0x022A))
      ∧ (q.homeOk home idx site = true → reached (q.field home (Csr.STK_SYNC_CTR idx)) target = false →
        (q.watchesOf home).length < 64 →
        exec (.watchArrive home idx target site slot) s = .next (s.quiet fun _ =>
          q.setWatches home (q.watchesOf home ++ [⟨idx, target, site, slot⟩]))))
    ∧ (let q := s.seen.arrive (.reached home site slot)
      bitOf (q.field site Csr.STK_SYNC_WSTATE_PENDING) slot = true →
      exec (.reachedArrive home site slot) s = .next (s.quiet fun _ =>
        let p := q.setField site Csr.STK_SYNC_WSTATE_PENDING (putBits (q.field site Csr.STK_SYNC_WSTATE_PENDING) slot 1 0)
        p.setField site Csr.STK_SYNC_WSTATE_READY (putBits (p.field site Csr.STK_SYNC_WSTATE_READY) slot 1 1)))
    ∧ exec (.lastArrivalNotice home site) s = .next (s.quiet fun p =>
        (p.arrive (.lastArrival home site)).setField site Csr.STK_SEQ_LAST_ARR
          (min (2 ^ 32 - 1) (p.field site Csr.STK_SEQ_LAST_ARR + 1))))

/-- The order of counter values (R127): a value has reached a target when it is at most 2^31 − 1 steps past it, modulo 2^32;
so a value has reached itself and its predecessors, and has not reached its successor. -/
def Obligations.CounterReachesTarget : Prop := ∀ (v k : Nat), v < 2 ^ 32 →
  (k < 2 ^ 31 → reached ((v + k) % 2 ^ 32) v = true)
  ∧ (0 < k → k ≤ 2 ^ 31 → reached v ((v + k) % 2 ^ 32) = false)

/-- The scalar register instructions (R140): one that issues writes its result to rd, foxed when an operand is, and its thread goes
on to the next word; of a product of foxed operands only the fox is defined.

The immediate instructions (R140): ADDI sign-extends its 16 bits, ANDI, ORI and XORI zero-extend them, LUI puts them into
the upper half, and the shifts take a 5-bit amount.

Completes, with its own effect as its conclusion (`exec … = .next …`): `.cmpAdd`, `.cmpSub`, `.cmpAnd`, `.cmpOr`, `.cmpXor`,
`.cmpSll`, `.cmpSrl`, `.cmpSra`, `.cmpSlt`, `.cmpSltu`, `.cmpMul`, `.cmpMulhu`, `.cmpMin`, `.cmpMax`, `.cmpAddi`, `.cmpAndi`,
`.cmpOri`, `.cmpXori`, `.cmpSlli`, `.cmpSrli`, `.cmpSrai`, `.cmpLui`. -/
def Obligations.CompositorScalarResults : Prop := 
  (∀ (s : State) (t : ThreadId) (rd rs1 rs2 : RegNo),
    let h := s.seen.thread t
    let a := (h.reg rs1).1
    let b := (h.reg rs2).1
    let fox := (h.reg rs1).2 || (h.reg rs2).2
    let gives (c : Instr) (v : Word) : Prop := s.seen.canIssue t c →
      exec c s = .next (s.quiet fun p => p.modThread t fun g => (g.setReg rd v fox).step)
    let product (c : Instr) (v : Word) : Prop :=
      (fox = false → gives c v)
      ∧ (fox = true → s.seen.canIssue t c → ∃ u w, exec c s = .next u ∧ u.p.thread t = (h.setReg rd w true).step ∧ u.p.csr = s.p.csr ∧ u.mem = s.mem)
    gives (.cmpAdd t rd rs1 rs2) (a + b)
    ∧ gives (.cmpSub t rd rs1 rs2) (a - b)
    ∧ gives (.cmpAnd t rd rs1 rs2) (a &&& b)
    ∧ gives (.cmpOr t rd rs1 rs2) (a ||| b)
    ∧ gives (.cmpXor t rd rs1 rs2) (a ^^^ b)
    ∧ gives (.cmpSll t rd rs1 rs2) (a <<< (b.toNat % 32))
    ∧ gives (.cmpSrl t rd rs1 rs2) (a >>> (b.toNat % 32))
    ∧ gives (.cmpSra t rd rs1 rs2) (a.sshiftRight (b.toNat % 32))
    ∧ gives (.cmpSlt t rd rs1 rs2) (if a.toInt < b.toInt then 1 else 0)
    ∧ gives (.cmpSltu t rd rs1 rs2) (if a.toNat < b.toNat then 1 else 0)
    ∧ gives (.cmpMin t rd rs1 rs2) (if a.toInt ≤ b.toInt then a else b)
    ∧ gives (.cmpMax t rd rs1 rs2) (if a.toInt ≤ b.toInt then b else a)
    ∧ product (.cmpMul t rd rs1 rs2) (a * b)
    ∧ product (.cmpMulhu t rd rs1 rs2) (BitVec.ofNat 32 (a.toNat * b.toNat / 2 ^ 32)))
  ∧ (∀ (s : State) (t : ThreadId) (rd rs1 : RegNo) (imm : BitVec 16) (sh : BitVec 5),
    let h := s.seen.thread t
    let a := (h.reg rs1).1
    let gives (c : Instr) (v : Word) (fox : Bool) : Prop := s.seen.canIssue t c →
      exec c s = .next (s.quiet fun p => p.modThread t fun g => (g.setReg rd v fox).step)
    gives (.cmpAddi t rd rs1 imm) (a + imm.signExtend 32) (h.reg rs1).2
    ∧ gives (.cmpAndi t rd rs1 imm) (a &&& imm.zeroExtend 32) (h.reg rs1).2
    ∧ gives (.cmpOri t rd rs1 imm) (a ||| imm.zeroExtend 32) (h.reg rs1).2
    ∧ gives (.cmpXori t rd rs1 imm) (a ^^^ imm.zeroExtend 32) (h.reg rs1).2
    ∧ gives (.cmpSlli t rd rs1 sh) (a <<< sh.toNat) (h.reg rs1).2
    ∧ gives (.cmpSrli t rd rs1 sh) (a >>> sh.toNat) (h.reg rs1).2
    ∧ gives (.cmpSrai t rd rs1 sh) (a.sshiftRight sh.toNat) (h.reg rs1).2
    ∧ gives (.cmpLui t rd imm) (imm.zeroExtend 32 <<< 16) false)

/-- x0 (R135): it reads zero, unfoxed, and what is written to it is lost. -/
def Obligations.RegisterX0ReadsZero : Prop := ∀ (h : Thread) (v : Word) (fox : Bool),
  h.reg 0 = (0, false) ∧ h.setReg 0 v fox = h
  ∧ ∀ r : RegNo, r ≠ 0 → (h.setReg r v fox).reg r = (v, fox) ∧ ∀ q : RegNo, q ≠ r → (h.setReg r v fox).reg q = h.reg q

/-- The branches and jumps (R139, R140): a taken branch adds its signed offset to the PC, or raises 0x022E when that leaves
the instruction memory; one not taken goes on; a foxed condition or base raises 0x022F; a jump saves the next PC in rd.

SIG, SRD, RDS and END (R137, R139, R140): SIG and END add a register and an immediate to a counter of the die, END also
idles the thread; SRD reads a counter; RDS reads panel time, the die-cycle index, the site, the thread's number or the
stroke. A foxed register raises 0x022F in SIG and END.

Completes, with its own effect as its conclusion (`exec … = .next …`): `.cmpBeq`, `.cmpBne`, `.cmpBlt`, `.cmpBge`,
`.cmpBltu`, `.cmpJal`, `.cmpJalr`, `.cmpSig`, `.cmpSrd`, `.cmpRds`, `.cmpEnd`. -/
def Obligations.CompositorControlFlow : Prop := 
  (∀ (s : State) (t : ThreadId) (rs1 rs2 rd : RegNo) (off : BitVec 16) (target : BitVec 14),
    let h := s.seen.thread t
    let a := (h.reg rs1).1
    let b := (h.reg rs2).1
    let fox := (h.reg rs1).2 || (h.reg rs2).2
    let dest := (h.pc : Int) + off.toInt
    let branch (c : Instr) (taken : Prop) : Prop := s.seen.canIssue t c →
      (fox = true → exec c s = .next (s.quiet fun p => p.cmpFault t 0x022F))
      ∧ (fox = false → ¬ taken → exec c s = .next (s.quiet fun p => p.modThread t fun g => { g with pc := g.pc + 1 }))
      ∧ (fox = false → taken → 0 ≤ dest → dest ≤ 16383 →
        exec c s = .next (s.quiet fun p => p.modThread t fun g => { g with pc := dest.toNat }))
      ∧ (fox = false → taken → dest < 0 ∨ 16383 < dest → exec c s = .next (s.quiet fun p => p.cmpFault t 0x022E))
    branch (.cmpBeq t rs1 rs2 off) (a = b)
    ∧ branch (.cmpBne t rs1 rs2 off) (a ≠ b)
    ∧ branch (.cmpBlt t rs1 rs2 off) (a.toInt < b.toInt)
    ∧ branch (.cmpBge t rs1 rs2 off) (b.toInt ≤ a.toInt)
    ∧ branch (.cmpBltu t rs1 rs2 off) (a.toNat < b.toNat)
    ∧ (s.seen.canIssue t (.cmpJal t rd target) → exec (.cmpJal t rd target) s = .next (s.quiet fun p => p.modThread t fun g =>
        { g.setReg rd (BitVec.ofNat 32 (h.pc + 1)) false with pc := target.toNat }))
    ∧ (s.seen.canIssue t (.cmpJalr t rd rs1 off) → (h.reg rs1).2 = false → exec (.cmpJalr t rd rs1 off) s = .next (s.quiet fun p => p.modThread t fun g =>
        { g.setReg rd (BitVec.ofNat 32 (h.pc + 1)) false with pc := (a + off.signExtend 32).toNat % 16384 }))
    ∧ (s.seen.canIssue t (.cmpJalr t rd rs1 off) → (h.reg rs1).2 = true → exec (.cmpJalr t rd rs1 off) s = .next (s.quiet fun p => p.cmpFault t 0x022F)))
  ∧ (∀ (s : State) (t : ThreadId) (rs : BitVec 5) (idx imm8 : BitVec 8),
    let h := s.seen.thread t
    let n := (h.reg rs).1.toNat + imm8.toNat
    let issues (c : Instr) (f : Panel → Panel) : Prop := s.seen.canIssue t c → exec c s = .next (s.quiet f)
    ((h.reg rs).2 = true → issues (.cmpSig t rs idx imm8) fun p => p.cmpFault t 0x022F)
    ∧ ((h.reg rs).2 = false →
      issues (.cmpSig t rs idx imm8) fun p => (p.addCounter t.site idx.toNat n t.site).modThread t Thread.step)
    ∧ (issues (.cmpSrd t rs idx) fun p => p.modThread t fun g =>
        (g.setReg rs (BitVec.ofNat 32 (p.field t.site (Csr.STK_SYNC_CTR idx.toNat))) false).step)
    ∧ (∀ v, (idx = 2 → v = s.seen.field t.site Csr.STK_SEQ_POS_CYCLE) → (idx = 3 → v = t.site) → (idx = 4 → v = threadNo t) →
      (idx = 5 → v = s.seen.field t.site Csr.STK_STROKE % 2 ^ 32) →
      (idx = 0 → v = unsigned 64 (s.seen.dieTime t.site) % 2 ^ 32) →
      (idx = 1 → v = unsigned 64 (s.seen.dieTime t.site) / 2 ^ 32 % 2 ^ 32) → (6 ≤ idx.toNat → v = 0) →
      issues (.cmpRds t rs idx) fun p => p.modThread t fun g => (g.setReg rs (BitVec.ofNat 32 v) false).step)
    ∧ ((h.reg rs).2 = true → issues (.cmpEnd t rs idx imm8) fun p => p.cmpFault t 0x022F)
    ∧ ((h.reg rs).2 = false → issues (.cmpEnd t rs idx imm8) fun p =>
        let p := if (h.reg rs).1 = 0 ∧ imm8 = 0 then p else p.addCounter t.site idx.toNat n t.site
        let p := p.modSeq t.site fun q => { q with launched := q.launched.filter fun n => n ≠ threadNo t }
        (p.modThread t Thread.step).setField t.site Csr.STK_CMP_THREADS
          (putBits (p.field t.site Csr.STK_CMP_THREADS) (threadNo t) 1 0)))

/-- Loads and stores of a compositor thread (R138, R139, R256): the address is base plus displacement in the thread's slice; a
foxed base raises 0x022F, an address outside the slice or misaligned 0x022E. A load zero-extends and takes the row's fox; a
store of 4 B or 1 B leaves its row foxed when it was, a 64 B store sets the row's fox to the register's. The bytes stored
begin at the address that `A` computes, and no other write is made.

Completes, with its own effect as its conclusion (`exec … = .next …`): `.cmpLw`, `.cmpLbu`, `.cmpSw`, `.cmpSb`, `.cmpVld`,
`.cmpVst`. -/
def Obligations.CompositorMemoryAccess : Prop := ∀ (s : State) (t : ThreadId) (r rs1 : BitVec 5) (imm : BitVec 16) (imm8 : BitVec 8),
  let h := s.seen.thread t
  let base := h.reg rs1
  let access (c : Instr) (disp : Word) (n : Nat) (good : Nat → Mem → Panel → Panel) : Prop :=
    s.seen.canIssue t c →
    let off := (base.1 + disp).toNat
    let A := sliceAddr t.site t.cluster off
    (base.2 = true → exec c s = .next (s.store fun _ p => p.cmpFault t 0x022F))
    ∧ (base.2 = false → sliceBytesTotal ≤ off ∨ off % n ≠ 0 → exec c s = .next (s.store fun _ p => p.cmpFault t 0x022E))
    ∧ (base.2 = false → off < sliceBytesTotal → off % n = 0 → s.mem.parityBad A = false →
      exec c s = .next (s.store (good A)))
  access (.cmpLw t r rs1 imm) (imm.signExtend 32) 4 (fun A m p =>
    p.modThread t fun g => (g.setReg r (BitVec.ofNat 32 (leNat (m.read A 4))) (m.foxAt A)).step)
  ∧ access (.cmpLbu t r rs1 imm) (imm.signExtend 32) 1 (fun A m p =>
    p.modThread t fun g => (g.setReg r (BitVec.ofNat 32 (leNat (m.read A 1))) (m.foxAt A)).step)
  ∧ access (.cmpSw t r rs1 imm) (imm.signExtend 32) 4 (fun A m p =>
    (p.put { addr := A, data := leBytes 4 (h.reg r).1.toNat, fox := some (m.foxAt A || (h.reg r).2) }).modThread t Thread.step)
  ∧ access (.cmpSb t r rs1 imm) (imm.signExtend 32) 1 (fun A m p =>
    (p.put { addr := A, data := leBytes 1 (h.reg r).1.toNat, fox := some (m.foxAt A || (h.reg r).2) }).modThread t Thread.step)
  ∧ access (.cmpVld t r rs1 imm8) (BitVec.ofNat 32 (64 * imm8.toNat)) 64 (fun A m p =>
    p.modThread t fun g => (g.setVreg r (leNat (m.read A 64)) (m.foxAt A)).step)
  ∧ access (.cmpVst t r rs1 imm8) (BitVec.ofNat 32 (64 * imm8.toNat)) 64 (fun A _ p =>
    (p.put { addr := A, data := leBytes 64 (h.vreg r).1, fox := some (h.vreg r).2 }).modThread t Thread.step)

/-- Lane-wise vector instructions (R140, R141): each lane of the result is the operation on the same lanes of the sources (VFMA
and VSEL also of vd), the result is foxed when a source read is, the PC goes on, and no other register changes. Of a product
of foxed operands only the fox is defined.

VCVT, VRED, VPERM, VSPL and VEXT (R140, R141, R154): the value of each, with the fox of its source; VCVT counts the NaN lanes that
an integer type squashes. Of a foxed source only the fox is defined where the value is rounded.

Completes, with its own effect as its conclusion (`exec … = .next …`): `.cmpVadd`, `.cmpVsub`, `.cmpVmul`, `.cmpVfma`,
`.cmpVmax`, `.cmpVcmp`, `.cmpVsel`, `.cmpVcvt`, `.cmpVred`, `.cmpVperm`, `.cmpVspl`, `.cmpVext`. -/
def Obligations.VectorResults : Prop := 
  (∀ (s : State) (t : ThreadId) (vd vs1 vs2 : BitVec 5) (ty : BitVec 3) (op : BitVec 8),
    let h := s.seen.thread t
    let k := ty.toNat
    let lanes (c : Instr) (readsVd product : Bool) (f : Nat → Nat → Nat → Nat) : Prop := s.seen.canIssue t c →
      let fox := (h.vreg vs1).2 || (h.vreg vs2).2 || (readsVd && (h.vreg vd).2)
      ∃ u, exec c s = .next u
        ∧ ((fox && product) = false → ∀ i, i < laneCount k → lane k ((u.p.thread t).vreg vd).1 i =
            f (lane k (h.vreg vd).1 i) (lane k (h.vreg vs1).1 i) (lane k (h.vreg vs2).1 i) % 2 ^ laneBits k)
        ∧ ((u.p.thread t).vreg vd).2 = fox
        ∧ (u.p.thread t).pc = h.pc + 1 ∧ (u.p.thread t).x = h.x
        ∧ (∀ q : BitVec 5, q ≠ vd → (u.p.thread t).vreg q = h.vreg q) ∧ u.p.csr = s.p.csr ∧ u.mem = s.mem
    lanes (.cmpVadd t vd vs1 vs2 ty) false false (fun _ a b => laneAdd k a b)
    ∧ lanes (.cmpVsub t vd vs1 vs2 ty) false false (fun _ a b => laneSub k a b)
    ∧ lanes (.cmpVmax t vd vs1 vs2 ty) false false (fun _ a b => laneMax k a b)
    ∧ lanes (.cmpVsel t vd vs1 vs2 ty) true false (fun d a b => if d ≠ 0 then a else b)
    ∧ lanes (.cmpVcmp t vd vs1 vs2 ty op) false false (fun _ a b => if laneCmp k op.toNat a b then 2 ^ laneBits k - 1 else 0)
    ∧ lanes (.cmpVmul t vd vs1 vs2 ty) false true (fun _ a b => laneMul k a b)
    ∧ lanes (.cmpVfma t vd vs1 vs2 ty) true true (fun d a b => laneFma k d a b))
  ∧ (∀ (s : State) (t : ThreadId) (vd vs1 vs2 : BitVec 5) (ty : BitVec 3) (imm8 : BitVec 8),
    let h := s.seen.thread t
    let k := ty.toNat
    let a := (h.vreg vs1).1
    let b := (h.vreg vs2).1
    let dst := imm8.toNat % 8
    let n := min (laneCount k) (laneCount dst)
    let gives (c : Instr) (v : Nat) (fox : Bool) : Prop := s.seen.canIssue t c →
      exec c s = .next (s.quiet fun p => p.modThread t fun g => (g.setVreg vd v fox).step)
    let foxes (c : Instr) : Prop := s.seen.canIssue t c →
      ∃ u v, exec c s = .next u ∧ u.p.thread t = (h.setVreg vd v true).step ∧ u.p.csr = s.p.csr ∧ u.mem = s.mem
    ((h.vreg vs1).2 = false → s.seen.canIssue t (.cmpVcvt t vd vs1 ty imm8) →
      exec (.cmpVcvt t vd vs1 ty imm8) s = .next (s.quiet fun p => (p.countSquash t k dst n a).modThread t fun g =>
        (g.setVreg vd (fromLanes (laneBits dst) ((List.range n).map fun i => laneCvt k dst (lane k a i)) % 2 ^ (n * laneBits dst))
          false).step))
    ∧ ((h.vreg vs1).2 = true → foxes (.cmpVcvt t vd vs1 ty imm8))
    ∧ ((h.vreg vs1).2 = false ∨ laneFmt k = none → gives (.cmpVred t vd vs1 ty) (laneReduce k a) (h.vreg vs1).2)
    ∧ ((h.vreg vs1).2 = true → foxes (.cmpVred t vd vs1 ty))
    ∧ gives (.cmpVperm t vd vs1 vs2 ty) (fromLanes (laneBits k)
        ((List.range (laneCount k)).map fun i => lane k a (lane k b i % laneCount k))) ((h.vreg vs1).2 || (h.vreg vs2).2)
    ∧ (∀ rs1 : BitVec 5, ((h.reg rs1).2 = false → gives (.cmpVspl t vd rs1 ty) (fromLanes (laneBits k)
        (List.replicate (laneCount k) (splatLane k (h.reg rs1).1))) false)
      ∧ ((h.reg rs1).2 = true → foxes (.cmpVspl t vd rs1 ty)))
    ∧ (∀ rd : BitVec 5, s.seen.canIssue t (.cmpVext t rd vs1 ty imm8) →
      exec (.cmpVext t rd vs1 ty imm8) s = .next (s.quiet fun p => p.modThread t fun g => (g.setReg rd (BitVec.ofNat 32
        (if k ≤ 1 then unsigned 32 (signed (laneBits k) (lane k a imm8.toNat)) else lane k a imm8.toNat)) (h.vreg vs1).2).step)))

/-- A thread that is idle or stopped, or whose die holds, issues nothing, whatever instruction is named; a PC beyond the instruction
memory raises 0x022E; an instruction that is not the word at the PC does nothing, and an illegal word raises 0x022D (R81, R137, R138,
R140).

Completes, with its own effect as its conclusion (`exec … = .next …`): `.cmpIllegal`. -/
def Obligations.CompositorThreadThatCannotIssue : Prop := ∀ (s : State) (t : ThreadId),
  (∀ c : Instr, compositorThread c = some t →
    s.seen.threadRuns t = false ∨ (s.seen.thread t).stopped = true ∨ s.seen.holding t.site = true → exec c s = .next (s.quiet id))
  ∧ (∀ c : Instr, compositorThread c = some t →
    s.seen.threadRuns t = true → (s.seen.thread t).stopped = false → s.seen.holding t.site = false → 16383 < (s.seen.thread t).pc →
    exec c s = .next (s.quiet fun p => p.cmpFault t 0x022E))
  ∧ (∀ (c : Instr) (op : Nat) (fs : List CmpField), compositorThread c = some t → cmpCode c = some (op, fs) → s.seen.threadReady t →
    (cmpIs (s.seen.cmpWord t) op fs = false → exec c s = .next (s.quiet id))
    ∧ (cmpIs (s.seen.cmpWord t) op fs = true → cmpLegal (s.seen.cmpWord t) = false →
      exec c s = .next (s.quiet fun p => p.cmpFault t 0x022D)))
  ∧ (s.seen.threadReady t → cmpLegal (s.seen.cmpWord t) = false →
    exec (.cmpIllegal t) s = .next (s.quiet fun p => p.cmpFault t 0x022D))

/-- The injection commands (R192, R207, R210, R256, R262, R431): the die's injection bit reads 1, its INJ_CL the cluster cut to its
two bits, and every CSR word but that register's word stays, as do memory and panel time.

Completes, with its own effect as its conclusion (`exec … = .next …`): `.denInject`, `.spaInject`, `.spaMetaInject`,
`.parInject`, `.galCrcInject`, `.errRpInject`. -/
def Obligations.InjectionCommandsArm : Prop := ∀ (s : State) (site cluster : Nat),
  let arms (c : Instr) (f cl : Fld) : Prop :=
    ∃ t, exec c s = .next t ∧ t.p.isSet site f = true ∧ t.p.field site cl = cluster % 4
      ∧ (∀ s' o', o' < 0x1000000 → o' / 4 ≠ f.off / 4 → t.p.word s' o' = s.p.word s' o') ∧ t.mem = s.mem ∧ t.p.time = s.p.time
  arms (.denInject site cluster) Csr.DEN_CTRL_INJECT Csr.DEN_CTRL_INJ_CL
  ∧ arms (.spaInject site cluster) Csr.SPA_CTRL_INJECT Csr.SPA_CTRL_INJ_CL
  ∧ arms (.spaMetaInject site cluster) Csr.SPA_CTRL_META_INJECT Csr.SPA_CTRL_INJ_CL
  ∧ arms (.parInject site cluster) Csr.SPR_CTRL_PAR_INJECT Csr.SPR_CTRL_INJ_CL
  ∧ arms (.galCrcInject site cluster) Csr.GAL_CTRL_CRC_INJECT Csr.GAL_CTRL_INJ_CL
  ∧ ∃ t, exec (.errRpInject site) s = .next t ∧ t.p.isSet site Csr.ERR_CTRL_RP_INJECT = true
      ∧ (∀ s' o', o' < 0x1000000 → o' / 4 ≠ 0xa0000 / 4 → t.p.word s' o' = s.p.word s' o') ∧ t.mem = s.mem

/-- WLOAD_READY and SLOAD_READY (R133, R180, R204, R208): on a die that no stalled line keeps, the bank of the oldest load in flight
becomes ready, the load leaves the engine, memory and the rows stay; an SLOAD that failed its checks is also counted, and its
rule stands in SPA_META_FAULT. With no load in flight, or while a line is stalled, nothing changes.

STREAM_DONE, SSTREAM_DONE, AINIT_DONE and SAINIT_DONE (R175, R180, R202): the rows of the oldest operation become the
accumulator rows from its first row on, a parity failure is noted in each row of a stream, every other row stays, and the
operation leaves the engine. While a line is stalled nothing changes (R133).

SLOT12_DONE (R133, R219, R226, R235): on a die that no stalled line keeps, the operation of a unit of slot 12 writes the rows it holds, in order, into the slices of its
clusters, and leaves the list of operations in flight.

Completes, with its own effect as its conclusion (`exec … = .next …`): `.wloadReady`, `.streamDone`, `.ainitDone`,
`.sloadReady`, `.sstreamDone`, `.sainitDone`, `.slot12Done`. -/
def Obligations.EngineCompletions : Prop := 
  (∀ (s : State) (site cl : Nat) (o : EngineOp) (e : Nat) (c : Instr),
    (e = 0 ∧ c = .wloadReady site cl) ∨ (e = 1 ∧ c = .sloadReady site cl) →
    (s.seen.frozen site = false → (s.seen.engine site cl e).oldest .load = some o →
      (e = 1 → ((s.seen.engine site cl 1).bank o.bank).failed = none) → o.bank < (s.seen.engine site cl e).banks.length →
      ∃ t, exec c s = .next t
        ∧ ((t.p.engine site cl e).bank o.bank).ready = true ∧ ((t.p.engine site cl e).bank o.bank).loading = false
        ∧ (t.p.engine site cl e).rows = (s.seen.engine site cl e).rows
        ∧ (t.p.engine site cl e).ops = (s.seen.engine site cl e).ops.filter (fun q => q.id ≠ o.id)
        ∧ t.mem = s.mem ∧ t.pending = s.pending)
    ∧ (s.seen.frozen site = false → e = 1 → (s.seen.engine site cl 1).oldest .load = some o →
      ∀ f, ((s.seen.engine site cl 1).bank o.bank).failed = some f → f.rule < 8 → o.bank < 2 → cl < 4 →
      ∃ t, exec c s = .next t ∧ t.p.field site Csr.SPA_META_FAULT_RULE = f.rule ∧ t.mem = s.mem ∧ t.p.time = s.p.time)
    ∧ ((s.seen.engine site cl e).oldest .load = none ∨ s.seen.frozen site = true → exec c s = .next (s.quiet id)))
  ∧ (∀ (s : State) (site cl e : Nat) (o : EngineOp) (parity : Bool),
    let g := s.seen.engine site cl e
    let valid (c : Instr) (par : Bool) : Prop :=
      ∃ t, exec c s = .next t
        ∧ (∀ i x, o.rows[i]? = some x →
            SMap.get (fun _ => {}) (t.p.engine site cl e).rows (o.row + i) = { x with wpar := x.wpar || par })
        ∧ (∀ k, k < o.row ∨ o.row + o.rows.length ≤ k →
            SMap.get (fun _ => {}) (t.p.engine site cl e).rows k = SMap.get (fun _ => {}) g.rows k)
        ∧ (t.p.engine site cl e).banks = g.banks ∧ (t.p.engine site cl e).ops = g.ops.filter (fun q => q.id ≠ o.id)
        ∧ t.mem = s.mem ∧ t.p.time = s.p.time
    (s.seen.frozen site = true → ∀ c ∈ [Instr.streamDone site cl parity, .sstreamDone site cl parity, .ainitDone site cl,
        .sainitDone site cl], exec c s = .next (s.quiet id))
    ∧ (s.seen.frozen site = false → g.oldest .stream = some o → (e = 0 → valid (.streamDone site cl parity) parity)
      ∧ (e = 1 → valid (.sstreamDone site cl parity) parity))
    ∧ (s.seen.frozen site = false → g.oldest .init = some o → (e = 0 → valid (.ainitDone site cl) false) ∧ (e = 1 → valid (.sainitDone site cl) false)))
  ∧ (∀ (s : State) (site unit : Nat) (o : Slot12Op),
    (s.seen.frozen site = true → exec (.slot12Done site unit) s = .next (s.store fun _ p => p))
    ∧ (s.seen.frozen site = false → (s.seen.slot12Ops site).find? (fun o => o.unit = unit) = some o →
    ∃ t, exec (.slot12Done site unit) s = .next t
      ∧ t.mem = s.mem.apply (o.writes.flatMap fun x => x.2.2.zipIdx.map fun di =>
          { addr := sliceAddr site x.1 (64 * (x.2.1 + di.2)), data := di.1.data, fox := some di.1.fox })
      ∧ t.p.slot12Ops site = (s.seen.slot12Ops site).filter (fun q => q.id ≠ o.id)
      ∧ t.p.time = s.p.time ∧ t.pending = s.pending))

/-- DRAIN_DONE and SDRAIN_DONE (R133, R173, R202): on a die that no stalled line keeps, the oldest drain writes each of its rows, 1,024
bytes apart from its address in the cluster's slice, with the row's fox on all of the row's 64 B rows, and nothing else in memory; a
fault of the array inverts bits of single values; the accumulator rows stay.

Completes, with its own effect as its conclusion (`exec … = .next …`): `.drainDone`, `.sdrainDone`. -/
def Obligations.DrainWritesRows : Prop := ∀ (s : State) (site cl e : Nat) (upset : List (Nat × Nat × Nat)) (o : EngineOp) (c : Instr),
  (e = 0 ∧ c = .drainDone site cl upset) ∨ (e = 1 ∧ c = .sdrainDone site cl upset) →
  let hit (r : Row) (u : Nat × Nat × Nat) : Row :=
    { r with vals := setNth r.vals u.2.1 (Nat.xor (nth r.vals u.2.1 0) u.2.2 % 2 ^ 32) }
  let rows := o.rows.zipIdx.map fun x => (upset.filter fun u => u.1 = x.2).foldl hit x.1
  (s.seen.frozen site = false → (s.seen.engine site cl e).oldest .drain = some o →
    ∃ t, exec c s = .next t
      ∧ t.mem = s.mem.apply (rows.zipIdx.map fun x =>
          { addr := sliceAddr site cl (64 * o.addr + 1024 * x.2), data := x.1.image, fox := some x.1.fox })
      ∧ (t.p.engine site cl e).rows = (s.seen.engine site cl e).rows
      ∧ (t.p.engine site cl e).ops = (s.seen.engine site cl e).ops.filter (fun q => q.id ≠ o.id) ∧ t.p.time = s.p.time)
  ∧ ((s.seen.engine site cl e).oldest .drain = none ∨ s.seen.frozen site = true →
    exec c s = .next (s.store fun _ p => p))

/-- SCRATCH_OP_DONE, PUT_ARRIVE and SCOREBOARD_RETIRE (R133, R244, R252, R254): the oldest operation of a mover lands its rows and
leaves; a packet that an open window admits lands its rows, and one that none admits is counted and lands nothing, with 0x0710 for the
sender's region when that runs; a scoreboard read of an operation that is no outbound PUT leaves the board, and the oldest PUT leaves
with its rows.

SCRUB_ACCESS and FOX_FILL_DONE (R258, R259): an upset of parity bits stays in the row that it names; the scrubber, when it runs, reads
the row at its own position, foxes it when its parity is bad, and goes on; the end of a fill leaves the slice as unlisted memory, zero and
foxed, ends the cluster's filling, and completes the reset of that cluster.

Completes, with its own effect as its conclusion (`exec … = .next …`): `.scratchOpDone`, `.putArrive`, `.scoreboardRetire`,
`.scrubAccess`, `.foxFillDone`. -/
def Obligations.ScratchpadCompletions : Prop := 
  (∀ (s : State) (site cl : Nat),
    (∀ o os, s.seen.frozen site = false → (s.seen.mover site cl).ops = o :: os →
      ∃ t, exec (.scratchOpDone site cl) s = .next t ∧ (o.code = none → (t.p.mover site cl).ops = os)
        ∧ t.mem = s.mem.apply (s.seen.each o.writes fun p x => p.landRows site cl x.1 x.2).writes ∧ t.p.time = s.p.time)
    ∧ ((s.seen.mover site cl).ops = [] ∨ s.seen.frozen site = true →
      exec (.scratchOpDone site cl) s = .next (s.store fun _ p => p))
    ∧ (∀ src sc row rows, let q := s.seen.arrive (.put src sc site cl row rows)
      (∀ i, i < 32 → q.admits site cl i src sc row rows.length = false) →
      ∃ t, exec (.putArrive src sc site cl row rows) s = .next t
        ∧ t.p.tallyOf site (Csr.SPR_C_REJECT cl) = min (2 ^ 32 - 1) (s.p.tallyOf site (Csr.SPR_C_REJECT cl) + 1)
        ∧ t.mem = s.mem ∧ t.p.net = s.p.net.erase (.put src sc site cl row rows)
        ∧ (q.regionLive src = false → t.p.contain = s.p.contain))
    ∧ (∀ src sc row rows i, let q := s.seen.arrive (.put src sc site cl row rows)
      (q.regionOf site).isSome → q.regionOf site = q.regionOf src → q.sliceUp site cl = true → i < 32 →
      q.admits site cl i src sc row rows.length = true →
      ∃ t, exec (.putArrive src sc site cl row rows) s = .next t
        ∧ t.mem = s.mem.apply (q.landRows site cl row rows).writes ∧ t.p.time = s.p.time)
    ∧ (∀ id, (∀ q qs, (s.seen.mover site cl).outbound = q :: qs → q.id ≠ id) →
      exec (.scoreboardRetire site cl id) s = .next (s.store fun _ p =>
        p.setBoard site cl ((p.board site cl).filter fun e => e.write || e.id ≠ id)))
    ∧ (∀ q qs, (s.seen.mover site cl).outbound = q :: qs → (q.trace = 0 ∧ s.seen.reined site 3 = true →
        exec (.scoreboardRetire site cl q.id) s = .next (s.store fun _ p => p))
      ∧ ((q.trace ≠ 0 ∨ s.seen.reined site 3 = false) →
        ∃ t, exec (.scoreboardRetire site cl q.id) s = .next t ∧ (t.p.mover site cl).outbound = qs ∧ t.p.time = s.p.time)))
  ∧ (∀ (s : State) (site cl row upset : Nat),
    let k := (s.seen.mover site cl).scrub
    let a := sliceAddr site cl (64 * rowAt (k % 64) (k / 64))
    let m := s.mem.apply (s.seen.upsetRow s.mem site cl row upset).writes
    (SMap.get memPar0 m.badParity (sliceAddr site cl (64 * row) / 64)
      = Nat.xor (SMap.get memPar0 s.mem.badParity (sliceAddr site cl (64 * row) / 64)) (upset % 256)
        ∧ m.bytes = s.mem.bytes ∧ m.fox = s.mem.fox)
    ∧ (s.seen.scrubs site cl = false → ∃ t, exec (.scrubAccess site cl row upset) s = .next t ∧ t.mem = m ∧ t.p.csr = s.p.csr)
    ∧ (s.seen.scrubs site cl = true →
      ∃ t, exec (.scrubAccess site cl row upset) s = .next t ∧ t.mem.bytes = s.mem.bytes
        ∧ (m.parityBad a = true → t.mem.foxAt a = true)
        ∧ (m.parityBad a = false → t.mem = m ∧ t.p.csr = s.p.csr ∧ (t.p.mover site cl).scrub = (k + 1) % (64 * bankRows)))
    ∧ ((s.seen.domain site cl).filling = true →
      ∃ t, exec (.foxFillDone site cl) s = .next t ∧ (t.p.domain site cl).filling = false
        ∧ t.mem = s.mem.clearRange (sliceAddr site cl 0) sliceBytesTotal
        ∧ (s.seen.boot.resetting = some (6, site, cl) → t.p.boot.resetting = none))
    ∧ ((s.seen.domain site cl).filling = false → exec (.foxFillDone site cl) s = .next (s.store fun _ p => p)))

/-- GALLEY_REQUEST_SEND (R274): the first request that has not left its cluster is sent when its cluster's quota and the rein let
it; a read then travels to its memory die and memory stays; a request that may not leave waits.

READ_DATA_LAND, WRITE_ACK_ARRIVE, GTR_DONE and GALLEY_TIMEOUT (R262, R270, R278, R279, R315): the rows of a galley read land in the
slice of its cluster from its row on, those whose CRC fails foxed; what completes leaves the galley; a write that times out raises
0x0812, a read 0x0811; a discarded request completes and lands nothing.

Completes, with its own effect as its conclusion (`exec … = .next …`): `.galleyRequestSend`, `.readDataLand`,
`.writeAckArrive`, `.galleyTimeout`, `.gtrDone`. -/
def Obligations.GalleyRequests : Prop := 
  (∀ (s : State) (site cl : Nat),
    (∀ q, ((s.seen.galley site cl).find? fun q => !q.sent) = some q → s.seen.maySend q = true →
      exec (.galleyRequestSend site cl) s = .next (s.store fun m p => p.sendGalley m q)
      ∧ (q.write = false → q.key.site = site → q.key.unit = cl →
        ∃ t, exec (.galleyRequestSend site cl) s = .next t
          ∧ t.p.net = s.p.net ++ [.grdReq q.key q.addr q.rows q.trace q.row]
          ∧ t.p.galley site cl = (s.p.galley site cl).map (fun x => if x.key = q.key then { x with sent := true } else x)))
    ∧ (∀ q, ((s.seen.galley site cl).find? fun q => !q.sent) = some q → s.seen.maySend q = false →
      exec (.galleyRequestSend site cl) s = .next (s.store fun _ p => p))
    ∧ (((s.seen.galley site cl).find? fun q => !q.sent) = none →
      exec (.galleyRequestSend site cl) s = .next (s.store fun _ p => p)))
  ∧ (∀ (s : State) (k : GalKey) (q : GalReq), k.galley < 4 →
    s.seen.galReq k = some q →
    let gone (u : State) : Prop := ∀ x ∈ u.p.galley k.site k.unit, x.key ≠ k
    (∀ rows hostRows noise, q.host = false → s.seen.takeData k = some rows →
      ∃ t, exec (.readDataLand k hostRows noise) s = .next t ∧ gone t ∧ t.p.time = s.p.time
        ∧ (k.unit < 4 → q.dropped = false → t.mem = s.mem.apply (s.seen.landRows k.site k.unit q.row
            ((rows.take q.rows).zipIdx.map fun x =>
              landedRow (q.addr + 64 * x.2) (noiseOf noise x.2) ⟨sliceBytes x.1.data 0 64, x.1.fox⟩)).writes)
        ∧ (4 ≤ k.unit ∨ q.dropped = true → t.mem = s.mem))
    ∧ (∀ hostRows noise, q.host = true → q.sent = true →
      ∃ t, exec (.readDataLand k hostRows noise) s = .next t ∧ gone t ∧ t.p.time = s.p.time
        ∧ (k.unit < 4 → q.dropped = false → t.mem = s.mem.apply (s.seen.landRows k.site k.unit q.row
            ((hostRows.take q.rows).map fun x => ⟨sliceBytes x.data 0 64, x.fox⟩)).writes)
        ∧ (4 ≤ k.unit ∨ q.dropped = true → t.mem = s.mem))
    ∧ (q.host = false → s.seen.net.contains (.gwrAck k) = true →
      ∃ t, exec (.writeAckArrive k) s = .next t ∧ gone t ∧ t.p.net = s.p.net.erase (.gwrAck k) ∧ t.mem = s.mem ∧ t.p.out = [])
    ∧ (∀ a rows inj, q.host = true → s.seen.takeWrite k = some (a, rows, inj) →
      ∃ t, exec (.writeAckArrive k) s = .next t ∧ gone t ∧ t.p.net = s.p.net.erase (.gwrReq k a rows inj) ∧ t.mem = s.mem
        ∧ t.p.out = [.hostWrite a (rows.flatMap (·.data)) (rows.any (·.fox))])
    ∧ (s.seen.net.contains (.gtrDone k) = true →
      ∃ t, exec (.gtrDone k) s = .next t ∧ gone t ∧ t.p.net = s.p.net.erase (.gtrDone k) ∧ t.mem = s.mem)
    ∧ (q.sent = true → q.dropped = false → q.write = true →
      exec (.galleyTimeout k) s = .next (s.store fun _ p =>
        (p.raiseAt k.site (if k.unit < 4 then k.unit else 0) 0x0812).galComplete k))
    ∧ (q.sent = true → q.dropped = false → q.write = false →
      ∃ t, exec (.galleyTimeout k) s = .next t ∧ t.p.field k.site Csr.GAL_FAULT = 0x0811 ∧ gone t)
    ∧ (q.sent = true → q.dropped = true → ∃ t, exec (.galleyTimeout k) s = .next t ∧ gone t ∧ t.mem = s.mem)
    ∧ (q.sent = false → exec (.galleyTimeout k) s = .next (s.store fun _ p => p)))

/-- MD_READ_REQUEST and MD_WRITE_REQUEST (R262, R279, R281, R313): a ready memory die answers a read, none of whose rows fails its
retries, with the rows it stores and their fox-table bits, or on the trace that the request names, and changes no memory; it stores
the rows of a write whose CRCs hold as they arrive, one after another from the write's address, keeps the bytes of the others and
foxes them, and accepts the write. A die that is not ready leaves the request on the fabric.

A memory die whose row fails its retries, or a write row its CRC (R262, R279, R280): 0x0810 and 0x0813 are raised at the severity of
the containment mode, compute-reset in standalone mode and foxed otherwise; the rows that fail a write keep their bytes, and are marked
foxed. A row that nothing altered passes its CRC; one that the sender inverted does not.

FOX_SUMMARY_SWEEP (R281): the next segment whose summary bit is set is scanned; when none of its rows is foxed the bit clears, and
no byte or fox bit changes either way. ODECC_POLL (R261): the counts of the memory die restart and its readings show.

Completes, with its own effect as its conclusion (`exec … = .next …`): `.mdReadRequest`, `.mdWriteRequest`,
`.foxSummarySweep`, `.odeccPoll`. -/
def Obligations.MemoryDies : Prop := 
  (∀ (s : State) (k : GalKey) (a : Nat), isLpddr a = true →
    (s.seen.memReady (memSite a) = true →
    (∀ n t row corrected retries failed, (∀ i ∈ failed, n ≤ i) → s.seen.takeRead k = some (a, n, t, row) →
      ∃ u, exec (.mdReadRequest k corrected retries failed) s = .next u
        ∧ (t = 0 → u.p.net = s.p.net.erase (.grdReq k a n 0 row)
            ++ [.grdRsp k ((List.range n).map fun i => ⟨s.mem.read (a + 64 * i) 64, s.mem.tableFox (a + 64 * i)⟩)])
        ∧ (t ≠ 0 → ∃ l, u.p.net = s.p.net.erase (.grdReq k a n t row) ++ l
            ∧ ∀ x ∈ l, ∃ h i f d, x = .traceFlit (memSite a) 64 h i f d ∧ h.trace = t)
        ∧ u.mem = s.mem ∧ u.p.time = s.p.time)
    ∧ (∀ rows inj noise, s.seen.takeWrite k = some (a, rows, inj) →
      let passes (x : Delivered × Nat) : Bool := rowPasses (a + 64 * x.2) x.1.data (noiseOf noise x.2) (inj.contains x.2)
      ∃ u, exec (.mdWriteRequest k noise) s = .next u
        ∧ u.mem = s.mem.apply (rows.zipIdx.map fun x => let bs := noisyRow (noiseOf noise x.2) x.1.data
            { addr := a + 64 * x.2, data := if passes x = true then bs else s.mem.read (a + 64 * x.2) 64, rows := 1,
              fox := some (!passes x || x.1.fox) })
        ∧ (s.seen.shardAt a = none → u.p.net = s.p.net.erase (.gwrReq k a rows inj) ++ [.gwrAck k])))
    ∧ (s.seen.memReady (memSite a) = false →
      (∀ x corrected retries failed, s.seen.takeRead k = some (a, x) →
        exec (.mdReadRequest k corrected retries failed) s = .next (s.store fun _ p => p))
      ∧ ∀ x noise, s.seen.takeWrite k = some (a, x) → exec (.mdWriteRequest k noise) s = .next (s.store fun _ p => p)))
  ∧ (∀ (s : State) (k : GalKey) (a : Nat),
    isLpddr a = true → s.seen.memReady (memSite a) = true →
    (∀ row inj noise, s.seen.takeWrite k = some (a, [row], inj) → s.seen.shardAt a = none →
      rowPasses a row.data (noiseOf noise 0) (inj.contains 0) = false →
      ∃ t, exec (.mdWriteRequest k noise) s = .next t
        ∧ (∀ b n, t.mem.read b n = s.mem.read b n) ∧ t.mem.foxAt a = true
        ∧ t.p.field (memSite a) Csr.GAL_FAULT = 0x0813)
    ∧ (∀ n row corrected retries failed i, i ∈ failed → i < n → s.seen.takeRead k = some (a, n, 0, row) →
      ∃ t, exec (.mdReadRequest k corrected retries failed) s = .next t ∧ t.mem = s.mem
        ∧ t.p.field (memSite a) Csr.GAL_FAULT = 0x0810
        ∧ ∃ rows : List Delivered, t.p.net = s.p.net.erase (.grdReq k a n 0 row) ++ [.grdRsp k rows] ∧ rows.length = n
          ∧ (nth rows i ⟨[], false⟩).fox = true)
    ∧ s.seen.galSev = (if s.p.fabric.containMode = 1 then .computeReset else .foxed)
    ∧ (∀ bs, rowPasses a bs 0 false = true) ∧ (∀ bs, rowPasses a bs 0 true = false))
  ∧ (∀ (s : State) (md channel : Nat),
    let ch := 8 * ((md - 401) / 2) + channel % 8
    let next := nextSegment s.mem ch segmentCount (SMap.get (fun _ => 0) (s.seen.memDie md).sweep (channel % 8))
    (∀ g, next = some g →
      ∃ t, exec (.foxSummarySweep md channel) s = .next t ∧ t.mem.bytes = s.mem.bytes ∧ t.mem.fox = s.mem.fox
        ∧ SMap.get (fun _ => 0) (t.p.memDie md).sweep (channel % 8) = (g + 1) % segmentCount
        ∧ (segmentClean s.mem ch g = true → SMap.get memSum0 t.mem.summary (ch * segmentCount + g) = false)
        ∧ (segmentClean s.mem ch g = false → t.mem = s.mem))
    ∧ (next = none → exec (.foxSummarySweep md channel) s = .next (s.store fun _ p => p))
    ∧ ∀ (odecc refresh temp : List Nat) (j : Nat), j < 8 →
      ∃ t, exec (.odeccPoll md odecc refresh temp) s = .next t
        ∧ t.p.field md (Csr.GAL_CH_REFCOL j) = nth refresh j 0 % 2 ^ 32 ∧ t.p.field md (Csr.GAL_CH_TEMP j) = nth temp j 0 % 2 ^ 32
        ∧ t.p.tallyOf md (Csr.GAL_CH_LECC j) = 0 ∧ t.p.tallyOf md (Csr.GAL_CH_CRC j) = 0 ∧ t.mem = s.mem)

/-- MESH_WORD_ARRIVE (R18, R78, R80, R295, R321, R331): with nothing awaited, the word at the front of a bundle's wire leaves the wire,
joins the bundle's buffer, and its SEQ is taken; a full buffer, an empty wire or a die whose logic is down takes no word; a cut edge
loses it; a tied edge discards and counts it with 0x0A09; an awaited word with another stroke stamp is discarded with 0x0303, one of the
other kind with 0x090D.

PACKET_HOP (R18, R104, R302, R303, R305, R306, R310, R333): the first flit at a class of an input of a working router (for the die's
own input after it has taken up its oldest message). A head whose type or class is undefined is discarded with 0x0907, one with no route
0x0905, one whose edge is cut, tied or down 0x0904, and the rest of its packet with it; any other head goes on, when the output that it takes
serves it next, to the die itself or onto a bundle of its edge, and the data flits of its packet follow it there; a flit that cannot go
waits; a truncated packet's place is freed. A die whose logic is down moves nothing.

REIN_ALARM (R311): the waiting cycles are counted, saturating, and the alarm of class 2 is raised when the count first passes
the limit.

Completes, with its own effect as its conclusion (`exec … = .next …`): `.meshWordArrive`, `.packetHop`, `.reinAlarm`. -/
def Obligations.MeshAndPackets : Prop := 
  (∀ (s : State) (site b : Nat) (w : MeshWord) (ws : List MeshWord),
    (s.seen.wire site b = [] ∨ 16 ≤ (s.seen.meshBuf site b).length ∨ s.seen.routes site = false →
      exec (.meshWordArrive site b) s = .next (s.quiet id))
    ∧ (s.seen.wire site b = w :: ws → (s.seen.meshBuf site b).length < 16 → s.seen.routes site = true →
      (s.seen.edgeCut site (b / 16) = true →
        exec (.meshWordArrive site b) s = .next (s.quiet fun p => p.setWire site b ws))
      ∧ (s.seen.edgeCut site (b / 16) = false → ∃ t, exec (.meshWordArrive site b) s = .next t
        ∧ t.p.wire site b = ws ∧ (t.p.bundle site b).rxSeq = ((s.p.bundle site b).rxSeq + 1) % 512 ∧ t.mem = s.mem ∧ t.p.time = s.p.time
        ∧ (s.seen.edgeTied site (b / 16) = true → t.p.field site Csr.AZL_FAULT = 0x0A09 ∧ t.p.meshBuf site b = s.p.meshBuf site b
          ∧ t.p.tallyOf site (Csr.AZL_BERR_CRC b) = min (2 ^ (Csr.AZL_BERR_CRC b).width - 1) (s.p.tallyOf site (Csr.AZL_BERR_CRC b) + 1))
        ∧ (s.seen.edgeTied site (b / 16) = false →
          ((s.seen.setWire site b ws).awaited site b = none ∨ s.seen.meshBuf site b ≠ [] → t.p.meshBuf site b = s.p.meshBuf site b ++ [w]
            ∧ s.p.field site (Csr.CLK_XING_HIGH_WATER (b / 16)) ≤ t.p.field site (Csr.CLK_XING_HIGH_WATER (b / 16)))
          ∧ ∀ stamp ka, s.seen.meshBuf site b = [] → (s.seen.setWire site b ws).awaited site b = some (stamp, ka) →
            (w.stamp ≠ stamp → t.p.field site Csr.CLK_FAULT = 0x0303 ∧ t.p.meshBuf site b = [])
            ∧ (w.stamp = stamp → w.ka ≠ ka → t.p.field site Csr.FAB_FAULT = 0x090D ∧ t.p.meshBuf site b = [])
            ∧ (w.stamp = stamp → w.ka = ka → t.p.meshBuf site b = [w])))))
  ∧ (∀ (s : State) (site i c : Nat),
    let p := if i = ownInput then s.seen.inject site c else s.seen
    let r := p.router site
    (s.seen.routes site = false ∨ ownInput < i ∨ 5 < c → exec (.packetHop site i c) s = .next (s.quiet id))
    ∧ (s.seen.routes site = true → i ≤ ownInput → c ≤ 5 →
      (r.open_ i c = none → r.queue i c = [] → exec (.packetHop site i c) s = .next (s.quiet fun _ => p.showQueues site))
      ∧ (∀ q rest, r.open_ i c = none → r.queue i c = q :: rest → q.head = true →
        let h := parseHead q.flit.data
        let code := p.headCode site h
        let goes (out : Nat) (more : State → Prop) : Prop := ∃ t, exec (.packetHop site i c) s = .next t
          ∧ (t.p.router site).queue i c = rest ∧ (t.p.router site).open_ i c = (if h.len = 0 then none else some ⟨out, h, 1, h.len⟩)
          ∧ t.mem = s.mem ∧ t.p.time = s.p.time ∧ more t
        (typeClass h.type ≠ some h.cls → goes outNowhere fun t => t.p.field site Csr.FAB_FAULT = 0x0907)
        ∧ (typeClass h.type = some h.cls → h.hops + 1 < 64 →
          (code ≠ 4 → faceCount site ≤ code → goes outNowhere fun t => t.p.field site Csr.FAB_FAULT = 0x0905)
          ∧ (code < faceCount site → code ≠ 4 → p.edgeDown site code = true ∨ p.edgeTied site code = true →
            goes outNowhere fun t => t.p.field site Csr.FAB_FAULT = 0x0904))
        ∧ (p.headFault site h = none → (p.target site i c = none →
            exec (.packetHop site i c) s = .next (s.quiet fun _ => p.showQueues site))
          ∧ ∀ out, p.target site i c = some out → (p.serves site out i c = false →
              exec (.packetHop site i c) s = .next (s.quiet fun _ => p.showQueues site))
            ∧ (p.serves site out i c = true → goes out fun t => out ≠ outLocal →
              (t.p.bundle site out).inUse c = (s.p.bundle site out).inUse c + 1)))
      ∧ (∀ o q rest, r.open_ i c = some o → o.left ≠ 0 → r.queue i c = q :: rest →
        let goes (o : OpenPacket) (more : State → Prop) : Prop := ∃ t, exec (.packetHop site i c) s = .next t
          ∧ (t.p.router site).queue i c = rest ∧ t.mem = s.mem ∧ t.p.time = s.p.time ∧ more t
          ∧ (t.p.router site).open_ i c = (if o.left ≤ 1 then none else some { o with gone := o.gone + 1, left := o.left - 1 })
        (p.outLost site o = true → goes { o with out := outNowhere } fun t => t.p.field site Csr.FAB_FAULT = 0x0904)
        ∧ (outNowhere ≤ o.out → goes o fun _ => True)
        ∧ (p.outLost site o = false → o.out < outNowhere → (∀ out, p.target site i c = some out → p.serves site out i c = true →
            goes o fun t => out ≠ outLocal → (t.p.bundle site out).inUse c = (s.p.bundle site out).inUse c + 1)
          ∧ (p.target site i c = none ∨ (∃ out, p.target site i c = some out ∧ p.serves site out i c = false) →
            exec (.packetHop site i c) s = .next (s.quiet fun _ => p.showQueues site))))
      ∧ (∀ o, r.open_ i c = some o → o.left = 0 → exec (.packetHop site i c) s = .next (s.quiet fun _ =>
        (p.passTrunc site i c o).showQueues site))))
  ∧ (∀ (s : State) (site cls cycles : Nat),
    let f := Csr.FAB_REIN_LAST cls
    let before := s.seen.tallyOf site f
    let after := min (2 ^ 32 - 1) (before + cycles)
    (cls ≠ 2 → exec (.reinAlarm site cls cycles) s = .next (s.quiet fun p => p.tally site f cycles))
    ∧ (cls = 2 → (s.seen.field site Csr.FAB_CTRL_REIN_ALARM < before ∨ after ≤ s.seen.field site Csr.FAB_CTRL_REIN_ALARM) →
      exec (.reinAlarm site cls cycles) s = .next (s.quiet fun p => p.tally site f cycles))
    ∧ (cls = 2 → before ≤ s.seen.field site Csr.FAB_CTRL_REIN_ALARM → s.seen.field site Csr.FAB_CTRL_REIN_ALARM < after →
      exec (.reinAlarm site cls cycles) s = .next (s.quiet fun p => (p.tally site f cycles).raise site 0x0908)))

/-- PACKET_HOP (R304): each router increments HOPS, so a head that leaves on a bundle carries one hop more; a packet whose HOPS reaches
64 is discarded, none of it leaves, and the router raises 0x0906, at notice.

Completes, with its own effect as its conclusion (`exec … = .next …`): `.packetHop`. -/
def Obligations.HopLimitDiscards : Prop := ∀ (s : State) (site i c : Nat) (q : QueuedFlit) (rest : List QueuedFlit),
  let p := if i = ownInput then s.seen.inject site c else s.seen
  let h := parseHead q.flit.data
  severityOf 0x0906 = .notice
  ∧ (s.seen.routes site = true → i ≤ ownInput → c ≤ 5 → (p.router site).open_ i c = none → (p.router site).queue i c = q :: rest →
    q.head = true → typeClass h.type = some h.cls →
    (64 ≤ h.hops + 1 → ∃ t, exec (.packetHop site i c) s = .next t
      ∧ t.p.field site Csr.FAB_FAULT = 0x0906 ∧ (t.p.router site).queue i c = rest
      ∧ (t.p.router site).open_ i c = (if h.len = 0 then none else some ⟨outNowhere, h, 1, h.len⟩)
      ∧ (∀ b, (t.p.bundle site b).replay = (s.p.bundle site b).replay) ∧ t.mem = s.mem ∧ t.p.time = s.p.time)
    ∧ (∀ b, p.headFault site h = none → p.target site i c = some b → b ≠ outLocal → p.serves site b i c = true →
      ∃ t, exec (.packetHop site i c) s = .next t
        ∧ (t.p.bundle site b).replay = (s.p.bundle site b).replay ++ [⟨((s.p.bundle site b).txSeq + 1) % 512, azDataKind,
          leNat ((headBytes { h with hops := h.hops + 1 }).take 64), 0, 7⟩]))

/-- FAB_FLIP, EPOCH_FLIP_MSG, ROUTER_DRAIN_REPORT, DRAIN_NOTICE and FAB_RT_WRITE (R308, R309, R316, R388): how the routing epoch flips
along the tree, whose dies forward a message once every child holds a credit, and when a route word may be written.

TRACE_FLIT and TRACE_CREDIT_TIMEOUT (R18, R262, R313, R314, R315): the flit of a trace that is due at a working die, on the input that
the die's valid entry names, advances once every output has a credit and every cluster it names can take it: a copy leaves on each output,
its rows land in the clusters, and with the last flit of a GREAD at its source the issuer is told; one on any other bundle is discarded
with 0x090A; a credit that does not come raises 0x0909, both in the region of the trace.

BCAST and BCAST_END (R316, R317): a working die whose children hold the credits forwards the packet to every one of
them; with its LOCAL bit it folds the data into its CRC and writes the window, and at the end reports whether the CRC agrees and starts the
next one; so it does with an image resent to it alone.

Completes, with its own effect as its conclusion (`exec … = .next …`): `.fabFlip`, `.epochFlipMsg`, `.routerDrainReport`,
`.drainNotice`, `.fabRtWrite`, `.traceFlit`, `.traceCreditTimeout`, `.bcast`, `.bcastEnd`. -/
def Obligations.EpochsTracesAndBroadcast : Prop := 
  (∀ (s : State) (site v dst value : Nat),
    let P := s.seen.primary
    let by_ := (s.seen.fabric.drainedBy.filter (· ≠ site)) ++ [site]
    let reports := s.seen.isSet P Csr.FAB_STATUS_FLIPPING = true ∧ s.seen.field site Csr.FAB_STATUS_EPOCH = s.seen.field P Csr.FAB_STATUS_EPOCH
      ∧ s.seen.holdsNoOld site = true
    (s.seen.isSet P Csr.FRM_STATUS_BUSY = true → exec .fabFlip s = .next (s.quiet fun p => p.raise p.primary 0x0110))
    ∧ (s.seen.isSet P Csr.FRM_STATUS_BUSY = false → s.seen.isSet P Csr.FAB_STATUS_FLIPPING = true →
      exec .fabFlip s = .next (s.quiet id))
    ∧ (s.seen.isSet P Csr.FRM_STATUS_BUSY = false → s.seen.isSet P Csr.FAB_STATUS_FLIPPING = false →
      ∃ t, exec .fabFlip s = .next t ∧ t.p.field P Csr.FAB_STATUS_EPOCH = (s.p.field P Csr.FAB_STATUS_EPOCH + 1) % 2
        ∧ t.p.isSet P Csr.FAB_STATUS_FLIPPING = true ∧ t.p.isSet P Csr.FAB_STATUS_OLD_DRAINED = false
        ∧ t.mem = s.mem ∧ t.p.time = s.p.time)
    ∧ (s.seen.routes site = false ∨ s.seen.treeReady site 0 1 = false →
      exec (.epochFlipMsg site v) s = .next (s.quiet id) ∧ exec (.drainNotice site) s = .next (s.quiet id))
    ∧ (s.seen.routes site = true → s.seen.treeReady site 0 1 = true →
      (∃ t, exec (.epochFlipMsg site v) s = .next t ∧ t.p.field site Csr.FAB_STATUS_EPOCH = v % 2
        ∧ (s.p.field site Csr.FAB_STATUS_EPOCH ≠ v % 2 → site ∈ t.p.fabric.notIdle)
        ∧ t.p.net = s.p.net.erase (.epoch site v) ++ (s.seen.treeEdges site).map (fun e => .epoch (facing site e).1 (v % 2))
        ∧ t.mem = s.mem)
      ∧ ∃ t, exec (.drainNotice site) s = .next t ∧ site ∉ t.p.fabric.notIdle ∧ t.p.csr = s.p.csr ∧ t.mem = s.mem
        ∧ t.p.net = s.p.net.erase (.drained site) ++ (s.seen.treeEdges site).map fun e => .drained (facing site e).1)
    ∧ (¬ reports → exec (.routerDrainReport site) s = .next (s.quiet id))
    ∧ (reports → s.seen.drainDies.all by_.contains = false →
      ∃ t, exec (.routerDrainReport site) s = .next t ∧ t.p.fabric.drainedBy = by_ ∧ t.p.csr = s.p.csr ∧ t.mem = s.mem)
    ∧ (reports → s.seen.drainDies.all by_.contains = true → s.seen.fabric.avoid = [] →
      ∃ t, exec (.routerDrainReport site) s = .next t ∧ t.p.isSet P Csr.FAB_STATUS_FLIPPING = false
        ∧ t.p.isSet P Csr.FAB_STATUS_OLD_DRAINED = true ∧ P ∉ t.p.fabric.notIdle ∧ t.p.fabric.drainedBy = [] ∧ t.mem = s.mem)
    ∧ (siteCount ≤ dst → exec (.fabRtWrite site dst value) s = .next (s.quiet id))
    ∧ (dst < siteCount → s.seen.fabric.notIdle.contains site = true → ∃ t, exec (.fabRtWrite site dst value) s = .next t
      ∧ t.p.field site (Csr.FAB_RT dst) = s.p.field site (Csr.FAB_RT dst) ∧ t.mem = s.mem)
    ∧ (∀ e, e < 2 → dst < siteCount → s.seen.field site Csr.FAB_STATUS_EPOCH = e → s.seen.fabric.notIdle.contains site = false →
      let old := s.seen.field site (Csr.FAB_RT dst)
      let kept := if e = 0 then bitsOf old 0 4 + 16 * bitsOf value 4 4 else bitsOf value 0 4 + 16 * bitsOf old 4 4
      (bitsOf value (4 * e) 4 = bitsOf old (4 * e) 4 →
        exec (.fabRtWrite site dst value) s = .next (s.quiet fun p => p.setField site (Csr.FAB_RT dst) kept))
      ∧ (bitsOf value (4 * e) 4 ≠ bitsOf old (4 * e) 4 →
        exec (.fabRtWrite site dst value) s = .next (s.quiet fun p => (p.setField site (Csr.FAB_RT dst) kept).raise site 0x090B))))
  ∧ (∀ (s : State) (site b tr noise : Nat),
    (s.seen.dueFlit site b tr = none ∨ s.seen.routes site = false →
      exec (.traceFlit site b tr noise) s = .next (s.store fun _ p => p))
    ∧ (∀ d, s.seen.dueFlit site b tr = some d → s.seen.routes site = true →
      let q := s.seen.arrive (.traceFlit site b d.head d.index d.flit d.done)
      let sent : Flit := if d.index = 0 then d.flit else noisyFlit (noise % 2 ^ 528) d.flit
      (s.seen.traceNames site b tr = false → ∃ t, exec (.traceFlit site b tr noise) s = .next t
        ∧ t.p.field site Csr.FAB_FAULT = 0x090A ∧ t.p.net = q.net ∧ t.mem = s.mem)
      ∧ (s.seen.traceNames site b tr = true → s.seen.traceReady site tr = false →
        exec (.traceFlit site b tr noise) s = .next (s.store fun _ p => p))
      ∧ (s.seen.traceNames site b tr = true → s.seen.traceReady site tr = true →
        exec (.traceFlit site b tr noise) s = .next (s.store fun _ p => p.traceStep site b d (noise % 2 ^ 528))
        ∧ (s.seen.traceClusters site d.head.trace = [] → ∃ t, exec (.traceFlit site b tr noise) s = .next t
          ∧ t.p.net = q.net ++ (s.seen.traceOuts site d.head.trace).map (fun o =>
              .traceFlit (farBundle site o).1 (farBundle site o).2 d.head d.index sent none)
            ++ (match d.done with | some k => [.gtrDone k] | none => [])
          ∧ t.mem = s.mem ∧ t.p.time = s.p.time)))
    ∧ exec (.traceCreditTimeout site tr) s = .next (s.quiet fun p =>
        p.raiseFor site 0x0909 (severityOf 0x0909) (some (p.field site (Csr.FAB_TRACE_REGION tr))) 0 tr))
  ∧ (∀ (s : State) (site off crc : Nat) (data : List Byte),
    let q := ((s.seen.arrive (.bcast site off data)).keepImage site off data)
    let units := (byteRows data).map fun d => plainUnit d none 0
    let q := q.treeSend site (treeHead q 0x2B units.length off 0) units (.bcast · off data)
    let e := s.seen.arrive (.bcastEnd site crc)
    let e := if site = e.primary then { e with fabric := { e.fabric with bcastEnded := some crc } } else e
    let e := e.treeSend site (treeHead e 0x2C 0 0 (crc % 2 ^ 32)) [] (.bcastEnd · crc)
    (s.seen.routes site = false → exec (.bcast site off data) s = .next (s.quiet id) ∧ exec (.bcastEnd site crc) s = .next (s.quiet id))
    ∧ (s.seen.routes site = true →
      (s.seen.net.contains (.bcastAgain site off data) = true → exec (.bcast site off data) s = .next (s.quiet fun p =>
        (p.arrive (.bcastAgain site off data)).bcastTake site off data))
      ∧ (s.seen.net.contains (.bcastAgain site off data) = false →
        (s.seen.treeReady site 5 2 = false → exec (.bcast site off data) s = .next (s.quiet id))
        ∧ (s.seen.treeReady site 5 2 = true → exec (.bcast site off data) s = .next (s.quiet fun _ =>
          if q.bcastLocal site = true then
            (q.setBcastCrc site (data.foldl (fun c b => crcStep32 0x82F63B78 8 (Nat.xor c b.toNat)) (q.bcastCrc site))).writeWindow
              site off data
          else q)))
      ∧ (s.seen.net.contains (.bcastEndAgain site crc) = true → exec (.bcastEnd site crc) s = .next (s.quiet fun p =>
        (p.arrive (.bcastEndAgain site crc)).bcastCheck site crc))
      ∧ (s.seen.net.contains (.bcastEndAgain site crc) = false →
        (s.seen.treeReady site 5 1 = false → exec (.bcastEnd site crc) s = .next (s.quiet id))
        ∧ (s.seen.treeReady site 5 1 = true → exec (.bcastEnd site crc) s = .next (s.quiet fun _ =>
          if e.bcastLocal site = true then
            (e.setBcastCrc site 0xFFFFFFFF).sendControl site e.primary
              (.bcastResult site (decide (Nat.xor (e.bcastCrc site) 0xFFFFFFFF = crc)))
          else e)))))

/-- OWNER_RECORD (R546): an accepted record enrols or revokes its slot and ends in 0x0F09, or, when the read back fails, revokes
it and ends in 0x0F0A; a refused one raises 0x0F08 and leaves the fuses; the command bit clears.

Completes, with its own effect as its conclusion (`exec … = .next …`): `.ownerRecord`. -/
def Obligations.OwnerKeyRecords : Prop := ∀ (s : State) (pldm : Bool) (record : List Byte) (readBack : Bool),
  let r := if pldm then record else s.mem.read (s.seen.field s.seen.primary Csr.SEC_CMD_ADDR) 176
  (s.seen.ownerRecordOk pldm r = false →
    ∃ t, exec (.ownerRecord pldm record readBack) s = .next t ∧ t.p.fuses = s.p.fuses ∧ t.mem = s.mem ∧ t.p.time = s.p.time)
  ∧ (s.seen.ownerRecordOk pldm r = true → leAt r 5 1 < s.p.fuses.owner.length →
    ∃ t, exec (.ownerRecord pldm record readBack) s = .next t
      ∧ (leAt r 4 1 = 1 → readBack = true → (nth t.p.fuses.owner (leAt r 5 1) {}).enrolled = true
          ∧ (nth t.p.fuses.owner (leAt r 5 1) {}).data = sliceBytes r 0x10 49)
      ∧ (leAt r 4 1 ≠ 1 ∨ readBack = false → (nth t.p.fuses.owner (leAt r 5 1) {}).revoked = true)
      ∧ (∀ j, j ≠ leAt r 5 1 → nth t.p.fuses.owner j {} = nth s.p.fuses.owner j {})
      ∧ t.mem = s.mem ∧ t.p.time = s.p.time)

/-- AZ_IDLE, AZ_DATA, AZ_KA and the other frames (R18, R321 to R325, R331): a frame that is not intact, of another kind, or at an end that
does not listen does nothing; a tied edge counts it and raises 0x0A09; one out of its place only shows that the edge lives; any other
brings its link control, and a unit goes to the buffer of its bundle: the router's input, the crossing's elastic buffer or the trace.

AZ_NAK, AZ_TIE, AZ_CUT and AZ_TRUNC (R325, R326, R331, R333), intact, in their place and at an end that listens and is not tied: a NAK
counts a replay and every frame not acknowledged goes out again; the eighth in a row for one SEQ retrains the bundle; TIE shows the
peer tied; CUT cuts every bundle of the edge; TRUNC ends the packet that arrives on its class.

Completes, with its own effect as its conclusion (`exec … = .next …`): `.azIdle`, `.azData`, `.azKa`, `.azNak`, `.azTie`,
`.azCut`, `.azTrunc`. -/
def Obligations.AzrolaneFramesAndControls : Prop := 
  (∀ (s : State) (f : AzFrame) (cls : Nat),
    let S := f.site
    let B := f.bundle
    let hears (k : Nat) : Prop := f.kind = k ∧ f.intact = true ∧ s.seen.listens S B = true
    let placed := (s.seen.bundle S B).inPlace f
    let common (c : Instr) (k : Nat) : Prop :=
      (¬ hears k → exec c s = .next (s.quiet id))
      ∧ (hears k → s.seen.edgeTied S (faceOf B) = true → ∃ t, exec c s = .next t ∧ t.p.field S Csr.AZL_FAULT = 0x0A09
        ∧ t.p.tallyOf S (Csr.AZL_BERR_CRC B) = min (2 ^ (Csr.AZL_BERR_CRC B).width - 1) (s.p.tallyOf S (Csr.AZL_BERR_CRC B) + 1)
        ∧ t.mem = s.mem ∧ t.p.time = s.p.time)
      ∧ (hears k → s.seen.edgeTied S (faceOf B) = false → placed = false → exec c s = .next (s.quiet fun p => p.sawFrame f))
    let unit (c : Instr) (ka : Bool) (k : Nat) : Prop :=
      hears k → s.seen.edgeTied S (faceOf B) = false → placed = true →
      ∃ t, exec c s = .next t ∧ (t.p.bundle S B).rxSeq = f.seq ∧ (t.p.bundle S B).discarding = false
        ∧ (s.seen.rigRole S B = 2 → (t.p.router S).queue B cls
            = (s.seen.router S).queue B cls ++ [⟨decide ((s.seen.router S).due B cls = 0), f.flit⟩])
        ∧ (s.seen.rigRole S B = 1 → s.seen.awaited S B = none ∨ s.seen.meshBuf S B ≠ [] →
            t.p.meshBuf S B = s.seen.meshBuf S B ++ [wordOf ka f.flit])
        ∧ (s.seen.rigRole S B = 3 → (t.p.bundle S B).arrived = (s.seen.bundle S B).arrived + 1)
        ∧ t.mem = s.mem ∧ t.p.time = s.p.time
    common (.azIdle f) azIdle ∧ common (.azData f cls) azDataKind ∧ common (.azKa f cls) azKaKind ∧ common (.azNak f) azNakKind
    ∧ common (.azTie f) azTieKind ∧ common (.azCut f) azCutKind ∧ common (.azTrunc f) azTruncKind
    ∧ (hears azIdle → s.seen.edgeTied S (faceOf B) = false → placed = true →
      exec (.azIdle f) s = .next (s.quiet fun p => (p.sawFrame f).goodFrame f))
    ∧ unit (.azData f cls) false azDataKind ∧ unit (.azKa f cls) true azKaKind)
  ∧ (∀ (s : State) (f : AzFrame),
    f.intact = true → s.seen.listens f.site f.bundle = true → s.seen.edgeTied f.site (faceOf f.bundle) = false → f.bundle < 64 →
    (s.seen.bundle f.site f.bundle).inPlace f = true →
    let g := (s.seen.sawFrame f).goodFrame f
    let x := g.bundle f.site f.bundle
    let n := if x.nakCount ≠ 0 ∧ x.nakSeq = f.ack then x.nakCount + 1 else 1
    (f.kind = azNakKind → 8 ≤ n →
      ∃ t, exec (.azNak f) s = .next t ∧ t.p.azState f.site f.bundle = azTraining
        ∧ (t.p.bundle f.site f.bundle).nakCount = 0 ∧ t.mem = s.mem)
    ∧ (f.kind = azNakKind → n < 8 →
      ∃ t, exec (.azNak f) s = .next t ∧ (t.p.bundle f.site f.bundle).nakSeq = f.ack
        ∧ (t.p.bundle f.site f.bundle).nakCount = n ∧ (t.p.bundle f.site f.bundle).replay = x.replay
        ∧ t.p.tallyOf f.site (Csr.AZL_BERR_REPLAY f.bundle)
            = min (2 ^ (Csr.AZL_BERR_REPLAY f.bundle).width - 1) (g.tallyOf f.site (Csr.AZL_BERR_REPLAY f.bundle) + 1)
        ∧ (∀ q ∈ x.replay, ∃ control, .azFrame f.site f.bundle (azWires q.kind q.payload q.side control) ∈ t.p.out)
        ∧ t.mem = s.mem ∧ t.p.time = s.p.time)
    ∧ (f.kind = azTieKind → ∃ t, exec (.azTie f) s = .next t ∧ t.p.azState f.site f.bundle = azTied ∧ t.mem = s.mem)
    ∧ (f.kind = azCutKind → ∃ t, exec (.azCut f) s = .next t ∧ t.p.edgeCut f.site (faceOf f.bundle) = true
      ∧ (∀ k ∈ faceBundles (faceOf f.bundle), t.p.azState f.site k = azCut ∧ t.p.meshBuf f.site k = []
          ∧ (t.p.bundle f.site k).replay = []) ∧ t.mem = s.mem ∧ t.p.time = s.p.time)
    ∧ (f.kind = azTruncKind → ∃ t, exec (.azTrunc f) s = .next t ∧ (t.p.bundle f.site f.bundle).rxSeq = f.seq
      ∧ (t.p.router f.site).due f.bundle f.cvc = 0 ∧ t.mem = s.mem ∧ t.p.time = s.p.time
      ∧ (∀ o, (s.seen.router f.site).open_ f.bundle f.cvc = some o →
          ((s.seen.router f.site).queue f.bundle f.cvc).takeWhile (fun q => !q.head) = [] → 0 < o.left →
          ∀ o', (t.p.router f.site).open_ f.bundle f.cvc = some o' → o' = { o with left := 0 })))

/-- AZ_CRC_FAIL, AZ_NO_GOOD_FRAME, AZ_RETRAIN, AZ_CUT_TIMEOUT, AZ_CUT_ORDER and AZ_REJOIN (R325, R326, R331 to R334): a frame that
is not intact counts and asks for a replay; a bundle in trouble trains again; an edge that has been silent for its limit, or that
firmware orders, sends CUT on every bundle and is cut; only a cut edge rejoins.

AZ_RETRAIN_DONE, TC_LOOPBACK and TIE_MASK_WRITE (R76, R326, R330, R331): a training that ends well, with no more than one failed wire
in a direction, leaves the bundle up with fresh counters, or tied at a tied edge; one that fails is noted; a loopback that finds one
failed wire repairs it and keeps it in the repair map, and one that finds a second marks the bundle bad; the tie mask ties the up bundles
of its edges and releases those of the others.

Completes, with its own effect as its conclusion (`exec … = .next …`): `.azCrcFail`, `.azNoGoodFrame`, `.azRetrain`,
`.azRetrainDone`, `.azCutTimeout`, `.azCutOrder`, `.azRejoin`, `.tieMaskWrite`, `.tcLoopback`. -/
def Obligations.AzrolaneTraining : Prop := 
  (∀ (s : State) (site b edge : Nat) (wires : List (Nat × Nat)), b < 64 → edge < 4 →
    let trains (c : Instr) (b : Nat) : Prop :=
      s.seen.azState site b ≠ azCut → s.seen.azState site b ≠ azBad → s.seen.routes site = true →
        ∃ t, exec c s = .next t ∧ t.p.azState site b = azTraining
          ∧ t.p.field site (Csr.AZL_BUNDLE_RETRAINS b) = min (2 ^ (Csr.AZL_BUNDLE_RETRAINS b).width - 1)
              (s.p.field site (Csr.AZL_BUNDLE_RETRAINS b) + 1)
          ∧ t.mem = s.mem ∧ t.p.time = s.p.time
    let stays (b : Nat) : Prop := s.seen.azState site b = azCut ∨ s.seen.azState site b = azBad ∨ s.seen.routes site = false
    let cuts (c : Instr) (code : Nat) : Prop := s.seen.edgeCut site edge = false → s.seen.routes site = true →
      ∃ t, exec c s = .next t ∧ t.p.edgeCut site edge = true ∧ t.p.field site Csr.AZL_FAULT = code
        ∧ (∀ k ∈ faceBundles edge, t.p.azState site k = azCut ∧ (t.p.bundle site k).replay = []
          ∧ ∃ control, .azFrame site k (azWires azCutKind 0 0 control) ∈ t.p.out)
        ∧ t.mem = s.mem ∧ t.p.time = s.p.time
    (∀ f : AzFrame, f.site = site → f.bundle = b →
      (f.intact = true ∨ s.seen.listens site b = false → exec (.azCrcFail f) s = .next (s.quiet id))
      ∧ (f.intact = false → s.seen.listens site b = true → s.seen.edgeTied site (faceOf b) = true →
        exec (.azCrcFail f) s = .next (s.quiet fun p => p.tiedFrame site b none))
      ∧ (f.intact = false → s.seen.listens site b = true → s.seen.edgeTied site (faceOf b) = false →
        ∃ t, exec (.azCrcFail f) s = .next t ∧ (t.p.bundle site b).discarding = true
          ∧ t.p.tallyOf site (Csr.AZL_BERR_CRC b) = min (2 ^ (Csr.AZL_BERR_CRC b).width - 1) (s.p.tallyOf site (Csr.AZL_BERR_CRC b) + 1)
          ∧ (∃ control, .azFrame site b (azWires azNakKind 0 0 control) ∈ t.p.out) ∧ t.mem = s.mem ∧ t.p.time = s.p.time))
    ∧ trains (.azNoGoodFrame site b) b ∧ (stays b → exec (.azNoGoodFrame site b) s = .next (s.quiet id))
    ∧ (∀ k, trains (.azRetrain site edge k) (16 * edge + k % 16)
      ∧ (stays (16 * edge + k % 16) → exec (.azRetrain site edge k) s = .next (s.quiet fun p =>
          (p.setField site Csr.AZL_CTRL_EDGE edge).setField site Csr.AZL_CTRL_BUNDLE k)))
    ∧ (s.seen.edgeSilent site edge = false → exec (.azCutTimeout site edge) s = .next (s.quiet id))
    ∧ (s.seen.edgeSilent site edge = true → cuts (.azCutTimeout site edge) 0x0A07)
    ∧ cuts (.azCutOrder site edge) 0x0A08
    ∧ (s.seen.edgeCut site edge = true ∨ s.seen.routes site = false → exec (.azCutOrder site edge) s = .next (s.quiet fun p =>
        p.setField site Csr.AZL_CTRL_EDGE edge))
    ∧ (s.seen.edgeCut site edge = true → s.seen.routes site = true →
      ∃ t, exec (.azRejoin site edge wires) s = .next t ∧ t.p.edgeCut site edge = false ∧ t.mem = s.mem ∧ t.p.time = s.p.time
        ∧ (∀ k ∈ faceBundles edge, t.p.azState site k ≠ azCut))
    ∧ (s.seen.edgeCut site edge = false ∨ s.seen.routes site = false →
      exec (.azRejoin site edge wires) s = .next (s.quiet fun p => p.setField site Csr.AZL_CTRL_EDGE edge)))
  ∧ (∀ (s : State) (site b raw : Nat) (tx rx : List Nat), b < 64 →
    let txV := s.seen.isSet site (Csr.AZL_BUNDLE_REPAIR_TX_V b)
    let rxV := s.seen.isSet site (Csr.AZL_BUNDLE_REPAIR_RX_V b)
    let nt := newWires txV (s.seen.field site (Csr.AZL_BUNDLE_REPAIR_TX b)) tx
    let nr := newWires rxV (s.seen.field site (Csr.AZL_BUNDLE_REPAIR_RX b)) rx
    let fits := (nt = [] ∨ nt.length + flag txV ≤ 1) ∧ (nr = [] ∨ nr.length + flag rxV ≤ 1)
    (s.seen.azState site b ≠ azTraining → ∀ ok, exec (.azRetrainDone site b ok tx rx raw) s = .next (s.store fun _ p => p))
    ∧ (s.seen.azState site b = azTraining → s.seen.unitState site (64 + b) ≠ .bad → fits →
      (s.seen.rigRole site b = 1 → raw + 1 ≤ s.seen.latency site b) →
      ∃ t, exec (.azRetrainDone site b true tx rx raw) s = .next t
        ∧ t.p.azState site b = (if s.seen.edgeTied site (faceOf b) then azTied else azUp)
        ∧ (t.p.bundle site b).rxSeq = 511 ∧ (t.p.bundle site b).replay = [] ∧ t.mem = s.mem ∧ t.p.time = s.p.time)
    ∧ (s.seen.azState site b = azTraining →
      let fails := ((s.seen.bundle site b).retrainAt.filter fun t => s.seen.now < t + 1250000000) ++ [s.seen.now]
      fails.length < 3 → ∃ t, exec (.azRetrainDone site b false tx rx raw) s = .next t
        ∧ (t.p.bundle site b).retrainAt = fails ∧ t.p.azState site b = azTraining ∧ t.mem = s.mem)
    ∧ (s.seen.lives site = false → exec (.tcLoopback site b tx rx) s = .next (s.quiet id))
    ∧ (s.seen.lives site = true → fits → ∃ t, exec (.tcLoopback site b tx rx) s = .next t
      ∧ (∀ w l, nt = w :: l → t.p.isSet site (Csr.AZL_BUNDLE_REPAIR_TX_V b) = true
          ∧ t.p.field site (Csr.AZL_BUNDLE_REPAIR_TX b) = w % 2 ^ (Csr.AZL_BUNDLE_REPAIR_TX b).width)
      ∧ (∀ w l, nr = w :: l → t.p.isSet site (Csr.AZL_BUNDLE_REPAIR_RX_V b) = true
          ∧ t.p.field site (Csr.AZL_BUNDLE_REPAIR_RX b) = w % 2 ^ (Csr.AZL_BUNDLE_REPAIR_RX b).width)
      ∧ t.p.azState site b = s.p.azState site b ∧ t.mem = s.mem ∧ t.p.time = s.p.time)
    ∧ (s.seen.lives site = true → ¬ fits → ∃ t, exec (.tcLoopback site b tx rx) s = .next t ∧ t.p.azState site b = azBad
        ∧ (site, 64 + b) ∈ t.p.plan.bootBad ∧ t.p.field site Csr.BST_FAULT = 0x0E0E ∧ t.mem = s.mem)
    ∧ (∀ mask, ∃ t, exec (.tieMaskWrite site mask) s = .next t ∧ t.p.field site Csr.AZL_CTRL_TIE_MASK = mask % 16
        ∧ t.p.field site Csr.AZL_STATUS_TIED = mask % 16 ∧ t.mem = s.mem ∧ t.p.time = s.p.time
        ∧ (∀ e k, e < faceCount site → k ∈ faceBundles e →
            (bitOf mask e = true → s.seen.azState site k = azUp → t.p.azState site k = azTied)
            ∧ (bitOf mask e = false → s.seen.azState site k = azTied → t.p.azState site k = azUp))))

/-- TC_DESCRIPTOR, TC_SNAPSHOT and TC_FRAME_CRC_FAIL (R37, R327, R329): a good descriptor of a common profile names the neighbour and
sets the bundles' profile, with 0x0A05 for the slow one; a missing or refused one clears PEER_OK and leaves the edge unproven with
0x0A06; the tester and the target each fold a frame's snapshots into the signatures of its units; a frame that fails is counted with 0x0A0B,
and a lost snapshot stands as no response.

FIELD_BIST_START, FIELD_BIST_ABORT and FIELD_BIST_DONE (R31, R50, R52): a die that does not live, or must not be powered, starts none; a
self-test that must not run sets REFUSED and raises its code; one that may is noted with its kinds, units and mode, forgets the
reports of its die, and BUSY reads 1; an abort ends it with 0x0E0D and destroys nothing, and its end sets DONE.

Completes, with its own effect as its conclusion (`exec … = .next …`): `.fieldBistStart`, `.fieldBistAbort`,
`.fieldBistDone`, `.tcDescriptor`, `.tcSnapshot`, `.tcFrameCrcFail`. -/
def Obligations.TestingCommands : Prop := 
  (∀ (s : State) (site edge : Nat) (frame : List Byte),
    let d := tcBody frame
    let refused (p : Panel) : Panel :=
      ((p.setField site Csr.AZL_STATUS_PEER_OK (putBits (p.field site Csr.AZL_STATUS_PEER_OK) edge 1 0)).untestedEdge site edge).raise
        site 0x0A06
    let far := (facing site edge).1
    (s.seen.lives site = false ∨ faceCount site ≤ edge → exec (.tcDescriptor site edge frame) s = .next (s.quiet id))
    ∧ (s.seen.lives site = true → edge < faceCount site →
      (frame = [] → exec (.tcDescriptor site edge frame) s = .next (s.quiet refused))
      ∧ (frame ≠ [] → tcIntact frame = false →
        exec (.tcDescriptor site edge frame) s = .next (s.quiet fun p => refused (p.tcFailed site)))
      ∧ (tcIntact frame = true → tcType frame ≠ 1 → exec (.tcDescriptor site edge frame) s = .next (s.quiet id))
      ∧ (tcIntact frame = true → tcType frame = 1 → descProfiles d % 4 = 0 ∨ (isGuest d = true ∧ edgeDie far = false) →
        exec (.tcDescriptor site edge frame) s = .next (s.quiet refused))
      ∧ (tcIntact frame = true → tcType frame = 1 → descProfiles d % 4 ≠ 0 → isGuest d = false ∨ edgeDie far = true → edge < 4 →
        ∃ t, exec (.tcDescriptor site edge frame) s = .next t ∧ t.p.field site (Csr.AZL_CAP_PEER edge) = leNat (d.take 32)
          ∧ bitOf (t.p.field site Csr.AZL_STATUS_PEER_OK) edge = true ∧ bitOf (t.p.field site Csr.AZL_STATUS_GUEST) edge = isGuest d
          ∧ (∀ k ∈ faceBundles edge, t.p.isSet site (Csr.AZL_BUNDLE_PROFILE k) = decide (2 ≤ descProfiles d % 4))
          ∧ (descProfiles d % 4 = 1 → t.p.field site Csr.AZL_FAULT = 0x0A05)
          ∧ t.mem = s.mem ∧ t.p.time = s.p.time))
    ∧ (∀ tester target,
      let good := s.seen.lives tester = true ∧ s.seen.lives target = true ∧ tcIntact frame = true ∧ tcType frame = 2
      let own := SMap.get (fun _ => none) s.p.plan.selfSeq target = some (tcSeq frame)
      (¬ good → exec (.tcSnapshot tester target frame) s = .next (s.quiet id))
      ∧ (good → own → tester ≠ target → exec (.tcSnapshot tester target frame) s = .next (s.quiet fun p =>
        p.each (tcSnapshots frame) fun p x => p.each (unitsOfBit target x.1) fun p u => p.foldSnapshot tester target u x.2))
      ∧ (good → ∃ t, exec (.tcSnapshot tester target frame) s = .next t
        ∧ SMap.get (fun _ => none) t.p.plan.selfSeq target = some (tcSeq frame) ∧ t.p.csr = s.p.csr ∧ t.mem = s.mem)
      ∧ (s.seen.lives tester = false ∨ tcIntact frame = true →
        exec (.tcFrameCrcFail tester target frame) s = .next (s.quiet id))
      ∧ (s.seen.lives tester = true → tcIntact frame = false → ∃ t, exec (.tcFrameCrcFail tester target frame) s = .next t
        ∧ t.p.field tester Csr.AZL_FAULT = 0x0A0B ∧ t.mem = s.mem ∧ t.p.time = s.p.time
        ∧ SMap.get (fun _ => 0) t.p.fabric.tcErrors tester = SMap.get (fun _ => 0) s.p.fabric.tcErrors tester + 1
        ∧ (tcType frame ≠ 2 → t.p.plan = s.p.plan)
        ∧ (tcType frame = 2 → ∀ i u, i < 8 → bitOf (tcUnits frame) i = true → u ∈ unitsOfBit target i →
            (outcomeOf s.p.plan.reports tester target u).isNone = true → ⟨tester, target, u, .noResponse⟩ ∈ t.p.plan.reports))))
  ∧ (∀ (s : State) (site mode kinds units : Nat),
    let p := ((s.seen.setField site Csr.BST_CTRL_MODE mode).setField site Csr.BST_CTRL_KIND kinds).setField site Csr.BST_CTRL_UNITS units
    let may := s.seen.lives site = true ∧ s.seen.noPower site = false
    (¬ may → exec (.fieldBistStart site mode kinds units) s = .next (s.store fun _ p => p))
    ∧ (∀ code, may → p.bistRefusal site = some code → exec (.fieldBistStart site mode kinds units) s = .next (s.store fun _ _ =>
        (p.setFlag site Csr.BST_STATUS_REFUSED true).raise site code))
    ∧ (may → p.bistRefusal site = none → ∃ t, exec (.fieldBistStart site mode kinds units) s = .next t
        ∧ t.p.isSet site Csr.BST_STATUS_BUSY = true ∧ t.p.isSet site Csr.BST_STATUS_DONE = false
        ∧ t.p.isSet site Csr.BST_STATUS_ABORTED = false
        ∧ (∃ run ∈ t.p.plan.bists, run.site = site ∧ run.neighbour = decide (mode = 1) ∧ run.kinds = kinds % 8 ∧ run.units = units % 32)
        ∧ (∀ r ∈ t.p.plan.reports, r.target ≠ site) ∧ t.mem = s.mem ∧ t.p.time = s.p.time)
    ∧ (s.seen.underBist site = false → exec (.fieldBistAbort site) s = .next (s.quiet id)
      ∧ ∀ l, exec (.fieldBistDone site l) s = .next (s.store fun _ p => p))
    ∧ (s.seen.underBist site = true → ∃ t, exec (.fieldBistAbort site) s = .next t
        ∧ t.p.underBist site = false ∧ t.p.isSet site Csr.BST_STATUS_BUSY = false ∧ t.p.isSet site Csr.BST_STATUS_ABORTED = true
        ∧ t.p.field site Csr.BST_RESULT = 0 ∧ t.mem = s.mem ∧ t.p.time = s.p.time)
    ∧ (s.seen.underBist site = true → ∀ l, ∃ t, exec (.fieldBistDone site l) s = .next t ∧ t.p.underBist site = false
        ∧ t.p.time = s.p.time)
    ∧ (∀ run l, (s.seen.plan.bists.find? fun b => b.site = site) = some run → run.neighbour = false →
        exec (.fieldBistDone site l) s = .next (s.store fun _ p =>
          let q := ((p.setFlag site Csr.BST_STATUS_BUSY false).setFlag site Csr.BST_STATUS_DONE true).bistDestroys site run.kinds run.units
          let q := q.collectReports [site]
          let rs := q.plan.reports
          let bad := if bitOf run.kinds 2 then l else []
          let q := (q.leaveBist site fun _ => false).setField site Csr.BST_BUNDLE_FAIL ((distinct bad).map fun b => 2 ^ b).sum
          q.showResult site run.units fun u => match outcomeOf rs site site u with
            | some .matched => .good
            | some .mismatch => .bad
            | _ => .unproven)))

/-- PL_FRAME_ROUTE and TRANSIT_PACKET (R311, R341, R342, R351, R352, R354): words that begin no frame do nothing; only an up panel port
takes frames, and an intact one may bring it up; a frame of an undefined type, a KEEPALIVE, or a bad frame for this panel is only counted;
a frame at its sixteenth hop raises 0x0B05, one with no output 0x0B04; a frame for this panel stays on its link die and any other leaves
on its output, here or on another link die; a packet in transit leaves on its port, and on a port that is down is dropped with 0x0B04.

PL_DATA and PL_MARK (R17, R342, R346, R347, R349): a bad frame has no effect; one for a context that does not receive is refused with
reason 3 and 0x0B07, one outside the context's window with reason 2 and 0x0B07, one for a memory die in self-refresh with reason 1; an old
one is acknowledged again, one too far ahead NAKed; a new one of a stream context stores its rows where memory is populated, of a mirror
context goes to its memory die; a new mark is kept until every frame before it has come.

PL_ACK, PL_NAK, PL_MARK_ACK, PL_RTO_EXPIRE, PL_ACK_TIMER and PL_GAP_TIMEOUT (R347 to R349): an ACK, or a NAK of reason 0, frees the
stored frames it covers, a NAK of reason 1 restarts their timers and one of reason 2 or 3 fails the context; a mark's answer goes to the
primary die; a frame is sent again until its retry limit fails its context; the timers answer for what has come.

Completes, with its own effect as its conclusion (`exec … = .next …`): `.plFrameRoute`, `.transitPacket`, `.plData`,
`.plAck`, `.plNak`, `.plMark`, `.plMarkAck`, `.plAckTimer`, `.plGapTimeout`, `.plRtoExpire`. -/
def Obligations.LinkFrames : Prop := 
  (∀ (s : State) (port : Nat) (ws : List (List Byte)),
    let ld := linkOfPort port
    (plFrameOf ws = none → exec (.plFrameRoute port ws) s = .next (s.quiet id))
    ∧ (∀ f, plFrameOf ws = some f →
      let known := 1 ≤ f.type ∧ f.type ≤ 6
      let p := if known ∧ f.crcOk = true then s.seen.portAlive port f.src else s.seen
      let r := p.tally ld (Csr.LNK_P_RX (port % 4)) 1
      let r := if known ∧ f.crcOk = true then r else r.tally ld (Csr.LNK_P_CRC (port % 4)) 1
      let v := r.field ld Csr.LNK_STATUS_PEPOCH
      let g : PlFrame := { f with epoch := v, hops := f.hops + 1 }
      let passes := known ∧ f.type ≠ 6 ∧ (f.crcOk = true ∨ f.dst ≠ r.panelId ld)
      let gives (q : Panel) : Prop := exec (.plFrameRoute port ws) s = .next (s.quiet fun _ => q)
      (p.portUp port = false ∨ p.portRole port ≠ 1 → gives p)
      ∧ (p.portUp port = true → p.portRole port = 1 →
        (¬ passes → gives r)
        ∧ (passes → 15 ≤ f.hops → gives ((r.tally ld (Csr.LNK_P_DROP (port % 4)) 1).raise ld 0x0B05))
        ∧ (passes → f.hops < 15 → f.dst = r.panelId ld → gives (r.send (.linkLocal (linkOfCtx (f.ctx % 4096)) g)))
        ∧ (passes → f.hops < 15 → f.dst ≠ r.panelId ld →
          (r.egress ld f.dst = none → gives ((r.tally ld (Csr.LNK_P_DROP (port % 4)) 1).raise ld 0x0B04))
          ∧ ∀ o, r.egress ld f.dst = some o → o < 128 → o = bitsOf (r.field ld (Csr.LNK_PT (f.dst % 4096))) (16 * v) 8 →
            (linkOfPort o = ld → gives (r.emitFrame o g))
            ∧ (linkOfPort o ≠ ld → gives (r.send (.transit ld (linkOfPort o) o g))))))
    ∧ ∀ (src : Nat) (f : PlFrame),
      let m := NetMsg.transit src ld port f
      let q := s.seen.arrive m
      let waits := s.seen.reined src 4 = true ∧ s.seen.net.contains m = true ∧ s.seen.injected.contains m = false
      (waits → exec (.transitPacket src port f) s = .next (s.quiet id))
      ∧ (¬ waits → q.portUp port = true → q.portRole port = 1 →
        exec (.transitPacket src port f) s = .next (s.quiet fun _ => q.emitFrame port f))
      ∧ (¬ waits → q.portUp port = false ∨ q.portRole port ≠ 1 →
        exec (.transitPacket src port f) s = .next (s.quiet fun _ => (q.tally ld (Csr.LNK_P_DROP (port % 4)) 1).raise ld 0x0B04)))
  ∧ (∀ (s : State) (f : PlFrame),
    let c := f.ctx % 4096
    let ld := linkOfCtx c
    let p := (s.seen.arrive (.linkLocal ld f)).meet c f
    let base := 1024 * p.ctxField c Csr.LNK_CTX_LBASE
    let inside := f.addr % 64 = 0 ∧ base ≤ f.addr ∧ f.addr + 64 * f.rows.length ≤ base + 1024 * p.ctxField c Csr.LNK_CTX_LLIMIT
    let busy := isLpddr f.addr = true ∧ (p.memDie (memSite f.addr)).selfRefresh = true
    (f.crcOk = false → exec (.plData f) s = .next (s.store fun _ _ => p) ∧ exec (.plMark f) s = .next (s.quiet fun _ => p))
    ∧ (f.crcOk = true → p.ctxReceives c = false →
      exec (.plData f) s = .next (s.store fun _ _ => (p.sendAck c 3 3 f.src).raise ld 0x0B07)
      ∧ exec (.plMark f) s = .next (s.quiet fun _ => (p.sendAck c 3 3 f.src).raise ld 0x0B07))
    ∧ (f.crcOk = true → p.ctxReceives c = true →
      (¬ inside → exec (.plData f) s = .next (s.store fun _ _ => (p.sendAck c 3 2 f.src).raise ld 0x0B07))
      ∧ (inside → busy → exec (.plData f) s = .next (s.store fun _ _ => p.sendAck c 3 1 f.src))
      ∧ (inside → ¬ busy →
        (p.placePsn c f.psn = .old → exec (.plData f) s = .next (s.store fun _ _ => p.sendAck c 2 0 f.src))
        ∧ (p.placePsn c f.psn = .far → exec (.plData f) s = .next (s.store fun _ _ => p.sendAck c 3 0 f.src))
        ∧ (∀ d, p.placePsn c f.psn = .new d → p.ctxField c Csr.LNK_CTX_KIND = 0 →
          exec (.plData f) s = .next (s.store fun _ _ => (p.send (.setoffIn c f.psn f.addr f.rows f.signal)).nakGap c d f.src))
        ∧ (∀ d, p.placePsn c f.psn = .new d → p.ctxField c Csr.LNK_CTX_KIND ≠ 0 →
          ∃ t, exec (.plData f) s = .next t ∧ t.p.time = s.p.time
            ∧ t.mem = s.mem.apply (((granulePieces (f.rows.length + 1) f.addr f.rows).filter fun x => s.seen.populated x.1).flatMap
                fun x => x.2.zipIdx.map fun y => { addr := x.1 + 64 * y.2, data := y.1.data, rows := 1, fox := some y.1.fox })))
      ∧ (p.placePsn c f.psn = .old → exec (.plMark f) s = .next (s.quiet fun _ =>
          p.routeFrame ld none { p.ctxFrame c 5 with dst := f.src, psn := f.psn, addr := f.addr }))
      ∧ (p.placePsn c f.psn = .far → exec (.plMark f) s = .next (s.quiet fun _ => p.sendAck c 3 0 f.src))
      ∧ (∀ d, p.placePsn c f.psn = .new d →
        exec (.plMark f) s = .next (s.quiet fun _ =>
          ((p.modCtx c fun x => { x with marks := x.marks ++ [(f.psn % 2 ^ 32, f.addr)] }).received c (f.psn % 2 ^ 32) f.src).nakGap
            c d f.src))))
  ∧ (∀ (s : State) (f : PlFrame),
    let c := f.ctx % 4096
    let p := s.seen.arrive (.linkLocal (linkOfCtx c) f)
    (f.crcOk = false ∨ p.ctxField c Csr.LNK_CTX_DIR ≠ 0 →
      exec (.plAck f) s = .next (s.quiet fun _ => p) ∧ exec (.plNak f) s = .next (s.quiet fun _ => p))
    ∧ (f.crcOk = true → p.ctxField c Csr.LNK_CTX_DIR = 0 →
      (∃ t, exec (.plAck f) s = .next t
        ∧ (t.p.ctx c).store = (s.p.ctx c).store.filter (fun y => !frameAcks f y.psn) ∧ t.mem = s.mem ∧ t.p.time = s.p.time)
      ∧ (f.reason = 0 → ∃ t, exec (.plNak f) s = .next t ∧ t.mem = s.mem ∧ t.p.time = s.p.time
        ∧ (t.p.ctx c).store.map (·.psn) = ((s.p.ctx c).store.map (·.psn)).filter (fun q => !frameAcks f q))
      ∧ (f.reason = 1 → ∃ t, exec (.plNak f) s = .next t
        ∧ (t.p.ctx c).store = (s.p.ctx c).store.map (fun y => { y with sentAt := s.p.now }) ∧ t.p.csr = s.p.csr ∧ t.mem = s.mem)
      ∧ (1 < f.reason → exec (.plNak f) s = .next (s.quiet fun _ => p.failCtx c)))
    ∧ (let good := f.crcOk = true ∧ p.ctxField c Csr.LNK_CTX_VALID = 1 ∧ p.ctxField c Csr.LNK_CTX_DIR = 0 ∧ p.ctxField c Csr.LNK_CTX_KIND = 0
      (good → exec (.plMarkAck f) s = .next (s.quiet fun _ => p.send (.setmarkAck c f.addr)))
      ∧ (¬ good → exec (.plMarkAck f) s = .next (s.quiet fun _ => p)))
    ∧ (∀ ctx psn x, ((s.p.ctx ctx).store.find? fun x => x.psn = psn) = some x → s.seen.ctxSends ctx = true →
      let limit := s.seen.acting (linkOfCtx ctx) (Csr.LNK_CTX_MAX_RETRY (ctxIx ctx))
      (limit ≤ x.resends → exec (.plRtoExpire ctx psn) s = .next (s.quiet fun p => p.failCtx ctx))
      ∧ (x.resends < limit → ∃ t, exec (.plRtoExpire ctx psn) s = .next t ∧ t.mem = s.mem ∧ t.p.time = s.p.time
        ∧ (t.p.ctx ctx).store = (s.p.ctx ctx).store.map fun y =>
            if y.psn = psn then { y with resends := y.resends + 1, sentAt := s.p.now } else y))
    ∧ (∀ ctx psn, ((s.p.ctx ctx).store.find? fun x => x.psn = psn) = none ∨ s.seen.ctxSends ctx = false →
      exec (.plRtoExpire ctx psn) s = .next (s.quiet id))
    ∧ (∀ ctx, (s.seen.ctxReceives ctx = true → 0 < (s.seen.ctx ctx).unacked →
        exec (.plAckTimer ctx) s = .next (s.quiet fun p => p.sendAck ctx 2 0 (p.ackPanel ctx)))
      ∧ (s.seen.ctxReceives ctx = false ∨ (s.seen.ctx ctx).unacked = 0 → exec (.plAckTimer ctx) s = .next (s.quiet id))
      ∧ (s.seen.ctxReceives ctx = true → (s.seen.ctx ctx).received ≠ [] →
        exec (.plGapTimeout ctx) s = .next (s.quiet fun p => p.sendAck ctx 3 0 (p.ackPanel ctx)))
      ∧ (s.seen.ctxReceives ctx = false ∨ (s.seen.ctx ctx).received = [] → exec (.plGapTimeout ctx) s = .next (s.quiet id))))

/-- PL_KEEPALIVE, PL_KEEPALIVE_SEND, PL_PORT_LOSS, PL_PORT_IDLE_TIMEOUT and PORT_TRAINING_DONE (R339 to R341, R354): how a port comes up
and goes down: a port that was up raises 0x0B01, one that comes up 0x0B02, one that fails its training 0x0B0E, for its owner's region;
a KEEPALIVE leaves on a port that is up or trained.

LNK_FLIP, PT_FLIP_MSG, PT_OLD_IDLE, LNK_PT_WRITE and LNK_RERIG (R339, R340, R342, R353, R388): the port table's flip, which ends 10 µs
after the last link die's report, the writes of its words, of which those of a version not idle stay, and the roles of the ports.

LANE_MARGIN_SAMPLE and PORT_COUNT_LATCH (R358): the sample of a lane of an up port shows its eye and errors, saturated, warns
with 0x0B0A and suspects with 0x0B0B; the port counters are latched and start again, with 0x0B06 past 1,024.

Completes, with its own effect as its conclusion (`exec … = .next …`): `.plKeepalive`, `.plKeepaliveSend`, `.plPortLoss`,
`.plPortIdleTimeout`, `.lnkFlip`, `.ptFlipMsg`, `.ptOldIdle`, `.lnkPtWrite`, `.lnkRerig`, `.portTrainingDone`,
`.laneMarginSample`, `.portCountLatch`. -/
def Obligations.PortsAndMargins : Prop := 
  (∀ (s : State) (port src : Nat),
    let ld := linkOfPort port
    (s.seen.portUp port = true → exec (.plKeepalive port src) s = .next (s.quiet fun p => p.tally ld (Csr.LNK_P_RX (port % 4)) 1))
    ∧ (s.seen.portUp port = true → s.seen.portRole port = 1 → exec (.plPortIdleTimeout port) s = .next (s.quiet fun p =>
        ((p.setPortState port 3).modPort port fun x => { x with altNoted := false }).raisePort port 0x0B01))
    ∧ (s.seen.portUp port = false ∨ s.seen.portRole port ≠ 1 → exec (.plPortIdleTimeout port) s = .next (s.quiet id))
    ∧ (let sends := s.seen.portRole port = 1 ∧ (s.seen.portUp port = true ∨ (s.seen.port port).trained = true) ∧ s.seen.panelId ld ≠ 0xFFF
      (sends → ∃ t first, exec (.plKeepaliveSend port) s = .next t ∧ first < 8 ∧ t.mem = s.mem
        ∧ t.p.out = [.frame port (laneWords first (frameWords (plBytes { type := 6, src := s.p.panelId ld })))])
      ∧ (¬ sends → exec (.plKeepaliveSend port) s = .next (s.quiet id)))
    ∧ (let rises := s.seen.portRole port = 1 ∧ (s.seen.port port).trained = true ∧ s.seen.panelId ld ≠ 0xFFF ∧ src ≠ 0xFFF
      s.seen.portUp port = false →
      (rises → ∃ t, exec (.plKeepalive port src) s = .next t ∧ t.p.portUp port = true
        ∧ bitOf (t.p.field ld Csr.LNK_STATUS_PORT_UP) (port % 4) = true ∧ t.p.field ld Csr.LNK_FAULT = 0x0B02 ∧ t.mem = s.mem)
      ∧ (¬ rises → exec (.plKeepalive port src) s = .next (s.quiet id)))
    ∧ (s.seen.portState port ≠ 0 → ∃ t, exec (.plPortLoss port) s = .next t
      ∧ t.p.portState port = 3 ∧ (t.p.port port).trained = false
      ∧ t.p.isSet ld (Csr.LNK_P_STATE_LOS (port % 4)) = true ∧ t.mem = s.mem ∧ t.p.time = s.p.time)
    ∧ (s.seen.portState port = 0 → exec (.plPortLoss port) s = .next (s.quiet fun p =>
        p.setFlag ld (Csr.LNK_P_STATE_LOS (port % 4)) true))
    ∧ (s.seen.portRole port = 0 → ∀ ok, exec (.portTrainingDone port ok) s = .next (s.quiet id))
    ∧ (s.seen.portRole port ≠ 0 →
      exec (.portTrainingDone port false) s = .next (s.quiet fun p => (p.setPortState port 3).raisePort port 0x0B0E)
      ∧ (∃ t, exec (.portTrainingDone port true) s = .next t ∧ (t.p.port port).trained = true
        ∧ t.p.isSet ld (Csr.LNK_P_STATE_LOS (port % 4)) = false
        ∧ (s.seen.portRole port ≠ 1 → t.p.portUp port = true) ∧ t.mem = s.mem)))
  ∧ (∀ (s : State) (ld v panel value : Nat),
    let P := s.seen.primary
    let lds := linkSites.filter s.seen.logicGood
    let done := s.seen.isSet P Csr.LNK_STATUS_FLIPPING = true ∧ lds.all s.seen.fabric.portFlippedBy.contains = true
      ∧ ∃ t, s.seen.fabric.portFlipAt = some t ∧ t + usCycles 10 ≤ s.seen.now
    let F := Csr.LNK_PT (panel % 4096)
    let old := s.seen.field ld F
    let e := s.seen.field ld Csr.LNK_STATUS_PEPOCH % 2
    let kept := if e = 0 then bitsOf old 0 16 + 65536 * bitsOf value 16 16 else bitsOf value 0 16 + 65536 * bitsOf old 16 16
    (s.seen.isSet P Csr.FRM_STATUS_BUSY = true → exec .lnkFlip s = .next (s.quiet fun p => p.raise p.primary 0x0110))
    ∧ (s.seen.isSet P Csr.FRM_STATUS_BUSY = false → s.seen.isSet P Csr.LNK_STATUS_FLIPPING = true → exec .lnkFlip s = .next (s.quiet id))
    ∧ (s.seen.isSet P Csr.FRM_STATUS_BUSY = false → s.seen.isSet P Csr.LNK_STATUS_FLIPPING = false →
      ∃ t, exec .lnkFlip s = .next t ∧ t.p.isSet P Csr.LNK_STATUS_FLIPPING = true
        ∧ t.p.field P Csr.LNK_STATUS_PEPOCH = (s.p.field P Csr.LNK_STATUS_PEPOCH + 1) % 2 ∧ t.p.fabric.portFlippedBy = [] ∧ t.mem = s.mem)
    ∧ (∃ t, exec (.ptFlipMsg ld v) s = .next t ∧ t.p.field ld Csr.LNK_STATUS_PEPOCH = v % 2
        ∧ t.p.isSet ld Csr.LNK_STATUS_FLIPPING = true ∧ (t.p.linkDie ld).flipping = true ∧ t.mem = s.mem ∧ t.p.time = s.p.time)
    ∧ (lds ≠ [] → ¬ done → exec .ptOldIdle s = .next (s.quiet id))
    ∧ (done → ∃ t, exec .ptOldIdle s = .next t ∧ (∀ x ∈ linkSites, t.p.isSet x Csr.LNK_STATUS_FLIPPING = false
        ∧ (t.p.linkDie x).flipping = false) ∧ t.p.fabric.portFlippedBy = [] ∧ t.mem = s.mem)
    ∧ ((s.seen.linkDie ld).flipping = false →
      (bitsOf value (16 * e) 16 = bitsOf old (16 * e) 16 →
        exec (.lnkPtWrite ld panel value) s = .next (s.quiet fun p => p.setField ld F kept))
      ∧ (bitsOf value (16 * e) 16 ≠ bitsOf old (16 * e) 16 →
        exec (.lnkPtWrite ld panel value) s = .next (s.quiet fun p => (p.setField ld F kept).raise ld 0x0B0F)))
    ∧ ((s.seen.linkDie ld).flipping = true →
      ∃ t, exec (.lnkPtWrite ld panel value) s = .next t ∧ t.p.field ld F = old ∧ t.mem = s.mem)
    ∧ (s.seen.tack.settings = false → ∀ i, i < 4 →
      let q := 4 * ((ld - 400) / 2) + i
      (s.seen.portCarries q = true → exec (.lnkRerig ld (2 ^ i)) s = .next (s.quiet fun p => p.raisePort q 0x0B0E))
      ∧ (s.seen.portCarries q = false → exec (.lnkRerig ld (2 ^ i)) s = .next (s.quiet fun p => p.rigFromSettings q)))
    ∧ (s.seen.tack.settings = true → ∀ mask, ∃ t, exec (.lnkRerig ld mask) s = .next t
      ∧ t.p.field ld Csr.LNK_PANEL_ID = s.p.tack.panelId % 4096 ∧ t.mem = s.mem ∧ t.p.time = s.p.time))
  ∧ (∀ (s : State) (link lane eye errors : Nat), lane < 32 →
    let q := 4 * ((link - 400) / 2) + lane / 8
    (s.seen.portUp q = false → exec (.laneMarginSample link lane eye errors) s = .next (s.quiet id))
    ∧ (s.seen.portUp q = true → ∃ t, exec (.laneMarginSample link lane eye errors) s = .next t
        ∧ t.p.field link (Csr.LNK_L_MARGIN_EYE lane) = min 0xFFF eye
        ∧ t.p.field link (Csr.LNK_L_MARGIN_ERRORS lane) = min 0xFFFFF errors ∧ t.mem = s.mem ∧ t.p.time = s.p.time)
    ∧ (∀ corrected bad i, i < 4 → ∃ t, exec (.portCountLatch link corrected bad) s = .next t
        ∧ t.p.field link (Csr.LNK_P_TX i) = s.p.tallyOf link (Csr.LNK_P_TX i) ∧ t.p.tallyOf link (Csr.LNK_P_TX i) = 0
        ∧ t.p.field link (Csr.LNK_P_FEC_CORR i) = min 0xFFFFFFFF (nth corrected i 0) % 2 ^ (Csr.LNK_P_FEC_CORR i).width
        ∧ t.p.field link (Csr.LNK_P_FEC_UNCORR i) = min 0xFFFFFFFF (nth bad i 0) % 2 ^ (Csr.LNK_P_FEC_UNCORR i).width ∧ t.mem = s.mem))

/-- FEED_FRAME (R17, R341, R355): on an up feed port a good frame of the window, in sequence, stores its bytes where memory is populated,
is credited with its own number, and signals its units; any other is credited with the number awaited and raises 0x0B0D. A port that
is not an up feed port takes nothing, and words that begin no frame do nothing.

ETH_FRAME and ETH_CONS_POLL (R17, R356, R357): an accepted frame goes into the next slot of its ring, with its length and arrival
time in front, and the producer index advances; a bad one, one of another address or of a length that does not fit only counts; a full ring
drops the frame and counts it in memory; a poll reads the consumer index and changes no memory.

Completes, with its own effect as its conclusion (`exec … = .next …`): `.feedFrame`, `.ethFrame`, `.ethConsPoll`. -/
def Obligations.FeedAndEthernet : Prop := 
  (∀ (s : State) (port : Nat) (ws : List (List Byte)),
    let ld := linkOfPort port
    let i := port % 4
    let win := s.seen.field ld (Csr.LNK_F_WIN_STREAM i)
    let credits (t : State) (seq : Nat) : Prop :=
      ∃ first, .frame port (laneWords first (frameWords (feedBytes { stream := win, seq := seq }))) ∈ t.p.out
    (feedFrameOf ws = none ∨ s.seen.portRole port ≠ 2 ∨ s.seen.portUp port = false →
      exec (.feedFrame port ws) s = .next (s.store fun _ p => p))
    ∧ ∀ f, feedFrameOf ws = some f → s.seen.portRole port = 2 → s.seen.portUp port = true →
      let n := f.data.length
      let a := 1024 * s.seen.field ld (Csr.LNK_F_WIN_BASE i) + f.offset
      let good := f.crcOk = true ∧ s.seen.isSet ld (Csr.LNK_F_WIN_VALID i) = true ∧ f.stream = win
        ∧ f.offset % 64 = 0 ∧ n % 64 = 0 ∧ 64 ≤ n ∧ n ≤ 1024 ∧ f.offset % 1024 + n ≤ 1024
        ∧ f.offset + n ≤ 1024 * s.seen.field ld (Csr.LNK_F_WIN_LENGTH i) ∧ f.seq = (s.seen.port port).feedSeq
      let rows := rowsFrom f.data fun _ => false
      (good → ∃ t, exec (.feedFrame port ws) s = .next t
          ∧ t.mem = s.mem.apply (((granulePieces (rows.length + 1) a rows).filter fun x => s.seen.populated x.1).flatMap
              fun x => x.2.zipIdx.map fun y => { addr := x.1 + 64 * y.2, data := y.1.data, rows := 1, fox := some y.1.fox })
          ∧ (t.p.port port).feedSeq = (f.seq + 1) % 2 ^ 32 ∧ credits t f.seq ∧ t.p.time = s.p.time
          ∧ (let home := s.seen.field ld (Csr.LNK_F_WIN_SIG_HOME i)
            s.seen.isSet ld (Csr.LNK_F_WIN_SIG_EN i) = true → ld ≠ home →
            .sadd (512 + s.seen.portOwner port) home (s.seen.field ld (Csr.LNK_F_WIN_SIG_IDX i)) (n / 64) ∈ t.p.net))
      ∧ (¬ good → ∃ t, exec (.feedFrame port ws) s = .next t ∧ t.mem = s.mem
          ∧ (t.p.port port).feedSeq = (s.p.port port).feedSeq ∧ t.p.field ld Csr.LNK_FAULT = 0x0B0D
          ∧ credits t (s.p.port port).feedSeq))
  ∧ (∀ (s : State) (port iface : Nat) (data : List Byte),
    let ld := linkOfPort port
    let i := port % 4
    let base := s.seen.ringBase ld i iface
    let size := s.seen.slotSize ld i iface
    let slots := s.seen.acting ld (Csr.LNK_E_RING_SLOTS i iface)
    let prod := s.mem.nat base 4
    let used := (prod + 2 ^ 32 - SMap.get (fun _ => 0) (s.seen.port port).cons iface) % 2 ^ 32
    let serves := s.seen.portRole port = 3 ∧ iface < s.seen.ethIfaces port ∧ s.seen.isSet ld (Csr.LNK_E_RING_VALID i iface) = true
    let fits := s.seen.ethAccepts ld i data = true ∧ 64 ≤ data.length + 4 ∧ data.length + 4 ≤ size - 16
    let counted (p : Panel) : Panel := p.tally ld (Csr.LNK_P_RX i) 1
    let slot := base + 64 + size * (prod % slots)
    let rows := rowsFrom (leBytes 2 data.length ++ leBytes 2 0 ++ leBytes 8 s.p.now ++ leBytes 4 0 ++ data) fun _ => false
    (¬ serves ∨ s.seen.portUp port = false → ∀ ok, exec (.ethFrame port iface data ok) s = .next (s.store fun _ p => p))
    ∧ (serves → s.seen.portUp port = true →
      exec (.ethFrame port iface data false) s = .next (s.store fun _ p => (counted p).tally ld (Csr.LNK_P_CRC i) 1)
      ∧ (¬ fits → exec (.ethFrame port iface data true) s = .next (s.store fun _ p => counted p))
      ∧ (fits → s.seen.populated base = false →
        exec (.ethFrame port iface data true) s = .next (s.store fun _ p => (counted p).raisePort port 0x0B0C))
      ∧ (fits → s.seen.populated base = true → slots ≤ used →
        ∃ t, exec (.ethFrame port iface data true) s = .next t ∧ t.p.time = s.p.time
          ∧ t.mem = s.mem.apply [{ addr := base + 8, data := leBytes 4 (s.mem.nat (base + 8) 4 + 1), fox := none }])
      ∧ (fits → s.seen.populated base = true → used < slots →
        ∃ t, exec (.ethFrame port iface data true) s = .next t ∧ t.p.time = s.p.time
          ∧ t.mem = s.mem.apply ((((granulePieces (rows.length + 1) slot rows).filter fun x => s.seen.populated x.1).flatMap
              fun x => x.2.zipIdx.map fun y => { addr := x.1 + 64 * y.2, data := y.1.data, rows := 1, fox := some y.1.fox })
              ++ [{ addr := base, data := leBytes 4 (prod + 1), fox := none }])))
    ∧ (¬ serves → exec (.ethConsPoll port iface) s = .next (s.reads fun _ p => p))
    ∧ (serves → ∃ t, exec (.ethConsPoll port iface) s = .next t ∧ t.mem = s.mem ∧ t.p.csr = s.p.csr
        ∧ SMap.get (fun _ => 0) (t.p.port port).cons iface = s.mem.nat (base + 4) 4))

/-- STREAM_COPY_STORED, SETOFF_COPY_ACK, SETMARK_NOTICE, SHEET_END_REPORT, SETOFF_RECEIVE and SETOFF_RESYNC (R285 to R289, R344, R345): a
copy enters the retry store of its context when that has room, and frees its write-buffer entry or acknowledges its write; a notice waits
for the copies before it, then reports the sheet's end on every context; a mark is stored when every memory die has reported; a received
copy is written into a shard that accepts its context, or refused with 0x0822; an unmirrored shard is copied anew.

Completes, with its own effect as its conclusion (`exec … = .next …`): `.setoffCopyAck`, `.setmarkNotice`, `.sheetEndReport`,
`.setoffReceive`, `.setoffResync`, `.streamCopyStored`. -/
def Obligations.SetoffCommands : Prop := ∀ (s : State) (md region sheet ctx a shard : Nat) (rows : List Delivered),
  let room (n : Nat) : Prop := s.seen.ctxSends ctx = true ∧ (s.seen.ctx ctx).store.length < 1024
    ∧ s.seen.storeUse (linkOfCtx ctx) + 32 + 64 * n ≤ 0x800000
  let full := s.seen.ctxSends ctx = false ∨ 1024 ≤ (s.seen.ctx ctx).store.length
  let stored (t : State) (rows : List Delivered) : Prop := ∃ x, (t.p.ctx ctx).store = (s.p.ctx ctx).store ++ [x] ∧ x.rows = rows
    ∧ x.psn = s.p.ctxField ctx Csr.LNK_CTX_NEXT_PSN
  ((∀ m ∈ s.p.net, ∀ a r k, m ≠ .streamCopy md ctx a r k) → exec (.streamCopyStored md ctx) s = .next (s.quiet id))
  ∧ (∀ l r k, s.p.net = l ++ .streamCopy md ctx a rows k :: r → (∀ m ∈ l, ∀ a r k, m ≠ .streamCopy md ctx a r k) →
    (full → exec (.streamCopyStored md ctx) s = .next (s.quiet id))
    ∧ (room rows.length → ∃ t, exec (.streamCopyStored md ctx) s = .next t ∧ stored t rows ∧ t.mem = s.mem
      ∧ (k.site < siteCount → .gwrAck k ∈ t.p.net)))
  ∧ (s.seen.nextCopy md ctx = none → exec (.setoffCopyAck md ctx) s = .next (s.reads fun _ p => p))
  ∧ (∀ h b c, s.seen.nextCopy md ctx = some (h, b, c) →
    (full → exec (.setoffCopyAck md ctx) s = .next (s.reads fun _ p => p))
    ∧ (room (c.getD (granuleRows s.mem b)).length → ∃ t, exec (.setoffCopyAck md ctx) s = .next t
      ∧ stored t (c.getD (granuleRows s.mem b)) ∧ t.mem = s.mem
      ∧ (c.isSome = true → (t.p.memDie md).copies = (s.p.memDie md).copies.erase ⟨h, ctx, b⟩)))
  ∧ (∃ t, exec (.setmarkNotice md region sheet) s = .next t ∧ t.p.csr = s.p.csr ∧ t.mem = s.mem ∧ t.p.time = s.p.time
      ∧ (∀ n ∈ (t.p.memDie md).notices, n.waits ≠ [])
      ∧ (s.seen.copiesOut md = [] → ∀ h ∈ s.seen.sendShards region, .sheetEnd md h.ctx sheet ∈ t.p.net))
  ∧ ((∃ k ∈ memDieSites, s.seen.memGood k = true ∧ k ≠ md ∧ (sheet, k) ∉ (s.p.ctx ctx).reports) →
    ∃ t, exec (.sheetEndReport md ctx sheet) s = .next t ∧ (sheet, md) ∈ (t.p.ctx ctx).reports
      ∧ t.p.csr = s.p.csr ∧ t.mem = s.mem)
  ∧ ((∀ k ∈ memDieSites, s.seen.memGood k = true → k = md ∨ (sheet, k) ∈ (s.p.ctx ctx).reports) → room 0 →
    ∃ t x, exec (.sheetEndReport md ctx sheet) s = .next t ∧ (t.p.ctx ctx).store = (s.p.ctx ctx).store ++ [x]
      ∧ x.mark = some sheet ∧ (∀ r ∈ (t.p.ctx ctx).reports, r.1 ≠ sheet) ∧ t.mem = s.mem)
  ∧ (∀ psn, (∀ m ∈ s.p.net, ∀ a r g, m ≠ .setoffIn ctx psn a r g) → exec (.setoffReceive ctx psn) s = .next (s.store fun _ p => p))
  ∧ (∀ psn l r g, s.p.net = l ++ .setoffIn ctx psn a rows g :: r → (∀ m ∈ l, ∀ a r g, m ≠ .setoffIn ctx psn a r g) →
    let accepts := ∃ h ∈ s.p.fabric.shards, h.send = false ∧ h.accept.contains ctx = true ∧ 1024 * h.base ≤ a
      ∧ a + 64 * rows.length ≤ 1024 * (h.base + h.limit)
    (accepts → s.seen.populated a = true → ∃ t, exec (.setoffReceive ctx psn) s = .next t ∧ t.p.time = s.p.time
      ∧ t.mem = s.mem.apply (rows.zipIdx.map fun x => { addr := a + 64 * x.2, data := x.1.data, rows := 1, fox := some x.1.fox }))
    ∧ (¬ accepts ∨ s.seen.populated a = false → ∃ t, exec (.setoffReceive ctx psn) s = .next t ∧ t.mem = s.mem
      ∧ t.p.field (if isLpddr a then memSite a else s.p.primary) Csr.GAL_FAULT = 0x0822))
  ∧ (bitOf (s.seen.field sitePD Csr.GAL_SO_UNMIRRORED) shard = false
      ∨ (s.p.fabric.shards.find? fun h => h.send && !h.stream && h.shard = shard) = none →
    exec (.setoffResync shard) s = .next (s.quiet id))
  ∧ (∀ h, bitOf (s.seen.field sitePD Csr.GAL_SO_UNMIRRORED) shard = true →
      (s.p.fabric.shards.find? fun h => h.send && !h.stream && h.shard = shard) = some h →
    ∃ t, exec (.setoffResync shard) s = .next t ∧ (shard, none) ∈ t.p.fabric.resync ∧ t.mem = s.mem ∧ t.p.csr = s.p.csr
      ∧ (∀ md ∈ memDieSites, shard ∉ (t.p.memDie md).stopped)
      ∧ (∀ g, g < h.limit → s.seen.populated (1024 * (h.base + g)) = true →
          .resync (memSite (1024 * (h.base + g))) h.ctx shard (1024 * (h.base + g)) ∈ t.p.net))

/-- The 34 slot operations (R111, R113, R125, R133, R414): a stalled sequencer takes no further line; a line whose word is malformed
raises 0x0220; an operation that holds, waits or would overdraw its tokens stalls the line; one that fails its checks raises its
code; any other has its own effect, planned from the state it finds, and nothing more.

What each of the 34 slot operations does as it issues (R120 to R124, R128 to R131, R137, R175, R222, R248, R251, R270, R294): a
load fills its bank, an engine's operation, a mover's and a unit's of slot 12 are under way under the next number, a PUT or TSEND waits to
leave, a window opens or closes, a galley's request is issued, a mesh row goes or is read, a sync wait moves its cursor, and the sequencer
ends, launches, loads or jumps. A passed wait leaves registers and memory.

Completes, with its own effect as its conclusion (`exec … = .next …`): `.ends`, `.launch`, `.page`, `.jumpp`, `.waitl`,
`.swait`, `.swaitb`, `.swaitw`, `.wload`, `.stream`, `.drain`, `.ainit`, `.sload`, `.sstream`, `.sdrain`, `.sainit`, `.gate`,
`.just`, `.merge`, `.copy`, `.zero`, `.store`, `.cstore`, `.put`, `.wopen`, `.wclose`, `.gread`, `.gwrite`, `.gwait`,
`.gdrain`, `.msend`, `.mrecv`, `.tsend`. -/
def Obligations.SlotOperationsIssue : Prop := 
  (∀ (s : State) (site : Nat),
    let issues (c : Instr) (k op : Nat) (w : BitVec 58) (x : Option (BitVec 54)) : Prop :=
      let word := slotWordOf op w
      let plan := s.seen.planSlot s.mem site k word (x.map BitVec.toNat)
      let o : SlotOp := (k, word, plan)
      let l := oneSlot k op w x
      let allow := s.seen.field site Csr.DRW_TOK_ALLOW_EFFECTIVE
      let sum := s.seen.charge site + (s.seen.seq site).tokens.sum
      ((s.seen.seq site).stalled.isSome = true → exec c s = .next (s.store fun _ p => p))
      ∧ ((s.seen.seq site).stalled.isSome = false →
        (lineOk l = false → exec c s = .next (s.store fun _ p => p.seqFault site 0x0220))
        ∧ (lineOk l = true →
          (∀ code, plan.code = some code → s.seen.lineHold site [] false 0 = (0, []) → sum ≤ allow →
            exec c s = .next (s.store fun _ p => p.raiseSlot site k word code))
          ∧ (plan.code = none →
            ((s.seen.lineHold site [o] false 0).1 ≠ 0 →
              exec c s = .next (s.store fun _ p =>
                p.beginHold site l false (s.seen.lineHold site [o] false 0).1 (s.seen.lineHold site [o] false 0).2))
            ∧ ((s.seen.lineHold site [o] false 0).1 = 0 →
              (s.seen.slotWait site k word ≠ 0 →
                exec c s = .next (s.store fun _ p => p.beginWait site l false (s.seen.slotWait site k word)))
              ∧ (s.seen.slotWait site k word = 0 →
                (allow < sum + newCharge [o] → exec c s = .next (s.store fun _ p => p.overdraw site l false))
                ∧ (sum + newCharge [o] ≤ allow → exec c s = .next (s.store fun _ p => p.actSlot site o)))))))
    ∀ (cl : Nat) (w : BitVec 58) (x : Option (BitVec 54)),
      issues (.wload site cl w x) (cl % 4) 1 w x ∧ issues (.stream site cl w x) (cl % 4) 2 w x
      ∧ issues (.drain site cl w) (cl % 4) 3 w none ∧ issues (.ainit site cl w) (cl % 4) 4 w none
      ∧ issues (.sload site cl w x) (4 + cl % 4) 1 w x ∧ issues (.sstream site cl w x) (4 + cl % 4) 2 w x
      ∧ issues (.sdrain site cl w) (4 + cl % 4) 3 w none ∧ issues (.sainit site cl w) (4 + cl % 4) 4 w none
      ∧ issues (.copy site cl w) (8 + cl % 4) 1 w none ∧ issues (.zero site cl w) (8 + cl % 4) 2 w none
      ∧ issues (.store site cl w x) (8 + cl % 4) 3 w x ∧ issues (.cstore site cl w) (8 + cl % 4) 4 w none
      ∧ issues (.put site cl w x) (8 + cl % 4) 5 w x ∧ issues (.wopen site cl w) (8 + cl % 4) 6 w none
      ∧ issues (.wclose site cl w) (8 + cl % 4) 7 w none ∧ issues (.gread site cl w) (8 + cl % 4) 0x10 w none
      ∧ issues (.gwrite site cl w) (8 + cl % 4) 0x11 w none ∧ issues (.gwait site cl w) (8 + cl % 4) 0x12 w none
      ∧ issues (.gdrain site cl w) (8 + cl % 4) 0x13 w none ∧ issues (.msend site cl w) (8 + cl % 4) 0x20 w none
      ∧ issues (.mrecv site cl w) (8 + cl % 4) 0x21 w none ∧ issues (.tsend site cl w) (8 + cl % 4) 0x22 w none
      ∧ issues (.gate site w x) 12 1 w x ∧ issues (.just site w) 12 2 w none ∧ issues (.merge site w) 12 3 w none
      ∧ issues (.swait site w) 13 3 w none ∧ issues (.swaitb site w) 13 4 w none ∧ issues (.swaitw site w) 13 6 w none
      ∧ issues (.ends site w) 14 1 w none ∧ issues (.launch site w) 14 2 w none ∧ issues (.page site w) 14 3 w none
      ∧ issues (.jumpp site w) 14 4 w none ∧ issues (.waitl site w) 14 5 w none)
  ∧ (∀ (s : State) (site cl : Nat) (w : BitVec 58) (x : Option (BitVec 54)),
    let c := cl % 4
    let id := (s.seen.seq site).nextOp
    let acts (i : Instr) (k op : Nat) (x : Option (BitVec 54)) (post : Nat → State → Prop) : Prop :=
      let word := slotWordOf op w
      let plan := s.seen.planSlot s.mem site k word (x.map BitVec.toNat)
      let o : SlotOp := (k, word, plan)
      (s.seen.seq site).stalled = none → lineOk (oneSlot k op w x) = true → plan.code = none →
      (s.seen.lineHold site [o] false 0).1 = 0 → s.seen.slotWait site k word = 0 →
      s.seen.charge site + (s.seen.seq site).tokens.sum + newCharge [o] ≤ s.seen.field site Csr.DRW_TOK_ALLOW_EFFECTIVE →
      ∃ t, exec i s = .next t ∧ t.p.time = s.p.time ∧ post word t
    let loads (e : Nat) (b : Nat) (t : State) : Prop := b < (s.seen.engine site c e).banks.length →
      ((t.p.engine site c e).bank b).loading = true ∧ ∃ o ∈ (t.p.engine site c e).ops, o.id = id ∧ o.kind = .load
    let runs (e : Nat) (k : EngineKind) (t : State) : Prop := ∃ o ∈ (t.p.engine site c e).ops, o.id = id ∧ o.kind = k
    let moves (t : State) : Prop := ∃ o ∈ (t.p.mover site c).ops, o.id = id
    let twelve (u : Nat) (t : State) : Prop := ∃ o ∈ t.p.slot12Ops site, o.id = id ∧ o.unit = u
    let cursor (word : Nat) (t : State) : Prop :=
      let F := Csr.STK_SYNC_CUR (bitsOf word 50 8)
      t.p.field site F = effTarget (bitOf word 32) (s.p.field site F) (bitsOf word 0 32) % 2 ^ 32
    let nothing (_ : Nat) (t : State) : Prop := t.p.csr = s.p.csr ∧ t.mem = s.mem
    let galley (word : Nat) : Nat := galIndex c (bitsOf word 56 2)
    let issued (word : Nat) (t : State) : Prop := t.p.field site (Csr.GAL_G_ISSUED (galley word))
      = (s.p.field site (Csr.GAL_G_ISSUED (galley word)) + 1) % 2 ^ 32
    let counts (F : Fld) (_ : Nat) (t : State) : Prop := t.p.tallyOf site F = min (2 ^ F.width - 1) (s.p.tallyOf site F + 1)
    acts (.wload site cl w x) c 1 x (fun word => loads 0 (wloadArgs word ((x.map BitVec.toNat).getD 0)).bank)
    ∧ acts (.stream site cl w x) c 2 x (fun _ => runs 0 .stream) ∧ acts (.drain site cl w) c 3 none (fun _ => runs 0 .drain)
    ∧ acts (.ainit site cl w) c 4 none (fun _ => runs 0 .init)
    ∧ acts (.sload site cl w x) (4 + c) 1 x (fun word => loads 1 (sloadArgs word ((x.map BitVec.toNat).getD 0)).bank)
    ∧ acts (.sstream site cl w x) (4 + c) 2 x (fun _ => runs 1 .stream) ∧ acts (.sdrain site cl w) (4 + c) 3 none (fun _ => runs 1 .drain)
    ∧ acts (.sainit site cl w) (4 + c) 4 none (fun _ => runs 1 .init)
    ∧ acts (.copy site cl w) (8 + c) 1 none (fun _ => moves) ∧ acts (.store site cl w x) (8 + c) 3 x (fun _ => moves)
    ∧ acts (.cstore site cl w) (8 + c) 4 none (fun _ => moves)
    ∧ acts (.zero site cl w) (8 + c) 2 none (fun word t => ∃ o ∈ (t.p.mover site c).ops, o.id = id
        ∧ o.writes = [(bitsOf word 37 21, List.replicate (bitsOf word 21 16 + 1) ⟨List.replicate 64 0, false⟩)])
    ∧ acts (.put site cl w x) (8 + c) 5 x (fun word t => ∃ q ∈ (t.p.mover site c).outbound, q.id = id ∧ q.src = bitsOf word 37 21
        ∧ q.dst = bitsOf word 16 21 ∧ q.site = homeOf site (bitsOf word 7 9) ∧ q.cluster = bitsOf word 5 2)
    ∧ acts (.tsend site cl w) (8 + c) 0x22 none (fun word t => ∃ q ∈ (t.p.mover site c).outbound, q.id = id
        ∧ q.trace = bitsOf word 50 8 ∧ q.src = bitsOf word 29 21 ∧ q.len = bitsOf word 4 4 + 1)
    ∧ acts (.wopen site cl w) (8 + c) 6 none (fun word t => t.p.isSet site (Csr.SPR_WSTATE_OPEN c (bitsOf word 53 5)) = true
        ∧ t.p.field site (Csr.SPR_WSTATE_LANDED c (bitsOf word 53 5)) = 0 ∧ t.mem = s.mem)
    ∧ acts (.wclose site cl w) (8 + c) 7 none (fun word t => t.p.isSet site (Csr.SPR_WSTATE_OPEN c (bitsOf word 53 5)) = false
        ∧ t.mem = s.mem)
    ∧ acts (.gread site cl w) (8 + c) 0x10 none issued ∧ acts (.gwrite site cl w) (8 + c) 0x11 none issued
    ∧ acts (.gwait site cl w) (8 + c) 0x12 none (fun word t => t.mem = s.mem ∧
        t.p.field site (Csr.GAL_G_CURSOR (galley word)) = s.seen.gwaitTarget site c word % 2 ^ 32)
    ∧ acts (.gdrain site cl w) (8 + c) 0x13 none nothing
    ∧ acts (.msend site cl w) (8 + c) 0x20 none (counts Csr.FAB_MESH_LAST_SENT)
    ∧ acts (.mrecv site cl w) (8 + c) 0x21 none (counts Csr.FAB_MESH_LAST_READ)
    ∧ acts (.gate site w x) 12 1 x (fun _ => twelve 0) ∧ acts (.just site w) 12 2 none (fun _ => twelve 1)
    ∧ acts (.merge site w) 12 3 none (fun _ => twelve 2)
    ∧ acts (.swait site w) 13 3 none cursor ∧ acts (.swaitb site w) 13 4 none cursor
    ∧ acts (.swaitw site w) 13 6 none (fun word t =>
        bitOf (t.p.field site Csr.STK_SYNC_WSTATE_READY) (bitsOf word 54 4) = false ∧ t.mem = s.mem)
    ∧ acts (.ends site w) 14 1 none (fun word t => (t.p.seq site).ended = true ∧ (t.p.seq site).nextEntry = bitsOf word 53 4
        ∧ t.p.isSet site Csr.STK_SEQ_STATUS_ISSUING = false ∧ t.mem = s.mem)
    ∧ acts (.launch site w) 14 2 none (fun word t => let h : ThreadId := ⟨site, bitsOf word 56 2, bitsOf word 53 3, bitsOf word 51 2⟩
        t.p.threadRuns h = true ∧ (t.p.thread h).pc = bitsOf word 37 14 ∧ (t.p.thread h).stopped = false
        ∧ ((t.p.thread h).reg 1).1 = BitVec.ofNat 32 (bitsOf word 0 32) ∧ t.mem = s.mem)
    ∧ acts (.page site w) 14 3 none (fun word t => bitsOf word 57 1 < (s.seen.seq site).loading.length →
        nth (t.p.seq site).loading (bitsOf word 57 1) false = true ∧ nth (t.p.seq site).complete (bitsOf word 57 1) false = false)
    ∧ acts (.jumpp site w) 14 4 none (fun word t => (t.p.seq site).half = bitsOf word 57 1 ∧ (t.p.seq site).pos = bitsOf word 43 14
        ∧ t.mem = s.mem)
    ∧ acts (.waitl site w) 14 5 none nothing)

/-- ENDS, JUMPP, SWAIT and PAGE (R120, R124, R128): what the operations of the sequencer leave when they issue: the stream ends with
its next entry, and inside an open loop ENDS and JUMPP raise 0x0226 instead.

XIMM, MARK and an empty slot (R111, R112, R125): an XIMM alone has no operation to serve, MARK records its tag with the
cycle and the die's panel time in a ring where tracing is on and else does nothing, and an empty slot does nothing.

Completes, with its own effect as its conclusion (`exec … = .next …`): `.slotNop`, `.ends`, `.jumpp`, `.ximm`, `.mark`,
`.swait`. -/
def Obligations.SequencerOperations : Prop := 
  (∀ (s : State) (site : Nat) (w : BitVec 58),
    (s.seen.seq site).stalled.isSome = false → s.seen.lineHold site [] false 0 = (0, []) →
    s.seen.charge site + (s.seen.seq site).tokens.sum ≤ s.seen.field site Csr.DRW_TOK_ALLOW_EFFECTIVE →
    (lineOk (oneSlot 14 1 w none) = true → (s.seen.seq site).loops = [] →
      ∃ t, exec (.ends site w) s = .next t ∧ t.p.isSet site Csr.STK_SEQ_STATUS_ISSUING = false
        ∧ (t.p.seq site).ended = true ∧ (t.p.seq site).nextEntry = bitsOf w.toNat 53 4
        ∧ t.mem = s.mem ∧ t.p.time = s.p.time)
    ∧ (lineOk (oneSlot 14 1 w none) = true → (s.seen.seq site).loops ≠ [] →
      exec (.ends site w) s = .next (s.store fun _ p => p.seqFault site 0x0226))
    ∧ (lineOk (oneSlot 14 4 w none) = true → (s.seen.seq site).loops ≠ [] →
      exec (.jumpp site w) s = .next (s.store fun _ p => p.seqFault site 0x0226))
    ∧ (lineOk (oneSlot 13 3 w none) = true → s.seen.syncPassed site (slotWordOf 3 w) = true →
      ∃ t, exec (.swait site w) s = .next t
        ∧ t.p.field site (Csr.STK_SYNC_CUR (bitsOf w.toNat 50 8))
            = effTarget (bitOf w.toNat 32) (s.p.field site (Csr.STK_SYNC_CUR (bitsOf w.toNat 50 8))) (bitsOf w.toNat 0 32) % 2 ^ 32
        ∧ t.mem = s.mem ∧ t.p.time = s.p.time))
  ∧ (∀ (s : State) (site slot : Nat) (w : BitVec 58) (v : BitVec 54),
    exec (.slotNop site slot) s = .next (s.quiet id)
    ∧ ((s.seen.seq site).stalled.isSome = true →
      exec (.ximm site slot v) s = .next (s.store fun _ p => p) ∧ exec (.mark site w) s = .next (s.store fun _ p => p))
    ∧ ((s.seen.seq site).stalled.isSome = false →
      ∃ t, exec (.ximm site slot v) s = .next t ∧ t.mem = s.mem ∧ t.p.net = s.p.net ∧ t.p.time = s.p.time)
    ∧ ((s.seen.seq site).stalled.isSome = false → lineOk (oneSlot 15 2 w none) = true → s.seen.lineHold site [] false 0 = (0, []) →
      s.seen.charge site + (s.seen.seq site).tokens.sum ≤ s.seen.field site Csr.DRW_TOK_ALLOW_EFFECTIVE →
      (s.seen.isSet site Csr.STK_SEQ_CTRL_TRACE = true →
        exec (.mark site w) s = .next (s.store fun _ p => p.modSeq site fun q =>
          let entry := (bitsOf w.toNat 0 32, p.field site Csr.STK_SEQ_POS_CYCLE, p.dieStamp site)
          { q with trace := (entry :: q.trace).take Config.traceDepth }))
      ∧ (s.seen.isSet site Csr.STK_SEQ_CTRL_TRACE = false → exec (.mark site w) s = .next (s.store fun _ p => p))))

/-- LINE_ISSUE, QUAD, LOOP_BEGIN and LOOP_END (R113, R115, R118, R243): each acts on the record at the position of a sequencer that
runs, and only on one of its own kind; a malformed record raises its code in the position's place.

SCHEDULE_LENGTH_REACHED and PAGE_LOAD_COMPLETE (R114, R121): a stream that still issues at the schedule's length raises 0x0225;
a half whose page reads are all done is complete and no longer loading.

Completes, with its own effect as its conclusion (`exec … = .next …`): `.lineIssue`, `.quad`, `.loopBegin`, `.loopEnd`,
`.scheduleLengthReached`, `.pageLoadComplete`. -/
def Obligations.RecordsIssue : Prop := 
  (∀ (s : State) (site late : Nat),
    (s.seen.seqRuns site = false →
      exec (.lineIssue site late) s = .next (s.store fun _ p => p) ∧ exec (.loopBegin site) s = .next (s.store fun _ p => p)
      ∧ exec (.loopEnd site) s = .next (s.store fun _ p => p))
    ∧ (s.seen.seqRuns site = true →
      (∀ code, s.seen.nextRecord site = .bad code →
        let t : Host.Outcome State Fault Refusal :=
          .next (s.store fun _ p => (p.takeRecord site (p.seq site).pos).seqFault site code)
        exec (.lineIssue site late) s = t ∧ exec (.loopBegin site) s = t ∧ exec (.loopEnd site) s = t ∧ exec (.quad site late) s = t)
      ∧ (∀ l next, s.seen.nextRecord site = .line l next →
        exec (.lineIssue site late) s = .next (s.store fun m p =>
          ((p.takeRecord site next).bodyLine site).issueLine m site l true late)
        ∧ exec (.loopBegin site) s = .next (s.store fun _ p => p) ∧ exec (.loopEnd site) s = .next (s.store fun _ p => p)
        ∧ exec (.quad site late) s = .next (s.store fun _ p => p))
      ∧ (∀ n, s.seen.nextRecord site = .quad n →
        exec (.quad site late) s = .next (s.store fun m p =>
          ((p.takeRecord site ((p.seq site).pos + 1)).bodyLine site).runQuad m site late n))
      ∧ (∀ d n, s.seen.nextRecord site = .loopBegin d n →
        (d ≠ (s.seen.seq site).loops.length ∨ n = 0 →
          exec (.loopBegin site) s = .next (s.store fun _ p => (p.takeRecord site ((p.seq site).pos + 1)).seqFault site 0x0226))
        ∧ (d = (s.seen.seq site).loops.length → n ≠ 0 →
          exec (.loopBegin site) s = .next (s.store fun m p =>
            ((p.takeRecord site ((p.seq site).pos + 1)).modSeq site fun q =>
              { q with loops := ((p.seq site).pos, (p.seq site).half, n) :: q.loops, bodyHasLine := false }).markerCycle m site)))
      ∧ (∀ d, s.seen.nextRecord site = .loopEnd d → (s.seen.seq site).loops = [] →
        exec (.loopEnd site) s = .next (s.store fun _ p => (p.takeRecord site ((p.seq site).pos + 1)).seqFault site 0x0226))
      ∧ (∀ d body left outer, s.seen.nextRecord site = .loopEnd d →
        (s.seen.seq site).loops = (body, (s.seen.seq site).half, left) :: outer →
        d = outer.length → (s.seen.seq site).bodyHasLine = true → left ≤ 1 →
        exec (.loopEnd site) s = .next (s.store fun m p =>
          ((p.takeRecord site ((p.seq site).pos + 1)).modSeq site fun q => { q with loops := outer }).markerCycle m site))
      ∧ (∀ d body left outer, s.seen.nextRecord site = .loopEnd d →
        (s.seen.seq site).loops = (body, (s.seen.seq site).half, left) :: outer →
        d = outer.length → (s.seen.seq site).bodyHasLine = true → 1 < left →
        let q := s.seen.takeRecord site ((s.seen.seq site).pos + 1)
        (∀ code, q.enterCode site (s.seen.seq site).half none = some code →
          exec (.loopEnd site) s = .next (s.store fun _ _ => q.seqFault site code))
        ∧ (q.enterCode site (s.seen.seq site).half none = none → exec (.loopEnd site) s = .next (s.store fun m _ =>
          (q.modSeq site fun x => { x with pos := body, loops := (body, (s.seen.seq site).half, left - 1) :: outer }).markerCycle
            m site))))
    ∧ ((s.seen.seq site).stalled.isSome = true ∨ s.seen.isSet site Csr.STK_SEQ_STATUS_ISSUING = false →
      exec (.quad site late) s = .next (s.store fun _ p => p))
    ∧ ((s.seen.seq site).stalled = none → s.seen.isSet site Csr.STK_SEQ_STATUS_ISSUING = true → (s.seen.seq site).quadLeft ≠ 0 →
      exec (.quad site late) s = .next (s.store fun m p => p.runQuad m site late (s.seen.seq site).quadLeft)))
  ∧ (∀ (s : State) (site half : Nat),
    (s.seen.regionOf site = none → exec (.scheduleLengthReached site) s = .next (s.quiet id))
    ∧ (∀ r, s.seen.regionOf site = some r →
      (s.seen.isSet site Csr.STK_SEQ_STATUS_ISSUING = true → (s.seen.seq site).ended = false →
        s.seen.field sitePD (Csr.STK_R_SCHED_LEN r) ≤ s.seen.field site Csr.STK_SEQ_POS_CYCLE →
        exec (.scheduleLengthReached site) s = .next (s.quiet fun p => p.seqFault site 0x0225))
      ∧ (s.seen.isSet site Csr.STK_SEQ_STATUS_ISSUING = false ∨ (s.seen.seq site).ended = true
          ∨ s.seen.field site Csr.STK_SEQ_POS_CYCLE < s.seen.field sitePD (Csr.STK_R_SCHED_LEN r) →
        exec (.scheduleLengthReached site) s = .next (s.quiet id)))
    ∧ (nth (s.seen.seq site).loading half false = true → nth (s.seen.seq site).readsLeft half 0 = 0 →
        half < (s.seen.seq site).loading.length → half < (s.seen.seq site).complete.length →
      ∃ t, exec (.pageLoadComplete site half) s = .next t ∧ nth (t.p.seq site).loading half true = false
        ∧ nth (t.p.seq site).complete half false = true ∧ (t.p.seq site).pos = (s.p.seq site).pos
        ∧ t.mem = s.mem ∧ t.p.time = s.p.time)
    ∧ (nth (s.seen.seq site).loading half false = false ∨ nth (s.seen.seq site).readsLeft half 0 ≠ 0 →
      exec (.pageLoadComplete site half) s = .next (s.quiet id)))

/-- WAIT_PASS, HOLD_END, HOLD_TIMEOUT, OVERDRAW_RETRY, SWAITB_BOUND_EXPIRED and SYNC_WAIT_TIMEOUT (R61, R81, R83, R133, R134, R243, R255,
R269, R414): a stalled line is tried again when its wait or the last cause of its hold has passed, its cycles counted; a hold whose causes
are not all over goes on under those that are left; its limits raise their codes, a hold's for each resource that keeps it; with no line
stalled each leaves the panel as it is.

Completes, with its own effect as its conclusion (`exec … = .next …`): `.holdEnd`, `.holdTimeout`, `.waitPass`,
`.swaitbBoundExpired`, `.syncWaitTimeout`, `.overdrawRetry`. -/
def Obligations.StalledLinesResume : Prop := ∀ (s : State) (site cycles late : Nat),
  let q := s.seen.seq site
  (q.stalled = none →
    exec (.waitPass site cycles) s = .next (s.store fun _ p => p) ∧ exec (.holdEnd site cycles late) s = .next (s.store fun _ p => p)
    ∧ exec (.overdrawRetry site) s = .next (s.store fun _ p => p) ∧ exec (.swaitbBoundExpired site) s = .next (s.quiet id)
    ∧ exec (.syncWaitTimeout site) s = .next (s.quiet id))
  ∧ (q.held = false → exec (.holdTimeout site) s = .next (s.quiet id))
  ∧ (q.held = true → exec (.holdTimeout site) s = .next (s.quiet fun p =>
      let p := if q.holdCause = 1 then p.raise site 0x0301 else p
      let p := if q.holdCause = 2 then p.raise site 0x0302 else p
      let p := if q.holdBy.any (· < 8) = true then p.raise site 0x0704 else p
      if q.holdBy.any (16 ≤ ·) = true then p.raise site 0x0803 else p))
  ∧ (∀ l, q.stalled = some l →
    (q.holdCause = 6 →
      exec (.overdrawRetry site) s = .next (s.store fun m p => (p.period site 0).retryLine m site l))
    ∧ (q.holdCause = 0 → s.seen.lineWait site (goodOps (s.seen.slotOps s.mem site l)) ≠ 0 →
      exec (.waitPass site cycles) s = .next (s.store fun _ p => p))
    ∧ (q.holdCause = 0 → s.seen.lineWait site (goodOps (s.seen.slotOps s.mem site l)) = 0 →
      exec (.waitPass site cycles) s = .next (s.store fun m p =>
        (((p.modSeq site fun q => { q with waitCycles := q.waitCycles + cycles, thisWait := cycles }).idlePeriods site
          cycles).periodsPass site cycles).retryLine m site l))
    ∧ (q.held = true →
      let p := s.seen.countHold site cycles
      let still := p.lineHold site (goodOps (p.slotOps s.mem site l)) q.stalledRecord late
      (still.1 = 0 → exec (.holdEnd site cycles late) s = .next (s.store fun m _ => p.retryLine m site l))
      ∧ (still.1 ≠ 0 → exec (.holdEnd site cycles late) s = .next (s.store fun _ _ =>
          p.modSeq site fun q => { q with holdCause := still.1, holdBy := still.2 })))
    ∧ (q.holdCause = 0 → slotOp (slotWord l 13) = 4 → s.seen.syncPassed site (slotWord l 13) = false →
      let n := bitsOf (slotWord l 13) 34 16
      exec (.swaitbBoundExpired site) s = .next (s.quiet fun p =>
        ((((p.modSeq site fun q => { q with waitCycles := q.waitCycles + n, thisWait := n }).idlePeriods site n).periodsPass site
          n).unstall site).seqFault site 0x0228))
    ∧ (slotOp (slotWord l 13) = 3 ∨ slotOp (slotWord l 13) = 6 → s.seen.syncPassed site (slotWord l 13) = false →
      exec (.syncWaitTimeout site) s = .next (s.quiet fun p => p.seqFault site 0x0227))
    ∧ (s.seen.syncPassed site (slotWord l 13) = true →
      exec (.syncWaitTimeout site) s = .next (s.quiet id) ∧ exec (.swaitbBoundExpired site) s = .next (s.quiet id)))

/-- REGION_ABORT, STROKE_ABORT_MSG and ERR_ACCEPT (R425, R440): an abort of a running region is counted once, notes its code and
stroke and begins to settle; a second one while it settles changes nothing; the message stops the sequencer, threads and
operations of a die of the aborting region; acceptance drops every mark of the region that is not a fox mark.

ABORT_SETTLE_EXPIRED and RESTART_RELOAD_DONE (R405, R409, R425, R440, R441, R479): a region that is not aborting, or already restarts,
stays; one that settles stops its dies and drops its messages, and then stops for lock-up, leaves service at its abort limit, rests where
the panel is not hot, or begins its restart; a restart waits until its clusters are up and its galleys idle, stops with 0x0113 where a
page it needs is not staged, and else reloads, counts and stamps its first stroke with 0x1214.

Completes, with its own effect as its conclusion (`exec … = .next …`): `.errAccept`, `.strokeAbortMsg`, `.regionAbort`,
`.abortSettleExpired`, `.restartReloadDone`. -/
def Obligations.RegionAbortsAndRestarts : Prop := 
  (∀ (s : State) (r code site : Nat),
    (s.seen.running r = false → exec (.regionAbort r code) s = .next (s.quiet id))
    ∧ (s.seen.running r = true → (s.seen.region r).abortAt.isSome = true →
      exec (.regionAbort r code) s = .next (s.quiet id))
    ∧ (s.seen.running r = true → (s.seen.region r).abortAt = none →
      exec (.regionAbort r code) s = .next (s.quiet fun p => (p.count sitePD (Csr.ERR_R_STATE_ABORTS r) 1).beginAbort r code)
      ∧ ∃ t, exec (.regionAbort r code) s = .next t ∧ (t.p.region r).abortAt = some s.p.now
          ∧ (t.p.region r).tickSent = false ∧ t.mem = s.mem ∧ t.p.time = s.p.time)
    ∧ ((∀ r, s.seen.regionOf site = some r → (s.seen.region r).abortAt = none) →
      exec (.strokeAbortMsg site) s = .next (s.quiet id))
    ∧ (∀ r, s.seen.regionOf site = some r → (s.seen.region r).abortAt.isSome = true →
      ∃ t, exec (.strokeAbortMsg site) s = .next t ∧ t.p.isSet site Csr.STK_SEQ_STATUS_ISSUING = false
        ∧ t.p.field site Csr.STK_CMP_THREADS = 0 ∧ (t.p.seq site).loops = [] ∧ (t.p.seq site).stalled = none
        ∧ (∀ c, c < 4 → (t.p.mover site c).ops = [] ∧ t.p.board site c = [])
        ∧ t.mem = s.mem ∧ t.p.time = s.p.time)
    ∧ (exec (.errAccept r) s = .next (s.quiet fun p => (p.dropMarks r fun k => k.kind ≠ .fox).raiseRegion r 0x1207)))
  ∧ (∀ (s : State) (r : Nat),
    let g := s.seen.region r
    let settled := (s.seen.each g.sites fun p x => p.quietDie x).dropStale r
    let limit := settled.acting sitePD (Csr.ERR_R_CFG_ABORT_LIMIT r) ≤ settled.field sitePD (Csr.ERR_R_STATE_ABORTS r)
    let gives (q : Panel) : Prop := exec (.abortSettleExpired r) s = .next (s.quiet fun _ => q)
    (g.abortAt = none ∨ g.restart.isSome = true → exec (.abortSettleExpired r) s = .next (s.quiet id))
    ∧ (g.abortAt.isSome = true → g.restart = none →
      (g.stopAtTick = true → gives (settled.stopForLockUp r))
      ∧ (g.stopAtTick = false → limit → gives (settled.leaveService r).modeSettled)
      ∧ (g.stopAtTick = false → ¬ limit → settled.drawMode ≠ 2 → gives (settled.modeStop r 2))
      ∧ (g.stopAtTick = false → ¬ limit → settled.drawMode = 2 → gives (settled.beginRestart s.mem r)))
    ∧ (g.restart = none → exec (.restartReloadDone r) s = .next (s.store fun _ p => p))
    ∧ (∀ stroke imp, g.restart = some (stroke, imp) →
      let d := g.forme
      let fresh := stroke = 0 ∨ s.seen.field sitePD (Csr.FRM_R_IMP_CURRENT r) ≠ imp
      (s.seen.clustersUp d imp = false ∨ s.seen.galleysIdle r = false →
        exec (.restartReloadDone r) s = .next (s.store fun _ p => p))
      ∧ (s.seen.clustersUp d imp = true → s.seen.galleysIdle r = true → fresh → d.staged s.mem = false →
        exec (.restartReloadDone r) s = .next (s.store fun _ p => (p.raiseRegion r 0x0113).leaveService r))
      ∧ (s.seen.clustersUp d imp = true → s.seen.galleysIdle r = true → ¬ (fresh ∧ d.staged s.mem = false) →
        exec (.restartReloadDone r) s = .next (s.store fun m p =>
          let q := (p.reload m r imp true (stroke = 0)).setField sitePD (Csr.FRM_R_IMP_CURRENT r) imp
          let q := q.modRegion r fun g => { g with abortAt := none, restart := none, restartedAt := q.now, stopTick := false }
          let q := q.count sitePD (Csr.ERR_R_COUNT_RESTARTS r) 1
          ((q.stampFirst r stroke).raiseRegion r 0x1214).standaloneDone r))))

/-- REPRINT_CLAIM, REPRINT_GRANT, REPRINT_OPERANDS, REPRINT_RESULT and REPRINT_TIMEOUT (R430 to R432, R566): each takes its message
off the fabric and acts on the reprint of its slot: a claim is granted where the reserve cluster has a free slot and else
refused; a refusal moves on to the next reserve; operands land in the peer's slice; a first timeout tries again with 0x1222,
a second gives up with 0x1205.

REPRINT_REPLAY_DONE and REPRINT_RESULT (R430 to R434): a replay that ends runs the replayed operations, sends its result and moves
its reprint to state 4; a result equal to the rows drained, with no checksum failure, settles a first reprint's mark with 0x1201; a
checksum failure in the replay, a second reprint that differs from the first, or agreement where the original had failed its checksum
gives up with 0x1205; otherwise a first one goes to a second reserve, and a second that agrees with the first corrects the rows.

Completes, with its own effect as its conclusion (`exec … = .next …`): `.reprintClaim`, `.reprintGrant`, `.reprintOperands`,
`.reprintReplayDone`, `.reprintResult`, `.reprintTimeout`. -/
def Obligations.Reprints : Prop := 
  (∀ (s : State) (site slot : Nat) (r : Reprint),
    (∀ reserve cl, let msg := NetMsg.reprintClaim site slot reserve cl
      (s.seen.net.contains msg = false → exec (.reprintClaim site slot reserve cl) s = .next (s.quiet id))
      ∧ (s.seen.net.contains msg = true →
        (∀ i, (s.seen.arrive msg).reprint site slot = some r → (s.seen.arrive msg).grants reserve cl = some i →
          ∃ t, exec (.reprintClaim site slot reserve cl) s = .next t
            ∧ t.p.net = s.p.net.erase msg ++ [.reprintGrant site slot true]
            ∧ reserve * 4 + cl ∈ t.p.contain.claimed ∧ t.mem = s.mem ∧ t.p.time = s.p.time)
        ∧ ((s.seen.arrive msg).reprint site slot = none ∨ (s.seen.arrive msg).grants reserve cl = none →
          exec (.reprintClaim site slot reserve cl) s = .next (s.quiet fun p =>
            (p.arrive msg).send (.reprintGrant site slot false)))))
    ∧ (∀ granted, let msg := NetMsg.reprintGrant site slot granted
      (s.seen.net.contains msg = false → exec (.reprintGrant site slot granted) s = .next (s.store fun _ p => p))
      ∧ (s.seen.net.contains msg = true → (s.seen.arrive msg).reprint site slot = some r →
        exec (.reprintGrant site slot granted) s = .next (s.store fun m p =>
          if granted then (p.arrive msg).sendOperands m r else (p.arrive msg).claimNext r))
      ∧ (s.seen.net.contains msg = true → (s.seen.arrive msg).reprint site slot = none →
        exec (.reprintGrant site slot granted) s = .next (s.store fun _ p => p.arrive msg)))
    ∧ (let msg := NetMsg.reprintOperands site slot
      (s.seen.net.contains msg = false → exec (.reprintOperands site slot) s = .next (s.store fun _ p => p))
      ∧ (s.seen.net.contains msg = true → (s.seen.arrive msg).reprint site slot = none →
        exec (.reprintOperands site slot) s = .next (s.store fun _ p => p.arrive msg))
      ∧ (s.seen.net.contains msg = true → (s.seen.arrive msg).reprint site slot = some r →
        ∃ t, exec (.reprintOperands site slot) s = .next t
          ∧ t.mem = s.mem.apply (r.operands.map fun x =>
              { addr := sliceAddr r.peer r.peerCluster x.1, data := x.2.data, fox := some x.2.fox })
          ∧ t.p.net = s.p.net.erase msg ∧ t.p.time = s.p.time))
    ∧ (s.seen.reprint site slot = none →
      exec (.reprintReplayDone site slot []) s = .next (s.store fun _ p => p)
      ∧ exec (.reprintTimeout site slot) s = .next (s.quiet id))
    ∧ (s.seen.reprint site slot = some r →
      (r.state ≠ 3 → exec (.reprintReplayDone site slot []) s = .next (s.store fun _ p => p))
      ∧ (r.timeouts = 0 → exec (.reprintTimeout site slot) s = .next (s.quiet fun p =>
          ((p.release r).raise site 0x1222).claimNext { r with timeouts := 1, operands := [], result := none }))
      ∧ (r.timeouts ≠ 0 → exec (.reprintTimeout site slot) s = .next (s.quiet fun p => (p.endReprint r).raise site 0x1205))))
  ∧ (∀ (s : State) (site slot : Nat) (r : Reprint) (upset : List (Nat × Nat × Nat)),
    (s.seen.reprint site slot = some r → r.state = 3 →
      exec (.reprintReplayDone site slot upset) s = .next (s.store fun m p => p.replay m site slot upset)
      ∧ ∃ t, exec (.reprintReplayDone site slot upset) s = .next t ∧ .reprintResult site slot ∈ t.p.net ∧ t.p.time = s.p.time)
    ∧ (let msg := NetMsg.reprintResult site slot
      let p := s.seen.arrive msg
      (s.seen.net.contains msg = false → exec (.reprintResult site slot) s = .next (s.store fun _ p => p))
      ∧ (s.seen.net.contains msg = true → p.reprint site slot = none →
        exec (.reprintResult site slot) s = .next (s.store fun _ _ => p))
      ∧ (s.seen.net.contains msg = true → p.reprint site slot = some r →
        let gives (q : Panel) : Prop := exec (.reprintResult site slot) s = .next (s.store fun _ _ => q)
        (r.result = none ∨ p.contain.marks.find? r.isFor = none → gives (p.endReprint r))
        ∧ (∀ rows failed k, r.result = some (rows, failed) → p.contain.marks.find? r.isFor = some k →
          (r.first = none → r.shadow = true → gives (p.arbitrate r rows))
          ∧ (r.first = none → r.shadow = false → let x := p.drainedRows s.mem k
            (x.1 = rows → (k.checksum = true ∧ failed = true) → gives ((x.2.endReprint r).raise site 0x1205))
            ∧ (x.1 = rows → ¬ (k.checksum = true ∧ failed = true) →
              gives ((((x.2.endReprint r).settle k).countMark site true).raiseAt site k.cluster 0x1201))
            ∧ (x.1 ≠ rows → failed = true → gives ((x.2.endReprint r).raise site 0x1205))
            ∧ (x.1 ≠ rows → failed = false → gives (x.2.arbitrate r rows)))
          ∧ (∀ f, r.first = some f → f ≠ rows → gives ((p.endReprint r).raise site 0x1205))
          ∧ (r.first = some rows → r.shadow = false → gives (p.correct r k rows))
          ∧ (r.first = some rows → r.shadow = true → k.touched = true → gives (p.endReprint r))
          ∧ (r.first = some rows → r.shadow = true → k.touched = false → gives (p.shadowReplace r k rows))))))

/-- PWR_REQ_ON, PWR_REQ_OFF and TURN_ON_ATTEMPT (R27, R31, R457, R458, R460): a request for a dark domain stands until it is attempted; a
request to turn off, that only a cluster's domain heeds, cancels one; an attempt records the peaks and, unless the die is kept dark or still
stages another domain, starts the turn-on where the headroom admits its reservation, and else counts a deferral, with 0x0C07 at the first
one and, at DEFER_MAX, a forced turn-on with 0x0C08.

HEADER_STAGE_STEP, DOMAIN_POWER_GOOD, POWER_GOOD_TIMEOUT and RESERVATION_RELEASE (R259, R456, R458): a domain that turns on passes its
header stages, comes up at power good, a cluster to the fill of its slice and any other domain ON at once; a stage that fails,
or no power good in time, fails the domain; one asked to turn off goes dark instead; its reservation is given back after.

Completes, with its own effect as its conclusion (`exec … = .next …`): `.pwrReqOn`, `.pwrReqOff`, `.turnOnAttempt`,
`.headerStageStep`, `.domainPowerGood`, `.powerGoodTimeout`, `.reservationRelease`. -/
def Obligations.DomainPower : Prop := 
  (∀ (s : State) (site d gp rp : Nat), d < 5 →
    let p := (s.seen.setField sitePD (Csr.PWR_GRP_PEAK_LAST (girthGroup site)) gp).setField sitePD Csr.PWR_RAIL_PEAK_LAST rp
    let asked := (p.domain site d).reqOn = true ∧ p.field site (Csr.PWR_DOM_STATE d) = domDark ∧ p.keptDark site = false
      ∧ p.staging site = false
    let n := p.field site (Csr.PWR_DOM_DEFERRALS d)
    let forced := p.acting site Csr.PWR_SEQ_CFG_DEFER_MAX ≤ n ∧ p.isSet sitePD (Csr.PWR_GRP_LOW (girthGroup site)) = false
    ((s.seen.domain site d).reqOn = true ∨ s.seen.field site (Csr.PWR_DOM_STATE d) ≠ domDark →
      exec (.pwrReqOn site d) s = .next (s.quiet fun p => p.modDomain site d fun x => { x with reqOff := false }))
    ∧ ((s.seen.domain site d).reqOn = false → s.seen.field site (Csr.PWR_DOM_STATE d) = domDark →
      ∃ t, exec (.pwrReqOn site d) s = .next t ∧ (t.p.domain site d).reqOn = true ∧ t.p.field site (Csr.PWR_DOM_DEFERRALS d) = 0
        ∧ t.p.isSet site (Csr.PWR_DOM_REQ_ON d) = true ∧ t.mem = s.mem ∧ t.p.time = s.p.time)
    ∧ (∃ t, exec (.pwrReqOff site d) s = .next t ∧ (t.p.domain site d).reqOn = false
        ∧ t.p.isSet site (Csr.PWR_DOM_REQ_ON d) = false
        ∧ (isCluster site d = true → s.seen.field site (Csr.PWR_DOM_STATE d) ≠ domDark → (t.p.domain site d).reqOff = true
            ∧ t.p.isSet site (Csr.PWR_DOM_REQ_OFF d) = true)
        ∧ (isCluster site d = false → (t.p.domain site d).reqOff = (s.p.domain site d).reqOff)
        ∧ t.mem = s.mem ∧ t.p.time = s.p.time)
    ∧ (¬ asked → exec (.turnOnAttempt site d gp rp) s = .next (s.quiet fun _ => p))
    ∧ (asked → ¬ forced → p.headroom site (p.reservation site d) = true →
      exec (.turnOnAttempt site d gp rp) s = .next (s.quiet fun _ => p.startTurnOn site d false))
    ∧ (asked → forced → exec (.turnOnAttempt site d gp rp) s = .next (s.quiet fun _ =>
        (p.startTurnOn site d true).raiseFor p.primary 0x0C08 .notice ((p.startTurnOn site d true).regionOf site) d site))
    ∧ (asked → ¬ forced → p.headroom site (p.reservation site d) = false →
      let q := p.count site (Csr.PWR_DOM_DEFERRALS d) 1
      (n ≠ 0 → exec (.turnOnAttempt site d gp rp) s = .next (s.quiet fun _ => q))
      ∧ (n = 0 → exec (.turnOnAttempt site d gp rp) s = .next (s.quiet fun _ =>
          q.raiseFor q.primary 0x0C07 .notice (q.regionOf site) d site))))
  ∧ (∀ (s : State) (site d : Nat), d < 5 →
    let turning := s.seen.field site (Csr.PWR_DOM_STATE d) = domTurningOn
    let stages := s.seen.field site (Csr.PWR_DOM_STAGE d)
    (¬ turning ∨ 4 ≤ stages → ∀ ok, exec (.headerStageStep site d ok) s = .next (s.store fun _ p => p))
    ∧ (turning → stages < 4 →
      let next := (s.seen.setField site (Csr.PWR_DOM_STAGE d) (stages + 1)).showSeqBusy site
      exec (.headerStageStep site d false) s = .next (s.store fun _ p => (p.raise site 0x0C10).failDomain site d)
      ∧ exec (.domainPowerGood site d) s = .next (s.quiet id)
      ∧ ((s.seen.domain site d).reqOff = true →
        exec (.headerStageStep site d true) s = .next (s.store fun _ _ => (next.darken site d).showSeqBusy site))
      ∧ ((s.seen.domain site d).reqOff = false → ∃ t, exec (.headerStageStep site d true) s = .next t
          ∧ t.p.field site (Csr.PWR_DOM_STAGE d) = s.p.field site (Csr.PWR_DOM_STAGE d) + 1
          ∧ t.p.field site (Csr.PWR_DOM_STATE d) = domTurningOn ∧ t.p.time = s.p.time))
    ∧ (turning → 4 ≤ stages → (s.seen.domain site d).good = none → (s.seen.domain site d).reqOff = false →
      (isCluster site d = true → ∃ t, exec (.domainPowerGood site d) s = .next t ∧ (t.p.domain site d).filling = true
        ∧ (t.p.domain site d).good = some s.p.now ∧ bitOf (t.p.field site Csr.CLK_STATUS_DOMAIN_UP) d = true
        ∧ bitOf (t.p.field site Csr.SPR_STATUS_FILLING) d = true ∧ t.mem = s.mem ∧ t.p.time = s.p.time)
      ∧ (isCluster site d = false → d ≠ logicDomain site → ∃ t, exec (.domainPowerGood site d) s = .next t
        ∧ t.p.field site (Csr.PWR_DOM_STATE d) = domOn ∧ (t.p.domain site d).good = some s.p.now
        ∧ t.p.isSet site Csr.PWR_STATUS_IO_A_OK = true ∧ t.p.isSet site Csr.PWR_STATUS_IO_B_OK = true
        ∧ t.mem = s.mem ∧ t.p.time = s.p.time)
      ∧ (d = logicDomain site → site < 464 → exec (.domainPowerGood site d) s = .next (s.quiet fun p =>
          let q := (((p.freshDie site).revive site).modDomain site d fun x =>
            { x with good := some ((p.freshDie site).revive site).now }).setDomainUp site d true
          if (q.domain site d).reqOff then (q.darken site d).showSeqBusy site
          else ((q.setField site (Csr.PWR_DOM_STATE d) domOn).setFlag site Csr.PWR_STATUS_REG_A_OK true).setFlag site
            Csr.PWR_STATUS_REG_B_OK true)))
    ∧ (turning → 4 ≤ stages → (s.seen.domain site d).good = none → (s.seen.domain site d).reqOff = true →
      d ≠ logicDomain site → exec (.domainPowerGood site d) s = .next (s.quiet fun p =>
        (((p.modDomain site d fun x => { x with good := some p.now }).setDomainUp site d true).darken site d).showSeqBusy site))
    ∧ (turning → (s.seen.domain site d).good = none →
      exec (.powerGoodTimeout site d) s = .next (s.store fun _ p => p.failDomain site d))
    ∧ (¬ turning ∨ (s.seen.domain site d).good ≠ none → exec (.powerGoodTimeout site d) s = .next (s.store fun _ p => p)
      ∧ exec (.domainPowerGood site d) s = .next (s.quiet id))
    ∧ ((s.seen.domain site d).good = none → exec (.reservationRelease site d) s = .next (s.quiet id))
    ∧ ((s.seen.domain site d).good ≠ none → ∃ t, exec (.reservationRelease site d) s = .next t
        ∧ (t.p.domain site d).reserved = 0
        ∧ t.p.field sitePD Csr.PWR_RAIL_RESERVED = s.p.field sitePD Csr.PWR_RAIL_RESERVED - (s.p.domain site d).reserved
        ∧ t.mem = s.mem ∧ t.p.time = s.p.time))

/-- PHASE_LOSS, PH_INJECT and UNCORE_REGULATOR_FAIL (R461 to R465): the first and second lost phase of a cluster's regulator count
and raise 0x0C01, the third derates the cluster, at the tick where its die runs, the fourth darkens it; a phase already lost has no
effect; the loss of one of two regulators raises 0x0C05, or 0x0C0E on a die that is no compute die, and the loss of both loses the die.

GROUP_SENSE_LOW, GROUP_OVER_LIMIT, GROUP_UNDERVOLT, RAIL_FAIL, PWR_VSET_WRITE and OSCILLATOR_STOP (R53, R62, R452, R453, R455): a sense
below 1,710 mV marks its group low, with 0x0C0A the first time; a current over the limit raises 0x0C0C; a group without voltage
loses its dies; a lost rail darkens every die with 0x0C0D and, when withdrawn, takes the power-good level with it; a core voltage waits
for the tick of a die that runs; an oscillator that stops darkens its domain, and a fixed clock has none.

Completes, with its own effect as its conclusion (`exec … = .next …`): `.oscillatorStop`, `.phaseLoss`, `.phInject`,
`.uncoreRegulatorFail`, `.pwrVsetWrite`, `.groupSenseLow`, `.groupUndervolt`, `.railFail`, `.groupOverLimit`. -/
def Obligations.PowerLosses : Prop := 
  (∀ (s : State) (site c ph : Nat), site < 400 → c < 4 →
    let counted (p : Panel) (ph : Nat) : Panel :=
      (p.setField site (Csr.PWR_REG_PHASE_OK c) (putBits (p.field site (Csr.PWR_REG_PHASE_OK c)) ph 1 0)).setField site
        (Csr.PWR_REG_LOST c) (p.field site (Csr.PWR_REG_LOST c) + 1)
    let here := bitOf (s.seen.field site (Csr.PWR_REG_PHASE_OK c)) ph = true
    let q := counted s.seen ph
    let allowed := ∀ r, q.regionOf site = some r →
      namesCluster ((q.region r).forme.derateOk.map fun x => (x.1, x.2 / 2)) site c = true
    (¬ here → exec (.phaseLoss site c ph) s = .next (s.store fun _ p => p))
    ∧ (here → s.seen.field site (Csr.PWR_REG_LOST c) < 2 →
      exec (.phaseLoss site c ph) s = .next (s.store fun _ p => (counted p ph).raiseAt site c 0x0C01))
    ∧ (here → s.seen.field site (Csr.PWR_REG_LOST c) = 2 → ¬ (q.clusterUsed site c = true ∧ ¬ allowed) →
      exec (.phaseLoss site c ph) s = .next (s.store fun _ _ =>
        let q := q.raiseAt site c 0x0C02
        if q.dieRunning site then q.modPower fun w => { w with derateAtTick := w.derateAtTick ++ [(site * 4 + c, 0x0C02)] }
        else q.derate site c 0x0C02))
    ∧ (here → s.seen.field site (Csr.PWR_REG_LOST c) = 2 → q.clusterUsed site c = true → ¬ allowed →
      exec (.phaseLoss site c ph) s = .next (s.store fun _ _ =>
        let q := q.raiseUsed site c 0x0C03
        if q.dieRunning site then q.modPower fun w => { w with derateAtTick := w.derateAtTick ++ [(site * 4 + c, 0x0C03)] }
        else q.derate site c 0x0C03))
    ∧ (here → s.seen.field site (Csr.PWR_REG_LOST c) = 3 →
      exec (.phaseLoss site c ph) s = .next (s.store fun _ _ =>
        let d := ((q.darken site c).showSeqBusy site).recordPower site (2 + c) 2 0x0C04
        if q.clusterUsed site c then (d.raiseFor d.primary 0x0C04 .regionAbort (d.regionOf site) c site).lossAbort site 0x0C04
        else d.raiseFor d.primary 0x0C04 .notice none c site))
    ∧ (exec (.phInject site c) s = .next (s.store fun _ p => (p.setField site Csr.PWR_CTRL_INJ_CL c).losePhase site c
        (firstPhase ((p.setField site Csr.PWR_CTRL_INJ_CL c).field site (Csr.PWR_REG_PHASE_OK c)))))
    ∧ ∀ (st : Nat) (io b : Bool),
      let own := if io then (if b then Csr.PWR_STATUS_IO_B_OK else Csr.PWR_STATUS_IO_A_OK)
        else if b then Csr.PWR_STATUS_REG_B_OK else Csr.PWR_STATUS_REG_A_OK
      let other := if io then (if b then Csr.PWR_STATUS_IO_A_OK else Csr.PWR_STATUS_IO_B_OK)
        else if b then Csr.PWR_STATUS_REG_A_OK else Csr.PWR_STATUS_REG_B_OK
      let p := s.seen.setFlag st own false
      (s.seen.isSet st own = false → exec (.uncoreRegulatorFail st io b) s = .next (s.store fun _ p => p))
      ∧ (s.seen.isSet st own = true → p.isSet st other = true →
        exec (.uncoreRegulatorFail st io b) s = .next (s.store fun _ _ => p.raise st (if st < 400 then 0x0C05 else 0x0C0E)))
      ∧ (s.seen.isSet st own = true → p.isSet st other = false →
        (io = true → exec (.uncoreRegulatorFail st io b) s = .next (s.store fun _ _ =>
          ((p.darken st 1).raise st 0x0C06).dieLost st 4))
        ∧ (io = false → let d := p.darken st (logicDomain st)
          exec (.uncoreRegulatorFail st io b) s = .next (s.store fun _ _ =>
            (d.raiseFor d.primary 0x0C06 (severityOf 0x0C06) (d.regionOf st) 0 st).dieLost st 4))))
  ∧ (∀ (s : State) (g v site d : Nat), g < 112 →
    (v < 1710 → s.seen.isSet sitePD (Csr.PWR_GRP_LOW g) = false →
      exec (.groupSenseLow g v) s = .next (s.quiet fun p =>
        let p := (p.setField sitePD (Csr.PWR_GRP_SENSE g) v).setFlag sitePD (Csr.PWR_GRP_LOW g) true
        p.raise p.primary 0x0C0A))
    ∧ (1710 ≤ v ∨ s.seen.isSet sitePD (Csr.PWR_GRP_LOW g) = true →
      exec (.groupSenseLow g v) s = .next (s.quiet fun p =>
        (p.setField sitePD (Csr.PWR_GRP_SENSE g) v).setFlag sitePD (Csr.PWR_GRP_LOW g) (decide (v < 1710)))
      ∧ ∃ t, exec (.groupSenseLow g v) s = .next t ∧ t.p.isSet sitePD (Csr.PWR_GRP_LOW g) = decide (v < 1710)
        ∧ t.p.tack = s.p.tack ∧ t.mem = s.mem)
    ∧ (exec (.groupOverLimit g v) s = .next (s.quiet fun p => (p.setField sitePD (Csr.PWR_GRP_NOW g) v).raise p.primary 0x0C0C))
    ∧ (∃ t, exec (.railFail true) s = .next t ∧ t.p.boot.pwrGood = false ∧ t.p.boot.phase = .held ∧ t.mem = s.mem ∧ t.p.time = s.p.time)
    ∧ (exec (.railFail false) s = .next (s.quiet fun p =>
        let p := p.each allSites fun p x => p.darkenDie x
        p.raise p.primary 0x0C0D))
    ∧ (exec (.groupUndervolt g) s = .next (s.store fun _ p => p.groupLost g))
    ∧ (s.seen.dieRunning site = true →
      ∃ t, exec (.pwrVsetWrite site v) s = .next t ∧ t.p.field site Csr.PWR_VSET_VCLUSTER = v % 2 ^ Csr.PWR_VSET_VCLUSTER.width
        ∧ (∀ c, c < 4 → t.p.field site (Csr.PWR_REG_VOUT c) = s.p.field site (Csr.PWR_REG_VOUT c)) ∧ t.p.time = s.p.time)
    ∧ (s.seen.dieRunning site = false → exec (.pwrVsetWrite site v) s = .next (s.store fun _ p => p.setVset site v))
    ∧ (adaptiveClock site d = false → exec (.oscillatorStop site d) s = .next (s.store fun _ p => p))
    ∧ (isCluster site d = true →
      let p := (s.seen.darken site d).raise site 0x030B
      (p.regionOf site = none → exec (.oscillatorStop site d) s = .next (s.store fun _ _ => p))
      ∧ ∀ r, p.regionOf site = some r →
        exec (.oscillatorStop site d) s = .next (s.store fun _ _ => p.abortRegion r 0x030B false))
    ∧ (isCluster site d = false → adaptiveClock site d = true →
      let p := s.seen.darken site d
      exec (.oscillatorStop site d) s = .next (s.store fun _ _ =>
        (p.raiseFor p.primary 0x030B (severityOf 0x030B) (p.regionOf site) 0 site).dieLost site 5)))

/-- DRW_SP_TACK_WRITE, DRW_SP_HOST_WRITE, TACK_LEASE_EXPIRED and BUDGET_RAMP_STEP (R468, R469, R483): the tack's setpoint is clamped to
4 to 100 (0x1307) and ends an expired lease; the host's, above it, raises 0x1302; a lapsed lease raises 0x1306 once; while it runs, the budget rises by one a step
up to the setpoint asked for.

DIE_POWER_REPORT, DRAW_TRIM_UPDATE and WARM_DUTY_UPDATE (R471, R474, R478): a die's report is kept and the panel's draw shown; the
trim runs in the order flow, scale, regions, duty cap; a die with no warm cluster has duty 0, and the duty of any other rises
by one while its hottest cluster is below target, never above its cap.

Completes, with its own effect as its conclusion (`exec … = .next …`): `.drwSpTackWrite`, `.drwSpHostWrite`,
`.tackLeaseExpired`, `.budgetRampStep`, `.diePowerReport`, `.drawTrimUpdate`, `.warmDutyUpdate`. -/
def Obligations.DrawControl : Prop := 
  (∀ (s : State) (v mode : Nat),
    let f (x : Fld) : Nat := s.seen.field sitePD x
    (4 ≤ v → v ≤ 100 → s.seen.isSet sitePD Csr.THM_FLOW_STOPPED = false →
      exec (.drwSpTackWrite v mode) s = .next (s.store fun m p =>
        ((((p.setField sitePD Csr.DRW_SP_TACK_SETPOINT v).setFlag sitePD Csr.DRW_STATUS_LEASE_EXP false).setField sitePD
          Csr.DRW_SP_TACK_MODE mode).setFlag sitePD Csr.THM_FLOW_STOPPED false).showSetpoint.applyMode m))
    ∧ (v < 4 ∨ 100 < v → s.seen.isSet sitePD Csr.THM_FLOW_STOPPED = false →
      exec (.drwSpTackWrite v mode) s = .next (s.store fun m p =>
        (((((p.raise p.primary 0x1307).setField sitePD Csr.DRW_SP_TACK_SETPOINT (if v < 4 then 4 else 100)).setFlag sitePD
          Csr.DRW_STATUS_LEASE_EXP false).setField sitePD Csr.DRW_SP_TACK_MODE mode).setFlag sitePD
          Csr.THM_FLOW_STOPPED false).showSetpoint.applyMode m))
    ∧ (4 ≤ v → v ≤ f Csr.DRW_SP_TACK_SETPOINT → v ≤ 100 → mode ≤ min 2 (f Csr.DRW_SP_TACK_MODE) →
      exec (.drwSpHostWrite v mode) s = .next (s.store fun m p =>
        ((p.setField sitePD Csr.DRW_SP_HOST_SETPOINT v).setField sitePD Csr.DRW_SP_HOST_MODE mode).showSetpoint.applyMode m))
    ∧ (4 ≤ v → v ≤ 100 → mode < 4 →
      f Csr.DRW_SP_TACK_SETPOINT < v ∨ min 2 (f Csr.DRW_SP_TACK_MODE) < min 2 mode →
      exec (.drwSpHostWrite v mode) s = .next (s.store fun m p =>
        let p := (p.setField sitePD Csr.DRW_SP_HOST_SETPOINT v).setField sitePD Csr.DRW_SP_HOST_MODE mode
        (p.raise p.primary 0x1302).showSetpoint.applyMode m))
    ∧ (f Csr.DRW_CTRL_LEASE = 0 ∨ s.seen.isSet sitePD Csr.DRW_STATUS_LEASE_EXP = true →
      exec .tackLeaseExpired s = .next (s.quiet id))
    ∧ (f Csr.DRW_CTRL_LEASE ≠ 0 → s.seen.isSet sitePD Csr.DRW_STATUS_LEASE_EXP = false →
      exec .tackLeaseExpired s = .next (s.quiet fun p =>
        (p.setFlag sitePD Csr.DRW_STATUS_LEASE_EXP true).raise p.primary 0x1306))
    ∧ (s.seen.drawMode = 2 → f Csr.DRW_STATUS_BUDGET < f Csr.DRW_STATUS_S_REQ →
      exec .budgetRampStep s = .next (s.quiet fun p =>
        (p.setField sitePD Csr.DRW_STATUS_BUDGET (p.field sitePD Csr.DRW_STATUS_BUDGET + 1)).showSetpoint))
    ∧ (s.seen.drawMode ≠ 2 ∨ f Csr.DRW_STATUS_S_REQ ≤ f Csr.DRW_STATUS_BUDGET →
      exec .budgetRampStep s = .next (s.quiet id)))
  ∧ (∀ (s : State) (site w : Nat),
    (exec (.diePowerReport site w) s = .next (s.quiet fun p => (p.setField site Csr.DRW_DIE_POWER w).showDraw))
    ∧ (s.seen.drawSide.flowAt = none → exec .drawTrimUpdate s = .next (s.quiet fun p =>
        (p.scaleDraw.each (allRegions.filter fun r => p.scaleDraw.running r && p.scaleDraw.isSet sitePD (Csr.STK_R_CTRL_ENABLE r))
          fun p r => p.trimRegion r).capDuty))
    ∧ (∀ at_, s.seen.drawSide.flowAt = some at_ → at_ + msCycles 10 < s.p.now → exec .drawTrimUpdate s = .next (s.quiet fun p =>
        (p.flowInvalid.scaleDraw.each (allRegions.filter fun r =>
          p.flowInvalid.scaleDraw.running r && p.flowInvalid.scaleDraw.isSet sitePD (Csr.STK_R_CTRL_ENABLE r))
          fun p r => p.trimRegion r).capDuty))
    ∧ (s.seen.warmClusters site = [] → ∃ t, exec (.warmDutyUpdate site) s = .next t
        ∧ t.p.field site Csr.THM_STATUS_DUTY = 0 ∧ t.p.isSet site Csr.THM_STATUS_WARM_SHORT = false
        ∧ t.p.tack = s.p.tack ∧ t.mem = s.mem)
    ∧ (s.seen.warmClusters site ≠ [] →
      let hot := (List.range 4).foldl (fun t c => max t (s.seen.field site (Csr.THM_CL_TEMP c))) 0
      let target := 4 * s.seen.acting site Csr.THM_WARM_TARGET
      let d := s.seen.field site Csr.THM_STATUS_DUTY
      ∃ t, exec (.warmDutyUpdate site) s = .next t
        ∧ t.p.field site Csr.THM_STATUS_DUTY = min (min 16 (s.p.field site Csr.THM_WARM_DUTY_MAX))
            (if hot < target then d + 1 else if target + 12 < hot then d - 1 else d)
        ∧ t.mem = s.mem ∧ t.p.time = s.p.time))

/-- COOLANT_SAMPLE, SENSOR_READ, THERMAL_FORECAST and HOT_TRIP (R481, R482, R484, R485, R488 to R490, R554): the tack die turns the sensors'
millivolts into readings, shown at PD and TD, a sensor out of range keeping its last value, and a flow sensor out of range makes the flow
invalid; the sensors of a live die show their readings and the hottest, 420 where none is valid, and may throttle or halt it; a
forecast marks its die, with 0x0D01 the first time, while it lies above the limit; a hot trip raises 0x0D06.

THERMAL_SUSTAIN_EXPIRED, THERMAL_CAP_RISE, WARM_WAIT_EXPIRED and IMPOSITION_REQUEST (R407, R479, R487): a throttled region's share
falls by 5 to at least 4, with 0x0D02, and rises by 1 to at most 100 when its dies are cool; a region that waits warm too long
aborts with 0x1305; a request for an imposition that the region has stands until it is granted, any other raises 0x0122.

Completes, with its own effect as its conclusion (`exec … = .next …`): `.impositionRequest`, `.warmWaitExpired`,
`.coolantSample`, `.thermalForecast`, `.thermalSustainExpired`, `.sensorRead`, `.hotTrip`, `.thermalCapRise`. -/
def Obligations.ThermalAndRegionShares : Prop := 
  (∀ (s : State) (site : Nat) (tin tout flow : Option Nat),
    let p := (s.seen.showTemp Csr.THM_COOL_INLET tin).showTemp Csr.THM_COOL_OUTLET tout
    let msg (n : Nat) := Control.coolant (p.field siteTD Csr.THM_COOL_INLET) (p.field siteTD Csr.THM_COOL_OUTLET) n
    let q (n : Nat) : Panel := let q := p.sendControl siteTD 0xFFFF (msg n)
      q.inletSample (q.field siteTD Csr.THM_COOL_INLET)
    let valid := ∃ mv, flow = some mv ∧ 100 ≤ mv ∧ mv ≤ 1300
    (s.seen.tackDie = false → exec (.coolantSample tin tout flow) s = .next (s.store fun _ p => p))
    ∧ (s.seen.tackDie = true →
      (¬ valid → flow.isSome = true → exec (.coolantSample tin tout flow) s = .next (s.store fun _ _ => (q 1024).flowInvalid))
      ∧ (flow = none → exec (.coolantSample tin tout flow) s = .next (s.store fun _ _ => q 1024))
      ∧ (∀ mv, flow = some mv → 100 ≤ mv → mv ≤ 1300 → exec (.coolantSample tin tout flow) s =
          .next (s.store fun m _ => (q ((mv - 200) / 2)).flowSample m ((mv - 200) / 2)))
      ∧ (∀ f, (f = Csr.THM_COOL_INLET ∨ f = Csr.THM_COOL_OUTLET) →
        s.seen.showTemp f none = s.seen ∧ ∀ mv, mv < 100 ∨ 1300 < mv → s.seen.showTemp f (some mv) = s.seen))
    ∧ (s.seen.lives site = false → (∀ x, exec (.sensorRead site x) s = .next (s.store fun _ p => p))
      ∧ exec (.thermalForecast site) s = .next (s.quiet id))
    ∧ (∀ x, s.seen.lives site = true →
      let t := if (x.flatMap id).all Option.isNone then 420 else min 1023 (hottest (x.flatMap id))
      let shown := s.seen.each (x.zipIdx.take 5) fun p y =>
        (p.setField site (Csr.THM_CL_TEMP y.2) (hottest y.1)).setField site (Csr.THM_CL_VALID y.2) (validMask y.1)
      let p := (shown.setField site Csr.THM_TEMP_NOW t).emergencyThrottle site t
      let halts := 4 * p.acting sitePD Csr.THM_CFG_HALT ≤ t
      (¬ halts → exec (.sensorRead site x) s = .next (s.store fun _ _ => p))
      ∧ (halts → exec (.sensorRead site x) s = .next (s.store fun _ _ => ((p.raise site 0x0D05).darkenDie site).dieLost site 0)))
    ∧ (s.seen.lives site = true → s.seen.field sitePD Csr.THM_FLOW_FLOW ≠ 0 →
      let f := s.seen.forecast site (s.seen.field sitePD Csr.THM_FLOW_FLOW)
      let limit := 4 * s.seen.acting sitePD Csr.THM_CFG_PRED
      ∃ t, exec (.thermalForecast site) s = .next t
        ∧ t.p.field site Csr.THM_TEMP_FORECAST = f % 2 ^ Csr.THM_TEMP_FORECAST.width
        ∧ t.p.isSet site Csr.THM_STATUS_PRED = decide (limit < f)
        ∧ (f ≤ limit ∨ s.p.isSet site Csr.THM_STATUS_PRED = true → t.p.tack = s.p.tack) ∧ t.mem = s.mem ∧ t.p.time = s.p.time)
    ∧ (∃ t, exec (.hotTrip site) s = .next t ∧ t.p.boot.hotTrip = true ∧ t.mem = s.mem ∧ t.p.time = s.p.time))
  ∧ (∀ (s : State) (r imp : Nat), r < 16 →
    let c := s.seen.field sitePD (Csr.DRW_R_STATE_C r)
    let cool := (s.seen.region r).sites.all fun x =>
      s.seen.field x Csr.THM_TEMP_FORECAST ≤ 4 * s.seen.acting sitePD Csr.THM_CFG_PRED - 20
    (s.seen.field sitePD (Csr.DRW_R_THERM r) = 0 → exec (.thermalSustainExpired r) s = .next (s.quiet id))
    ∧ (s.seen.field sitePD (Csr.DRW_R_THERM r) ≠ 0 →
      exec (.thermalSustainExpired r) s = .next (s.quiet fun p =>
        (p.setField sitePD (Csr.DRW_R_STATE_C r) (max 4 (c - 5))).raiseRegion r 0x0D02)
      ∧ exec (.thermalCapRise r) s = .next (s.quiet id))
    ∧ (cool = false → exec (.thermalCapRise r) s = .next (s.quiet id))
    ∧ (s.seen.field sitePD (Csr.DRW_R_THERM r) = 0 → cool = true →
      exec (.thermalCapRise r) s = .next (s.quiet fun p => p.setField sitePD (Csr.DRW_R_STATE_C r) (min 100 (c + 1))))
    ∧ (s.seen.running r = true → (s.seen.region r).warmSince.isSome = true → (s.seen.region r).stopped = 0 →
      (s.seen.region r).abortAt = none →
      exec (.warmWaitExpired r) s = .next (s.quiet fun p => p.raiseAbort r 0x1305))
    ∧ (s.seen.running r = false ∨ (s.seen.region r).warmSince = none ∨ (s.seen.region r).stopped ≠ 0
        ∨ (s.seen.region r).abortAt.isSome = true → exec (.warmWaitExpired r) s = .next (s.quiet id))
    ∧ (s.seen.lockedUp r = false → exec (.impositionRequest r imp true) s = .next (s.quiet fun p => p.raiseRegion r 0x0122))
    ∧ (s.seen.lockedUp r = true → s.seen.isSet sitePD Csr.FRM_STATUS_BUSY = false → imp ≤ s.seen.field sitePD (Csr.FRM_R_IMP_COUNT_M1 r) →
      (s.seen.region r).impRequest = none →
      ∃ t, exec (.impositionRequest r imp true) s = .next t ∧ (t.p.region r).impRequest = some (imp, 1)
        ∧ t.p.isSet sitePD (Csr.FRM_R_IMP_PENDING r) = true ∧ t.mem = s.mem ∧ t.p.time = s.p.time))

/-- TICK_SEND (R66, R91, R472): a tick is sent only for an enabled region of a panel that is not halted and has no tick, slur, commit or
abort under way; it is stamped, prepares the region's draw unless the region stops, is marked as sent, and is posted at its time.

TICK_MESSAGE and STROKE_TICK (R66, R84, R92, R93, R95): a die keeps a tick for the time the message names and raises 0x0306 on one
that comes late, which acts at once; a die that has none waits; at its tick a die that still works slurs and counts a slur, one that is done
closes its stroke and begins the next, one between strokes begins its first, and a die that computes nothing latches its counts; the
primary, unless the panel is halted, moves the region to its next stroke and opens a slur for the dies whose end it has not heard of.

END_OF_STROKE and STROKE_END_REPORT (R88, R89, R96): a die whose stroke is done closes it, notes its end against its tick and stops
issuing, and if it slurs begins the stroke it owes; its report, sent once, joins the region's ended dies, or ends its part of a slur,
and the last die's ends the slur.

Completes, with its own effect as its conclusion (`exec … = .next …`): `.tickSend`, `.tickMessage`, `.strokeTick`,
`.endOfStroke`, `.strokeEndReport`. -/
def Obligations.StrokeTicks : Prop := 
  (∀ (s : State) (r : Nat),
    (s.seen.mayTick r = false → exec (.tickSend r) s = .next (s.store fun _ p => p))
    ∧ (s.seen.mayTick r = true → (s.seen.stampTick r).stopsNext r = true →
      exec (.tickSend r) s = .next (s.store fun _ p =>
        ((p.stampTick r).modRegion r fun g => { g with tickSent := true, stopTick := true }).postTick r)
      ∧ ∃ t, exec (.tickSend r) s = .next t
        ∧ (t.p.region r).tickSent = true ∧ (t.p.region r).stopTick = true
        ∧ (∃ x ∈ t.p.servo.tickMsgs, x.1 = t.p.field sitePD (Csr.STK_R_NEXT_TICK r)) ∧ t.mem = s.mem ∧ t.p.time = s.p.time)
    ∧ (s.seen.mayTick r = true → (s.seen.stampTick r).stopsNext r = false →
      exec (.tickSend r) s = .next (s.store fun _ p =>
        (((p.stampTick r).drawTick r).modRegion r fun g => { g with tickSent := true, stopTick := false }).postTick r)
      ∧ ∃ t, exec (.tickSend r) s = .next t
        ∧ (t.p.region r).tickSent = true ∧ (t.p.region r).stopTick = false ∧ t.p.time = s.p.time))
  ∧ (∀ (s : State) (site r : Nat) (peaks : List Nat),
    let ticks (v : Panel) : Prop := exec (.strokeTick site r peaks) s = .next (s.store fun _ _ => v)
    ((s.p.servo.tickMsgs.find? fun x => bitOf x.2 r) = none → exec (.tickMessage site r) s = .next (s.store fun _ p => p))
    ∧ (∀ x, (s.p.servo.tickMsgs.find? fun x => bitOf x.2 r) = some x →
      let p := s.seen.modClock site fun k => { k with ticks := k.ticks ++ [x] }
      (p.dieTime site ≤ x.1 → exec (.tickMessage site r) s = .next (s.store fun _ _ => p))
      ∧ (x.1 < p.dieTime site →
        exec (.tickMessage site r) s = .next (s.store fun _ _ => (p.raise site 0x0306).dieTick site r x.1 [])))
    ∧ (site ≠ s.p.primary → ((s.seen.clock site).ticks.find? fun x => bitOf x.2 r) = none → ticks s.seen)
    ∧ (∀ x, site ≠ s.p.primary → ((s.seen.clock site).ticks.find? fun x => bitOf x.2 r) = some x →
      let heard := s.seen.modClock site fun k => { k with ticks := k.ticks.filter fun y => !(y.1 = x.1 && bitOf y.2 r) }
      (400 ≤ site → ticks ((heard.modMemDie site fun d => { d with slotsFull := false }).each (linkCounts site)
        fun p f => p.latch site f))
      ∧ (site < 400 → s.seen.regionOf site ≠ some r → ticks heard)
      ∧ (site < 400 → s.seen.regionOf site = some r → s.seen.isSet site Csr.STK_STATUS_SLURRING = true → ticks s.seen)
      ∧ (site < 400 → s.seen.regionOf site = some r → s.seen.isSet site Csr.STK_STATUS_SLURRING = false →
        let p := s.seen.regulatorPeaks site peaks
        (p.isSet site Csr.STK_STATUS_IN_STROKE = true →
          ticks (((p.setFlag site Csr.STK_STATUS_SLURRING true).count site Csr.STK_SLUR_COUNT 1).setField site Csr.STK_GUTTER_MIN 0))
        ∧ (p.isSet site Csr.STK_STATUS_IN_STROKE = false → p.isSet site Csr.STK_STATUS_ENDED = true →
          let q := p.modClock site fun k => { k with ticks := k.ticks.filter fun y => !(y.1 = x.1 && bitOf y.2 r) }
          ticks (q.nextStroke site r x.1 (x.1 - (q.clock site).strokeEnd)))
        ∧ (p.isSet site Csr.STK_STATUS_IN_STROKE = false → p.isSet site Csr.STK_STATUS_ENDED = false →
          let q := p.modClock site fun k => { k with ticks := k.ticks.filter fun y => !(y.1 = x.1 && bitOf y.2 r) }
          let q := (q.closeDie site r).tickValues site
          ticks (if q.noNextStroke r then q else q.beginStroke site r (q.field site Csr.STK_STROKE) x.1))))
    ∧ (site = s.p.primary →
      (s.p.boot.halted = true ∨ (s.seen.region r).tickSent = false ∨ s.seen.isSet sitePD (Csr.STK_R_CTRL_ENABLE r) = false →
        ticks s.seen)
      ∧ (s.p.boot.halted = false → (s.seen.region r).tickSent = true → s.seen.isSet sitePD (Csr.STK_R_CTRL_ENABLE r) = true →
        (s.seen.region r).stopTick = false → ∃ t, exec (.strokeTick site r peaks) s = .next t
          ∧ (t.p.region r).tickSent = false ∧ (t.p.region r).first = false
          ∧ (t.p.region r).tickAt = s.p.field sitePD (Csr.STK_R_NEXT_TICK r) ∧ t.p.time = s.p.time
          ∧ ((s.p.region r).first = true → (t.p.region r).slurOpen = false))))
  ∧ (∀ (s : State) (site r : Nat),
    (s.seen.regionOf site = none → exec (.endOfStroke site) s = .next (s.store fun _ p => p)
      ∧ exec (.strokeEndReport site) s = .next (s.quiet id))
    ∧ (s.seen.regionOf site = some r → s.seen.isSet site Csr.STK_STATUS_IN_STROKE = false ∨ s.seen.strokeDone site = false →
      exec (.endOfStroke site) s = .next (s.store fun _ p => p))
    ∧ (s.seen.regionOf site = some r → s.seen.isSet site Csr.STK_STATUS_IN_STROKE = true → s.seen.strokeDone site = true →
      exec (.endOfStroke site) s = .next (s.store fun _ p => p.endStroke site)
      ∧ ((s.seen.meshFinish site).isSet site Csr.STK_STATUS_SLURRING = false →
        ∃ t, exec (.endOfStroke site) s = .next t ∧ t.p.isSet site Csr.STK_STATUS_IN_STROKE = false
        ∧ t.p.isSet site Csr.STK_STATUS_ENDED = true ∧ t.p.isSet site Csr.STK_SEQ_STATUS_ISSUING = false
        ∧ (t.p.clock site).endDue = true ∧ t.p.time = s.p.time))
    ∧ (s.seen.regionOf site = some r → (s.seen.clock site).endDue = false → exec (.strokeEndReport site) s = .next (s.quiet id))
    ∧ (s.seen.regionOf site = some r → (s.seen.clock site).endDue = true → (s.seen.region r).lateEnds.contains site = false →
      ∃ t, exec (.strokeEndReport site) s = .next t ∧ (t.p.clock site).endDue = false
        ∧ (t.p.region r).ended = SMap.insert (s.p.region r).ended site (s.p.clock site).strokeEnd
        ∧ t.p.csr = s.p.csr ∧ t.mem = s.mem ∧ t.p.time = s.p.time)
    ∧ (s.seen.regionOf site = some r → (s.seen.clock site).endDue = true → (s.seen.region r).lateEnds.contains site = true →
      let q := (s.seen.modClock site fun k => { k with endDue := false }).modRegion r fun g =>
        { g with lateEnds := g.lateEnds.filter (· ≠ site), begun := max g.begun (s.seen.clock site).strokeEnd }
      ((q.region r).lateEnds ≠ [] → exec (.strokeEndReport site) s = .next (s.quiet fun _ => q))
      ∧ ((q.region r).lateEnds = [] → exec (.strokeEndReport site) s = .next (s.quiet fun _ => q.slurOver r))))

/-- SLUR_LIMIT_EXPIRED and STEP_ANNOUNCE (R94, R97): a slur open at its limit aborts its region with 0x0202; an announced step is
shown and kept for the next tick.

SHEET_COMMIT, SETMARK_ACK and SETOFF_ACK_WAIT_EXPIRED (R99, R286, R287, R289, R409): a sheet commits only when one is due; one with an
open mark is skipped with 0x0204, and past the limit of skipped sheets aborts with 0x1206; one whose record cannot be written raises
0x0205; any other tries the switch asked for, asks the partners, or writes the record at once where no shard is mirrored, and stops a
region that stops; the last answer awaited writes the record, one that nothing awaits raises 0x0821, and the answer to a marker of a
resync mirrors its shards again with 0x0823.

Completes, with its own effect as its conclusion (`exec … = .next …`): `.slurLimitExpired`, `.stepAnnounce`, `.sheetCommit`,
`.setoffAckWaitExpired`, `.setmarkAck`. -/
def Obligations.SlursAndSheets : Prop := 
  (∀ (s : State) (r d : Nat),
    ((s.seen.region r).slurOpen = true → exec (.slurLimitExpired r) s = .next (s.quiet fun p => p.raiseAbort r 0x0202))
    ∧ ((s.seen.region r).slurOpen = false → exec (.slurLimitExpired r) s = .next (s.quiet id))
    ∧ (∃ t, exec (.stepAnnounce r d) s = .next t ∧ (t.p.region r).step = some (d % 2 ^ 24)
        ∧ t.p.field sitePD (Csr.STK_R_STEP r) = d % 2 ^ (Csr.STK_R_STEP r).width ∧ t.mem = s.mem ∧ t.p.time = s.p.time
        ∧ ∀ q, q ≠ r → t.p.region q = s.p.region q))
  ∧ (∀ (s : State) (r ctx sheet : Nat),
    ((s.seen.region r).commitDue = none → ∀ ok, exec (.sheetCommit r ok) s = .next (s.store fun _ p => p))
    ∧ (∀ j ok, (s.seen.region r).commitDue = some j →
      let p := s.seen.modRegion r fun g => { g with commitDue := none }
      let marked := p.contain.marks.any fun k => k.region = r && k.stroke < (j + 1) * s.seen.sheetLen r
      (marked = true →
        let q := ((p.raiseRegion r 0x0204).count sitePD (Csr.ERR_R_STATE_SKIPPED r) 1).deferSwitch r
        exec (.sheetCommit r ok) s = .next (s.store fun _ _ =>
          if q.field sitePD (Csr.ERR_R_CFG_OPEN_SHEETS r) < q.field sitePD (Csr.ERR_R_STATE_SKIPPED r) then q.raiseAbort r 0x1206
          else q.runOn r))
      ∧ (marked = false → ok = false ∨ p.populated (p.recordSlot s.mem r) = false →
        exec (.sheetCommit r ok) s = .next (s.store fun _ _ => ((p.raiseRegion r 0x0205).deferSwitch r).runOn r))
      ∧ (marked = false → ok = true → p.populated (p.recordSlot s.mem r) = true →
        exec (.sheetCommit r ok) s = .next (s.store fun m _ =>
          let q := p.trySwitch m r
          (q.askPartners m { region := r, sheet := j, ctxs := [], stroke := (j + 1) * s.seen.sheetLen r, imposition := q.impOf r
                             tick := (s.seen.region r).tickAt }).stopAtCommit r)))
    ∧ (let msg := NetMsg.setmarkAck ctx sheet
      let p := s.seen.arrive msg
      (s.seen.net.contains msg = false → exec (.setmarkAck ctx sheet) s = .next (s.store fun _ p => p))
      ∧ (s.seen.net.contains msg = true → s.p.fabric.shards = [] → s.p.fabric.waits = [] →
        exec (.setmarkAck ctx sheet) s = .next (s.store fun _ _ => p.raise p.primary 0x0821))
      ∧ (∀ w, s.seen.net.contains msg = true → s.p.fabric.resync = [] → p.sheetWait (fun w => w.sheet = sheet && w.ctxs.contains ctx) = some w →
        let q := p.each (p.fabric.shards.filter fun h => h.send && !h.stream && h.ctx = ctx) fun p h =>
          p.setField sitePD (Csr.GAL_SO_ACKED h.shard) sheet
        let left := (q.stillAwaited w).filter (· ≠ ctx)
        (left = [] → exec (.setmarkAck ctx sheet) s = .next (s.store fun m _ => (q.endWait w []).writeRecord m w true))
        ∧ (left ≠ [] → exec (.setmarkAck ctx sheet) s = .next (s.store fun _ _ => q.endWait w left)))
      ∧ (∀ h n, s.seen.net.contains msg = true → s.p.fabric.shards = [h] → h.send = true → h.stream = false → h.ctx = ctx →
        s.p.fabric.resync = [(h.shard, some n)] → n ≤ sheet → s.p.fabric.waits = [] →
        exec (.setmarkAck ctx sheet) s = .next (s.store fun _ _ =>
          let q := p.setField sitePD (Csr.GAL_SO_ACKED h.shard) sheet
          let q := { q with fabric := { q.fabric with resync := [] } }
          (q.setField sitePD Csr.GAL_SO_UNMIRRORED (putBits (q.field sitePD Csr.GAL_SO_UNMIRRORED) h.shard 1 0)).raiseRegion h.region
            0x0823)))
    ∧ ((s.seen.sheetWait fun w => w.region = r) = none →
      exec (.setoffAckWaitExpired r) s = .next (s.store fun _ p => p))
    ∧ (∀ w, (s.seen.sheetWait fun w => w.region = r) = some w →
      exec (.setoffAckWaitExpired r) s = .next (s.store fun m p => (p.endWait w []).writeRecord m w (p.stillAwaited w).isEmpty)))

/-- REGISTER_WRITE (R5, R535): a write that a running region locks out is ignored; any other goes to its register, and a host's or manager's
leaves the settings bits as they are; a write of CLK_FORCED_STRETCH of a compute die changes that one word, by its bits' types,
and nothing else.

Completes, with its own effect as its conclusion (`exec … = .next …`): `.registerWrite`. -/
def Obligations.RegisterWriteChangesItsWord : Prop := ∀ (s : State) (src site off : Nat) (v : Word),
  (s.seen.writeLocked site off = true →
    exec (.registerWrite src site off v) s = .next (s.act fun _ p => p))
  ∧ (s.seen.writeLocked site off = false →
    exec (.registerWrite src site off v) s = .next (s.act fun m p =>
      p.writeAny m (src % 3) site (off / 4 * 4) (p.permitted (src % 3) site (off / 4 * 4) v)))
  ∧ (let o := Csr.CLK_FORCED_STRETCH.off
    s.seen.writeLocked site o = false → s.p.boot.cold = false → dieClass site = .compute →
    ∃ t, exec (.registerWrite src site o v) s = .next t ∧ t.p = s.seen.csrWrite site o v ∧ t.mem = s.mem)

/-- COLD_RESET, PANEL_RST_ASSERT and RESET_COLD_REQUEST (R282, R491, R492, R502): a cold reset starts panel time again from zero, locks no
region up, leaves nothing under way on the fabric, clears the whole memory to what unlisted memory reads as with every channel's fox
table set, keeps the fuses of the owner's keys, and boots the four corner dies; PANEL_RST, while it is low, holds the panel as a cold
reset leaves it; a request is refused while a cold reset runs, and without power or under PANEL_RST does nothing.

RESET_WARM, RESET_COMPUTE, RESET_REGION, RESET_DIE and RESET_CLUSTER (R502, R503): a request that is refused sets REFUSED and
does nothing else, one that must wait is kept, and one that is granted runs its reset.

Completes, with its own effect as its conclusion (`exec … = .next …`): `.coldReset`, `.panelRstAssert`, `.resetColdRequest`,
`.resetWarm`, `.resetCompute`, `.resetRegion`, `.resetDie`, `.resetCluster`. -/
def Obligations.Resets : Prop := 
  (∀ (s : State) (failed : List (Nat × Nat)) (streams : List (Nat × List Nat)),
    let cleared : List MemWrite := [{ addr := 0, clear := 2 ^ 48, foxChannels := List.range 256, fox := none, parity := none }]
    (exec (.coldReset failed streams) s = .next (s.act fun _ p =>
        (p.modBoot fun b => { b with pwrGood := true, rstLow := false }).coldReset failed streams))
    ∧ (∃ t, exec (.coldReset [] []) s = .next t ∧ t.p.time = {} ∧ t.p.regions = [] ∧ t.p.net = []
      ∧ t.mem = s.mem.apply cleared ∧ t.p.fuses.owner = s.p.fuses.owner ∧ t.p.boot.pwrGood = true ∧ t.p.boot.rstLow = false
      ∧ t.pending = s.pending)
    ∧ (s.p.boot.pwrGood = false → ∃ t, exec .panelRstAssert s = .next t ∧ t.p.time = {} ∧ t.p.regions = [] ∧ t.p.net = []
      ∧ t.mem = s.mem.apply cleared ∧ t.p.fuses.owner = s.p.fuses.owner ∧ t.p.boot.rstLow = true ∧ t.pending = s.pending)
    ∧ (s.p.boot.pwrGood = true → exec .panelRstAssert s = .next (s.act fun _ p =>
        (p.modBoot fun b => { b with rstLow := true }).coldClear.each [sitePD, siteHD, siteTD, siteAD] fun p x => p.bootDie [] x))
    ∧ (s.seen.coldRuns = true →
      exec (.resetColdRequest streams) s = .next (s.act fun _ p => p.setFlag sitePD Csr.PWR_RST_STATUS_REFUSED true))
    ∧ (s.seen.coldRuns = false → s.p.boot.pwrGood = false ∨ s.p.boot.rstLow = true →
      exec (.resetColdRequest streams) s = .next (s.act fun _ p => p))
    ∧ (s.seen.coldRuns = false → s.p.boot.pwrGood = true → s.p.boot.rstLow = false →
      exec (.resetColdRequest streams) s = .next (s.act fun _ p => p.coldReset [] streams)))
  ∧ (∀ (s : State) (src r site cl : Nat),
    let answered (c : Instr) (scope region st k : Nat) (run : Mem → Panel → Panel) : Prop :=
      (s.seen.resetAnswer (src % 3) scope region st k = 0 →
        exec c s = .next (s.store fun _ p => p.setFlag sitePD Csr.PWR_RST_STATUS_REFUSED true))
      ∧ (s.seen.resetAnswer (src % 3) scope region st k = 1 → exec c s = .next (s.store run))
      ∧ (s.seen.resetAnswer (src % 3) scope region st k = 2 →
        exec c s = .next (s.store fun _ p => p.modBoot fun b => { b with resetWaits := some (scope, st, k) }))
    answered (.resetWarm src) 2 0 0 0 (fun _ p => p.warmReset)
    ∧ answered (.resetCompute src) 3 0 0 0 (fun m p => p.computeReset m)
    ∧ answered (.resetRegion src r) 4 r 0 0 (fun _ p => p.regionReset r)
    ∧ answered (.resetCluster src site cl) 6 0 site cl (fun _ p => p.clusterReset site cl)
    ∧ (s.p.boot.resetting = some (5, site, 0) → ∀ failed reports wires raws,
      exec (.resetDie src site failed reports wires raws) s = .next (s.store fun m p => p.dieReset m site failed reports wires raws))
    ∧ (s.p.boot.resetting ≠ some (5, site, 0) → s.seen.resetAnswer (src % 3) 5 0 site 0 = 0 → ∀ failed reports wires raws,
      exec (.resetDie src site failed reports wires raws) s = .next (s.store fun _ p =>
        p.setFlag sitePD Csr.PWR_RST_STATUS_REFUSED true))
    ∧ (s.p.boot.resetting ≠ some (5, site, 0) → s.seen.resetAnswer (src % 3) 5 0 site 0 = 2 → ∀ failed reports wires raws,
      exec (.resetDie src site failed reports wires raws) s = .next (s.store fun _ p =>
        p.modBoot fun b => { b with resetWaits := some (5, site, 0) }))
    ∧ (s.p.boot.resetting ≠ some (5, site, 0) → s.seen.resetAnswer (src % 3) 5 0 site 0 = 1 → ∀ failed reports wires raws,
      exec (.resetDie src site failed reports wires raws) s = .next (s.store fun m p =>
        (p.beginReset 5 site 0).dieReset m site failed reports wires raws)))

/-- FLASH_FREE, POWER_WAVE_SLOT, PROOF_REPORT_DEADLINE, CORNER_PROOF_SLOT, BCAST_VERIFY_REPORT and BRING_UP_READY (R37, R42, R43, R317,
R494 to R496): each acts only in its phase of bring-up; AD checks its image when the flash is free and stands by; each of forty waves
boots its dies, trains and forgets the reports of those under proof, and moves on; the deadline collects the reports of the last
wave and raises 0x0E07 for a die without answer; slot 40 judges the corners, takes over or stops with 0x0E0C, merges the plan, rigs the
tree and registers the dies; a failed verification sends the image again; at ready the clusters go dark and READY reads 1.

PLDM_FIRMWARE_UPDATE (R494, R535): outside the boot ROM the chunk goes to the image that is not running and the last one commits
it; in the boot ROM it goes to image 0, and the last one checks it: a bad image raises its code, a good one runs at the next cold reset.

Completes, with its own effect as its conclusion (`exec … = .next …`): `.flashFree`, `.powerWaveSlot`,
`.proofReportDeadline`, `.cornerProofSlot`, `.bringUpReady`, `.bcastVerifyReport`, `.pldmFirmwareUpdate`. -/
def Obligations.BringUpAndFirmware : Prop := 
  (∀ (s : State) (site : Nat),
    (s.p.tack.frames.contains .flashFree = false → exec .flashFree s = .next (s.quiet id))
    ∧ (s.p.tack.frames.contains .flashFree = true →
      ∃ t, exec .flashFree s = .next t ∧ .flashFree ∉ t.p.tack.frames ∧ t.mem = s.mem ∧ t.p.time = s.p.time
        ∧ t.p.isSet sitePD Csr.PWR_RST_STATUS_AD_STANDBY = (s.p.imageCode (s.p.field sitePD Csr.PWR_RST_STATUS_IMAGE)).isNone)
    ∧ (s.p.boot.phase ≠ .waves → ∀ f c w r d l,
      exec (.powerWaveSlot f c w) s = .next (s.store fun _ p => p) ∧ exec .proofReportDeadline s = .next (s.store fun _ p => p)
      ∧ exec (.cornerProofSlot r d l) s = .next (s.store fun _ p => p))
    ∧ (s.p.boot.phase = .waves → s.p.boot.slot < 40 → ∀ f c w,
      exec (.powerWaveSlot f c w) s = .next (s.store fun m p => p.waveSlot m f c w)
      ∧ ∃ t, exec (.powerWaveSlot f c w) s = .next t ∧ t.p.boot.slot = s.p.boot.slot + 1 ∧ t.p.time = s.p.time)
    ∧ (s.p.boot.phase = .waves → 40 ≤ s.p.boot.slot → ∀ f c w,
      exec (.powerWaveSlot f c w) s = .next (s.store fun _ p => p))
    ∧ (s.p.boot.phase = .waves → s.p.boot.slot = 0 → exec .proofReportDeadline s = .next (s.store fun _ p => p))
    ∧ (s.p.boot.phase = .waves → s.p.boot.slot ≠ 0 →
      let test := (provedIn (s.p.boot.slot - 1)).filter fun x => !s.seen.noPower x
      exec .proofReportDeadline s = .next (s.store fun _ p =>
        ((p.collectReports test).each (test.filter (· < 400)) fun p x => p.memoryBist x 31).each test fun p x =>
          p.raiseIf ((p.testers p.plan.reports x).any fun t => outcomeOf p.plan.reports t x 1 = some .noResponse) p.primary 0x0E07))
    ∧ (s.p.boot.phase = .waves → s.p.boot.slot < 40 → ∀ r d l,
      exec (.cornerProofSlot r d l) s = .next (s.store fun _ p => p))
    ∧ (s.p.boot.phase = .waves → 40 ≤ s.p.boot.slot → ∀ r d l,
      let corners := [sitePD, siteHD, siteTD, siteAD]
      let judged := if s.p.boot.cornerSlot then
          ((s.seen.each corners fun p c => p.foldLog c).collectReports corners).judge allSites
        else s.seen.judge (List.range 464)
      let q := (judged.stepDone 8).stepDone 9
      let pd := q.mergedState sitePD 1 = .good
      let ad := q.mergedState siteAD 1 = .good ∧ q.isSet sitePD Csr.PWR_RST_STATUS_AD_STANDBY = true
      (¬ pd → ¬ ad → exec (.cornerProofSlot r d l) s = .next (s.store fun _ _ => (q.raise q.primary 0x0E0C).bootFailed 9 .stopped))
      ∧ (pd ∨ ad → ∃ t, exec (.cornerProofSlot r d l) s = .next t ∧ t.p.boot.phase = .rigging ∧ t.p.boot.slot = 41
          ∧ t.p.time = s.p.time))
    ∧ (exec (.bcastVerifyReport site false) s = .next (s.store fun _ p => (p.bcastVerified site false).darkenBad))
    ∧ (exec (.bcastVerifyReport site true) s = .next (s.store fun _ p =>
        ({ p with fabric := { p.fabric with bcastTries := SMap.set (fun _ => 0) p.fabric.bcastTries site 0 } } : Panel).darkenBad))
    ∧ (s.p.boot.phase ≠ .rigging → exec .bringUpReady s = .next (s.store fun _ p => p))
    ∧ (s.p.boot.phase = .rigging → ∃ t, exec .bringUpReady s = .next t ∧ t.p.boot.phase = .ready ∧ t.p.boot.resetting = none
        ∧ t.p.isSet sitePD Csr.PWR_RST_STATUS_READY = true ∧ t.p.isSet sitePD Csr.PWR_RST_STATUS_BUSY = false ∧ t.p.time = s.p.time))
  ∧ (∀ (s : State) (off : Nat) (d : List Byte),
    (s.p.boot.phase ≠ .rom → exec (.pldmFirmwareUpdate off d false) s = .next (s.quiet fun p => (p.writeChunk p.otherImage off d).2.2)
      ∧ exec (.pldmFirmwareUpdate off d true) s = .next (s.quiet fun p => (p.writeChunk p.otherImage off d).2.2.commitImage.2.2))
    ∧ (s.p.boot.phase = .rom →
      let q := (s.seen.writeChunk 0 off d).2.2
      exec (.pldmFirmwareUpdate off d false) s = .next (s.quiet fun _ => q)
      ∧ (q.imageCode 0 = none → exec (.pldmFirmwareUpdate off d true) s = .next (s.quiet fun _ => q))
      ∧ (∀ code, q.imageCode 0 = some code → exec (.pldmFirmwareUpdate off d true) s = .next (s.quiet fun _ => q.raise q.primary code))))

/-- FRM_START, FRM_ABORT and the lock-up's drains (R385, R387, R391, R393, R396, R404, R406): a start while busy or before READY raises 0x0110;
a header that fails its form ends in phase 10 with 0x0101, a wrong signature raises its code, a failed check ends in phase 10 with that
check's code; a forme that passes shows its total and goes to phase 6, to its region's stop, to the flip of its routes, or, a patch, ends; an
abort acts in phases 1 to 3 only; each drain acts in its own phase, once the old routes have drained, and moves the lock-up on.

Completes, with its own effect as its conclusion (`exec … = .next …`): `.frmStart`, `.frmAbort`, `.lockupDetourDrained`,
`.lockupTiedDrained`, `.lockupFinalDrained`. -/
def Obligations.LockUpCommands : Prop := ∀ (s : State),
  let ph := s.seen.field sitePD Csr.FRM_STATUS_PHASE
  let p := s.seen.setFlag sitePD Csr.FRM_CTRL_START false
  let b := p.formeAddr
  let x := p.formeCtx s.mem b
  let headed := s.seen.isSet sitePD Csr.FRM_STATUS_BUSY = false ∧ s.seen.isSet sitePD Csr.PWR_RST_STATUS_READY = true
    ∧ p.headerOk s.mem b (p.field sitePD Csr.FRM_SRC_LEN) = true
  let shown := (p.raiseIf (s.mem.nat (b + 7) 1 = 0 && !x.digestSame) p.primary 0x0120).showForme s.mem b
  let begun := ((shown.setField sitePD Csr.FRM_STATUS_TOTAL (x.regs.map fun d => d.rec_.sites.length).sum).phase 1).phase 2
  let digest := Config.sha384 (s.mem.read b (sigOffset s.mem b))
  let locked : Panel := { begun with lockUp :=
    { kind := x.kind, defs := x.regs, panel := x.secs.filter fun s => s.type ≤ 4, contain := s.mem.nat (b + 0x56) 1
      mergeSeq := begun.field sitePD Csr.BST_FP_SEQ, exact := s.mem.nat (b + 7) 1 = 1
      hasRoutes := x.kind = 1 && !(ofType x.secs 4).isEmpty, digest := digest } }
  (s.seen.isSet sitePD Csr.FRM_STATUS_BUSY = true ∨ s.seen.isSet sitePD Csr.PWR_RST_STATUS_READY = false →
    exec .frmStart s = .next (s.store fun _ _ => p.raise p.primary 0x0110))
  ∧ (s.seen.isSet sitePD Csr.FRM_STATUS_BUSY = false → s.seen.isSet sitePD Csr.PWR_RST_STATUS_READY = true →
    p.headerOk s.mem p.formeAddr (p.field sitePD Csr.FRM_SRC_LEN) = false →
    ∃ t, exec .frmStart s = .next t ∧ t.p.field sitePD Csr.FRM_STATUS_PHASE = 10 ∧ t.p.isSet sitePD Csr.FRM_STATUS_BUSY = false
      ∧ t.p.field sitePD Csr.FRM_DETAIL_CODE = 0x0101 % 2 ^ Csr.FRM_DETAIL_CODE.width
      ∧ t.p.regions = s.p.regions ∧ t.p.time = s.p.time)
  ∧ (∀ code, headed → p.verifyForme s.mem b = some code →
    exec .frmStart s = .next (s.store fun _ _ => p.raise p.primary code))
  ∧ (∀ bad claims, headed → p.verifyForme s.mem b = none → x.firstBad = some (bad, claims) →
    exec .frmStart s = .next (s.store fun m _ => (p.showForme m b).refuseForme bad claims))
  ∧ (headed → p.verifyForme s.mem b = none → x.firstBad = none →
    (∀ d ds, x.kind = 2 → x.regs = d :: ds → exec .frmStart s = .next (s.store fun m _ => locked.applyPatch m d digest))
    ∧ (∀ d ds, x.kind = 1 → x.regs = d :: ds →
      (locked.lockUp.hasRoutes = true → exec .frmStart s = .next (s.store fun m _ => (locked.phase 3).lockFlip m 0))
      ∧ (locked.lockUp.hasRoutes = false → exec .frmStart s = .next (s.store fun _ _ => locked.awaitStop d.region)))
    ∧ ((x.kind ≠ 1 ∧ x.kind ≠ 2) ∨ x.regs = [] → exec .frmStart s = .next (s.store fun _ _ => locked.phase 6)))
  ∧ (ph = 0 ∨ 3 < ph → exec .frmAbort s = .next (s.store fun _ p => p.setFlag sitePD Csr.FRM_CTRL_ABORT false))
  ∧ (1 ≤ ph → ph ≤ 3 → exec .frmAbort s = .next (s.store fun m p => (p.setFlag sitePD Csr.FRM_CTRL_ABORT false).endLockUp m 11))
  ∧ (ph ≠ 3 → exec .lockupDetourDrained s = .next (s.store fun _ p => p))
  ∧ (ph ≠ 5 → ph ≠ 6 → exec .lockupTiedDrained s = .next (s.store fun _ p => p))
  ∧ (ph ≠ 7 → exec .lockupFinalDrained s = .next (s.store fun _ p => p))
  ∧ (s.seen.lockUp.flipWaits = true →
    (ph = 3 → exec .lockupDetourDrained s = .next (s.store fun m p => p.lockFlip m 0))
    ∧ (ph = 7 → exec .lockupFinalDrained s = .next (s.store fun m p => p.lockFlip m 1)))
  ∧ (s.seen.lockUp.flipWaits = false → s.seen.lockDrained = false →
    (ph = 3 → exec .lockupDetourDrained s = .next (s.store fun _ p => p))
    ∧ (ph = 7 → exec .lockupFinalDrained s = .next (s.store fun _ p => p)))
  ∧ (ph = 3 → s.seen.lockUp.flipWaits = false → s.seen.lockDrained = true → ∀ r rs, s.seen.lockRegions = r :: rs →
    exec .lockupDetourDrained s = .next (s.store fun _ p => p.awaitStop r))
  ∧ (ph = 5 ∨ ph = 6 →
    let q : Panel := { s.seen with lockUp := { s.seen.lockUp with mergeSeq := s.seen.field sitePD Csr.BST_FP_SEQ } }
    (s.seen.recheckFails s.mem = true →
      exec .lockupTiedDrained s = .next (s.store fun m p => (p.each p.lockRegions fun p r => p.stayTied r 0x0105).endLockUp m 11))
    ∧ (s.seen.recheckFails s.mem = false → q.lockUp.powering = true →
      exec .lockupTiedDrained s = .next (s.store fun m _ => q.endLoad m))
    ∧ (s.seen.recheckFails s.mem = false → q.lockUp.powering = false →
      (q.lockRegions.all q.galleysIdle = false ∨ q.lockBist = true → exec .lockupTiedDrained s = .next (s.store fun _ _ => q))
      ∧ (q.lockRegions.all q.galleysIdle = true → q.lockBist = false →
        exec .lockupTiedDrained s = .next (s.store fun m _ => (q.beginLoad m).endLoad m))))
  ∧ (ph = 7 → s.seen.lockUp.flipWaits = false → s.seen.lockDrained = true →
    exec .lockupFinalDrained s = .next (s.store fun m p => ((p.phase 8).each p.lockRegions fun p r => p.beginService r).endLockUp m 9))

/-- PERST, PCIE_LINK_DOWN, PCIE_LINK_UP and PCIE_POWER_STATE (R507, R520): a lost link or PERST raises 0x1008 and takes LINK_UP away,
PERST with all of the host block's state; a link up shows its speed and width, and D3 is shown only while the link is up.

BAR0_ACCESS, BAR2_ACCESS and HST_B2_BASE_WRITE (R17, R508 to R513): an access of another size or alignment is answered as unsupported; a
read of the reserved range answers zeros and a write of it is discarded; a read of a die that does not answer gives all ones,
and its write nothing, with 0x1001; an access of memory in self-refresh is held, and any other writes its rows or reads them, with 0x1003
where memory is not reachable; a new base waits for the accesses that are held.

Completes, with its own effect as its conclusion (`exec … = .next …`): `.perst`, `.pcieLinkDown`, `.pciePowerState`,
`.bar0Access`, `.bar2Access`, `.hstB2BaseWrite`, `.pcieLinkUp`. -/
def Obligations.HostLinkAndWindows : Prop := 
  (∀ (s : State),
    (∃ t, exec .perst s = .next t ∧ t.p.isSet siteHD Csr.HST_STATUS_LINK_UP = false ∧ t.p.host = {} ∧ t.mem = s.mem
        ∧ t.p.time = s.p.time)
    ∧ (∃ t, exec .pcieLinkDown s = .next t ∧ t.p.isSet siteHD Csr.HST_STATUS_LINK_UP = false
        ∧ t.p.field siteHD Csr.HST_STATUS_SPEED = 0 ∧ t.p.host.held = [] ∧ t.mem = s.mem ∧ t.p.time = s.p.time)
    ∧ (∀ speed width, s.seen.lives siteHD = false ∨ s.p.contain.lost.contains siteHD = true →
      exec (.pcieLinkUp speed width) s = .next (s.quiet id))
    ∧ (∀ speed width, s.seen.lives siteHD = true → s.p.contain.lost.contains siteHD = false →
      ∃ t, exec (.pcieLinkUp speed width) s = .next t ∧ t.p.isSet siteHD Csr.HST_STATUS_LINK_UP = true
        ∧ t.p.field siteHD Csr.HST_STATUS_SPEED = speed % 2 ^ Csr.HST_STATUS_SPEED.width
        ∧ t.p.field siteHD Csr.HST_STATUS_WIDTH = min 16 width % 2 ^ Csr.HST_STATUS_WIDTH.width
        ∧ t.p.tack = s.p.tack ∧ t.mem = s.mem ∧ t.p.time = s.p.time)
    ∧ (∀ d3, s.seen.isSet siteHD Csr.HST_STATUS_LINK_UP = true →
      exec (.pciePowerState d3) s = .next (s.quiet fun p => p.setFlag siteHD Csr.HST_STATUS_D3 d3))
    ∧ (∀ d3, s.seen.isSet siteHD Csr.HST_STATUS_LINK_UP = false → exec (.pciePowerState d3) s = .next (s.quiet id)))
  ∧ (∀ (s : State) (off size data : Nat),
    (s.seen.hostUp = false ∨ 0x10000000 ≤ off → ∀ w, exec (.bar0Access w off size data) s = .next (s.store fun _ p => p))
    ∧ (s.seen.hostUp = true → off < 0x10000000 →
      ((size ≠ 4 ∧ size ≠ 8) ∨ off % size ≠ 0 → ∀ w,
        exec (.bar0Access w off size data) s = .next (s.store fun _ p => p.emit .unsupported))
      ∧ ((size = 4 ∨ size = 8) → off % size = 0 →
        (s.seen.bar0Target off = none →
          exec (.bar0Access true off size data) s = .next (s.store fun _ p => p)
          ∧ exec (.bar0Access false off size data) s = .next (s.store fun _ p => p.emit (.hostData (List.replicate size 0) false)))
        ∧ (∀ st o, s.seen.bar0Target off = some (st, o) → st ≠ siteHD → s.seen.answers st = false →
          exec (.bar0Access true off size data) s = .next (s.store fun _ p => p.raise siteHD 0x1001)
          ∧ exec (.bar0Access false off size data) s = .next (s.store fun _ p =>
              (p.emit (.hostData (List.replicate size 0xFF) false)).raise siteHD 0x1001))
        ∧ (∀ st o, s.seen.bar0Target off = some (st, o) → st = siteHD ∨ s.seen.answers st = true →
          exec (.bar0Access true off size data) s = .next (s.store fun m p => p.regWrites m 1 st o (wordsOf (leBytes size data)))
          ∧ exec (.bar0Access false off size data) s = .next (s.store fun _ p =>
              (p.regReads st o (size / 4)).2.emit (.hostData (p.regReads st o (size / 4)).1 false)))))
    ∧ (∀ d n, let p := s.seen.releaseHeld s.mem
      let at_ := p.b2Base + off
      (p.hostUp = false ∨ 2 ^ 36 ≤ off → exec (.bar2Access off d n) s = .next (s.store fun _ _ => p))
      ∧ (p.hostUp = true → off < 2 ^ 36 → p.bar2Holds at_ = true → exec (.bar2Access off d n) s = .next (s.store fun _ _ =>
          { p with host := { p.host with held := p.host.held ++ [⟨at_, d, n⟩] } }))
      ∧ (p.hostUp = true → off < 2 ^ 36 → p.bar2Holds at_ = false →
        (d = none → let x := p.outsideRows s.mem (at_ / 64 * 64) (rowsTouched at_ n)
          exec (.bar2Access off d n) s = .next (s.store fun _ _ =>
            (x.2.emit (.hostData (sliceBytes (x.1.flatMap (·.data)) (at_ % 64) n) (x.1.any (·.fox)))).raiseIf
              (!p.allReachable at_ n) siteHD 0x1003))
        ∧ (∀ bs, d = some bs → exec (.bar2Access off d n) s = .next (s.store fun m _ =>
            (p.each (rowPieces (bs.length + 1) at_ bs) fun p x => p.outsideWrite m x.1 ⟨x.2, false⟩).raiseIf
              (!p.allReachable at_ bs.length) siteHD 0x1003))))
    ∧ (s.p.host.held = [] → s.p.host.newBase = none → s.seen.releaseHeld s.mem = s.seen
      ∧ ∃ t, exec (.hstB2BaseWrite data) s = .next t
        ∧ t.p.field siteHD Csr.HST_B2_BASE = data % 2 ^ 64 / 2 ^ 36 * 2 ^ 36 % 2 ^ Csr.HST_B2_BASE.width ∧ t.p.time = s.p.time)
    ∧ (s.p.host.held ≠ [] → exec (.hstB2BaseWrite data) s = .next (s.store fun m p =>
        ({ p with host := { p.host with newBase := some (data % 2 ^ 64 / 2 ^ 36 * 2 ^ 36) } } : Panel).releaseHeld m)))

/-- RING_POLL, COPY_IN, COPY_OUT, HOST_SIGNAL, HOST_WAIT, NOTE, HOST_COPY_DONE and HOST_WAIT_TIMEOUT (R17, R514 to R517): a poll that
fails raises 0x1005, one that finds more descriptors than the ring holds disables it with 0x1009, any other accepts at most 32, an
illegal one with 0x1002; each descriptor starts or completes only in its turn: a copy writes or reads its rows, with 0x1003 where memory is
not reachable, and completes when its transfers are done, a SIGNAL adds to its counter, a WAIT completes when its counter has reached its
value or times out with 0x1006.

Completes, with its own effect as its conclusion (`exec … = .next …`): `.ringPoll`, `.copyIn`, `.copyOut`, `.hostSignal`,
`.hostWait`, `.note`, `.hostCopyDone`, `.hostWaitTimeout`. -/
def Obligations.JobRings : Prop := ∀ (s : State) (r seq prod : Nat) (descs : List (List Byte)), r < 16 →
  (s.seen.dmaUp = false ∨ s.seen.isSet siteHD (Csr.HST_RING_ENABLE r) = false → ∀ ok,
    exec (.ringPoll r prod descs ok) s = .next (s.quiet id))
  ∧ (s.seen.dmaUp = true → s.seen.isSet siteHD (Csr.HST_RING_ENABLE r) = true →
    exec (.ringPoll r prod descs false) s = .next (s.quiet fun p => p.raise siteHD 0x1005)
    ∧ (let p := s.seen.setField siteHD (Csr.HST_RING_POLLS r) (s.seen.field siteHD (Csr.HST_RING_POLLS r) + 1)
       let n := (prod + 2 ^ 32 - p.field siteHD (Csr.HST_RING_CONS r)) % 2 ^ 32
       (2 ^ p.acting siteHD (Csr.HST_RING_SIZE r) < n →
          exec (.ringPoll r prod descs true) s = .next (s.quiet fun _ =>
            ((p.setFlag siteHD (Csr.HST_RING_ENABLE r) false).showRings).raise siteHD 0x1009))
       ∧ (n ≤ 2 ^ p.acting siteHD (Csr.HST_RING_SIZE r) →
          exec (.ringPoll r prod descs true) s = .next (s.quiet fun _ => p.acceptDescs r (descs.take (min n 32))))
       ∧ (n ≤ 2 ^ p.acting siteHD (Csr.HST_RING_SIZE r) → ∀ b bs, descs = b :: bs → n = 1 →
          let c := p.field siteHD (Csr.HST_RING_CONS r)
          (descLegal b c = true → exec (.ringPoll r prod descs true) s = .next (s.quiet fun _ =>
            let q := (p.setRing r (p.ring r ++ [parseDesc b])).setField siteHD (Csr.HST_RING_CONS r) ((c + 1) % 2 ^ 32)
            q.emit (.hostWrite (q.field siteHD (Csr.HST_RING_BASE r) + 4) (leBytes 4 ((c + 1) % 2 ^ 32)) false)))
          ∧ (descLegal b c = false → exec (.ringPoll r prod descs true) s = .next (s.quiet fun _ =>
            ((p.setField siteHD (Csr.HST_RING_DONE r) ((p.field siteHD (Csr.HST_RING_DONE r) + 1) % 2 ^ 32)).hostRecord (parseDesc b) 2
              0x1002).raise siteHD 0x1002)))))
  ∧ (s.seen.mayStart r seq = none →
    (∀ rows, exec (.copyIn r seq rows) s = .next (s.store fun _ p => p)) ∧ exec (.copyOut r seq) s = .next (s.store fun _ p => p)
    ∧ exec (.hostSignal r seq) s = .next (s.quiet id) ∧ exec (.note r seq) s = .next (s.quiet id))
  ∧ (∀ d, s.seen.mayStart r seq = some d →
    let far := !s.seen.allReachable d.panelAddr d.length
    (d.op ≠ 1 → ∀ rows, exec (.copyIn r seq rows) s = .next (s.store fun _ p => p))
    ∧ (d.op ≠ 2 → exec (.copyOut r seq) s = .next (s.store fun _ p => p))
    ∧ (d.op ≠ 3 → exec (.hostSignal r seq) s = .next (s.quiet id))
    ∧ (d.op ≠ 5 → exec (.note r seq) s = .next (s.quiet id))
    ∧ (∀ rows, d.op = 1 → let rs := rows.take (d.length / 64)
      exec (.copyIn r seq rows) s = .next (s.store fun m p =>
        ((p.startDesc r d (rs.any (·.fox))).outsideWrites m d.panelAddr rs).raiseIf far siteHD 0x1003))
    ∧ (d.op = 2 → exec (.copyOut r seq) s = .next (s.store fun m p =>
        let x := p.outsideRows m d.panelAddr (d.length / 64)
        ((x.2.startDesc r d (x.1.any (·.fox))).each x.1.zipIdx fun p y =>
          p.emit (.hostWrite (d.hostAddr + 64 * y.2) y.1.data y.1.fox)).raiseIf far siteHD 0x1003))
    ∧ (d.op = 3 → s.seen.running r = true →
      exec (.hostSignal r seq) s = .next (s.quiet fun p =>
        (p.send (.sadd (512 + r) (p.homeSiteOf r d.home) d.idx d.value)).complete r d 0 0))
    ∧ (d.op = 3 → s.seen.running r = false →
      exec (.hostSignal r seq) s = .next (s.quiet fun p => p.complete r d 4 0))
    ∧ (d.op = 4 → exec (.hostWait r seq) s = .next (s.quiet fun p => (p.startDesc r d false).hostWait r seq))
    ∧ (d.op = 5 → exec (.note r seq) s = .next (s.quiet fun p => p.complete r d 0 0)))
  ∧ (∀ d, s.seen.mayStart r seq = none →
      ((s.seen.ring r).find? fun d => d.seq = seq && d.op = 4 && d.started.isSome) = some d →
    (s.seen.running r = false → exec (.hostWait r seq) s = .next (s.quiet fun p => p.complete r d 4 0))
    ∧ (s.seen.running r = true → reached (s.seen.field (s.seen.homeSiteOf r d.home) (Csr.STK_SYNC_CTR d.idx)) d.value = true →
      exec (.hostWait r seq) s = .next (s.quiet fun p => p.complete r d 0 0))
    ∧ (s.seen.running r = true → reached (s.seen.field (s.seen.homeSiteOf r d.home) (Csr.STK_SYNC_CTR d.idx)) d.value = false →
      exec (.hostWait r seq) s = .next (s.quiet id)))
  ∧ (∀ d, ((s.seen.ring r).find? fun d => d.seq = seq && d.op = 4 && d.started.isSome) = some d →
    exec (.hostWaitTimeout r seq) s = .next (s.quiet fun p => (p.complete r d 3 0x1006).raise siteHD 0x1006))
  ∧ (((s.seen.ring r).find? fun d => d.seq = seq && d.op = 4 && d.started.isSome) = none →
    exec (.hostWaitTimeout r seq) s = .next (s.quiet id))
  ∧ (∀ d, ((s.seen.ring r).find? fun d => d.seq = seq && d.op ≤ 2 && d.started.isSome) = some d →
    (s.seen.dmaUp = true → exec (.hostCopyDone r seq) s = .next (s.quiet fun p => p.complete r d (flag d.foxed) 0))
    ∧ (s.seen.dmaUp = false → exec (.hostCopyDone r seq) s = .next (s.quiet id)))
  ∧ (((s.seen.ring r).find? fun d => d.seq = seq && d.op ≤ 2 && d.started.isSome) = none →
    exec (.hostCopyDone r seq) s = .next (s.quiet id))

/-- TACK_HB_SEND, TACK_HB_MISS, LOSS_FRAME, FAULT_FRAME and FAULT_FOLD_EXPIRED (R24, R525 to R528, R545): a dead or lost die beats no heart;
a miss counts, shows its link as silent, and at MISS in a row sends the loss; a loss of a die that is dead, lost already, under an ordered
reset or not heard of yet does nothing, one that another link confirms, or that stands alone, loses the die, and any other waits; a fault frame
reaches TD's event queue, or acts at the primary die; a fold of more than one fault sends its count.

CSR_RD, CSR_WR, CSR_RSP, DIST_BEACON, TACK_CONTROL and TACK_LERR_LATCH (R522, R523): only a live die serves a register request,
and its answer goes back; a beacon or control frame that the die has seen is dropped; more than 16 link errors raise 0x1102.

Completes, with its own effect as its conclusion (`exec … = .next …`): `.tackHbSend`, `.tackHbMiss`, `.lossFrame`,
`.faultFrame`, `.faultFoldExpired`, `.csrRd`, `.csrWr`, `.csrRsp`, `.distBeacon`, `.tackControl`, `.tackLerrLatch`. -/
def Obligations.TackMesh : Prop := 
  (∀ (s : State) (site link lost n : Nat),
    (s.seen.lives site = false ∨ s.p.contain.lost.contains site = true →
      exec (.tackHbSend site) s = .next (s.store fun _ p => p))
    ∧ (s.seen.lives site = true → s.p.contain.lost.contains site = false → ∃ t, exec (.tackHbSend site) s = .next t
        ∧ t.p.time = s.p.time
        ∧ (site ≠ s.p.primary → t.p.tack.awaitHb = s.p.tack.awaitHb.filter (· ≠ site)
          ∧ ∀ i j v, i ∈ s.seen.upLinks site → (tackLinks site)[i]? = some v → tackLinkTo v site = some j →
            SMap.get (fun _ => 0) (t.p.agent v).misses j = 0))
    ∧ ((tackLinks site)[link]? = none → exec (.tackHbMiss site link) s = .next (s.quiet id))
    ∧ ((tackLinks site)[link]? = some lost → ∃ t, exec (.tackHbMiss site link) s = .next t
        ∧ SMap.get (fun _ => 0) (t.p.agent site).misses link = SMap.get (fun _ => 0) (s.p.agent site).misses link + 1
        ∧ (SMap.get (fun _ => 0) (s.p.agent site).misses link + 1 = clampTo 2 15 (s.p.agent site).miss →
            .loss site lost (s.p.now / slotCycles) ∈ t.p.tack.frames)
        ∧ t.mem = s.mem ∧ t.p.time = s.p.time)
    ∧ (let p := s.seen.modTack fun t => { t with frames := t.frames.erase (.loss site lost n) }
      let ordered := match p.boot.resetting with
        | some (5, x, _) => x = lost
        | some (scope, _, _) => scope ≤ 2
        | none => False
      let idle := p.lives lost = false ∨ ordered ∨ p.tack.awaitHb.contains lost = true ∨ p.contain.lost.contains lost = true
        ∨ tackLinkTo lost site = none
      let other := p.tack.losses.any fun l => l.2.1 = lost && l.1 ≠ site
      let sure := (p.upLinks lost).length ≤ 1 ∨ other = true
      (idle → exec (.lossFrame site lost n) s = .next (s.store fun _ _ => p))
      ∧ (¬ idle → sure → exec (.lossFrame site lost n) s = .next (s.store fun _ _ =>
          ((p.modTack fun t => { t with losses := t.losses.filter fun l => l.2.1 ≠ lost }).dieLost lost 5).setField sitePD
            Csr.ERR_LOST_TIME (n * slotCycles % 2 ^ 48)))
      ∧ (¬ idle → ¬ sure → (p.tack.losses.any fun l => l.1 = site && l.2.1 = lost) = false →
        exec (.lossFrame site lost n) s = .next (s.store fun _ _ =>
          p.modTack fun t => { t with losses := t.losses ++ [(site, lost, n)] }))
      ∧ (¬ idle → ¬ sure → (p.tack.losses.any fun l => l.1 = site && l.2.1 = lost) = true →
        exec (.lossFrame site lost n) s = .next (s.store fun _ _ => p)))
    ∧ (∀ r via dst, let p := (s.seen.modTack fun t => { t with frames := t.frames.erase (.fault dst r) }).stuckAgents dst via
      (dst = siteTD → exec (.faultFrame dst r via) s = .next (s.store fun _ _ => (p.queueEvent r).flushChanges))
      ∧ (dst ≠ siteTD → dst = p.primary → exec (.faultFrame dst r via) s = .next (s.store fun m _ =>
          (if p.contain.lost.contains siteTD then p.smbEvent dst r else p).actOnFault m r))
      ∧ (dst ≠ siteTD → dst ≠ p.primary → exec (.faultFrame dst r via) s = .next (s.store fun _ _ => p)))
    ∧ ((s.p.agent site).folds.find? (fun f => f.code = n) = none → exec (.faultFoldExpired site n) s = .next (s.quiet id))
    ∧ (∀ f, (s.p.agent site).folds.find? (fun f => f.code = n) = some f →
      (f.count ≤ 1 → ∃ t, exec (.faultFoldExpired site n) s = .next t ∧ t.p.tack.frames = s.p.tack.frames
        ∧ (t.p.agent site).folds = (s.p.agent site).folds.filter (fun g => g.code ≠ n) ∧ t.p.csr = s.p.csr ∧ t.mem = s.mem)
      ∧ (1 < f.count → ∃ t, exec (.faultFoldExpired site n) s = .next t
        ∧ t.p.tack.frames = s.p.tack.frames ++ [.fault s.p.primary { f.last with count := f.count, sev := f.sev },
            .fault siteTD { f.last with count := f.count, sev := f.sev }]
        ∧ t.mem = s.mem ∧ t.p.time = s.p.time)))
  ∧ (∀ (s : State) (req site off n : Nat) (v : Word),
    (s.seen.lives site = false → exec (.csrRd req site off) s = .next (s.quiet id)
      ∧ exec (.csrWr req site off v) s = .next (s.act fun _ p => p))
    ∧ (s.seen.lives site = true →
      (∃ t, exec (.csrRd req site off) s = .next t
        ∧ .csrRsp req site off (BitVec.ofNat 32 (s.seen.regRead site (off / 4 * 4)).1) ∈ t.p.tack.frames
        ∧ t.mem = s.mem ∧ t.p.time = s.p.time)
      ∧ exec (.csrWr req site off v) s = .next (s.act fun m p => (p.regWrite m 0 site off v).sendTack (.csrRsp req site off v)))
    ∧ (∃ t, exec (.csrRsp req site off v) s = .next t ∧ t.p.out = [.word v]
        ∧ t.p.tack.frames = s.p.tack.frames.erase (.csrRsp req site off v) ∧ t.p.csr = s.p.csr ∧ t.mem = s.mem)
    ∧ (∀ origin hops, s.seen.accepts site origin n = false → exec (.distBeacon site origin n hops) s = .next (s.quiet id))
    ∧ (∀ hops, s.seen.accepts site sitePD n = true → ∃ t, exec (.distBeacon site sitePD n hops) s = .next t
        ∧ t.p.field site Csr.TCK_DIST_PD = hops % 2 ^ Csr.TCK_DIST_PD.width ∧ t.mem = s.mem ∧ t.p.time = s.p.time)
    ∧ (∀ origin f hops, s.seen.accepts site origin n = true →
        (origin = siteAD ∧ f = Csr.TCK_DIST_AD ∨ origin = siteTD ∧ f = Csr.TCK_DIST_TD) →
        ∃ t, exec (.distBeacon site origin n hops) s = .next t ∧ t.p.field site f = hops % 2 ^ f.width ∧ t.mem = s.mem
          ∧ t.p.time = s.p.time)
    ∧ (∀ h c, s.seen.accepts site h.origin h.id = false → exec (.tackControl site h c) s = .next (s.store fun _ p => p))
    ∧ (∀ h c, s.seen.accepts site h.origin h.id = true → h.dst ≠ site → h.dst ≠ 0xFFFF →
      exec (.tackControl site h c) s = .next (s.store fun _ p => (p.note site h.origin h.id).dropFlood site h c))
    ∧ (∀ h c, s.seen.accepts site h.origin h.id = true → h.dst = site ∨ h.dst = 0xFFFF →
      exec (.tackControl site h c) s = .next (s.store fun _ p => ((p.note site h.origin h.id).dropFlood site h c).actControl site c))
    ∧ (16 < n → exec (.tackLerrLatch site n) s = .next (s.quiet fun p => (p.setField site Csr.TCK_LERR n).raise site 0x1102))
    ∧ (n ≤ 16 → exec (.tackLerrLatch site n) s = .next (s.quiet fun p => p.setField site Csr.TCK_LERR n)))

/-- MGMT_PORT_DOWN, MGMT_PORT_UP, DATAGRAM_REFUSED, IDENT_UNSOLICITED, GET_PANEL_SETTINGS and PLDM_EFFECTER (R529, R530, R533, R535): the
links of the two management ports and the port that is active, while TD works; a datagram that is in form and from a valid
manager is not refused; a refusal raises 0x1106 at most every 10 ms; each valid manager is told who the panel is, where a port is up;
the panel's settings are taken, and without them 0x110A is raised; the effecters set the setpoint, the mode or ask for a reset.

EVENT_ACK, EVENT_RESEND and TELEM (R530, R532, R533): an acknowledgement drops every event up to its number for that manager; while a
port is up, an event that is not acknowledged is sent again, and after ten times is given up with 0x1108; telemetry goes only to a
manager that has asked for it, and leaves where a port is up.

Completes, with its own effect as its conclusion (`exec … = .next …`): `.mgmtPortDown`, `.datagramRefused`,
`.identUnsolicited`, `.eventAck`, `.eventResend`, `.telem`, `.getPanelSettings`, `.pldmEffecter`, `.mgmtPortUp`. -/
def Obligations.Management : Prop := 
  (∀ (s : State),
    (s.seen.tackDie = true → ∀ port, port < 2 → ∃ t, exec (.mgmtPortDown port) s = .next t
        ∧ bitOf (t.p.field siteTD Csr.TCK_NET_STATUS_LINK) port = false ∧ t.mem = s.mem ∧ t.p.time = s.p.time)
    ∧ (s.seen.tackDie = true → ∀ port, port < 2 → ∃ t, exec (.mgmtPortUp port) s = .next t
        ∧ bitOf (t.p.field siteTD Csr.TCK_NET_STATUS_LINK) port = true ∧ t.mem = s.mem ∧ t.p.time = s.p.time)
    ∧ (∀ addr bs, s.seen.datagramBad addr bs = false → exec (.datagramRefused addr bs) s = .next (s.quiet id))
    ∧ (∀ addr bs, s.seen.datagramBad addr bs = true → s.seen.tackDie = true →
        (s.p.tack.refusedAt = none ∨ ∃ x, s.p.tack.refusedAt = some x ∧ x + 12500000 ≤ s.p.now) →
        exec (.datagramRefused addr bs) s = .next (s.quiet fun p =>
          (p.modTack fun t => { t with refusedAt := some p.now }).raise siteTD 0x1106))
    ∧ (∀ addr bs x, s.p.tack.refusedAt = some x → s.p.now < x + 12500000 →
        exec (.datagramRefused addr bs) s = .next (s.quiet id))
    ∧ (s.seen.tackDie = false → (∀ x, exec (.getPanelSettings x) s = .next (s.quiet id))
      ∧ (∀ addr bs, exec (.datagramRefused addr bs) s = .next (s.quiet id))
      ∧ (∀ port, exec (.mgmtPortDown port) s = .next (s.quiet id) ∧ exec (.mgmtPortUp port) s = .next (s.quiet id))
      ∧ exec .identUnsolicited s = .next (s.quiet id))
    ∧ (s.seen.tackDie = true → exec (.getPanelSettings none) s = .next (s.quiet fun p => p.raise siteTD 0x110A)
      ∧ ∀ g, exec (.getPanelSettings (some g)) s = .next (s.quiet fun p => p.takeSettings g))
    ∧ (s.seen.tackDie = true →
        exec .identUnsolicited s = .next (s.quiet fun p =>
          (p.modTack fun t => { t with idents := t.idents + 1 }).each p.managersUp fun p k => p.tell k 1 p.identBody)
        ∧ ∃ t, exec .identUnsolicited s = .next t
          ∧ t.p.out.length = (if s.seen.lanUp = true then s.seen.managersUp.length else 0)
          ∧ t.p.tack.idents = s.p.tack.idents + 1 ∧ t.mem = s.mem ∧ t.p.csr = s.p.csr)
    ∧ (∀ v, exec (.pldmEffecter 0 v) s = .next (s.act fun m p => p.tackSetpoint m v (p.field sitePD Csr.DRW_SP_TACK_MODE))
      ∧ exec (.pldmEffecter 1 v) s = .next (s.act fun m p => p.tackSetpoint m (p.field sitePD Csr.DRW_SP_TACK_SETPOINT) v))
    ∧ (∀ e v, 2 ≤ e → exec (.pldmEffecter e v) s = .next (s.act fun m p => let f (x : Fld) : Nat := p.field sitePD x
        (p.resetOp m v (f Csr.PWR_RST_CTRL_REGION) (f Csr.PWR_RST_CTRL_SITE) (f Csr.PWR_RST_CTRL_CL)).2.2)))
  ∧ (∀ (s : State) (k seq : Nat),
    (s.seen.tackDie = true → k ∈ s.seen.managersUp →
      exec (.eventAck k seq) s = .next (s.quiet fun p =>
        (p.modManager k fun g => { g with unacked := g.unacked.filter fun u => !reached seq u.1 }).pruneEvents))
    ∧ (s.seen.tackDie = false ∨ k ∉ s.seen.managersUp → exec (.eventAck k seq) s = .next (s.quiet id)
      ∧ exec (.telem k) s = .next (s.quiet id))
    ∧ (s.seen.tackDie = false ∨ s.seen.lanUp = false → exec (.eventResend k) s = .next (s.quiet id))
    ∧ (s.seen.tackDie = true → s.seen.lanUp = true →
      let p := s.seen.flushChanges
      let us := (p.manager k).unacked
      let keep := us.filter fun u => u.2 < 10
      let sent := (p.modManager k fun g => { g with unacked := keep.map fun u => (u.1, u.2 + 1) }).each keep fun p u =>
        p.tell k 0x0B (leBytes 4 u.1 ++ match p.tack.events.find? fun e => e.1 = u.1 with
          | some e => recBytes e.2
          | none => [])
      ((∀ u ∈ us, u.2 < 10) → exec (.eventResend k) s = .next (s.quiet fun _ => sent))
      ∧ ((∃ u ∈ us, 10 ≤ u.2) → exec (.eventResend k) s = .next (s.quiet fun _ => sent.pruneEvents.raise siteTD 0x1108)))
    ∧ (s.seen.tackDie = true → s.seen.lanUp = true → s.p.tack.changes = [] → (s.seen.manager k).unacked = [] →
      ∃ t, exec (.eventResend k) s = .next t ∧ (t.p.manager k).unacked = [] ∧ t.p.csr = s.p.csr ∧ t.mem = s.mem)
    ∧ (s.seen.field siteTD (Csr.TCK_MGR_TELEM_MS k) = 0 → exec (.telem k) s = .next (s.quiet id))
    ∧ (s.seen.tackDie = true → k ∈ s.seen.managersUp → s.seen.field siteTD (Csr.TCK_MGR_TELEM_MS k) ≠ 0 →
      ∃ t, exec (.telem k) s = .next t
        ∧ (s.seen.flushChanges.lanUp = true → ∃ txid, .datagram k (s.seen.flushChanges.datagramBytes 0x0D 0 0 txid
            (s.seen.flushChanges.telemBody k)) ∈ t.p.out)
        ∧ (t.p.manager k).telems = (s.seen.flushChanges.manager k).telems + 1 ∧ t.mem = s.mem ∧ t.p.time = s.p.time))

/-- The requests of a manager (R530, R531): one from a manager that is not valid is refused; one that repeats a transaction is
answered again from the cache and does nothing more; one that changes the panel needs the manager's write right, else it is
answered with status 1; any other runs its operation and is answered with its status and body, or late with status 6.

Completes, with its own effect as its conclusion (`exec … = .next …`): `.ident`, `.draw`, `.csrRead`, `.csrWrite`,
`.memRead`, `.memWrite`, `.reset`, `.bist`, `.lockup`, `.subscribe`, `.attest`, `.firmwareWriteChunk`, `.firmwareCommit`. -/
def Obligations.ManagerRequests : Prop := ∀ (s : State) (k txid : Nat) (late : Bool),
  let served (c : Instr) (form : (Panel → Panel) → Host.Outcome State Fault Refusal) (op : Nat) (changes late : Bool)
      (f : Panel → Nat × List Byte × Panel) : Prop :=
    (s.seen.tackDie = false → exec c s = form id)
    ∧ (s.seen.tackDie = true → (4 ≤ k ∨ s.seen.isSet siteTD (Csr.TCK_MGR_VALID k) = false) → exec c s = form fun p => p.refuseDatagram)
    ∧ (s.seen.tackDie = true → k < 4 → s.seen.isSet siteTD (Csr.TCK_MGR_VALID k) = true →
      (∀ r, ((s.seen.manager k).cache.find? fun r => r.txid = txid) = some r →
        exec c s = form fun p => p.emit (.datagram k (p.datagramBytes r.op 1 r.status txid r.body)))
      ∧ (((s.seen.manager k).cache.find? fun r => r.txid = txid) = none →
        (changes = true → s.seen.isSet siteTD (Csr.TCK_MGR_WRITE k) = false → exec c s = form fun p => p.reply k op txid 1 [])
        ∧ (changes = false ∨ s.seen.isSet siteTD (Csr.TCK_MGR_WRITE k) = true →
          (late = false → exec c s = form fun p => (f p).2.2.reply k op txid (f p).1 (f p).2.1)
          ∧ (late = true → exec c s = form fun p => (f p).2.2.reply k op txid 6 []))))
  let quiet (g : Panel → Panel) : Host.Outcome State Fault Refusal := .next (s.quiet g)
  let store (g : Panel → Panel) : Host.Outcome State Fault Refusal := .next (s.store fun _ p => g p)
  let act (g : Panel → Panel) : Host.Outcome State Fault Refusal := .next (s.act fun _ p => g p)
  (served (.ident k txid) quiet 1 false false fun p => (0, p.identBody, p))
  ∧ (∀ sp mode, served (.draw k txid sp mode late) store 2 true late fun p =>
      (0, (p.tackSetpoint s.mem sp mode).drawBody, p.tackSetpoint s.mem sp mode))
  ∧ (∀ site off n, served (.csrRead k txid site off n late) quiet 3 false late fun p => p.csrReadOp site off n)
  ∧ (∀ site off ws, served (.csrWrite k txid site off ws late) act 4 true late fun p => p.csrWriteOp s.mem site off ws)
  ∧ (∀ a n, served (.memRead k txid a n late) store 5 false late fun p => p.memReadOp s.mem a n)
  ∧ (∀ a d, served (.memWrite k txid a d late) store 6 true late fun p => p.memWriteOp s.mem a d)
  ∧ (∀ sc r site cl, served (.reset k txid sc r site cl late) act 7 true late fun p => p.resetOp s.mem sc r site cl)
  ∧ (∀ site v, served (.bist k txid site v late) store 8 true late fun p => p.bistOp site v)
  ∧ (∀ a n b, served (.lockup k txid a n b late) store 9 true late fun p => p.lockUpOp s.mem a n b)
  ∧ (∀ m e t, served (.subscribe k txid m e t) quiet 0xA true false fun p =>
      (0, [], ((p.setField siteTD (Csr.TCK_MGR_MIN_SEV k) m).setField siteTD (Csr.TCK_MGR_EVENTS k) e).setField siteTD
        (Csr.TCK_MGR_TELEM_MS k) t))
  ∧ (∀ nonce, (nonce.length ≠ 32 → served (.attest k txid nonce late) quiet 0xE false late fun p => (3, [], p))
    ∧ (nonce.length = 32 → s.seen.attesting = true →
      served (.attest k txid nonce late) quiet 0xE false late fun p => (4, [], p.raise p.primary 0x0F0C))
    ∧ (nonce.length = 32 → s.seen.attesting = false →
      served (.attest k txid nonce late) quiet 0xE false late fun p =>
        (0, leBytes 320 ((p.attest nonce).field (p.attest nonce).primary Csr.SEC_REPORT), p.attest nonce)))
  ∧ (∀ off d, served (.firmwareWriteChunk k txid off d late) quiet 0xF true late fun p => p.writeChunk p.otherImage off d)
  ∧ (served (.firmwareCommit k txid late) quiet 0xF true late fun p => p.commitImage)
end

