-- ==== Sys2Proof/Laws/Bits.lean ====
section
/-! SUPPORT. Laws of bit fields: what a field written reads as, and that other bits stay. -/

namespace Sys2Proof.Laws

open Sys2Proof.Machine

theorem bitsOf_lt (x l w : Nat) : bitsOf x l w < 2 ^ w := Nat.mod_lt _ (Nat.two_pow_pos w)

theorem nat_split (x l w : Nat) :
    x = x / 2 ^ (l + w) * 2 ^ (l + w) + bitsOf x l w * 2 ^ l + x % 2 ^ l := by
  have h1 := Nat.div_add_mod (x / 2 ^ l) (2 ^ w)
  have h2 := Nat.div_add_mod x (2 ^ l)
  rw [Nat.div_div_eq_div_mul, ← pow_add] at h1
  calc x = 2 ^ l * (x / 2 ^ l) + x % 2 ^ l := h2.symm
    _ = 2 ^ l * (2 ^ w * (x / 2 ^ (l + w)) + x / 2 ^ l % 2 ^ w) + x % 2 ^ l := by rw [h1]
    _ = _ := by unfold bitsOf; rw [pow_add]; ring

/-- A word with a field replaced, by its three parts. -/
theorem putBits_eq (x l w v : Nat) :
    putBits x l w v = x / 2 ^ (l + w) * 2 ^ (l + w) + v % 2 ^ w * 2 ^ l + x % 2 ^ l := by
  have h := nat_split x l w
  unfold putBits
  have : x - bitsOf x l w * 2 ^ l = x / 2 ^ (l + w) * 2 ^ (l + w) + x % 2 ^ l := by omega
  rw [this]
  omega

/-- The field written is read. -/
@[simp] theorem bitsOf_putBits_same (x l w v : Nat) : bitsOf (putBits x l w v) l w = v % 2 ^ w := by
  rw [putBits_eq]
  unfold bitsOf
  have hl := Nat.two_pow_pos l
  have e : x / 2 ^ (l + w) * 2 ^ (l + w) + v % 2 ^ w * 2 ^ l + x % 2 ^ l
      = 2 ^ l * (x / 2 ^ (l + w) * 2 ^ w + v % 2 ^ w) + x % 2 ^ l := by rw [pow_add]; ring
  rw [e, Nat.mul_add_div hl, Nat.div_eq_of_lt (Nat.mod_lt _ hl), Nat.add_zero, Nat.mul_comm (x / 2 ^ (l + w)),
    Nat.mul_add_mod, Nat.mod_mod]

/-- A field below the one written stays. -/
theorem bitsOf_putBits_below (x l w v l' w' : Nat) (h : l' + w' ≤ l) :
    bitsOf (putBits x l w v) l' w' = bitsOf x l' w' := by
  have cut (y : Nat) : bitsOf y l' w' = y % 2 ^ (l' + w') / 2 ^ l' := by
    unfold bitsOf; rw [pow_add, Nat.mod_mul_right_div_self]
  have low (y : Nat) : y % 2 ^ (l' + w') = y % 2 ^ l % 2 ^ (l' + w') :=
    (Nat.mod_mod_of_dvd y (Nat.pow_dvd_pow 2 h)).symm
  have e : putBits x l w v % 2 ^ l = x % 2 ^ l := by
    rw [putBits_eq]
    have : x / 2 ^ (l + w) * 2 ^ (l + w) + v % 2 ^ w * 2 ^ l + x % 2 ^ l
        = 2 ^ l * (x / 2 ^ (l + w) * 2 ^ w + v % 2 ^ w) + x % 2 ^ l := by rw [pow_add]; ring
    rw [this, Nat.mul_add_mod, Nat.mod_mod]
  rw [cut, cut, low, e, ← low]

/-- A field above the one written stays. -/
theorem bitsOf_putBits_above (x l w v l' w' : Nat) (h : l + w ≤ l') :
    bitsOf (putBits x l w v) l' w' = bitsOf x l' w' := by
  obtain ⟨k, rfl⟩ := Nat.exists_eq_add_of_le h
  have hp := Nat.two_pow_pos (l + w)
  have low : v % 2 ^ w * 2 ^ l + x % 2 ^ l < 2 ^ (l + w) := by
    have h1 := Nat.mod_lt v (Nat.two_pow_pos w)
    have h2 := Nat.mod_lt x (Nat.two_pow_pos l)
    have h3 : (v % 2 ^ w + 1) * 2 ^ l ≤ 2 ^ w * 2 ^ l := Nat.mul_le_mul_right _ h1
    rw [pow_add]
    nlinarith
  have e : putBits x l w v / 2 ^ (l + w) = x / 2 ^ (l + w) := by
    rw [putBits_eq, add_assoc, Nat.mul_comm (x / 2 ^ (l + w)), Nat.mul_add_div hp, Nat.div_eq_of_lt low, Nat.add_zero]
  unfold bitsOf
  rw [pow_add, ← Nat.div_div_eq_div_mul, ← Nat.div_div_eq_div_mul, e]

/-- A field written stays within the word. -/
theorem putBits_lt (x l w v n : Nat) (hx : x < 2 ^ n) (h : l + w ≤ n) : putBits x l w v < 2 ^ n := by
  obtain ⟨k, rfl⟩ := Nat.exists_eq_add_of_le h
  rw [putBits_eq]
  have hd : x / 2 ^ (l + w) < 2 ^ k := by
    rw [Nat.div_lt_iff_lt_mul (Nat.two_pow_pos _), ← pow_add, add_comm k]
    exact hx
  have h1 := Nat.mod_lt v (Nat.two_pow_pos w)
  have h2 := Nat.mod_lt x (Nat.two_pow_pos l)
  have h3 : (v % 2 ^ w + 1) * 2 ^ l ≤ 2 ^ w * 2 ^ l := Nat.mul_le_mul_right _ h1
  have h4 : (x / 2 ^ (l + w) + 1) * 2 ^ (l + w) ≤ 2 ^ k * 2 ^ (l + w) := Nat.mul_le_mul_right _ hd
  rw [pow_add 2 (l + w) k]
  rw [pow_add 2 l w] at *
  nlinarith

@[simp] theorem flag_false : flag false = 0 := rfl
@[simp] theorem flag_true : flag true = 1 := rfl

theorem flag_ne_zero (b : Bool) : (flag b != 0) = b := by cases b <;> rfl

@[simp] theorem leBytes_length (n x : Nat) : (leBytes n x).length = n := by
  induction n generalizing x with
  | zero => rfl
  | succ n ih => simp [leBytes, ih]

/-- Bytes laid out low to high give their number back. -/
theorem leNat_leBytes (n : Nat) : ∀ x, leNat (leBytes n x) = x % 256 ^ n := by
  induction n with
  | zero => intro x; simp [leBytes, leNat, Nat.mod_one]
  | succ n ih =>
    intro x
    simp only [leBytes, leNat, ih, BitVec.toNat_ofNat]
    rw [pow_succ' 256 n, Nat.mod_mul]

end Sys2Proof.Laws
end

