-- ==== Sys2Proof/Laws/SMap.lean ====
section
/-! SUPPORT. Laws of sparse maps: a read after a write, and the canonical form. -/

namespace Sys2Proof.Laws

open Sys2Proof.Machine

variable {α : Type} (d : Nat → α)

theorem smap_get_insert_same (m : SMap α) (k : Nat) (v : α) : SMap.get d (SMap.insert m k v) k = v := by
  induction m with
  | nil => simp [SMap.insert, SMap.get]
  | cons x m ih =>
    obtain ⟨k', v'⟩ := x
    simp only [SMap.insert]
    split
    · simp [SMap.get]
    · split
      · simp [SMap.get]
      · rename_i h _
        simpa [SMap.get, h] using ih

theorem smap_get_insert_other (m : SMap α) {k j : Nat} (v : α) (h : j ≠ k) :
    SMap.get d (SMap.insert m k v) j = SMap.get d m j := by
  induction m with
  | nil => simp [SMap.insert, SMap.get, h.symm]
  | cons x m ih =>
    obtain ⟨k', v'⟩ := x
    simp only [SMap.insert]
    split
    · rename_i e
      subst e
      simp [SMap.get, h.symm]
    · split
      · simp [SMap.get, h.symm]
      · simp only [SMap.get, ih]

theorem smap_get_erase_same (m : SMap α) (k : Nat) : SMap.get d (SMap.erase m k) k = d k := by
  induction m with
  | nil => rfl
  | cons x m ih =>
    obtain ⟨k', v'⟩ := x
    simp only [SMap.erase]
    split
    · exact ih
    · rename_i h
      simpa [SMap.get, h] using ih

theorem smap_get_erase_other (m : SMap α) {k j : Nat} (h : j ≠ k) :
    SMap.get d (SMap.erase m k) j = SMap.get d m j := by
  induction m with
  | nil => rfl
  | cons x m ih =>
    obtain ⟨k', v'⟩ := x
    simp only [SMap.erase]
    split
    · rename_i e
      subst e
      simp [SMap.get, h.symm, ih]
    · simp only [SMap.get, ih]

variable [DecidableEq α]

/-- What was written is read. -/
@[simp] theorem smap_get_set_same (m : SMap α) (k : Nat) (v : α) : SMap.get d (SMap.set d m k v) k = v := by
  unfold SMap.set
  split
  · rename_i h
    rw [smap_get_erase_same, h]
  · exact smap_get_insert_same d m k v

/-- A write leaves every other key alone. -/
theorem smap_get_set_other (m : SMap α) {k j : Nat} (v : α) (h : j ≠ k) :
    SMap.get d (SMap.set d m k v) j = SMap.get d m j := by
  unfold SMap.set
  split
  · exact smap_get_erase_other d m h
  · exact smap_get_insert_other d m v h

@[simp] theorem smap_get_modify_same (m : SMap α) (k : Nat) (f : α → α) :
    SMap.get d (SMap.modify d m k f) k = f (SMap.get d m k) := by
  simp [SMap.modify]

theorem smap_get_modify_other (m : SMap α) {k j : Nat} (f : α → α) (h : j ≠ k) :
    SMap.get d (SMap.modify d m k f) j = SMap.get d m j := by
  unfold SMap.modify
  exact smap_get_set_other d m _ h

/-! ### The canonical form -/

theorem smap_wfFrom_mono (m : SMap α) {lo lo' : Nat} (h : lo' ≤ lo) (w : SMap.wfFrom d lo m = true) :
    SMap.wfFrom d lo' m = true := by
  cases m with
  | nil => rfl
  | cons x m =>
    obtain ⟨k, v⟩ := x
    simp only [SMap.wfFrom, Bool.and_eq_true, decide_eq_true_eq] at w ⊢
    exact ⟨⟨by omega, w.1.2⟩, w.2⟩

theorem smap_wfFrom_insert (m : SMap α) (k : Nat) (v : α) (hv : v ≠ d k) :
    ∀ lo, lo ≤ k → SMap.wfFrom d lo m = true → SMap.wfFrom d lo (SMap.insert m k v) = true := by
  induction m with
  | nil => intro lo hk _; simp [SMap.insert, SMap.wfFrom, hk, hv]
  | cons x m ih =>
    obtain ⟨k', v'⟩ := x
    intro lo hk w
    simp only [SMap.wfFrom, Bool.and_eq_true, decide_eq_true_eq] at w
    simp only [SMap.insert]
    split
    · rename_i e
      subst e
      simp [SMap.wfFrom, hv, hk, w.2]
    · split
      · simp [SMap.wfFrom, hv, hk, w.1.2, w.2]
        omega
      · rename_i h h'
        simp only [SMap.wfFrom, Bool.and_eq_true, decide_eq_true_eq]
        exact ⟨w.1, ih (k' + 1) (by omega) w.2⟩

theorem smap_wfFrom_filter (m : SMap α) (f : Nat × α → Bool) :
    ∀ lo, SMap.wfFrom d lo m = true → SMap.wfFrom d lo (m.filter f) = true := by
  induction m with
  | nil => intro lo w; exact w
  | cons x m ih =>
    obtain ⟨k, v⟩ := x
    intro lo w
    simp only [SMap.wfFrom, Bool.and_eq_true, decide_eq_true_eq] at w
    simp only [List.filter_cons]
    split
    · simp only [SMap.wfFrom, Bool.and_eq_true, decide_eq_true_eq]
      exact ⟨w.1, ih _ w.2⟩
    · exact smap_wfFrom_mono d _ (by omega) (ih _ w.2)

theorem smap_wfFrom_erase (m : SMap α) (k : Nat) :
    ∀ lo, SMap.wfFrom d lo m = true → SMap.wfFrom d lo (SMap.erase m k) = true := by
  induction m with
  | nil => intro lo w; exact w
  | cons x m ih =>
    obtain ⟨k', v'⟩ := x
    intro lo w
    simp only [SMap.wfFrom, Bool.and_eq_true, decide_eq_true_eq] at w
    simp only [SMap.erase]
    split
    · exact smap_wfFrom_mono d _ (by omega) (ih _ w.2)
    · simp only [SMap.wfFrom, Bool.and_eq_true, decide_eq_true_eq]
      exact ⟨w.1, ih _ w.2⟩

/-- A write keeps the canonical form. -/
theorem smap_wf_set (m : SMap α) (k : Nat) (v : α) (w : SMap.wf d m = true) : SMap.wf d (SMap.set d m k v) = true := by
  unfold SMap.set
  split
  · exact smap_wfFrom_erase d m k 0 w
  · rename_i h
    exact smap_wfFrom_insert d m k v h 0 (Nat.zero_le _) w

/-- Taking entries out keeps the canonical form. -/
theorem smap_wf_filter (m : SMap α) (f : Nat × α → Bool) (w : SMap.wf d m = true) : SMap.wf d (m.filter f) = true :=
  smap_wfFrom_filter d m f 0 w

end Sys2Proof.Laws
end

