-- ==== Sys2Proof/Laws/Ops.lean ====
section
/-! SUPPORT. Laws of the named operations: a CSR word or field written is read, and every other word stays. -/

namespace Sys2Proof.Laws

open Sys2Proof.Machine

/-! ### Words -/

@[simp] theorem word_setWord_same (p : Panel) (site off : Nat) (w : Word) : (p.setWord site off w).word site off = w := by
  simp [Panel.setWord, Panel.word]

/-- A word with another key stays. -/
theorem word_setWord_other (p : Panel) (s o s' o' : Nat) (w : Word)
    (h : csrKey (homeSite s' o') o' ≠ csrKey (homeSite s o) o) : (p.setWord s o w).word s' o' = p.word s' o' := by
  unfold Panel.setWord Panel.word
  exact smap_get_set_other _ _ _ h

theorem homeSite_cases (s o : Nat) : homeSite s o = s ∨ (s = 467 ∧ homeSite s o = 464) := by
  unfold homeSite
  split
  · rename_i h
    split
    · split
      · exact .inr ⟨h, rfl⟩
      · exact .inl rfl
    · exact .inl rfl
  · exact .inl rfl

/-- Two words of one site at offsets within the window, on a 4-byte grid, have different keys. -/
theorem csrKey_ne (s o o' : Nat) (h : o / 4 ≠ o' / 4) (ho : o < 0x1000000) (ho' : o' < 0x1000000) (s' : Nat) :
    csrKey (homeSite s o) o ≠ csrKey (homeSite s' o') o' := by
  unfold csrKey
  generalize homeSite s o = a
  generalize homeSite s' o' = b
  omega

/-- The fields of the panel that a write of CSR words leaves alone: all but `csr`. -/
theorem setWords_eq (p : Panel) (s o v n : Nat) : p.setWords s o v n = { p with csr := (p.setWords s o v n).csr } := by
  induction n generalizing p o v with
  | zero => rfl
  | succ n ih =>
    simp only [Panel.setWords]
    rw [ih]
    rfl

theorem setField_eq (p : Panel) (s : Nat) (f : Fld) (v : Nat) : p.setField s f v = { p with csr := (p.setField s f v).csr } :=
  setWords_eq _ _ _ _ _

theorem word_setWords_below (p : Panel) (s o v n s' o' : Nat) (h : o' / 4 < o / 4) (hw : o + 4 * n ≤ 0x1000000) (h4 : o % 4 = 0) :
    (p.setWords s o v n).word s' o' = p.word s' o' := by
  induction n generalizing p o v with
  | zero => rfl
  | succ n ih =>
    simp only [Panel.setWords]
    rw [ih _ _ _ (by omega) (by omega) (by omega)]
    exact word_setWord_other _ _ _ _ _ _ (csrKey_ne _ _ _ (by omega) (by omega) (by omega) _)

/-- A word outside those written stays. -/
theorem word_setWords_other (p : Panel) (s o v n s' o' : Nat) (h : o' / 4 < o / 4 ∨ o / 4 + n ≤ o' / 4)
    (hw : o + 4 * n ≤ 0x1000000) (h4 : o % 4 = 0) (hw' : o' < 0x1000000) :
    (p.setWords s o v n).word s' o' = p.word s' o' := by
  induction n generalizing p o v with
  | zero => rfl
  | succ n ih =>
    simp only [Panel.setWords]
    rw [ih _ _ _ (by omega) (by omega) (by omega)]
    exact word_setWord_other _ _ _ _ _ _ (csrKey_ne _ _ _ (by omega) (by omega) (by omega) _)

theorem words_lt (p : Panel) (s o n : Nat) : p.words s o n < 2 ^ (32 * n) := by
  induction n generalizing o with
  | zero => simp [Panel.words]
  | succ n ih =>
    have h := ih (o + 4)
    have hw := (p.word s o).isLt
    simp only [Panel.words]
    rw [show 32 * (n + 1) = 32 + 32 * n by ring, pow_add]
    have : (p.words s (o + 4) n + 1) * 2 ^ 32 ≤ 2 ^ (32 * n) * 2 ^ 32 := Nat.mul_le_mul_right _ h
    omega

theorem words_congr (p q : Panel) (s o n : Nat) (h : ∀ i, i < n → p.word s (o + 4 * i) = q.word s (o + 4 * i)) :
    p.words s o n = q.words s o n := by
  induction n generalizing o with
  | zero => rfl
  | succ n ih =>
    simp only [Panel.words]
    rw [show p.word s o = q.word s o by simpa using h 0 (by omega)]
    rw [ih (o + 4) fun i hi => by
      have := h (i + 1) (by omega)
      rwa [show o + 4 * (i + 1) = o + 4 + 4 * i by ring] at this]

/-- The words written are read. -/
theorem words_setWords_same (p : Panel) (s o v n : Nat) (hw : o + 4 * n ≤ 0x1000000) (h4 : o % 4 = 0) :
    (p.setWords s o v n).words s o n = v % 2 ^ (32 * n) := by
  induction n generalizing p o v with
  | zero => simp [Panel.words, Nat.mod_one]
  | succ n ih =>
    simp only [Panel.setWords, Panel.words]
    rw [ih _ _ _ (by omega) (by omega), word_setWords_below _ _ _ _ _ _ _ (by omega) (by omega) (by omega), word_setWord_same,
      show 32 * (n + 1) = 32 + 32 * n by ring, pow_add, Nat.mod_mul, BitVec.toNat_ofNat]

/-- The words that another write leaves alone. -/
theorem words_setWords_other (p : Panel) (s o v n s' o' n' : Nat) (h : o' / 4 + n' ≤ o / 4 ∨ o / 4 + n ≤ o' / 4)
    (hw : o + 4 * n ≤ 0x1000000) (h4 : o % 4 = 0) (hw' : o' + 4 * n' ≤ 0x1000000) (h4' : o' % 4 = 0) :
    (p.setWords s o v n).words s' o' n' = p.words s' o' n' := by
  apply words_congr
  intro i hi
  exact word_setWords_other _ _ _ _ _ _ _ (by omega) hw h4 (by omega)

/-! ### Fields -/

/-- The words of a field lie in the CSR window. -/
def FldFits (f : Fld) : Prop := f.off + (f.lsb + f.width) / 8 + 8 ≤ 0x1000000

theorem place_bounds (f : Fld) (h : FldFits f) :
    f.place.1 % 4 = 0 ∧ f.place.1 + 4 * f.place.2.2 ≤ 0x1000000 ∧ f.place.2.1 + f.width ≤ 32 * f.place.2.2 := by
  unfold FldFits at h
  unfold Fld.place
  simp only
  omega

/-- A field written reads as the value written, cut to its width. -/
theorem field_setField_same (p : Panel) (s : Nat) (f : Fld) (v : Nat) (h : FldFits f) :
    (p.setField s f v).field s f = v % 2 ^ f.width := by
  obtain ⟨h4, hw, hb⟩ := place_bounds f h
  unfold Panel.setField Panel.field
  simp only
  rw [words_setWords_same _ _ _ _ _ hw h4, Nat.mod_eq_of_lt (putBits_lt _ _ _ _ _ (words_lt _ _ _ _) hb), bitsOf_putBits_same]

/-- A flag written is read. -/
theorem isSet_setFlag_same (p : Panel) (s : Nat) (f : Fld) (b : Bool) (h : FldFits f) (hw : 0 < f.width) :
    (p.setFlag s f b).isSet s f = b := by
  unfold Panel.setFlag Panel.isSet
  rw [field_setField_same _ _ _ _ h, Nat.mod_eq_of_lt]
  · exact flag_ne_zero b
  · have : 2 ^ 1 ≤ 2 ^ f.width := Nat.pow_le_pow_right (by omega) hw
    cases b
    · simp [flag]
    · simp only [flag, ite_true]
      omega

/-- A field whose words are none of those written stays, on every site. -/
theorem field_setField_apart (p : Panel) (s : Nat) (f : Fld) (v s' : Nat) (g : Fld) (hf : FldFits f) (hg : FldFits g)
    (h : g.place.1 / 4 + g.place.2.2 ≤ f.place.1 / 4 ∨ f.place.1 / 4 + f.place.2.2 ≤ g.place.1 / 4) :
    (p.setField s f v).field s' g = p.field s' g := by
  obtain ⟨h4, hw, _⟩ := place_bounds f hf
  obtain ⟨h4', hw', _⟩ := place_bounds g hg
  unfold Panel.setField Panel.field
  simp only
  rw [words_setWords_other _ _ _ _ _ _ _ _ h hw h4 hw' h4']

/-- A field that shares the words of the one written, and none of its bits, stays. -/
theorem field_setField_beside (p : Panel) (s : Nat) (f : Fld) (v : Nat) (g : Fld) (hf : FldFits f)
    (ho : g.place.1 = f.place.1) (hn : g.place.2.2 = f.place.2.2)
    (h : g.place.2.1 + g.width ≤ f.place.2.1 ∨ f.place.2.1 + f.width ≤ g.place.2.1) :
    (p.setField s f v).field s g = p.field s g := by
  obtain ⟨h4, hw, hb⟩ := place_bounds f hf
  unfold Panel.setField Panel.field
  simp only
  rw [ho, hn, words_setWords_same _ _ _ _ _ hw h4, Nat.mod_eq_of_lt (putBits_lt _ _ _ _ _ (words_lt _ _ _ _) hb)]
  rcases h with h | h
  · exact bitsOf_putBits_below _ _ _ _ _ _ h
  · exact bitsOf_putBits_above _ _ _ _ _ _ h

/-! ### Raising a fault -/

/-- `q` differs from `p` at most in the parts that raising a fault touches: registers, tack, the halt, marks and outputs. -/
def Raised (p q : Panel) : Prop :=
  ∃ csr tack boot contain out, q = { p with csr := csr, tack := tack, boot := boot, contain := contain, out := out }

theorem raised_refl (p : Panel) : Raised p p := ⟨_, _, _, _, _, rfl⟩

theorem raised_trans {p q r : Panel} (h : Raised p q) (h' : Raised q r) : Raised p r := by
  obtain ⟨_, _, _, _, _, rfl⟩ := h
  obtain ⟨_, _, _, _, _, rfl⟩ := h'
  exact ⟨_, _, _, _, _, rfl⟩

theorem raised_setField (p : Panel) (s : Nat) (f : Fld) (v : Nat) : Raised p (p.setField s f v) := by
  rw [setField_eq]
  exact ⟨_, _, _, _, _, rfl⟩

theorem raised_setFlag (p : Panel) (s : Nat) (f : Fld) (b : Bool) : Raised p (p.setFlag s f b) := raised_setField _ _ _ _

theorem raised_count (p : Panel) (s : Nat) (f : Fld) (n : Nat) : Raised p (p.count s f n) := raised_setField _ _ _ _

theorem raised_foldl {α : Type} (l : List α) (g : Panel → α → Panel) (h : ∀ p x, Raised p (g p x)) :
    ∀ p, Raised p (l.foldl g p) := by
  induction l with
  | nil => exact raised_refl
  | cons x xs ih => exact fun p => raised_trans (h p x) (ih _)

theorem raised_modTack (p : Panel) (f : Tack → Tack) : Raised p (p.modTack f) := ⟨_, _, _, _, _, rfl⟩
theorem raised_modAgent (p : Panel) (s : Nat) (f : Agent → Agent) : Raised p (p.modAgent s f) := ⟨_, _, _, _, _, rfl⟩
theorem raised_modBoot (p : Panel) (f : Boot → Boot) : Raised p (p.modBoot f) := ⟨_, _, _, _, _, rfl⟩
theorem raised_modContain (p : Panel) (f : Contain → Contain) : Raised p (p.modContain f) := ⟨_, _, _, _, _, rfl⟩
theorem raised_emit (p : Panel) (o : Out) : Raised p (p.emit o) := ⟨_, _, _, _, _, rfl⟩

theorem raised_sendTack (p : Panel) (f : TackFrame) : Raised p (p.sendTack f) :=
  raised_trans (raised_modTack _ _) (raised_modAgent _ _ _)

theorem raised_report (p : Panel) (r : FaultRec) : Raised p (p.report r) := by
  unfold Panel.report
  simp only
  split
  · exact raised_refl _
  · split
    · split
      · exact raised_trans (raised_modAgent _ _ _) (raised_trans (raised_sendTack _ _) (raised_sendTack _ _))
      · exact raised_modAgent _ _ _
    · exact raised_trans (raised_modAgent _ _ _) (raised_trans (raised_sendTack _ _) (raised_sendTack _ _))

theorem raised_interrupt (p : Panel) (v : Nat) : Raised p (p.interrupt v) := by
  unfold Panel.interrupt
  split
  · exact raised_emit _ _
  · exact raised_refl _

theorem raised_openMark (p : Panel) (m : Mark) : Raised p (p.openMark m) := by
  unfold Panel.openMark
  simp only
  split
  · exact raised_trans (raised_modContain _ _) (raised_count _ _ _ _)
  · exact raised_trans (raised_modContain _ _) (raised_count _ _ _ _)

theorem raised_ite {c : Prop} [Decidable c] (p q : Panel) (h : Raised p q) : Raised p (if c then q else p) := by
  split
  · exact h
  · exact raised_refl _

theorem raised_faultEffect (p : Panel) (r : FaultRec) (g : Option Nat) : Raised p (p.faultEffect r g) := by
  unfold Panel.faultEffect
  split
  · exact raised_refl _
  · exact raised_trans (raised_ite _ _ (raised_openMark _ _))
      (raised_trans (raised_ite _ _ (raised_openMark _ _)) (raised_ite _ _ (raised_setFlag _ _ _ _)))

theorem raised_halt (p : Panel) : Raised p p.halt := by
  unfold Panel.halt
  exact raised_trans (raised_modBoot _ _) (raised_trans
    (raised_foldl _ _ (fun _ _ => raised_trans (raised_setFlag _ _ _ _) (raised_setFlag _ _ _ _)) _)
    (raised_foldl _ _ (fun _ _ => raised_setFlag _ _ _ _) _))

/-- All that raising a fault touches. -/
theorem raised_raiseFor (p : Panel) (site code : Nat) (sev : Severity) (reg : Option Nat) (cluster detail : Nat) :
    Raised p (p.raiseFor site code sev reg cluster detail) := by
  unfold Panel.raiseFor
  have h : Raised p (match faultReg code with | some f => p.setField site f code | none => p) := by
    split
    · exact raised_setField _ _ _ _
    · exact raised_refl _
  exact raised_trans h (raised_trans (raised_faultEffect _ _ _) (raised_trans (raised_ite _ _ (raised_modContain _ _))
    (raised_trans (raised_ite _ _ (raised_halt _)) (raised_trans (raised_ite _ _ (raised_interrupt _ _)) (raised_report _ _)))))

theorem raised_raise (p : Panel) (site code : Nat) : Raised p (p.raise site code) := raised_raiseFor _ _ _ _ _ _ _
theorem raised_raiseAt (p : Panel) (site cluster code : Nat) : Raised p (p.raiseAt site cluster code) :=
  raised_raiseFor _ _ _ _ _ _ _
theorem raised_raiseIf (p : Panel) (c : Bool) (site code : Nat) : Raised p (p.raiseIf c site code) :=
  raised_ite _ _ (raised_raise _ _ _)

end Sys2Proof.Laws
end

