-- ==== Sys2Proof/Laws/Frame.lean ====
section
/-! SUPPORT. What the named operations over the panel leave alone, one lemma for each part of the panel: a register write
touches `csr` alone, a count of the stroke `tallies` alone, and raising a fault `csr`, `tack`, `boot`, `contain` and `out`. -/

namespace Sys2Proof.Laws

open Sys2Proof.Machine

/-! ### Register fields -/

@[simp] theorem setField_time (p : Panel) (s : Nat) (f : Fld) (v : Nat) : (p.setField s f v).time = p.time := by rw [setField_eq]
@[simp] theorem setField_tack (p : Panel) (s : Nat) (f : Fld) (v : Nat) : (p.setField s f v).tack = p.tack := by rw [setField_eq]
@[simp] theorem setField_boot (p : Panel) (s : Nat) (f : Fld) (v : Nat) : (p.setField s f v).boot = p.boot := by rw [setField_eq]
@[simp] theorem setField_flash (p : Panel) (s : Nat) (f : Fld) (v : Nat) : (p.setField s f v).flash = p.flash := by rw [setField_eq]
@[simp] theorem setField_fuses (p : Panel) (s : Nat) (f : Fld) (v : Nat) : (p.setField s f v).fuses = p.fuses := by rw [setField_eq]
@[simp] theorem setField_plan (p : Panel) (s : Nat) (f : Fld) (v : Nat) : (p.setField s f v).plan = p.plan := by rw [setField_eq]
@[simp] theorem setField_clocks (p : Panel) (s : Nat) (f : Fld) (v : Nat) : (p.setField s f v).clocks = p.clocks := by rw [setField_eq]
@[simp] theorem setField_servo (p : Panel) (s : Nat) (f : Fld) (v : Nat) : (p.setField s f v).servo = p.servo := by rw [setField_eq]
@[simp] theorem setField_power (p : Panel) (s : Nat) (f : Fld) (v : Nat) : (p.setField s f v).power = p.power := by rw [setField_eq]
@[simp] theorem setField_drawSide (p : Panel) (s : Nat) (f : Fld) (v : Nat) : (p.setField s f v).drawSide = p.drawSide := by rw [setField_eq]
@[simp] theorem setField_regions (p : Panel) (s : Nat) (f : Fld) (v : Nat) : (p.setField s f v).regions = p.regions := by rw [setField_eq]
@[simp] theorem setField_lockUp (p : Panel) (s : Nat) (f : Fld) (v : Nat) : (p.setField s f v).lockUp = p.lockUp := by rw [setField_eq]
@[simp] theorem setField_contain (p : Panel) (s : Nat) (f : Fld) (v : Nat) : (p.setField s f v).contain = p.contain := by rw [setField_eq]
@[simp] theorem setField_threads (p : Panel) (s : Nat) (f : Fld) (v : Nat) : (p.setField s f v).threads = p.threads := by rw [setField_eq]
@[simp] theorem setField_seqs (p : Panel) (s : Nat) (f : Fld) (v : Nat) : (p.setField s f v).seqs = p.seqs := by rw [setField_eq]
@[simp] theorem setField_watches (p : Panel) (s : Nat) (f : Fld) (v : Nat) : (p.setField s f v).watches = p.watches := by rw [setField_eq]
@[simp] theorem setField_syncRegion (p : Panel) (s : Nat) (f : Fld) (v : Nat) : (p.setField s f v).syncRegion = p.syncRegion := by rw [setField_eq]
@[simp] theorem setField_engines (p : Panel) (s : Nat) (f : Fld) (v : Nat) : (p.setField s f v).engines = p.engines := by rw [setField_eq]
@[simp] theorem setField_boards (p : Panel) (s : Nat) (f : Fld) (v : Nat) : (p.setField s f v).boards = p.boards := by rw [setField_eq]
@[simp] theorem setField_movers (p : Panel) (s : Nat) (f : Fld) (v : Nat) : (p.setField s f v).movers = p.movers := by rw [setField_eq]
@[simp] theorem setField_slot12 (p : Panel) (s : Nat) (f : Fld) (v : Nat) : (p.setField s f v).slot12 = p.slot12 := by rw [setField_eq]
@[simp] theorem setField_galleys (p : Panel) (s : Nat) (f : Fld) (v : Nat) : (p.setField s f v).galleys = p.galleys := by rw [setField_eq]
@[simp] theorem setField_memDies (p : Panel) (s : Nat) (f : Fld) (v : Nat) : (p.setField s f v).memDies = p.memDies := by rw [setField_eq]
@[simp] theorem setField_mesh (p : Panel) (s : Nat) (f : Fld) (v : Nat) : (p.setField s f v).mesh = p.mesh := by rw [setField_eq]
@[simp] theorem setField_meshWire (p : Panel) (s : Nat) (f : Fld) (v : Nat) : (p.setField s f v).meshWire = p.meshWire := by rw [setField_eq]
@[simp] theorem setField_meshOps (p : Panel) (s : Nat) (f : Fld) (v : Nat) : (p.setField s f v).meshOps = p.meshOps := by rw [setField_eq]
@[simp] theorem setField_bundles (p : Panel) (s : Nat) (f : Fld) (v : Nat) : (p.setField s f v).bundles = p.bundles := by rw [setField_eq]
@[simp] theorem setField_contexts (p : Panel) (s : Nat) (f : Fld) (v : Nat) : (p.setField s f v).contexts = p.contexts := by rw [setField_eq]
@[simp] theorem setField_ports (p : Panel) (s : Nat) (f : Fld) (v : Nat) : (p.setField s f v).ports = p.ports := by rw [setField_eq]
@[simp] theorem setField_links (p : Panel) (s : Nat) (f : Fld) (v : Nat) : (p.setField s f v).links = p.links := by rw [setField_eq]
@[simp] theorem setField_host (p : Panel) (s : Nat) (f : Fld) (v : Nat) : (p.setField s f v).host = p.host := by rw [setField_eq]
@[simp] theorem setField_fabric (p : Panel) (s : Nat) (f : Fld) (v : Nat) : (p.setField s f v).fabric = p.fabric := by rw [setField_eq]
@[simp] theorem setField_windowBase (p : Panel) (s : Nat) (f : Fld) (v : Nat) : (p.setField s f v).windowBase = p.windowBase := by rw [setField_eq]
@[simp] theorem setField_suspectReport (p : Panel) (s : Nat) (f : Fld) (v : Nat) : (p.setField s f v).suspectReport = p.suspectReport := by rw [setField_eq]
@[simp] theorem setField_tallies (p : Panel) (s : Nat) (f : Fld) (v : Nat) : (p.setField s f v).tallies = p.tallies := by rw [setField_eq]
@[simp] theorem setField_routers (p : Panel) (s : Nat) (f : Fld) (v : Nat) : (p.setField s f v).routers = p.routers := by rw [setField_eq]
@[simp] theorem setField_net (p : Panel) (s : Nat) (f : Fld) (v : Nat) : (p.setField s f v).net = p.net := by rw [setField_eq]
@[simp] theorem setField_injected (p : Panel) (s : Nat) (f : Fld) (v : Nat) : (p.setField s f v).injected = p.injected := by rw [setField_eq]
@[simp] theorem setField_fresh (p : Panel) (s : Nat) (f : Fld) (v : Nat) : (p.setField s f v).fresh = p.fresh := by rw [setField_eq]
@[simp] theorem setField_writes (p : Panel) (s : Nat) (f : Fld) (v : Nat) : (p.setField s f v).writes = p.writes := by rw [setField_eq]
@[simp] theorem setField_out (p : Panel) (s : Nat) (f : Fld) (v : Nat) : (p.setField s f v).out = p.out := by rw [setField_eq]

/-! ### Flags -/

@[simp] theorem setFlag_time (p : Panel) (s : Nat) (f : Fld) (b : Bool) : (p.setFlag s f b).time = p.time := by unfold Panel.setFlag; simp
@[simp] theorem setFlag_tack (p : Panel) (s : Nat) (f : Fld) (b : Bool) : (p.setFlag s f b).tack = p.tack := by unfold Panel.setFlag; simp
@[simp] theorem setFlag_boot (p : Panel) (s : Nat) (f : Fld) (b : Bool) : (p.setFlag s f b).boot = p.boot := by unfold Panel.setFlag; simp
@[simp] theorem setFlag_flash (p : Panel) (s : Nat) (f : Fld) (b : Bool) : (p.setFlag s f b).flash = p.flash := by unfold Panel.setFlag; simp
@[simp] theorem setFlag_fuses (p : Panel) (s : Nat) (f : Fld) (b : Bool) : (p.setFlag s f b).fuses = p.fuses := by unfold Panel.setFlag; simp
@[simp] theorem setFlag_plan (p : Panel) (s : Nat) (f : Fld) (b : Bool) : (p.setFlag s f b).plan = p.plan := by unfold Panel.setFlag; simp
@[simp] theorem setFlag_clocks (p : Panel) (s : Nat) (f : Fld) (b : Bool) : (p.setFlag s f b).clocks = p.clocks := by unfold Panel.setFlag; simp
@[simp] theorem setFlag_servo (p : Panel) (s : Nat) (f : Fld) (b : Bool) : (p.setFlag s f b).servo = p.servo := by unfold Panel.setFlag; simp
@[simp] theorem setFlag_power (p : Panel) (s : Nat) (f : Fld) (b : Bool) : (p.setFlag s f b).power = p.power := by unfold Panel.setFlag; simp
@[simp] theorem setFlag_drawSide (p : Panel) (s : Nat) (f : Fld) (b : Bool) : (p.setFlag s f b).drawSide = p.drawSide := by unfold Panel.setFlag; simp
@[simp] theorem setFlag_regions (p : Panel) (s : Nat) (f : Fld) (b : Bool) : (p.setFlag s f b).regions = p.regions := by unfold Panel.setFlag; simp
@[simp] theorem setFlag_lockUp (p : Panel) (s : Nat) (f : Fld) (b : Bool) : (p.setFlag s f b).lockUp = p.lockUp := by unfold Panel.setFlag; simp
@[simp] theorem setFlag_contain (p : Panel) (s : Nat) (f : Fld) (b : Bool) : (p.setFlag s f b).contain = p.contain := by unfold Panel.setFlag; simp
@[simp] theorem setFlag_threads (p : Panel) (s : Nat) (f : Fld) (b : Bool) : (p.setFlag s f b).threads = p.threads := by unfold Panel.setFlag; simp
@[simp] theorem setFlag_seqs (p : Panel) (s : Nat) (f : Fld) (b : Bool) : (p.setFlag s f b).seqs = p.seqs := by unfold Panel.setFlag; simp
@[simp] theorem setFlag_watches (p : Panel) (s : Nat) (f : Fld) (b : Bool) : (p.setFlag s f b).watches = p.watches := by unfold Panel.setFlag; simp
@[simp] theorem setFlag_syncRegion (p : Panel) (s : Nat) (f : Fld) (b : Bool) : (p.setFlag s f b).syncRegion = p.syncRegion := by unfold Panel.setFlag; simp
@[simp] theorem setFlag_engines (p : Panel) (s : Nat) (f : Fld) (b : Bool) : (p.setFlag s f b).engines = p.engines := by unfold Panel.setFlag; simp
@[simp] theorem setFlag_boards (p : Panel) (s : Nat) (f : Fld) (b : Bool) : (p.setFlag s f b).boards = p.boards := by unfold Panel.setFlag; simp
@[simp] theorem setFlag_movers (p : Panel) (s : Nat) (f : Fld) (b : Bool) : (p.setFlag s f b).movers = p.movers := by unfold Panel.setFlag; simp
@[simp] theorem setFlag_slot12 (p : Panel) (s : Nat) (f : Fld) (b : Bool) : (p.setFlag s f b).slot12 = p.slot12 := by unfold Panel.setFlag; simp
@[simp] theorem setFlag_galleys (p : Panel) (s : Nat) (f : Fld) (b : Bool) : (p.setFlag s f b).galleys = p.galleys := by unfold Panel.setFlag; simp
@[simp] theorem setFlag_memDies (p : Panel) (s : Nat) (f : Fld) (b : Bool) : (p.setFlag s f b).memDies = p.memDies := by unfold Panel.setFlag; simp
@[simp] theorem setFlag_mesh (p : Panel) (s : Nat) (f : Fld) (b : Bool) : (p.setFlag s f b).mesh = p.mesh := by unfold Panel.setFlag; simp
@[simp] theorem setFlag_meshWire (p : Panel) (s : Nat) (f : Fld) (b : Bool) : (p.setFlag s f b).meshWire = p.meshWire := by unfold Panel.setFlag; simp
@[simp] theorem setFlag_meshOps (p : Panel) (s : Nat) (f : Fld) (b : Bool) : (p.setFlag s f b).meshOps = p.meshOps := by unfold Panel.setFlag; simp
@[simp] theorem setFlag_bundles (p : Panel) (s : Nat) (f : Fld) (b : Bool) : (p.setFlag s f b).bundles = p.bundles := by unfold Panel.setFlag; simp
@[simp] theorem setFlag_contexts (p : Panel) (s : Nat) (f : Fld) (b : Bool) : (p.setFlag s f b).contexts = p.contexts := by unfold Panel.setFlag; simp
@[simp] theorem setFlag_ports (p : Panel) (s : Nat) (f : Fld) (b : Bool) : (p.setFlag s f b).ports = p.ports := by unfold Panel.setFlag; simp
@[simp] theorem setFlag_links (p : Panel) (s : Nat) (f : Fld) (b : Bool) : (p.setFlag s f b).links = p.links := by unfold Panel.setFlag; simp
@[simp] theorem setFlag_host (p : Panel) (s : Nat) (f : Fld) (b : Bool) : (p.setFlag s f b).host = p.host := by unfold Panel.setFlag; simp
@[simp] theorem setFlag_fabric (p : Panel) (s : Nat) (f : Fld) (b : Bool) : (p.setFlag s f b).fabric = p.fabric := by unfold Panel.setFlag; simp
@[simp] theorem setFlag_windowBase (p : Panel) (s : Nat) (f : Fld) (b : Bool) : (p.setFlag s f b).windowBase = p.windowBase := by unfold Panel.setFlag; simp
@[simp] theorem setFlag_suspectReport (p : Panel) (s : Nat) (f : Fld) (b : Bool) : (p.setFlag s f b).suspectReport = p.suspectReport := by unfold Panel.setFlag; simp
@[simp] theorem setFlag_tallies (p : Panel) (s : Nat) (f : Fld) (b : Bool) : (p.setFlag s f b).tallies = p.tallies := by unfold Panel.setFlag; simp
@[simp] theorem setFlag_routers (p : Panel) (s : Nat) (f : Fld) (b : Bool) : (p.setFlag s f b).routers = p.routers := by unfold Panel.setFlag; simp
@[simp] theorem setFlag_net (p : Panel) (s : Nat) (f : Fld) (b : Bool) : (p.setFlag s f b).net = p.net := by unfold Panel.setFlag; simp
@[simp] theorem setFlag_injected (p : Panel) (s : Nat) (f : Fld) (b : Bool) : (p.setFlag s f b).injected = p.injected := by unfold Panel.setFlag; simp
@[simp] theorem setFlag_fresh (p : Panel) (s : Nat) (f : Fld) (b : Bool) : (p.setFlag s f b).fresh = p.fresh := by unfold Panel.setFlag; simp
@[simp] theorem setFlag_writes (p : Panel) (s : Nat) (f : Fld) (b : Bool) : (p.setFlag s f b).writes = p.writes := by unfold Panel.setFlag; simp
@[simp] theorem setFlag_out (p : Panel) (s : Nat) (f : Fld) (b : Bool) : (p.setFlag s f b).out = p.out := by unfold Panel.setFlag; simp

/-! ### Counters -/

@[simp] theorem count_time (p : Panel) (s : Nat) (f : Fld) (n : Nat) : (p.count s f n).time = p.time := by unfold Panel.count; simp
@[simp] theorem count_tack (p : Panel) (s : Nat) (f : Fld) (n : Nat) : (p.count s f n).tack = p.tack := by unfold Panel.count; simp
@[simp] theorem count_boot (p : Panel) (s : Nat) (f : Fld) (n : Nat) : (p.count s f n).boot = p.boot := by unfold Panel.count; simp
@[simp] theorem count_flash (p : Panel) (s : Nat) (f : Fld) (n : Nat) : (p.count s f n).flash = p.flash := by unfold Panel.count; simp
@[simp] theorem count_fuses (p : Panel) (s : Nat) (f : Fld) (n : Nat) : (p.count s f n).fuses = p.fuses := by unfold Panel.count; simp
@[simp] theorem count_plan (p : Panel) (s : Nat) (f : Fld) (n : Nat) : (p.count s f n).plan = p.plan := by unfold Panel.count; simp
@[simp] theorem count_clocks (p : Panel) (s : Nat) (f : Fld) (n : Nat) : (p.count s f n).clocks = p.clocks := by unfold Panel.count; simp
@[simp] theorem count_servo (p : Panel) (s : Nat) (f : Fld) (n : Nat) : (p.count s f n).servo = p.servo := by unfold Panel.count; simp
@[simp] theorem count_power (p : Panel) (s : Nat) (f : Fld) (n : Nat) : (p.count s f n).power = p.power := by unfold Panel.count; simp
@[simp] theorem count_drawSide (p : Panel) (s : Nat) (f : Fld) (n : Nat) : (p.count s f n).drawSide = p.drawSide := by unfold Panel.count; simp
@[simp] theorem count_regions (p : Panel) (s : Nat) (f : Fld) (n : Nat) : (p.count s f n).regions = p.regions := by unfold Panel.count; simp
@[simp] theorem count_lockUp (p : Panel) (s : Nat) (f : Fld) (n : Nat) : (p.count s f n).lockUp = p.lockUp := by unfold Panel.count; simp
@[simp] theorem count_contain (p : Panel) (s : Nat) (f : Fld) (n : Nat) : (p.count s f n).contain = p.contain := by unfold Panel.count; simp
@[simp] theorem count_threads (p : Panel) (s : Nat) (f : Fld) (n : Nat) : (p.count s f n).threads = p.threads := by unfold Panel.count; simp
@[simp] theorem count_seqs (p : Panel) (s : Nat) (f : Fld) (n : Nat) : (p.count s f n).seqs = p.seqs := by unfold Panel.count; simp
@[simp] theorem count_watches (p : Panel) (s : Nat) (f : Fld) (n : Nat) : (p.count s f n).watches = p.watches := by unfold Panel.count; simp
@[simp] theorem count_syncRegion (p : Panel) (s : Nat) (f : Fld) (n : Nat) : (p.count s f n).syncRegion = p.syncRegion := by unfold Panel.count; simp
@[simp] theorem count_engines (p : Panel) (s : Nat) (f : Fld) (n : Nat) : (p.count s f n).engines = p.engines := by unfold Panel.count; simp
@[simp] theorem count_boards (p : Panel) (s : Nat) (f : Fld) (n : Nat) : (p.count s f n).boards = p.boards := by unfold Panel.count; simp
@[simp] theorem count_movers (p : Panel) (s : Nat) (f : Fld) (n : Nat) : (p.count s f n).movers = p.movers := by unfold Panel.count; simp
@[simp] theorem count_slot12 (p : Panel) (s : Nat) (f : Fld) (n : Nat) : (p.count s f n).slot12 = p.slot12 := by unfold Panel.count; simp
@[simp] theorem count_galleys (p : Panel) (s : Nat) (f : Fld) (n : Nat) : (p.count s f n).galleys = p.galleys := by unfold Panel.count; simp
@[simp] theorem count_memDies (p : Panel) (s : Nat) (f : Fld) (n : Nat) : (p.count s f n).memDies = p.memDies := by unfold Panel.count; simp
@[simp] theorem count_mesh (p : Panel) (s : Nat) (f : Fld) (n : Nat) : (p.count s f n).mesh = p.mesh := by unfold Panel.count; simp
@[simp] theorem count_meshWire (p : Panel) (s : Nat) (f : Fld) (n : Nat) : (p.count s f n).meshWire = p.meshWire := by unfold Panel.count; simp
@[simp] theorem count_meshOps (p : Panel) (s : Nat) (f : Fld) (n : Nat) : (p.count s f n).meshOps = p.meshOps := by unfold Panel.count; simp
@[simp] theorem count_bundles (p : Panel) (s : Nat) (f : Fld) (n : Nat) : (p.count s f n).bundles = p.bundles := by unfold Panel.count; simp
@[simp] theorem count_contexts (p : Panel) (s : Nat) (f : Fld) (n : Nat) : (p.count s f n).contexts = p.contexts := by unfold Panel.count; simp
@[simp] theorem count_ports (p : Panel) (s : Nat) (f : Fld) (n : Nat) : (p.count s f n).ports = p.ports := by unfold Panel.count; simp
@[simp] theorem count_links (p : Panel) (s : Nat) (f : Fld) (n : Nat) : (p.count s f n).links = p.links := by unfold Panel.count; simp
@[simp] theorem count_host (p : Panel) (s : Nat) (f : Fld) (n : Nat) : (p.count s f n).host = p.host := by unfold Panel.count; simp
@[simp] theorem count_fabric (p : Panel) (s : Nat) (f : Fld) (n : Nat) : (p.count s f n).fabric = p.fabric := by unfold Panel.count; simp
@[simp] theorem count_windowBase (p : Panel) (s : Nat) (f : Fld) (n : Nat) : (p.count s f n).windowBase = p.windowBase := by unfold Panel.count; simp
@[simp] theorem count_suspectReport (p : Panel) (s : Nat) (f : Fld) (n : Nat) : (p.count s f n).suspectReport = p.suspectReport := by unfold Panel.count; simp
@[simp] theorem count_tallies (p : Panel) (s : Nat) (f : Fld) (n : Nat) : (p.count s f n).tallies = p.tallies := by unfold Panel.count; simp
@[simp] theorem count_routers (p : Panel) (s : Nat) (f : Fld) (n : Nat) : (p.count s f n).routers = p.routers := by unfold Panel.count; simp
@[simp] theorem count_net (p : Panel) (s : Nat) (f : Fld) (n : Nat) : (p.count s f n).net = p.net := by unfold Panel.count; simp
@[simp] theorem count_injected (p : Panel) (s : Nat) (f : Fld) (n : Nat) : (p.count s f n).injected = p.injected := by unfold Panel.count; simp
@[simp] theorem count_fresh (p : Panel) (s : Nat) (f : Fld) (n : Nat) : (p.count s f n).fresh = p.fresh := by unfold Panel.count; simp
@[simp] theorem count_writes (p : Panel) (s : Nat) (f : Fld) (n : Nat) : (p.count s f n).writes = p.writes := by unfold Panel.count; simp
@[simp] theorem count_out (p : Panel) (s : Nat) (f : Fld) (n : Nat) : (p.count s f n).out = p.out := by unfold Panel.count; simp

theorem setTallyWords_eq (p : Panel) (s o v n : Nat) :
    p.setTallyWords s o v n = { p with tallies := (p.setTallyWords s o v n).tallies } := by
  induction n generalizing p o v with
  | zero => rfl
  | succ n ih =>
    simp only [Panel.setTallyWords]
    rw [ih]

theorem tally_eq (p : Panel) (s : Nat) (f : Fld) (k : Nat) : p.tally s f k = { p with tallies := (p.tally s f k).tallies } :=
  setTallyWords_eq _ _ _ _ _

/-! ### Counts of the stroke -/

@[simp] theorem tally_csr (p : Panel) (s : Nat) (f : Fld) (k : Nat) : (p.tally s f k).csr = p.csr := by rw [tally_eq]
@[simp] theorem tally_time (p : Panel) (s : Nat) (f : Fld) (k : Nat) : (p.tally s f k).time = p.time := by rw [tally_eq]
@[simp] theorem tally_tack (p : Panel) (s : Nat) (f : Fld) (k : Nat) : (p.tally s f k).tack = p.tack := by rw [tally_eq]
@[simp] theorem tally_boot (p : Panel) (s : Nat) (f : Fld) (k : Nat) : (p.tally s f k).boot = p.boot := by rw [tally_eq]
@[simp] theorem tally_flash (p : Panel) (s : Nat) (f : Fld) (k : Nat) : (p.tally s f k).flash = p.flash := by rw [tally_eq]
@[simp] theorem tally_fuses (p : Panel) (s : Nat) (f : Fld) (k : Nat) : (p.tally s f k).fuses = p.fuses := by rw [tally_eq]
@[simp] theorem tally_plan (p : Panel) (s : Nat) (f : Fld) (k : Nat) : (p.tally s f k).plan = p.plan := by rw [tally_eq]
@[simp] theorem tally_clocks (p : Panel) (s : Nat) (f : Fld) (k : Nat) : (p.tally s f k).clocks = p.clocks := by rw [tally_eq]
@[simp] theorem tally_servo (p : Panel) (s : Nat) (f : Fld) (k : Nat) : (p.tally s f k).servo = p.servo := by rw [tally_eq]
@[simp] theorem tally_power (p : Panel) (s : Nat) (f : Fld) (k : Nat) : (p.tally s f k).power = p.power := by rw [tally_eq]
@[simp] theorem tally_drawSide (p : Panel) (s : Nat) (f : Fld) (k : Nat) : (p.tally s f k).drawSide = p.drawSide := by rw [tally_eq]
@[simp] theorem tally_regions (p : Panel) (s : Nat) (f : Fld) (k : Nat) : (p.tally s f k).regions = p.regions := by rw [tally_eq]
@[simp] theorem tally_lockUp (p : Panel) (s : Nat) (f : Fld) (k : Nat) : (p.tally s f k).lockUp = p.lockUp := by rw [tally_eq]
@[simp] theorem tally_contain (p : Panel) (s : Nat) (f : Fld) (k : Nat) : (p.tally s f k).contain = p.contain := by rw [tally_eq]
@[simp] theorem tally_threads (p : Panel) (s : Nat) (f : Fld) (k : Nat) : (p.tally s f k).threads = p.threads := by rw [tally_eq]
@[simp] theorem tally_seqs (p : Panel) (s : Nat) (f : Fld) (k : Nat) : (p.tally s f k).seqs = p.seqs := by rw [tally_eq]
@[simp] theorem tally_watches (p : Panel) (s : Nat) (f : Fld) (k : Nat) : (p.tally s f k).watches = p.watches := by rw [tally_eq]
@[simp] theorem tally_syncRegion (p : Panel) (s : Nat) (f : Fld) (k : Nat) : (p.tally s f k).syncRegion = p.syncRegion := by rw [tally_eq]
@[simp] theorem tally_engines (p : Panel) (s : Nat) (f : Fld) (k : Nat) : (p.tally s f k).engines = p.engines := by rw [tally_eq]
@[simp] theorem tally_boards (p : Panel) (s : Nat) (f : Fld) (k : Nat) : (p.tally s f k).boards = p.boards := by rw [tally_eq]
@[simp] theorem tally_movers (p : Panel) (s : Nat) (f : Fld) (k : Nat) : (p.tally s f k).movers = p.movers := by rw [tally_eq]
@[simp] theorem tally_slot12 (p : Panel) (s : Nat) (f : Fld) (k : Nat) : (p.tally s f k).slot12 = p.slot12 := by rw [tally_eq]
@[simp] theorem tally_galleys (p : Panel) (s : Nat) (f : Fld) (k : Nat) : (p.tally s f k).galleys = p.galleys := by rw [tally_eq]
@[simp] theorem tally_memDies (p : Panel) (s : Nat) (f : Fld) (k : Nat) : (p.tally s f k).memDies = p.memDies := by rw [tally_eq]
@[simp] theorem tally_mesh (p : Panel) (s : Nat) (f : Fld) (k : Nat) : (p.tally s f k).mesh = p.mesh := by rw [tally_eq]
@[simp] theorem tally_meshWire (p : Panel) (s : Nat) (f : Fld) (k : Nat) : (p.tally s f k).meshWire = p.meshWire := by rw [tally_eq]
@[simp] theorem tally_meshOps (p : Panel) (s : Nat) (f : Fld) (k : Nat) : (p.tally s f k).meshOps = p.meshOps := by rw [tally_eq]
@[simp] theorem tally_bundles (p : Panel) (s : Nat) (f : Fld) (k : Nat) : (p.tally s f k).bundles = p.bundles := by rw [tally_eq]
@[simp] theorem tally_contexts (p : Panel) (s : Nat) (f : Fld) (k : Nat) : (p.tally s f k).contexts = p.contexts := by rw [tally_eq]
@[simp] theorem tally_ports (p : Panel) (s : Nat) (f : Fld) (k : Nat) : (p.tally s f k).ports = p.ports := by rw [tally_eq]
@[simp] theorem tally_links (p : Panel) (s : Nat) (f : Fld) (k : Nat) : (p.tally s f k).links = p.links := by rw [tally_eq]
@[simp] theorem tally_host (p : Panel) (s : Nat) (f : Fld) (k : Nat) : (p.tally s f k).host = p.host := by rw [tally_eq]
@[simp] theorem tally_fabric (p : Panel) (s : Nat) (f : Fld) (k : Nat) : (p.tally s f k).fabric = p.fabric := by rw [tally_eq]
@[simp] theorem tally_windowBase (p : Panel) (s : Nat) (f : Fld) (k : Nat) : (p.tally s f k).windowBase = p.windowBase := by rw [tally_eq]
@[simp] theorem tally_suspectReport (p : Panel) (s : Nat) (f : Fld) (k : Nat) : (p.tally s f k).suspectReport = p.suspectReport := by rw [tally_eq]
@[simp] theorem tally_routers (p : Panel) (s : Nat) (f : Fld) (k : Nat) : (p.tally s f k).routers = p.routers := by rw [tally_eq]
@[simp] theorem tally_net (p : Panel) (s : Nat) (f : Fld) (k : Nat) : (p.tally s f k).net = p.net := by rw [tally_eq]
@[simp] theorem tally_injected (p : Panel) (s : Nat) (f : Fld) (k : Nat) : (p.tally s f k).injected = p.injected := by rw [tally_eq]
@[simp] theorem tally_fresh (p : Panel) (s : Nat) (f : Fld) (k : Nat) : (p.tally s f k).fresh = p.fresh := by rw [tally_eq]
@[simp] theorem tally_writes (p : Panel) (s : Nat) (f : Fld) (k : Nat) : (p.tally s f k).writes = p.writes := by rw [tally_eq]
@[simp] theorem tally_out (p : Panel) (s : Nat) (f : Fld) (k : Nat) : (p.tally s f k).out = p.out := by rw [tally_eq]

theorem raised_raiseSev (p : Panel) (site cluster code : Nat) (sev : Severity) : Raised p (p.raiseSev site cluster code sev) :=
  raised_raiseFor _ _ _ _ _ _ _
theorem raised_raiseRegion (p : Panel) (region code : Nat) : Raised p (p.raiseRegion region code) :=
  raised_raiseFor _ _ _ _ _ _ _

/-! ### Faults: raiseFor -/

@[simp] theorem raiseFor_time (p : Panel) (site code : Nat) (sev : Severity) (reg : Option Nat) (cl det : Nat) : (p.raiseFor site code sev reg cl det).time = p.time := by obtain ⟨_, _, _, _, _, h⟩ := raised_raiseFor p site code sev reg cl det; rw [h]
@[simp] theorem raiseFor_flash (p : Panel) (site code : Nat) (sev : Severity) (reg : Option Nat) (cl det : Nat) : (p.raiseFor site code sev reg cl det).flash = p.flash := by obtain ⟨_, _, _, _, _, h⟩ := raised_raiseFor p site code sev reg cl det; rw [h]
@[simp] theorem raiseFor_fuses (p : Panel) (site code : Nat) (sev : Severity) (reg : Option Nat) (cl det : Nat) : (p.raiseFor site code sev reg cl det).fuses = p.fuses := by obtain ⟨_, _, _, _, _, h⟩ := raised_raiseFor p site code sev reg cl det; rw [h]
@[simp] theorem raiseFor_plan (p : Panel) (site code : Nat) (sev : Severity) (reg : Option Nat) (cl det : Nat) : (p.raiseFor site code sev reg cl det).plan = p.plan := by obtain ⟨_, _, _, _, _, h⟩ := raised_raiseFor p site code sev reg cl det; rw [h]
@[simp] theorem raiseFor_clocks (p : Panel) (site code : Nat) (sev : Severity) (reg : Option Nat) (cl det : Nat) : (p.raiseFor site code sev reg cl det).clocks = p.clocks := by obtain ⟨_, _, _, _, _, h⟩ := raised_raiseFor p site code sev reg cl det; rw [h]
@[simp] theorem raiseFor_servo (p : Panel) (site code : Nat) (sev : Severity) (reg : Option Nat) (cl det : Nat) : (p.raiseFor site code sev reg cl det).servo = p.servo := by obtain ⟨_, _, _, _, _, h⟩ := raised_raiseFor p site code sev reg cl det; rw [h]
@[simp] theorem raiseFor_power (p : Panel) (site code : Nat) (sev : Severity) (reg : Option Nat) (cl det : Nat) : (p.raiseFor site code sev reg cl det).power = p.power := by obtain ⟨_, _, _, _, _, h⟩ := raised_raiseFor p site code sev reg cl det; rw [h]
@[simp] theorem raiseFor_drawSide (p : Panel) (site code : Nat) (sev : Severity) (reg : Option Nat) (cl det : Nat) : (p.raiseFor site code sev reg cl det).drawSide = p.drawSide := by obtain ⟨_, _, _, _, _, h⟩ := raised_raiseFor p site code sev reg cl det; rw [h]
@[simp] theorem raiseFor_regions (p : Panel) (site code : Nat) (sev : Severity) (reg : Option Nat) (cl det : Nat) : (p.raiseFor site code sev reg cl det).regions = p.regions := by obtain ⟨_, _, _, _, _, h⟩ := raised_raiseFor p site code sev reg cl det; rw [h]
@[simp] theorem raiseFor_lockUp (p : Panel) (site code : Nat) (sev : Severity) (reg : Option Nat) (cl det : Nat) : (p.raiseFor site code sev reg cl det).lockUp = p.lockUp := by obtain ⟨_, _, _, _, _, h⟩ := raised_raiseFor p site code sev reg cl det; rw [h]
@[simp] theorem raiseFor_threads (p : Panel) (site code : Nat) (sev : Severity) (reg : Option Nat) (cl det : Nat) : (p.raiseFor site code sev reg cl det).threads = p.threads := by obtain ⟨_, _, _, _, _, h⟩ := raised_raiseFor p site code sev reg cl det; rw [h]
@[simp] theorem raiseFor_seqs (p : Panel) (site code : Nat) (sev : Severity) (reg : Option Nat) (cl det : Nat) : (p.raiseFor site code sev reg cl det).seqs = p.seqs := by obtain ⟨_, _, _, _, _, h⟩ := raised_raiseFor p site code sev reg cl det; rw [h]
@[simp] theorem raiseFor_watches (p : Panel) (site code : Nat) (sev : Severity) (reg : Option Nat) (cl det : Nat) : (p.raiseFor site code sev reg cl det).watches = p.watches := by obtain ⟨_, _, _, _, _, h⟩ := raised_raiseFor p site code sev reg cl det; rw [h]
@[simp] theorem raiseFor_syncRegion (p : Panel) (site code : Nat) (sev : Severity) (reg : Option Nat) (cl det : Nat) : (p.raiseFor site code sev reg cl det).syncRegion = p.syncRegion := by obtain ⟨_, _, _, _, _, h⟩ := raised_raiseFor p site code sev reg cl det; rw [h]
@[simp] theorem raiseFor_engines (p : Panel) (site code : Nat) (sev : Severity) (reg : Option Nat) (cl det : Nat) : (p.raiseFor site code sev reg cl det).engines = p.engines := by obtain ⟨_, _, _, _, _, h⟩ := raised_raiseFor p site code sev reg cl det; rw [h]
@[simp] theorem raiseFor_boards (p : Panel) (site code : Nat) (sev : Severity) (reg : Option Nat) (cl det : Nat) : (p.raiseFor site code sev reg cl det).boards = p.boards := by obtain ⟨_, _, _, _, _, h⟩ := raised_raiseFor p site code sev reg cl det; rw [h]
@[simp] theorem raiseFor_movers (p : Panel) (site code : Nat) (sev : Severity) (reg : Option Nat) (cl det : Nat) : (p.raiseFor site code sev reg cl det).movers = p.movers := by obtain ⟨_, _, _, _, _, h⟩ := raised_raiseFor p site code sev reg cl det; rw [h]
@[simp] theorem raiseFor_slot12 (p : Panel) (site code : Nat) (sev : Severity) (reg : Option Nat) (cl det : Nat) : (p.raiseFor site code sev reg cl det).slot12 = p.slot12 := by obtain ⟨_, _, _, _, _, h⟩ := raised_raiseFor p site code sev reg cl det; rw [h]
@[simp] theorem raiseFor_galleys (p : Panel) (site code : Nat) (sev : Severity) (reg : Option Nat) (cl det : Nat) : (p.raiseFor site code sev reg cl det).galleys = p.galleys := by obtain ⟨_, _, _, _, _, h⟩ := raised_raiseFor p site code sev reg cl det; rw [h]
@[simp] theorem raiseFor_memDies (p : Panel) (site code : Nat) (sev : Severity) (reg : Option Nat) (cl det : Nat) : (p.raiseFor site code sev reg cl det).memDies = p.memDies := by obtain ⟨_, _, _, _, _, h⟩ := raised_raiseFor p site code sev reg cl det; rw [h]
@[simp] theorem raiseFor_mesh (p : Panel) (site code : Nat) (sev : Severity) (reg : Option Nat) (cl det : Nat) : (p.raiseFor site code sev reg cl det).mesh = p.mesh := by obtain ⟨_, _, _, _, _, h⟩ := raised_raiseFor p site code sev reg cl det; rw [h]
@[simp] theorem raiseFor_meshWire (p : Panel) (site code : Nat) (sev : Severity) (reg : Option Nat) (cl det : Nat) : (p.raiseFor site code sev reg cl det).meshWire = p.meshWire := by obtain ⟨_, _, _, _, _, h⟩ := raised_raiseFor p site code sev reg cl det; rw [h]
@[simp] theorem raiseFor_meshOps (p : Panel) (site code : Nat) (sev : Severity) (reg : Option Nat) (cl det : Nat) : (p.raiseFor site code sev reg cl det).meshOps = p.meshOps := by obtain ⟨_, _, _, _, _, h⟩ := raised_raiseFor p site code sev reg cl det; rw [h]
@[simp] theorem raiseFor_bundles (p : Panel) (site code : Nat) (sev : Severity) (reg : Option Nat) (cl det : Nat) : (p.raiseFor site code sev reg cl det).bundles = p.bundles := by obtain ⟨_, _, _, _, _, h⟩ := raised_raiseFor p site code sev reg cl det; rw [h]
@[simp] theorem raiseFor_contexts (p : Panel) (site code : Nat) (sev : Severity) (reg : Option Nat) (cl det : Nat) : (p.raiseFor site code sev reg cl det).contexts = p.contexts := by obtain ⟨_, _, _, _, _, h⟩ := raised_raiseFor p site code sev reg cl det; rw [h]
@[simp] theorem raiseFor_ports (p : Panel) (site code : Nat) (sev : Severity) (reg : Option Nat) (cl det : Nat) : (p.raiseFor site code sev reg cl det).ports = p.ports := by obtain ⟨_, _, _, _, _, h⟩ := raised_raiseFor p site code sev reg cl det; rw [h]
@[simp] theorem raiseFor_links (p : Panel) (site code : Nat) (sev : Severity) (reg : Option Nat) (cl det : Nat) : (p.raiseFor site code sev reg cl det).links = p.links := by obtain ⟨_, _, _, _, _, h⟩ := raised_raiseFor p site code sev reg cl det; rw [h]
@[simp] theorem raiseFor_host (p : Panel) (site code : Nat) (sev : Severity) (reg : Option Nat) (cl det : Nat) : (p.raiseFor site code sev reg cl det).host = p.host := by obtain ⟨_, _, _, _, _, h⟩ := raised_raiseFor p site code sev reg cl det; rw [h]
@[simp] theorem raiseFor_fabric (p : Panel) (site code : Nat) (sev : Severity) (reg : Option Nat) (cl det : Nat) : (p.raiseFor site code sev reg cl det).fabric = p.fabric := by obtain ⟨_, _, _, _, _, h⟩ := raised_raiseFor p site code sev reg cl det; rw [h]
@[simp] theorem raiseFor_windowBase (p : Panel) (site code : Nat) (sev : Severity) (reg : Option Nat) (cl det : Nat) : (p.raiseFor site code sev reg cl det).windowBase = p.windowBase := by obtain ⟨_, _, _, _, _, h⟩ := raised_raiseFor p site code sev reg cl det; rw [h]
@[simp] theorem raiseFor_suspectReport (p : Panel) (site code : Nat) (sev : Severity) (reg : Option Nat) (cl det : Nat) : (p.raiseFor site code sev reg cl det).suspectReport = p.suspectReport := by obtain ⟨_, _, _, _, _, h⟩ := raised_raiseFor p site code sev reg cl det; rw [h]
@[simp] theorem raiseFor_tallies (p : Panel) (site code : Nat) (sev : Severity) (reg : Option Nat) (cl det : Nat) : (p.raiseFor site code sev reg cl det).tallies = p.tallies := by obtain ⟨_, _, _, _, _, h⟩ := raised_raiseFor p site code sev reg cl det; rw [h]
@[simp] theorem raiseFor_routers (p : Panel) (site code : Nat) (sev : Severity) (reg : Option Nat) (cl det : Nat) : (p.raiseFor site code sev reg cl det).routers = p.routers := by obtain ⟨_, _, _, _, _, h⟩ := raised_raiseFor p site code sev reg cl det; rw [h]
@[simp] theorem raiseFor_net (p : Panel) (site code : Nat) (sev : Severity) (reg : Option Nat) (cl det : Nat) : (p.raiseFor site code sev reg cl det).net = p.net := by obtain ⟨_, _, _, _, _, h⟩ := raised_raiseFor p site code sev reg cl det; rw [h]
@[simp] theorem raiseFor_injected (p : Panel) (site code : Nat) (sev : Severity) (reg : Option Nat) (cl det : Nat) : (p.raiseFor site code sev reg cl det).injected = p.injected := by obtain ⟨_, _, _, _, _, h⟩ := raised_raiseFor p site code sev reg cl det; rw [h]
@[simp] theorem raiseFor_fresh (p : Panel) (site code : Nat) (sev : Severity) (reg : Option Nat) (cl det : Nat) : (p.raiseFor site code sev reg cl det).fresh = p.fresh := by obtain ⟨_, _, _, _, _, h⟩ := raised_raiseFor p site code sev reg cl det; rw [h]
@[simp] theorem raiseFor_writes (p : Panel) (site code : Nat) (sev : Severity) (reg : Option Nat) (cl det : Nat) : (p.raiseFor site code sev reg cl det).writes = p.writes := by obtain ⟨_, _, _, _, _, h⟩ := raised_raiseFor p site code sev reg cl det; rw [h]

/-! ### Faults: raise -/

@[simp] theorem raise_time (p : Panel) (site code : Nat) : (p.raise site code).time = p.time := by obtain ⟨_, _, _, _, _, h⟩ := raised_raise p site code; rw [h]
@[simp] theorem raise_flash (p : Panel) (site code : Nat) : (p.raise site code).flash = p.flash := by obtain ⟨_, _, _, _, _, h⟩ := raised_raise p site code; rw [h]
@[simp] theorem raise_fuses (p : Panel) (site code : Nat) : (p.raise site code).fuses = p.fuses := by obtain ⟨_, _, _, _, _, h⟩ := raised_raise p site code; rw [h]
@[simp] theorem raise_plan (p : Panel) (site code : Nat) : (p.raise site code).plan = p.plan := by obtain ⟨_, _, _, _, _, h⟩ := raised_raise p site code; rw [h]
@[simp] theorem raise_clocks (p : Panel) (site code : Nat) : (p.raise site code).clocks = p.clocks := by obtain ⟨_, _, _, _, _, h⟩ := raised_raise p site code; rw [h]
@[simp] theorem raise_servo (p : Panel) (site code : Nat) : (p.raise site code).servo = p.servo := by obtain ⟨_, _, _, _, _, h⟩ := raised_raise p site code; rw [h]
@[simp] theorem raise_power (p : Panel) (site code : Nat) : (p.raise site code).power = p.power := by obtain ⟨_, _, _, _, _, h⟩ := raised_raise p site code; rw [h]
@[simp] theorem raise_drawSide (p : Panel) (site code : Nat) : (p.raise site code).drawSide = p.drawSide := by obtain ⟨_, _, _, _, _, h⟩ := raised_raise p site code; rw [h]
@[simp] theorem raise_regions (p : Panel) (site code : Nat) : (p.raise site code).regions = p.regions := by obtain ⟨_, _, _, _, _, h⟩ := raised_raise p site code; rw [h]
@[simp] theorem raise_lockUp (p : Panel) (site code : Nat) : (p.raise site code).lockUp = p.lockUp := by obtain ⟨_, _, _, _, _, h⟩ := raised_raise p site code; rw [h]
@[simp] theorem raise_threads (p : Panel) (site code : Nat) : (p.raise site code).threads = p.threads := by obtain ⟨_, _, _, _, _, h⟩ := raised_raise p site code; rw [h]
@[simp] theorem raise_seqs (p : Panel) (site code : Nat) : (p.raise site code).seqs = p.seqs := by obtain ⟨_, _, _, _, _, h⟩ := raised_raise p site code; rw [h]
@[simp] theorem raise_watches (p : Panel) (site code : Nat) : (p.raise site code).watches = p.watches := by obtain ⟨_, _, _, _, _, h⟩ := raised_raise p site code; rw [h]
@[simp] theorem raise_syncRegion (p : Panel) (site code : Nat) : (p.raise site code).syncRegion = p.syncRegion := by obtain ⟨_, _, _, _, _, h⟩ := raised_raise p site code; rw [h]
@[simp] theorem raise_engines (p : Panel) (site code : Nat) : (p.raise site code).engines = p.engines := by obtain ⟨_, _, _, _, _, h⟩ := raised_raise p site code; rw [h]
@[simp] theorem raise_boards (p : Panel) (site code : Nat) : (p.raise site code).boards = p.boards := by obtain ⟨_, _, _, _, _, h⟩ := raised_raise p site code; rw [h]
@[simp] theorem raise_movers (p : Panel) (site code : Nat) : (p.raise site code).movers = p.movers := by obtain ⟨_, _, _, _, _, h⟩ := raised_raise p site code; rw [h]
@[simp] theorem raise_slot12 (p : Panel) (site code : Nat) : (p.raise site code).slot12 = p.slot12 := by obtain ⟨_, _, _, _, _, h⟩ := raised_raise p site code; rw [h]
@[simp] theorem raise_galleys (p : Panel) (site code : Nat) : (p.raise site code).galleys = p.galleys := by obtain ⟨_, _, _, _, _, h⟩ := raised_raise p site code; rw [h]
@[simp] theorem raise_memDies (p : Panel) (site code : Nat) : (p.raise site code).memDies = p.memDies := by obtain ⟨_, _, _, _, _, h⟩ := raised_raise p site code; rw [h]
@[simp] theorem raise_mesh (p : Panel) (site code : Nat) : (p.raise site code).mesh = p.mesh := by obtain ⟨_, _, _, _, _, h⟩ := raised_raise p site code; rw [h]
@[simp] theorem raise_meshWire (p : Panel) (site code : Nat) : (p.raise site code).meshWire = p.meshWire := by obtain ⟨_, _, _, _, _, h⟩ := raised_raise p site code; rw [h]
@[simp] theorem raise_meshOps (p : Panel) (site code : Nat) : (p.raise site code).meshOps = p.meshOps := by obtain ⟨_, _, _, _, _, h⟩ := raised_raise p site code; rw [h]
@[simp] theorem raise_bundles (p : Panel) (site code : Nat) : (p.raise site code).bundles = p.bundles := by obtain ⟨_, _, _, _, _, h⟩ := raised_raise p site code; rw [h]
@[simp] theorem raise_contexts (p : Panel) (site code : Nat) : (p.raise site code).contexts = p.contexts := by obtain ⟨_, _, _, _, _, h⟩ := raised_raise p site code; rw [h]
@[simp] theorem raise_ports (p : Panel) (site code : Nat) : (p.raise site code).ports = p.ports := by obtain ⟨_, _, _, _, _, h⟩ := raised_raise p site code; rw [h]
@[simp] theorem raise_links (p : Panel) (site code : Nat) : (p.raise site code).links = p.links := by obtain ⟨_, _, _, _, _, h⟩ := raised_raise p site code; rw [h]
@[simp] theorem raise_host (p : Panel) (site code : Nat) : (p.raise site code).host = p.host := by obtain ⟨_, _, _, _, _, h⟩ := raised_raise p site code; rw [h]
@[simp] theorem raise_fabric (p : Panel) (site code : Nat) : (p.raise site code).fabric = p.fabric := by obtain ⟨_, _, _, _, _, h⟩ := raised_raise p site code; rw [h]
@[simp] theorem raise_windowBase (p : Panel) (site code : Nat) : (p.raise site code).windowBase = p.windowBase := by obtain ⟨_, _, _, _, _, h⟩ := raised_raise p site code; rw [h]
@[simp] theorem raise_suspectReport (p : Panel) (site code : Nat) : (p.raise site code).suspectReport = p.suspectReport := by obtain ⟨_, _, _, _, _, h⟩ := raised_raise p site code; rw [h]
@[simp] theorem raise_tallies (p : Panel) (site code : Nat) : (p.raise site code).tallies = p.tallies := by obtain ⟨_, _, _, _, _, h⟩ := raised_raise p site code; rw [h]
@[simp] theorem raise_routers (p : Panel) (site code : Nat) : (p.raise site code).routers = p.routers := by obtain ⟨_, _, _, _, _, h⟩ := raised_raise p site code; rw [h]
@[simp] theorem raise_net (p : Panel) (site code : Nat) : (p.raise site code).net = p.net := by obtain ⟨_, _, _, _, _, h⟩ := raised_raise p site code; rw [h]
@[simp] theorem raise_injected (p : Panel) (site code : Nat) : (p.raise site code).injected = p.injected := by obtain ⟨_, _, _, _, _, h⟩ := raised_raise p site code; rw [h]
@[simp] theorem raise_fresh (p : Panel) (site code : Nat) : (p.raise site code).fresh = p.fresh := by obtain ⟨_, _, _, _, _, h⟩ := raised_raise p site code; rw [h]
@[simp] theorem raise_writes (p : Panel) (site code : Nat) : (p.raise site code).writes = p.writes := by obtain ⟨_, _, _, _, _, h⟩ := raised_raise p site code; rw [h]

/-! ### Faults: raiseAt -/

@[simp] theorem raiseAt_time (p : Panel) (site cl code : Nat) : (p.raiseAt site cl code).time = p.time := by obtain ⟨_, _, _, _, _, h⟩ := raised_raiseAt p site cl code; rw [h]
@[simp] theorem raiseAt_flash (p : Panel) (site cl code : Nat) : (p.raiseAt site cl code).flash = p.flash := by obtain ⟨_, _, _, _, _, h⟩ := raised_raiseAt p site cl code; rw [h]
@[simp] theorem raiseAt_fuses (p : Panel) (site cl code : Nat) : (p.raiseAt site cl code).fuses = p.fuses := by obtain ⟨_, _, _, _, _, h⟩ := raised_raiseAt p site cl code; rw [h]
@[simp] theorem raiseAt_plan (p : Panel) (site cl code : Nat) : (p.raiseAt site cl code).plan = p.plan := by obtain ⟨_, _, _, _, _, h⟩ := raised_raiseAt p site cl code; rw [h]
@[simp] theorem raiseAt_clocks (p : Panel) (site cl code : Nat) : (p.raiseAt site cl code).clocks = p.clocks := by obtain ⟨_, _, _, _, _, h⟩ := raised_raiseAt p site cl code; rw [h]
@[simp] theorem raiseAt_servo (p : Panel) (site cl code : Nat) : (p.raiseAt site cl code).servo = p.servo := by obtain ⟨_, _, _, _, _, h⟩ := raised_raiseAt p site cl code; rw [h]
@[simp] theorem raiseAt_power (p : Panel) (site cl code : Nat) : (p.raiseAt site cl code).power = p.power := by obtain ⟨_, _, _, _, _, h⟩ := raised_raiseAt p site cl code; rw [h]
@[simp] theorem raiseAt_drawSide (p : Panel) (site cl code : Nat) : (p.raiseAt site cl code).drawSide = p.drawSide := by obtain ⟨_, _, _, _, _, h⟩ := raised_raiseAt p site cl code; rw [h]
@[simp] theorem raiseAt_regions (p : Panel) (site cl code : Nat) : (p.raiseAt site cl code).regions = p.regions := by obtain ⟨_, _, _, _, _, h⟩ := raised_raiseAt p site cl code; rw [h]
@[simp] theorem raiseAt_lockUp (p : Panel) (site cl code : Nat) : (p.raiseAt site cl code).lockUp = p.lockUp := by obtain ⟨_, _, _, _, _, h⟩ := raised_raiseAt p site cl code; rw [h]
@[simp] theorem raiseAt_threads (p : Panel) (site cl code : Nat) : (p.raiseAt site cl code).threads = p.threads := by obtain ⟨_, _, _, _, _, h⟩ := raised_raiseAt p site cl code; rw [h]
@[simp] theorem raiseAt_seqs (p : Panel) (site cl code : Nat) : (p.raiseAt site cl code).seqs = p.seqs := by obtain ⟨_, _, _, _, _, h⟩ := raised_raiseAt p site cl code; rw [h]
@[simp] theorem raiseAt_watches (p : Panel) (site cl code : Nat) : (p.raiseAt site cl code).watches = p.watches := by obtain ⟨_, _, _, _, _, h⟩ := raised_raiseAt p site cl code; rw [h]
@[simp] theorem raiseAt_syncRegion (p : Panel) (site cl code : Nat) : (p.raiseAt site cl code).syncRegion = p.syncRegion := by obtain ⟨_, _, _, _, _, h⟩ := raised_raiseAt p site cl code; rw [h]
@[simp] theorem raiseAt_engines (p : Panel) (site cl code : Nat) : (p.raiseAt site cl code).engines = p.engines := by obtain ⟨_, _, _, _, _, h⟩ := raised_raiseAt p site cl code; rw [h]
@[simp] theorem raiseAt_boards (p : Panel) (site cl code : Nat) : (p.raiseAt site cl code).boards = p.boards := by obtain ⟨_, _, _, _, _, h⟩ := raised_raiseAt p site cl code; rw [h]
@[simp] theorem raiseAt_movers (p : Panel) (site cl code : Nat) : (p.raiseAt site cl code).movers = p.movers := by obtain ⟨_, _, _, _, _, h⟩ := raised_raiseAt p site cl code; rw [h]
@[simp] theorem raiseAt_slot12 (p : Panel) (site cl code : Nat) : (p.raiseAt site cl code).slot12 = p.slot12 := by obtain ⟨_, _, _, _, _, h⟩ := raised_raiseAt p site cl code; rw [h]
@[simp] theorem raiseAt_galleys (p : Panel) (site cl code : Nat) : (p.raiseAt site cl code).galleys = p.galleys := by obtain ⟨_, _, _, _, _, h⟩ := raised_raiseAt p site cl code; rw [h]
@[simp] theorem raiseAt_memDies (p : Panel) (site cl code : Nat) : (p.raiseAt site cl code).memDies = p.memDies := by obtain ⟨_, _, _, _, _, h⟩ := raised_raiseAt p site cl code; rw [h]
@[simp] theorem raiseAt_mesh (p : Panel) (site cl code : Nat) : (p.raiseAt site cl code).mesh = p.mesh := by obtain ⟨_, _, _, _, _, h⟩ := raised_raiseAt p site cl code; rw [h]
@[simp] theorem raiseAt_meshWire (p : Panel) (site cl code : Nat) : (p.raiseAt site cl code).meshWire = p.meshWire := by obtain ⟨_, _, _, _, _, h⟩ := raised_raiseAt p site cl code; rw [h]
@[simp] theorem raiseAt_meshOps (p : Panel) (site cl code : Nat) : (p.raiseAt site cl code).meshOps = p.meshOps := by obtain ⟨_, _, _, _, _, h⟩ := raised_raiseAt p site cl code; rw [h]
@[simp] theorem raiseAt_bundles (p : Panel) (site cl code : Nat) : (p.raiseAt site cl code).bundles = p.bundles := by obtain ⟨_, _, _, _, _, h⟩ := raised_raiseAt p site cl code; rw [h]
@[simp] theorem raiseAt_contexts (p : Panel) (site cl code : Nat) : (p.raiseAt site cl code).contexts = p.contexts := by obtain ⟨_, _, _, _, _, h⟩ := raised_raiseAt p site cl code; rw [h]
@[simp] theorem raiseAt_ports (p : Panel) (site cl code : Nat) : (p.raiseAt site cl code).ports = p.ports := by obtain ⟨_, _, _, _, _, h⟩ := raised_raiseAt p site cl code; rw [h]
@[simp] theorem raiseAt_links (p : Panel) (site cl code : Nat) : (p.raiseAt site cl code).links = p.links := by obtain ⟨_, _, _, _, _, h⟩ := raised_raiseAt p site cl code; rw [h]
@[simp] theorem raiseAt_host (p : Panel) (site cl code : Nat) : (p.raiseAt site cl code).host = p.host := by obtain ⟨_, _, _, _, _, h⟩ := raised_raiseAt p site cl code; rw [h]
@[simp] theorem raiseAt_fabric (p : Panel) (site cl code : Nat) : (p.raiseAt site cl code).fabric = p.fabric := by obtain ⟨_, _, _, _, _, h⟩ := raised_raiseAt p site cl code; rw [h]
@[simp] theorem raiseAt_windowBase (p : Panel) (site cl code : Nat) : (p.raiseAt site cl code).windowBase = p.windowBase := by obtain ⟨_, _, _, _, _, h⟩ := raised_raiseAt p site cl code; rw [h]
@[simp] theorem raiseAt_suspectReport (p : Panel) (site cl code : Nat) : (p.raiseAt site cl code).suspectReport = p.suspectReport := by obtain ⟨_, _, _, _, _, h⟩ := raised_raiseAt p site cl code; rw [h]
@[simp] theorem raiseAt_tallies (p : Panel) (site cl code : Nat) : (p.raiseAt site cl code).tallies = p.tallies := by obtain ⟨_, _, _, _, _, h⟩ := raised_raiseAt p site cl code; rw [h]
@[simp] theorem raiseAt_routers (p : Panel) (site cl code : Nat) : (p.raiseAt site cl code).routers = p.routers := by obtain ⟨_, _, _, _, _, h⟩ := raised_raiseAt p site cl code; rw [h]
@[simp] theorem raiseAt_net (p : Panel) (site cl code : Nat) : (p.raiseAt site cl code).net = p.net := by obtain ⟨_, _, _, _, _, h⟩ := raised_raiseAt p site cl code; rw [h]
@[simp] theorem raiseAt_injected (p : Panel) (site cl code : Nat) : (p.raiseAt site cl code).injected = p.injected := by obtain ⟨_, _, _, _, _, h⟩ := raised_raiseAt p site cl code; rw [h]
@[simp] theorem raiseAt_fresh (p : Panel) (site cl code : Nat) : (p.raiseAt site cl code).fresh = p.fresh := by obtain ⟨_, _, _, _, _, h⟩ := raised_raiseAt p site cl code; rw [h]
@[simp] theorem raiseAt_writes (p : Panel) (site cl code : Nat) : (p.raiseAt site cl code).writes = p.writes := by obtain ⟨_, _, _, _, _, h⟩ := raised_raiseAt p site cl code; rw [h]

/-! ### Faults: raiseSev -/

@[simp] theorem raiseSev_time (p : Panel) (site cl code : Nat) (sev : Severity) : (p.raiseSev site cl code sev).time = p.time := by obtain ⟨_, _, _, _, _, h⟩ := raised_raiseSev p site cl code sev; rw [h]
@[simp] theorem raiseSev_flash (p : Panel) (site cl code : Nat) (sev : Severity) : (p.raiseSev site cl code sev).flash = p.flash := by obtain ⟨_, _, _, _, _, h⟩ := raised_raiseSev p site cl code sev; rw [h]
@[simp] theorem raiseSev_fuses (p : Panel) (site cl code : Nat) (sev : Severity) : (p.raiseSev site cl code sev).fuses = p.fuses := by obtain ⟨_, _, _, _, _, h⟩ := raised_raiseSev p site cl code sev; rw [h]
@[simp] theorem raiseSev_plan (p : Panel) (site cl code : Nat) (sev : Severity) : (p.raiseSev site cl code sev).plan = p.plan := by obtain ⟨_, _, _, _, _, h⟩ := raised_raiseSev p site cl code sev; rw [h]
@[simp] theorem raiseSev_clocks (p : Panel) (site cl code : Nat) (sev : Severity) : (p.raiseSev site cl code sev).clocks = p.clocks := by obtain ⟨_, _, _, _, _, h⟩ := raised_raiseSev p site cl code sev; rw [h]
@[simp] theorem raiseSev_servo (p : Panel) (site cl code : Nat) (sev : Severity) : (p.raiseSev site cl code sev).servo = p.servo := by obtain ⟨_, _, _, _, _, h⟩ := raised_raiseSev p site cl code sev; rw [h]
@[simp] theorem raiseSev_power (p : Panel) (site cl code : Nat) (sev : Severity) : (p.raiseSev site cl code sev).power = p.power := by obtain ⟨_, _, _, _, _, h⟩ := raised_raiseSev p site cl code sev; rw [h]
@[simp] theorem raiseSev_drawSide (p : Panel) (site cl code : Nat) (sev : Severity) : (p.raiseSev site cl code sev).drawSide = p.drawSide := by obtain ⟨_, _, _, _, _, h⟩ := raised_raiseSev p site cl code sev; rw [h]
@[simp] theorem raiseSev_regions (p : Panel) (site cl code : Nat) (sev : Severity) : (p.raiseSev site cl code sev).regions = p.regions := by obtain ⟨_, _, _, _, _, h⟩ := raised_raiseSev p site cl code sev; rw [h]
@[simp] theorem raiseSev_lockUp (p : Panel) (site cl code : Nat) (sev : Severity) : (p.raiseSev site cl code sev).lockUp = p.lockUp := by obtain ⟨_, _, _, _, _, h⟩ := raised_raiseSev p site cl code sev; rw [h]
@[simp] theorem raiseSev_threads (p : Panel) (site cl code : Nat) (sev : Severity) : (p.raiseSev site cl code sev).threads = p.threads := by obtain ⟨_, _, _, _, _, h⟩ := raised_raiseSev p site cl code sev; rw [h]
@[simp] theorem raiseSev_seqs (p : Panel) (site cl code : Nat) (sev : Severity) : (p.raiseSev site cl code sev).seqs = p.seqs := by obtain ⟨_, _, _, _, _, h⟩ := raised_raiseSev p site cl code sev; rw [h]
@[simp] theorem raiseSev_watches (p : Panel) (site cl code : Nat) (sev : Severity) : (p.raiseSev site cl code sev).watches = p.watches := by obtain ⟨_, _, _, _, _, h⟩ := raised_raiseSev p site cl code sev; rw [h]
@[simp] theorem raiseSev_syncRegion (p : Panel) (site cl code : Nat) (sev : Severity) : (p.raiseSev site cl code sev).syncRegion = p.syncRegion := by obtain ⟨_, _, _, _, _, h⟩ := raised_raiseSev p site cl code sev; rw [h]
@[simp] theorem raiseSev_engines (p : Panel) (site cl code : Nat) (sev : Severity) : (p.raiseSev site cl code sev).engines = p.engines := by obtain ⟨_, _, _, _, _, h⟩ := raised_raiseSev p site cl code sev; rw [h]
@[simp] theorem raiseSev_boards (p : Panel) (site cl code : Nat) (sev : Severity) : (p.raiseSev site cl code sev).boards = p.boards := by obtain ⟨_, _, _, _, _, h⟩ := raised_raiseSev p site cl code sev; rw [h]
@[simp] theorem raiseSev_movers (p : Panel) (site cl code : Nat) (sev : Severity) : (p.raiseSev site cl code sev).movers = p.movers := by obtain ⟨_, _, _, _, _, h⟩ := raised_raiseSev p site cl code sev; rw [h]
@[simp] theorem raiseSev_slot12 (p : Panel) (site cl code : Nat) (sev : Severity) : (p.raiseSev site cl code sev).slot12 = p.slot12 := by obtain ⟨_, _, _, _, _, h⟩ := raised_raiseSev p site cl code sev; rw [h]
@[simp] theorem raiseSev_galleys (p : Panel) (site cl code : Nat) (sev : Severity) : (p.raiseSev site cl code sev).galleys = p.galleys := by obtain ⟨_, _, _, _, _, h⟩ := raised_raiseSev p site cl code sev; rw [h]
@[simp] theorem raiseSev_memDies (p : Panel) (site cl code : Nat) (sev : Severity) : (p.raiseSev site cl code sev).memDies = p.memDies := by obtain ⟨_, _, _, _, _, h⟩ := raised_raiseSev p site cl code sev; rw [h]
@[simp] theorem raiseSev_mesh (p : Panel) (site cl code : Nat) (sev : Severity) : (p.raiseSev site cl code sev).mesh = p.mesh := by obtain ⟨_, _, _, _, _, h⟩ := raised_raiseSev p site cl code sev; rw [h]
@[simp] theorem raiseSev_meshWire (p : Panel) (site cl code : Nat) (sev : Severity) : (p.raiseSev site cl code sev).meshWire = p.meshWire := by obtain ⟨_, _, _, _, _, h⟩ := raised_raiseSev p site cl code sev; rw [h]
@[simp] theorem raiseSev_meshOps (p : Panel) (site cl code : Nat) (sev : Severity) : (p.raiseSev site cl code sev).meshOps = p.meshOps := by obtain ⟨_, _, _, _, _, h⟩ := raised_raiseSev p site cl code sev; rw [h]
@[simp] theorem raiseSev_bundles (p : Panel) (site cl code : Nat) (sev : Severity) : (p.raiseSev site cl code sev).bundles = p.bundles := by obtain ⟨_, _, _, _, _, h⟩ := raised_raiseSev p site cl code sev; rw [h]
@[simp] theorem raiseSev_contexts (p : Panel) (site cl code : Nat) (sev : Severity) : (p.raiseSev site cl code sev).contexts = p.contexts := by obtain ⟨_, _, _, _, _, h⟩ := raised_raiseSev p site cl code sev; rw [h]
@[simp] theorem raiseSev_ports (p : Panel) (site cl code : Nat) (sev : Severity) : (p.raiseSev site cl code sev).ports = p.ports := by obtain ⟨_, _, _, _, _, h⟩ := raised_raiseSev p site cl code sev; rw [h]
@[simp] theorem raiseSev_links (p : Panel) (site cl code : Nat) (sev : Severity) : (p.raiseSev site cl code sev).links = p.links := by obtain ⟨_, _, _, _, _, h⟩ := raised_raiseSev p site cl code sev; rw [h]
@[simp] theorem raiseSev_host (p : Panel) (site cl code : Nat) (sev : Severity) : (p.raiseSev site cl code sev).host = p.host := by obtain ⟨_, _, _, _, _, h⟩ := raised_raiseSev p site cl code sev; rw [h]
@[simp] theorem raiseSev_fabric (p : Panel) (site cl code : Nat) (sev : Severity) : (p.raiseSev site cl code sev).fabric = p.fabric := by obtain ⟨_, _, _, _, _, h⟩ := raised_raiseSev p site cl code sev; rw [h]
@[simp] theorem raiseSev_windowBase (p : Panel) (site cl code : Nat) (sev : Severity) : (p.raiseSev site cl code sev).windowBase = p.windowBase := by obtain ⟨_, _, _, _, _, h⟩ := raised_raiseSev p site cl code sev; rw [h]
@[simp] theorem raiseSev_suspectReport (p : Panel) (site cl code : Nat) (sev : Severity) : (p.raiseSev site cl code sev).suspectReport = p.suspectReport := by obtain ⟨_, _, _, _, _, h⟩ := raised_raiseSev p site cl code sev; rw [h]
@[simp] theorem raiseSev_tallies (p : Panel) (site cl code : Nat) (sev : Severity) : (p.raiseSev site cl code sev).tallies = p.tallies := by obtain ⟨_, _, _, _, _, h⟩ := raised_raiseSev p site cl code sev; rw [h]
@[simp] theorem raiseSev_routers (p : Panel) (site cl code : Nat) (sev : Severity) : (p.raiseSev site cl code sev).routers = p.routers := by obtain ⟨_, _, _, _, _, h⟩ := raised_raiseSev p site cl code sev; rw [h]
@[simp] theorem raiseSev_net (p : Panel) (site cl code : Nat) (sev : Severity) : (p.raiseSev site cl code sev).net = p.net := by obtain ⟨_, _, _, _, _, h⟩ := raised_raiseSev p site cl code sev; rw [h]
@[simp] theorem raiseSev_injected (p : Panel) (site cl code : Nat) (sev : Severity) : (p.raiseSev site cl code sev).injected = p.injected := by obtain ⟨_, _, _, _, _, h⟩ := raised_raiseSev p site cl code sev; rw [h]
@[simp] theorem raiseSev_fresh (p : Panel) (site cl code : Nat) (sev : Severity) : (p.raiseSev site cl code sev).fresh = p.fresh := by obtain ⟨_, _, _, _, _, h⟩ := raised_raiseSev p site cl code sev; rw [h]
@[simp] theorem raiseSev_writes (p : Panel) (site cl code : Nat) (sev : Severity) : (p.raiseSev site cl code sev).writes = p.writes := by obtain ⟨_, _, _, _, _, h⟩ := raised_raiseSev p site cl code sev; rw [h]

/-! ### Faults: raiseIf -/

@[simp] theorem raiseIf_time (p : Panel) (c : Bool) (site code : Nat) : (p.raiseIf c site code).time = p.time := by obtain ⟨_, _, _, _, _, h⟩ := raised_raiseIf p c site code; rw [h]
@[simp] theorem raiseIf_flash (p : Panel) (c : Bool) (site code : Nat) : (p.raiseIf c site code).flash = p.flash := by obtain ⟨_, _, _, _, _, h⟩ := raised_raiseIf p c site code; rw [h]
@[simp] theorem raiseIf_fuses (p : Panel) (c : Bool) (site code : Nat) : (p.raiseIf c site code).fuses = p.fuses := by obtain ⟨_, _, _, _, _, h⟩ := raised_raiseIf p c site code; rw [h]
@[simp] theorem raiseIf_plan (p : Panel) (c : Bool) (site code : Nat) : (p.raiseIf c site code).plan = p.plan := by obtain ⟨_, _, _, _, _, h⟩ := raised_raiseIf p c site code; rw [h]
@[simp] theorem raiseIf_clocks (p : Panel) (c : Bool) (site code : Nat) : (p.raiseIf c site code).clocks = p.clocks := by obtain ⟨_, _, _, _, _, h⟩ := raised_raiseIf p c site code; rw [h]
@[simp] theorem raiseIf_servo (p : Panel) (c : Bool) (site code : Nat) : (p.raiseIf c site code).servo = p.servo := by obtain ⟨_, _, _, _, _, h⟩ := raised_raiseIf p c site code; rw [h]
@[simp] theorem raiseIf_power (p : Panel) (c : Bool) (site code : Nat) : (p.raiseIf c site code).power = p.power := by obtain ⟨_, _, _, _, _, h⟩ := raised_raiseIf p c site code; rw [h]
@[simp] theorem raiseIf_drawSide (p : Panel) (c : Bool) (site code : Nat) : (p.raiseIf c site code).drawSide = p.drawSide := by obtain ⟨_, _, _, _, _, h⟩ := raised_raiseIf p c site code; rw [h]
@[simp] theorem raiseIf_regions (p : Panel) (c : Bool) (site code : Nat) : (p.raiseIf c site code).regions = p.regions := by obtain ⟨_, _, _, _, _, h⟩ := raised_raiseIf p c site code; rw [h]
@[simp] theorem raiseIf_lockUp (p : Panel) (c : Bool) (site code : Nat) : (p.raiseIf c site code).lockUp = p.lockUp := by obtain ⟨_, _, _, _, _, h⟩ := raised_raiseIf p c site code; rw [h]
@[simp] theorem raiseIf_threads (p : Panel) (c : Bool) (site code : Nat) : (p.raiseIf c site code).threads = p.threads := by obtain ⟨_, _, _, _, _, h⟩ := raised_raiseIf p c site code; rw [h]
@[simp] theorem raiseIf_seqs (p : Panel) (c : Bool) (site code : Nat) : (p.raiseIf c site code).seqs = p.seqs := by obtain ⟨_, _, _, _, _, h⟩ := raised_raiseIf p c site code; rw [h]
@[simp] theorem raiseIf_watches (p : Panel) (c : Bool) (site code : Nat) : (p.raiseIf c site code).watches = p.watches := by obtain ⟨_, _, _, _, _, h⟩ := raised_raiseIf p c site code; rw [h]
@[simp] theorem raiseIf_syncRegion (p : Panel) (c : Bool) (site code : Nat) : (p.raiseIf c site code).syncRegion = p.syncRegion := by obtain ⟨_, _, _, _, _, h⟩ := raised_raiseIf p c site code; rw [h]
@[simp] theorem raiseIf_engines (p : Panel) (c : Bool) (site code : Nat) : (p.raiseIf c site code).engines = p.engines := by obtain ⟨_, _, _, _, _, h⟩ := raised_raiseIf p c site code; rw [h]
@[simp] theorem raiseIf_boards (p : Panel) (c : Bool) (site code : Nat) : (p.raiseIf c site code).boards = p.boards := by obtain ⟨_, _, _, _, _, h⟩ := raised_raiseIf p c site code; rw [h]
@[simp] theorem raiseIf_movers (p : Panel) (c : Bool) (site code : Nat) : (p.raiseIf c site code).movers = p.movers := by obtain ⟨_, _, _, _, _, h⟩ := raised_raiseIf p c site code; rw [h]
@[simp] theorem raiseIf_slot12 (p : Panel) (c : Bool) (site code : Nat) : (p.raiseIf c site code).slot12 = p.slot12 := by obtain ⟨_, _, _, _, _, h⟩ := raised_raiseIf p c site code; rw [h]
@[simp] theorem raiseIf_galleys (p : Panel) (c : Bool) (site code : Nat) : (p.raiseIf c site code).galleys = p.galleys := by obtain ⟨_, _, _, _, _, h⟩ := raised_raiseIf p c site code; rw [h]
@[simp] theorem raiseIf_memDies (p : Panel) (c : Bool) (site code : Nat) : (p.raiseIf c site code).memDies = p.memDies := by obtain ⟨_, _, _, _, _, h⟩ := raised_raiseIf p c site code; rw [h]
@[simp] theorem raiseIf_mesh (p : Panel) (c : Bool) (site code : Nat) : (p.raiseIf c site code).mesh = p.mesh := by obtain ⟨_, _, _, _, _, h⟩ := raised_raiseIf p c site code; rw [h]
@[simp] theorem raiseIf_meshWire (p : Panel) (c : Bool) (site code : Nat) : (p.raiseIf c site code).meshWire = p.meshWire := by obtain ⟨_, _, _, _, _, h⟩ := raised_raiseIf p c site code; rw [h]
@[simp] theorem raiseIf_meshOps (p : Panel) (c : Bool) (site code : Nat) : (p.raiseIf c site code).meshOps = p.meshOps := by obtain ⟨_, _, _, _, _, h⟩ := raised_raiseIf p c site code; rw [h]
@[simp] theorem raiseIf_bundles (p : Panel) (c : Bool) (site code : Nat) : (p.raiseIf c site code).bundles = p.bundles := by obtain ⟨_, _, _, _, _, h⟩ := raised_raiseIf p c site code; rw [h]
@[simp] theorem raiseIf_contexts (p : Panel) (c : Bool) (site code : Nat) : (p.raiseIf c site code).contexts = p.contexts := by obtain ⟨_, _, _, _, _, h⟩ := raised_raiseIf p c site code; rw [h]
@[simp] theorem raiseIf_ports (p : Panel) (c : Bool) (site code : Nat) : (p.raiseIf c site code).ports = p.ports := by obtain ⟨_, _, _, _, _, h⟩ := raised_raiseIf p c site code; rw [h]
@[simp] theorem raiseIf_links (p : Panel) (c : Bool) (site code : Nat) : (p.raiseIf c site code).links = p.links := by obtain ⟨_, _, _, _, _, h⟩ := raised_raiseIf p c site code; rw [h]
@[simp] theorem raiseIf_host (p : Panel) (c : Bool) (site code : Nat) : (p.raiseIf c site code).host = p.host := by obtain ⟨_, _, _, _, _, h⟩ := raised_raiseIf p c site code; rw [h]
@[simp] theorem raiseIf_fabric (p : Panel) (c : Bool) (site code : Nat) : (p.raiseIf c site code).fabric = p.fabric := by obtain ⟨_, _, _, _, _, h⟩ := raised_raiseIf p c site code; rw [h]
@[simp] theorem raiseIf_windowBase (p : Panel) (c : Bool) (site code : Nat) : (p.raiseIf c site code).windowBase = p.windowBase := by obtain ⟨_, _, _, _, _, h⟩ := raised_raiseIf p c site code; rw [h]
@[simp] theorem raiseIf_suspectReport (p : Panel) (c : Bool) (site code : Nat) : (p.raiseIf c site code).suspectReport = p.suspectReport := by obtain ⟨_, _, _, _, _, h⟩ := raised_raiseIf p c site code; rw [h]
@[simp] theorem raiseIf_tallies (p : Panel) (c : Bool) (site code : Nat) : (p.raiseIf c site code).tallies = p.tallies := by obtain ⟨_, _, _, _, _, h⟩ := raised_raiseIf p c site code; rw [h]
@[simp] theorem raiseIf_routers (p : Panel) (c : Bool) (site code : Nat) : (p.raiseIf c site code).routers = p.routers := by obtain ⟨_, _, _, _, _, h⟩ := raised_raiseIf p c site code; rw [h]
@[simp] theorem raiseIf_net (p : Panel) (c : Bool) (site code : Nat) : (p.raiseIf c site code).net = p.net := by obtain ⟨_, _, _, _, _, h⟩ := raised_raiseIf p c site code; rw [h]
@[simp] theorem raiseIf_injected (p : Panel) (c : Bool) (site code : Nat) : (p.raiseIf c site code).injected = p.injected := by obtain ⟨_, _, _, _, _, h⟩ := raised_raiseIf p c site code; rw [h]
@[simp] theorem raiseIf_fresh (p : Panel) (c : Bool) (site code : Nat) : (p.raiseIf c site code).fresh = p.fresh := by obtain ⟨_, _, _, _, _, h⟩ := raised_raiseIf p c site code; rw [h]
@[simp] theorem raiseIf_writes (p : Panel) (c : Bool) (site code : Nat) : (p.raiseIf c site code).writes = p.writes := by obtain ⟨_, _, _, _, _, h⟩ := raised_raiseIf p c site code; rw [h]

/-! ### Faults: raiseRegion -/

@[simp] theorem raiseRegion_time (p : Panel) (region code : Nat) : (p.raiseRegion region code).time = p.time := by obtain ⟨_, _, _, _, _, h⟩ := raised_raiseRegion p region code; rw [h]
@[simp] theorem raiseRegion_flash (p : Panel) (region code : Nat) : (p.raiseRegion region code).flash = p.flash := by obtain ⟨_, _, _, _, _, h⟩ := raised_raiseRegion p region code; rw [h]
@[simp] theorem raiseRegion_fuses (p : Panel) (region code : Nat) : (p.raiseRegion region code).fuses = p.fuses := by obtain ⟨_, _, _, _, _, h⟩ := raised_raiseRegion p region code; rw [h]
@[simp] theorem raiseRegion_plan (p : Panel) (region code : Nat) : (p.raiseRegion region code).plan = p.plan := by obtain ⟨_, _, _, _, _, h⟩ := raised_raiseRegion p region code; rw [h]
@[simp] theorem raiseRegion_clocks (p : Panel) (region code : Nat) : (p.raiseRegion region code).clocks = p.clocks := by obtain ⟨_, _, _, _, _, h⟩ := raised_raiseRegion p region code; rw [h]
@[simp] theorem raiseRegion_servo (p : Panel) (region code : Nat) : (p.raiseRegion region code).servo = p.servo := by obtain ⟨_, _, _, _, _, h⟩ := raised_raiseRegion p region code; rw [h]
@[simp] theorem raiseRegion_power (p : Panel) (region code : Nat) : (p.raiseRegion region code).power = p.power := by obtain ⟨_, _, _, _, _, h⟩ := raised_raiseRegion p region code; rw [h]
@[simp] theorem raiseRegion_drawSide (p : Panel) (region code : Nat) : (p.raiseRegion region code).drawSide = p.drawSide := by obtain ⟨_, _, _, _, _, h⟩ := raised_raiseRegion p region code; rw [h]
@[simp] theorem raiseRegion_regions (p : Panel) (region code : Nat) : (p.raiseRegion region code).regions = p.regions := by obtain ⟨_, _, _, _, _, h⟩ := raised_raiseRegion p region code; rw [h]
@[simp] theorem raiseRegion_lockUp (p : Panel) (region code : Nat) : (p.raiseRegion region code).lockUp = p.lockUp := by obtain ⟨_, _, _, _, _, h⟩ := raised_raiseRegion p region code; rw [h]
@[simp] theorem raiseRegion_threads (p : Panel) (region code : Nat) : (p.raiseRegion region code).threads = p.threads := by obtain ⟨_, _, _, _, _, h⟩ := raised_raiseRegion p region code; rw [h]
@[simp] theorem raiseRegion_seqs (p : Panel) (region code : Nat) : (p.raiseRegion region code).seqs = p.seqs := by obtain ⟨_, _, _, _, _, h⟩ := raised_raiseRegion p region code; rw [h]
@[simp] theorem raiseRegion_watches (p : Panel) (region code : Nat) : (p.raiseRegion region code).watches = p.watches := by obtain ⟨_, _, _, _, _, h⟩ := raised_raiseRegion p region code; rw [h]
@[simp] theorem raiseRegion_syncRegion (p : Panel) (region code : Nat) : (p.raiseRegion region code).syncRegion = p.syncRegion := by obtain ⟨_, _, _, _, _, h⟩ := raised_raiseRegion p region code; rw [h]
@[simp] theorem raiseRegion_engines (p : Panel) (region code : Nat) : (p.raiseRegion region code).engines = p.engines := by obtain ⟨_, _, _, _, _, h⟩ := raised_raiseRegion p region code; rw [h]
@[simp] theorem raiseRegion_boards (p : Panel) (region code : Nat) : (p.raiseRegion region code).boards = p.boards := by obtain ⟨_, _, _, _, _, h⟩ := raised_raiseRegion p region code; rw [h]
@[simp] theorem raiseRegion_movers (p : Panel) (region code : Nat) : (p.raiseRegion region code).movers = p.movers := by obtain ⟨_, _, _, _, _, h⟩ := raised_raiseRegion p region code; rw [h]
@[simp] theorem raiseRegion_slot12 (p : Panel) (region code : Nat) : (p.raiseRegion region code).slot12 = p.slot12 := by obtain ⟨_, _, _, _, _, h⟩ := raised_raiseRegion p region code; rw [h]
@[simp] theorem raiseRegion_galleys (p : Panel) (region code : Nat) : (p.raiseRegion region code).galleys = p.galleys := by obtain ⟨_, _, _, _, _, h⟩ := raised_raiseRegion p region code; rw [h]
@[simp] theorem raiseRegion_memDies (p : Panel) (region code : Nat) : (p.raiseRegion region code).memDies = p.memDies := by obtain ⟨_, _, _, _, _, h⟩ := raised_raiseRegion p region code; rw [h]
@[simp] theorem raiseRegion_mesh (p : Panel) (region code : Nat) : (p.raiseRegion region code).mesh = p.mesh := by obtain ⟨_, _, _, _, _, h⟩ := raised_raiseRegion p region code; rw [h]
@[simp] theorem raiseRegion_meshWire (p : Panel) (region code : Nat) : (p.raiseRegion region code).meshWire = p.meshWire := by obtain ⟨_, _, _, _, _, h⟩ := raised_raiseRegion p region code; rw [h]
@[simp] theorem raiseRegion_meshOps (p : Panel) (region code : Nat) : (p.raiseRegion region code).meshOps = p.meshOps := by obtain ⟨_, _, _, _, _, h⟩ := raised_raiseRegion p region code; rw [h]
@[simp] theorem raiseRegion_bundles (p : Panel) (region code : Nat) : (p.raiseRegion region code).bundles = p.bundles := by obtain ⟨_, _, _, _, _, h⟩ := raised_raiseRegion p region code; rw [h]
@[simp] theorem raiseRegion_contexts (p : Panel) (region code : Nat) : (p.raiseRegion region code).contexts = p.contexts := by obtain ⟨_, _, _, _, _, h⟩ := raised_raiseRegion p region code; rw [h]
@[simp] theorem raiseRegion_ports (p : Panel) (region code : Nat) : (p.raiseRegion region code).ports = p.ports := by obtain ⟨_, _, _, _, _, h⟩ := raised_raiseRegion p region code; rw [h]
@[simp] theorem raiseRegion_links (p : Panel) (region code : Nat) : (p.raiseRegion region code).links = p.links := by obtain ⟨_, _, _, _, _, h⟩ := raised_raiseRegion p region code; rw [h]
@[simp] theorem raiseRegion_host (p : Panel) (region code : Nat) : (p.raiseRegion region code).host = p.host := by obtain ⟨_, _, _, _, _, h⟩ := raised_raiseRegion p region code; rw [h]
@[simp] theorem raiseRegion_fabric (p : Panel) (region code : Nat) : (p.raiseRegion region code).fabric = p.fabric := by obtain ⟨_, _, _, _, _, h⟩ := raised_raiseRegion p region code; rw [h]
@[simp] theorem raiseRegion_windowBase (p : Panel) (region code : Nat) : (p.raiseRegion region code).windowBase = p.windowBase := by obtain ⟨_, _, _, _, _, h⟩ := raised_raiseRegion p region code; rw [h]
@[simp] theorem raiseRegion_suspectReport (p : Panel) (region code : Nat) : (p.raiseRegion region code).suspectReport = p.suspectReport := by obtain ⟨_, _, _, _, _, h⟩ := raised_raiseRegion p region code; rw [h]
@[simp] theorem raiseRegion_tallies (p : Panel) (region code : Nat) : (p.raiseRegion region code).tallies = p.tallies := by obtain ⟨_, _, _, _, _, h⟩ := raised_raiseRegion p region code; rw [h]
@[simp] theorem raiseRegion_routers (p : Panel) (region code : Nat) : (p.raiseRegion region code).routers = p.routers := by obtain ⟨_, _, _, _, _, h⟩ := raised_raiseRegion p region code; rw [h]
@[simp] theorem raiseRegion_net (p : Panel) (region code : Nat) : (p.raiseRegion region code).net = p.net := by obtain ⟨_, _, _, _, _, h⟩ := raised_raiseRegion p region code; rw [h]
@[simp] theorem raiseRegion_injected (p : Panel) (region code : Nat) : (p.raiseRegion region code).injected = p.injected := by obtain ⟨_, _, _, _, _, h⟩ := raised_raiseRegion p region code; rw [h]
@[simp] theorem raiseRegion_fresh (p : Panel) (region code : Nat) : (p.raiseRegion region code).fresh = p.fresh := by obtain ⟨_, _, _, _, _, h⟩ := raised_raiseRegion p region code; rw [h]
@[simp] theorem raiseRegion_writes (p : Panel) (region code : Nat) : (p.raiseRegion region code).writes = p.writes := by obtain ⟨_, _, _, _, _, h⟩ := raised_raiseRegion p region code; rw [h]

end Sys2Proof.Laws
end

