-- ==== Sys2Proof/Laws/Mem.lean ====
section
/-! SUPPORT. Laws of memory: which part each operation touches, and that every operation keeps the canonical form. -/

namespace Sys2Proof.Laws

open Sys2Proof.Machine

/-! ### What each part of a write leaves alone -/

@[simp] theorem setFox_bytes (m : Mem) (a : Nat) (f : Bool) (n : Nat) : (m.setFox a f n).bytes = m.bytes := by
  induction n generalizing m a with
  | zero => rfl
  | succ n ih =>
    simp only [Mem.setFox, ih]
    split <;> rfl

@[simp] theorem setFox_badParity (m : Mem) (a : Nat) (f : Bool) (n : Nat) :
    (m.setFox a f n).badParity = m.badParity := by
  induction n generalizing m a with
  | zero => rfl
  | succ n ih =>
    simp only [Mem.setFox, ih]
    split <;> rfl

@[simp] theorem setParity_bytes (m : Mem) (a v n : Nat) : (m.setParity a v n).bytes = m.bytes := by
  induction n generalizing m a with
  | zero => rfl
  | succ n ih => simp only [Mem.setParity, ih]

@[simp] theorem setParity_fox (m : Mem) (a v n : Nat) : (m.setParity a v n).fox = m.fox := by
  induction n generalizing m a with
  | zero => rfl
  | succ n ih => simp only [Mem.setParity, ih]

@[simp] theorem setParity_summary (m : Mem) (a v n : Nat) : (m.setParity a v n).summary = m.summary := by
  induction n generalizing m a with
  | zero => rfl
  | succ n ih => simp only [Mem.setParity, ih]

@[simp] theorem foxChannels_bytes (m : Mem) (cs : List Nat) : (m.foxChannels cs).bytes = m.bytes := rfl
@[simp] theorem foxChannels_badParity (m : Mem) (cs : List Nat) : (m.foxChannels cs).badParity = m.badParity := rfl
@[simp] theorem clearRange_summary (m : Mem) (a n : Nat) : (m.clearRange a n).summary = m.summary := rfl

@[simp] theorem mem_apply_nil (m : Mem) : m.apply [] = m := rfl
@[simp] theorem mem_apply_cons (m : Mem) (w : MemWrite) (ws : List MemWrite) :
    m.apply (w :: ws) = (m.write w).apply ws := rfl

theorem mem_apply_append (m : Mem) (ws vs : List MemWrite) : m.apply (ws ++ vs) = (m.apply ws).apply vs := by
  induction ws generalizing m with
  | nil => rfl
  | cons w ws ih => simp [ih]

/-! ### The canonical form -/

theorem mem_wf_iff (m : Mem) : m.wf = true ↔ SMap.wf memByte0 m.bytes = true ∧ SMap.wf memFox0 m.fox = true
    ∧ SMap.wf memPar0 m.badParity = true ∧ SMap.wf memSum0 m.summary = true := by
  simp [Mem.wf, Bool.and_eq_true, and_assoc]

theorem putBytes_wf (l : List Byte) : ∀ (b : List Host.Cell) (a : Nat), SMap.wf memByte0 b = true →
    SMap.wf memByte0 (putBytes b a l) = true := by
  induction l with
  | nil => intro b a w; exact w
  | cons x xs ih => intro b a w; exact ih _ _ (smap_wf_set _ _ _ _ w)

theorem setFox_wf (n : Nat) (f : Bool) : ∀ (m : Mem) (a : Nat), m.wf = true → (m.setFox a f n).wf = true := by
  induction n with
  | zero => intro m a w; exact w
  | succ n ih =>
    intro m a w
    rw [mem_wf_iff] at w
    simp only [Mem.setFox]
    apply ih
    rw [mem_wf_iff]
    split
    · exact ⟨w.1, smap_wf_set _ _ _ _ w.2.1, w.2.2.1, smap_wf_set memSum0 m.summary (summaryKey a) true w.2.2.2⟩
    · exact ⟨w.1, smap_wf_set _ _ _ _ w.2.1, w.2.2.1, w.2.2.2⟩

theorem setParity_wf (n v : Nat) : ∀ (m : Mem) (a : Nat), m.wf = true → (m.setParity a v n).wf = true := by
  induction n with
  | zero => intro m a w; exact w
  | succ n ih =>
    intro m a w
    rw [mem_wf_iff] at w
    simp only [Mem.setParity]
    apply ih
    rw [mem_wf_iff]
    exact ⟨w.1, w.2.1, smap_wf_set _ _ _ _ w.2.2.1, w.2.2.2⟩

theorem clearRange_wf (m : Mem) (a n : Nat) (w : m.wf = true) : (m.clearRange a n).wf = true := by
  rw [mem_wf_iff] at w ⊢
  exact ⟨smap_wf_filter _ _ _ w.1, smap_wf_filter _ _ _ w.2.1, smap_wf_filter _ _ _ w.2.2.1, w.2.2.2⟩

theorem foxChannels_wf (m : Mem) (cs : List Nat) (w : m.wf = true) : (m.foxChannels cs).wf = true := by
  rw [mem_wf_iff] at w ⊢
  exact ⟨w.1, smap_wf_filter _ _ _ w.2.1, w.2.2.1, smap_wf_filter _ _ _ w.2.2.2⟩

theorem bytes_wf (m : Mem) (b : List Host.Cell) (w : m.wf = true) (h : SMap.wf memByte0 b = true) :
    ({ m with bytes := b } : Mem).wf = true := by
  rw [mem_wf_iff] at w ⊢
  exact ⟨h, w.2⟩

theorem summary_wf (m : Mem) (k : Nat) (v : Bool) (w : m.wf = true) :
    ({ m with summary := SMap.set memSum0 m.summary k v } : Mem).wf = true := by
  rw [mem_wf_iff] at w ⊢
  exact ⟨w.1, w.2.1, w.2.2.1, smap_wf_set _ _ _ _ w.2.2.2⟩

/-- One write keeps the canonical form. -/
theorem write_wf (m : Mem) (x : MemWrite) (w : m.wf = true) : (m.write x).wf = true := by
  have fox (m : Mem) (n : Nat) (h : m.wf = true) :
      (match x.fox with | some f => m.setFox x.addr f n | none => m).wf = true := by
    split
    · exact setFox_wf _ _ _ _ h
    · exact h
  have par (m : Mem) (n : Nat) (h : m.wf = true) :
      (match x.parity with | some v => m.setParity x.addr v n | none => m).wf = true := by
    split
    · exact setParity_wf _ _ _ _ h
    · exact h
  have clean (m : Mem) (h : m.wf = true) :
      (match x.clean with
        | some k => ({ m with summary := SMap.set memSum0 m.summary k false } : Mem)
        | none => m).wf = true := by
    split
    · exact summary_wf _ _ _ h
    · exact h
  have chan (m : Mem) (h : m.wf = true) :
      (if x.foxChannels.isEmpty then m else m.foxChannels x.foxChannels).wf = true := by
    split
    · exact h
    · exact foxChannels_wf _ _ h
  have clear : (if x.clear = 0 then m else m.clearRange x.addr x.clear).wf = true := by
    split
    · exact w
    · exact clearRange_wf _ _ _ w
  have h := clean _ (chan _ clear)
  exact fox _ _ (par _ _ (bytes_wf _ _ h (putBytes_wf _ _ _ ((mem_wf_iff _).1 h).1)))

/-- Writes in order keep the canonical form. -/
theorem apply_wf (ws : List MemWrite) : ∀ m : Mem, m.wf = true → (m.apply ws).wf = true := by
  induction ws with
  | nil => intro m w; exact w
  | cons x xs ih => intro m w; exact ih _ (write_wf m x w)

/-- Memory after reset has the canonical form. -/
theorem reset_mem_wf : ({} : Mem).wf = true := rfl

end Sys2Proof.Laws
end

