-- ==== Sys2Proof/Laws/State.lean ====
section
/-! SUPPORT. Laws of the state: what each way of putting a command's effect into the state does to the queue, memory,
panel time and the list of writes. -/

namespace Sys2Proof.Laws

open Sys2Proof.Machine

@[simp] theorem quiet_pending (s : State) (f : Panel → Panel) : (s.quiet f).pending = s.pending := rfl
@[simp] theorem quiet_mem (s : State) (f : Panel → Panel) : (s.quiet f).mem = s.mem := rfl
@[simp] theorem quiet_time (s : State) (f : Panel → Panel) : (s.quiet f).p.time = s.p.time := rfl
@[simp] theorem quiet_writes (s : State) (f : Panel → Panel) : (s.quiet f).p.writes = [] := rfl
@[simp] theorem quiet_csr (s : State) (f : Panel → Panel) : (s.quiet f).p.csr = (f { s.p with out := [], writes := [] }).csr := rfl

@[simp] theorem reads_pending (s : State) (f : Mem → Panel → Panel) : (s.reads f).pending = s.pending := rfl
@[simp] theorem reads_mem (s : State) (f : Mem → Panel → Panel) : (s.reads f).mem = s.mem := rfl
@[simp] theorem reads_time (s : State) (f : Mem → Panel → Panel) : (s.reads f).p.time = s.p.time := rfl
@[simp] theorem reads_writes (s : State) (f : Mem → Panel → Panel) : (s.reads f).p.writes = [] := rfl

@[simp] theorem store_pending (s : State) (f : Mem → Panel → Panel) : (s.store f).pending = s.pending := rfl
@[simp] theorem store_mem (s : State) (f : Mem → Panel → Panel) :
    (s.store f).mem = s.mem.apply (f s.mem { s.p with out := [], writes := [] }).writes := rfl
@[simp] theorem store_time (s : State) (f : Mem → Panel → Panel) : (s.store f).p.time = s.p.time := rfl
@[simp] theorem store_writes (s : State) (f : Mem → Panel → Panel) : (s.store f).p.writes = [] := rfl

@[simp] theorem retime_pending (s : State) (f : Panel → Panel) : (s.retime f).pending = s.pending := rfl
@[simp] theorem retime_mem (s : State) (f : Panel → Panel) : (s.retime f).mem = s.mem := rfl
@[simp] theorem retime_now (s : State) (f : Panel → Panel) :
    (s.retime f).p.time.now = max s.p.time.now (f { s.p with out := [], writes := [] }).time.now := rfl
@[simp] theorem retime_writes (s : State) (f : Panel → Panel) : (s.retime f).p.writes = [] := rfl

@[simp] theorem act_pending (s : State) (f : Mem → Panel → Panel) : (s.act f).pending = s.pending := rfl
@[simp] theorem act_mem (s : State) (f : Mem → Panel → Panel) :
    (s.act f).mem = s.mem.apply (f s.mem { s.p with out := [], writes := [] }).writes := rfl
@[simp] theorem act_time (s : State) (f : Mem → Panel → Panel) :
    (s.act f).p.time = if (f s.mem { s.p with out := [], writes := [] }).boot.cold then {} else s.p.time := rfl
@[simp] theorem act_writes (s : State) (f : Mem → Panel → Panel) : (s.act f).p.writes = [] := rfl
@[simp] theorem act_cold (s : State) (f : Mem → Panel → Panel) : (s.act f).p.boot.cold = false := rfl

@[simp] theorem idle_pending (s : State) : s.idle.pending = s.pending := rfl
@[simp] theorem idle_time (s : State) : s.idle.p.time = s.p.timeAfter := rfl
@[simp] theorem idle_writes (s : State) : s.idle.p.writes = [] := rfl

@[simp] theorem put_writes (p : Panel) (w : MemWrite) : (p.put w).writes = p.writes ++ [w] := rfl
@[simp] theorem emit_out (p : Panel) (o : Out) : (p.emit o).out = p.out ++ [o] := rfl
@[simp] theorem emit_csr (p : Panel) (o : Out) : (p.emit o).csr = p.csr := rfl
@[simp] theorem put_csr (p : Panel) (w : MemWrite) : (p.put w).csr = p.csr := rfl

/-! ### Two effects that agree on the panel a command finds -/

theorem quiet_congr (s : State) {f g : Panel → Panel} (h : f s.seen = g s.seen) : s.quiet f = s.quiet g := by
  unfold State.quiet
  rw [show f { s.p with out := [], writes := [] } = g { s.p with out := [], writes := [] } from h]

theorem store_congr (s : State) {f g : Mem → Panel → Panel} (h : f s.mem s.seen = g s.mem s.seen) : s.store f = s.store g := by
  unfold State.store
  rw [show f s.mem { s.p with out := [], writes := [] } = g s.mem { s.p with out := [], writes := [] } from h]

theorem retime_congr (s : State) {f g : Panel → Panel} (h : f s.seen = g s.seen) : s.retime f = s.retime g := by
  unfold State.retime
  rw [show f { s.p with out := [], writes := [] } = g { s.p with out := [], writes := [] } from h]

theorem act_congr (s : State) {f g : Mem → Panel → Panel} (h : f s.mem s.seen = g s.mem s.seen) : s.act f = s.act g := by
  unfold State.act
  rw [show f s.mem { s.p with out := [], writes := [] } = g s.mem { s.p with out := [], writes := [] } from h]

end Sys2Proof.Laws
end

