-- ==== Sys2Proof/Laws/Parts.lean ====
section
/-! SUPPORT. The parts of the panel: what a change of one part makes of it, and that it leaves the registers, panel time and
the other parts. -/

namespace Sys2Proof.Laws

open Sys2Proof.Machine

/-- A register field depends on the registers alone. -/
theorem field_of_csr {p q : Panel} (h : q.csr = p.csr) (x : Nat) (g : Fld) : q.field x g = p.field x g := by
  unfold Panel.field
  simp only
  rw [words_congr q p]
  intro i _
  unfold Panel.word
  rw [h]

theorem isSet_of_csr {p q : Panel} (h : q.csr = p.csr) (x : Nat) (g : Fld) : q.isSet x g = p.isSet x g := by
  unfold Panel.isSet
  rw [field_of_csr h]

/-! ### modThread -/

@[simp] theorem modThread_same (p : Panel) (t : ThreadId) (f : Thread → Thread) : (p.modThread t f).thread t = f (p.thread t) := by
  simp [Panel.modThread, Panel.thread]
@[simp] theorem modThread_csr (p : Panel) (t : ThreadId) (f : Thread → Thread) : (p.modThread t f).csr = p.csr := rfl
@[simp] theorem modThread_time (p : Panel) (t : ThreadId) (f : Thread → Thread) : (p.modThread t f).time = p.time := rfl
@[simp] theorem modThread_tack (p : Panel) (t : ThreadId) (f : Thread → Thread) : (p.modThread t f).tack = p.tack := rfl
@[simp] theorem modThread_boot (p : Panel) (t : ThreadId) (f : Thread → Thread) : (p.modThread t f).boot = p.boot := rfl
@[simp] theorem modThread_plan (p : Panel) (t : ThreadId) (f : Thread → Thread) : (p.modThread t f).plan = p.plan := rfl
@[simp] theorem modThread_fuses (p : Panel) (t : ThreadId) (f : Thread → Thread) : (p.modThread t f).fuses = p.fuses := rfl
@[simp] theorem modThread_regions (p : Panel) (t : ThreadId) (f : Thread → Thread) : (p.modThread t f).regions = p.regions := rfl
@[simp] theorem modThread_contain (p : Panel) (t : ThreadId) (f : Thread → Thread) : (p.modThread t f).contain = p.contain := rfl
@[simp] theorem modThread_net (p : Panel) (t : ThreadId) (f : Thread → Thread) : (p.modThread t f).net = p.net := rfl
@[simp] theorem modThread_fresh (p : Panel) (t : ThreadId) (f : Thread → Thread) : (p.modThread t f).fresh = p.fresh := rfl
@[simp] theorem modThread_writes (p : Panel) (t : ThreadId) (f : Thread → Thread) : (p.modThread t f).writes = p.writes := rfl
@[simp] theorem modThread_out (p : Panel) (t : ThreadId) (f : Thread → Thread) : (p.modThread t f).out = p.out := rfl
@[simp] theorem modThread_field (p : Panel) (t : ThreadId) (f : Thread → Thread) (x : Nat) (g : Fld) :
    (p.modThread t f).field x g = p.field x g := field_of_csr (modThread_csr p t f) x g
@[simp] theorem modThread_isSet (p : Panel) (t : ThreadId) (f : Thread → Thread) (x : Nat) (g : Fld) :
    (p.modThread t f).isSet x g = p.isSet x g := isSet_of_csr (modThread_csr p t f) x g

/-! ### modDraw -/

@[simp] theorem modDraw_same (p : Panel) (f : DrawSide → DrawSide) : (p.modDraw f).drawSide = f p.drawSide := rfl
@[simp] theorem modDraw_csr (p : Panel) (f : DrawSide → DrawSide) : (p.modDraw f).csr = p.csr := rfl
@[simp] theorem modDraw_time (p : Panel) (f : DrawSide → DrawSide) : (p.modDraw f).time = p.time := rfl
@[simp] theorem modDraw_tack (p : Panel) (f : DrawSide → DrawSide) : (p.modDraw f).tack = p.tack := rfl
@[simp] theorem modDraw_boot (p : Panel) (f : DrawSide → DrawSide) : (p.modDraw f).boot = p.boot := rfl
@[simp] theorem modDraw_plan (p : Panel) (f : DrawSide → DrawSide) : (p.modDraw f).plan = p.plan := rfl
@[simp] theorem modDraw_fuses (p : Panel) (f : DrawSide → DrawSide) : (p.modDraw f).fuses = p.fuses := rfl
@[simp] theorem modDraw_regions (p : Panel) (f : DrawSide → DrawSide) : (p.modDraw f).regions = p.regions := rfl
@[simp] theorem modDraw_contain (p : Panel) (f : DrawSide → DrawSide) : (p.modDraw f).contain = p.contain := rfl
@[simp] theorem modDraw_net (p : Panel) (f : DrawSide → DrawSide) : (p.modDraw f).net = p.net := rfl
@[simp] theorem modDraw_fresh (p : Panel) (f : DrawSide → DrawSide) : (p.modDraw f).fresh = p.fresh := rfl
@[simp] theorem modDraw_writes (p : Panel) (f : DrawSide → DrawSide) : (p.modDraw f).writes = p.writes := rfl
@[simp] theorem modDraw_out (p : Panel) (f : DrawSide → DrawSide) : (p.modDraw f).out = p.out := rfl
@[simp] theorem modDraw_field (p : Panel) (f : DrawSide → DrawSide) (x : Nat) (g : Fld) :
    (p.modDraw f).field x g = p.field x g := field_of_csr (modDraw_csr p f) x g
@[simp] theorem modDraw_isSet (p : Panel) (f : DrawSide → DrawSide) (x : Nat) (g : Fld) :
    (p.modDraw f).isSet x g = p.isSet x g := isSet_of_csr (modDraw_csr p f) x g

/-! ### modMemDie -/

@[simp] theorem modMemDie_same (p : Panel) (s : Nat) (f : MemDie → MemDie) : (p.modMemDie s f).memDie s = f (p.memDie s) := by
  simp [Panel.modMemDie, Panel.memDie]
@[simp] theorem modMemDie_csr (p : Panel) (s : Nat) (f : MemDie → MemDie) : (p.modMemDie s f).csr = p.csr := rfl
@[simp] theorem modMemDie_time (p : Panel) (s : Nat) (f : MemDie → MemDie) : (p.modMemDie s f).time = p.time := rfl
@[simp] theorem modMemDie_tack (p : Panel) (s : Nat) (f : MemDie → MemDie) : (p.modMemDie s f).tack = p.tack := rfl
@[simp] theorem modMemDie_boot (p : Panel) (s : Nat) (f : MemDie → MemDie) : (p.modMemDie s f).boot = p.boot := rfl
@[simp] theorem modMemDie_plan (p : Panel) (s : Nat) (f : MemDie → MemDie) : (p.modMemDie s f).plan = p.plan := rfl
@[simp] theorem modMemDie_fuses (p : Panel) (s : Nat) (f : MemDie → MemDie) : (p.modMemDie s f).fuses = p.fuses := rfl
@[simp] theorem modMemDie_regions (p : Panel) (s : Nat) (f : MemDie → MemDie) : (p.modMemDie s f).regions = p.regions := rfl
@[simp] theorem modMemDie_contain (p : Panel) (s : Nat) (f : MemDie → MemDie) : (p.modMemDie s f).contain = p.contain := rfl
@[simp] theorem modMemDie_net (p : Panel) (s : Nat) (f : MemDie → MemDie) : (p.modMemDie s f).net = p.net := rfl
@[simp] theorem modMemDie_fresh (p : Panel) (s : Nat) (f : MemDie → MemDie) : (p.modMemDie s f).fresh = p.fresh := rfl
@[simp] theorem modMemDie_writes (p : Panel) (s : Nat) (f : MemDie → MemDie) : (p.modMemDie s f).writes = p.writes := rfl
@[simp] theorem modMemDie_out (p : Panel) (s : Nat) (f : MemDie → MemDie) : (p.modMemDie s f).out = p.out := rfl
@[simp] theorem modMemDie_field (p : Panel) (s : Nat) (f : MemDie → MemDie) (x : Nat) (g : Fld) :
    (p.modMemDie s f).field x g = p.field x g := field_of_csr (modMemDie_csr p s f) x g
@[simp] theorem modMemDie_isSet (p : Panel) (s : Nat) (f : MemDie → MemDie) (x : Nat) (g : Fld) :
    (p.modMemDie s f).isSet x g = p.isSet x g := isSet_of_csr (modMemDie_csr p s f) x g

/-! ### setGalley -/

@[simp] theorem setGalley_same (p : Panel) (s u : Nat) (l : List GalReq) : (p.setGalley s u l).galley s u = l := by
  simp [Panel.setGalley, Panel.galley]
@[simp] theorem setGalley_csr (p : Panel) (s u : Nat) (l : List GalReq) : (p.setGalley s u l).csr = p.csr := rfl
@[simp] theorem setGalley_time (p : Panel) (s u : Nat) (l : List GalReq) : (p.setGalley s u l).time = p.time := rfl
@[simp] theorem setGalley_tack (p : Panel) (s u : Nat) (l : List GalReq) : (p.setGalley s u l).tack = p.tack := rfl
@[simp] theorem setGalley_boot (p : Panel) (s u : Nat) (l : List GalReq) : (p.setGalley s u l).boot = p.boot := rfl
@[simp] theorem setGalley_plan (p : Panel) (s u : Nat) (l : List GalReq) : (p.setGalley s u l).plan = p.plan := rfl
@[simp] theorem setGalley_fuses (p : Panel) (s u : Nat) (l : List GalReq) : (p.setGalley s u l).fuses = p.fuses := rfl
@[simp] theorem setGalley_regions (p : Panel) (s u : Nat) (l : List GalReq) : (p.setGalley s u l).regions = p.regions := rfl
@[simp] theorem setGalley_contain (p : Panel) (s u : Nat) (l : List GalReq) : (p.setGalley s u l).contain = p.contain := rfl
@[simp] theorem setGalley_net (p : Panel) (s u : Nat) (l : List GalReq) : (p.setGalley s u l).net = p.net := rfl
@[simp] theorem setGalley_fresh (p : Panel) (s u : Nat) (l : List GalReq) : (p.setGalley s u l).fresh = p.fresh := rfl
@[simp] theorem setGalley_writes (p : Panel) (s u : Nat) (l : List GalReq) : (p.setGalley s u l).writes = p.writes := rfl
@[simp] theorem setGalley_out (p : Panel) (s u : Nat) (l : List GalReq) : (p.setGalley s u l).out = p.out := rfl
@[simp] theorem setGalley_field (p : Panel) (s u : Nat) (l : List GalReq) (x : Nat) (g : Fld) :
    (p.setGalley s u l).field x g = p.field x g := field_of_csr (setGalley_csr p s u l) x g
@[simp] theorem setGalley_isSet (p : Panel) (s u : Nat) (l : List GalReq) (x : Nat) (g : Fld) :
    (p.setGalley s u l).isSet x g = p.isSet x g := isSet_of_csr (setGalley_csr p s u l) x g

/-! ### modEngine -/

@[simp] theorem modEngine_same (p : Panel) (s c e : Nat) (f : Engine → Engine) : (p.modEngine s c e f).engine s c e = f (p.engine s c e) := by
  simp [Panel.modEngine, Panel.engine]
@[simp] theorem modEngine_csr (p : Panel) (s c e : Nat) (f : Engine → Engine) : (p.modEngine s c e f).csr = p.csr := rfl
@[simp] theorem modEngine_time (p : Panel) (s c e : Nat) (f : Engine → Engine) : (p.modEngine s c e f).time = p.time := rfl
@[simp] theorem modEngine_tack (p : Panel) (s c e : Nat) (f : Engine → Engine) : (p.modEngine s c e f).tack = p.tack := rfl
@[simp] theorem modEngine_boot (p : Panel) (s c e : Nat) (f : Engine → Engine) : (p.modEngine s c e f).boot = p.boot := rfl
@[simp] theorem modEngine_plan (p : Panel) (s c e : Nat) (f : Engine → Engine) : (p.modEngine s c e f).plan = p.plan := rfl
@[simp] theorem modEngine_fuses (p : Panel) (s c e : Nat) (f : Engine → Engine) : (p.modEngine s c e f).fuses = p.fuses := rfl
@[simp] theorem modEngine_regions (p : Panel) (s c e : Nat) (f : Engine → Engine) : (p.modEngine s c e f).regions = p.regions := rfl
@[simp] theorem modEngine_contain (p : Panel) (s c e : Nat) (f : Engine → Engine) : (p.modEngine s c e f).contain = p.contain := rfl
@[simp] theorem modEngine_net (p : Panel) (s c e : Nat) (f : Engine → Engine) : (p.modEngine s c e f).net = p.net := rfl
@[simp] theorem modEngine_fresh (p : Panel) (s c e : Nat) (f : Engine → Engine) : (p.modEngine s c e f).fresh = p.fresh := rfl
@[simp] theorem modEngine_writes (p : Panel) (s c e : Nat) (f : Engine → Engine) : (p.modEngine s c e f).writes = p.writes := rfl
@[simp] theorem modEngine_out (p : Panel) (s c e : Nat) (f : Engine → Engine) : (p.modEngine s c e f).out = p.out := rfl
@[simp] theorem modEngine_field (p : Panel) (s c e : Nat) (f : Engine → Engine) (x : Nat) (g : Fld) :
    (p.modEngine s c e f).field x g = p.field x g := field_of_csr (modEngine_csr p s c e f) x g
@[simp] theorem modEngine_isSet (p : Panel) (s c e : Nat) (f : Engine → Engine) (x : Nat) (g : Fld) :
    (p.modEngine s c e f).isSet x g = p.isSet x g := isSet_of_csr (modEngine_csr p s c e f) x g

/-! ### modMover -/

@[simp] theorem modMover_same (p : Panel) (s c : Nat) (f : Mover → Mover) : (p.modMover s c f).mover s c = f (p.mover s c) := by
  simp [Panel.modMover, Panel.mover]
@[simp] theorem modMover_csr (p : Panel) (s c : Nat) (f : Mover → Mover) : (p.modMover s c f).csr = p.csr := rfl
@[simp] theorem modMover_time (p : Panel) (s c : Nat) (f : Mover → Mover) : (p.modMover s c f).time = p.time := rfl
@[simp] theorem modMover_tack (p : Panel) (s c : Nat) (f : Mover → Mover) : (p.modMover s c f).tack = p.tack := rfl
@[simp] theorem modMover_boot (p : Panel) (s c : Nat) (f : Mover → Mover) : (p.modMover s c f).boot = p.boot := rfl
@[simp] theorem modMover_plan (p : Panel) (s c : Nat) (f : Mover → Mover) : (p.modMover s c f).plan = p.plan := rfl
@[simp] theorem modMover_fuses (p : Panel) (s c : Nat) (f : Mover → Mover) : (p.modMover s c f).fuses = p.fuses := rfl
@[simp] theorem modMover_regions (p : Panel) (s c : Nat) (f : Mover → Mover) : (p.modMover s c f).regions = p.regions := rfl
@[simp] theorem modMover_contain (p : Panel) (s c : Nat) (f : Mover → Mover) : (p.modMover s c f).contain = p.contain := rfl
@[simp] theorem modMover_net (p : Panel) (s c : Nat) (f : Mover → Mover) : (p.modMover s c f).net = p.net := rfl
@[simp] theorem modMover_fresh (p : Panel) (s c : Nat) (f : Mover → Mover) : (p.modMover s c f).fresh = p.fresh := rfl
@[simp] theorem modMover_writes (p : Panel) (s c : Nat) (f : Mover → Mover) : (p.modMover s c f).writes = p.writes := rfl
@[simp] theorem modMover_out (p : Panel) (s c : Nat) (f : Mover → Mover) : (p.modMover s c f).out = p.out := rfl
@[simp] theorem modMover_field (p : Panel) (s c : Nat) (f : Mover → Mover) (x : Nat) (g : Fld) :
    (p.modMover s c f).field x g = p.field x g := field_of_csr (modMover_csr p s c f) x g
@[simp] theorem modMover_isSet (p : Panel) (s c : Nat) (f : Mover → Mover) (x : Nat) (g : Fld) :
    (p.modMover s c f).isSet x g = p.isSet x g := isSet_of_csr (modMover_csr p s c f) x g

/-! ### modBundle -/

@[simp] theorem modBundle_same (p : Panel) (s b : Nat) (f : BundleEnd → BundleEnd) : (p.modBundle s b f).bundle s b = f (p.bundle s b) := by
  simp [Panel.modBundle, Panel.bundle]
@[simp] theorem modBundle_csr (p : Panel) (s b : Nat) (f : BundleEnd → BundleEnd) : (p.modBundle s b f).csr = p.csr := rfl
@[simp] theorem modBundle_time (p : Panel) (s b : Nat) (f : BundleEnd → BundleEnd) : (p.modBundle s b f).time = p.time := rfl
@[simp] theorem modBundle_tack (p : Panel) (s b : Nat) (f : BundleEnd → BundleEnd) : (p.modBundle s b f).tack = p.tack := rfl
@[simp] theorem modBundle_boot (p : Panel) (s b : Nat) (f : BundleEnd → BundleEnd) : (p.modBundle s b f).boot = p.boot := rfl
@[simp] theorem modBundle_plan (p : Panel) (s b : Nat) (f : BundleEnd → BundleEnd) : (p.modBundle s b f).plan = p.plan := rfl
@[simp] theorem modBundle_fuses (p : Panel) (s b : Nat) (f : BundleEnd → BundleEnd) : (p.modBundle s b f).fuses = p.fuses := rfl
@[simp] theorem modBundle_regions (p : Panel) (s b : Nat) (f : BundleEnd → BundleEnd) : (p.modBundle s b f).regions = p.regions := rfl
@[simp] theorem modBundle_contain (p : Panel) (s b : Nat) (f : BundleEnd → BundleEnd) : (p.modBundle s b f).contain = p.contain := rfl
@[simp] theorem modBundle_net (p : Panel) (s b : Nat) (f : BundleEnd → BundleEnd) : (p.modBundle s b f).net = p.net := rfl
@[simp] theorem modBundle_fresh (p : Panel) (s b : Nat) (f : BundleEnd → BundleEnd) : (p.modBundle s b f).fresh = p.fresh := rfl
@[simp] theorem modBundle_writes (p : Panel) (s b : Nat) (f : BundleEnd → BundleEnd) : (p.modBundle s b f).writes = p.writes := rfl
@[simp] theorem modBundle_out (p : Panel) (s b : Nat) (f : BundleEnd → BundleEnd) : (p.modBundle s b f).out = p.out := rfl
@[simp] theorem modBundle_field (p : Panel) (s b : Nat) (f : BundleEnd → BundleEnd) (x : Nat) (g : Fld) :
    (p.modBundle s b f).field x g = p.field x g := field_of_csr (modBundle_csr p s b f) x g
@[simp] theorem modBundle_isSet (p : Panel) (s b : Nat) (f : BundleEnd → BundleEnd) (x : Nat) (g : Fld) :
    (p.modBundle s b f).isSet x g = p.isSet x g := isSet_of_csr (modBundle_csr p s b f) x g

/-! ### modRouter -/

@[simp] theorem modRouter_same (p : Panel) (s : Nat) (f : Router → Router) : (p.modRouter s f).router s = f (p.router s) := by
  simp [Panel.modRouter, Panel.router]
@[simp] theorem modRouter_csr (p : Panel) (s : Nat) (f : Router → Router) : (p.modRouter s f).csr = p.csr := rfl
@[simp] theorem modRouter_time (p : Panel) (s : Nat) (f : Router → Router) : (p.modRouter s f).time = p.time := rfl
@[simp] theorem modRouter_tack (p : Panel) (s : Nat) (f : Router → Router) : (p.modRouter s f).tack = p.tack := rfl
@[simp] theorem modRouter_boot (p : Panel) (s : Nat) (f : Router → Router) : (p.modRouter s f).boot = p.boot := rfl
@[simp] theorem modRouter_plan (p : Panel) (s : Nat) (f : Router → Router) : (p.modRouter s f).plan = p.plan := rfl
@[simp] theorem modRouter_fuses (p : Panel) (s : Nat) (f : Router → Router) : (p.modRouter s f).fuses = p.fuses := rfl
@[simp] theorem modRouter_regions (p : Panel) (s : Nat) (f : Router → Router) : (p.modRouter s f).regions = p.regions := rfl
@[simp] theorem modRouter_contain (p : Panel) (s : Nat) (f : Router → Router) : (p.modRouter s f).contain = p.contain := rfl
@[simp] theorem modRouter_net (p : Panel) (s : Nat) (f : Router → Router) : (p.modRouter s f).net = p.net := rfl
@[simp] theorem modRouter_fresh (p : Panel) (s : Nat) (f : Router → Router) : (p.modRouter s f).fresh = p.fresh := rfl
@[simp] theorem modRouter_writes (p : Panel) (s : Nat) (f : Router → Router) : (p.modRouter s f).writes = p.writes := rfl
@[simp] theorem modRouter_out (p : Panel) (s : Nat) (f : Router → Router) : (p.modRouter s f).out = p.out := rfl
@[simp] theorem modRouter_field (p : Panel) (s : Nat) (f : Router → Router) (x : Nat) (g : Fld) :
    (p.modRouter s f).field x g = p.field x g := field_of_csr (modRouter_csr p s f) x g
@[simp] theorem modRouter_isSet (p : Panel) (s : Nat) (f : Router → Router) (x : Nat) (g : Fld) :
    (p.modRouter s f).isSet x g = p.isSet x g := isSet_of_csr (modRouter_csr p s f) x g

/-! ### setMeshBuf -/

@[simp] theorem setMeshBuf_same (p : Panel) (s b : Nat) (l : List MeshWord) : (p.setMeshBuf s b l).meshBuf s b = l := by
  simp [Panel.setMeshBuf, Panel.meshBuf]
@[simp] theorem setMeshBuf_csr (p : Panel) (s b : Nat) (l : List MeshWord) : (p.setMeshBuf s b l).csr = p.csr := rfl
@[simp] theorem setMeshBuf_time (p : Panel) (s b : Nat) (l : List MeshWord) : (p.setMeshBuf s b l).time = p.time := rfl
@[simp] theorem setMeshBuf_tack (p : Panel) (s b : Nat) (l : List MeshWord) : (p.setMeshBuf s b l).tack = p.tack := rfl
@[simp] theorem setMeshBuf_boot (p : Panel) (s b : Nat) (l : List MeshWord) : (p.setMeshBuf s b l).boot = p.boot := rfl
@[simp] theorem setMeshBuf_plan (p : Panel) (s b : Nat) (l : List MeshWord) : (p.setMeshBuf s b l).plan = p.plan := rfl
@[simp] theorem setMeshBuf_fuses (p : Panel) (s b : Nat) (l : List MeshWord) : (p.setMeshBuf s b l).fuses = p.fuses := rfl
@[simp] theorem setMeshBuf_regions (p : Panel) (s b : Nat) (l : List MeshWord) : (p.setMeshBuf s b l).regions = p.regions := rfl
@[simp] theorem setMeshBuf_contain (p : Panel) (s b : Nat) (l : List MeshWord) : (p.setMeshBuf s b l).contain = p.contain := rfl
@[simp] theorem setMeshBuf_net (p : Panel) (s b : Nat) (l : List MeshWord) : (p.setMeshBuf s b l).net = p.net := rfl
@[simp] theorem setMeshBuf_fresh (p : Panel) (s b : Nat) (l : List MeshWord) : (p.setMeshBuf s b l).fresh = p.fresh := rfl
@[simp] theorem setMeshBuf_writes (p : Panel) (s b : Nat) (l : List MeshWord) : (p.setMeshBuf s b l).writes = p.writes := rfl
@[simp] theorem setMeshBuf_out (p : Panel) (s b : Nat) (l : List MeshWord) : (p.setMeshBuf s b l).out = p.out := rfl
@[simp] theorem setMeshBuf_field (p : Panel) (s b : Nat) (l : List MeshWord) (x : Nat) (g : Fld) :
    (p.setMeshBuf s b l).field x g = p.field x g := field_of_csr (setMeshBuf_csr p s b l) x g
@[simp] theorem setMeshBuf_isSet (p : Panel) (s b : Nat) (l : List MeshWord) (x : Nat) (g : Fld) :
    (p.setMeshBuf s b l).isSet x g = p.isSet x g := isSet_of_csr (setMeshBuf_csr p s b l) x g

/-! ### setWire -/

@[simp] theorem setWire_same (p : Panel) (s b : Nat) (l : List MeshWord) : (p.setWire s b l).wire s b = l := by
  simp [Panel.setWire, Panel.wire]
@[simp] theorem setWire_csr (p : Panel) (s b : Nat) (l : List MeshWord) : (p.setWire s b l).csr = p.csr := rfl
@[simp] theorem setWire_time (p : Panel) (s b : Nat) (l : List MeshWord) : (p.setWire s b l).time = p.time := rfl
@[simp] theorem setWire_tack (p : Panel) (s b : Nat) (l : List MeshWord) : (p.setWire s b l).tack = p.tack := rfl
@[simp] theorem setWire_boot (p : Panel) (s b : Nat) (l : List MeshWord) : (p.setWire s b l).boot = p.boot := rfl
@[simp] theorem setWire_plan (p : Panel) (s b : Nat) (l : List MeshWord) : (p.setWire s b l).plan = p.plan := rfl
@[simp] theorem setWire_fuses (p : Panel) (s b : Nat) (l : List MeshWord) : (p.setWire s b l).fuses = p.fuses := rfl
@[simp] theorem setWire_regions (p : Panel) (s b : Nat) (l : List MeshWord) : (p.setWire s b l).regions = p.regions := rfl
@[simp] theorem setWire_contain (p : Panel) (s b : Nat) (l : List MeshWord) : (p.setWire s b l).contain = p.contain := rfl
@[simp] theorem setWire_net (p : Panel) (s b : Nat) (l : List MeshWord) : (p.setWire s b l).net = p.net := rfl
@[simp] theorem setWire_fresh (p : Panel) (s b : Nat) (l : List MeshWord) : (p.setWire s b l).fresh = p.fresh := rfl
@[simp] theorem setWire_writes (p : Panel) (s b : Nat) (l : List MeshWord) : (p.setWire s b l).writes = p.writes := rfl
@[simp] theorem setWire_out (p : Panel) (s b : Nat) (l : List MeshWord) : (p.setWire s b l).out = p.out := rfl
@[simp] theorem setWire_field (p : Panel) (s b : Nat) (l : List MeshWord) (x : Nat) (g : Fld) :
    (p.setWire s b l).field x g = p.field x g := field_of_csr (setWire_csr p s b l) x g
@[simp] theorem setWire_isSet (p : Panel) (s b : Nat) (l : List MeshWord) (x : Nat) (g : Fld) :
    (p.setWire s b l).isSet x g = p.isSet x g := isSet_of_csr (setWire_csr p s b l) x g

/-! ### setRunning -/

@[simp] theorem setRunning_same (p : Panel) (s : Nat) (l : List MeshOp) : (p.setRunning s l).runningOps s = l := by
  simp [Panel.setRunning, Panel.runningOps]
@[simp] theorem setRunning_csr (p : Panel) (s : Nat) (l : List MeshOp) : (p.setRunning s l).csr = p.csr := rfl
@[simp] theorem setRunning_time (p : Panel) (s : Nat) (l : List MeshOp) : (p.setRunning s l).time = p.time := rfl
@[simp] theorem setRunning_tack (p : Panel) (s : Nat) (l : List MeshOp) : (p.setRunning s l).tack = p.tack := rfl
@[simp] theorem setRunning_boot (p : Panel) (s : Nat) (l : List MeshOp) : (p.setRunning s l).boot = p.boot := rfl
@[simp] theorem setRunning_plan (p : Panel) (s : Nat) (l : List MeshOp) : (p.setRunning s l).plan = p.plan := rfl
@[simp] theorem setRunning_fuses (p : Panel) (s : Nat) (l : List MeshOp) : (p.setRunning s l).fuses = p.fuses := rfl
@[simp] theorem setRunning_regions (p : Panel) (s : Nat) (l : List MeshOp) : (p.setRunning s l).regions = p.regions := rfl
@[simp] theorem setRunning_contain (p : Panel) (s : Nat) (l : List MeshOp) : (p.setRunning s l).contain = p.contain := rfl
@[simp] theorem setRunning_net (p : Panel) (s : Nat) (l : List MeshOp) : (p.setRunning s l).net = p.net := rfl
@[simp] theorem setRunning_fresh (p : Panel) (s : Nat) (l : List MeshOp) : (p.setRunning s l).fresh = p.fresh := rfl
@[simp] theorem setRunning_writes (p : Panel) (s : Nat) (l : List MeshOp) : (p.setRunning s l).writes = p.writes := rfl
@[simp] theorem setRunning_out (p : Panel) (s : Nat) (l : List MeshOp) : (p.setRunning s l).out = p.out := rfl
@[simp] theorem setRunning_field (p : Panel) (s : Nat) (l : List MeshOp) (x : Nat) (g : Fld) :
    (p.setRunning s l).field x g = p.field x g := field_of_csr (setRunning_csr p s l) x g
@[simp] theorem setRunning_isSet (p : Panel) (s : Nat) (l : List MeshOp) (x : Nat) (g : Fld) :
    (p.setRunning s l).isSet x g = p.isSet x g := isSet_of_csr (setRunning_csr p s l) x g

/-! ### modClock -/

@[simp] theorem modClock_same (p : Panel) (s : Nat) (f : ClockDie → ClockDie) : (p.modClock s f).clock s = f (p.clock s) := by
  simp [Panel.modClock, Panel.clock]
@[simp] theorem modClock_csr (p : Panel) (s : Nat) (f : ClockDie → ClockDie) : (p.modClock s f).csr = p.csr := rfl
@[simp] theorem modClock_time (p : Panel) (s : Nat) (f : ClockDie → ClockDie) : (p.modClock s f).time = p.time := rfl
@[simp] theorem modClock_tack (p : Panel) (s : Nat) (f : ClockDie → ClockDie) : (p.modClock s f).tack = p.tack := rfl
@[simp] theorem modClock_boot (p : Panel) (s : Nat) (f : ClockDie → ClockDie) : (p.modClock s f).boot = p.boot := rfl
@[simp] theorem modClock_plan (p : Panel) (s : Nat) (f : ClockDie → ClockDie) : (p.modClock s f).plan = p.plan := rfl
@[simp] theorem modClock_fuses (p : Panel) (s : Nat) (f : ClockDie → ClockDie) : (p.modClock s f).fuses = p.fuses := rfl
@[simp] theorem modClock_regions (p : Panel) (s : Nat) (f : ClockDie → ClockDie) : (p.modClock s f).regions = p.regions := rfl
@[simp] theorem modClock_contain (p : Panel) (s : Nat) (f : ClockDie → ClockDie) : (p.modClock s f).contain = p.contain := rfl
@[simp] theorem modClock_net (p : Panel) (s : Nat) (f : ClockDie → ClockDie) : (p.modClock s f).net = p.net := rfl
@[simp] theorem modClock_fresh (p : Panel) (s : Nat) (f : ClockDie → ClockDie) : (p.modClock s f).fresh = p.fresh := rfl
@[simp] theorem modClock_writes (p : Panel) (s : Nat) (f : ClockDie → ClockDie) : (p.modClock s f).writes = p.writes := rfl
@[simp] theorem modClock_out (p : Panel) (s : Nat) (f : ClockDie → ClockDie) : (p.modClock s f).out = p.out := rfl
@[simp] theorem modClock_field (p : Panel) (s : Nat) (f : ClockDie → ClockDie) (x : Nat) (g : Fld) :
    (p.modClock s f).field x g = p.field x g := field_of_csr (modClock_csr p s f) x g
@[simp] theorem modClock_isSet (p : Panel) (s : Nat) (f : ClockDie → ClockDie) (x : Nat) (g : Fld) :
    (p.modClock s f).isSet x g = p.isSet x g := isSet_of_csr (modClock_csr p s f) x g

/-! ### modRegion -/

@[simp] theorem modRegion_same (p : Panel) (r : Nat) (f : Region → Region) : (p.modRegion r f).region r = f (p.region r) := by
  simp [Panel.modRegion, Panel.region]
@[simp] theorem modRegion_csr (p : Panel) (r : Nat) (f : Region → Region) : (p.modRegion r f).csr = p.csr := rfl
@[simp] theorem modRegion_time (p : Panel) (r : Nat) (f : Region → Region) : (p.modRegion r f).time = p.time := rfl
@[simp] theorem modRegion_tack (p : Panel) (r : Nat) (f : Region → Region) : (p.modRegion r f).tack = p.tack := rfl
@[simp] theorem modRegion_boot (p : Panel) (r : Nat) (f : Region → Region) : (p.modRegion r f).boot = p.boot := rfl
@[simp] theorem modRegion_plan (p : Panel) (r : Nat) (f : Region → Region) : (p.modRegion r f).plan = p.plan := rfl
@[simp] theorem modRegion_fuses (p : Panel) (r : Nat) (f : Region → Region) : (p.modRegion r f).fuses = p.fuses := rfl
@[simp] theorem modRegion_contain (p : Panel) (r : Nat) (f : Region → Region) : (p.modRegion r f).contain = p.contain := rfl
@[simp] theorem modRegion_net (p : Panel) (r : Nat) (f : Region → Region) : (p.modRegion r f).net = p.net := rfl
@[simp] theorem modRegion_fresh (p : Panel) (r : Nat) (f : Region → Region) : (p.modRegion r f).fresh = p.fresh := rfl
@[simp] theorem modRegion_writes (p : Panel) (r : Nat) (f : Region → Region) : (p.modRegion r f).writes = p.writes := rfl
@[simp] theorem modRegion_out (p : Panel) (r : Nat) (f : Region → Region) : (p.modRegion r f).out = p.out := rfl
@[simp] theorem modRegion_field (p : Panel) (r : Nat) (f : Region → Region) (x : Nat) (g : Fld) :
    (p.modRegion r f).field x g = p.field x g := field_of_csr (modRegion_csr p r f) x g
@[simp] theorem modRegion_isSet (p : Panel) (r : Nat) (f : Region → Region) (x : Nat) (g : Fld) :
    (p.modRegion r f).isSet x g = p.isSet x g := isSet_of_csr (modRegion_csr p r f) x g

/-! ### modAgent -/

@[simp] theorem modAgent_same (p : Panel) (s : Nat) (f : Agent → Agent) : (p.modAgent s f).agent s = f (p.agent s) := by
  simp [Panel.modAgent, Panel.agent]
@[simp] theorem modAgent_csr (p : Panel) (s : Nat) (f : Agent → Agent) : (p.modAgent s f).csr = p.csr := rfl
@[simp] theorem modAgent_time (p : Panel) (s : Nat) (f : Agent → Agent) : (p.modAgent s f).time = p.time := rfl
@[simp] theorem modAgent_boot (p : Panel) (s : Nat) (f : Agent → Agent) : (p.modAgent s f).boot = p.boot := rfl
@[simp] theorem modAgent_plan (p : Panel) (s : Nat) (f : Agent → Agent) : (p.modAgent s f).plan = p.plan := rfl
@[simp] theorem modAgent_fuses (p : Panel) (s : Nat) (f : Agent → Agent) : (p.modAgent s f).fuses = p.fuses := rfl
@[simp] theorem modAgent_regions (p : Panel) (s : Nat) (f : Agent → Agent) : (p.modAgent s f).regions = p.regions := rfl
@[simp] theorem modAgent_contain (p : Panel) (s : Nat) (f : Agent → Agent) : (p.modAgent s f).contain = p.contain := rfl
@[simp] theorem modAgent_net (p : Panel) (s : Nat) (f : Agent → Agent) : (p.modAgent s f).net = p.net := rfl
@[simp] theorem modAgent_fresh (p : Panel) (s : Nat) (f : Agent → Agent) : (p.modAgent s f).fresh = p.fresh := rfl
@[simp] theorem modAgent_writes (p : Panel) (s : Nat) (f : Agent → Agent) : (p.modAgent s f).writes = p.writes := rfl
@[simp] theorem modAgent_out (p : Panel) (s : Nat) (f : Agent → Agent) : (p.modAgent s f).out = p.out := rfl
@[simp] theorem modAgent_field (p : Panel) (s : Nat) (f : Agent → Agent) (x : Nat) (g : Fld) :
    (p.modAgent s f).field x g = p.field x g := field_of_csr (modAgent_csr p s f) x g
@[simp] theorem modAgent_isSet (p : Panel) (s : Nat) (f : Agent → Agent) (x : Nat) (g : Fld) :
    (p.modAgent s f).isSet x g = p.isSet x g := isSet_of_csr (modAgent_csr p s f) x g

/-! ### modManager -/

@[simp] theorem modManager_same (p : Panel) (k : Nat) (f : Manager → Manager) : (p.modManager k f).manager k = f (p.manager k) := by
  simp [Panel.modManager, Panel.manager, Panel.modTack]
@[simp] theorem modManager_csr (p : Panel) (k : Nat) (f : Manager → Manager) : (p.modManager k f).csr = p.csr := rfl
@[simp] theorem modManager_time (p : Panel) (k : Nat) (f : Manager → Manager) : (p.modManager k f).time = p.time := rfl
@[simp] theorem modManager_boot (p : Panel) (k : Nat) (f : Manager → Manager) : (p.modManager k f).boot = p.boot := rfl
@[simp] theorem modManager_plan (p : Panel) (k : Nat) (f : Manager → Manager) : (p.modManager k f).plan = p.plan := rfl
@[simp] theorem modManager_fuses (p : Panel) (k : Nat) (f : Manager → Manager) : (p.modManager k f).fuses = p.fuses := rfl
@[simp] theorem modManager_regions (p : Panel) (k : Nat) (f : Manager → Manager) : (p.modManager k f).regions = p.regions := rfl
@[simp] theorem modManager_contain (p : Panel) (k : Nat) (f : Manager → Manager) : (p.modManager k f).contain = p.contain := rfl
@[simp] theorem modManager_net (p : Panel) (k : Nat) (f : Manager → Manager) : (p.modManager k f).net = p.net := rfl
@[simp] theorem modManager_fresh (p : Panel) (k : Nat) (f : Manager → Manager) : (p.modManager k f).fresh = p.fresh := rfl
@[simp] theorem modManager_writes (p : Panel) (k : Nat) (f : Manager → Manager) : (p.modManager k f).writes = p.writes := rfl
@[simp] theorem modManager_out (p : Panel) (k : Nat) (f : Manager → Manager) : (p.modManager k f).out = p.out := rfl
@[simp] theorem modManager_field (p : Panel) (k : Nat) (f : Manager → Manager) (x : Nat) (g : Fld) :
    (p.modManager k f).field x g = p.field x g := field_of_csr (modManager_csr p k f) x g
@[simp] theorem modManager_isSet (p : Panel) (k : Nat) (f : Manager → Manager) (x : Nat) (g : Fld) :
    (p.modManager k f).isSet x g = p.isSet x g := isSet_of_csr (modManager_csr p k f) x g

/-! ### modTack -/

@[simp] theorem modTack_same (p : Panel) (f : Tack → Tack) : (p.modTack f).tack = f p.tack := rfl
@[simp] theorem modTack_csr (p : Panel) (f : Tack → Tack) : (p.modTack f).csr = p.csr := rfl
@[simp] theorem modTack_time (p : Panel) (f : Tack → Tack) : (p.modTack f).time = p.time := rfl
@[simp] theorem modTack_boot (p : Panel) (f : Tack → Tack) : (p.modTack f).boot = p.boot := rfl
@[simp] theorem modTack_plan (p : Panel) (f : Tack → Tack) : (p.modTack f).plan = p.plan := rfl
@[simp] theorem modTack_fuses (p : Panel) (f : Tack → Tack) : (p.modTack f).fuses = p.fuses := rfl
@[simp] theorem modTack_regions (p : Panel) (f : Tack → Tack) : (p.modTack f).regions = p.regions := rfl
@[simp] theorem modTack_contain (p : Panel) (f : Tack → Tack) : (p.modTack f).contain = p.contain := rfl
@[simp] theorem modTack_net (p : Panel) (f : Tack → Tack) : (p.modTack f).net = p.net := rfl
@[simp] theorem modTack_fresh (p : Panel) (f : Tack → Tack) : (p.modTack f).fresh = p.fresh := rfl
@[simp] theorem modTack_writes (p : Panel) (f : Tack → Tack) : (p.modTack f).writes = p.writes := rfl
@[simp] theorem modTack_out (p : Panel) (f : Tack → Tack) : (p.modTack f).out = p.out := rfl
@[simp] theorem modTack_field (p : Panel) (f : Tack → Tack) (x : Nat) (g : Fld) :
    (p.modTack f).field x g = p.field x g := field_of_csr (modTack_csr p f) x g
@[simp] theorem modTack_isSet (p : Panel) (f : Tack → Tack) (x : Nat) (g : Fld) :
    (p.modTack f).isSet x g = p.isSet x g := isSet_of_csr (modTack_csr p f) x g

/-! ### modBoot -/

@[simp] theorem modBoot_same (p : Panel) (f : Boot → Boot) : (p.modBoot f).boot = f p.boot := rfl
@[simp] theorem modBoot_csr (p : Panel) (f : Boot → Boot) : (p.modBoot f).csr = p.csr := rfl
@[simp] theorem modBoot_time (p : Panel) (f : Boot → Boot) : (p.modBoot f).time = p.time := rfl
@[simp] theorem modBoot_tack (p : Panel) (f : Boot → Boot) : (p.modBoot f).tack = p.tack := rfl
@[simp] theorem modBoot_plan (p : Panel) (f : Boot → Boot) : (p.modBoot f).plan = p.plan := rfl
@[simp] theorem modBoot_fuses (p : Panel) (f : Boot → Boot) : (p.modBoot f).fuses = p.fuses := rfl
@[simp] theorem modBoot_regions (p : Panel) (f : Boot → Boot) : (p.modBoot f).regions = p.regions := rfl
@[simp] theorem modBoot_contain (p : Panel) (f : Boot → Boot) : (p.modBoot f).contain = p.contain := rfl
@[simp] theorem modBoot_net (p : Panel) (f : Boot → Boot) : (p.modBoot f).net = p.net := rfl
@[simp] theorem modBoot_fresh (p : Panel) (f : Boot → Boot) : (p.modBoot f).fresh = p.fresh := rfl
@[simp] theorem modBoot_writes (p : Panel) (f : Boot → Boot) : (p.modBoot f).writes = p.writes := rfl
@[simp] theorem modBoot_out (p : Panel) (f : Boot → Boot) : (p.modBoot f).out = p.out := rfl
@[simp] theorem modBoot_field (p : Panel) (f : Boot → Boot) (x : Nat) (g : Fld) :
    (p.modBoot f).field x g = p.field x g := field_of_csr (modBoot_csr p f) x g
@[simp] theorem modBoot_isSet (p : Panel) (f : Boot → Boot) (x : Nat) (g : Fld) :
    (p.modBoot f).isSet x g = p.isSet x g := isSet_of_csr (modBoot_csr p f) x g

/-! ### modPlan -/

@[simp] theorem modPlan_same (p : Panel) (f : FloorPlan → FloorPlan) : (p.modPlan f).plan = f p.plan := rfl
@[simp] theorem modPlan_csr (p : Panel) (f : FloorPlan → FloorPlan) : (p.modPlan f).csr = p.csr := rfl
@[simp] theorem modPlan_time (p : Panel) (f : FloorPlan → FloorPlan) : (p.modPlan f).time = p.time := rfl
@[simp] theorem modPlan_tack (p : Panel) (f : FloorPlan → FloorPlan) : (p.modPlan f).tack = p.tack := rfl
@[simp] theorem modPlan_boot (p : Panel) (f : FloorPlan → FloorPlan) : (p.modPlan f).boot = p.boot := rfl
@[simp] theorem modPlan_fuses (p : Panel) (f : FloorPlan → FloorPlan) : (p.modPlan f).fuses = p.fuses := rfl
@[simp] theorem modPlan_regions (p : Panel) (f : FloorPlan → FloorPlan) : (p.modPlan f).regions = p.regions := rfl
@[simp] theorem modPlan_contain (p : Panel) (f : FloorPlan → FloorPlan) : (p.modPlan f).contain = p.contain := rfl
@[simp] theorem modPlan_net (p : Panel) (f : FloorPlan → FloorPlan) : (p.modPlan f).net = p.net := rfl
@[simp] theorem modPlan_fresh (p : Panel) (f : FloorPlan → FloorPlan) : (p.modPlan f).fresh = p.fresh := rfl
@[simp] theorem modPlan_writes (p : Panel) (f : FloorPlan → FloorPlan) : (p.modPlan f).writes = p.writes := rfl
@[simp] theorem modPlan_out (p : Panel) (f : FloorPlan → FloorPlan) : (p.modPlan f).out = p.out := rfl
@[simp] theorem modPlan_field (p : Panel) (f : FloorPlan → FloorPlan) (x : Nat) (g : Fld) :
    (p.modPlan f).field x g = p.field x g := field_of_csr (modPlan_csr p f) x g
@[simp] theorem modPlan_isSet (p : Panel) (f : FloorPlan → FloorPlan) (x : Nat) (g : Fld) :
    (p.modPlan f).isSet x g = p.isSet x g := isSet_of_csr (modPlan_csr p f) x g

/-! ### modContain -/

@[simp] theorem modContain_same (p : Panel) (f : Contain → Contain) : (p.modContain f).contain = f p.contain := rfl
@[simp] theorem modContain_csr (p : Panel) (f : Contain → Contain) : (p.modContain f).csr = p.csr := rfl
@[simp] theorem modContain_time (p : Panel) (f : Contain → Contain) : (p.modContain f).time = p.time := rfl
@[simp] theorem modContain_tack (p : Panel) (f : Contain → Contain) : (p.modContain f).tack = p.tack := rfl
@[simp] theorem modContain_boot (p : Panel) (f : Contain → Contain) : (p.modContain f).boot = p.boot := rfl
@[simp] theorem modContain_plan (p : Panel) (f : Contain → Contain) : (p.modContain f).plan = p.plan := rfl
@[simp] theorem modContain_fuses (p : Panel) (f : Contain → Contain) : (p.modContain f).fuses = p.fuses := rfl
@[simp] theorem modContain_regions (p : Panel) (f : Contain → Contain) : (p.modContain f).regions = p.regions := rfl
@[simp] theorem modContain_net (p : Panel) (f : Contain → Contain) : (p.modContain f).net = p.net := rfl
@[simp] theorem modContain_fresh (p : Panel) (f : Contain → Contain) : (p.modContain f).fresh = p.fresh := rfl
@[simp] theorem modContain_writes (p : Panel) (f : Contain → Contain) : (p.modContain f).writes = p.writes := rfl
@[simp] theorem modContain_out (p : Panel) (f : Contain → Contain) : (p.modContain f).out = p.out := rfl
@[simp] theorem modContain_field (p : Panel) (f : Contain → Contain) (x : Nat) (g : Fld) :
    (p.modContain f).field x g = p.field x g := field_of_csr (modContain_csr p f) x g
@[simp] theorem modContain_isSet (p : Panel) (f : Contain → Contain) (x : Nat) (g : Fld) :
    (p.modContain f).isSet x g = p.isSet x g := isSet_of_csr (modContain_csr p f) x g

/-! ### modServo -/

@[simp] theorem modServo_same (p : Panel) (f : Servo → Servo) : (p.modServo f).servo = f p.servo := rfl
@[simp] theorem modServo_csr (p : Panel) (f : Servo → Servo) : (p.modServo f).csr = p.csr := rfl
@[simp] theorem modServo_time (p : Panel) (f : Servo → Servo) : (p.modServo f).time = p.time := rfl
@[simp] theorem modServo_tack (p : Panel) (f : Servo → Servo) : (p.modServo f).tack = p.tack := rfl
@[simp] theorem modServo_boot (p : Panel) (f : Servo → Servo) : (p.modServo f).boot = p.boot := rfl
@[simp] theorem modServo_plan (p : Panel) (f : Servo → Servo) : (p.modServo f).plan = p.plan := rfl
@[simp] theorem modServo_fuses (p : Panel) (f : Servo → Servo) : (p.modServo f).fuses = p.fuses := rfl
@[simp] theorem modServo_regions (p : Panel) (f : Servo → Servo) : (p.modServo f).regions = p.regions := rfl
@[simp] theorem modServo_contain (p : Panel) (f : Servo → Servo) : (p.modServo f).contain = p.contain := rfl
@[simp] theorem modServo_net (p : Panel) (f : Servo → Servo) : (p.modServo f).net = p.net := rfl
@[simp] theorem modServo_fresh (p : Panel) (f : Servo → Servo) : (p.modServo f).fresh = p.fresh := rfl
@[simp] theorem modServo_writes (p : Panel) (f : Servo → Servo) : (p.modServo f).writes = p.writes := rfl
@[simp] theorem modServo_out (p : Panel) (f : Servo → Servo) : (p.modServo f).out = p.out := rfl
@[simp] theorem modServo_field (p : Panel) (f : Servo → Servo) (x : Nat) (g : Fld) :
    (p.modServo f).field x g = p.field x g := field_of_csr (modServo_csr p f) x g
@[simp] theorem modServo_isSet (p : Panel) (f : Servo → Servo) (x : Nat) (g : Fld) :
    (p.modServo f).isSet x g = p.isSet x g := isSet_of_csr (modServo_csr p f) x g

/-! ### modDomain -/

@[simp] theorem modDomain_same (p : Panel) (s d : Nat) (f : Domain → Domain) : (p.modDomain s d f).domain s d = f (p.domain s d) := by
  simp [Panel.modDomain, Panel.domain]
@[simp] theorem modDomain_csr (p : Panel) (s d : Nat) (f : Domain → Domain) : (p.modDomain s d f).csr = p.csr := rfl
@[simp] theorem modDomain_time (p : Panel) (s d : Nat) (f : Domain → Domain) : (p.modDomain s d f).time = p.time := rfl
@[simp] theorem modDomain_tack (p : Panel) (s d : Nat) (f : Domain → Domain) : (p.modDomain s d f).tack = p.tack := rfl
@[simp] theorem modDomain_boot (p : Panel) (s d : Nat) (f : Domain → Domain) : (p.modDomain s d f).boot = p.boot := rfl
@[simp] theorem modDomain_plan (p : Panel) (s d : Nat) (f : Domain → Domain) : (p.modDomain s d f).plan = p.plan := rfl
@[simp] theorem modDomain_fuses (p : Panel) (s d : Nat) (f : Domain → Domain) : (p.modDomain s d f).fuses = p.fuses := rfl
@[simp] theorem modDomain_regions (p : Panel) (s d : Nat) (f : Domain → Domain) : (p.modDomain s d f).regions = p.regions := rfl
@[simp] theorem modDomain_contain (p : Panel) (s d : Nat) (f : Domain → Domain) : (p.modDomain s d f).contain = p.contain := rfl
@[simp] theorem modDomain_net (p : Panel) (s d : Nat) (f : Domain → Domain) : (p.modDomain s d f).net = p.net := rfl
@[simp] theorem modDomain_fresh (p : Panel) (s d : Nat) (f : Domain → Domain) : (p.modDomain s d f).fresh = p.fresh := rfl
@[simp] theorem modDomain_writes (p : Panel) (s d : Nat) (f : Domain → Domain) : (p.modDomain s d f).writes = p.writes := rfl
@[simp] theorem modDomain_out (p : Panel) (s d : Nat) (f : Domain → Domain) : (p.modDomain s d f).out = p.out := rfl
@[simp] theorem modDomain_field (p : Panel) (s d : Nat) (f : Domain → Domain) (x : Nat) (g : Fld) :
    (p.modDomain s d f).field x g = p.field x g := field_of_csr (modDomain_csr p s d f) x g
@[simp] theorem modDomain_isSet (p : Panel) (s d : Nat) (f : Domain → Domain) (x : Nat) (g : Fld) :
    (p.modDomain s d f).isSet x g = p.isSet x g := isSet_of_csr (modDomain_csr p s d f) x g

/-! ### modPower -/

@[simp] theorem modPower_same (p : Panel) (f : Power → Power) : (p.modPower f).power = f p.power := rfl
@[simp] theorem modPower_csr (p : Panel) (f : Power → Power) : (p.modPower f).csr = p.csr := rfl
@[simp] theorem modPower_time (p : Panel) (f : Power → Power) : (p.modPower f).time = p.time := rfl
@[simp] theorem modPower_tack (p : Panel) (f : Power → Power) : (p.modPower f).tack = p.tack := rfl
@[simp] theorem modPower_boot (p : Panel) (f : Power → Power) : (p.modPower f).boot = p.boot := rfl
@[simp] theorem modPower_plan (p : Panel) (f : Power → Power) : (p.modPower f).plan = p.plan := rfl
@[simp] theorem modPower_fuses (p : Panel) (f : Power → Power) : (p.modPower f).fuses = p.fuses := rfl
@[simp] theorem modPower_regions (p : Panel) (f : Power → Power) : (p.modPower f).regions = p.regions := rfl
@[simp] theorem modPower_contain (p : Panel) (f : Power → Power) : (p.modPower f).contain = p.contain := rfl
@[simp] theorem modPower_net (p : Panel) (f : Power → Power) : (p.modPower f).net = p.net := rfl
@[simp] theorem modPower_fresh (p : Panel) (f : Power → Power) : (p.modPower f).fresh = p.fresh := rfl
@[simp] theorem modPower_writes (p : Panel) (f : Power → Power) : (p.modPower f).writes = p.writes := rfl
@[simp] theorem modPower_out (p : Panel) (f : Power → Power) : (p.modPower f).out = p.out := rfl
@[simp] theorem modPower_field (p : Panel) (f : Power → Power) (x : Nat) (g : Fld) :
    (p.modPower f).field x g = p.field x g := field_of_csr (modPower_csr p f) x g
@[simp] theorem modPower_isSet (p : Panel) (f : Power → Power) (x : Nat) (g : Fld) :
    (p.modPower f).isSet x g = p.isSet x g := isSet_of_csr (modPower_csr p f) x g

/-! ### modPort -/

@[simp] theorem modPort_same (p : Panel) (q : Nat) (f : Port → Port) : (p.modPort q f).port q = f (p.port q) := by
  simp [Panel.modPort, Panel.port]
@[simp] theorem modPort_csr (p : Panel) (q : Nat) (f : Port → Port) : (p.modPort q f).csr = p.csr := rfl
@[simp] theorem modPort_time (p : Panel) (q : Nat) (f : Port → Port) : (p.modPort q f).time = p.time := rfl
@[simp] theorem modPort_tack (p : Panel) (q : Nat) (f : Port → Port) : (p.modPort q f).tack = p.tack := rfl
@[simp] theorem modPort_boot (p : Panel) (q : Nat) (f : Port → Port) : (p.modPort q f).boot = p.boot := rfl
@[simp] theorem modPort_plan (p : Panel) (q : Nat) (f : Port → Port) : (p.modPort q f).plan = p.plan := rfl
@[simp] theorem modPort_fuses (p : Panel) (q : Nat) (f : Port → Port) : (p.modPort q f).fuses = p.fuses := rfl
@[simp] theorem modPort_regions (p : Panel) (q : Nat) (f : Port → Port) : (p.modPort q f).regions = p.regions := rfl
@[simp] theorem modPort_contain (p : Panel) (q : Nat) (f : Port → Port) : (p.modPort q f).contain = p.contain := rfl
@[simp] theorem modPort_net (p : Panel) (q : Nat) (f : Port → Port) : (p.modPort q f).net = p.net := rfl
@[simp] theorem modPort_fresh (p : Panel) (q : Nat) (f : Port → Port) : (p.modPort q f).fresh = p.fresh := rfl
@[simp] theorem modPort_writes (p : Panel) (q : Nat) (f : Port → Port) : (p.modPort q f).writes = p.writes := rfl
@[simp] theorem modPort_out (p : Panel) (q : Nat) (f : Port → Port) : (p.modPort q f).out = p.out := rfl
@[simp] theorem modPort_field (p : Panel) (q : Nat) (f : Port → Port) (x : Nat) (g : Fld) :
    (p.modPort q f).field x g = p.field x g := field_of_csr (modPort_csr p q f) x g
@[simp] theorem modPort_isSet (p : Panel) (q : Nat) (f : Port → Port) (x : Nat) (g : Fld) :
    (p.modPort q f).isSet x g = p.isSet x g := isSet_of_csr (modPort_csr p q f) x g

/-! ### modCtx -/

@[simp] theorem modCtx_same (p : Panel) (c : Nat) (f : Context → Context) : (p.modCtx c f).ctx c = f (p.ctx c) := by
  simp [Panel.modCtx, Panel.ctx]
@[simp] theorem modCtx_csr (p : Panel) (c : Nat) (f : Context → Context) : (p.modCtx c f).csr = p.csr := rfl
@[simp] theorem modCtx_time (p : Panel) (c : Nat) (f : Context → Context) : (p.modCtx c f).time = p.time := rfl
@[simp] theorem modCtx_tack (p : Panel) (c : Nat) (f : Context → Context) : (p.modCtx c f).tack = p.tack := rfl
@[simp] theorem modCtx_boot (p : Panel) (c : Nat) (f : Context → Context) : (p.modCtx c f).boot = p.boot := rfl
@[simp] theorem modCtx_plan (p : Panel) (c : Nat) (f : Context → Context) : (p.modCtx c f).plan = p.plan := rfl
@[simp] theorem modCtx_fuses (p : Panel) (c : Nat) (f : Context → Context) : (p.modCtx c f).fuses = p.fuses := rfl
@[simp] theorem modCtx_regions (p : Panel) (c : Nat) (f : Context → Context) : (p.modCtx c f).regions = p.regions := rfl
@[simp] theorem modCtx_contain (p : Panel) (c : Nat) (f : Context → Context) : (p.modCtx c f).contain = p.contain := rfl
@[simp] theorem modCtx_net (p : Panel) (c : Nat) (f : Context → Context) : (p.modCtx c f).net = p.net := rfl
@[simp] theorem modCtx_fresh (p : Panel) (c : Nat) (f : Context → Context) : (p.modCtx c f).fresh = p.fresh := rfl
@[simp] theorem modCtx_writes (p : Panel) (c : Nat) (f : Context → Context) : (p.modCtx c f).writes = p.writes := rfl
@[simp] theorem modCtx_out (p : Panel) (c : Nat) (f : Context → Context) : (p.modCtx c f).out = p.out := rfl
@[simp] theorem modCtx_field (p : Panel) (c : Nat) (f : Context → Context) (x : Nat) (g : Fld) :
    (p.modCtx c f).field x g = p.field x g := field_of_csr (modCtx_csr p c f) x g
@[simp] theorem modCtx_isSet (p : Panel) (c : Nat) (f : Context → Context) (x : Nat) (g : Fld) :
    (p.modCtx c f).isSet x g = p.isSet x g := isSet_of_csr (modCtx_csr p c f) x g

/-! ### modLink -/

@[simp] theorem modLink_same (p : Panel) (s : Nat) (f : LinkDie → LinkDie) : (p.modLink s f).linkDie s = f (p.linkDie s) := by
  simp [Panel.modLink, Panel.linkDie]
@[simp] theorem modLink_csr (p : Panel) (s : Nat) (f : LinkDie → LinkDie) : (p.modLink s f).csr = p.csr := rfl
@[simp] theorem modLink_time (p : Panel) (s : Nat) (f : LinkDie → LinkDie) : (p.modLink s f).time = p.time := rfl
@[simp] theorem modLink_tack (p : Panel) (s : Nat) (f : LinkDie → LinkDie) : (p.modLink s f).tack = p.tack := rfl
@[simp] theorem modLink_boot (p : Panel) (s : Nat) (f : LinkDie → LinkDie) : (p.modLink s f).boot = p.boot := rfl
@[simp] theorem modLink_plan (p : Panel) (s : Nat) (f : LinkDie → LinkDie) : (p.modLink s f).plan = p.plan := rfl
@[simp] theorem modLink_fuses (p : Panel) (s : Nat) (f : LinkDie → LinkDie) : (p.modLink s f).fuses = p.fuses := rfl
@[simp] theorem modLink_regions (p : Panel) (s : Nat) (f : LinkDie → LinkDie) : (p.modLink s f).regions = p.regions := rfl
@[simp] theorem modLink_contain (p : Panel) (s : Nat) (f : LinkDie → LinkDie) : (p.modLink s f).contain = p.contain := rfl
@[simp] theorem modLink_net (p : Panel) (s : Nat) (f : LinkDie → LinkDie) : (p.modLink s f).net = p.net := rfl
@[simp] theorem modLink_fresh (p : Panel) (s : Nat) (f : LinkDie → LinkDie) : (p.modLink s f).fresh = p.fresh := rfl
@[simp] theorem modLink_writes (p : Panel) (s : Nat) (f : LinkDie → LinkDie) : (p.modLink s f).writes = p.writes := rfl
@[simp] theorem modLink_out (p : Panel) (s : Nat) (f : LinkDie → LinkDie) : (p.modLink s f).out = p.out := rfl
@[simp] theorem modLink_field (p : Panel) (s : Nat) (f : LinkDie → LinkDie) (x : Nat) (g : Fld) :
    (p.modLink s f).field x g = p.field x g := field_of_csr (modLink_csr p s f) x g
@[simp] theorem modLink_isSet (p : Panel) (s : Nat) (f : LinkDie → LinkDie) (x : Nat) (g : Fld) :
    (p.modLink s f).isSet x g = p.isSet x g := isSet_of_csr (modLink_csr p s f) x g

/-! ### modSeq -/

@[simp] theorem modSeq_same (p : Panel) (s : Nat) (f : Seq → Seq) : (p.modSeq s f).seq s = f (p.seq s) := by
  simp [Panel.modSeq, Panel.seq]
@[simp] theorem modSeq_csr (p : Panel) (s : Nat) (f : Seq → Seq) : (p.modSeq s f).csr = p.csr := rfl
@[simp] theorem modSeq_time (p : Panel) (s : Nat) (f : Seq → Seq) : (p.modSeq s f).time = p.time := rfl
@[simp] theorem modSeq_tack (p : Panel) (s : Nat) (f : Seq → Seq) : (p.modSeq s f).tack = p.tack := rfl
@[simp] theorem modSeq_boot (p : Panel) (s : Nat) (f : Seq → Seq) : (p.modSeq s f).boot = p.boot := rfl
@[simp] theorem modSeq_plan (p : Panel) (s : Nat) (f : Seq → Seq) : (p.modSeq s f).plan = p.plan := rfl
@[simp] theorem modSeq_fuses (p : Panel) (s : Nat) (f : Seq → Seq) : (p.modSeq s f).fuses = p.fuses := rfl
@[simp] theorem modSeq_regions (p : Panel) (s : Nat) (f : Seq → Seq) : (p.modSeq s f).regions = p.regions := rfl
@[simp] theorem modSeq_contain (p : Panel) (s : Nat) (f : Seq → Seq) : (p.modSeq s f).contain = p.contain := rfl
@[simp] theorem modSeq_net (p : Panel) (s : Nat) (f : Seq → Seq) : (p.modSeq s f).net = p.net := rfl
@[simp] theorem modSeq_fresh (p : Panel) (s : Nat) (f : Seq → Seq) : (p.modSeq s f).fresh = p.fresh := rfl
@[simp] theorem modSeq_writes (p : Panel) (s : Nat) (f : Seq → Seq) : (p.modSeq s f).writes = p.writes := rfl
@[simp] theorem modSeq_out (p : Panel) (s : Nat) (f : Seq → Seq) : (p.modSeq s f).out = p.out := rfl
@[simp] theorem modSeq_field (p : Panel) (s : Nat) (f : Seq → Seq) (x : Nat) (g : Fld) :
    (p.modSeq s f).field x g = p.field x g := field_of_csr (modSeq_csr p s f) x g
@[simp] theorem modSeq_isSet (p : Panel) (s : Nat) (f : Seq → Seq) (x : Nat) (g : Fld) :
    (p.modSeq s f).isSet x g = p.isSet x g := isSet_of_csr (modSeq_csr p s f) x g

/-! ### setWatches -/

@[simp] theorem setWatches_same (p : Panel) (s : Nat) (l : List Watch) : (p.setWatches s l).watchesOf s = l := by
  simp [Panel.setWatches, Panel.watchesOf]
@[simp] theorem setWatches_csr (p : Panel) (s : Nat) (l : List Watch) : (p.setWatches s l).csr = p.csr := rfl
@[simp] theorem setWatches_time (p : Panel) (s : Nat) (l : List Watch) : (p.setWatches s l).time = p.time := rfl
@[simp] theorem setWatches_tack (p : Panel) (s : Nat) (l : List Watch) : (p.setWatches s l).tack = p.tack := rfl
@[simp] theorem setWatches_boot (p : Panel) (s : Nat) (l : List Watch) : (p.setWatches s l).boot = p.boot := rfl
@[simp] theorem setWatches_plan (p : Panel) (s : Nat) (l : List Watch) : (p.setWatches s l).plan = p.plan := rfl
@[simp] theorem setWatches_fuses (p : Panel) (s : Nat) (l : List Watch) : (p.setWatches s l).fuses = p.fuses := rfl
@[simp] theorem setWatches_regions (p : Panel) (s : Nat) (l : List Watch) : (p.setWatches s l).regions = p.regions := rfl
@[simp] theorem setWatches_contain (p : Panel) (s : Nat) (l : List Watch) : (p.setWatches s l).contain = p.contain := rfl
@[simp] theorem setWatches_net (p : Panel) (s : Nat) (l : List Watch) : (p.setWatches s l).net = p.net := rfl
@[simp] theorem setWatches_fresh (p : Panel) (s : Nat) (l : List Watch) : (p.setWatches s l).fresh = p.fresh := rfl
@[simp] theorem setWatches_writes (p : Panel) (s : Nat) (l : List Watch) : (p.setWatches s l).writes = p.writes := rfl
@[simp] theorem setWatches_out (p : Panel) (s : Nat) (l : List Watch) : (p.setWatches s l).out = p.out := rfl
@[simp] theorem setWatches_field (p : Panel) (s : Nat) (l : List Watch) (x : Nat) (g : Fld) :
    (p.setWatches s l).field x g = p.field x g := field_of_csr (setWatches_csr p s l) x g
@[simp] theorem setWatches_isSet (p : Panel) (s : Nat) (l : List Watch) (x : Nat) (g : Fld) :
    (p.setWatches s l).isSet x g = p.isSet x g := isSet_of_csr (setWatches_csr p s l) x g

/-! ### setRing -/

@[simp] theorem setRing_same (p : Panel) (r : Nat) (l : List HostDesc) : (p.setRing r l).ring r = l := by
  simp [Panel.setRing, Panel.ring]
@[simp] theorem setRing_csr (p : Panel) (r : Nat) (l : List HostDesc) : (p.setRing r l).csr = p.csr := rfl
@[simp] theorem setRing_time (p : Panel) (r : Nat) (l : List HostDesc) : (p.setRing r l).time = p.time := rfl
@[simp] theorem setRing_tack (p : Panel) (r : Nat) (l : List HostDesc) : (p.setRing r l).tack = p.tack := rfl
@[simp] theorem setRing_boot (p : Panel) (r : Nat) (l : List HostDesc) : (p.setRing r l).boot = p.boot := rfl
@[simp] theorem setRing_plan (p : Panel) (r : Nat) (l : List HostDesc) : (p.setRing r l).plan = p.plan := rfl
@[simp] theorem setRing_fuses (p : Panel) (r : Nat) (l : List HostDesc) : (p.setRing r l).fuses = p.fuses := rfl
@[simp] theorem setRing_regions (p : Panel) (r : Nat) (l : List HostDesc) : (p.setRing r l).regions = p.regions := rfl
@[simp] theorem setRing_contain (p : Panel) (r : Nat) (l : List HostDesc) : (p.setRing r l).contain = p.contain := rfl
@[simp] theorem setRing_net (p : Panel) (r : Nat) (l : List HostDesc) : (p.setRing r l).net = p.net := rfl
@[simp] theorem setRing_fresh (p : Panel) (r : Nat) (l : List HostDesc) : (p.setRing r l).fresh = p.fresh := rfl
@[simp] theorem setRing_writes (p : Panel) (r : Nat) (l : List HostDesc) : (p.setRing r l).writes = p.writes := rfl
@[simp] theorem setRing_out (p : Panel) (r : Nat) (l : List HostDesc) : (p.setRing r l).out = p.out := rfl
@[simp] theorem setRing_field (p : Panel) (r : Nat) (l : List HostDesc) (x : Nat) (g : Fld) :
    (p.setRing r l).field x g = p.field x g := field_of_csr (setRing_csr p r l) x g
@[simp] theorem setRing_isSet (p : Panel) (r : Nat) (l : List HostDesc) (x : Nat) (g : Fld) :
    (p.setRing r l).isSet x g = p.isSet x g := isSet_of_csr (setRing_csr p r l) x g

end Sys2Proof.Laws
end

