-- ==== Sys2Proof/WellFormed.lean ====
section
/-! DEFINITION. Which commands are well formed: every operand within the range that the encoding or the numbering of the
specification gives it. `exec` gives every command a meaning; the panel's links and engines carry only well-formed ones. -/

namespace Sys2Proof

/-- R11–R13: the panel's sites are numbered 0 to 467. -/
def isSite (n : Nat) : Bool := n < 468

/-- R130: the home of a counter is a site, or 511 for the issuing die's own. -/
def isHome (n : Nat) : Bool := isSite n || n = 511

/-- R12: a link die stands at an even edge position, sites 400 to 462. -/
def isLink (n : Nat) : Bool := 400 ≤ n && n < 464 && n % 2 = 0

/-- R342: a panel ID has 12 bits. -/
def isPanel (n : Nat) : Bool := n < 4096

/-- R135: a thread of a compute die. -/
def ThreadId.wf (t : ThreadId) : Bool := t.site < 400 && t.cluster < 4 && t.core < 8 && t.thread < 4

/-- R256: a row has 64 bytes. -/
def Delivered.wf (x : Delivered) : Bool := x.data.length = 64

/-- R266, R270: a galley request's key; unit 4 is the line galley. -/
def GalKey.wf (k : GalKey) : Bool := isSite k.site && k.unit < 5 && k.galley < 4

/-- R319: a frame is 24 or 32 UI on 16 data wires and 8 sideband wires. -/
def AzFrame.wf (f : AzFrame) : Bool :=
  isSite f.site && f.bundle < 64 && (f.uis.length = 24 || f.uis.length = 32) && f.uis.all fun u => u.1 < 65536 && u.2 < 256

/-- R318: a wire of a direction: data 0–15, sideband 16–23. -/
def wireWf (w : Nat) : Bool := w < 24

/-- R327: a test-channel frame, empty when it is missing. -/
def tcWf (f : List Byte) : Bool := f.length = 0 || f.length = 48

/-- R342: the fields of a frame header, with at most 16 rows of payload. -/
def PlFrame.wf (f : PlFrame) : Bool :=
  f.type < 256 && f.epoch < 2 && isPanel f.dst && isPanel f.src && f.ctx < 4096 && f.psn < 4294967296 && f.hops < 256
    && f.reason < 256 && f.rows.length ≤ 16 && f.rows.all Delivered.wf

/-- R341: a word of a port's stream has 8 bytes. -/
def wordWf (w : List Byte) : Bool := w.length = 8

/-- R527: the fields of a fault record; region 255 is none. -/
def FaultRec.wf (r : FaultRec) : Bool := r.code < 65536 && isSite r.site && (r.region < 16 || r.region = 255)

/-- R43: the snapshots of a corner die's own BIST: 64 bits each, at most the 512 of a 4 KiB log. -/
def cornerStreamWf (x : Nat × List Nat) : Bool :=
  464 ≤ x.1 && x.1 < 468 && x.2.length ≤ 512 && x.2.all fun v => v < 18446744073709551616

/-- R70: a PTP message comes in on one of the two management ports, in one of 256 domains. -/
def PtpMsg.wf : PtpMsg → Bool
  | .sync port d _ _ _ => port < 2 && d < 256
  | .followUp port d _ _ _ => port < 2 && d < 256
  | .delay port d _ _ => port < 2 && d < 256

/-- Whether a command is well formed. -/
def Instr.wellFormed : Instr → Bool
  | .coldReset _ streams => streams.all cornerStreamWf
  | .panelRstAssert => true
  | .flashFree => true
  | .powerWaveSlot _ _ _ => true
  | .proofReportDeadline => true
  | .cornerProofSlot _ _ _ => true
  | .bringUpReady => true
  | .fieldBistStart site mode kinds units => isSite site && mode < 4 && kinds < 256 && units < 65536
  | .fieldBistAbort site => isSite site
  | .fieldBistDone site _ => isSite site
  | .clkPeriodWrite site value _ => isSite site && value < 4294967296
  | .marginStretch site domain _ sixteenths _ => isSite site && domain < 5 && sixteenths < 16
  | .domainSkewFault site _ => isSite site
  | .oscillatorStop site domain => isSite site && domain < 5
  | .clkForcedWrite site value => isSite site && value < 4294967296
  | .refClkLoss site => isSite site
  | .timeBeaconSend => true
  | .timeBeacon site _ rate => isSite site && rate < 4294967296
  | .tickSend region => region < 16
  | .tickMessage site region => isSite site && region < 16
  | .strokeTick site region _ => isSite site && region < 16
  | .ptpMessage m => m.wf
  | .ptpHoldover => true
  | .timeInEdge => true
  | .strokeLockLost => true
  | .timeOutPps => true
  | .meshWordArrive site bundle => isSite site && bundle < 64
  | .holdEnd site _ _ => isSite site
  | .holdTimeout site => isSite site
  | .endOfStroke site => isSite site
  | .strokeEndReport site => isSite site
  | .slurLimitExpired region => region < 16
  | .stepAnnounce region _ => region < 16
  | .sheetCommit region _ => region < 16
  | .lineIssue site late => isSite site && late < 16
  | .slotNop site slot => isSite site && slot < 16
  | .quad site late => isSite site && late < 16
  | .loopBegin site => isSite site
  | .loopEnd site => isSite site
  | .scheduleLengthReached site => isSite site
  | .ends site _ => isSite site
  | .launch site _ => isSite site
  | .page site _ => isSite site
  | .pageLoadComplete site half => isSite site && half < 2
  | .jumpp site _ => isSite site
  | .waitl site _ => isSite site
  | .ximm site slot _ => isSite site && slot < 14
  | .mark site _ => isSite site
  | .sadd site idx home delta => isSite site && idx < 256 && isHome home && delta < 4294967296
  | .sset site idx value => isSite site && idx < 256 && value < 4294967296
  | .swait site _ => isSite site
  | .swaitb site _ => isSite site
  | .swatch site idx home slot _ target => isSite site && idx < 256 && isHome home && slot < 16 && target < 4294967296
  | .swaitw site _ => isSite site
  | .waitPass site _ => isSite site
  | .swaitbBoundExpired site => isSite site
  | .syncWaitTimeout site => isSite site
  | .saddArrive home idx delta src => isSite home && idx < 256 && delta < 4294967296 && (isSite src || (512 ≤ src && src < 528))
  | .watchArrive home idx target waiter slot => isSite home && idx < 256 && target < 4294967296 && isSite waiter && slot < 16
  | .reachedArrive home waiter slot => isSite home && isSite waiter && slot < 16
  | .lastArrivalNotice home site => isSite home && isSite site
  | .cmpAdd t _ _ _ => t.wf
  | .cmpSub t _ _ _ => t.wf
  | .cmpAnd t _ _ _ => t.wf
  | .cmpOr t _ _ _ => t.wf
  | .cmpXor t _ _ _ => t.wf
  | .cmpSll t _ _ _ => t.wf
  | .cmpSrl t _ _ _ => t.wf
  | .cmpSra t _ _ _ => t.wf
  | .cmpSlt t _ _ _ => t.wf
  | .cmpSltu t _ _ _ => t.wf
  | .cmpMul t _ _ _ => t.wf
  | .cmpMulhu t _ _ _ => t.wf
  | .cmpMin t _ _ _ => t.wf
  | .cmpMax t _ _ _ => t.wf
  | .cmpAddi t _ _ _ => t.wf
  | .cmpAndi t _ _ _ => t.wf
  | .cmpOri t _ _ _ => t.wf
  | .cmpXori t _ _ _ => t.wf
  | .cmpSlli t _ _ _ => t.wf
  | .cmpSrli t _ _ _ => t.wf
  | .cmpSrai t _ _ _ => t.wf
  | .cmpLui t _ _ => t.wf
  | .cmpLw t _ _ _ => t.wf
  | .cmpLbu t _ _ _ => t.wf
  | .cmpSw t _ _ _ => t.wf
  | .cmpSb t _ _ _ => t.wf
  | .cmpBeq t _ _ _ => t.wf
  | .cmpBne t _ _ _ => t.wf
  | .cmpBlt t _ _ _ => t.wf
  | .cmpBge t _ _ _ => t.wf
  | .cmpBltu t _ _ _ => t.wf
  | .cmpJal t _ _ => t.wf
  | .cmpJalr t _ _ _ => t.wf
  | .cmpSig t _ _ _ => t.wf
  | .cmpSrd t _ _ => t.wf
  | .cmpRds t _ _ => t.wf
  | .cmpEnd t _ _ _ => t.wf
  | .cmpVld t _ _ _ => t.wf
  | .cmpVst t _ _ _ => t.wf
  | .cmpVadd t _ _ _ _ => t.wf
  | .cmpVsub t _ _ _ _ => t.wf
  | .cmpVmul t _ _ _ _ => t.wf
  | .cmpVfma t _ _ _ _ => t.wf
  | .cmpVmax t _ _ _ _ => t.wf
  | .cmpVcmp t _ _ _ _ _ => t.wf
  | .cmpVsel t _ _ _ _ => t.wf
  | .cmpVcvt t _ _ _ _ => t.wf
  | .cmpVred t _ _ _ => t.wf
  | .cmpVperm t _ _ _ _ => t.wf
  | .cmpVspl t _ _ _ => t.wf
  | .cmpVext t _ _ _ _ => t.wf
  | .cmpIllegal t => t.wf
  | .wload site cluster _ _ => isSite site && cluster < 4
  | .stream site cluster _ _ => isSite site && cluster < 4
  | .drain site cluster _ => isSite site && cluster < 4
  | .ainit site cluster _ => isSite site && cluster < 4
  | .wloadReady site cluster => isSite site && cluster < 4
  | .streamDone site cluster _ => isSite site && cluster < 4
  | .ainitDone site cluster => isSite site && cluster < 4
  | .drainDone site cluster _ => isSite site && cluster < 4
  | .denInject site cluster => isSite site && cluster < 4
  | .sload site cluster _ _ => isSite site && cluster < 4
  | .sstream site cluster _ _ => isSite site && cluster < 4
  | .sdrain site cluster _ => isSite site && cluster < 4
  | .sainit site cluster _ => isSite site && cluster < 4
  | .sloadReady site cluster => isSite site && cluster < 4
  | .sstreamDone site cluster _ => isSite site && cluster < 4
  | .sainitDone site cluster => isSite site && cluster < 4
  | .sdrainDone site cluster _ => isSite site && cluster < 4
  | .spaInject site cluster => isSite site && cluster < 4
  | .spaMetaInject site cluster => isSite site && cluster < 4
  | .gate site _ _ => isSite site
  | .just site _ => isSite site
  | .merge site _ => isSite site
  | .slot12Done site unit => isSite site && unit < 3
  | .copy site cluster _ => isSite site && cluster < 4
  | .zero site cluster _ => isSite site && cluster < 4
  | .store site cluster _ _ => isSite site && cluster < 4
  | .cstore site cluster _ => isSite site && cluster < 4
  | .put site cluster _ _ => isSite site && cluster < 4
  | .wopen site cluster _ => isSite site && cluster < 4
  | .wclose site cluster _ => isSite site && cluster < 4
  | .scratchOpDone site cluster => isSite site && cluster < 4
  | .putArrive src srcCluster site cluster row rows => isSite src && srcCluster < 4 && isSite site && cluster < 4 && row < 1310720 && rows.all Delivered.wf
  | .scoreboardRetire site cluster _ => isSite site && cluster < 4
  | .scrubAccess site cluster row _ => isSite site && cluster < 4 && row < 1310720
  | .parInject site cluster => isSite site && cluster < 4
  | .foxFillDone site cluster => isSite site && cluster < 4
  | .gread site cluster _ => isSite site && cluster < 4
  | .gwrite site cluster _ => isSite site && cluster < 4
  | .gwait site cluster _ => isSite site && cluster < 4
  | .gdrain site cluster _ => isSite site && cluster < 4
  | .galleyRequestSend site cluster => isSite site && cluster < 4
  | .mdReadRequest k _ _ _ => k.wf
  | .mdWriteRequest k _ => k.wf
  | .readDataLand k hostRows _ => k.wf && hostRows.all Delivered.wf
  | .writeAckArrive k => k.wf
  | .galleyTimeout k => k.wf
  | .foxSummarySweep md channel => isSite md && channel < 8
  | .odeccPoll md _ _ _ => isSite md
  | .galCrcInject site cluster => isSite site && cluster < 4
  | .setoffCopyAck md ctx => isSite md && ctx < 4096
  | .setmarkNotice md region sheet => isSite md && region < 16 && sheet < 4294967296
  | .sheetEndReport md ctx sheet => isSite md && ctx < 4096 && sheet < 4294967296
  | .setoffAckWaitExpired region => region < 16
  | .setoffReceive ctx psn => ctx < 4096 && psn < 4294967296
  | .setoffResync _ => true
  | .msend site cluster _ => isSite site && cluster < 4
  | .mrecv site cluster _ => isSite site && cluster < 4
  | .tsend site cluster _ => isSite site && cluster < 4
  | .packetHop site input cls => isSite site && input ≤ 64 && cls < 6
  | .reinAlarm site cls _ => isSite site && cls < 8
  | .fabFlip => true
  | .epochFlipMsg site version => isSite site && version < 4294967296
  | .routerDrainReport site => isSite site
  | .drainNotice site => isSite site
  | .fabRtWrite site dst value => isSite site && isSite dst && value < 4294967296
  | .traceFlit site bundle trace noise => isSite site && bundle ≤ 64 && trace < 256 && noise / 2 ^ 256 / 2 ^ 256 < 65536
  | .traceCreditTimeout site trace => isSite site && trace < 256
  | .gtrDone k => k.wf
  | .bcast site off data => isSite site && off < 16777216 && data.length ≤ 64
  | .bcastEnd site crc => isSite site && crc < 4294967296
  | .bcastVerifyReport site _ => isSite site
  | .azIdle f => f.wf
  | .azData f cls => f.wf && cls < 6
  | .azKa f cls => f.wf && cls < 6
  | .azNak f => f.wf
  | .azTie f => f.wf
  | .azCut f => f.wf
  | .azTrunc f => f.wf
  | .azCrcFail f => f.wf
  | .azNoGoodFrame site bundle => isSite site && bundle < 64
  | .azRetrain site edge bundle => isSite site && edge < 4 && bundle < 64
  | .azRetrainDone site bundle _ tx rx _ => isSite site && bundle < 64 && tx.all wireWf && rx.all wireWf
  | .azCutTimeout site edge => isSite site && edge < 4
  | .azCutOrder site edge => isSite site && edge < 4
  | .azRejoin site edge _ => isSite site && edge < 4
  | .tieMaskWrite site mask => isSite site && mask < 16
  | .tcDescriptor site edge frame => isSite site && edge < 4 && tcWf frame
  | .tcSnapshot tester target frame => isSite tester && isSite target && frame.length = 48
  | .tcLoopback site bundle tx rx => isSite site && bundle < 64 && tx.all wireWf && rx.all wireWf
  | .tcFrameCrcFail tester target frame => isSite tester && isSite target && frame.length = 48
  | .plFrameRoute port words => port < 128 && words.all wordWf
  | .transitPacket src port f => isSite src && port < 128 && f.wf
  | .plData f => f.wf
  | .plAck f => f.wf
  | .plNak f => f.wf
  | .plMark f => f.wf
  | .plMarkAck f => f.wf
  | .setmarkAck ctx sheet => ctx < 4096 && sheet < 4294967296
  | .plKeepalive port src => port < 128 && isPanel src
  | .plKeepaliveSend port => port < 128
  | .plAckTimer ctx => ctx < 4096
  | .plGapTimeout ctx => ctx < 4096
  | .plRtoExpire ctx psn => ctx < 4096 && psn < 4294967296
  | .streamCopyStored md ctx => isSite md && ctx < 4096
  | .plPortLoss port => port < 128
  | .plPortIdleTimeout port => port < 128
  | .lnkFlip => true
  | .ptFlipMsg link version => isLink link && version < 4294967296
  | .ptOldIdle => true
  | .lnkPtWrite link panel value => isLink link && panel < 4096 && value < 4294967296
  | .lnkRerig link _ => isLink link
  | .portTrainingDone port _ => port < 128
  | .feedFrame port words => port < 128 && words.all wordWf
  | .ethFrame port iface _ _ => port < 128 && iface < 8
  | .ethConsPoll port iface => port < 128 && iface < 8
  | .laneMarginSample link lane _ _ => isLink link && lane < 32
  | .frmStart => true
  | .frmAbort => true
  | .lockupDetourDrained => true
  | .lockupTiedDrained => true
  | .lockupFinalDrained => true
  | .impositionRequest region imp _ => region < 16 && imp < 256
  | .overdrawRetry site => isSite site
  | .errAccept region => region < 16
  | .reprintClaim site slot reserve cluster => isSite site && slot < 4 && isSite reserve && cluster < 4
  | .reprintGrant site slot _ => isSite site && slot < 4
  | .reprintOperands site slot => isSite site && slot < 4
  | .reprintReplayDone site slot _ => isSite site && slot < 4
  | .reprintResult site slot => isSite site && slot < 4
  | .reprintTimeout site slot => isSite site && slot < 4
  | .errRpInject site => isSite site
  | .strokeAbortMsg site => isSite site
  | .regionAbort region code => region < 16 && code < 65536
  | .abortSettleExpired region => region < 16
  | .restartReloadDone region => region < 16
  | .pwrReqOn site domain => isSite site && domain < 5
  | .pwrReqOff site domain => isSite site && domain < 5
  | .turnOnAttempt site domain _ _ => isSite site && domain < 5
  | .headerStageStep site domain _ => isSite site && domain < 5
  | .domainPowerGood site domain => isSite site && domain < 5
  | .powerGoodTimeout site domain => isSite site && domain < 5
  | .reservationRelease site domain => isSite site && domain < 5
  | .phaseLoss site cluster phase => isSite site && cluster < 4 && phase < 16
  | .phInject site cluster => isSite site && cluster < 4
  | .uncoreRegulatorFail site _ _ => isSite site
  | .pwrVsetWrite site _ => isSite site
  | .groupSenseLow group _ => group < 112
  | .groupUndervolt group => group < 112
  | .railFail _ => true
  | .groupOverLimit group _ => group < 112
  | .drwSpTackWrite _ mode => mode < 4
  | .drwSpHostWrite _ mode => mode < 4
  | .tackLeaseExpired => true
  | .budgetRampStep => true
  | .diePowerReport site _ => isSite site
  | .drawTrimUpdate => true
  | .warmWaitExpired region => region < 16
  | .warmDutyUpdate site => isSite site
  | .coolantSample _ _ _ => true
  | .thermalForecast site => isSite site
  | .thermalSustainExpired region => region < 16
  | .sensorRead site _ => isSite site
  | .hotTrip site => isSite site
  | .resetColdRequest streams => streams.all cornerStreamWf
  | .resetWarm src => src < 3
  | .resetCompute src => src < 3
  | .resetRegion src region => src < 3 && region < 16
  | .resetDie src site _ _ _ _ => src < 3 && isSite site
  | .resetCluster src site cluster => src < 3 && isSite site && cluster < 4
  | .perst => true
  | .pcieLinkDown => true
  | .pciePowerState _ => true
  | .bar0Access _ _ size _ => (size = 1 || size = 2 || size = 4 || size = 8)
  | .bar2Access _ _ _ => true
  | .hstB2BaseWrite _ => true
  | .ringPoll ring _ descs _ => ring < 16 && descs.all (fun d => d.length = 64)
  | .copyIn ring seq rows => ring < 16 && seq < 4294967296 && rows.all Delivered.wf
  | .copyOut ring seq => ring < 16 && seq < 4294967296
  | .hostSignal ring seq => ring < 16 && seq < 4294967296
  | .hostWait ring seq => ring < 16 && seq < 4294967296
  | .note ring seq => ring < 16 && seq < 4294967296
  | .hostCopyDone ring seq => ring < 16 && seq < 4294967296
  | .hostWaitTimeout ring seq => ring < 16 && seq < 4294967296
  | .tackHbSend site => isSite site
  | .tackHbMiss site link => isSite site && link < 8
  | .lossFrame watcher lost _ => isSite watcher && isSite lost
  | .faultFrame dst r _ => isSite dst && r.wf
  | .faultFoldExpired site code => isSite site && code < 65536
  | .csrRd requester site off => isSite requester && isSite site && (off % 4 = 0 && off < 16777216)
  | .csrWr requester site off _ => isSite requester && isSite site && (off % 4 = 0 && off < 16777216)
  | .csrRsp dst site off _ => isSite dst && isSite site && (off % 4 = 0 && off < 16777216)
  | .distBeacon site origin id _ => isSite site && isSite origin && id < 256
  | .tackControl site _ _ => isSite site
  | .mgmtPortDown port => port < 2
  | .datagramRefused addr _ => addr < 2 ^ 128
  | .ident mgr txid => mgr < 4 && txid < 4294967296
  | .identUnsolicited => true
  | .draw mgr txid _ mode _ => mgr < 4 && txid < 4294967296 && mode < 4
  | .csrRead mgr txid site off _ _ => mgr < 4 && txid < 4294967296 && isSite site && off < 16777216
  | .csrWrite mgr txid site off _ _ => mgr < 4 && txid < 4294967296 && isSite site && off < 16777216
  | .memRead mgr txid _ _ _ => mgr < 4 && txid < 4294967296
  | .memWrite mgr txid _ _ _ => mgr < 4 && txid < 4294967296
  | .reset mgr txid scope region site _ _ => mgr < 4 && txid < 4294967296 && scope < 8 && region < 16 && site < 512
  | .bist mgr txid site value _ => mgr < 4 && txid < 4294967296 && isSite site && value < 4294967296
  | .lockup mgr txid _ _ _ _ => mgr < 4 && txid < 4294967296
  | .subscribe mgr txid minSev events _ => mgr < 4 && txid < 4294967296 && minSev < 8 && events < 65536
  | .eventAck mgr seq => mgr < 4 && seq < 4294967296
  | .eventResend mgr => mgr < 4
  | .telem mgr => mgr < 4
  | .attest mgr txid nonce _ => mgr < 4 && txid < 4294967296 && nonce.length = 32
  | .firmwareWriteChunk mgr txid _ _ _ => mgr < 4 && txid < 4294967296
  | .firmwareCommit mgr txid _ => mgr < 4 && txid < 4294967296
  | .getPanelSettings _ => true
  | .pldmEffecter _ value => value < 4294967296
  | .pldmFirmwareUpdate _ _ _ => true
  | .ownerRecord _ _ _ => true
  | .registerWrite src site off _ => src < 3 && isSite site && (off % 4 = 0 && off < 16777216)
  | .pcieLinkUp speed width => speed < 16 && width < 32
  | .mgmtPortUp port => port < 2
  | .thermalCapRise region => region < 16
  | .portCountLatch link _ _ => isLink link
  | .tackLerrLatch site _ => isSite site

end Sys2Proof
end

