-- ==== Sys2Proof/Tests/Slice0.lean ====
section
/-! SUPPORT. The model's own tests: the refusals of WellFormed, single commands on small states, and for each statement
with hypotheses a witness that meets them, clause by clause. -/

namespace Sys2Proof.Tests

open Sys2Proof Sys2Proof.Machine

set_option maxRecDepth 20000
set_option exponentiation.threshold 600

/-- A small state: nothing waits, memory is unlisted, and the panel is `f` of the panel after reset. -/
def st (f : Panel → Panel) : State := { pending := [], mem := {}, p := f {} }

/-- Die `site` stands in region `r`. -/
def inR (site r : Nat) (p : Panel) : Panel :=
  (p.setFlag site Csr.STK_STATUS_IN_REGION true).setField site Csr.STK_STATUS_REGION r

/-- Region `r` runs. -/
def runR (r : Nat) (p : Panel) : Panel := p.setFlag sitePD (Csr.STK_R_CTRL_RUNNING r) true

/-- The logic of die `s` is on. -/
def alive (s : Nat) (p : Panel) : Panel := p.setField s (Csr.PWR_DOM_STATE (logicDomain s)) domOn

/-- Thread `t` may issue. -/
def ready (t : ThreadId) (p : Panel) : Panel := p.setField t.site Csr.STK_CMP_THREADS (2 ^ threadNo t)

/-! ### Well-formedness: one ill-formed command for each check, which the check refuses -/

def tid : ThreadId := ⟨0, 0, 0, 0⟩
def key : GalKey := ⟨0, 0, 0, 0⟩
def azf : AzFrame := ⟨0, 0, List.replicate 24 (0, 0)⟩
def plf : PlFrame := { type := 1 }
def pkh : PacketHead := { type := 1, len := 1 }
def row0 : Delivered := ⟨List.replicate 64 0, false⟩

theorem test_ill_formed_1 : ([.fieldBistStart 468 0 0 0,
    .fieldBistStart 0 4 0 0,
    .coldReset [] [(400, [])],
    .coldReset [] [(464, [2 ^ 64])],
    .fieldBistStart 0 0 256 0,
    .fieldBistStart 0 0 0 65536,
    .clkPeriodWrite 0 4294967296 false,
    .marginStretch 0 5 0 0 0,
    .marginStretch 0 0 0 16 0,
    .tickSend 16,
    .meshWordArrive 0 64,
    .lineIssue 0 16,
    .slotNop 0 16,
    .pageLoadComplete 0 2,
    .ximm 0 14 0,
    .sadd 0 256 0 0,
    .sadd 0 0 510 0,
    .sadd 0 0 0 4294967296,
    .swatch 0 0 0 0 false 4294967296,
    .saddArrive 0 0 0 468,
    .saddArrive 0 0 0 528,
    .cmpAdd { tid with site := 400 } 0 0 0,
    .cmpAdd { tid with cluster := 4 } 0 0 0,
    .cmpAdd { tid with core := 8 } 0 0 0,
    .cmpAdd { tid with thread := 4 } 0 0 0,
    .wload 0 4 0 none,
    .slot12Done 0 3,
    .putArrive 0 4 0 0 0 [],
    .putArrive 0 0 0 0 1310720 [],
    .putArrive 0 0 0 0 0 [⟨[], false⟩],
    .mdReadRequest { key with site := 468 } 0 0 [],
    .mdReadRequest { key with unit := 5 } 0 0 []] : List Instr).all (fun c => !c.wellFormed) = true := by decide

theorem test_ill_formed_2 : ([.mdReadRequest { key with galley := 4 } 0 0 [],
    .readDataLand key [⟨[], false⟩] [],
    .foxSummarySweep 0 8,
    .setoffCopyAck 0 4096,
    .setmarkNotice 0 0 4294967296,
    .setoffReceive 0 4294967296,
    .packetHop 468 0 0,
    .packetHop 0 65 0,
    .packetHop 0 0 6,
    .reinAlarm 0 8 0,
    .epochFlipMsg 0 4294967296,
    .traceFlit 0 0 256 0,
    .bcast 0 16777216 [],
    .bcastEnd 0 4294967296,
    .azIdle { azf with site := 468 },
    .azIdle { azf with bundle := 64 },
    .azIdle { azf with uis := List.replicate 25 (0, 0) },
    .azIdle { azf with uis := List.replicate 24 (65536, 0) },
    .azIdle { azf with uis := List.replicate 24 (0, 256) },
    .azData azf 6,
    .azRetrainDone 0 0 true [24] [] 0,
    .tcDescriptor 0 0 [0],
    .azRetrain 0 4 0,
    .tieMaskWrite 0 16,
    .plFrameRoute 128 []] : List Instr).all (fun c => !c.wellFormed) = true := by decide

theorem test_ill_formed_3 : ([.plData { plf with type := 256 },
    .plData { plf with epoch := 2 },
    .plData { plf with dst := 4096 },
    .plData { plf with ctx := 4096 },
    .plData { plf with psn := 4294967296 },
    .plData { plf with hops := 256 },
    .plData { plf with reason := 256 },
    .plData { plf with rows := List.replicate 17 row0 },
    .plData { plf with rows := [⟨[], false⟩] },
    .plKeepalive 0 4096,
    .ptpMessage (.sync 2 0 0 0 0),
    .ptFlipMsg 401 0,
    .ptFlipMsg 464 0,
    .lnkPtWrite 400 4096 0,
    .feedFrame 128 [],
    .feedFrame 0 [[0]],
    .ethFrame 0 8 [] false,
    .laneMarginSample 400 32 0 0,
    .impositionRequest 0 256 false,
    .reprintClaim 0 4 0 0,
    .regionAbort 0 65536,
    .phaseLoss 0 0 16,
    .groupSenseLow 112 0,
    .resetWarm 3,
    .bar0Access false 0 16 0,
    .ringPoll 16 0 [] false,
    .ringPoll 0 0 [[]] false,
    .copyIn 0 4294967296 [],
    .tackHbMiss 0 8] : List Instr).all (fun c => !c.wellFormed) = true := by decide

theorem test_ill_formed_4 : ([.faultFrame 0 { code := 65536 } [],
    .faultFrame 0 { site := 468 } [],
    .faultFrame 0 { region := 16 } [],
    .csrRd 0 0 2,
    .csrRd 0 0 16777216,
    .distBeacon 0 0 256 0,
    .mgmtPortDown 2,
    .ident 4 0,
    .ident 0 4294967296,
    .reset 0 0 8 0 0 0 false,
    .reset 0 0 0 0 512 0 false,
    .subscribe 0 0 8 0 0,
    .subscribe 0 0 0 65536 0,
    .attest 0 0 [] false,
    .pcieLinkUp 16 0,
    .pcieLinkUp 0 32] : List Instr).all (fun c => !c.wellFormed) = true := by decide

theorem test_well_formed_1 : ([.fieldBistStart 0 0 0 0,
    .clkPeriodWrite 0 0 false,
    .marginStretch 0 0 0 0 0,
    .tickSend 0,
    .meshWordArrive 0 0,
    .lineIssue 0 0,
    .slotNop 0 0,
    .pageLoadComplete 0 0,
    .ximm 0 0 0,
    .sadd 0 0 0 0,
    .swatch 0 0 0 0 false 0,
    .saddArrive 0 0 0 0,
    .cmpAdd tid 0 0 0,
    .wload 0 0 0 none,
    .slot12Done 0 0,
    .putArrive 0 0 0 0 0 [],
    .mdReadRequest key 0 0 [],
    .readDataLand key [] [],
    .foxSummarySweep 0 0,
    .setoffCopyAck 0 0,
    .setmarkNotice 0 0 0,
    .setoffReceive 0 0,
    .packetHop 0 64 0,
    .reinAlarm 0 0 0,
    .epochFlipMsg 0 0,
    .traceFlit 0 0 0 0,
    .bcast 0 0 [],
    .bcastEnd 0 0,
    .azIdle azf,
    .azData azf 0,
    .azTrunc azf,
    .azRetrain 0 0 0,
    .tieMaskWrite 0 0,
    .plFrameRoute 0 [],
    .plData plf,
    .plKeepalive 0 0,
    .ptpMessage (.sync 0 0 0 0 0),
    .ptFlipMsg 400 0,
    .lnkPtWrite 400 0 0,
    .feedFrame 0 [],
    .ethFrame 0 0 [] false,
    .laneMarginSample 400 0 0 0] : List Instr).all Instr.wellFormed = true := by decide

theorem test_well_formed_2 : ([.impositionRequest 0 0 false,
    .reprintClaim 0 0 0 0,
    .regionAbort 0 0,
    .phaseLoss 0 0 0,
    .groupSenseLow 0 0,
    .resetWarm 0,
    .bar0Access false 0 4 0,
    .ringPoll 0 0 [] false,
    .copyIn 0 0 [],
    .tackHbMiss 0 0,
    .faultFrame 0 {} [],
    .csrRd 0 0 0,
    .distBeacon 0 0 0 0,
    .mgmtPortDown 0,
    .ident 0 0,
    .reset 0 0 0 0 0 0 false,
    .subscribe 0 0 0 0 0,
    .attest 0 0 (List.replicate 32 0) false,
    .pcieLinkUp 0 0] : List Instr).all Instr.wellFormed = true := by decide

/-! ### Witnesses: steps, memory, registers, clocks -/

theorem witness_StepRunsFrontCommand : ∃ (s : State) (c : Instr) (rest : List Instr), s.pending = c :: rest :=
  ⟨{ State.reset with pending := [.ptpHoldover] }, .ptpHoldover, [], rfl⟩

theorem witness_EmptyQueueRunsReferenceCycle :
    let a := st fun p => p.modBoot fun b => { b with phase := .ready }
    (a.pending = [] ∧ a.p.refRuns = true ∧ 0 ≤ 8 * 2 ^ 32 + signed 32 (a.p.field a.p.primary Csr.CLK_RATE))
    ∧ State.reset.pending = [] ∧ State.reset.p.refRuns = false := by decide

theorem witness_StepKeepsInvariant : State.reset.Inv ∧ ∃ t, step State.reset = .next t :=
  ⟨⟨by unfold State.memWf; decide, rfl⟩, _, rfl⟩

theorem witness_PanelTimeNeverDecreases : ∃ t, step State.reset = .next t := ⟨_, rfl⟩

theorem witness_CommandsLeaveMemoryAndTime : (∃ t, exec .timeBeaconSend State.reset = .next t)
    ∧ mayStore .timeBeaconSend = false ∧ maySetTime .timeBeaconSend = false := ⟨⟨_, rfl⟩, by decide⟩

theorem witness_MemoryWriteReadsBack : ∃ (a b c d : Nat) (data : List Byte), b < a ∧ a + data.length ≤ c ∧ a ≤ d ∧ d < a + data.length
    ∧ b / 64 < a / 64 ∧ (a + data.length - 1) / 64 < c / 64 :=
  ⟨64, 63, 128, 127, List.replicate 64 0, by decide⟩

theorem witness_RaisedFaultIsRecorded : (faultReg 0x030C = some Csr.CLK_FAULT ∧ 0x030C < 65536 ∧ severityOf 0x030C ≠ .panelHalt)
    ∧ faultReg 0x0312 = some Csr.CLK_FAULT ∧ severityOf 0x0312 = .panelHalt := by decide

theorem witness_RegisterBitTypes :
    let is (site off : Nat) (tys : List FieldType) (i : Nat) : Bool :=
      (rowOf site off).any fun r => bitOf (typeMask tys r.2 r.1.fields) i
    (is 0 0x50000 [.w1s] 0 = true ∧ is 0 0x50000 [.rw, .wo] 0 = false ∧ is 0 0x50000 [.w1c] 0 = false)
    ∧ (is 0 0x50000 [.rw, .wo] 7 = true ∧ is 0 0x50000 [.w1c] 7 = false ∧ is 0 0x50000 [.w1s] 7 = false)
    ∧ (is 0 0xb8004 [.w1c] 3 = true ∧ is 0 0xb8004 [.rw, .wo] 3 = false ∧ is 0 0xb8004 [.w1s] 3 = false)
    ∧ (is 0 0xb8004 [.rw, .wo] 0 = false ∧ is 0 0xb8004 [.w1c] 0 = false ∧ is 0 0xb8004 [.w1s] 0 = false)
    ∧ is sitePD 0x116 [.wo] 7 = true ∧ is sitePD 0x117 [.wo] 0 = false
    ∧ is 0 0xb [.rc] 7 = true ∧ is 0 0x50000 [.rc] 0 = false := by decide

theorem witness_ClockPeriodsAndSlips :
    (64 ≤ 64 ∧ 128 ≤ 128 ∧ ∀ r, (st id).seen.regionOf 7 = some r → (st id).seen.lockedUp r = false)
    ∧ (let s := st fun p => inR 7 3 (p.setField sitePD (Csr.FRM_R_STATE_STATE 3) 1)
       s.seen.regionOf 7 = some 3 ∧ s.seen.lockedUp 3 = true)
    ∧ 63 < 64 ∧ 128 < 129 := by
  refine ⟨⟨by decide, by decide, ?_⟩, by decide⟩
  intro r h; exact absurd h (by simp [show (st id).seen.regionOf 7 = none by decide])

theorem witness_ClockPeriodsAndSlips_margins :
    let q := (st fun p => p.setFlag 7 Csr.CLK_CTRL_FIXED false).seen.noteMargin 7 0 15
    let again := (st fun p => (p.setFlag 7 Csr.CLK_CTRL_FIXED false).modClock 7 fun c => { c with lastSlip := some (9, [(0, 3)]) }).seen.noteMargin 7 0 15
    let alone := (st fun p => p.setFlag 7 Csr.CLK_CTRL_COUPLE_OFF true).seen
    adaptiveClock 7 4 = true ∧ adaptiveClock 7 5 = false ∧ adaptiveClock 463 1 = false
    ∧ (15 < q.field 7 Csr.CLK_MARGIN_CFG_TRIGGER ∧ q.isSet 7 Csr.CLK_CTRL_FIXED = false ∧ (q.clock 7).lastSlip = none ∧ q.forcedStretch 7 = 0)
    ∧ (again.clock 7).lastSlip = some (9, [(0, 3)])
    ∧ (1 ∉ alone.coupled 7 0 ∧ q.field 7 Csr.CLK_MARGIN_CFG_TRIGGER ≤ 16)
    ∧ (State.reset.seen.noteMargin 7 0 0).isSet 7 Csr.CLK_CTRL_FIXED = true := by decide

theorem witness_DomainSkewRaisesFault : (∃ a ∈ [5, 8, 6], ∃ b ∈ [5, 8, 6], a + 2 < b)
    ∧ ∀ a ∈ [5, 7, 6], ∀ b ∈ [5, 7, 6], b ≤ a + 2 := by decide

theorem witness_ReferenceAndBeacons :
    (State.reset.p.boot.refAD = true ∧ State.reset.p.boot.refPD = true ∧ State.reset.p.boot.refFrom = sitePD)
    ∧ (let s := st fun p => p.modBoot fun b => { b with refFrom := siteAD }
       s.p.boot.refPD = true ∧ s.p.boot.refFrom = siteAD)
    ∧ (st fun p => p.modBoot fun b => { b with refAD := false }).p.boot.refAD = false
    ∧ (st fun p => p.modBoot fun b => { b with refPD := false }).p.boot.refPD = false
    ∧ (let s := st fun p => p.modClock 7 fun c => { c with reload := false }
       7 ≠ s.p.boot.primary ∧ (s.seen.clock 7).reload = false
       ∧ (((1 : Nat) : Int) + s.seen.field 7 Csr.CLK_TREE_DELAY - s.seen.dieTime 7).natAbs = 1
       ∧ (((2 : Nat) : Int) + s.seen.field 7 Csr.CLK_TREE_DELAY - s.seen.dieTime 7).natAbs = 2
       ∧ (((16 : Nat) : Int) + s.seen.field 7 Csr.CLK_TREE_DELAY - s.seen.dieTime 7).natAbs = 16
       ∧ (((17 : Nat) : Int) + s.seen.field 7 Csr.CLK_TREE_DELAY - s.seen.dieTime 7).natAbs = 17)
    ∧ (State.reset.seen.clock 7).reload = true := by decide

theorem witness_TimeDisciplineCommands :
    let td (f : Panel → Panel) : State := st fun p => f (alive siteTD (p.setFlag siteTD Csr.TCK_PTP_ENABLE true))
    let s := td id
    (s.seen.ptpValid 0 0 0 = true ∧ s.seen.ptpValid 0 0 (-4) = true ∧ s.seen.ptpValid 0 0 (-5) = false ∧ s.seen.ptpValid 1 0 0 = false
      ∧ s.seen.isSet siteTD Csr.CLK_TIME_CTRL_TIN_PPS = false)
    ∧ (let s := td fun p => (p.setFlag siteTD Csr.CLK_TIME_CTRL_TIN_PPS true).modServo fun v => { v with ppsEdge := some 0 }
       s.seen.ptpValid 0 0 0 = true ∧ s.seen.isSet siteTD Csr.CLK_TIME_CTRL_TIN_PPS = true
       ∧ s.seen.isSet siteTD Csr.CLK_TIME_CTRL_TIN_LOCK = false ∧ s.p.servo.ppsEdge.isSome = true)
    ∧ (s.seen.tackDie = true ∧ State.reset.seen.tackDie = false)
    ∧ (let s := td fun p => p.setFlag siteTD Csr.CLK_TIME_CTRL_TIN_LOCK true
       s.seen.isSet siteTD Csr.CLK_TIME_CTRL_TIN_LOCK = true ∧ s.seen.running (s.seen.field siteTD Csr.CLK_TIME_CTRL_LOCK_REGION) = false)
    ∧ (let s := td fun p => (runR 0 (p.setFlag siteTD Csr.CLK_TIME_CTRL_TIN_LOCK true)).modServo fun v => { v with lockEdge := some 0 }
       let s : State := { s with p := { s.p with time := { s.p.time with now := 5 } } }
       s.seen.running 0 = true ∧ s.p.servo.lockEdge.isSome = true ∧ inLockWindow (s.seen.effPeriod 0) (s.seen.now - 0) = false)
    ∧ (let s := td fun p => runR 0 (p.setFlag siteTD Csr.CLK_TIME_CTRL_TIN_LOCK true)
       let s : State := { s with p := { s.p with time := { s.p.time with now := 125000 } } }
       s.seen.running 0 = true ∧ s.p.servo.lockEdge = none ∧ (s.p.region 0).tickSent = false ∧ (s.p.region 0).slurOpen = false
       ∧ (s.p.region 0).begun + s.seen.effPeriod 0 + (s.p.region 0).extension ≤ s.seen.now + s.seen.lockOffset + s.seen.effPeriod 0 / 1000)
    ∧ (st fun p => p.setField siteTD Csr.CLK_TIME_CTRL_TOUT_MODE 1).seen.field siteTD Csr.CLK_TIME_CTRL_TOUT_MODE = 1
    ∧ State.reset.seen.field siteTD Csr.CLK_TIME_CTRL_TOUT_MODE ≠ 1 := by decide

theorem witness_SyncCounterCommands :
    (State.reset.seen.frozen 7 = false ∧ (st fun p => p.modSeq 7 fun q => { q with stalled := some [] }).seen.frozen 7 = true)
    ∧ (homeOf 7 0x1FF = 7 ∧ State.reset.seen.counterRegion 7 0 = none ∧ homeOf 7 8 ≠ 7)
    ∧ (let s := st fun p => { p with syncRegion := [(7 * 256, 1)] }
       (s.seen.counterRegion 7 0).isSome ∧ s.seen.watchesOf 7 = [])
    ∧ (let s := st fun p => { inR 7 0 (inR 8 0 p) with syncRegion := [(7 * 256, 1)] }
       (s.seen.arrive (.sadd 8 7 0 1)).homeOk 7 0 8 = true ∧ (s.seen.arrive (.sadd 8 7 1 1)).homeOk 7 1 8 = false
       ∧ (let q := s.seen.arrive (.watch 8 7 0 0 3)
          q.homeOk 7 0 8 = true ∧ reached (q.field 7 (Csr.STK_SYNC_CTR 0)) 0 = true
          ∧ reached (q.field 7 (Csr.STK_SYNC_CTR 0)) 1 = false ∧ (q.watchesOf 7).length < 64)
       ∧ (s.seen.arrive (.watch 9 7 0 0 3)).homeOk 7 0 9 = false)
    ∧ (let s := st fun p => { inR 7 0 (inR 8 0 p) with
          syncRegion := [(7 * 256, 1)], watches := [(7, List.replicate 64 ⟨0, 5, 9, 0⟩)] }
       64 ≤ ((s.seen.arrive (.watch 8 7 0 0 3)).watchesOf 7).length)
    ∧ (bitOf ((st fun p => p.setField 8 Csr.STK_SYNC_WSTATE_PENDING 0x8000).seen.field 8 Csr.STK_SYNC_WSTATE_PENDING) 15 = true
       ∧ bitOf ((st fun p => p.setField 8 Csr.STK_SYNC_WSTATE_READY 0x8000).seen.field 8 Csr.STK_SYNC_WSTATE_READY) 15 = true
       ∧ bitOf (State.reset.seen.field 8 Csr.STK_SYNC_WSTATE_PENDING) 15 = false
       ∧ bitOf (State.reset.seen.field 8 Csr.STK_SYNC_WSTATE_READY) 15 = false)
    ∧ (let q := (st fun p => p.setField 8 Csr.STK_SYNC_WSTATE_PENDING 0x8000).seen.arrive (.reached 7 8 15)
       bitOf (q.field 8 Csr.STK_SYNC_WSTATE_PENDING) 15 = true) := by decide

theorem witness_CounterReachesTarget : 2 ^ 32 - 1 < 2 ^ 32 ∧ 2 ^ 31 - 1 < 2 ^ 31 ∧ 0 < 1 ∧ 2 ^ 31 ≤ 2 ^ 31 := by decide

/-! ### Witnesses: compositor threads -/

/-- The instruction word of a compositor instruction: its opcode and its fields. -/
def cmpW (c : Instr) : Word :=
  match cmpCode c with
  | some (op, fs) => BitVec.ofNat 32 (op * 2 ^ 26 + (fs.map fun f => f.2.2 * 2 ^ f.1).sum)
  | none => 0

/-- Thread 0 of die 0 runs and has an instruction at its PC, 0. -/
def armed (c : Instr) (f : Thread → Thread := id) : State := st fun p => ready tid ((p.modThread tid f).setWord 0 0x200000 (cmpW c))

/-- Whether a thread may issue an instruction. -/
def mayIssue (s : State) (c : Instr) : Bool :=
  s.seen.threadRuns tid && !(s.seen.thread tid).stopped && !s.seen.holding 0 && (s.seen.thread tid).pc ≤ 16383
    && match cmpCode c with
      | some x => cmpIs (s.seen.cmpWord tid) x.1 x.2 && cmpLegal (s.seen.cmpWord tid)
      | none => false

theorem canIssue_of_mayIssue (s : State) (c : Instr) (h : mayIssue s c = true) : s.seen.canIssue tid c := by
  unfold mayIssue at h
  simp only [Bool.and_eq_true, decide_eq_true_eq, Bool.not_eq_true'] at h
  obtain ⟨⟨⟨⟨h1, h2⟩, h3⟩, h4⟩, h5⟩ := h
  split at h5
  · rename_i x hx
    exact ⟨⟨h1, h2, h3, h4⟩, x.1, x.2, hx, (Bool.and_eq_true .. ▸ h5).1, (Bool.and_eq_true .. ▸ h5).2⟩
  · cases h5

theorem witness_CompositorScalarResults : ∀ c ∈ [Instr.cmpAdd tid 1 2 3, .cmpSub tid 31 31 31, .cmpAnd tid 1 2 3, .cmpOr tid 1 2 3,
    .cmpXor tid 1 2 3, .cmpSll tid 1 2 3, .cmpSrl tid 1 2 3, .cmpSra tid 1 2 3, .cmpSlt tid 1 2 3, .cmpSltu tid 1 2 3,
    .cmpMul tid 1 2 3, .cmpMulhu tid 1 2 3, .cmpMin tid 1 2 3, .cmpMax tid 1 2 3, .cmpAddi tid 1 2 0xFFFF, .cmpAndi tid 1 2 3,
    .cmpOri tid 1 2 3, .cmpXori tid 1 2 3, .cmpSlli tid 1 2 31, .cmpSrli tid 1 2 0, .cmpSrai tid 1 2 3, .cmpLui tid 1 0xFFFF],
    (armed c).seen.canIssue tid c := fun c hc => canIssue_of_mayIssue _ c ((by decide : ∀ c ∈ _, mayIssue (armed c) c = true) c hc)

theorem witness_CompositorScalarResults_fox :
    let f := armed (.cmpMul tid 1 2 3) fun h => h.setReg 2 5 true
    let s := armed (.cmpMul tid 1 2 3)
    ((((f.seen.thread tid).reg 2).2 || ((f.seen.thread tid).reg 3).2) = true ∧ mayIssue f (.cmpMul tid 1 2 3) = true)
    ∧ (((s.seen.thread tid).reg 2).2 || ((s.seen.thread tid).reg 3).2) = false := by decide

theorem witness_RegisterX0ReadsZero : ∃ r q : RegNo, r ≠ 0 ∧ q ≠ r := ⟨31, 0, by decide⟩

theorem witness_CompositorControlFlow : ∀ c ∈ [Instr.cmpBeq tid 1 2 3, .cmpBne tid 1 2 0xFFFF, .cmpBlt tid 1 2 3, .cmpBge tid 1 2 3,
    .cmpBltu tid 1 2 3, .cmpJal tid 1 16383, .cmpJalr tid 1 2 3, .cmpSig tid 1 255 255, .cmpSrd tid 1 255, .cmpRds tid 1 5,
    .cmpEnd tid 1 2 3],
    (armed c).seen.canIssue tid c := fun c hc => canIssue_of_mayIssue _ c ((by decide : ∀ c ∈ _, mayIssue (armed c) c = true) c hc)

theorem witness_CompositorControlFlow_edges :
    let s := st fun p => p.modThread tid fun h => ({ h with pc := 16000 }.setReg 1 5 false).setReg 2 6 false
    let h := s.seen.thread tid
    let f := armed (.cmpJalr tid 3 1 0) fun h => h.setReg 1 5 true
    (((f.seen.thread tid).reg 1).2 = true ∧ mayIssue f (.cmpJalr tid 3 1 0) = true)
    ∧ (h.reg 1).2 = false ∧ ((h.reg 1).2 || (h.reg 2).2) = false
    ∧ (¬ (h.reg 1).1 = (h.reg 2).1 ∧ (h.reg 1).1.toInt < (h.reg 2).1.toInt ∧ (h.reg 1).1.toNat < (h.reg 2).1.toNat)
    ∧ (¬ (h.reg 2).1.toInt ≤ (h.reg 1).1.toInt ∧ (h.reg 1).1 = (h.reg 1).1)
    ∧ (h.pc : Int) + (383 : BitVec 16).toInt = 16383 ∧ (h.pc : Int) + (384 : BitVec 16).toInt = 16384
    ∧ (h.pc : Int) + (-16000 : BitVec 16).toInt = 0 ∧ (h.pc : Int) + (-16001 : BitVec 16).toInt = -1 := by decide

theorem witness_CompositorMemoryAccess : ∀ c ∈ [Instr.cmpLw tid 2 1 0, .cmpLbu tid 2 1 0xFFFF, .cmpSw tid 2 1 0, .cmpSb tid 2 1 0,
    .cmpVld tid 2 1 255, .cmpVst tid 2 1 0],
    (armed c).seen.canIssue tid c := fun c hc => canIssue_of_mayIssue _ c ((by decide : ∀ c ∈ _, mayIssue (armed c) c = true) c hc)

theorem witness_CompositorMemoryAccess_edges :
    let a (v : Word) (fox : Bool) : State := armed (.cmpVst tid 2 1 0) fun h => h.setReg 1 v fox
    let ok (s : State) (off n : Nat) : Prop := mayIssue s (.cmpVst tid 2 1 0) = true
      ∧ ((s.seen.thread tid).reg 1).2 = false ∧ ((s.seen.thread tid).reg 1).1.toNat = off ∧ off < sliceBytesTotal ∧ off % n = 0
      ∧ s.mem.parityBad (sliceAddr 0 0 off) = false
    ok (a 0 false) 0 64 ∧ ok (a 0x4FFFFC0 false) 0x4FFFFC0 64 ∧ ok (a 0x4FFFFFC false) 0x4FFFFFC 4 ∧ ok (a 0x4FFFFFF false) 0x4FFFFFF 1
    ∧ (mayIssue (a 0 true) (.cmpVst tid 2 1 0) = true ∧ (((a 0 true).seen.thread tid).reg 1).2 = true)
    ∧ sliceBytesTotal ≤ (((a 0x5000000 false).seen.thread tid).reg 1).1.toNat
    ∧ (((a 2 false).seen.thread tid).reg 1).1.toNat % 4 ≠ 0 := by decide

theorem witness_VectorResults : ∀ c ∈ [Instr.cmpVadd tid 1 2 3 4, .cmpVsub tid 1 2 3 0, .cmpVmul tid 1 2 3 1, .cmpVfma tid 15 14 13 2,
    .cmpVmax tid 1 2 3 4, .cmpVcmp tid 1 2 3 4 5, .cmpVsel tid 1 2 3 4, .cmpVcvt tid 1 2 6 6, .cmpVred tid 1 2 4, .cmpVperm tid 1 2 3 0,
    .cmpVspl tid 1 31 6, .cmpVext tid 31 2 0 63],
    (armed c).seen.canIssue tid c := fun c hc => canIssue_of_mayIssue _ c ((by decide : ∀ c ∈ _, mayIssue (armed c) c = true) c hc)

theorem witness_VectorResults_fox :
    let c : Instr := .cmpVcvt tid 1 15 4 0
    let f := armed c fun h => h.setVreg 15 7 true
    ((f.seen.thread tid).vreg 15).2 = true ∧ mayIssue f c = true ∧ (((armed c).seen.thread tid).vreg 15).2 = false
    ∧ (((armed (.cmpVspl tid 1 31 6) fun h => h.setReg 31 5 true).seen.thread tid).reg 31).2 = true := by decide

theorem witness_CompositorThreadThatCannotIssue :
    let dead := armed (.cmpAdd tid 1 2 3) fun h => { h with stopped := true }
    let far := armed (.cmpAdd tid 1 2 3) fun h => { h with pc := 16384 }
    let s := armed (.cmpSub tid 1 2 3)
    let bad := st fun p => ready tid (p.setWord 0 0x200000 (cmpW (.cmpAdd tid 1 2 3) + 1))
    compositorThread (.cmpAdd tid 1 2 3) = some tid ∧ State.reset.seen.threadRuns tid = false
    ∧ (dead.seen.thread tid).stopped = true
    ∧ (far.seen.threadRuns tid = true ∧ (far.seen.thread tid).stopped = false ∧ far.seen.holding tid.site = false
      ∧ 16383 < (far.seen.thread tid).pc)
    ∧ (s.seen.threadReady tid ∧ cmpIs (s.seen.cmpWord tid) 1 (fmtR 1 2 3) = false)
    ∧ (bad.seen.threadReady tid ∧ cmpIs (bad.seen.cmpWord tid) 1 (fmtR 1 2 3) = true ∧ cmpLegal (bad.seen.cmpWord tid) = false) := by
  unfold Panel.threadReady; decide

/-! ### Witnesses: engines, scratchpad, galleys, memory dies -/

/-- An engine operation of a kind. -/
def op (k : EngineKind) : EngineOp := { kind := k, id := 5, portEnd := 0, cycle := 0, rows := [{}] }

/-- Engine `e` of cluster 3 of die 399 has one operation in flight. -/
def withOp (e : Nat) (k : EngineKind) : State := st fun p => p.modEngine 399 3 e fun g => { g with ops := [op k] }

theorem witness_EngineCompletions :
    ((withOp 0 .load).seen.engine 399 3 0).oldest .load = some (op .load)
    ∧ (op .load).bank < ((withOp 0 .load).seen.engine 399 3 0).banks.length
    ∧ ((withOp 1 .load).seen.engine 399 3 1).oldest .load = some (op .load)
    ∧ (((withOp 1 .load).seen.engine 399 3 1).bank (op .load).bank).failed = none
    ∧ ((withOp 0 .stream).seen.engine 399 3 0).oldest .stream = some (op .stream)
    ∧ ((withOp 1 .stream).seen.engine 399 3 1).oldest .stream = some (op .stream)
    ∧ ((withOp 0 .init).seen.engine 399 3 0).oldest .init = some (op .init)
    ∧ ((withOp 1 .init).seen.engine 399 3 1).oldest .init = some (op .init)
    ∧ (let o : Slot12Op := { unit := 2, id := 1, portEnd := 0, ports := [3], writes := [(3, 1310719, [row0])] }
       let s := st fun p => { p with slot12 := [(399, [o])] }
       (s.seen.slot12Ops 399).find? (fun o => o.unit = 2) = some o)
    ∧ (let f : MetaFail := ⟨7, 0, 0, false⟩
       let s := st fun p => p.modEngine 399 3 1 fun g => { g with ops := [op .load], banks := [{ failed := some f }, {}] }
       (s.seen.engine 399 3 1).oldest .load = some (op .load) ∧ ((s.seen.engine 399 3 1).bank (op .load).bank).failed = some f
       ∧ f.rule < 8 ∧ (op .load).bank < 2)
    ∧ ((withOp 0 .load).seen.frozen 399 = false ∧ (st fun p => p.modSeq 399 fun q => { q with stalled := some [] }).seen.frozen 399 = true) := by
  decide

theorem witness_DrainWritesRows : (withOp 0 .drain).seen.frozen 399 = false
    ∧ ((withOp 0 .drain).seen.engine 399 3 0).oldest .drain = some (op .drain)
    ∧ ((withOp 1 .drain).seen.engine 399 3 1).oldest .drain = some (op .drain) := by decide

/-- Die 0 in running region 0 with a window of cluster 0 open to any sender. -/
def windowed : State := st fun p =>
  let p := runR 0 (inR 0 0 p)
  let p := p.setField 0 (Csr.SPR_WIN_LENGTH 0 31) 1
  ((p.setFlag 0 (Csr.SPR_WSTATE_OPEN 0 31) true).setFlag 0 (Csr.SPR_WIN_SRC_ANY 0 31) true).setFlag 0 (Csr.SPR_WIN_CL_ANY 0 31) true

theorem witness_ScratchpadCompletions :
    (let o : MoverOp := { id := 1, portEnd := 0, writes := [(0, [row0])] }
     let s := st fun p => { p with movers := [(0, { ops := [o] })] }
     s.seen.frozen 0 = false ∧ (s.seen.mover 0 0).ops = o :: [] ∧ o.code = none)
    ∧ (let q := (st fun p => runR 0 (inR 0 0 p)).seen.arrive (.put 0 0 0 0 0 [row0])
       (∀ i, i < 32 → q.admits 0 0 i 0 0 0 1 = false) ∧ q.dieRunning 0 = true)
    ∧ (let q := windowed.seen.arrive (.put 0 0 0 0 0 [row0])
       (q.regionOf 0).isSome ∧ q.regionOf 0 = q.regionOf 0 ∧ 31 < 32 ∧ q.admits 0 0 31 0 0 0 1 = true)
    ∧ (State.reset.seen.mover 0 0).outbound = []
    ∧ (let q : PutReq := { id := 1, src := 0, dst := 0, len := 1, site := 0, cluster := 0 }
       let s := st fun p => { p with movers := [(0, { outbound := [q] })] }
       (s.seen.mover 0 0).outbound = q :: [] ∧ q.trace = 0 ∧ s.seen.reined 0 3 = false
       ∧ (st fun p => p.setField 0 Csr.FAB_STATUS_REINED 8).seen.reined 0 3 = true)
    ∧ (let s := st fun p => (p.setFlag 0 Csr.SPR_CTRL_SCRUB true).setField 0 (Csr.PWR_DOM_STATE 0) domOn
       s.seen.scrubs 0 0 = true ∧ (s.mem.apply (s.seen.upsetRow s.mem 0 0 0 1).writes).parityBad (sliceAddr 0 0 0) = true
       ∧ (s.mem.apply (s.seen.upsetRow s.mem 0 0 0 256).writes).parityBad (sliceAddr 0 0 0) = false ∧ State.reset.seen.scrubs 0 0 = false)
    ∧ (st fun p => p.modBoot fun b => { b with resetting := some (6, 0, 3) }).seen.boot.resetting = some (6, 0, 3)
    ∧ ((st fun p => p.modDomain 0 3 fun d => { d with filling := true }).seen.domain 0 3).filling = true
    ∧ (State.reset.seen.domain 0 3).filling = false := by decide

theorem witness_ScratchpadCompletions_sliceUp :
    (windowed.seen.setField 0 (Csr.PWR_DOM_STATE 0) domOn).sliceUp 0 0 = true := by decide

/-- A read (or write) request of galley 3 of the line galley's neighbour, sent or not. -/
def gal (w sent : Bool) : GalReq :=
  { key := ⟨0, 3, 3, 9⟩, write := w, host := false, trace := 0, addr := 0, row := 0, rows := 1, sent := sent }

/-- A state whose galley 3 of cluster 3 of die 0 holds one request. -/
def galSt (w sent : Bool) (net : List NetMsg) : State := st fun p => { p with galleys := [(3, [gal w sent])], net := net }

theorem witness_GalleyRequests :
    (let s := galSt false false []
     ((s.seen.galley 0 3).find? fun q => !q.sent) = some (gal false false) ∧ s.seen.maySend (gal false false) = true
     ∧ (gal false false).write = false ∧ (gal false false).key.site = 0 ∧ (gal false false).key.unit = 3)
    ∧ (let s := st fun p => { p.setField 0 Csr.GAL_QUOTA 0 with galleys := [(3, [gal false false])] }
       ((s.seen.galley 0 3).find? fun q => !q.sent) = some (gal false false) ∧ s.seen.maySend (gal false false) = false)
    ∧ (let k : GalKey := ⟨0, 3, 3, 9⟩
       let s := galSt false true [.grdRsp k [row0]]
       k.galley < 4 ∧ s.seen.galReq k = some (gal false true) ∧ (gal false true).host = false
       ∧ (gal false true).dropped = false ∧ k.unit < 4 ∧ (gal false true).key = k ∧ s.seen.takeData k = some [row0])
    ∧ (let k : GalKey := ⟨0, 3, 3, 9⟩
       let s := galSt true true [.gwrAck k]
       s.seen.galReq k = some (gal true true) ∧ (gal true true).sent = true ∧ (gal true true).write = true
       ∧ s.seen.net.contains (.gwrAck k) = true ∧ (galSt false true [.gtrDone k]).seen.net.contains (.gtrDone k) = true
       ∧ (galSt false false []).seen.galReq k = some (gal false false) ∧ (gal false false).sent = false
       ∧ (gal true true).dropped = false ∧ (gal false true).sent = true ∧ (gal false true).write = false)
    ∧ (let k : GalKey := ⟨0, 3, 3, 9⟩
       let q : GalReq := { gal true true with host := true }
       let s := st fun p => { p with galleys := [(3, [q])], net := [.gwrReq k 0 [row0] []] }
       s.seen.galReq k = some q ∧ q.host = true ∧ q.sent = true ∧ s.seen.takeWrite k = some (0, [row0], [])
       ∧ { q with dropped := true }.dropped = true) := by decide

/-- A message waits on the fabric; the memory die of address 2^40 has power or not. -/
def mdSt (on : Bool) (m : NetMsg) : State := st fun p => { (if on then alive (memSite (2 ^ 40)) p else p) with net := [m] }

theorem witness_MemoryDies_reads :
    let k : GalKey := ⟨0, 0, 0, 0⟩
    isLpddr (2 ^ 40) = true ∧ (mdSt true (.grdReq k (2 ^ 40) 2 0 0)).seen.memReady (memSite (2 ^ 40)) = true
    ∧ (mdSt true (.grdReq k (2 ^ 40) 2 0 0)).seen.takeRead k = some (2 ^ 40, 2, 0, 0) ∧ 1 < 2 ∧ 2 ≤ 2
    ∧ (mdSt true (.grdReq k (2 ^ 40) 2 255 0)).seen.takeRead k = some (2 ^ 40, 2, 255, 0)
    ∧ (mdSt false (.grdReq k (2 ^ 40) 1 0 0)).seen.memReady (memSite (2 ^ 40)) = false
    ∧ (mdSt false (.grdReq k (2 ^ 40) 1 0 0)).seen.takeRead k = some (2 ^ 40, 1, 0, 0) := by decide

theorem witness_MemoryDies_writes :
    let k : GalKey := ⟨0, 0, 0, 0⟩
    (mdSt true (.gwrReq k (2 ^ 40) [row0] [0])).seen.memReady (memSite (2 ^ 40)) = true
    ∧ (mdSt true (.gwrReq k (2 ^ 40) [row0] [0])).seen.takeWrite k = some (2 ^ 40, [row0], [0])
    ∧ (mdSt true (.gwrReq k (2 ^ 40) [row0] [0])).seen.shardAt (2 ^ 40) = none
    ∧ rowPasses (2 ^ 40) row0.data (noiseOf [] 0) true = false
    ∧ (mdSt false (.gwrReq k (2 ^ 40) [row0] [])).seen.takeWrite k = some (2 ^ 40, [row0], []) := by decide

theorem witness_MemoryDies_upkeep :
    nextSegment State.reset.mem 255 segmentCount (SMap.get (fun _ => 0) (State.reset.seen.memDie 463).sweep 7) = some 0
    ∧ segmentClean State.reset.mem 255 0 = false
    ∧ (let s := st fun p => p.modMemDie 463 fun d => { d with sweep := [(7, 131071)] }
       nextSegment s.mem 255 segmentCount (SMap.get (fun _ => 0) (s.seen.memDie 463).sweep 7) = some 131071
       ∧ segmentClean s.mem 255 131071 = true)
    ∧ 7 < 8 := by decide

/-- A list of keys that all read false. -/
theorem get_all_false (c : Nat) (l : List Nat) (k : Nat) (h : k ∈ l) :
    SMap.get memSum0 (l.map fun g => (c + g, false)) (c + k) = false := by
  induction l with
  | nil => cases h
  | cons x l ih =>
    simp only [List.map_cons, SMap.get]
    split
    · rfl
    · rename_i hx
      exact ih ((List.mem_cons.mp h).resolve_left fun e => hx (by rw [e]))

theorem witness_MemoryDies_swept : ∃ m : Mem, nextSegment m 255 segmentCount 0 = none := by
  refine ⟨{ summary := (List.range segmentCount).map fun g => (255 * segmentCount + g, false) }, ?_⟩
  have : ∀ n g, nextSegment { summary := (List.range segmentCount).map fun g => (255 * segmentCount + g, false) } 255 n g = none := by
    intro n
    induction n with
    | zero => intro g; rfl
    | succ n ih =>
      intro g
      have := get_all_false (255 * segmentCount) (List.range segmentCount) (g % segmentCount)
        (List.mem_range.mpr (Nat.mod_lt _ (by decide)))
      simp [nextSegment, this, ih]
  exact this _ _
/-! ### Witnesses: the mesh, packets, the owner's keys, Azrolane -/

/-- A word of the scheduled mesh with stroke stamp 0. -/
def mw : MeshWord := ⟨0, false, row0⟩

theorem witness_MeshWordLands :
    let s := st fun p => (alive 5 p).setWire 5 63 [mw]
    (State.reset.seen.wire 5 63 = [] ∧ State.reset.seen.routes 5 = false)
    ∧ 16 ≤ ((st fun p => { p with mesh := [(bundleKey 5 63, List.replicate 16 mw)] }).seen.meshBuf 5 63).length
    ∧ (s.seen.routes 5 = true ∧ s.seen.wire 5 63 = mw :: [] ∧ (s.seen.meshBuf 5 63).length < 16 ∧ s.seen.edgeCut 5 3 = false
       ∧ s.seen.edgeTied 5 3 = false ∧ (s.seen.setWire 5 63 []).awaited 5 63 = none)
    ∧ (st fun p => p.setField 5 Csr.AZL_STATUS_CUT 8).seen.edgeCut 5 3 = true
    ∧ (st fun p => p.setField 5 Csr.AZL_STATUS_TIED 8).seen.edgeTied 5 3 = true
    ∧ (let line : Line := [(8, 0x21 * 2 ^ 58 + 3 * 2 ^ 56 + 15 * 2 ^ 52 + 1 * 2 ^ 14)]
       let s := st fun p => ((alive 5 p).setWire 5 63 [mw]).modSeq 5 fun q => { q with stalled := some line }
       s.seen.meshBuf 5 63 = [] ∧ (s.seen.setWire 5 63 []).awaited 5 63 = some (1, false) ∧ mw.stamp ≠ 1)
    ∧ (let line : Line := [(8, 0x21 * 2 ^ 58 + 3 * 2 ^ 56 + 15 * 2 ^ 52 + 1 * 2 ^ 22)]
       let s := st fun p => ((alive 5 p).setWire 5 63 [mw]).modSeq 5 fun q => { q with stalled := some line }
       (s.seen.setWire 5 63 []).awaited 5 63 = some (0, true) ∧ mw.stamp = 0 ∧ mw.ka ≠ true) := by decide

/-- Flits wait at class 0 of input 0 of the router of die 5, whose logic is on. -/
def rtSt (l : List QueuedFlit) (o : Option OpenPacket) (f : Panel → Panel) : State :=
  st fun p => f ((alive 5 p).modRouter 5 fun r => (r.setQueue 0 0 l).setOpen 0 0 o)

/-- The head of an SADD packet from die 5 to die 6. -/
def h6 : PacketHead := { type := 1, dst := 6, src := 5 }

/-- The route of die 5 to die 6 leaves by edge 3, which carries packets on bundle 63; that is up. -/
def way (p : Panel) : Panel :=
  ((p.setField 5 (Csr.FAB_RT 6) 3).setField 5 (Csr.FAB_RIG 3) (2 * 2 ^ 30)).setField 5 (Csr.AZL_BUNDLE_STATE 63) azUp

theorem witness_PacketRouting :
    let q (h : PacketHead) : QueuedFlit := ⟨true, headFlit h⟩
    (State.reset.seen.routes 5 = false ∧ ownInput < 65 ∧ 5 < 6 ∧ 0 ≤ ownInput ∧ 0 ≤ 5)
    ∧ (let s := rtSt [] none id
       s.seen.routes 5 = true ∧ (s.seen.router 5).open_ 0 0 = none ∧ (s.seen.router 5).queue 0 0 = [])
    ∧ ((rtSt [q h6] none id).seen.router 5).open_ 0 0 = none ∧ ((rtSt [q h6] none id).seen.router 5).queue 0 0 = [q h6]
    ∧ parseHead (headFlit h6).data = h6 ∧ parseHead (headFlit { h6 with cls := 5 }).data = { h6 with cls := 5 }
    ∧ typeClass h6.type = some h6.cls ∧ typeClass 1 ≠ some 5 ∧ h6.hops + 1 < 64
    ∧ (let p := (rtSt [q h6] none fun p => p.setField 5 (Csr.FAB_RT 6) 15).seen
       p.headCode 5 h6 ≠ 4 ∧ faceCount 5 ≤ p.headCode 5 h6)
    ∧ (let p := (rtSt [q h6] none fun p => (way p).setField 5 Csr.AZL_STATUS_CUT 8).seen
       p.headCode 5 h6 < faceCount 5 ∧ p.headCode 5 h6 ≠ 4 ∧ p.edgeDown 5 (p.headCode 5 h6) = true)
    ∧ (let p := (rtSt [q h6] none way).seen
       p.headFault 5 h6 = none ∧ p.target 5 0 0 = some 63 ∧ p.serves 5 63 0 0 = true)
    ∧ (let p := (rtSt [q h6] none fun p => (way p).setField 5 (Csr.AZL_BUNDLE_STATE 63) azTraining).seen
       p.headFault 5 h6 = none ∧ p.target 5 0 0 = none)
    ∧ (let p := (rtSt [q h6] none fun p => (way p).modRouter 5 fun r =>
          (r.setQueue 1 0 [⟨false, (headFlit h6)⟩]).setOpen 1 0 (some ⟨63, h6, 1, 4⟩)).seen
       p.target 5 1 0 = some 63 ∧ p.chainHeld 5 63 0 = true ∧ p.target 5 0 0 = none) := by decide

theorem witness_PacketRouting_data :
    let b : QueuedFlit := ⟨false, (headFlit h6)⟩
    let o (out : Nat) : OpenPacket := ⟨out, h6, 1, 2⟩
    (let p := (rtSt [b] (some (o 63)) way).seen
     (p.router 5).open_ 0 0 = some (o 63) ∧ (p.router 5).queue 0 0 = [b] ∧ (o 63).left ≠ 0 ∧ p.outLost 5 (o 63) = false
       ∧ (o 63).out < outNowhere ∧ p.target 5 0 0 = some 63 ∧ p.serves 5 63 0 0 = true)
    ∧ (rtSt [b] (some (o 63)) fun p => (way p).setField 5 Csr.AZL_STATUS_CUT 8).seen.outLost 5 (o 63) = true
    ∧ outNowhere ≤ (o 65).out
    ∧ (rtSt [b] (some (o 63)) fun p => (way p).setField 5 (Csr.AZL_BUNDLE_STATE 63) azTraining).seen.target 5 0 0 = none
    ∧ (let p := (rtSt [b] (some (o 63)) fun p => (way p).modRouter 5 fun r =>
          (r.setQueue 1 1 [⟨false, (headFlit h6)⟩]).setOpen 1 1 (some ⟨63, h6, 1, 4⟩)).seen
       p.target 5 1 1 = some 63 ∧ p.serves 5 63 1 1 = false)
    ∧ (let o := OpenPacket.mk 63 h6 1 0
       ((rtSt [] (some o) way).seen.router 5).open_ 0 0 = some o ∧ o.left = 0) := by decide

theorem witness_ReinAlarmCounts :
    let s := st fun p => p.setField 5 Csr.FAB_CTRL_REIN_ALARM 100
    s.seen.tallyOf 5 (Csr.FAB_REIN_LAST 2) ≤ s.seen.field 5 Csr.FAB_CTRL_REIN_ALARM
    ∧ min (2 ^ 32 - 1) (s.seen.tallyOf 5 (Csr.FAB_REIN_LAST 2) + 100) ≤ s.seen.field 5 Csr.FAB_CTRL_REIN_ALARM
    ∧ s.seen.field 5 Csr.FAB_CTRL_REIN_ALARM < min (2 ^ 32 - 1) (s.seen.tallyOf 5 (Csr.FAB_REIN_LAST 2) + 101) := by decide

theorem witness_HopLimitDiscards :
    let h : PacketHead := { h6 with hops := 63 }
    let s := rtSt [⟨true, headFlit h⟩] none way
    s.seen.routes 5 = true ∧ (s.seen.router 5).open_ 0 0 = none ∧ (s.seen.router 5).queue 0 0 = [⟨true, headFlit h⟩]
    ∧ parseHead (headFlit h).data = h ∧ typeClass h.type = some h.cls ∧ 64 ≤ h.hops + 1
    ∧ (let s := rtSt [⟨true, headFlit { h6 with hops := 62 }⟩] none way
       s.seen.headFault 5 { h6 with hops := 62 } = none ∧ s.seen.target 5 0 0 = some 63 ∧ 63 ≠ outLocal
       ∧ s.seen.serves 5 63 0 0 = true) := by decide

theorem witness_RoutingEpochFlips :
    let busy := st fun p => p.setFlag sitePD Csr.FRM_STATUS_BUSY true
    let flips := st fun p => p.setFlag sitePD Csr.FAB_STATUS_FLIPPING true
    busy.seen.isSet busy.seen.primary Csr.FRM_STATUS_BUSY = true
    ∧ (flips.seen.isSet flips.seen.primary Csr.FRM_STATUS_BUSY = false ∧ flips.seen.isSet flips.seen.primary Csr.FAB_STATUS_FLIPPING = true)
    ∧ State.reset.seen.isSet State.reset.seen.primary Csr.FAB_STATUS_FLIPPING = false
    ∧ (State.reset.seen.routes 5 = false ∧ (st (alive 5)).seen.routes 5 = true ∧ (st (alive 5)).seen.treeReady 5 0 1 = true)
    ∧ (flips.seen.field 5 Csr.FAB_STATUS_EPOCH = flips.seen.field flips.seen.primary Csr.FAB_STATUS_EPOCH
      ∧ flips.seen.holdsNoOld 5 = true ∧ flips.seen.drainDies.all [5].contains = false)
    ∧ (State.reset.seen.field 5 Csr.FAB_STATUS_EPOCH ≠ 1)
    ∧ 468 ≤ 468 ∧ 467 < siteCount
    ∧ (st fun p => { p with fabric := { p.fabric with notIdle := [0] } }).seen.fabric.notIdle.contains 0 = true
    ∧ (let s := st fun p => p.setField 0 Csr.FAB_STATUS_EPOCH 1
       State.reset.seen.field 0 Csr.FAB_STATUS_EPOCH = 0 ∧ s.seen.field 0 Csr.FAB_STATUS_EPOCH = 1
       ∧ s.seen.fabric.notIdle.contains 0 = false
       ∧ bitsOf 0xA7 4 4 ≠ bitsOf (s.seen.field 0 (Csr.FAB_RT 467)) 4 4
       ∧ bitsOf (s.seen.field 0 (Csr.FAB_RT 467)) 4 4 = bitsOf (s.seen.field 0 (Csr.FAB_RT 467)) 4 4) := by decide

theorem witness_RoutingEpochFlips_last :
    let s := st fun p => { p with fabric := { p.fabric with drainedBy := allSites } }
    s.seen.drainDies.all ((s.seen.fabric.drainedBy.filter (· ≠ 5)) ++ [5]).contains = true ∧ s.seen.fabric.avoid = [] := by
  refine ⟨List.all_eq_true.mpr fun x hx => ?_, rfl⟩
  have hx : x ∈ allSites := (List.mem_filter.mp (List.mem_filter.mp hx).1).1
  by_cases h : x = 5 <;> simp [h, State.seen, st, hx]

theorem witness_TraceCommands :
    let h : PacketHead := { type := 0x11, cls := 2, trace := 255, len := 1 }
    let m := NetMsg.traceFlit 5 62 h 0 (headFlit h) none
    let named (out : Bool) (p : Panel) : Panel :=
      let p := (((alive 5 p).setFlag 5 (Csr.FAB_TRACE_VALID 255) true).setField 5 (Csr.FAB_TRACE_IN 255) 62).setField 5
        (Csr.FAB_TRACE_DELIVER 255) 0
      if out then (p.setFlag 5 (Csr.FAB_TRACE_OUT0_V 255) true).setField 5 (Csr.FAB_TRACE_OUT0 255) 3 else p
    let s (out : Bool) := st fun p => { named out p with net := [m] }
    State.reset.seen.dueFlit 5 62 255 = none
    ∧ ((s false).seen.dueFlit 5 62 255 = some ⟨h, 0, headFlit h, none⟩ ∧ (s false).seen.routes 5 = true
      ∧ (s false).seen.traceNames 5 62 255 = true ∧ (s false).seen.traceReady 5 255 = true ∧ (s false).seen.traceClusters 5 255 = [])
    ∧ (s true).seen.traceReady 5 255 = false
    ∧ (st fun p => { alive 5 p with net := [m] }).seen.traceNames 5 62 255 = false := by decide

theorem witness_BroadcastTree :
    let tree (p : Panel) : Panel := ((alive 5 p).setFlag 5 Csr.FAB_BTREE_VALID true).setFlag 5 Csr.FAB_BTREE_LOCAL true
    let s := st tree
    let child := st fun p => (tree p).setField 5 Csr.FAB_BTREE_CHILD 1
    let again := st fun p => { tree p with net := [.bcastAgain 5 0 [1], .bcastEndAgain 5 7] }
    State.reset.seen.routes 5 = false ∧ s.seen.routes 5 = true
    ∧ again.seen.net.contains (.bcastAgain 5 0 [1]) = true ∧ again.seen.net.contains (.bcastEndAgain 5 7) = true
    ∧ s.seen.net.contains (.bcastAgain 5 0 [1]) = false ∧ s.seen.net.contains (.bcastEndAgain 5 7) = false
    ∧ child.seen.treeReady 5 5 2 = false ∧ child.seen.treeReady 5 5 1 = false
    ∧ s.seen.treeReady 5 5 2 = true ∧ s.seen.treeReady 5 5 1 = true
    ∧ s.seen.bcastLocal 5 = true ∧ (st (alive 5)).seen.bcastLocal 5 = false := by decide

/-- A frame of a kind that comes in on bundle 63 of die 5, with no unit in it. -/
def az (kind seq ack cvc : Nat) : AzFrame := ⟨5, 63, azWires kind 0 0 (azControl kind seq ack cvc 0 0)⟩

theorem test_azrolane_frame_fields :
    let f := az azDataKind 0 511 7
    f.uis.length = 32 ∧ f.kind = 1 ∧ f.seq = 0 ∧ f.ack = 511 ∧ f.cvc = 7 ∧ f.ccnt = 0 ∧ f.intact = true := by decide

theorem witness_AzrolaneFrames :
    let on (p : Panel) : Panel := (alive 5 p).setField 5 (Csr.AZL_BUNDLE_STATE 63) azUp
    let role (n : Nat) := st fun p => (on p).setField 5 (Csr.FAB_RIG 3) (n * 2 ^ 30)
    let f := az azDataKind 0 511 7
    (az azIdle 511 511 7).kind = azIdle ∧ (az azIdle 511 511 7).intact = true ∧ State.reset.seen.listens 5 63 = false
    ∧ ((role 2).seen.listens 5 63 = true ∧ (role 2).seen.edgeTied 5 (faceOf 63) = false ∧ f.kind = azDataKind ∧ f.intact = true
      ∧ ((role 2).seen.bundle 5 63).inPlace f = true ∧ ((role 2).seen.bundle 5 63).inPlace (az azDataKind 1 511 7) = false)
    ∧ (let s := st fun p => (on p).setField 5 Csr.AZL_STATUS_TIED 8
       s.seen.listens 5 63 = true ∧ s.seen.edgeTied 5 (faceOf 63) = true)
    ∧ ((role 2).seen.rigRole 5 63 = 2 ∧ (role 1).seen.rigRole 5 63 = 1 ∧ (role 3).seen.rigRole 5 63 = 3)
    ∧ (role 1).seen.awaited 5 63 = none
    ∧ ((az azKaKind 0 511 7).kind = azKaKind ∧ (az azKaKind 0 511 7).intact = true) := by decide

theorem witness_AzrolaneControls :
    let on (p : Panel) : Panel := (alive 5 p).setField 5 (Csr.AZL_BUNDLE_STATE 63) azUp
    let naks (n : Nat) := (st fun p => (on p).modBundle 5 63 fun x => { x with nakCount := n, nakSeq := 511, rxSeq := 511 }).seen
    let after (n : Nat) := (((naks n).sawFrame (az azNakKind 511 511 7)).goodFrame (az azNakKind 511 511 7)).bundle 5 63
    ((naks 0).listens 5 63 = true ∧ (naks 0).edgeTied 5 (faceOf 63) = false ∧ 63 < 64)
    ∧ (((naks 0).bundle 5 63).inPlace (az azNakKind 511 511 7) = true ∧ (az azNakKind 511 511 7).intact = true
      ∧ (az azNakKind 511 511 7).kind = azNakKind)
    ∧ ((after 7).nakCount = 7 ∧ (after 7).nakSeq = 511 ∧ (az azNakKind 511 511 7).ack = 511 ∧ (after 0).nakCount = 0)
    ∧ (((naks 0).bundle 5 63).inPlace (az azTieKind 511 511 7) = true ∧ (az azTieKind 511 511 7).kind = azTieKind)
    ∧ (((naks 0).bundle 5 63).inPlace (az azCutKind 511 511 7) = true ∧ (az azCutKind 511 511 7).kind = azCutKind)
    ∧ (((naks 0).bundle 5 63).inPlace (az azTruncKind 0 511 0) = true ∧ (az azTruncKind 0 511 0).kind = azTruncKind
      ∧ (az azTruncKind 0 511 0).intact = true)
    ∧ (let s := st fun p => (on p).modRouter 5 fun r => r.setOpen 63 0 (some ⟨64, { type := 1 }, 1, 2⟩)
       (s.seen.router 5).open_ 63 0 = some ⟨64, { type := 1 }, 1, 2⟩
       ∧ ((s.seen.router 5).queue 63 0).takeWhile (fun q => !q.head) = [] ∧ 0 < 2) := by decide

theorem witness_AzrolaneFailures :
    let on (p : Panel) : Panel := (alive 5 p).setField 5 (Csr.AZL_BUNDLE_STATE 63) azUp
    let cut := st fun p => (alive 5 p).setField 5 Csr.AZL_STATUS_CUT 8
    let bad : AzFrame := ⟨5, 63, List.replicate 24 (0, 0)⟩
    63 < 64 ∧ 3 < 4 ∧ bad.intact = false ∧ (az azIdle 511 511 7).intact = true ∧ State.reset.seen.listens 5 63 = false
    ∧ ((st on).seen.listens 5 63 = true ∧ (st on).seen.edgeTied 5 (faceOf 63) = false)
    ∧ (let s := st fun p => (on p).setField 5 Csr.AZL_STATUS_TIED 8
       s.seen.listens 5 63 = true ∧ s.seen.edgeTied 5 (faceOf 63) = true)
    ∧ ((st on).seen.azState 5 63 ≠ azCut ∧ (st on).seen.azState 5 63 ≠ azBad ∧ (st on).seen.routes 5 = true)
    ∧ (State.reset.seen.routes 5 = false ∧ State.reset.seen.edgeSilent 5 3 = false)
    ∧ (let s := st fun p => (((on p).setField 5 Csr.AZL_CUT_TIMEOUT 1).setField sitePD Csr.AZL_CUT_TIMEOUT 1).setFlag 5 Csr.CLK_STATUS_PTIME_VALID false
       let s := { s with p := { s.p with time := { s.p.time with now := 100000 } } }
       s.seen.edgeSilent 5 3 = true ∧ s.seen.edgeCut 5 3 = false ∧ s.seen.routes 5 = true)
    ∧ (cut.seen.edgeCut 5 3 = true ∧ cut.seen.routes 5 = true ∧ (st on).seen.edgeCut 5 3 = false) := by decide

theorem witness_TrainingAndTies :
    let training (n : Nat) := st fun p => ((alive 5 p).setField 5 (Csr.AZL_BUNDLE_STATE 63) azTraining).setField 5 (Csr.FAB_RIG 3) (n * 2 ^ 30)
    let up := st fun p => p.setField 5 (Csr.AZL_BUNDLE_STATE 63) azUp
    let tied := st fun p => p.setField 5 (Csr.AZL_BUNDLE_STATE 63) azTied
    63 < 64 ∧ newWires false 0 [] = [] ∧ newWires false 0 [23] = [23] ∧ newWires true 23 [0] = [0] ∧ newWires false 0 [0, 23] = [0, 23]
    ∧ up.seen.azState 5 63 ≠ azTraining
    ∧ ((training 1).seen.azState 5 63 = azTraining ∧ (training 1).seen.unitState 5 (64 + 63) ≠ .bad
      ∧ (training 1).seen.rigRole 5 63 = 1 ∧ 17 + 1 ≤ (training 1).seen.latency 5 63 ∧ (training 0).seen.rigRole 5 63 ≠ 1)
    ∧ (((training 0).seen.bundle 5 63).retrainAt.length < 2)
    ∧ ((training 0).seen.lives 5 = true ∧ up.seen.lives 5 = false)
    ∧ (3 < faceCount 5 ∧ 63 ∈ faceBundles 3 ∧ bitOf 8 3 = true ∧ bitOf 7 3 = false ∧ up.seen.azState 5 63 = azUp
      ∧ tied.seen.azState 5 63 = azTied) := by decide

theorem witness_TestingCommands :
    let s := st fun p => alive 4 (alive 5 p)
    let d (b : List Byte) : List Byte := tcBytes 1 0 9 b
    let none_ : List Byte := List.replicate 40 0
    let guest : List Byte := [0, 0, 0, 0, 0, 0, 3, 0] ++ List.replicate 32 0
    let slow : List Byte := [0x58, 0x4C, 0, 0, 0, 0, 1] ++ List.replicate 33 0
    let own : List Byte := [0x58, 0x4C, 0, 0, 0, 0, 3, 0, 0, 0, 0, 0, 0, 0, 0, 1] ++ List.replicate 24 0
    let snap := tcBytes 2 1 9 (List.replicate 40 0)
    State.reset.seen.lives 5 = false ∧ faceCount 5 ≤ 4 ∧ s.seen.lives 5 = true ∧ 3 < faceCount 5
    ∧ (d own ≠ [] ∧ tcIntact (d own) = true ∧ tcIntact ((d own).drop 1) = false ∧ tcType (d own) = 1 ∧ tcType snap ≠ 1)
    ∧ (tcIntact (d none_) = true ∧ descProfiles (tcBody (d none_)) % 4 = 0)
    ∧ (isGuest (tcBody (d guest)) = true ∧ edgeDie (facing 5 3).1 = false ∧ edgeDie (facing 2 0).1 = true)
    ∧ (descProfiles (tcBody (d own)) % 4 ≠ 0 ∧ isGuest (tcBody (d own)) = false)
    ∧ (isGuest (tcBody (d slow)) = true ∧ descProfiles (tcBody (d slow)) % 4 = 1)
    ∧ (s.seen.lives 4 = true ∧ tcIntact snap = true ∧ tcType snap = 2)
    ∧ SMap.get (fun _ => none) (st fun p => p.modPlan fun f => { f with selfSeq := [(5, some 9)] }).p.plan.selfSeq 5 = some (tcSeq snap)
    ∧ (tcIntact (snap.take 47) = false ∧ tcType (snap.take 47) = 2 ∧ bitOf (tcUnits (snap.take 47)) 0 = true ∧ 1 ∈ unitsOfBit 5 0
      ∧ (outcomeOf s.p.plan.reports 4 5 1).isNone = true) := by decide
/-! ### Witnesses: panel links, the feeder, Ethernet, set-off -/

/-- Port 127 of link die 462, with a state and a role. -/
def portSt (state role : Nat) (f : Panel → Panel := id) : State := st fun p =>
  f ((p.setPortState 127 state).setField 462 (Csr.LNK_P_ROLE_ROLE 3) role)

theorem witness_LinkFramesAreRouted :
    let f : PlFrame := { type := 1, dst := 6, src := 7, rows := [row0] }
    let ws := frameWords (plBytes f)
    let p := (portSt 2 1).seen.portAlive 127 7
    let r := p.tally 462 (Csr.LNK_P_RX 3) 1
    let m := NetMsg.transit 462 462 127 f
    plFrameOf [] = none ∧ plFrameOf (List.replicate 8 0 :: ws) = some f
    ∧ (wordsFrame (frameWords (plBytes { f with crcOk := false }))).map plParse = some { f with crcOk := false }
    ∧ (p.portUp 127 = true ∧ p.portRole 127 = 1 ∧ ((portSt 3 1).seen.portAlive 127 7).portUp 127 = false)
    ∧ (r.panelId 462 ≠ f.dst ∧ r.panelId 462 ≠ 0 ∧ f.hops < 15)
    ∧ (let r := ((portSt 2 1 fun p => p.setField 462 Csr.LNK_PANEL_ID 6).seen.portAlive 127 7).tally 462 (Csr.LNK_P_RX 3) 1
       r.panelId 462 = f.dst)
    ∧ ((r.setField 462 (Csr.LNK_PT 6) 0xFFFFFFFF).egress 462 6 = none)
    ∧ (let r := ((portSt 2 1 fun p => p.setField 462 (Csr.LNK_PT 6) 0xFF7F).seen.portAlive 127 7).tally 462 (Csr.LNK_P_RX 3) 1
       r.egress 462 6 = some 127 ∧ linkOfPort 127 = 462)
    ∧ ((portSt 2 1).seen.reined 462 4 = false ∧ ((portSt 2 1).seen.arrive m).portUp 127 = true
      ∧ ((portSt 2 1).seen.arrive m).portRole 127 = 1 ∧ ((portSt 3 1).seen.arrive m).portUp 127 = false)
    ∧ (let s := st fun p => { p.setField 462 Csr.FAB_STATUS_REINED 16 with net := [m] }
       s.seen.reined 462 4 = true ∧ s.seen.net.contains m = true ∧ s.seen.injected.contains m = false) := by decide

/-- Context 4095 of link die 462, with a direction and a kind, valid over one KiB of LPDDR5X. -/
def ctxSt (dir kind : Nat) (f : Panel → Panel := id) : State := st fun p =>
  let p := (p.setField 462 (Csr.LNK_CTX_VALID 127) 1).setField 462 (Csr.LNK_CTX_DIR 127) dir
  let p := p.setField 462 (Csr.LNK_CTX_KIND 127) kind
  f ((p.setField 462 (Csr.LNK_CTX_LBASE 127) 0).setField 462 (Csr.LNK_CTX_LLIMIT 127) 1)

/-- A data frame for context 4095. -/
def dat (psn addr : Nat) (ok : Bool := true) : PlFrame := { type := 1, ctx := 4095, psn := psn, addr := addr, rows := [row0], crcOk := ok }

theorem witness_LinkDataAndMarks :
    let p (s : State) (f : PlFrame) := (s.seen.arrive (.linkLocal (linkOfCtx (f.ctx % 4096)) f)).meet (f.ctx % 4096) f
    let inside (q : Panel) (f : PlFrame) : Prop := f.addr % 64 = 0 ∧ 1024 * q.ctxField 4095 Csr.LNK_CTX_LBASE ≤ f.addr
      ∧ f.addr + 64 * f.rows.length ≤ 1024 * q.ctxField 4095 Csr.LNK_CTX_LBASE + 1024 * q.ctxField 4095 Csr.LNK_CTX_LLIMIT
    (dat 0 0 false).crcOk = false ∧ (p (ctxSt 0 0) (dat 0 0)).ctxReceives 4095 = false ∧ (p (ctxSt 1 0) (dat 0 0)).ctxReceives 4095 = true
    ∧ inside (p (ctxSt 1 0) (dat 0 960)) (dat 0 960) ∧ ¬ inside (p (ctxSt 1 0) (dat 0 1024)) (dat 0 1024) ∧ isLpddr 960 = true ∧ isLpddr (2 ^ 47) = false
    ∧ ((p (ctxSt 1 0) (dat 0 0)).placePsn 4095 0 = .new 0 ∧ (p (ctxSt 1 0) (dat 0 0)).ctxField 4095 Csr.LNK_CTX_KIND = 0)
    ∧ (p (ctxSt 1 0) (dat 0 0)).placePsn 4095 1023 = .new 1023 ∧ (p (ctxSt 1 0) (dat 0 0)).placePsn 4095 1024 = .far
    ∧ (p (ctxSt 1 0) (dat 0 0)).placePsn 4095 (2 ^ 32 - 1) = .old
    ∧ ((p (ctxSt 1 0) (dat 0 0)).memDie (memSite 960)).selfRefresh = false
    ∧ ((p (ctxSt 1 0 fun p => p.modMemDie (memSite 960) fun d => { d with selfRefresh := true }) (dat 0 960)).memDie (memSite 960)).selfRefresh = true
    ∧ (let q := p (ctxSt 1 1) (dat 0 960)
       q.placePsn 4095 0 = .new 0 ∧ q.ctxField 4095 Csr.LNK_CTX_KIND ≠ 0) := by decide

theorem witness_LinkAcknowledgement :
    let s := ctxSt 0 0 fun p => p.modCtx 4095 fun x => { x with store := [{ psn := 9, resends := 255 }] }
    let n := ctxSt 0 0 fun p => p.modCtx 4095 fun x => { x with store := [{ psn := 9, resends := 0 }] }
    let r := ctxSt 1 0 fun p => p.modCtx 4095 fun x => { x with unacked := 1, received := [3] }
    ((s.seen.arrive (.linkLocal (linkOfCtx 4095) (dat 0 0))).ctxField 4095 Csr.LNK_CTX_DIR = 0
      ∧ (s.seen.arrive (.linkLocal (linkOfCtx 4095) (dat 0 0))).ctxField 4095 Csr.LNK_CTX_VALID = 1
      ∧ (s.seen.arrive (.linkLocal (linkOfCtx 4095) (dat 0 0))).ctxField 4095 Csr.LNK_CTX_KIND = 0)
    ∧ ((r.seen.arrive (.linkLocal (linkOfCtx 4095) (dat 0 0))).ctxField 4095 Csr.LNK_CTX_DIR ≠ 0)
    ∧ (((s.p.ctx 4095).store.find? fun x => x.psn = 9) = some { psn := 9, resends := 255 } ∧ s.seen.ctxSends 4095 = true
       ∧ s.seen.acting (linkOfCtx 4095) (Csr.LNK_CTX_MAX_RETRY (ctxIx 4095)) ≤ 255)
    ∧ ((s.p.ctx 4095).store.find? fun x => x.psn = 8) = none
    ∧ (((n.p.ctx 4095).store.find? fun x => x.psn = 9) = some { psn := 9, resends := 0 } ∧ 0 < n.seen.acting (linkOfCtx 4095) (Csr.LNK_CTX_MAX_RETRY (ctxIx 4095)))
    ∧ (r.seen.ctxReceives 4095 = true ∧ 0 < (r.seen.ctx 4095).unacked ∧ (r.seen.ctx 4095).received ≠ [])
    ∧ ((ctxSt 1 0).seen.ctxReceives 4095 = true ∧ ((ctxSt 1 0).seen.ctx 4095).unacked = 0 ∧ ((ctxSt 1 0).seen.ctx 4095).received = []) := by
  decide

theorem witness_PortsAndTables :
    (let s := portSt 2 1
     s.seen.portUp 127 = true ∧ s.seen.portRole 127 = 1 ∧ (s.seen.setField 462 Csr.LNK_PANEL_ID 5).panelId 462 ≠ 0xFFF)
    ∧ (let s := portSt 1 1 fun p => (p.modPort 127 fun x => { x with trained := true }).setField 462 Csr.LNK_PANEL_ID 0xFFE
       s.seen.portUp 127 = false ∧ s.seen.portRole 127 = 1 ∧ (s.seen.port 127).trained = true ∧ s.seen.panelId 462 ≠ 0xFFF ∧ 0xFFE ≠ 0xFFF
       ∧ s.seen.portState 127 ≠ 0)
    ∧ (portSt 2 2).seen.portRole 127 ≠ 1 ∧ (portSt 2 2).seen.portRole 127 ≠ 0 ∧ (portSt 0 0).seen.portRole 127 = 0
    ∧ (let s := st fun p => p.setFlag sitePD Csr.FRM_STATUS_BUSY true
       s.seen.isSet s.seen.primary Csr.FRM_STATUS_BUSY = true ∧ State.reset.seen.isSet State.reset.seen.primary Csr.FRM_STATUS_BUSY = false)
    ∧ (let s := st fun p => { p.setFlag sitePD Csr.LNK_STATUS_FLIPPING true with fabric := { portFlippedBy := linkSites, portFlipAt := some 0 }, time := { p.time with now := 12500 } }
       s.seen.isSet s.seen.primary Csr.LNK_STATUS_FLIPPING = true
       ∧ (linkSites.filter s.seen.logicGood).all s.seen.fabric.portFlippedBy.contains = true ∧ linkSites.filter s.seen.logicGood ≠ []
       ∧ s.seen.fabric.portFlipAt = some 0 ∧ 0 + usCycles 10 ≤ s.seen.now
       ∧ State.reset.seen.isSet State.reset.seen.primary Csr.LNK_STATUS_FLIPPING = false)
    ∧ ((State.reset.seen.linkDie 462).flipping = false ∧ 0xFFFFFFFF < 2 ^ 32 ∧ 3 < 4
       ∧ bitsOf 0xFFFFFFFF (16 * (State.reset.seen.field 462 Csr.LNK_STATUS_PEPOCH % 2)) 16
          = bitsOf (State.reset.seen.field 462 (Csr.LNK_PT (4095 % 4096))) (16 * (State.reset.seen.field 462 Csr.LNK_STATUS_PEPOCH % 2)) 16)
    ∧ (31 < 32 ∧ 4 * ((462 - 400) / 2) + 31 / 8 = 127 ∧ (portSt 2 1).seen.portUp 127 = true ∧ (portSt 3 1).seen.portUp 127 = false) := by decide

theorem witness_PortTableFlips_carries :
    let s := st fun p => ((runR 0 p).setField 400 (Csr.LNK_CTX_VALID 0) 1).setField 400 (Csr.LNK_PT 0) 3
    (s.seen.portCarries 3 = true) ∧ 4 * ((400 - 400) / 2) + 3 = 3 := by decide

/-- A feeder port 127 with a window of 1 KiB at the first byte of LPDDR5X. -/
def feed : State := portSt 2 2 fun p =>
  let p := (p.setFlag 462 (Csr.LNK_F_WIN_VALID 3) true).setFlag 462 (Csr.LNK_F_WIN_SIG_EN 3) false
  ((p.setField 462 (Csr.LNK_F_WIN_STREAM 3) 7).setField 462 (Csr.LNK_F_WIN_BASE 3) (0x010000000000 / 1024)).setField 462
    (Csr.LNK_F_WIN_LENGTH 3) 1

theorem witness_FeedFramesStore :
    let f : FeedFrame := { stream := 7, seq := 0, offset := 960, data := List.replicate 64 0 }
    let win := feed.seen
    feedFrameOf [] = none ∧ feedFrameOf (frameWords (feedBytes f)) = some f
    ∧ (win.portRole 127 = 2 ∧ win.portUp 127 = true ∧ win.isSet 462 (Csr.LNK_F_WIN_VALID 3) = true
      ∧ f.stream = win.field 462 (Csr.LNK_F_WIN_STREAM 3) ∧ f.offset % 1024 + f.data.length ≤ 1024
      ∧ f.offset + f.data.length ≤ 1024 * win.field 462 (Csr.LNK_F_WIN_LENGTH 3) ∧ f.seq = (win.port 127).feedSeq ∧ f.crcOk = true)
    ∧ (feedParse (feedBytes { f with seq := 1 })).seq ≠ (win.port 127).feedSeq
    ∧ ((portSt 2 3).seen.portRole 127 ≠ 2 ∧ (portSt 1 2).seen.portUp 127 = false) := by decide

theorem witness_EthernetRings :
    (let s := portSt 2 3 fun p => ((p.setFlag 462 (Csr.LNK_E_RING_VALID 3 7) true).setField 462 (Csr.LNK_E_RING_BASE 3 7)
          (0x010000000000 / 1024)).setField 462 (Csr.LNK_E_RING_SLOTS 3 7) 1
       let s := { s with p := s.p.setFlag 462 (Csr.LNK_E_MAC_PROMISC 3) true }
       let data : List Byte := List.replicate 60 0
       let base := s.seen.ringBase 462 3 7
       7 < s.seen.ethIfaces 127 ∧ s.seen.portRole 127 = 3 ∧ s.seen.portUp 127 = true ∧ s.seen.isSet 462 (Csr.LNK_E_RING_VALID 3 7) = true
       ∧ s.seen.ethAccepts 462 3 data = true ∧ 64 ≤ data.length + 4 ∧ data.length + 4 ≤ s.seen.slotSize 462 3 7 - 16
       ∧ (s.mem.nat base 4 + 2 ^ 32 - SMap.get (fun _ => 0) (s.seen.port 127).cons 7) % 2 ^ 32 < s.seen.acting 462 (Csr.LNK_E_RING_SLOTS 3 7)
       ∧ (s.seen.populated base = true ∧ s.seen.populated (2 ^ 47) = false)
       ∧ (let t : State := { s with mem := s.mem.apply [{ addr := base, data := [1, 0, 0, 0], fox := none }] }
          s.seen.acting 462 (Csr.LNK_E_RING_SLOTS 3 7)
            ≤ (t.mem.nat base 4 + 2 ^ 32 - SMap.get (fun _ => 0) (t.seen.port 127).cons 7) % 2 ^ 32))
    ∧ ((portSt 2 3).seen.isSet 462 (Csr.LNK_E_RING_VALID 3 7) = false) := by decide

theorem witness_LinkMarginsAndCounts :
    31 < 32 ∧ 4 * ((462 - 400) / 2) + 31 / 8 = 127 ∧ (portSt 2 1).seen.portUp 127 = true ∧ (portSt 3 1).seen.portUp 127 = false ∧ 3 < 4 := by
  decide

theorem witness_SetoffCommands :
    let sends (n : List NetMsg) (l : List Stored) (p : Panel) : Panel :=
      let p := ((p.setField 400 (Csr.LNK_CTX_VALID 0) 1).setField 400 (Csr.LNK_CTX_DIR 0) 0).modCtx 0 fun x => { x with store := l }
      { p with net := n }
    let s := st (sends [.streamCopy 401 0 0 [row0] key] [])
    (∀ m ∈ State.reset.p.net, ∀ a r k, m ≠ .streamCopy 401 0 a r k)
    ∧ (s.p.net = [] ++ .streamCopy 401 0 0 [row0] key :: [] ∧ key.site < siteCount
      ∧ s.seen.ctxSends 0 = true ∧ (s.seen.ctx 0).store.length < 1024 ∧ s.seen.storeUse (linkOfCtx 0) + 32 + 64 * 1 ≤ 0x800000)
    ∧ State.reset.seen.ctxSends 0 = false ∧ State.reset.seen.nextCopy 401 0 = none
    ∧ (st (sends [.setoff 401 0 3 0 [row0]] [])).seen.nextCopy 401 0 = some (3, 0, some [row0])
    ∧ (st (sends [.resync 401 0 3 0] [])).seen.nextCopy 401 0 = some (3, 0, none)
    ∧ State.reset.seen.copiesOut 401 = [] := by
  refine ⟨?_, by decide⟩
  simp [State.reset]

theorem witness_SetoffCommands_sheets :
    (∃ k ∈ memDieSites, State.reset.seen.memGood k = true ∧ k ≠ 401 ∧ (0, k) ∉ (State.reset.p.ctx 0).reports)
    ∧ (let s := st fun p => p.modCtx 0 fun x => { x with reports := memDieSites.map fun k => (0, k) }
       ∀ k ∈ memDieSites, s.seen.memGood k = true → k = 401 ∨ (0, k) ∈ (s.p.ctx 0).reports)
    ∧ bitOf (State.reset.seen.field sitePD Csr.GAL_SO_UNMIRRORED) 63 = false
    ∧ (let h : Shard := { region := 0, shard := 63, ctx := 0, send := true, base := 0x010000000000 / 1024, limit := 1 }
       let s := st fun p => { p.setField sitePD Csr.GAL_SO_UNMIRRORED (2 ^ 63) with fabric := { shards := [h] } }
       bitOf (s.seen.field sitePD Csr.GAL_SO_UNMIRRORED) 63 = true
       ∧ (s.p.fabric.shards.find? fun h => h.send && !h.stream && h.shard = 63) = some h
       ∧ 0 < h.limit ∧ s.seen.populated (1024 * (h.base + 0)) = true)
    ∧ (let a := 0x010000000000
       let h : Shard := { region := 0, shard := 63, ctx := 0, send := false, base := a / 1024, limit := 1, accept := [0] }
       let s := st fun p => { p with net := [.setoffIn 0 0 (a + 960) [row0] false], fabric := { shards := [h] } }
       s.p.net = [] ++ .setoffIn 0 0 (a + 960) [row0] false :: [] ∧ h ∈ s.p.fabric.shards ∧ h.send = false ∧ h.accept.contains 0 = true
       ∧ 1024 * h.base ≤ a + 960 ∧ a + 960 + 64 * [row0].length ≤ 1024 * (h.base + h.limit) ∧ s.seen.populated (a + 960) = true) := by
  decide
/-! ### Witnesses: the line stream -/

/-- Die 5 with a stalled line, held for a cause. -/
def stall (l : Line) (cause : Nat) (f : Panel → Panel := id) : State := st fun p =>
  f (p.modSeq 5 fun q => { q with stalled := some l, holdCause := cause })

/-- Die 5 inside an open loop. -/
def looping : State := st fun p => p.modSeq 5 fun q => { q with loops := [(1, 0, 1)], bodyHasLine := true }

theorem witness_SlotOperationsIssue :
    let holds (s : State) (k op : Nat) (w : BitVec 58) : Nat := (s.seen.lineHold 5 [(k, slotWordOf op w, s.seen.planSlot s.mem 5 k (slotWordOf op w) none)] false 0).1
    ((stall [] 0).seen.seq 5).stalled.isSome
    ∧ (State.reset.seen.seq 5).stalled.isSome = false
    ∧ lineOk (oneSlot 14 1 1 none) = false ∧ lineOk (oneSlot 14 1 0 none) = true
    ∧ ((looping.seen.planSlot looping.mem 5 14 (slotWordOf 1 0) none).code = some 0x0226 ∧ looping.seen.lineHold 5 [] false 0 = (0, [])
      ∧ looping.seen.charge 5 + (looping.seen.seq 5).tokens.sum ≤ looping.seen.field 5 Csr.DRW_TOK_ALLOW_EFFECTIVE)
    ∧ (State.reset.seen.planSlot State.reset.mem 5 14 (slotWordOf 1 0) none).code = none
    ∧ holds State.reset 14 1 0 = 0 ∧ State.reset.seen.slotWait 5 14 (slotWordOf 1 0) = 0
    ∧ State.reset.seen.slotWait 5 13 (slotWordOf 3 1) ≠ 0
    ∧ (let s := st fun p => p.modSeq 5 fun q => { q with tokens := [State.reset.seen.field 5 Csr.DRW_TOK_ALLOW_EFFECTIVE + 1] }
       s.seen.field 5 Csr.DRW_TOK_ALLOW_EFFECTIVE < s.seen.charge 5 + (s.seen.seq 5).tokens.sum
       ∧ (s.seen.planSlot s.mem 5 14 (slotWordOf 1 0) none).code = none)
    ∧ (let q : GalReq := { key := ⟨5, 0, 0, 0⟩, write := true, host := false, trace := 0, addr := 0, row := 0, rows := 1 }
       let s := st fun p => { ((p.setField 5 (Csr.PWR_DOM_STATE 0) domOn).setField 5 (Csr.GAL_DESC_VALID 0) 1).setField 5
          (Csr.GAL_DESC_LIMIT 0) 1 with galleys := [(40, [q])] }
       lineOk (oneSlot 8 0x10 0 none) = true ∧ (s.seen.planSlot s.mem 5 8 (slotWordOf 0x10 0) none).code = none
       ∧ holds s 8 0x10 0 ≠ 0) := by decide

/-- Cluster 0 of die 5 is up, with something there for every slot operation. -/
def onSt : State := st fun p =>
  let p := inR 4 0 (inR 5 0 (alive 4 (alive 5 (p.setField 5 (Csr.PWR_DOM_STATE 0) domOn))))
  let loaded (g : Engine) : Engine :=
    { g with banks := [{ ready := true, wfmt := 1, klen := 4, nlen := 1 }, {}], rows := [(0, { valid := true, cols := 1 })] }
  let p := (p.modEngine 5 0 0 loaded).modEngine 5 0 1 loaded
  let p := (p.setFlag 5 (Csr.SPR_WIN_VALID 0 0) true).setField 5 (Csr.SPR_WIN_LENGTH 0 0) 1
  let p := (p.setField 5 (Csr.GAL_DESC_VALID 0) 1).setField 5 (Csr.GAL_DESC_LIMIT 0) 1
  let p := (p.setField 5 (Csr.FAB_RIG 3) 1).setMeshBuf 5 48 [⟨0, false, row0⟩]
  let p := (p.setFlag 5 (Csr.FAB_TRACE_VALID 1) true).setField 5 (Csr.FAB_TRACE_IN 1) 0x3F
  let p := ((p.setFlag 5 (Csr.SPR_CDESC_VALID 0) true).setField 5 (Csr.SPR_CDESC_FMT 0) 1).setField 5 (Csr.SPR_CDESC_KLEN_M1 0) 3
  let p := (p.setFlag 5 (Csr.JUS_GATE_VALID 0) true).setField 5 (Csr.JUS_GATE_K 0) 1
  let p := ((p.setFlag 5 (Csr.JUS_JDESC_VALID 0) true).setField 5 (Csr.JUS_JDESC_ICLM 0) 1).setField 5 (Csr.JUS_JDESC_OCLM 0) 1
  let p := (p.setField 5 (Csr.JUS_JDESC_ICAP 0) 1).setField 5 (Csr.JUS_JDESC_OCAP 0) 1
  let p := (p.setFlag 5 (Csr.JUS_MDESC_VALID 0) true).setField 5 (Csr.JUS_MDESC_NIN 0) 1
  let p := (p.setField 5 (Csr.JUS_MDESC_ICAP0 0) 1).setField 5 (Csr.JUS_MDESC_OCAP 0) 1
  let p := (p.setField 5 Csr.STK_SYNC_WSTATE_READY 1).setField 5 Csr.STK_SEQ_PAGES 1
  p.modSeq 5 fun q => { q with complete := [true, true], loading := [false, false] }

/-- A slot operation on die 5 issues: what the statement asks of its state and word. -/
def issues (s : State) (k op : Nat) (w : BitVec 58) (x : Option (BitVec 54)) : Bool :=
  let word := slotWordOf op w
  let plan := s.seen.planSlot s.mem 5 k word (x.map BitVec.toNat)
  let o : SlotOp := (k, word, plan)
  (s.seen.seq 5).stalled.isNone && lineOk (oneSlot k op w x) && plan.code.isNone && (s.seen.lineHold 5 [o] false 0).1 = 0
    && s.seen.slotWait 5 k word = 0
    && s.seen.charge 5 + (s.seen.seq 5).tokens.sum + newCharge [o] ≤ s.seen.field 5 Csr.DRW_TOK_ALLOW_EFFECTIVE

theorem witness_SlotOperationEffects_engines :
    issues onSt 0 1 16 none ∧ issues onSt 0 2 (BitVec.ofNat 58 (3 * 2 ^ 52 + 2)) none ∧ issues onSt 0 3 0 none ∧ issues onSt 0 4 0 none
    ∧ issues onSt 4 1 (BitVec.ofNat 58 (2 ^ 53 + 3 * 2 ^ 42 + 2)) (some 0) ∧ issues onSt 4 2 (BitVec.ofNat 58 (3 * 2 ^ 52 + 4)) none
    ∧ issues onSt 4 3 0 none ∧ issues onSt 4 4 0 none
    ∧ issues onSt 12 1 0 none ∧ issues onSt 12 2 0 none ∧ issues onSt 12 3 0 none := by decide

theorem witness_SlotOperationEffects_movers :
    issues onSt 8 1 0 none ∧ issues onSt 8 2 0 none ∧ issues onSt 8 3 0 (some 0) ∧ issues onSt 8 4 0 none
    ∧ issues onSt 8 5 (BitVec.ofNat 58 (5 * 2 ^ 7)) none ∧ issues onSt 8 6 0 none ∧ issues onSt 8 7 0 none
    ∧ issues onSt 8 0x10 0 none ∧ issues onSt 8 0x11 0 none ∧ issues onSt 8 0x12 0 none ∧ issues onSt 8 0x13 0 none
    ∧ issues onSt 8 0x20 (BitVec.ofNat 58 (3 * 2 ^ 56 + 5 * 2 ^ 23)) none ∧ issues onSt 8 0x21 (BitVec.ofNat 58 (3 * 2 ^ 56 + 5 * 2 ^ 23)) none
    ∧ issues onSt 8 0x22 (BitVec.ofNat 58 (2 ^ 50)) none := by decide

theorem witness_SlotOperationEffects_control :
    issues onSt 13 3 0 none ∧ issues onSt 13 4 (BitVec.ofNat 58 (2 ^ 34)) none ∧ issues onSt 13 6 0 none ∧ issues onSt 14 1 0 none
    ∧ issues onSt 14 2 0 none ∧ issues onSt 14 3 (BitVec.ofNat 58 (2 ^ 57)) none ∧ issues onSt 14 4 0 none ∧ issues onSt 14 5 0 none := by
  decide

theorem witness_SequencerOperations :
    (State.reset.seen.seq 5).stalled.isSome = false ∧ State.reset.p.writes = [] ∧ State.reset.seen.lineHold 5 [] false 0 = (0, [])
    ∧ State.reset.seen.charge 5 + (State.reset.seen.seq 5).tokens.sum ≤ State.reset.seen.field 5 Csr.DRW_TOK_ALLOW_EFFECTIVE
    ∧ (State.reset.seen.seq 5).loops = [] ∧ (looping.seen.seq 5).loops ≠ [] ∧ (looping.seen.seq 5).stalled.isSome = false
    ∧ looping.seen.lineHold 5 [] false 0 = (0, [])
    ∧ lineOk (oneSlot 14 1 0 none) = true ∧ lineOk (oneSlot 14 4 0 none) = true ∧ lineOk (oneSlot 13 3 0 none) = true
    ∧ lineOk (oneSlot 15 2 0 none) = true ∧ State.reset.seen.syncPassed 5 (slotWordOf 3 0) = true
    ∧ ((stall [] 0).seen.seq 5).stalled.isSome
    ∧ (st fun p => p.setFlag 5 Csr.STK_SEQ_CTRL_TRACE true).seen.isSet 5 Csr.STK_SEQ_CTRL_TRACE = true
    ∧ State.reset.seen.isSet 5 Csr.STK_SEQ_CTRL_TRACE = false := by decide

/-- Die 5 issues from a line buffer whose first word is `w`. -/
def rec (w : Word) (f : Seq → Seq := id) : State := st fun p =>
  ((p.setWord 5 0x100000 w).setFlag 5 Csr.STK_SEQ_STATUS_ISSUING true).modSeq 5 f

theorem witness_RecordsIssue :
    State.reset.seen.seqRuns 5 = false ∧ (rec 0).seen.seqRuns 5 = true
    ∧ (rec 0xC0000000).seen.nextRecord 5 = .bad 0x0220 ∧ (rec 0).seen.nextRecord 5 = .line [] 1
    ∧ (rec 0x7FFFFFFF).seen.nextRecord 5 = .quad 0x3FFFFFFF
    ∧ ((rec 0x80000001).seen.nextRecord 5 = .loopBegin 0 1 ∧ 0 = ((rec 0x80000001).seen.seq 5).loops.length ∧ 1 ≠ 0)
    ∧ ((rec 0x84000001).seen.nextRecord 5 = .loopBegin 1 1 ∧ 1 ≠ ((rec 0x84000001).seen.seq 5).loops.length)
    ∧ (rec 0x80000000).seen.nextRecord 5 = .loopBegin 0 0
    ∧ ((rec 0xA0000000).seen.nextRecord 5 = .loopEnd 0 ∧ ((rec 0xA0000000).seen.seq 5).loops = [])
    ∧ (let s := rec 0xA0000000 fun q => { q with loops := [(1, 0, 1)], bodyHasLine := true }
       s.seen.seqRuns 5 = true ∧ s.seen.nextRecord 5 = .loopEnd 0 ∧ (s.seen.seq 5).loops = (1, (s.seen.seq 5).half, 1) :: []
       ∧ 0 = ([] : List (Nat × Nat × Nat)).length ∧ (s.seen.seq 5).bodyHasLine = true ∧ 1 ≤ 1)
    ∧ (let s := st fun p => (((inR 5 0 p).setFlag 5 Csr.STK_SEQ_STATUS_ISSUING true).setField sitePD (Csr.STK_R_SCHED_LEN 0) 8).setField 5
          Csr.STK_SEQ_POS_CYCLE 8
       s.seen.regionOf 5 = some 0 ∧ s.seen.isSet 5 Csr.STK_SEQ_STATUS_ISSUING = true ∧ (s.seen.seq 5).ended = false
       ∧ s.seen.field sitePD (Csr.STK_R_SCHED_LEN 0) ≤ s.seen.field 5 Csr.STK_SEQ_POS_CYCLE)
    ∧ (let s := st fun p => ((inR 5 0 p).setField sitePD (Csr.STK_R_SCHED_LEN 0) 8).setField 5 Csr.STK_SEQ_POS_CYCLE 7
       s.seen.regionOf 5 = some 0 ∧ s.seen.field 5 Csr.STK_SEQ_POS_CYCLE < s.seen.field sitePD (Csr.STK_R_SCHED_LEN 0)
       ∧ s.seen.isSet 5 Csr.STK_SEQ_STATUS_ISSUING = false)
    ∧ (let s := st fun p => p.modSeq 5 fun q => { q with loading := [false, true] }
       nth (s.seen.seq 5).loading 1 false = true ∧ nth (s.seen.seq 5).readsLeft 1 0 = 0 ∧ 1 < (s.seen.seq 5).loading.length
       ∧ 1 < (s.seen.seq 5).complete.length ∧ nth (s.seen.seq 5).loading 0 false = false) := by decide

theorem witness_StalledLinesResume :
    let wait (op : Nat) (t : BitVec 58) (c : Nat) : State := stall (oneSlot 13 op t none) c
    (State.reset.seen.seq 5).stalled = none ∧ (State.reset.seen.seq 5).held = false
    ∧ ([1, 2, 4, 5].all fun c => ((stall [] c).seen.seq 5).held && ((stall [] c).seen.seq 5).holdCause = c) = true
    ∧ (((stall [] 6).seen.seq 5).stalled = some [] ∧ ((stall [] 6).seen.seq 5).holdCause = 6)
    ∧ ((wait 3 1 0).seen.lineWait 5 (goodOps ((wait 3 1 0).seen.slotOps (wait 3 1 0).mem 5 (oneSlot 13 3 1 none))) ≠ 0)
    ∧ ((wait 3 0 0).seen.lineWait 5 (goodOps ((wait 3 0 0).seen.slotOps (wait 3 0 0).mem 5 (oneSlot 13 3 0 none))) = 0)
    ∧ ((wait 3 0 4).seen.lineHold 5 (goodOps ((wait 3 0 4).seen.slotOps (wait 3 0 4).mem 5 (oneSlot 13 3 0 none)))
        ((wait 3 0 4).seen.seq 5).stalledRecord 0).1 = 0
    ∧ (slotOp (slotWord (oneSlot 13 4 1 none) 13) = 4 ∧ (wait 4 1 0).seen.syncPassed 5 (slotWord (oneSlot 13 4 1 none) 13) = false)
    ∧ (slotOp (slotWord (oneSlot 13 3 1 none) 13) = 3 ∧ (wait 3 1 0).seen.syncPassed 5 (slotWord (oneSlot 13 3 1 none) 13) = false)
    ∧ (slotOp (slotWord (oneSlot 13 6 0 none) 13) = 6 ∧ (wait 6 0 0).seen.syncPassed 5 (slotWord (oneSlot 13 6 0 none) 13) = false) := by
  decide

/-! ### Witnesses: aborts, reprints -/

/-- Region 15 runs, with a change to it. -/
def regSt (g : Region → Region) (f : Panel → Panel := id) : State := st fun p => f ((runR 15 (inR 5 15 p)).modRegion 15 g)

theorem witness_RegionAborts :
    State.reset.seen.running 15 = false
    ∧ ((regSt fun g => { g with abortAt := some 0 }).seen.running 15 = true
      ∧ ((regSt fun g => { g with abortAt := some 0 }).seen.region 15).abortAt.isSome = true
      ∧ ((regSt fun g => { g with abortAt := some 0 }).seen.region 15).restart = none)
    ∧ ((regSt id).seen.running 15 = true ∧ ((regSt id).seen.region 15).abortAt = none ∧ ((regSt id).seen.region 15).restart = none)
    ∧ (regSt fun g => { g with abortAt := some 0 }).seen.regionOf 5 = some 15
    ∧ ((regSt fun g => { g with abortAt := some 0, stopAtTick := true }).seen.region 15).stopAtTick = true
    ∧ (let d : FormeRegion := { imps := [{ num := 0, places := [(0, 5)] }], images := [⟨0, 0, 0, 1, 1, 0, 0, 0⟩] }
       let s := regSt fun g => { g with restart := some (0, 0), forme := d }
       (s.seen.region 15).restart = some (0, 0) ∧ s.seen.clustersUp (s.seen.region 15).forme 0 = false)
    ∧ (let s := regSt (fun g => { g with restart := some (0, 0), sites := [5] }) fun p => { p with galleys := [(40, [gal false false])] }
       s.seen.galleysIdle 15 = false)
    ∧ (let s := regSt fun g => { g with restart := some (0, 0), forme := { sections := [⟨1, 15, 0, 0, 0, 1, 0⟩] } }
       s.seen.clustersUp (s.seen.region 15).forme 0 = true ∧ s.seen.galleysIdle 15 = true ∧ (s.seen.region 15).forme.staged s.mem = false) := by
  decide

theorem witness_RegionAborts_idle :
    ∀ r, State.reset.seen.regionOf 5 = some r → (State.reset.seen.region r).abortAt = none := by
  intro r h; exact absurd h (by simp [show State.reset.seen.regionOf 5 = none by decide])

/-- A reprint of die 5, cluster 3. -/
def rp : Reprint := { site := 5, slot := 3, cluster := 3, engine := 0, cycle := 0, row := 0, count := 1, peer := 6, state := 3 }

/-- Reprint `r` is in flight, with messages on the fabric. -/
def rpSt (r : Reprint) (net : List NetMsg) (f : Panel → Panel := id) : State := st fun p =>
  f { p.modContain (fun c => { c with reprints := [r], marks := [{ kind := .entry, region := 0, site := 5, stroke := 0, code := 0, cluster := 3, count := 1 }] })
      with net := net }

theorem witness_ReprintMessages :
    (rpSt rp []).p.writes = [] ∧ (rpSt rp []).seen.net.contains (.reprintClaim 5 3 6 0) = false
    ∧ (let m := NetMsg.reprintClaim 5 3 6 0
       let s := rpSt rp [m] fun p => (alive 6 p).setField 6 (Csr.PWR_DOM_STATE 0) domOn
       s.seen.net.contains m = true ∧ (s.seen.arrive m).reprint 5 3 = some rp ∧ (s.seen.arrive m).grants 6 0 = some 0
       ∧ ((rpSt rp [m]).seen.arrive m).grants 6 0 = none ∧ ((rpSt { rp with slot := 2 } [m]).seen.arrive m).reprint 5 3 = none)
    ∧ (let m := NetMsg.reprintGrant 5 3 true
       (rpSt rp [m]).seen.net.contains m = true ∧ ((rpSt rp [m]).seen.arrive m).reprint 5 3 = some rp)
    ∧ (let m := NetMsg.reprintOperands 5 3
       (rpSt rp [m]).seen.net.contains m = true ∧ ((rpSt rp [m]).seen.arrive m).reprint 5 3 = some rp)
    ∧ State.reset.seen.reprint 5 3 = none
    ∧ ((rpSt rp []).seen.reprint 5 3 = some rp ∧ rp.state = 3 ∧ rp.timeouts = 0 ∧ { rp with state := 2 }.state ≠ 3 ∧ { rp with timeouts := 1 }.timeouts ≠ 0) := by
  decide

theorem witness_ReprintResults :
    let m := NetMsg.reprintResult 5 3
    let k : Mark := { kind := .entry, region := 0, site := 5, stroke := 0, code := 0, cluster := 3, count := 1 }
    let got (r : Reprint) : Prop := (rpSt r [m]).seen.net.contains m = true ∧ ((rpSt r [m]).seen.arrive m).reprint 5 3 = some r
      ∧ ((rpSt r [m]).seen.arrive m).contain.marks.find? r.isFor = some k
    let drained (r : Reprint) := (((rpSt r [m]).seen.arrive m).drainedRows {} k).1
    got rp ∧ rp.result = none ∧ rp.state = 3
    ∧ (let r := { rp with result := some (drained rp, false) }
       got r ∧ r.first = none ∧ r.shadow = false ∧ drained r = drained rp ∧ ¬ (k.checksum = true ∧ false = true))
    ∧ (let r := { rp with result := some ([row0], true) }
       got r ∧ drained r ≠ [row0])
    ∧ (let r := { rp with result := some ([row0], false), first := some [] }
       got r ∧ r.first = some [] ∧ [] ≠ [row0])
    ∧ (let r := { rp with result := some ([row0], false), first := some [row0] }
       got r ∧ r.first = some [row0] ∧ r.shadow = false ∧ k.touched = false) := by decide
/-! ### Witnesses: power, draw, cooling -/

/-- Domain 3 of die 399 is requested on, with a change to the registers. -/
def pow (d : Domain → Domain) (f : Panel → Panel := id) : State := st fun p => f (p.modDomain 399 3 d)

theorem witness_DomainRequests :
    let p (s : State) := (s.seen.setField sitePD (Csr.PWR_GRP_PEAK_LAST (girthGroup 399)) 0).setField sitePD Csr.PWR_RAIL_PEAK_LAST 0
    let asked (s : State) : Prop := ((p s).domain 399 3).reqOn = true ∧ (p s).field 399 (Csr.PWR_DOM_STATE 3) = domDark
      ∧ (p s).keptDark 399 = false ∧ (p s).staging 399 = false
    let forced (s : State) : Prop := (p s).acting 399 Csr.PWR_SEQ_CFG_DEFER_MAX ≤ (p s).field 399 (Csr.PWR_DOM_DEFERRALS 3)
      ∧ (p s).isSet sitePD (Csr.PWR_GRP_LOW (girthGroup 399)) = false
    let on := pow fun x => { x with reqOn := true }
    let poor (n : Nat) := pow (fun x => { x with reqOn := true }) fun p =>
      (p.setField sitePD (Csr.PWR_GRP_LIMIT (girthGroup 399)) 0).setField 399 (Csr.PWR_DOM_DEFERRALS 3) n
    let late := pow (fun x => { x with reqOn := true }) fun p => p.setField 399 (Csr.PWR_DOM_DEFERRALS 3) 255
    3 < 5 ∧ (on.seen.domain 399 3).reqOn = true
    ∧ (pow id fun p => p.setField 399 (Csr.PWR_DOM_STATE 3) domOn).seen.field 399 (Csr.PWR_DOM_STATE 3) ≠ domDark
    ∧ ((pow id).seen.domain 399 3).reqOn = false ∧ (pow id).seen.field 399 (Csr.PWR_DOM_STATE 3) = domDark ∧ ¬ asked (pow id)
    ∧ (asked on ∧ ¬ forced on ∧ (p on).headroom 399 ((p on).reservation 399 3) = true)
    ∧ (asked late ∧ forced late)
    ∧ (asked (poor 0) ∧ ¬ forced (poor 0) ∧ (p (poor 0)).headroom 399 ((p (poor 0)).reservation 399 3) = false
      ∧ (p (poor 0)).field 399 (Csr.PWR_DOM_DEFERRALS 3) = 0)
    ∧ (asked (poor 1) ∧ ¬ forced (poor 1) ∧ (p (poor 1)).headroom 399 ((p (poor 1)).reservation 399 3) = false
      ∧ (p (poor 1)).field 399 (Csr.PWR_DOM_DEFERRALS 3) ≠ 0) := by decide

theorem witness_DomainRequests_off :
    isCluster 399 3 = true ∧ (pow id fun p => p.setField 399 (Csr.PWR_DOM_STATE 3) domOn).seen.field 399 (Csr.PWR_DOM_STATE 3) ≠ domDark
    ∧ isCluster 399 4 = false := by decide

theorem witness_DomainTurnOn :
    let t (stage : Nat) (d : Domain → Domain := id) := pow d fun p =>
      (p.setField 399 (Csr.PWR_DOM_STATE 3) domTurningOn).setField 399 (Csr.PWR_DOM_STAGE 3) stage
    (pow id).seen.field 399 (Csr.PWR_DOM_STATE 3) ≠ domTurningOn ∧ 4 ≤ (t 4).seen.field 399 (Csr.PWR_DOM_STAGE 3)
    ∧ ((t 3).seen.field 399 (Csr.PWR_DOM_STATE 3) = domTurningOn ∧ (t 3).seen.field 399 (Csr.PWR_DOM_STAGE 3) < 4
      ∧ ((t 3).seen.domain 399 3).reqOff = false)
    ∧ ((t 4).seen.field 399 (Csr.PWR_DOM_STATE 3) = domTurningOn ∧ ((t 4).seen.domain 399 3).good = none ∧ isCluster 399 3 = true)
    ∧ ((t 3 fun x => { x with reqOff := true }).seen.domain 399 3).reqOff = true
    ∧ (logicDomain 399 = 4 ∧ 399 < 464 ∧ isCluster 399 4 = false) ∧ (logicDomain 463 = 0 ∧ 463 < 464 ∧ isCluster 463 1 = false ∧ 1 ≠ logicDomain 463)
    ∧ (let g := t 4 fun x => { x with reqOff := true }
       (g.seen.domain 399 3).good = none ∧ (g.seen.domain 399 3).reqOff = true ∧ 3 ≠ logicDomain 399)
    ∧ ((t 4 fun x => { x with good := some 0 }).seen.domain 399 3).good ≠ none := by decide

theorem witness_RegulatorLosses :
    let lost (n : Nat) (f : Panel → Panel := id) : Panel :=
      (st fun p => f ((p.setField 399 (Csr.PWR_REG_PHASE_OK 3) 255).setField 399 (Csr.PWR_REG_LOST 3) n)).seen
    399 < 400 ∧ 3 < 4 ∧ bitOf ((lost 0).field 399 (Csr.PWR_REG_PHASE_OK 3)) 8 = false
    ∧ (bitOf ((lost 1).field 399 (Csr.PWR_REG_PHASE_OK 3)) 7 = true ∧ (lost 1).field 399 (Csr.PWR_REG_LOST 3) < 2)
    ∧ ((lost 2).field 399 (Csr.PWR_REG_LOST 3) = 2 ∧ (lost 2).clusterUsed 399 3 = false)
    ∧ (lost 3).field 399 (Csr.PWR_REG_LOST 3) = 3
    ∧ (let d : FormeRegion := { imps := [{ num := 0, places := [(0, 399)] }], images := [⟨0, 0, 0, 1, 8, 0, 0, 0⟩] }
       let p := lost 2 fun p => (runR 15 (inR 399 15 p)).modRegion 15 fun g => { g with forme := d }
       p.clusterUsed 399 3 = true ∧ p.regionOf 399 = some 15
       ∧ namesCluster ((p.region 15).forme.derateOk.map fun x => (x.1, x.2 / 2)) 399 3 = false) := by decide

theorem witness_RegulatorLosses_uncore :
    State.reset.seen.isSet 5 Csr.PWR_STATUS_REG_A_OK = false
    ∧ (let s := st fun p => p.setFlag 5 Csr.PWR_STATUS_REG_A_OK true
       let b := st fun p => (p.setFlag 5 Csr.PWR_STATUS_REG_A_OK true).setFlag 5 Csr.PWR_STATUS_REG_B_OK true
       s.seen.isSet 5 Csr.PWR_STATUS_REG_A_OK = true ∧ (s.seen.setFlag 5 Csr.PWR_STATUS_REG_A_OK false).isSet 5 Csr.PWR_STATUS_REG_B_OK = false
       ∧ b.seen.isSet 5 Csr.PWR_STATUS_REG_A_OK = true
       ∧ (b.seen.setFlag 5 Csr.PWR_STATUS_REG_A_OK false).isSet 5 Csr.PWR_STATUS_REG_B_OK = true)
    ∧ (let s := st fun p => p.setFlag 463 Csr.PWR_STATUS_IO_B_OK true
       s.seen.isSet 463 Csr.PWR_STATUS_IO_B_OK = true
       ∧ (s.seen.setFlag 463 Csr.PWR_STATUS_IO_B_OK false).isSet 463 Csr.PWR_STATUS_IO_A_OK = false) := by decide

theorem witness_GroupAndRailEvents :
    111 < 112 ∧ 1709 < 1710 ∧ 1710 ≤ 1710 ∧ State.reset.seen.isSet sitePD (Csr.PWR_GRP_LOW 111) = false
    ∧ (st fun p => p.setFlag sitePD (Csr.PWR_GRP_LOW 111) true).seen.isSet sitePD (Csr.PWR_GRP_LOW 111) = true
    ∧ (st fun p => runR 0 (inR 5 0 p)).seen.dieRunning 5 = true ∧ State.reset.seen.dieRunning 5 = false
    ∧ adaptiveClock 5 5 = false ∧ adaptiveClock 464 1 = false
    ∧ (isCluster 5 3 = true ∧ ((State.reset.seen.darken 5 3).raise 5 0x030B).regionOf 5 = none
      ∧ (((st fun p => runR 0 (inR 5 0 p)).seen.darken 5 3).raise 5 0x030B).regionOf 5 = some 0)
    ∧ (isCluster 5 4 = false ∧ adaptiveClock 5 4 = true) ∧ (isCluster 464 0 = false ∧ adaptiveClock 464 0 = true) := by decide

theorem witness_SetpointCommands :
    let f (s : State) (x : Fld) : Nat := s.seen.field sitePD x
    let r := State.reset
    4 ≤ 4 ∧ 100 ≤ 100 ∧ 3 < 4 ∧ 100 < 101 ∧ 3 < 4 ∧
    (let l := st fun p => p.setField sitePD Csr.DRW_SP_TACK_SETPOINT 4
     f l Csr.DRW_SP_TACK_SETPOINT < 5) ∧ r.seen.isSet sitePD Csr.THM_FLOW_STOPPED = false
    ∧ 100 ≤ f r Csr.DRW_SP_TACK_SETPOINT ∧ 1 ≤ min 2 (f r Csr.DRW_SP_TACK_MODE)
    ∧ f (st fun p => p.setField sitePD Csr.DRW_CTRL_LEASE 0) Csr.DRW_CTRL_LEASE = 0
    ∧ (st fun p => p.setFlag sitePD Csr.DRW_STATUS_LEASE_EXP true).seen.isSet sitePD Csr.DRW_STATUS_LEASE_EXP = true
    ∧ (f r Csr.DRW_CTRL_LEASE ≠ 0 ∧ r.seen.isSet sitePD Csr.DRW_STATUS_LEASE_EXP = false)
    ∧ (let s := st fun p => ((p.setField sitePD Csr.DRW_STATUS_MODE 2).setField sitePD Csr.DRW_STATUS_BUDGET 99).setField sitePD
          Csr.DRW_STATUS_S_REQ 100
       s.seen.drawMode = 2 ∧ f s Csr.DRW_STATUS_BUDGET < f s Csr.DRW_STATUS_S_REQ)
    ∧ r.seen.drawMode ≠ 2 := by decide

theorem witness_DrawMeasurement :
    let cold := State.reset
    let warm := st fun p => p.setField 5 (Csr.PWR_DOM_STATE 3) domWarm
    let old := st fun p => { p.modDraw fun d => { d with flowAt := some 0 } with time := { now := msCycles 10 + 1 } }
    cold.seen.drawSide.flowAt = none ∧ (old.seen.drawSide.flowAt = some 0 ∧ 0 + msCycles 10 < old.p.now)
    ∧ cold.seen.warmClusters 5 = [] ∧ warm.seen.warmClusters 5 ≠ [] := by decide

theorem witness_ThermalCommands :
    let up := st fun p => (alive 5 p).setField sitePD Csr.THM_FLOW_FLOW 30
    let td := st (alive siteTD)
    State.reset.seen.tackDie = false ∧ td.seen.tackDie = true ∧ (100 ≤ 100 ∧ 1300 ≤ 1300) ∧ (99 < 100 ∧ 1300 < 1301)
    ∧ State.reset.seen.lives 5 = false ∧ (up.seen.lives 5 = true ∧ up.seen.field sitePD Csr.THM_FLOW_FLOW ≠ 0)
    ∧ (let x : List (List (Option Nat)) := []
       (if (x.flatMap id).all Option.isNone then 420 else min 1023 (hottest (x.flatMap id))) = 420) := by decide

theorem witness_ThermalCommands_halts :
    let up := st fun p => alive 5 p
    let now (x : List (List (Option Nat))) : Nat := if (x.flatMap id).all Option.isNone then 420 else min 1023 (hottest (x.flatMap id))
    let then_ (x : List (List (Option Nat))) : Panel := (up.seen.setField 5 Csr.THM_TEMP_NOW (now x)).emergencyThrottle 5 (now x)
    ¬ 4 * (then_ [[some 200]]).acting sitePD Csr.THM_CFG_HALT ≤ now [[some 200]]
    ∧ 4 * (then_ [[some 1000]]).acting sitePD Csr.THM_CFG_HALT ≤ now [[some 1000]] := by decide

theorem witness_RegionSharesAndRequests :
    (15 < 16 ∧ State.reset.seen.field sitePD (Csr.DRW_R_THERM 15) = 0)
    ∧ (st fun p => p.setField sitePD (Csr.DRW_R_THERM 15) 1).seen.field sitePD (Csr.DRW_R_THERM 15) ≠ 0
    ∧ ((State.reset.seen.region 15).sites.all fun x =>
        State.reset.seen.field x Csr.THM_TEMP_FORECAST ≤ 4 * State.reset.seen.acting sitePD Csr.THM_CFG_PRED - 20) = true
    ∧ (let s := st fun p => (runR 15 p).modRegion 15 fun g => { g with warmSince := some 0 }
       s.seen.running 15 = true ∧ (s.seen.region 15).warmSince.isSome = true ∧ (s.seen.region 15).stopped = 0
       ∧ (s.seen.region 15).abortAt = none)
    ∧ State.reset.seen.running 15 = false ∧ State.reset.seen.lockedUp 15 = false
    ∧ (let s := st fun p => (p.setField sitePD (Csr.FRM_R_STATE_STATE 15) 1).setField sitePD (Csr.FRM_R_IMP_COUNT_M1 15) 3
       s.seen.lockedUp 15 = true ∧ s.seen.isSet sitePD Csr.FRM_STATUS_BUSY = false ∧ 3 ≤ s.seen.field sitePD (Csr.FRM_R_IMP_COUNT_M1 15)
       ∧ (s.seen.region 15).impRequest = none) := by decide

/-! ### Witnesses: strokes and sheets -/

theorem witness_RegionRestarts :
    let ab (g : Region → Region) (f : Panel → Panel := id) : State := regSt (fun x => g { x with abortAt := some 0 }) f
    let settled (s : State) : Panel := (s.seen.each (s.seen.region 15).sites fun p x => p.quietDie x).dropStale 15
    let limit (s : State) : Bool := (settled s).acting sitePD (Csr.ERR_R_CFG_ABORT_LIMIT 15) ≤ (settled s).field sitePD (Csr.ERR_R_STATE_ABORTS 15)
    ((regSt id).seen.region 15).abortAt = none ∧ ((regSt id).seen.region 15).restart = none
    ∧ ((ab fun g => { g with stopAtTick := true }).seen.region 15).stopAtTick = true
    ∧ (limit (ab id fun p => p.setField sitePD (Csr.ERR_R_STATE_ABORTS 15) 255) = true)
    ∧ (limit (ab id) = false ∧ (settled (ab id)).drawMode ≠ 2)
    ∧ (settled (ab id fun p => p.setField sitePD Csr.DRW_STATUS_MODE 2)).drawMode = 2 := by decide

/-- The hypotheses of a restart that is ready. -/
theorem witness_RegionRestarts_reload :
    let s := regSt fun g => { g with restart := some (5, 0) }
    (s.seen.region 15).restart = some (5, 0) ∧ s.seen.clustersUp (s.seen.region 15).forme 0 = true ∧ s.seen.galleysIdle 15 = true
    ∧ (s.seen.region 15).forme.staged s.mem = true := by decide

theorem witness_TickIsSent :
    let may (g : Region → Region) := st fun p => (p.setFlag sitePD (Csr.STK_R_CTRL_ENABLE 15) true).modRegion 15 g
    State.reset.seen.mayTick 15 = false
    ∧ ((may id).seen.mayTick 15 = true ∧ ((may id).seen.stampTick 15).stopsNext 15 = false)
    ∧ ((may fun g => { g with stopAtTick := true }).seen.mayTick 15 = true) := by decide

theorem witness_TickIsSent_stops :
    let s := st fun p => ((p.setFlag sitePD (Csr.STK_R_CTRL_ENABLE 15) true).setFlag sitePD Csr.FRM_CTRL_AT_SHEET false).modRegion 15 fun g =>
      { g with stopAtTick := true }
    (s.seen.stampTick 15).stopsNext 15 = true := by decide

theorem witness_TicksStartStrokes_message :
    let sent (t : Nat) := st fun p => p.modServo fun v => { v with tickMsgs := [(t, 2 ^ 15)] }
    (State.reset.p.servo.tickMsgs.find? fun x => bitOf x.2 15) = none
    ∧ ((sent 0).p.servo.tickMsgs.find? fun x => bitOf x.2 15) = some (0, 2 ^ 15)
    ∧ ((sent 0).seen.modClock 5 fun k => { k with ticks := k.ticks ++ [(0, 2 ^ 15)] }).dieTime 5 ≤ 0
    ∧ (let s := st fun p => { p.modServo fun v => { v with tickMsgs := [(0, 2 ^ 15)] } with time := { now := 8 } }
       0 < (s.seen.modClock 464 fun k => { k with ticks := k.ticks ++ [(0, 2 ^ 15)] }).dieTime 464) := by decide

theorem witness_TicksStartStrokes :
    let at_ (f : Panel → Panel) (x : Nat := 5) := st fun p => f ((inR 5 15 p).modClock x fun k => { k with ticks := [(0, 2 ^ 15)] })
    5 ≠ State.reset.p.primary ∧ ((State.reset.seen.clock 5).ticks.find? fun x => bitOf x.2 15) = none
    ∧ (((at_ id).seen.clock 5).ticks.find? fun x => bitOf x.2 15) = some (0, 2 ^ 15)
    ∧ (((at_ id 400).seen.clock 400).ticks.find? fun x => bitOf x.2 15) = some (0, 2 ^ 15)
    ∧ (((at_ id 399).seen.clock 399).ticks.find? fun x => bitOf x.2 15) = some (0, 2 ^ 15) ∧ (at_ id 399).seen.regionOf 399 ≠ some 15
    ∧ ((at_ id).seen.regionOf 5 = some 15 ∧ (at_ id).seen.isSet 5 Csr.STK_STATUS_SLURRING = false)
    ∧ (at_ fun p => p.setFlag 5 Csr.STK_STATUS_SLURRING true).seen.isSet 5 Csr.STK_STATUS_SLURRING = true
    ∧ ((at_ fun p => p.setFlag 5 Csr.STK_STATUS_IN_STROKE true).seen.regulatorPeaks 5 []).isSet 5 Csr.STK_STATUS_IN_STROKE = true
    ∧ (((at_ fun p => p.setFlag 5 Csr.STK_STATUS_ENDED true).seen.regulatorPeaks 5 []).isSet 5 Csr.STK_STATUS_IN_STROKE = false
      ∧ ((at_ fun p => p.setFlag 5 Csr.STK_STATUS_ENDED true).seen.regulatorPeaks 5 []).isSet 5 Csr.STK_STATUS_ENDED = true)
    ∧ (((at_ id).seen.regulatorPeaks 5 []).isSet 5 Csr.STK_STATUS_IN_STROKE = false
      ∧ ((at_ id).seen.regulatorPeaks 5 []).isSet 5 Csr.STK_STATUS_ENDED = false) := by decide

theorem witness_TicksStartStrokes_primary :
    let sent (h : Bool) := regSt (fun g => { g with tickSent := true, first := true }) fun p =>
      (p.setFlag sitePD (Csr.STK_R_CTRL_ENABLE 15) true).modBoot fun b => { b with halted := h }
    sitePD = State.reset.p.primary ∧ (sent true).p.boot.halted = true
    ∧ ((sent false).p.boot.halted = false ∧ ((sent false).seen.region 15).tickSent = true
      ∧ (sent false).seen.isSet sitePD (Csr.STK_R_CTRL_ENABLE 15) = true ∧ ((sent false).seen.region 15).stopTick = false
      ∧ ((sent false).p.region 15).first = true) := by decide

theorem witness_StrokesEnd :
    let s (f : Panel → Panel) := st fun p => f (inR 5 15 p)
    let on := s fun p => p.setFlag 5 Csr.STK_STATUS_IN_STROKE true
    let late (l : List Nat) := s fun p => (p.modClock 5 fun k => { k with endDue := true }).modRegion 15 fun g => { g with lateEnds := l }
    let left (l : List Nat) : List Nat := ((((late l).seen.modClock 5 fun k => { k with endDue := false }).modRegion 15 fun g =>
      { g with lateEnds := g.lateEnds.filter (· ≠ 5), begun := max g.begun ((late l).seen.clock 5).strokeEnd }).region 15).lateEnds
    State.reset.seen.regionOf 5 = none ∧ ((s id).seen.regionOf 5 = some 15 ∧ (s id).seen.isSet 5 Csr.STK_STATUS_IN_STROKE = false)
    ∧ (on.seen.regionOf 5 = some 15 ∧ on.seen.isSet 5 Csr.STK_STATUS_IN_STROKE = true ∧ on.seen.strokeDone 5 = true
      ∧ (on.seen.meshFinish 5).isSet 5 Csr.STK_STATUS_SLURRING = false)
    ∧ (s fun p => (p.setFlag 5 Csr.STK_STATUS_IN_STROKE true).setField 5 Csr.STK_SEQ_PAGES 1).seen.strokeDone 5 = false
    ∧ ((s id).seen.clock 5).endDue = false
    ∧ (((late []).seen.clock 5).endDue = true ∧ ((late []).seen.region 15).lateEnds.contains 5 = false)
    ∧ (((late [5]).seen.region 15).lateEnds.contains 5 = true ∧ left [5] = []) ∧ left [5, 6] ≠ [] := by decide

theorem witness_SlurLimitAndSteps :
    ((regSt fun g => { g with slurOpen := true }).seen.region 15).slurOpen = true ∧ ((regSt id).seen.region 15).slurOpen = false := by
  decide

theorem witness_SheetsCommit :
    let due (f : Panel → Panel) := regSt (fun g => { g with commitDue := some 0 }) f
    let p (s : State) := s.seen.modRegion 15 fun g => { g with commitDue := none }
    let k : Mark := { kind := .entry, region := 15, site := 5, stroke := 0, code := 0 }
    let marked (s : State) : Bool := (p s).contain.marks.any fun k => k.region = 15 && k.stroke < (0 + 1) * s.seen.sheetLen 15
    ((regSt id).seen.region 15).commitDue = none ∧ ((due id).seen.region 15).commitDue = some 0
    ∧ marked (due fun p => p.modContain fun c => { c with marks := [k] }) = true
    ∧ (marked (due id) = false ∧ (p (due id)).populated ((p (due id)).recordSlot (due id).mem 15) = true)
    ∧ (let d := due fun p => p.setField sitePD (Csr.STK_R_COMMIT_ADDR 15) (2 ^ 47)
       marked d = false ∧ (p d).populated ((p d).recordSlot d.mem 15) = false) := by decide

theorem witness_SheetsCommit_answers :
    let m := NetMsg.setmarkAck 9 7
    let w : SheetWait := ⟨15, 7, [9], 0, 0, 0⟩
    let s (ws : List SheetWait) := st fun p => { p with net := [m], fabric := { waits := ws } }
    let q (ws : List SheetWait) : Panel := (s ws).seen.arrive m
    State.reset.seen.net.contains m = false ∧ (s []).seen.net.contains m = true ∧ (s []).p.fabric.shards = [] ∧ (s []).p.fabric.waits = []
    ∧ ((s [w]).p.fabric.resync = [] ∧ (q [w]).sheetWait (fun w => w.sheet = 7 && w.ctxs.contains 9) = some w
      ∧ ((q [w]).stillAwaited w).filter (· ≠ 9) = [])
    ∧ ((s []).seen.sheetWait fun w => w.region = 15) = none ∧ ((s [w]).seen.sheetWait fun w => w.region = 15) = some w := by decide

/-- A send shard of region 15, mirrored through a context. -/
def sendShard (n c : Nat) : Shard := { region := 15, shard := n, ctx := c, send := true, base := 0, limit := 1024 }

theorem witness_SheetsCommit_resync :
    let m := NetMsg.setmarkAck 9 7
    let w : SheetWait := ⟨15, 7, [9, 10], 0, 0, 0⟩
    let s := st fun p => { p with net := [m], fabric := { waits := [w], shards := [sendShard 0 9, sendShard 1 10] } }
    let t := st fun p => { p with net := [m], fabric := { shards := [sendShard 63 9], resync := [(63, some 7)] } }
    ((s.seen.arrive m).each ((s.seen.arrive m).fabric.shards.filter fun h => h.send && !h.stream && h.ctx = 9) fun p h =>
        p.setField sitePD (Csr.GAL_SO_ACKED h.shard) 7).stillAwaited w = [9, 10]
    ∧ (t.seen.net.contains m = true ∧ t.p.fabric.shards = [sendShard 63 9] ∧ t.p.fabric.resync = [((sendShard 63 9).shard, some 7)]
      ∧ t.p.fabric.waits = [] ∧ (sendShard 63 9).send = true ∧ (sendShard 63 9).stream = false) := by decide

/-! ### Witnesses: registers, resets, bring-up, lock-up -/

theorem witness_RegisterWriteChangesItsWord :
    let r := State.reset
    r.seen.writeLocked 5 Csr.CLK_FORCED_STRETCH.off = false ∧ r.p.writes = [] ∧ r.p.boot.cold = false ∧ dieClass 5 = .compute
    ∧ (st fun p => (runR 0 p).setFlag 5 (Csr.FAB_TRACE_VALID 1) true).seen.writeLocked 5 0x52004 = true := by decide

theorem witness_ColdResetClears :
    let up (r : Bool) := st fun p => p.modBoot fun b => { b with pwrGood := true, rstLow := r }
    let runs := st fun p => p.modBoot fun b => { b with resetting := some (1, 0, 0), phase := .waves }
    State.reset.p.boot.pwrGood = false ∧ (up false).p.boot.pwrGood = true ∧ runs.seen.coldRuns = true
    ∧ (State.reset.seen.coldRuns = false ∧ State.reset.p.boot.pwrGood = false)
    ∧ ((up true).seen.coldRuns = false ∧ (up true).p.boot.rstLow = true)
    ∧ ((up false).seen.coldRuns = false ∧ (up false).p.boot.rstLow = false) := by decide

theorem witness_ResetRequests :
    let up := st fun p => p.modBoot fun b => { b with pwrGood := true, phase := .ready }
    let lock := st fun p => { ((((inR 5 0 (p.modBoot fun b => { b with pwrGood := true, phase := .ready })).setFlag sitePD
      Csr.FRM_STATUS_BUSY true).setField sitePD Csr.FRM_STATUS_PHASE 4)) with lockUp := { defs := [{}] } }
    up.seen.resetAnswer (1 % 3) 2 0 0 0 = 0 ∧ up.seen.resetAnswer (0 % 3) 2 0 0 0 = 1
    ∧ State.reset.seen.resetAnswer (0 % 3) 3 0 0 0 = 0 ∧ up.seen.resetAnswer (1 % 3) 3 0 0 0 = 1
    ∧ up.seen.resetAnswer (0 % 3) 4 16 0 0 = 0 ∧ up.seen.resetAnswer (0 % 3) 4 15 0 0 = 1
    ∧ up.seen.resetAnswer (0 % 3) 6 0 400 0 = 0 ∧ up.seen.resetAnswer (0 % 3) 6 0 399 3 = 1
    ∧ lock.seen.resetAnswer (0 % 3) 6 0 5 3 = 2 ∧ lock.seen.resetAnswer (0 % 3) 5 0 5 0 = 2 ∧ up.p.boot.resetting ≠ some (5, 463, 0)
    ∧ up.seen.resetAnswer (0 % 3) 5 0 463 0 = 1 ∧ up.seen.resetAnswer (0 % 3) 5 0 464 0 = 0
    ∧ (st fun p => p.modBoot fun b => { b with resetting := some (5, 463, 0) }).p.boot.resetting = some (5, 463, 0) := by decide

/-- A self-test of die 5 runs. -/
def bistSt (neighbour : Bool) : State :=
  st fun p => { alive 5 p with plan := { p.plan with bists := [{ site := 5, neighbour := neighbour, kinds := 7, units := 31 }] } }

theorem witness_FieldSelfTest :
    let p (s : State) : Panel := ((s.seen.setField 5 Csr.BST_CTRL_MODE 0).setField 5 Csr.BST_CTRL_KIND 0).setField 5 Csr.BST_CTRL_UNITS 0
    let up := st (alive 5)
    State.reset.seen.lives 5 = false ∧ (up.seen.lives 5 = true ∧ up.seen.noPower 5 = false ∧ (p up).bistRefusal 5 = none)
    ∧ (p (bistSt false)).bistRefusal 5 = some 0x0E0F
    ∧ up.seen.underBist 5 = false ∧ (bistSt true).seen.underBist 5 = true
    ∧ ((bistSt false).seen.plan.bists.find? fun b => b.site = 5) = some { site := 5, neighbour := false, kinds := 7, units := 31 } := by
  decide

theorem witness_BringUpSteps :
    let ph (x : BootPhase) (n : Nat) := st fun p => p.modBoot fun b => { b with phase := x, slot := n }
    State.reset.p.tack.frames.contains .flashFree = false
    ∧ (st fun p => p.modTack fun t => { t with frames := [.flashFree] }).p.tack.frames.contains .flashFree = true
    ∧ State.reset.p.boot.phase ≠ .waves
    ∧ ((ph .waves 39).p.boot.phase = .waves ∧ (ph .waves 39).p.boot.slot < 40 ∧ (ph .waves 39).p.boot.slot ≠ 0)
    ∧ (ph .waves 0).p.boot.slot = 0
    ∧ 40 ≤ (ph .waves 40).p.boot.slot ∧ State.reset.p.boot.phase ≠ .rigging ∧ (ph .rigging 0).p.boot.phase = .rigging := by decide

theorem witness_LockUpCommands :
    let s (ph : Nat) (u : LockUp := {}) := st fun p => { (p.setField sitePD Csr.FRM_STATUS_PHASE ph).setFlag sitePD Csr.PWR_RST_STATUS_READY true with
      lockUp := u }
    let u : LockUp := { defs := [{}] }
    (st fun p => p.setFlag sitePD Csr.FRM_STATUS_BUSY true).seen.isSet sitePD Csr.FRM_STATUS_BUSY = true
    ∧ State.reset.seen.isSet sitePD Csr.PWR_RST_STATUS_READY = false
    ∧ ((s 0).seen.isSet sitePD Csr.FRM_STATUS_BUSY = false ∧ (s 0).seen.isSet sitePD Csr.PWR_RST_STATUS_READY = true)
    ∧ (let p := (s 0).seen.setFlag sitePD Csr.FRM_CTRL_START false
       p.headerOk (s 0).mem p.formeAddr (p.field sitePD Csr.FRM_SRC_LEN) = false)
    ∧ (s 1).seen.field sitePD Csr.FRM_STATUS_PHASE = 1 ∧ (s 3).seen.field sitePD Csr.FRM_STATUS_PHASE = 3
    ∧ (s 4).seen.field sitePD Csr.FRM_STATUS_PHASE = 4
    ∧ ((s 3 u).seen.lockUp.flipWaits = false ∧ (s 3 u).seen.lockDrained = true ∧ (s 3 u).seen.lockRegions = 0 :: [])
    ∧ (s 3 { u with flipWaits := true }).seen.lockUp.flipWaits = true
    ∧ (let t := (s 3 { u with hasRoutes := true }).seen.setFlag sitePD Csr.FAB_STATUS_OLD_DRAINED false
       t.lockUp.flipWaits = false ∧ t.lockDrained = false) := by decide

theorem witness_LockUpCommands_load :
    let s (ph : Nat) (u : LockUp := {}) (f : Panel → Panel := id) := st fun p => { f (p.setField sitePD Csr.FRM_STATUS_PHASE ph) with
      lockUp := u }
    let u : LockUp := { defs := [{}] }
    let q (t : State) : Panel := { t.seen with lockUp := { t.seen.lockUp with mergeSeq := t.seen.field sitePD Csr.BST_FP_SEQ } }
    let busy := s 5 u fun p => { (inR 5 0 p).modRegion 0 (fun g => { g with sites := [5] }) with galleys := [(40, [gal false false])] }
    (let t := s 5 { u with mergeSeq := State.reset.seen.field sitePD Csr.BST_FP_SEQ + 1, exact := true }
     (t.seen.setField sitePD Csr.BST_FP_DIGEST 1).recheckFails t.mem = true)
    ∧ (s 5).seen.field sitePD Csr.FRM_STATUS_PHASE = 5 ∧ (s 7).seen.field sitePD Csr.FRM_STATUS_PHASE = 7
    ∧ (s 5 u).seen.recheckFails (s 5 u).mem = false ∧ (q (s 5 { u with powering := true })).lockUp.powering = true
    ∧ ((q (s 5 u)).lockUp.powering = false ∧ (q (s 5 u)).lockRegions.all (q (s 5 u)).galleysIdle = true ∧ (q (s 5 u)).lockBist = false)
    ∧ (busy.seen.recheckFails busy.mem = false ∧ (q busy).lockRegions.all (q busy).galleysIdle = false) := by decide

/-- A full forme of one section stands at address 0; its header is legal, and its section table and its signature are zero. -/
def formeSt (keys : List KeySlot) : State :=
  let put (m : Mem) (a : Nat) (bs : List Byte) : Mem := m.write { addr := a, data := bs }
  let m := put (put (put (put {} 0 (leBytes 4 0x4D46594B ++ leBytes 2 0x0107)) 8 (leBytes 4 0x4B500007 ++ leBytes 2 1 ++ leBytes 2 1
    ++ leBytes 8 4200)) 0x48 (leBytes 4 12500)) 0x50 (leBytes 4 1 ++ leBytes 1 1)
  let m := put m 0x60 (leBytes 8 0x100)
  { st (fun p => { (p.setFlag sitePD Csr.PWR_RST_STATUS_READY true).setField sitePD Csr.FRM_SRC_LEN 4200 with
      fuses := { p.fuses with owner := keys } }) with mem := m }

theorem witness_LockUpCommands_unsigned :
    let s := formeSt []
    let p := s.seen.setFlag sitePD Csr.FRM_CTRL_START false
    p.headerOk s.mem p.formeAddr (p.field sitePD Csr.FRM_SRC_LEN) = true ∧ p.verifyForme s.mem p.formeAddr = some 0x0F01
    ∧ ((p.formeCtx s.mem p.formeAddr).firstBad.isSome && (p.formeCtx s.mem p.formeAddr).kind = 0) = true := by decide

/-- Where the owner's key, which the opaque signature functions decide, signs the forme, it is verified, and a later check refuses it. -/
theorem witness_LockUpCommands_signed (key : List Byte) (hid : keyId key = List.replicate 8 0)
    (hsig : ∀ h b, Config.ecdsaValid key h b = true) :
    let s := formeSt [{ data := key, enrolled := true }]
    let p := s.seen.setFlag sitePD Csr.FRM_CTRL_START false
    p.verifyForme s.mem 0 = none := by
  intro s p
  have h1 : p.fuses.owner = [{ data := key, enrolled := true }] := rfl
  have h2 : p.ownerSlot (s.mem.read 0x58 8) = some 0 := by
    have : s.mem.read 0x58 8 = List.replicate 8 0 := by
      show (formeSt [{ data := key, enrolled := true }]).mem.read 0x58 8 = _
      have : (formeSt [{ data := key, enrolled := true }]).mem = (formeSt []).mem := rfl
      rw [this]; decide
    rw [this, Panel.ownerSlot, h1]; simp [hid]
  have h3 : sigKeyId (s.mem.read (0 + sigOffset s.mem 0) 104) = s.mem.read (0 + 0x58) 8 := by
    have : s.mem = (formeSt []).mem := rfl
    rw [this]; decide
  unfold Panel.verifyForme
  simp only [h3, ne_eq, not_true_eq_false, if_false]
  simp only [Nat.zero_add, h2, h1]
  simp [nth, hsig]
/-! ### Witnesses: the host, tack, managers, the owner's keys -/

/-- HD is up, and so is the host's link; with DMA allowed. -/
def hostSt (f : Panel → Panel := id) : State := st fun p =>
  f (((p.setField siteHD (Csr.PWR_DOM_STATE 0) domOn).setFlag siteHD Csr.HST_STATUS_LINK_UP true).setFlag siteHD Csr.HST_CTRL_DMA_EN true)

theorem witness_HostWindows :
    let h := hostSt
    State.reset.seen.lives siteHD = false ∧ (st fun p => p.modContain fun c => { c with lost := [siteHD] }).p.contain.lost.contains siteHD = true
    ∧ (h.seen.lives siteHD = true ∧ h.p.contain.lost.contains siteHD = false)
    ∧ h.seen.isSet siteHD Csr.HST_STATUS_LINK_UP = true ∧ State.reset.seen.isSet siteHD Csr.HST_STATUS_LINK_UP = false
    ∧ State.reset.seen.hostUp = false ∧ 0x10000000 ≤ 0x10000000 ∧ (h.seen.hostUp = true ∧ 0xFFFFFFC < 0x10000000)
    ∧ (16 ≠ 4 ∧ 16 ≠ 8 ∧ 2 % 4 ≠ 0 ∧ 0xFFFFFF8 % 8 = 0) ∧ h.seen.bar0Target 0x3000000 = none ∧ h.seen.bar0Target 0x7FFFFFC = none
    ∧ (h.seen.bar0Target 0x1000000 = some (sitePD, 0) ∧ sitePD ≠ siteHD ∧ h.seen.answers sitePD = false)
    ∧ h.seen.bar0Target 0xFFFFFC = some (siteHD, 0xFFFFFC)
    ∧ (let up := hostSt fun p => p.setField sitePD (Csr.PWR_DOM_STATE 0) domOn
       up.seen.bar0Target 0x1FFFFFC = some (sitePD, 0xFFFFFC) ∧ up.seen.answers sitePD = true)
    ∧ (h.p.host.held = [] ∧ h.p.host.newBase = none ∧ 2 ^ 36 - 1 < 2 ^ 36 ∧ h.seen.bar2Holds (h.seen.b2Base + 0) = false)
    ∧ (let s := hostSt fun p => p.modMemDie 401 fun d => { d with selfRefresh := true }
       s.seen.hostUp = true ∧ s.seen.bar2Holds (s.seen.b2Base + 0) = true) := by decide

/-- A descriptor of ring 15 that has not started. -/
def hd (op : Nat) : HostDesc :=
  { op := op, fence := false, irq := false, vector := 0, tag := 0, hostAddr := 0, panelAddr := 0, length := 64, home := 5, idx := 0,
    value := 0, compl := 0, seq := 7 }

theorem witness_JobRings :
    let ring (d : HostDesc) (f : Panel → Panel := id) : State := hostSt fun p => f { p with host := { rings := [(15, [d])] } }
    let on := hostSt fun p => (p.setFlag siteHD (Csr.HST_RING_ENABLE 15) true).setField siteHD (Csr.HST_RING_SIZE 15) 4
    15 < 16 ∧ State.reset.seen.dmaUp = false
    ∧ (on.seen.dmaUp = true ∧ on.seen.isSet siteHD (Csr.HST_RING_ENABLE 15) = true)
    ∧ (let p := on.seen.setField siteHD (Csr.HST_RING_POLLS 15) (on.seen.field siteHD (Csr.HST_RING_POLLS 15) + 1)
       (16 + 2 ^ 32 - p.field siteHD (Csr.HST_RING_CONS 15)) % 2 ^ 32 ≤ 2 ^ p.acting siteHD (Csr.HST_RING_SIZE 15)
       ∧ 2 ^ p.acting siteHD (Csr.HST_RING_SIZE 15) < (17 + 2 ^ 32 - p.field siteHD (Csr.HST_RING_CONS 15)) % 2 ^ 32)
    ∧ on.seen.mayStart 15 7 = none
    ∧ ((ring (hd 1)).seen.mayStart 15 7 = some (hd 1) ∧ (hd 1).op = 1) ∧ ((ring (hd 2)).seen.mayStart 15 7 = some (hd 2) ∧ (hd 2).op = 2)
    ∧ ((ring (hd 3)).seen.mayStart 15 7 = some (hd 3) ∧ (hd 3).op = 3 ∧ (ring (hd 3)).seen.running 15 = false
      ∧ (ring (hd 3) (runR 15)).seen.running 15 = true)
    ∧ ((ring (hd 4)).seen.mayStart 15 7 = some (hd 4) ∧ (hd 4).op = 4) ∧ ((ring (hd 5)).seen.mayStart 15 7 = some (hd 5) ∧ (hd 5).op = 5)
    ∧ (let d := { hd 4 with started := some 0 }
       (ring d).seen.mayStart 15 7 = none ∧ (((ring d).seen.ring 15).find? fun d => d.seq = 7 && d.op = 4 && d.started.isSome) = some d
       ∧ (ring d).seen.running 15 = false ∧ (ring d (runR 15)).seen.running 15 = true
       ∧ reached ((ring d).seen.field ((ring d).seen.homeSiteOf 15 d.home) (Csr.STK_SYNC_CTR d.idx)) d.value = true
       ∧ reached ((ring { d with value := 1 }).seen.field ((ring { d with value := 1 }).seen.homeSiteOf 15 d.home) (Csr.STK_SYNC_CTR d.idx)) 1 = false)
    ∧ (let d := { hd 2 with started := some 0 }
       (((ring d).seen.ring 15).find? fun d => d.seq = 7 && d.op ≤ 2 && d.started.isSome) = some d ∧ (ring d).seen.dmaUp = true) := by decide

/-- A legal NOTE descriptor with SEQ 0. -/
def noteDesc : List Byte :=
  let b := leBytes 1 5 ++ List.replicate 59 0
  b ++ leBytes 4 (crc32c b)

theorem witness_JobRings_poll :
    descLegal noteDesc 0 = true ∧ descLegal noteDesc 1 = false
    ∧ (let on := hostSt fun p => (p.setFlag siteHD (Csr.HST_RING_ENABLE 15) true).setField siteHD (Csr.HST_RING_SIZE 15) 4
       let p := on.seen.setField siteHD (Csr.HST_RING_POLLS 15) (on.seen.field siteHD (Csr.HST_RING_POLLS 15) + 1)
       p.field siteHD (Csr.HST_RING_CONS 15) = 0 ∧ (1 + 2 ^ 32 - p.field siteHD (Csr.HST_RING_CONS 15)) % 2 ^ 32 = 1) := by decide

theorem witness_JobRings_reachable :
    ∃ s : State, s.seen.allReachable (hd 1).panelAddr (hd 1).length = true := ⟨hostSt, by decide⟩

/-- TD lives, and manager 3 is valid, with a change. -/
def mgr (f : Panel → Panel := id) : State := st fun p => f ((alive siteTD p).setFlag siteTD (Csr.TCK_MGR_VALID 3) true)

/-- The smallest datagram that is well in form: version 1, no body, panel identifier 0, and its CRC. -/
def gram : List Byte :=
  let b := leBytes 2 0x544B ++ leBytes 1 1 ++ List.replicate 21 0
  b ++ leBytes 4 (crc32c b)

theorem witness_ManagementPorts :
    let lost := st fun p => (alive siteTD p).modContain fun c => { c with lost := [siteTD] }
    let ref (now : Nat) := mgr fun p => { p.modTack fun t => { t with refusedAt := some 0 } with time := { now := now } }
    1 < 2 ∧ mgr.seen.tackDie = true ∧ mgr.p.tack.refusedAt = none ∧ lost.seen.tackDie = false
    ∧ ((ref 12499999).p.tack.refusedAt = some 0 ∧ (ref 12499999).p.now < 0 + 12500000)
    ∧ ((ref 12500000).p.tack.refusedAt = some 0 ∧ 0 + 12500000 ≤ (ref 12500000).p.now)
    ∧ (let m := (mgr fun p => p.modTack fun t => { t with panelId := 0 }).seen
       m.datagramBad 0 gram = false ∧ m.datagramBad 1 gram = true ∧ m.datagramBad 0 (gram ++ [0]) = true
       ∧ m.datagramBad 0 (gram.take 24 ++ [1, 2, 3, 4]) = true) ∧ 2 ≤ 2 := by decide

theorem witness_EventsAndTelemetry :
    let lan := mgr fun p => p.setField siteTD Csr.TCK_NET_STATUS_LINK 1
    let un (n : Nat) := mgr fun p => (p.setField siteTD Csr.TCK_NET_STATUS_LINK 1).modManager 3 fun g => { g with unacked := [(0, n)] }
    (mgr.seen.tackDie = true ∧ 3 ∈ mgr.seen.managersUp) ∧ 3 ∉ State.reset.seen.managersUp
    ∧ State.reset.seen.tackDie = false ∧ mgr.seen.lanUp = false ∧ (lan.seen.tackDie = true ∧ lan.seen.lanUp = true)
    ∧ (lan.p.tack.changes = [] ∧ (lan.seen.manager 3).unacked = [])
    ∧ ((un 9).seen.lanUp = true ∧ ∀ u ∈ ((un 9).seen.flushChanges.manager 3).unacked, u.2 < 10)
    ∧ ((un 10).seen.lanUp = true ∧ ∃ u ∈ ((un 10).seen.flushChanges.manager 3).unacked, 10 ≤ u.2)
    ∧ mgr.seen.field siteTD (Csr.TCK_MGR_TELEM_MS 3) = 0
    ∧ (let t := mgr fun p => (p.setField siteTD Csr.TCK_NET_STATUS_LINK 1).setField siteTD (Csr.TCK_MGR_TELEM_MS 3) 1
       t.seen.tackDie = true ∧ 3 ∈ t.seen.managersUp ∧ t.seen.field siteTD (Csr.TCK_MGR_TELEM_MS 3) ≠ 0
       ∧ t.seen.flushChanges.lanUp = true) := by decide

theorem witness_ManagerRequests :
    let r : Reply := ⟨9, 1, 0, []⟩
    let c := mgr fun p => p.modManager 3 fun m => { m with cache := [r] }
    State.reset.seen.tackDie = false ∧ mgr.seen.tackDie = true ∧ 4 ≤ 4
    ∧ State.reset.seen.isSet siteTD (Csr.TCK_MGR_VALID 3) = false ∧ (3 < 4 ∧ mgr.seen.isSet siteTD (Csr.TCK_MGR_VALID 3) = true)
    ∧ ((c.seen.manager 3).cache.find? fun r => r.txid = 9) = some r ∧ ((c.seen.manager 3).cache.find? fun r => r.txid = 8) = none
    ∧ mgr.seen.isSet siteTD (Csr.TCK_MGR_WRITE 3) = false
    ∧ (mgr fun p => p.setFlag siteTD (Csr.TCK_MGR_WRITE 3) true).seen.isSet siteTD (Csr.TCK_MGR_WRITE 3) = true
    ∧ ([] : List Byte).length ≠ 32 ∧ (List.replicate 32 (0 : Byte)).length = 32 ∧ mgr.seen.attesting = false
    ∧ (mgr fun p => p.modBoot fun b => { b with attestUntil := 1 }).seen.attesting = true := by decide

theorem witness_TackRegisterAccess :
    let up := st (alive 5)
    State.reset.seen.lives 5 = false ∧ up.seen.lives 5 = true
    ∧ (let s := st fun p => p.modAgent 5 fun a => { a with seen := [(sitePD, 10)] }
       s.seen.accepts 5 sitePD 9 = false ∧ s.seen.accepts 5 sitePD 10 = true ∧ s.seen.accepts 5 sitePD (9 + 127) = true
       ∧ s.seen.accepts 5 sitePD (9 + 128) = false ∧ s.seen.accepts 5 siteAD 9 = true)
    ∧ (6 ≠ 5 ∧ 6 ≠ 0xFFFF ∧ 16 < 17 ∧ 16 ≤ 16) := by decide

theorem witness_HeartbeatsAndFaultFrames :
    let up := st (alive 5)
    let fold (n : Nat) := st fun p => p.modAgent 5 fun a => { a with folds := [⟨0x0306, 0, .notice, n, { count := n }⟩] }
    State.reset.seen.lives 5 = false ∧ (up.seen.lives 5 = true ∧ up.p.contain.lost.contains 5 = false ∧ 5 ≠ up.p.primary)
    ∧ (tackLinks 5)[4]? = none ∧ (tackLinks 5)[0]? ≠ none
    ∧ clampTo 2 15 (State.reset.p.agent 5).miss ≠ 0
    ∧ ((State.reset.p.agent 5).folds.find? fun f => f.code = 0x0306) = none
    ∧ ((((fold 1).p.agent 5).folds.find? fun f => f.code = 0x0306).any fun f => f.count ≤ 1) = true
    ∧ ((((fold 2).p.agent 5).folds.find? fun f => f.code = 0x0306).any fun f => 1 < f.count) = true := by decide

theorem witness_HeartbeatsAndFaultFrames_heartbeats :
    let up := st fun p => alive ((tackLinks 5)[1]?.getD 0) (alive 5 p)
    ∃ i j v, i ∈ up.seen.upLinks 5 ∧ (tackLinks 5)[i]? = some v ∧ tackLinkTo v 5 = some j := by
  exact ⟨1, _, _, by decide, rfl, rfl⟩

theorem witness_HeartbeatsAndFaultFrames_miss : ∃ lost, (tackLinks 5)[0]? = some lost ∧
    SMap.get (fun _ => 0) ((st fun p => p.modAgent 5 fun a => { a with misses := [(0, 2)] }).p.agent 5).misses 0 + 1
      = clampTo 2 15 ((st fun p => p.modAgent 5 fun a => { a with misses := [(0, 2)] }).p.agent 5).miss := ⟨_, rfl, by decide⟩

/-- Die 6 misses the heartbeat of die 5; it is up beside its other neighbours or not. -/
theorem witness_HeartbeatsAndFaultFrames_loss :
    let few := st fun p => alive 5 (alive 6 p)
    let two := st fun p => alive 4 (alive 5 (alive 6 p))
    let kept (a : Nat) := two.p.modTack fun t => { t with losses := [(a, 5, 0)] }
    few.seen.lives 5 = true ∧ few.p.boot.resetting = none ∧ few.p.tack.awaitHb.contains 5 = false
    ∧ few.p.contain.lost.contains 5 = false ∧ tackLinkTo 5 6 ≠ none ∧ tackLinkTo 5 7 = none ∧ (few.seen.upLinks 5).length ≤ 1
    ∧ ¬ (two.seen.upLinks 5).length ≤ 1 ∧ two.p.tack.losses = []
    ∧ ((kept 4).tack.losses.any fun l => l.2.1 = 5 && l.1 ≠ 6) = true
    ∧ ((kept 6).tack.losses.any fun l => l.1 = 6 && l.2.1 = 5) = true
    ∧ (st fun p => p.modBoot fun b => { b with resetting := some (5, 5, 0) }).p.boot.resetting = some (5, 5, 0)
    ∧ (st fun p => p.modBoot fun b => { b with resetting := some (2, 5, 0) }).p.boot.resetting = some (2, 5, 0) := by decide

theorem witness_HeartbeatsAndFaultFrames_faults : siteAD ≠ siteTD ∧ sitePD ≠ siteTD ∧ siteAD ≠ State.reset.p.primary
    ∧ sitePD = (State.reset.seen.modTack id).primary := by decide

/-- The boot ROM waits for an image. -/
def romSt : State := st fun p => p.modBoot fun b => { b with phase := .rom }

theorem witness_FirmwareUpdate :
    State.reset.p.boot.phase ≠ .rom ∧ romSt.p.boot.phase = .rom ∧ (romSt.seen.writeChunk 0 0 []).2.2.imageCode 0 ≠ none := by decide
/-- An enrolment of slot 3 by PLDM, for the panel's serial. -/
def rec176 (serial : List Byte) : List Byte :=
  [0x4B, 0x59, 0x4F, 0x4B, 1, 3, 0, 0] ++ serial ++ List.replicate 160 0

theorem owner_record_ok (serial : List Byte) (h8 : serial.length = 8) (h : leNat serial = Config.serial.toNat) :
    State.reset.seen.ownerRecordOk true (rec176 serial) = true := by
  match serial, h8 with
  | [a, b, c, d, e, f, g, i], _ =>
    have hs : leAt (rec176 [a, b, c, d, e, f, g, i]) 8 8 = Config.serial.toNat := h
    unfold Panel.ownerRecordOk
    simp only [Bool.and_eq_true, decide_eq_true_eq, hs]
    repeat' apply And.intro
    all_goals first | rfl | exact (by decide : 3 < 4) | decide

theorem witness_OwnerKeyRecords :
    (∃ r, State.reset.seen.ownerRecordOk true r = true ∧ leAt r 5 1 < State.reset.p.fuses.owner.length ∧ leAt r 4 1 = 1)
    ∧ State.reset.seen.ownerRecordOk true [] = false := by
  refine ⟨⟨rec176 (leBytes 8 Config.serial.toNat), owner_record_ok _ (Sys2Proof.Laws.leBytes_length _ _) ?_, ?_, ?_⟩, ?_⟩
  · rw [Sys2Proof.Laws.leNat_leBytes]; exact Nat.mod_eq_of_lt Config.serial.isLt
  · decide
  · decide
  · decide

/-! ### The specification's worked examples, and hand-calculated steps of single commands -/

/-- The state after a command (the state itself where it does not answer a next one, which no command does). -/
def after (c : Instr) (s : State) : State :=
  match exec c s with
  | .next t => t
  | .fault _ => s
  | .refused _ => s

/-- Spec/06, worked example: the scale byte and the codes of 13.0, 2.6, −0.9, 0.5 and 0.25 in MXFP4. -/
theorem test_mxfp4_block :
    let xs := [f32 0x41500000, f32 0x40266666, f32 0xBF666666, f32 0x3F000000, f32 0x3E800000]
    mxScale 9 xs = 0x80 := by decide

theorem test_mxfp4_codes :
    (fmtE2M1.round true .nearest (Num.scale (-1) (f32 0x41500000)) = 0x7) ∧ fmtE2M1.round true .nearest (Num.scale (-1) (f32 0x40266666)) = 0x3
    ∧ fmtE2M1.round true .nearest (Num.scale (-1) (f32 0xBF666666)) = 0x9 ∧ fmtE2M1.round true .nearest (Num.scale (-1) (f32 0x3F000000)) = 0x0
    ∧ fmtE2M1.round true .nearest (Num.scale (-1) (f32 0x3E800000)) = 0x0 := by decide

theorem test_mxfp4_stochastic :
    let x := Num.scale (-1) (f32 0x40266666)
    fmtE2M1.round true (.stochastic 26215) x = 0x3 ∧ fmtE2M1.round true (.stochastic 26214) x = 0x2
    ∧ fmtE2M1.round true (.stochastic 32768) (Num.scale (-1) (f32 0x3F000000)) = 0x1
    ∧ fmtE2M1.round true (.stochastic 32767) (Num.scale (-1) (f32 0x3F000000)) = 0x0 := by decide

/-- Spec/06, worked example: 0x4A × 0xB3 in LL8 is −C[5] × 2⁻¹. -/
theorem test_ll8_product : llExp 0x4A = 10 ∧ llExp 0xB3 = -13 ∧ llMul 0x4A 0xB3 = llValue true (-3)
    ∧ llMul 0x4A 0xB3 = .fin true (nth llC 5 0) (-1 - 23) := by decide

/-- Spec/07, worked example: the words of the first WLOAD, of the first STREAM and of the DRAIN of half 0. -/
theorem test_dense_words :
    (wloadArgs 0x046FFFE800000100 0).bank = 0 ∧ (wloadArgs 0x046FFFE800000100 0).klen = 128 ∧ (wloadArgs 0x046FFFE800000100 0).nlen = 256
    ∧ (wloadArgs 0x046FFFE800000100 0).addr = 0x2000000 / 64 ∧ (wloadArgs 0x046FFFE800000100 0).stride = 16
    ∧ lineOk [(0, 0x046FFFE800000100)] = true ∧ lineOk [(0, 0x087003FC80000020)] = true ∧ lineOk [(0, 0x0C01FE3600000000)] = true
    ∧ drainArgs 0 0x0C01FE3600000000 = ⟨0, 256, 1, true, 0xC0000⟩ := by decide

/-- Spec/08, worked example: the SLOAD and its XIMM, and the checks of groups 0 to 3 and of the bad record 0x0B. -/
theorem test_sparse_words :
    (sloadArgs 0x0461FFFD40000002 0x0142).bank = 0 ∧ (sloadArgs 0x0461FFFD40000002 0x0142).addr = 0x2800000 / 64
    ∧ lineOk [(4, 0x0461FFFD40000002), (15, 0x0500014200000000)] = true
    ∧ (groupRule 0 128 0 0x26 = 0 ∧ groupRule 0 128 1 0x09 = 0 ∧ groupRule 0 128 2 0x12 = 0 ∧ groupRule 0 128 3 0x22 = 0)
    ∧ groupRule 0 128 1 0x0B = 1 := by decide

/-- Spec/09, worked example: the GATE word. -/
theorem test_gate_word : lineOk [(12, 0x0480148000041000)] = true := by decide

/-- Spec/10, worked example: with STRIDE 16 columns 0, 1 and 4 lie in banks 2 and 3, 18 and 19, 3 and 2; with STRIDE 65 in bank 2. -/
theorem test_banks : (bankOf 0x80000 = 2 ∧ bankOf 0x80001 = 3) ∧ (bankOf 0x80010 = 18 ∧ bankOf 0x80011 = 19)
    ∧ (bankOf 0x80040 = 3 ∧ bankOf 0x80041 = 2) ∧ ((List.range 64).all fun n => bankOf (0x80000 + 65 * n) = 2) = true := by decide

/-- Spec/11 and 12, worked examples: the effective targets of a GWAIT, and the die of channel 18. -/
theorem test_targets_and_channels : effTarget false 0 4 = 4 ∧ effTarget false 4 2 = 6 ∧ 401 + 2 * (18 / 8) = 405 := by decide

/-- Spec/12, worked example: the trace words of MD2, of site 7 and of site 8. -/
theorem test_trace_words :
    let at_ (w : Word) : Panel := ({} : Panel).setWord 7 ((Csr.FAB_TRACE_VALID 3).off) w
    ((at_ 0x1000117F).isSet 7 (Csr.FAB_TRACE_VALID 3) = true ∧ (at_ 0x1000117F).field 7 (Csr.FAB_TRACE_IN 3) = 0x3F)
    ∧ ((at_ 0x103ABD45).field 7 (Csr.FAB_TRACE_IN 3) = 5 ∧ (at_ 0x103ABD45).field 7 (Csr.FAB_TRACE_DELIVER 3) = 3)
    ∧ (at_ 0x10301575).field 7 (Csr.FAB_TRACE_IN 3) = 53 ∧ (at_ 0x10300035).field 7 (Csr.FAB_TRACE_IN 3) = 53 := by decide

/-- Spec/14, worked example: LD2, site 404, holds context 300. -/
theorem test_context_die : linkOfCtx 300 = 404 ∧ linkOfPort 9 = 404 ∧ linkOfPort 72 = 436 := by decide

/-- Spec/04, worked example: P = 125,000 at period 72 gives 140,625 nominal cycles. -/
theorem test_effective_period :
    ((({} : Panel).setField sitePD (Csr.STK_R_PERIOD 3) 125000).modRegion 3 fun g => { g with period := 72 }).effPeriod 3 = 140625 := by decide

/-- Spec/19, worked example: 240 − 228 − 0 = 12 A is less than 18 A: the turn-on of c2 of site 25 is deferred, with 0x0C07 the first
time; at a peak of 214 A it starts. -/
theorem test_turn_on_deferred :
    let s := st fun p => (p.modDomain 25 2 fun d => { d with reqOn := true }).setField 25 (Csr.PWR_DOM_STATE 2) domDark
    girthGroup 25 = 2
    ∧ (after (.turnOnAttempt 25 2 228 0) s).p.field 25 (Csr.PWR_DOM_DEFERRALS 2) = 1
    ∧ (after (.turnOnAttempt 25 2 228 0) s).p.field 25 (Csr.PWR_DOM_STATE 2) = domDark
    ∧ (after (.turnOnAttempt 25 2 228 0) s).p.field sitePD Csr.PWR_FAULT = 0x0C07
    ∧ (after (.turnOnAttempt 25 2 214 0) s).p.field 25 (Csr.PWR_DOM_STATE 2) = domTurningOn
    ∧ (after (.turnOnAttempt 25 2 214 0) s).p.field sitePD (Csr.PWR_GRP_RESERVED 2) = 18 := by decide

/-- Spec/13, worked example: sites 206 and 227 face site 207. -/
theorem test_faces : (List.range 4).map (fun e => (facing 207 e).1) = [187, 208, 227, 206] := by decide

/-- Thread 0 of die 0 may issue, with a word of instruction memory before it. -/
def armedWith (pc : Nat) (w : Word) (f : Thread → Thread := id) : State :=
  st fun p => (ready tid (p.modThread tid fun h => f { h with pc := pc })).setWord 0 (0x200000 + 4 * pc) w

/-- Spec/05, R140: ADDI is opcode 0x0F; rd 1, rs1 0, imm 0xFFFF. -/
theorem test_addi_sign_extends :
    (((after (.cmpAddi tid 1 0 0xFFFF) (armedWith 0 0x3C20FFFF)).p.thread tid).reg 1) = (0xFFFFFFFF, false)
    ∧ ((after (.cmpAddi tid 1 0 0xFFFF) (armedWith 0 0x3C20FFFF)).p.thread tid).pc = 1 := by decide

theorem test_x0_stays_zero : ((after (.cmpAddi tid 0 0 7) (armedWith 0 0x3C000007)).p.thread tid).reg 0 = (0, false) := by decide

/-- R140: an instruction that is not the one in memory does not issue. -/
theorem test_only_the_word_in_memory_issues :
    ((after (.cmpAddi tid 1 0 8) (armedWith 0 0x3C200007)).p.thread tid).pc = 0
    ∧ ((after (.cmpAddi tid 1 0 7) (armedWith 0 0x3C200007)).p.thread tid).pc = 1 := by decide

/-- R140: BEQ is opcode 0x1B; the offset −2 is from the branch. -/
theorem test_branch_is_relative :
    ((after (.cmpBeq tid 0 0 0xFFFE) (armedWith 10 0x6C00FFFE)).p.thread tid).pc = 8 := by decide

/-- R140: SW is opcode 0x19; source 2, rs1 1, imm 4. -/
theorem test_sw_stores_little_endian :
    let s := armedWith 0 0x64410004 fun h => (h.setReg 1 0x40 false).setReg 2 0x11223344 false
    (after (.cmpSw tid 2 1 4) s).mem.read (sliceAddr 0 0 0x44) 4 = [0x44, 0x33, 0x22, 0x11] := by decide

theorem test_sync_counter_wraps :
    let s := st fun p => { inR 7 0 (p.setField 7 (Csr.STK_SYNC_CTR 255) 0xFFFFFFFF) with syncRegion := [(7 * 256 + 255, 1)] }
    (after (.sadd 7 255 0x1FF 2) s).p.field 7 (Csr.STK_SYNC_CTR 255) = 1 := by decide

theorem test_memory_die_reads_foxed_after_reset :
    let k : GalKey := ⟨0, 0, 0, 0⟩
    let s := st fun p => { alive (memSite 0) p with net := [.grdReq k 0 1 0 0] }
    (after (.mdReadRequest k 0 0 []) s).p.net = [.grdRsp k [⟨List.replicate 64 0, true⟩]] := by decide

theorem test_galley_write_lands :
    let k : GalKey := ⟨0, 0, 0, 0⟩
    let s := st fun p => { alive (memSite 0) p with net := [.gwrReq k 64 [⟨List.replicate 64 0xAB, false⟩] []] }
    (after (.mdWriteRequest k []) s).mem.read 127 2 = [0xAB, 0] ∧ (after (.mdWriteRequest k []) s).mem.foxAt 64 = false
    ∧ (after (.mdWriteRequest k []) s).mem.foxAt 128 = true := by decide

theorem test_setpoint_is_clamped :
    (after (.drwSpTackWrite 3 1) State.reset).p.field sitePD Csr.DRW_SP_TACK_SETPOINT = 4
    ∧ (after (.drwSpTackWrite 3 1) State.reset).p.field sitePD Csr.DRW_FAULT = 0x1307 := by decide

/-- Spec/12, R304: a packet whose HOPS becomes 64 is discarded; one whose HOPS becomes 63 goes on, and its frame waits for its ACK. -/
theorem test_last_hop_is_dropped :
    let t (n : Nat) : State := after (.packetHop 5 0 0) (rtSt [⟨true, headFlit { h6 with hops := n }⟩] none way)
    ((t 62).p.router 5).queue 0 0 = [] ∧ ((t 62).p.bundle 5 63).replay.length = 1
    ∧ ((t 63).p.router 5).queue 0 0 = [] ∧ ((t 63).p.bundle 5 63).replay.length = 0 := by decide

theorem test_step_takes_the_front :
    (match step { State.reset with pending := [.stepAnnounce 3 77, .timeBeaconSend] } with
      | .next t => (t.pending, (t.p.region 3).step)
      | _ => ([], none)) = ([.timeBeaconSend], some 77) := by decide

theorem test_idle_panel_stands_still_without_reference :
    (match step State.reset with
      | .next t => t.p.time.now
      | _ => 1) = 0 := by decide

theorem test_time_advances_by_eight :
    (match step (st fun p => p.modBoot fun b => { b with phase := .ready }) with
      | .next t => t.p.time.now
      | _ => 0) = 8 := by decide

/-- No row of the table gives bits: no word spells a command. -/
theorem test_no_word_is_a_command : decodeTableWord 32 0 = none ∧ (State.reset.withFetchWord 32 0).pending = [] := by decide

end Sys2Proof.Tests
end

section
/-! SUPPORT. Registers as the effects of a fault leave them: which fields those effects write, that a class's fault register
lies apart from all of them, and what raising a fault does to the registers and to bring-up. -/

namespace Sys2Proof.Proofs

open Sys2Proof.Machine Sys2Proof.Laws

/-! ### What leaves the registers or bring-up alone -/

/-- A report goes out over tack alone (R527): a part of the panel that the tack side leaves alone stays. -/
theorem report_keeps {α : Type} (part : Panel → α) (hagent : ∀ p s f, part (Panel.modAgent p s f) = part p)
    (hsend : ∀ p t, part (Panel.sendTack p t) = part p) (p : Panel) (r : FaultRec) : part (p.report r) = part p := by
  unfold Panel.report
  simp only
  split
  · rfl
  · split
    · split
      · rw [hsend, hsend, hagent]
      · rw [hagent]
    · rw [hsend, hsend, hagent]

@[simp] theorem report_csr (p : Panel) (r : FaultRec) : (p.report r).csr = p.csr :=
  report_keeps (·.csr) (fun _ _ _ => rfl) (fun _ _ => rfl) p r
@[simp] theorem report_boot (p : Panel) (r : FaultRec) : (p.report r).boot = p.boot :=
  report_keeps (·.boot) (fun _ _ _ => rfl) (fun _ _ => rfl) p r
@[simp] theorem report_field (p : Panel) (r : FaultRec) (x : Nat) (g : Fld) : (p.report r).field x g = p.field x g :=
  field_of_csr (report_csr p r) x g

/-- An interrupt is an output alone (R520). -/
theorem interrupt_eq (p : Panel) (v : Nat) : p.interrupt v = { p with out := (p.interrupt v).out } := by
  unfold Panel.interrupt
  split <;> rfl

@[simp] theorem interrupt_csr (p : Panel) (v : Nat) : (p.interrupt v).csr = p.csr := by rw [interrupt_eq]
@[simp] theorem interrupt_boot (p : Panel) (v : Nat) : (p.interrupt v).boot = p.boot := by rw [interrupt_eq]
@[simp] theorem interrupt_field (p : Panel) (v x : Nat) (g : Fld) : (p.interrupt v).field x g = p.field x g :=
  field_of_csr (interrupt_csr p v) x g

/-- A part of the panel that a conditional effect keeps either way. -/
theorem ite_keeps {α : Type} (part : Panel → α) {c : Prop} [Decidable c] {p q : Panel} (h : part q = part p) :
    part (if c then q else p) = part p := by
  split
  · exact h
  · rfl

/-! ### The fields that the effects of a fault write -/

/-- The fields that the effects of a fault write: a die's ISSUING, a region's ENABLE and RUNNING, and its counts of open marks. -/
def effectFlds : List Fld :=
  Csr.STK_SEQ_STATUS_ISSUING :: (List.range 16).flatMap fun r =>
    [Csr.STK_R_CTRL_ENABLE r, Csr.STK_R_CTRL_RUNNING r, Csr.ERR_R_STATE_FOX r, Csr.ERR_R_STATE_OPEN r]

/-- Two fields have no word in common. -/
abbrev WordsApart (f g : Fld) : Prop :=
  g.place.1 / 4 + g.place.2.2 ≤ f.place.1 / 4 ∨ f.place.1 / 4 + f.place.2.2 ≤ g.place.1 / 4

/-- A field of the CSR window that shares no word with a field that the effects of a fault write. -/
def Undisturbed (g : Fld) : Prop := FldFits g ∧ ∀ e ∈ effectFlds, FldFits e ∧ WordsApart e g

theorem issuing_mem_effectFlds : Csr.STK_SEQ_STATUS_ISSUING ∈ effectFlds := List.mem_cons_self

/-- The effect fields of a region are those of its number. -/
theorem regionFld_mem_effectFlds {r : Nat} (hr : r < 16) {e : Fld}
    (he : e ∈ [Csr.STK_R_CTRL_ENABLE r, Csr.STK_R_CTRL_RUNNING r, Csr.ERR_R_STATE_FOX r, Csr.ERR_R_STATE_OPEN r]) :
    e ∈ effectFlds :=
  List.mem_cons_of_mem _ (List.mem_flatMap.2 ⟨r, List.mem_range.2 hr, he⟩)

section
variable {g : Fld} (hg : Undisturbed g)
include hg

theorem setField_keeps_undisturbed (p : Panel) (s : Nat) {e : Fld} (he : e ∈ effectFlds) (v x : Nat) :
    (p.setField s e v).field x g = p.field x g :=
  field_setField_apart p s e v x g (hg.2 e he).1 hg.1 (hg.2 e he).2

theorem setFlag_keeps_undisturbed (p : Panel) (s : Nat) {e : Fld} (he : e ∈ effectFlds) (b : Bool) (x : Nat) :
    (p.setFlag s e b).field x g = p.field x g := setField_keeps_undisturbed hg p s he _ x

theorem count_keeps_undisturbed (p : Panel) (s : Nat) {e : Fld} (he : e ∈ effectFlds) (n x : Nat) :
    (p.count s e n).field x g = p.field x g := setField_keeps_undisturbed hg p s he _ x

theorem openMark_keeps_undisturbed (p : Panel) (m : Mark) (hm : m.region < 16) (x : Nat) :
    (p.openMark m).field x g = p.field x g := by
  unfold Panel.openMark
  simp only
  split
  · rw [count_keeps_undisturbed hg _ _ (regionFld_mem_effectFlds hm (by simp)), modContain_field]
  · rw [count_keeps_undisturbed hg _ _ (regionFld_mem_effectFlds hm (by simp)), modContain_field]

theorem faultEffect_keeps_undisturbed (p : Panel) (r : FaultRec) (reg : Option Nat) (hreg : ∀ n, reg = some n → n < 16) (x : Nat) :
    (p.faultEffect r reg).field x g = p.field x g := by
  cases reg with
  | none => rfl
  | some n =>
    have hn : n < 16 := hreg n rfl
    exact ((ite_keeps (·.field x g) (setFlag_keeps_undisturbed hg _ _ issuing_mem_effectFlds _ x)).trans
      (ite_keeps (·.field x g) (openMark_keeps_undisturbed hg _ _ hn x))).trans
      (ite_keeps (·.field x g) (openMark_keeps_undisturbed hg _ _ hn x))

theorem halt_keeps_undisturbed (p : Panel) (x : Nat) : p.halt.field x g = p.field x g := by
  unfold Panel.halt
  simp only
  refine List.foldlRecOn (motive := fun q : Panel => q.field x g = p.field x g) _ _ ?_ fun q hq s _ => ?_
  · refine List.foldlRecOn (motive := fun q : Panel => q.field x g = p.field x g) _ _ (modBoot_field _ _ _ _) fun q hq r hr => ?_
    have hr : r < 16 := List.mem_range.1 hr
    rw [setFlag_keeps_undisturbed hg _ _ (regionFld_mem_effectFlds hr (by simp)),
      setFlag_keeps_undisturbed hg _ _ (regionFld_mem_effectFlds hr (by simp)), hq]
  · rw [setFlag_keeps_undisturbed hg _ _ issuing_mem_effectFlds, hq]

end

/-! ### Bring-up -/

@[simp] theorem openMark_boot (p : Panel) (m : Mark) : (p.openMark m).boot = p.boot := by
  unfold Panel.openMark
  simp only
  split <;> exact count_boot _ _ _ _

@[simp] theorem faultEffect_boot (p : Panel) (r : FaultRec) (reg : Option Nat) : (p.faultEffect r reg).boot = p.boot := by
  cases reg with
  | none => rfl
  | some n =>
    exact ((ite_keeps (·.boot) (setFlag_boot _ _ _ _)).trans (ite_keeps (·.boot) (openMark_boot _ _))).trans
      (ite_keeps (·.boot) (openMark_boot _ _))

/-- A panel-halt sets HALTED and nothing else of bring-up (R8). -/
@[simp] theorem halt_boot (p : Panel) : p.halt.boot = { p.boot with halted := true } := by
  unfold Panel.halt
  simp only
  refine List.foldlRecOn (motive := fun q : Panel => q.boot = { p.boot with halted := true }) _ _ ?_ fun q hq s _ => ?_
  · refine List.foldlRecOn (motive := fun q : Panel => q.boot = { p.boot with halted := true }) _ _ rfl fun q hq r _ => ?_
    rw [setFlag_boot, setFlag_boot, hq]
  · rw [setFlag_boot, hq]

/-! ### Raising a fault -/

/-- The fault registers of the nineteen classes. -/
def faultRegs : List Fld :=
  [Csr.FRM_FAULT, Csr.STK_FAULT, Csr.CLK_FAULT, Csr.DEN_FAULT, Csr.SPA_FAULT, Csr.JUS_FAULT_CODE, Csr.SPR_FAULT, Csr.GAL_FAULT,
    Csr.FAB_FAULT, Csr.AZL_FAULT, Csr.LNK_FAULT, Csr.PWR_FAULT, Csr.THM_FAULT, Csr.BST_FAULT, Csr.SEC_FAULT, Csr.HST_FAULT,
    Csr.TCK_FAULT, Csr.ERR_FAULT, Csr.DRW_FAULT]

theorem faultReg_mem {code : Nat} {f : Fld} (h : faultReg code = some f) : f ∈ faultRegs := by
  unfold faultReg at h
  split at h <;> cases h <;> simp [faultRegs]

/-- A fault register is 16 bits wide (X_FAULT of each chapter). -/
theorem faultReg_width {code : Nat} {f : Fld} (h : faultReg code = some f) : f.width = 16 :=
  (by decide : ∀ f ∈ faultRegs, f.width = 16) f (faultReg_mem h)

theorem faultReg_undisturbed {code : Nat} {f : Fld} (h : faultReg code = some f) : Undisturbed f := by
  have all : ∀ f ∈ faultRegs, FldFits f ∧ ∀ e ∈ effectFlds, FldFits e ∧ WordsApart e f := by
    unfold FldFits
    decide
  exact all f (faultReg_mem h)

/-- A die's region number has four bits. -/
theorem regionOf_lt {p : Panel} {s r : Nat} (h : p.regionOf s = some r) : r < 16 := by
  unfold Panel.regionOf at h
  split at h
  · cases h
    exact bitsOf_lt _ _ 4
  · cases h

/-- The code raised reads in its class's fault register. -/
theorem raiseFor_field_faultReg (p : Panel) (site code : Nat) (sev : Severity) (reg : Option Nat) (cluster detail : Nat) {f : Fld}
    (hf : faultReg code = some f) (hcode : code < 65536) (hreg : ∀ n, reg = some n → n < 16) :
    (p.raiseFor site code sev reg cluster detail).field site f = code := by
  have hu := faultReg_undisturbed hf
  have hset : (p.setField site f code).field site f = code := by
    rw [field_setField_same p site f code hu.1, faultReg_width hf]
    exact Nat.mod_eq_of_lt hcode
  unfold Panel.raiseFor
  simp only [hf]
  rw [report_field, ite_keeps (·.field site f) (interrupt_field _ _ _ _), ite_keeps (·.field site f) (halt_keeps_undisturbed hu _ _),
    ite_keeps (·.field site f) (modContain_field _ _ _ _), faultEffect_keeps_undisturbed hu _ _ _ hreg, hset]

/-- Raising a fault changes of bring-up only HALTED, and that only at panel-halt. -/
theorem raiseFor_boot (p : Panel) (site code : Nat) (sev : Severity) (reg : Option Nat) (cluster detail : Nat) :
    (p.raiseFor site code sev reg cluster detail).boot
      = if sev = .panelHalt then { p.boot with halted := true } else p.boot := by
  unfold Panel.raiseFor
  simp only
  rw [report_boot, ite_keeps (·.boot) (interrupt_boot _ _), apply_ite Panel.boot, halt_boot,
    ite_keeps (·.boot) (modContain_boot _ _), faultEffect_boot]
  cases faultReg code with
  | none => rfl
  | some f => simp only [setField_boot]

/-- Settles O9: every effect of a fault keeps the words of the fault registers, and only a panel-halt touches bring-up. -/
theorem raisedFaultIsRecorded : Obligations.RaisedFaultIsRecorded := by
  intro p site code f hf hcode
  have hboot : (p.raise site code).boot = _ := raiseFor_boot p site code (severityOf code) _ _ _
  refine ⟨raiseFor_field_faultReg _ _ _ _ _ _ _ hf hcode fun _ => regionOf_lt, raise_time _ _ _, raise_net _ _ _,
    raise_regions _ _ _, raise_writes _ _ _, fun h => ?_, fun h => ?_⟩
  · rw [hboot, if_pos h]
  · rw [hboot, if_neg h]

end Sys2Proof.Proofs
end

section
/-! SUPPORT. Register bytes bit by bit (R5). -/

namespace Sys2Proof.Proofs

open Sys2Proof.Machine Sys2Proof.Laws

theorem bitOf_eq_testBit (x i : Nat) : bitOf x i = x.testBit i := Nat.testBit_eq_decide_div_mod_eq.symm

theorem bitOf_lor (x y i : Nat) : bitOf (Nat.lor x y) i = (bitOf x i || bitOf y i) := by
  simp only [bitOf_eq_testBit]
  exact Nat.testBit_or x y i

theorem bitOf_land (x y i : Nat) : bitOf (Nat.land x y) i = (bitOf x i && bitOf y i) := by
  simp only [bitOf_eq_testBit]
  exact Nat.testBit_and x y i

/-- The complement of a byte turns each of its bits. -/
theorem bitOf_xor_255 (x : Nat) {i : Nat} (hi : i < 8) : bitOf (Nat.xor 255 x) i = !bitOf x i := by
  simp only [bitOf_eq_testBit]
  have h : Nat.testBit 255 i = true := by
    rw [show 255 = 2 ^ 8 - 1 from rfl, Nat.testBit_two_pow_sub_one, decide_eq_true hi]
  exact (Nat.testBit_xor 255 x i).trans (by rw [h, Bool.true_xor])

section
variable {site off b i : Nat} {r : RegRow} (hrow : rowOf site off = some (r, b)) (hi : i < 8)
include hrow hi

/-- A written bit of each type: kept, taken, cleared or set. -/
theorem bitOf_writeByte (old new : Nat) :
    let rw := bitOf (typeMask [.rw, .wo] b r.fields) i
    let clr := bitOf (typeMask [.w1c] b r.fields) i
    let set := bitOf (typeMask [.w1s] b r.fields) i
    bitOf (writeByte site off old new) i
      = (bitOf old i && !(rw || clr) || bitOf new i && rw || bitOf old i && clr && !bitOf new i || bitOf new i && set) := by
  simp only [writeByte, hrow, bitOf_lor, bitOf_land, bitOf_xor_255 _ hi]

theorem bitOf_readByte (v : Nat) : bitOf (readByte site off v) i = (bitOf v i && !bitOf (typeMask [.wo] b r.fields) i) := by
  simp only [readByte, hrow, bitOf_land, bitOf_xor_255 _ hi]

theorem bitOf_afterReadByte (v : Nat) :
    let rc := bitOf (typeMask [.rc] b r.fields) i
    bitOf (afterReadByte site off v) i = (bitOf v i && !rc || bitOf (resetOfFields b r.fields) i && rc) := by
  simp only [afterReadByte, hrow, bitOf_lor, bitOf_land, bitOf_xor_255 _ hi]

end

/-- Settles O10, from what a write, a read and the state after a read make of one bit. -/
theorem registerBitTypes : Obligations.RegisterBitTypes := by
  intro site off old new r b i hrow hi
  simp only [bitOf_writeByte hrow hi, bitOf_readByte hrow hi, bitOf_afterReadByte hrow hi]
  refine ⟨fun hset hrw hclr => ?sets, fun hrw hclr hset => ?takes, fun hclr hrw hset => ?clears, fun hrw hclr hset => ?stays,
    fun hwo => ?readsZero, fun hwo => ?reads, fun hrc => ?readKeeps, fun hrc => ?readResets⟩
  case sets | takes | clears | stays => simp [hset, hrw, hclr]
  case readsZero | reads => simp [hwo]
  case readKeeps | readResets => simp [hrc]

end Sys2Proof.Proofs
end

section
/-! SUPPORT. A write of a register word by REGISTER_WRITE (R5, R535, R537). -/

namespace Sys2Proof.Proofs

open Sys2Proof.Machine Sys2Proof.Laws

/-- REGISTER_WRITE is a register write on the panel as the command finds it. -/
theorem exec_registerWrite (s : State) (src site off : Nat) (v : Word) :
    exec (.registerWrite src site off v) s = .next (s.act fun m p => p.regWrite m (src % 3) site off v) := rfl

/-- A locked register ignores the write. -/
theorem regWrite_of_locked {p : Panel} {s o : Nat} (h : p.writeLocked s o = true) (m : Mem) (src : Nat) (w : Word) :
    p.regWrite m src s o w = p := if_pos h

theorem regWrite_of_unlocked {p : Panel} {s o : Nat} (h : p.writeLocked s o = false) (m : Mem) (src : Nat) (w : Word) :
    p.regWrite m src s o w = p.writeAny m src s (o / 4 * 4) (p.permitted src s (o / 4 * 4) w) :=
  if_neg (by simp [h])

/-- A compute die holds no settings of R537. -/
theorem settingsMask_compute {s : Nat} (hs : dieClass s = .compute) (o : Nat) : settingsMask s o = 0 := by
  have hTD : s ≠ siteTD := by
    rintro rfl
    exact absurd hs (by decide)
  simp [settingsMask, hs, hTD]

/-- Every source may write all of a compute die's word. -/
theorem permitted_compute {s : Nat} (hs : dieClass s = .compute) (p : Panel) (src o : Nat) (w : Word) :
    p.permitted src s o w = w := by
  unfold Panel.permitted
  simp only [settingsMask_compute hs, ite_self]
  change w &&& ~~~0#32 ||| _ &&& 0#32 = w
  rw [BitVec.and_zero, BitVec.or_zero, BitVec.not_zero, BitVec.and_allOnes]

/-- CLK_FORCED of a compute die is a plain register: its offset is none of those whose write does more (R5), so a write stores
its word under the bits' types. -/
theorem writeAny_clkForced {s : Nat} (hs : dieClass s = .compute) (p : Panel) (m : Mem) (src : Nat) (w : Word) :
    p.writeAny m src s Csr.CLK_FORCED_STRETCH.off w = p.csrWrite s Csr.CLK_FORCED_STRETCH.off w := by
  unfold Panel.writeAny
  simp only [hs]
  rfl

theorem regWrite_clkForced {p : Panel} {s : Nat} (hs : dieClass s = .compute)
    (h : p.writeLocked s Csr.CLK_FORCED_STRETCH.off = false) (m : Mem) (src : Nat) (w : Word) :
    p.regWrite m src s Csr.CLK_FORCED_STRETCH.off w = p.csrWrite s Csr.CLK_FORCED_STRETCH.off w := by
  rw [regWrite_of_unlocked h, permitted_compute hs]
  exact writeAny_clkForced hs p m src w

/-- A word written under its bits' types touches the registers alone. -/
theorem csrWrite_eq (p : Panel) (s o : Nat) (w : Word) : p.csrWrite s o w = { p with csr := (p.csrWrite s o w).csr } := rfl

/-- The panel after a command under `State.act`. -/
theorem act_p (s : State) (f : Mem → Panel → Panel) {q : Panel} (hq : f s.mem s.seen = q) :
    (s.act f).p = { q with time := if q.boot.cold then {} else s.p.time, writes := [], boot := { q.boot with cold := false } } := by
  subst hq
  rfl

theorem boot_of_not_cold {b : Boot} (h : b.cold = false) : { b with cold := false } = b := by rw [← h]

/-- An effect that changes only registers is the whole change of the state, where no cold reset is under way. -/
theorem act_of_csr {s : State} {f : Mem → Panel → Panel} {csr : SMap Word} (hf : f s.mem s.seen = { s.seen with csr := csr })
    (hcold : s.p.boot.cold = false) : (s.act f).p = { s.seen with csr := csr } ∧ (s.act f).mem = s.mem := by
  constructor
  · rw [act_p s f hf]
    simp only [State.seen, hcold, Bool.false_eq_true, if_false, boot_of_not_cold hcold]
  · change s.mem.apply (f s.mem s.seen).writes = s.mem
    rw [hf]
    exact mem_apply_nil _

/-- Settles O52: the write lock decides between no effect and the register's own, and CLK_FORCED is a plain register. -/
theorem registerWriteChangesItsWord : Obligations.RegisterWriteChangesItsWord := by
  intro s src site off v
  refine ⟨fun hlock => ?locked, fun hlock => ?unlocked, fun hlock hcold hsite => ?forced⟩
  case locked =>
    exact (exec_registerWrite s src site off v).trans (congrArg _ (act_congr s (regWrite_of_locked hlock _ _ _)))
  case unlocked =>
    exact (exec_registerWrite s src site off v).trans (congrArg _ (act_congr s (regWrite_of_unlocked hlock _ _ _)))
  case forced =>
    exact ⟨_, exec_registerWrite s src site _ v,
      act_of_csr ((regWrite_clkForced hsite hlock _ _ _).trans (csrWrite_eq _ _ _ _)) hcold⟩

end Sys2Proof.Proofs
end

section
/-! SUPPORT. The shapes of a command's effect, and what every step keeps of memory (R16, R256, R281, R282). -/

namespace Sys2Proof.Proofs

open Sys2Proof.Machine Sys2Proof.Laws

/-- Every command's effect enters the state in one of four ways. Among the commands that store nothing, those that discipline panel
time step it (R64); among those that may store, the ones that can cause a cold reset act (R502). -/
theorem exec_shape (c : Instr) (s : State) :
    (∃ f, exec c s = .next (s.quiet f)) ∨ (∃ f, exec c s = .next (s.retime f)) ∨ (∃ f, exec c s = .next (s.act f))
      ∨ ∃ f, exec c s = .next (s.store f) := by
  cases hstore : mayStore c with
  | false =>
    cases c
    case ptpMessage | ptpHoldover | timeInEdge => exact .inr (.inl ⟨_, rfl⟩)
    all_goals cases hstore <;> exact .inl ⟨_, rfl⟩
  | true =>
    cases c
    case coldReset | panelRstAssert | resetColdRequest | csrWr | csrWrite | memWrite | reset | pldmEffecter | registerWrite =>
      exact .inr (.inr (.inl ⟨_, rfl⟩))
    all_goals cases hstore <;> exact .inr (.inr (.inr ⟨_, rfl⟩))

/-- `t` has the memory of `s` after a list of writes, and no write is under way in it. -/
def Written (s t : State) : Prop := (∃ ws, t.mem = s.mem.apply ws) ∧ t.p.writes = []

theorem written_quiet (s : State) (f : Panel → Panel) : Written s (s.quiet f) := ⟨⟨[], rfl⟩, rfl⟩
theorem written_retime (s : State) (f : Panel → Panel) : Written s (s.retime f) := ⟨⟨[], rfl⟩, rfl⟩
theorem written_act (s : State) (f : Mem → Panel → Panel) : Written s (s.act f) := ⟨⟨_, rfl⟩, rfl⟩
theorem written_store (s : State) (f : Mem → Panel → Panel) : Written s (s.store f) := ⟨⟨_, rfl⟩, rfl⟩
theorem written_idle (s : State) : Written s s.idle := ⟨⟨_, rfl⟩, rfl⟩

/-- A command writes memory through its list of writes, all of which it makes. -/
theorem exec_written {c : Instr} {s t : State} (h : exec c s = .next t) : Written s t := by
  obtain ⟨f, hf⟩ | ⟨f, hf⟩ | ⟨f, hf⟩ | ⟨f, hf⟩ := exec_shape c s <;> cases h.symm.trans hf
  · exact written_quiet s f
  · exact written_retime s f
  · exact written_act s f
  · exact written_store s f

/-- A step, of a command or an idle cycle, writes memory through a list of writes, all of which it makes. -/
theorem step_written {s t : State} (h : step s = .next t) : Written s t := by
  unfold step at h
  split at h
  next =>
    cases h
    exact written_idle s
  next c rest _ =>
    obtain ⟨hmem, hnone⟩ := exec_written h
    exact ⟨hmem, hnone⟩

/-- Writes keep the canonical form of memory, so the invariant needs only that of the state before. -/
theorem inv_of_written {s t : State} (hs : s.Inv) (h : Written s t) : t.Inv := by
  obtain ⟨⟨ws, hmem⟩, hnone⟩ := h
  refine ⟨?_, hnone⟩
  unfold State.memWf
  rw [hmem]
  exact apply_wf ws s.mem hs.1

/-- Settles O4: each step applies a list of writes to memory, and each write keeps the canonical form. -/
theorem stepKeepsInvariant : Obligations.StepKeepsInvariant := fun _ _ hs h => inv_of_written hs (step_written h)

/-- Settles O3: memory after reset is empty, which is canonical (R282). -/
theorem resetMeetsInvariant : Obligations.ResetMeetsInvariant := ⟨⟨reset_mem_wf, rfl⟩, rfl, rfl⟩

end Sys2Proof.Proofs
end

section
/-! SUPPORT. Two effects that agree on the panel that a command finds are one effect of the command. -/

namespace Sys2Proof.Proofs

open Sys2Proof.Machine Sys2Proof.Laws

section
variable {c : Instr} {s : State}

theorem exec_quiet {f g : Panel → Panel} (hc : exec c s = .next (s.quiet f)) (h : f s.seen = g s.seen) :
    exec c s = .next (s.quiet g) := hc.trans (congrArg _ (quiet_congr s h))

theorem exec_store {f g : Mem → Panel → Panel} (hc : exec c s = .next (s.store f)) (h : f s.mem s.seen = g s.mem s.seen) :
    exec c s = .next (s.store g) := hc.trans (congrArg _ (store_congr s h))

theorem exec_act {f g : Mem → Panel → Panel} (hc : exec c s = .next (s.act f)) (h : f s.mem s.seen = g s.mem s.seen) :
    exec c s = .next (s.act g) := hc.trans (congrArg _ (act_congr s h))

end

/-! ### The panel after a quiet command, and the panel that a command finds -/

section
variable (s : State) (f : Panel → Panel) (x b : Nat)

theorem quiet_field (g : Fld) : (s.quiet f).p.field x g = (f s.seen).field x g :=
  field_of_csr (p := f s.seen) (q := (s.quiet f).p) rfl x g
theorem quiet_router : (s.quiet f).p.router x = (f s.seen).router x := rfl
theorem quiet_bundle : (s.quiet f).p.bundle x b = (f s.seen).bundle x b := rfl
theorem quiet_meshBuf : (s.quiet f).p.meshBuf x b = (f s.seen).meshBuf x b := rfl
theorem quiet_wire : (s.quiet f).p.wire x b = (f s.seen).wire x b := rfl

theorem seen_field (g : Fld) : s.seen.field x g = s.p.field x g := field_of_csr (p := s.p) (q := s.seen) rfl x g
theorem seen_bundle : s.seen.bundle x b = s.p.bundle x b := rfl
theorem seen_meshBuf : s.seen.meshBuf x b = s.p.meshBuf x b := rfl

end

/-- Power is read from the registers alone (PWR_DOM). -/
theorem lives_of_csr {p q : Panel} (h : q.csr = p.csr) (s : Nat) : q.lives s = p.lives s := by
  unfold Panel.lives Panel.domainUp
  rw [field_of_csr h]

end Sys2Proof.Proofs
end

section
/-! SUPPORT. The job rings (R514 to R518): what a poll, the start of a descriptor and its completion make of the panel. -/

namespace Sys2Proof.Proofs

open Sys2Proof.Machine Sys2Proof.Laws

/-! ### The commands of a ring number in range -/

section
variable {r : Nat} (hr : r < 16) (s : State) (seq : Nat)
include hr

theorem exec_ringPoll (prod : Nat) (descs : List (List Byte)) (ok : Bool) :
    exec (.ringPoll r prod descs ok) s = .next (s.quiet fun p => p.pollRing r prod descs ok) := by
  simp only [exec, execRingPoll, Nat.mod_eq_of_lt hr]

theorem exec_copyIn (rows : List Delivered) :
    exec (.copyIn r seq rows) s = .next (s.store fun m p => p.copyIn m r seq rows) := by
  simp only [exec, execCopyIn, Nat.mod_eq_of_lt hr]

theorem exec_copyOut : exec (.copyOut r seq) s = .next (s.store fun m p => p.copyOutHost m r seq) := by
  simp only [exec, execCopyOut, Nat.mod_eq_of_lt hr]

theorem exec_hostSignal : exec (.hostSignal r seq) s = .next (s.quiet fun p => p.hostSignal r seq) := by
  simp only [exec, execHostSignal, Nat.mod_eq_of_lt hr]

theorem exec_hostWait : exec (.hostWait r seq) s = .next (s.quiet fun p => p.hostWait r seq) := by
  simp only [exec, execHostWait, Nat.mod_eq_of_lt hr]

theorem exec_note : exec (.note r seq) s = .next (s.quiet fun p => p.hostNote r seq) := by
  simp only [exec, execNote, Nat.mod_eq_of_lt hr]

theorem exec_hostCopyDone : exec (.hostCopyDone r seq) s = .next (s.quiet fun p => p.copyDone r seq) := by
  simp only [exec, execHostCopyDone, Nat.mod_eq_of_lt hr]

theorem exec_hostWaitTimeout : exec (.hostWaitTimeout r seq) s = .next (s.quiet fun p => p.waitTimeout r seq) := by
  simp only [exec, execHostWaitTimeout, Nat.mod_eq_of_lt hr]

end

/-! ### Polls -/

section
variable (p : Panel) (r seq : Nat)

theorem pollRing_of_stopped (h : p.dmaUp = false ∨ p.isSet siteHD (Csr.HST_RING_ENABLE r) = false) (prod : Nat)
    (descs : List (List Byte)) (ok : Bool) : p.pollRing r prod descs ok = p :=
  if_pos (by simpa using h)

/-- The panel of a poll that reads the ring's header: it is counted (R514). -/
def polled : Panel := p.setField siteHD (Csr.HST_RING_POLLS r) (p.field siteHD (Csr.HST_RING_POLLS r) + 1)

/-- How many descriptors a poll finds past CONS. -/
def newDescs (prod : Nat) : Nat := (prod + 2 ^ 32 - (polled p r).field siteHD (Csr.HST_RING_CONS r)) % 2 ^ 32

section
variable (hup : p.dmaUp = true) (hen : p.isSet siteHD (Csr.HST_RING_ENABLE r) = true) (prod : Nat) (descs : List (List Byte))
include hup hen

theorem pollRing_failed : p.pollRing r prod descs false = p.raise siteHD 0x1005 := by
  simp [Panel.pollRing, hup, hen]

theorem pollRing_overfull (hn : 2 ^ (polled p r).acting siteHD (Csr.HST_RING_SIZE r) < newDescs p r prod) :
    p.pollRing r prod descs true
      = (((polled p r).setFlag siteHD (Csr.HST_RING_ENABLE r) false).showRings).raise siteHD 0x1009 := by
  unfold Panel.pollRing
  simp only [hup, hen, Bool.not_true, Bool.or_self, Bool.false_eq_true, if_false]
  exact if_pos hn

theorem pollRing_accepts (hn : newDescs p r prod ≤ 2 ^ (polled p r).acting siteHD (Csr.HST_RING_SIZE r)) :
    p.pollRing r prod descs true = (polled p r).acceptDescs r (descs.take (min (newDescs p r prod) 32)) := by
  unfold Panel.pollRing
  simp only [hup, hen, Bool.not_true, Bool.or_self, Bool.false_eq_true, if_false]
  exact if_neg (Nat.not_lt.2 hn)

end

/-! ### Descriptors that start -/

/-- A descriptor that may start is one of the ring with that number, not started (R516). -/
theorem mayStart_some {d : HostDesc} (h : p.mayStart r seq = some d) :
    ((p.ring r).find? fun x => x.seq = seq) = some d := by
  unfold Panel.mayStart at h
  simp only at h
  split at h
  · cases h
  next hfind =>
    split at h
    · exact hfind.trans h
    · cases h

theorem mayStart_none_of_started {d : HostDesc} (h : ((p.ring r).find? fun x => x.seq = seq) = some d) (hs : d.started.isSome = true) :
    p.mayStart r seq = none := by
  have hn : d.started.isNone = false := by simpa using hs
  unfold Panel.mayStart
  simp [h, hn]

/-- A descriptor that has started does not start again (R516). -/
theorem mayStart_startDesc {d : HostDesc} (h : p.mayStart r seq = some d) (fox : Bool) :
    (p.startDesc r d fox).mayStart r seq = none := by
  have hfind := mayStart_some p r seq h
  have hseq : d.seq = seq := by simpa using List.find?_some hfind
  refine mayStart_none_of_started _ r seq (d := { d with started := some p.now, foxed := fox }) ?_ rfl
  unfold Panel.startDesc
  rw [setRing_same, List.find?_map]
  have hcomp : ((fun x : HostDesc => decide (x.seq = seq)) ∘ fun x =>
      if x.seq = d.seq then { x with started := some p.now, foxed := fox } else x) = fun x => decide (x.seq = seq) := by
    funext x
    simp only [Function.comp_apply]
    split <;> rfl
  rw [hcomp, hfind, Option.map_some, if_pos rfl]

theorem startsNothing (h : p.mayStart r seq = none) (m : Mem) :
    (∀ rows, p.copyIn m r seq rows = p) ∧ p.copyOutHost m r seq = p ∧ p.hostSignal r seq = p ∧ p.hostNote r seq = p := by
  simp [Panel.copyIn, Panel.copyOutHost, Panel.hostSignal, Panel.hostNote, h]

section
variable {d : HostDesc} (hd : p.mayStart r seq = some d)
include hd

theorem startsOther (m : Mem) :
    (d.op ≠ 1 → ∀ rows, p.copyIn m r seq rows = p) ∧ (d.op ≠ 2 → p.copyOutHost m r seq = p)
      ∧ (d.op ≠ 3 → p.hostSignal r seq = p) ∧ (d.op ≠ 5 → p.hostNote r seq = p) := by
  simp +contextual [Panel.copyIn, Panel.copyOutHost, Panel.hostSignal, Panel.hostNote, hd]

theorem copyIn_starts (hop : d.op = 1) (m : Mem) (rows : List Delivered) :
    p.copyIn m r seq rows
      = ((p.startDesc r d ((rows.take (d.length / 64)).any (·.fox))).outsideWrites m d.panelAddr
          (rows.take (d.length / 64))).raiseIf (!p.allReachable d.panelAddr d.length) siteHD 0x1003 := by
  simp [Panel.copyIn, hd, hop]

theorem copyOut_starts (hop : d.op = 2) (m : Mem) :
    p.copyOutHost m r seq
      = (((p.outsideRows m d.panelAddr (d.length / 64)).2.startDesc r d
            ((p.outsideRows m d.panelAddr (d.length / 64)).1.any (·.fox))).each
          (p.outsideRows m d.panelAddr (d.length / 64)).1.zipIdx fun q y =>
            q.emit (.hostWrite (d.hostAddr + 64 * y.2) y.1.data y.1.fox)).raiseIf (!p.allReachable d.panelAddr d.length) siteHD 0x1003 := by
  simp [Panel.copyOutHost, hd, hop]

theorem hostSignal_runs (hop : d.op = 3) (hrun : p.running r = true) :
    p.hostSignal r seq = (p.send (.sadd (512 + r) (p.homeSiteOf r d.home) d.idx d.value)).complete r d 0 0 := by
  simp [Panel.hostSignal, hd, hop, hrun]

theorem hostSignal_stopped (hop : d.op = 3) (hrun : p.running r = false) : p.hostSignal r seq = p.complete r d 4 0 := by
  simp [Panel.hostSignal, hd, hop, hrun]

theorem hostNote_completes (hop : d.op = 5) : p.hostNote r seq = p.complete r d 0 0 := by
  simp [Panel.hostNote, hd, hop]

/-- A WAIT that starts is looked at in the panel in which it has started, where it does not start again. -/
theorem hostWait_starts (hop : d.op = 4) : p.hostWait r seq = (p.startDesc r d false).hostWait r seq := by
  conv_rhs => unfold Panel.hostWait
  unfold Panel.hostWait
  simp only [hd, hop, if_true, mayStart_startDesc p r seq hd]

end

/-! ### Descriptors that complete -/

section
variable {d : HostDesc} (hnone : p.mayStart r seq = none)
  (hd : ((p.ring r).find? fun d => d.seq = seq && d.op = 4 && d.started.isSome) = some d)

include hnone hd in
theorem hostWait_stopped (hrun : p.running r = false) : p.hostWait r seq = p.complete r d 4 0 := by
  simp only [Panel.hostWait, hnone, hd, hrun, Bool.not_false, if_true]

include hnone hd in
theorem hostWait_runs (hrun : p.running r = true) :
    p.hostWait r seq = if reached (p.field (p.homeSiteOf r d.home) (Csr.STK_SYNC_CTR d.idx)) d.value then p.complete r d 0 0 else p := by
  simp only [Panel.hostWait, hnone, hd, hrun, Bool.not_true, Bool.false_eq_true, if_false]

include hd in
theorem waitTimeout_some : p.waitTimeout r seq = (p.complete r d 3 0x1006).raise siteHD 0x1006 := by
  simp only [Panel.waitTimeout, hd]

theorem waitTimeout_none (h : ((p.ring r).find? fun d => d.seq = seq && d.op = 4 && d.started.isSome) = none) :
    p.waitTimeout r seq = p := by
  simp only [Panel.waitTimeout, h]

theorem copyDone_some (h : ((p.ring r).find? fun d => d.seq = seq && d.op ≤ 2 && d.started.isSome) = some d) :
    p.copyDone r seq = if p.dmaUp then p.complete r d (flag d.foxed) 0 else p := by
  simp only [Panel.copyDone, h]

theorem copyDone_none (h : ((p.ring r).find? fun d => d.seq = seq && d.op ≤ 2 && d.started.isSome) = none) :
    p.copyDone r seq = p := by
  simp only [Panel.copyDone, h]

end

/-! ### One descriptor of a poll -/

section
variable (b : List Byte)

theorem acceptDescs_legal (h : descLegal b (p.field siteHD (Csr.HST_RING_CONS r)) = true) :
    let c := p.field siteHD (Csr.HST_RING_CONS r)
    let q := (p.setRing r (p.ring r ++ [parseDesc b])).setField siteHD (Csr.HST_RING_CONS r) ((c + 1) % 2 ^ 32)
    p.acceptDescs r [b] = q.emit (.hostWrite (q.field siteHD (Csr.HST_RING_BASE r) + 4) (leBytes 4 ((c + 1) % 2 ^ 32)) false) := by
  simp only [Panel.acceptDescs, h, if_true]

theorem acceptDescs_illegal (h : descLegal b (p.field siteHD (Csr.HST_RING_CONS r)) = false) :
    p.acceptDescs r [b]
      = ((p.setField siteHD (Csr.HST_RING_DONE r) ((p.field siteHD (Csr.HST_RING_DONE r) + 1) % 2 ^ 32)).hostRecord (parseDesc b) 2
          0x1002).raise siteHD 0x1002 := by
  simp only [Panel.acceptDescs, h, Bool.false_eq_true, if_false]

end

end

/-- Settles O57, from the meanings of the job rings' commands case by case. -/
theorem jobRings : Obligations.JobRings := by
  intro s r seq prod descs hr
  refine ⟨fun h ok => ?stopped, fun hup hen => ⟨?failed, fun hn => ?overfull, fun hn => ?accepts, fun hn b bs hdescs hone => ?one⟩,
    fun hnone => ?nothing, fun d hd => ?starts, fun d hnone hd => ?waits, fun d hd => ?timesOut, fun hnone => ?timesOutNone,
    fun d hd => ?copied, fun hnone => ?copiedNone⟩
  case stopped => exact exec_quiet (exec_ringPoll hr s prod descs ok) (pollRing_of_stopped _ _ h _ _ _)
  case failed => exact exec_quiet (exec_ringPoll hr s prod descs false) (pollRing_failed _ _ hup hen _ _)
  case overfull => exact exec_quiet (exec_ringPoll hr s prod descs true) (pollRing_overfull _ _ hup hen _ _ hn)
  case accepts => exact exec_quiet (exec_ringPoll hr s prod descs true) (pollRing_accepts _ _ hup hen _ _ hn)
  case one =>
    subst hdescs
    have hone : newDescs s.seen r prod = 1 := hone
    have hpoll : s.seen.pollRing r prod (b :: bs) true = (polled s.seen r).acceptDescs r [b] := by
      rw [pollRing_accepts _ _ hup hen _ _ hn, hone]
      rfl
    exact ⟨fun hlegal => exec_quiet (exec_ringPoll hr s prod _ true) (hpoll.trans (acceptDescs_legal _ _ b hlegal)),
      fun hlegal => exec_quiet (exec_ringPoll hr s prod _ true) (hpoll.trans (acceptDescs_illegal _ _ b hlegal))⟩
  case nothing =>
    obtain ⟨hin, hout, hsignal, hnote⟩ := startsNothing s.seen r seq hnone s.mem
    exact ⟨fun rows => exec_store (exec_copyIn hr s seq rows) (hin rows), exec_store (exec_copyOut hr s seq) hout,
      exec_quiet (exec_hostSignal hr s seq) hsignal, exec_quiet (exec_note hr s seq) hnote⟩
  case starts =>
    obtain ⟨hin, hout, hsignal, hnote⟩ := startsOther s.seen r seq hd s.mem
    refine ⟨fun hop rows => exec_store (exec_copyIn hr s seq rows) (hin hop rows),
      fun hop => exec_store (exec_copyOut hr s seq) (hout hop), fun hop => exec_quiet (exec_hostSignal hr s seq) (hsignal hop),
      fun hop => exec_quiet (exec_note hr s seq) (hnote hop), fun rows hop => ?_, fun hop => ?_, fun hop hrun => ?_,
      fun hop hrun => ?_, fun hop => ?_, fun hop => ?_⟩
    · exact exec_store (exec_copyIn hr s seq rows) (copyIn_starts _ _ _ hd hop _ _)
    · exact exec_store (exec_copyOut hr s seq) (copyOut_starts _ _ _ hd hop _)
    · exact exec_quiet (exec_hostSignal hr s seq) (hostSignal_runs _ _ _ hd hop hrun)
    · exact exec_quiet (exec_hostSignal hr s seq) (hostSignal_stopped _ _ _ hd hop hrun)
    · exact exec_quiet (exec_hostWait hr s seq) (hostWait_starts _ _ _ hd hop)
    · exact exec_quiet (exec_note hr s seq) (hostNote_completes _ _ _ hd hop)
  case waits =>
    refine ⟨fun hrun => exec_quiet (exec_hostWait hr s seq) (hostWait_stopped _ _ _ hnone hd hrun), fun hrun hreached => ?_,
      fun hrun hreached => ?_⟩
    · exact exec_quiet (exec_hostWait hr s seq) ((hostWait_runs _ _ _ hnone hd hrun).trans (if_pos hreached))
    · exact exec_quiet (exec_hostWait hr s seq) ((hostWait_runs _ _ _ hnone hd hrun).trans (if_neg (by simp [hreached])))
  case timesOut => exact exec_quiet (exec_hostWaitTimeout hr s seq) (waitTimeout_some _ _ _ hd)
  case timesOutNone => exact exec_quiet (exec_hostWaitTimeout hr s seq) (waitTimeout_none _ _ _ hnone)
  case copied =>
    exact ⟨fun hup => exec_quiet (exec_hostCopyDone hr s seq) ((copyDone_some _ _ _ hd).trans (if_pos hup)),
      fun hup => exec_quiet (exec_hostCopyDone hr s seq) ((copyDone_some _ _ _ hd).trans (if_neg (by simp [hup])))⟩
  case copiedNone => exact exec_quiet (exec_hostCopyDone hr s seq) (copyDone_none _ _ _ hnone)

end Sys2Proof.Proofs
end

section
/-! SUPPORT. The tack mesh (R522 to R528): what heartbeats, losses, folds and frames make of the agents and the mesh. -/

namespace Sys2Proof.Proofs

open Sys2Proof.Machine Sys2Proof.Laws

/-! ### Agents and the frames on the mesh -/

theorem agent_setField (p : Panel) (s : Nat) (f : Fld) (v x : Nat) : (p.setField s f v).agent x = p.agent x := by
  unfold Panel.agent
  rw [setField_tack]

theorem agent_modAgent_other (p : Panel) (f : Agent → Agent) {s x : Nat} (h : x ≠ s) : (p.modAgent s f).agent x = p.agent x :=
  smap_get_modify_other _ _ _ h

@[simp] theorem sendTack_frames (p : Panel) (f : TackFrame) : (p.sendTack f).tack.frames = p.tack.frames ++ [f] := rfl

/-- A frame that an agent sends takes its next ID, and leaves its misses and its folds (R522). -/
theorem sendTack_agent (p : Panel) (f : TackFrame) (x : Nat) :
    ((p.sendTack f).agent x).misses = (p.agent x).misses ∧ ((p.sendTack f).agent x).folds = (p.agent x).folds := by
  unfold Panel.sendTack
  by_cases h : x = f.origin
  · subst h
    rw [modAgent_same]
    exact ⟨rfl, rfl⟩
  · rw [agent_modAgent_other _ _ h]
    exact ⟨rfl, rfl⟩

/-! ### Heartbeats (R525) -/

/-- How many slots in a row an agent has missed on a link. -/
def misses (p : Panel) (s link : Nat) : Nat := SMap.get (fun _ => 0) (p.agent s).misses link

/-- The agent beyond link `i` of die `s` hears its heartbeat. -/
def hearHb (s : Nat) (p : Panel) (i : Nat) : Panel :=
  match (tackLinks s)[i]? with
  | none => p
  | some n => match tackLinkTo n s with
    | none => p
    | some j =>
      let p := p.modAgent n fun a => { a with misses := SMap.set (fun _ => 0) a.misses j 0 }
      p.setField n Csr.TCK_STATUS_HB_OK (putBits (p.field n Csr.TCK_STATUS_HB_OK) j 1 1)

theorem upLinks_modTack (p : Panel) (f : Tack → Tack) (hf : (f p.tack).agents = p.tack.agents) (s : Nat) :
    (p.modTack f).upLinks s = p.upLinks s := by
  have hagent : (p.modTack f).agent s = p.agent s := congrArg (SMap.get (fun _ => ({} : Agent)) · s) hf
  unfold Panel.upLinks
  congr 1
  funext i
  unfold Panel.tackUp
  simp only [hagent, lives_of_csr (modTack_csr p f)]

/-- A live die's heartbeat is heard over each of its up links; the acting primary die then settles losses. -/
theorem heartbeat_alive (p : Panel) (s : Nat) (hl : p.lives s = true) (hlost : p.contain.lost.contains s = false) :
    p.heartbeat s
      = (let q := (p.upLinks s).foldl (hearHb s) (p.modTack fun t => { t with awaitHb := t.awaitHb.filter (· ≠ s) })
         if s = q.primary then q.settleLosses else q) := by
  unfold Panel.heartbeat
  simp only [hl, hlost, Bool.not_true, Bool.or_self, Bool.false_eq_true, if_false]
  rw [upLinks_modTack p (fun t => { t with awaitHb := t.awaitHb.filter (· ≠ s) }) rfl]
  rfl

theorem hearHb_of_link (p : Panel) {s i v j : Nat} (hv : (tackLinks s)[i]? = some v) (hj : tackLinkTo v s = some j) :
    misses (hearHb s p i) v j = 0 := by
  unfold hearHb misses
  simp only [hv, hj, agent_setField, modAgent_same, smap_get_set_same]

/-- Hearing a heartbeat changes of tack no more than misses, which it only ends. -/
theorem hearHb_keeps (s i : Nat) (p : Panel) : (hearHb s p i).primary = p.primary ∧ (hearHb s p i).tack.awaitHb = p.tack.awaitHb
    ∧ ∀ v j, misses p v j = 0 → misses (hearHb s p i) v j = 0 := by
  unfold hearHb
  split
  · exact ⟨rfl, rfl, fun _ _ h => h⟩
  next n _ =>
    split
    · exact ⟨rfl, rfl, fun _ _ h => h⟩
    next k _ =>
      refine ⟨?_, by rw [setField_tack]; rfl, fun v j h => ?_⟩
      · unfold Panel.primary
        rw [setField_boot]
        rfl
      · unfold misses at h ⊢
        rw [agent_setField]
        by_cases hv : v = n
        · subst hv
          rw [modAgent_same]
          by_cases hj : j = k
          · subst hj
            exact smap_get_set_same (fun _ => 0) (p.agent v).misses j 0
          · exact (smap_get_set_other (fun _ => 0) (p.agent v).misses 0 hj).trans h
        · rwa [agent_modAgent_other _ _ hv]

theorem hearHbs_keep (s : Nat) (l : List Nat) : ∀ p : Panel, (l.foldl (hearHb s) p).primary = p.primary
    ∧ (l.foldl (hearHb s) p).tack.awaitHb = p.tack.awaitHb ∧ ∀ v j, misses p v j = 0 → misses (l.foldl (hearHb s) p) v j = 0 := by
  induction l with
  | nil => exact fun p => ⟨rfl, rfl, fun _ _ h => h⟩
  | cons i l ih =>
    intro p
    obtain ⟨hprim, hawait, hmiss⟩ := ih (hearHb s p i)
    obtain ⟨hprim', hawait', hmiss'⟩ := hearHb_keeps s i p
    exact ⟨hprim.trans hprim', hawait.trans hawait', fun v j h => hmiss v j (hmiss' v j h)⟩

/-- Every agent beyond a link of the list has heard the heartbeat. -/
theorem hearHbs_misses (s : Nat) (l : List Nat) {i v j : Nat} (hi : i ∈ l) (hv : (tackLinks s)[i]? = some v)
    (hj : tackLinkTo v s = some j) : ∀ p : Panel, misses (l.foldl (hearHb s) p) v j = 0 := by
  induction l with
  | nil => cases hi
  | cons k l ih =>
    intro p
    rcases List.mem_cons.1 hi with rfl | hl
    · exact (hearHbs_keep s l _).2.2 v j (hearHb_of_link p hv hj)
    · exact ih hl _

/-- What a heartbeat of a live die does that is not the acting primary die. -/
theorem heartbeat_heard (p : Panel) (s : Nat) (hl : p.lives s = true) (hlost : p.contain.lost.contains s = false) (hs : s ≠ p.primary) :
    (p.heartbeat s).tack.awaitHb = p.tack.awaitHb.filter (· ≠ s)
      ∧ ∀ i j v, i ∈ p.upLinks s → (tackLinks s)[i]? = some v → tackLinkTo v s = some j → misses (p.heartbeat s) v j = 0 := by
  obtain ⟨hprim, hawait, -⟩ := hearHbs_keep s (p.upLinks s) (p.modTack fun t => { t with awaitHb := t.awaitHb.filter (· ≠ s) })
  have heq := heartbeat_alive p s hl hlost
  simp only at heq
  rw [if_neg (hprim ▸ hs)] at heq
  rw [heq]
  exact ⟨hawait, fun i j v hi hv hj => hearHbs_misses s _ hi hv hj _⟩

/-- A missed heartbeat counts, and at MISS in a row it sends the loss (R525). -/
theorem missHeartbeat_counts (p : Panel) {s link lost : Nat} (h : (tackLinks s)[link]? = some lost) :
    misses (p.missHeartbeat s link) s link = misses p s link + 1
      ∧ (misses p s link + 1 = clampTo 2 15 (p.agent s).miss → .loss s lost (p.now / slotCycles) ∈ (p.missHeartbeat s link).tack.frames) := by
  unfold Panel.missHeartbeat
  simp only [h, agent_setField, modAgent_same]
  constructor
  · unfold misses
    split
    · rw [(sendTack_agent _ _ _).1, agent_setField, modAgent_same, smap_get_set_same]
    · rw [agent_setField, modAgent_same, smap_get_set_same]
  · intro hmiss
    rw [if_pos (show SMap.get _ (p.agent s).misses link + 1 = _ from hmiss), sendTack_frames]
    refine List.mem_append_right _ (List.mem_singleton.2 ?_)
    unfold Panel.now Panel.dieTime Panel.clock
    rw [setField_time, setField_boot, setField_clocks]
    rfl

/-! ### Losses (R526) -/

/-- A die under an ordered reset: of that die, or of the panel (R526). -/
def resetOrdered (p : Panel) (die : Nat) : Bool :=
  match p.boot.resetting with
  | some (5, s, _) => s = die
  | some (scope, _, _) => scope ≤ 2
  | none => false

/-- The same as a proposition. -/
def ResetOrdered (p : Panel) (die : Nat) : Prop :=
  match p.boot.resetting with
  | some (5, s, _) => s = die
  | some (scope, _, _) => scope ≤ 2
  | none => False

theorem resetOrdered_iff (p : Panel) (die : Nat) : resetOrdered p die = true ↔ ResetOrdered p die := by
  unfold resetOrdered ResetOrdered
  split <;> simp

/-- A loss that is not looked into: of a die that is dark, under an ordered reset, not heard of yet, lost already, or not watched. -/
def lossIdle (p : Panel) (watcher lost : Nat) : Bool :=
  !p.lives lost || resetOrdered p lost || p.tack.awaitHb.contains lost || p.contain.lost.contains lost
    || (tackLinkTo lost watcher).isNone

/-- A loss that another link confirms, or that stands alone. -/
def lossSure (p : Panel) (watcher lost : Nat) : Bool :=
  decide ((p.upLinks lost).length ≤ 1) || p.tack.losses.any fun l => l.2.1 = lost && l.1 ≠ watcher

section
variable (p : Panel) (watcher lost slot : Nat)

theorem lossIdle_iff : lossIdle p watcher lost = true ↔ p.lives lost = false ∨ ResetOrdered p lost ∨ p.tack.awaitHb.contains lost = true
    ∨ p.contain.lost.contains lost = true ∨ tackLinkTo lost watcher = none := by
  simp only [lossIdle, Bool.or_eq_true, Bool.not_eq_true', Option.isNone_iff_eq_none, resetOrdered_iff, or_assoc]

theorem lossSure_iff : lossSure p watcher lost = true
    ↔ (p.upLinks lost).length ≤ 1 ∨ (p.tack.losses.any fun l => l.2.1 = lost && l.1 ≠ watcher) = true := by
  simp only [lossSure, Bool.or_eq_true, decide_eq_true_eq]

end

/-! ### Fault frames and folds (R527, R528) -/

/-- What a FAULT frame does once it is off the mesh and its agents are noted. -/
theorem takeFault_eq (p : Panel) (m : Mem) (dst : Nat) (r : FaultRec) (via : List Nat) : p.takeFault m dst r via
    = (let q := (p.modTack fun t => { t with frames := t.frames.erase (.fault dst r) }).stuckAgents dst via
       if dst = siteTD then (q.queueEvent r).flushChanges
       else if dst = q.primary then (if q.contain.lost.contains siteTD then q.smbEvent dst r else q).actOnFault m r
       else q) := rfl

section
variable (p : Panel) (s code : Nat)

theorem endFold_none (h : (p.agent s).folds.find? (fun f => f.code = code) = none) : p.endFold s code = p := by
  simp only [Panel.endFold, h]

variable {f : Fold} (h : (p.agent s).folds.find? (fun f => f.code = code) = some f)
include h

theorem endFold_single (hf : f.count ≤ 1) :
    p.endFold s code = p.modAgent s fun a => { a with folds := a.folds.filter fun g => g.code ≠ code } := by
  simp only [Panel.endFold, h, hf, if_true]

/-- A fold of more than one fault goes out to the acting primary die and to TD (R528). -/
theorem endFold_sends (hf : 1 < f.count) :
    (p.endFold s code).tack.frames = p.tack.frames
      ++ [.fault p.primary { f.last with count := f.count, sev := f.sev }, .fault siteTD { f.last with count := f.count, sev := f.sev }] := by
  simp only [Panel.endFold, h, Nat.not_le.2 hf, if_false, sendTack_frames, List.append_assoc]
  rfl

end

/-! ### Register access and floods (R522, R523) -/

section
variable (p : Panel) (site origin id : Nat)

/-- The panel once an agent has noted a beacon, off the mesh when every agent has. -/
def beaconNoted : Panel :=
  if (p.note site origin id).floodOver origin id then
    (p.note site origin id).modTack fun t => { t with frames := t.frames.erase (.dist origin) }
  else p.note site origin id

theorem takeControl_seen (h : TackHeader) (c : Control) (hacc : p.accepts site h.origin h.id = false) :
    p.takeControl site h c = p := by
  simp only [Panel.takeControl, hacc, Bool.not_false, if_true]

theorem takeControl_new (h : TackHeader) (c : Control) (hacc : p.accepts site h.origin h.id = true) :
    p.takeControl site h c
      = (let q := (p.note site h.origin h.id).dropFlood site h c
         if h.dst = site || h.dst = 0xFFFF then q.actControl site c else q) := by
  simp only [Panel.takeControl, hacc, Bool.not_true, Bool.false_eq_true, if_false]

end

theorem exec_distBeacon_seen (s : State) {site origin id : Nat} (h : s.seen.accepts site origin id = false) (hops : Nat) :
    exec (.distBeacon site origin id hops) s = .next (s.quiet fun p => p) :=
  exec_quiet rfl (by simp only [h, Bool.not_false, if_true])

/-- The distance that a beacon of a corner shows at a die (R523). -/
theorem exec_distBeacon_new (s : State) {site origin id : Nat} (h : s.seen.accepts site origin id = true) (hops : Nat) :
    exec (.distBeacon site origin id hops) s = .next (s.quiet fun p =>
      let q := beaconNoted p site origin id
      if origin = sitePD then q.setField site Csr.TCK_DIST_PD hops
      else if origin = siteAD then q.setField site Csr.TCK_DIST_AD hops
      else if origin = siteTD then q.setField site Csr.TCK_DIST_TD hops
      else q) := by
  refine exec_quiet rfl ?_
  simp only [h, Bool.not_true, Bool.false_eq_true, if_false]
  rfl

/-! ### The statement -/

theorem tackHeartbeats (s : State) (site : Nat) :
    (s.seen.lives site = false ∨ s.p.contain.lost.contains site = true →
      exec (.tackHbSend site) s = .next (s.store fun _ p => p))
    ∧ (s.seen.lives site = true → s.p.contain.lost.contains site = false → ∃ t, exec (.tackHbSend site) s = .next t
        ∧ t.p.time = s.p.time
        ∧ (site ≠ s.p.primary → t.p.tack.awaitHb = s.p.tack.awaitHb.filter (· ≠ site)
          ∧ ∀ i j v, i ∈ s.seen.upLinks site → (tackLinks site)[i]? = some v → tackLinkTo v site = some j →
            SMap.get (fun _ => 0) (t.p.agent v).misses j = 0)) := by
  refine ⟨fun h => exec_store rfl (if_pos ?_), fun hl hlost => ⟨_, rfl, rfl, fun hs => heartbeat_heard s.seen site hl hlost hs⟩⟩
  rcases h with hl | hlost
  · simp only [hl, Bool.not_false, Bool.true_or]
  · simp only [Bool.or_eq_true]
    exact .inr hlost

/-- Settles O58, clause by clause from the meanings of the tack commands. -/
theorem tackMesh : Obligations.TackMesh := by
  refine ⟨fun s site link lost n => ⟨(tackHeartbeats s site).1, (tackHeartbeats s site).2, fun h => ?noLink, fun h => ?miss,
      ⟨fun hidle => ?lossIdle, fun hidle hsure => ?lossSure, fun hidle hsure hnew => ?lossWaits, fun hidle hsure hold => ?lossAgain⟩,
      fun r via dst => ⟨fun hdst => ?faultTD, fun hTD hdst => ?faultPrimary, fun hTD hdst => ?faultElse⟩,
      fun h => ?noFold, fun f h => ⟨fun hf => ?foldSingle, fun hf => ?foldSends⟩⟩,
    fun s req site off n v => ⟨fun hl => ?dark, fun hl => ?live, ?csrRsp, fun origin hops h => ?seen, fun hops h => ?beaconPD,
      fun origin f hops h horigin => ?beacon, fun h c hacc => ?ctlSeen, fun h c hacc hdst hall => ?ctlPass, fun h c hacc hdst => ?ctlActs,
      fun hn => ?lerr, fun hn => ?fewLerr⟩⟩
  case noLink => exact exec_quiet rfl (by simp only [Panel.missHeartbeat, h]; rfl)
  case miss =>
    obtain ⟨hcount, hsend⟩ := missHeartbeat_counts s.seen h
    exact ⟨_, rfl, hcount, hsend, rfl, rfl⟩
  case lossIdle => exact exec_store rfl (if_pos ((lossIdle_iff _ _ _).2 hidle))
  case lossSure =>
    exact exec_store rfl ((if_neg (mt (lossIdle_iff _ _ _).1 hidle)).trans (if_pos ((lossSure_iff _ _ _).2 hsure)))
  case lossWaits =>
    exact exec_store rfl ((if_neg (mt (lossIdle_iff _ _ _).1 hidle)).trans
      ((if_neg (mt (lossSure_iff _ _ _).1 hsure)).trans (if_neg (ne_true_of_eq_false hnew))))
  case lossAgain =>
    exact exec_store rfl ((if_neg (mt (lossIdle_iff _ _ _).1 hidle)).trans
      ((if_neg (mt (lossSure_iff _ _ _).1 hsure)).trans (if_pos hold)))
  case faultTD => exact exec_store rfl ((takeFault_eq _ _ _ _ _).trans (if_pos hdst))
  case faultPrimary => exact exec_store rfl ((takeFault_eq _ _ _ _ _).trans ((if_neg hTD).trans (if_pos hdst)))
  case faultElse => exact exec_store rfl ((takeFault_eq _ _ _ _ _).trans ((if_neg hTD).trans (if_neg hdst)))
  case noFold => exact exec_quiet rfl (endFold_none s.seen site n h)
  case foldSingle =>
    refine ⟨_, exec_quiet rfl (g := fun p => p.modAgent site fun a => { a with folds := a.folds.filter fun g => g.code ≠ n })
      (endFold_single s.seen site n h hf), rfl, ?_, rfl, rfl⟩
    exact congrArg Agent.folds (modAgent_same s.seen site _)
  case foldSends => exact ⟨_, rfl, endFold_sends s.seen site n h hf, rfl, rfl⟩
  case dark =>
    exact ⟨exec_quiet rfl (if_pos (by simp only [hl, Bool.not_false])), exec_act rfl (if_pos (by simp only [hl, Bool.not_false]))⟩
  case live =>
    have hdark : ¬ ((!s.seen.lives site) = true) := by simp [hl]
    refine ⟨⟨_, exec_quiet rfl (g := fun p => (p.regRead site (off / 4 * 4)).2.sendTack
      (.csrRsp req site off (BitVec.ofNat 32 (p.regRead site (off / 4 * 4)).1))) (if_neg hdark), ?_, rfl, rfl⟩, exec_act rfl (if_neg hdark)⟩
    exact List.mem_append_right _ (List.mem_singleton_self _)
  case csrRsp => exact ⟨_, rfl, rfl, rfl, rfl, rfl⟩
  case seen => exact exec_distBeacon_seen s h hops
  case beaconPD =>
    refine ⟨_, exec_distBeacon_new s h hops, ?_, rfl, rfl⟩
    exact field_setField_same _ site Csr.TCK_DIST_PD hops (by unfold FldFits; decide)
  case beacon =>
    refine ⟨_, exec_distBeacon_new s h hops, ?_, rfl, rfl⟩
    obtain ⟨rfl, rfl⟩ | ⟨rfl, rfl⟩ := horigin
    · exact field_setField_same _ site Csr.TCK_DIST_AD hops (by unfold FldFits; decide)
    · exact field_setField_same _ site Csr.TCK_DIST_TD hops (by unfold FldFits; decide)
  case ctlSeen => exact exec_store rfl (takeControl_seen _ _ h c hacc)
  case ctlPass => exact exec_store rfl ((takeControl_new _ _ h c hacc).trans (if_neg (by simp [hdst, hall])))
  case ctlActs => exact exec_store rfl ((takeControl_new _ _ h c hacc).trans (if_pos (by simpa using hdst)))
  case lerr => exact exec_quiet rfl (if_pos (by simpa using hn))
  case fewLerr => exact exec_quiet rfl (if_neg (by simpa using hn))

end Sys2Proof.Proofs
end

section
/-! SUPPORT. Counts of the current stroke, fields of one word, and the faults that a class's register shows. -/

namespace Sys2Proof.Proofs

open Sys2Proof.Machine Sys2Proof.Laws

/-! ### Counts of the current stroke -/

theorem tallyWord_setTallyWords_below (p : Panel) (s o v n o' : Nat) (h : o' / 4 < o / 4) :
    (p.setTallyWords s o v n).tallyWord s o' = p.tallyWord s o' := by
  induction n generalizing p o v with
  | zero => rfl
  | succ n ih =>
    simp only [Panel.setTallyWords]
    rw [ih _ _ _ (by omega)]
    exact smap_get_set_other _ _ _ (by unfold csrKey; omega)

theorem tallyWords_lt (p : Panel) (s o n : Nat) : p.tallyWords s o n < 2 ^ (32 * n) := by
  induction n generalizing o with
  | zero => exact Nat.one_pos
  | succ n ih =>
    have hw := (p.tallyWord s o).isLt
    have h : (p.tallyWords s (o + 4) n + 1) * 2 ^ 32 ≤ 2 ^ (32 * n) * 2 ^ 32 := Nat.mul_le_mul_right _ (ih (o + 4))
    rw [show 32 * (n + 1) = 32 * n + 32 by ring, pow_add]
    simp only [Panel.tallyWords]
    omega

theorem tallyWords_setTallyWords_same (p : Panel) (s o v n : Nat) :
    (p.setTallyWords s o v n).tallyWords s o n = v % 2 ^ (32 * n) := by
  induction n generalizing p o v with
  | zero => exact (Nat.mod_one v).symm
  | succ n ih =>
    have hword : (({ p with tallies := SMap.set (fun _ => 0) p.tallies (csrKey s o) (BitVec.ofNat 32 v) } : Panel).tallyWord s o)
        = BitVec.ofNat 32 v := smap_get_set_same (fun _ => (0 : Word)) p.tallies _ _
    simp only [Panel.setTallyWords, Panel.tallyWords]
    rw [ih, tallyWord_setTallyWords_below _ _ _ _ _ _ (by omega), hword, show 32 * (n + 1) = 32 + 32 * n by ring, pow_add,
      Nat.mod_mul, BitVec.toNat_ofNat]

/-- A count taken adds up, saturating at its width (R86). -/
theorem tallyOf_tally_same (p : Panel) (s : Nat) (f : Fld) (k : Nat) :
    (p.tally s f k).tallyOf s f = min (2 ^ f.width - 1) (p.tallyOf s f + k) := by
  have hb : f.place.2.1 + f.width ≤ 32 * f.place.2.2 := by
    unfold Fld.place
    simp only
    omega
  have hmin : min (2 ^ f.width - 1) (p.tallyOf s f + k) < 2 ^ f.width := by
    have := Nat.two_pow_pos f.width
    omega
  conv_lhs => unfold Panel.tallyOf Panel.tally
  simp only
  rw [tallyWords_setTallyWords_same, Nat.mod_eq_of_lt (putBits_lt _ _ _ _ _ (tallyWords_lt _ _ _ _) hb), bitsOf_putBits_same,
    Nat.mod_eq_of_lt hmin]

/-- A count depends on the counts alone. -/
theorem tallyOf_of_tallies {p q : Panel} (h : q.tallies = p.tallies) (s : Nat) (f : Fld) : q.tallyOf s f = p.tallyOf s f := by
  have hwords (o n : Nat) : q.tallyWords s o n = p.tallyWords s o n := by
    induction n generalizing o with
    | zero => rfl
    | succ n ih =>
      simp only [Panel.tallyWords, ih]
      unfold Panel.tallyWord
      rw [h]
  unfold Panel.tallyOf
  simp only [hwords]

theorem quiet_tallyOf (s : State) (f : Panel → Panel) (x : Nat) (g : Fld) : (s.quiet f).p.tallyOf x g = (f s.seen).tallyOf x g :=
  tallyOf_of_tallies (p := f s.seen) (q := (s.quiet f).p) rfl x g

theorem seen_tallyOf (s : State) (x : Nat) (g : Fld) : s.seen.tallyOf x g = s.p.tallyOf x g :=
  tallyOf_of_tallies (p := s.p) (q := s.seen) rfl x g

/-! ### Fields -/

/-- A field within one word reads as written, wherever its register stands. -/
theorem field_setField_word (p : Panel) (s : Nat) (f : Fld) (v : Nat) (h : f.place.2.2 = 1) :
    (p.setField s f v).field s f = v % 2 ^ f.width := by
  have hb : f.place.2.1 + f.width ≤ 32 := by
    unfold Fld.place at h ⊢
    simp only at h ⊢
    omega
  have hone (q : Panel) (o : Nat) : q.words s o 1 = (q.word s o).toNat := by simp [Panel.words]
  unfold Panel.setField Panel.field
  simp only [h, hone, Panel.setWords, word_setWord_same, BitVec.toNat_ofNat]
  rw [Nat.mod_eq_of_lt (putBits_lt _ _ _ _ 32 (BitVec.isLt _) hb), bitsOf_putBits_same]

theorem field_lt (p : Panel) (s : Nat) (f : Fld) : p.field s f < 2 ^ f.width := bitsOf_lt _ _ _

theorem raise_field_faultReg (p : Panel) (site code : Nat) {f : Fld} (hf : faultReg code = some f) (hcode : code < 65536) :
    (p.raise site code).field site f = code :=
  raiseFor_field_faultReg _ _ _ _ _ _ _ hf hcode fun _ => regionOf_lt

end Sys2Proof.Proofs
end

section
/-! SUPPORT. Bundle ends (R318 to R325): what a frame that leaves changes, and the credits in use. -/

namespace Sys2Proof.Proofs

open Sys2Proof.Machine Sys2Proof.Laws

/-! ### One bundle end -/

theorem bundle_modBundle_other (p : Panel) (f : BundleEnd → BundleEnd) {s b s' b' : Nat} (h : bundleKey s' b' ≠ bundleKey s b) :
    (p.modBundle s b f).bundle s' b' = p.bundle s' b' := smap_get_modify_other _ _ _ h

/-- A change that keeps a part of the bundle end that it changes keeps that part of every bundle end. -/
theorem bundle_modBundle_keeps {α : Type} (part : BundleEnd → α) (p : Panel) (s b : Nat) (f : BundleEnd → BundleEnd)
    (h : ∀ x, part (f x) = part x) (s' b' : Nat) : part ((p.modBundle s b f).bundle s' b') = part (p.bundle s' b') := by
  by_cases hk : bundleKey s' b' = bundleKey s b
  · have hsame : (p.modBundle s b f).bundle s' b' = f (p.bundle s' b') := by
      unfold Panel.modBundle Panel.bundle
      rw [hk]
      exact smap_get_modify_same _ _ _ _
    rw [hsame, h]
  · rw [bundle_modBundle_other _ _ hk]

/-! ### Frames that leave -/

/-- A bundle end without the credits that it owes its peer: what a frame that leaves keeps of it. -/
def settled (x : BundleEnd) : BundleEnd := { x with owed := [] }

/-- `q` differs from `p` in the credits owed to peers and in outputs alone: what telling a peer something may change (R321, R324). -/
def Told (p q : Panel) : Prop :=
  (∃ bundles out, q = { p with bundles := bundles, out := out }) ∧ ∀ s b, settled (q.bundle s b) = settled (p.bundle s b)

theorem told_refl (p : Panel) : Told p p := ⟨⟨_, _, rfl⟩, fun _ _ => rfl⟩

theorem told_trans {p q r : Panel} (h : Told p q) (h' : Told q r) : Told p r := by
  obtain ⟨⟨_, _, rfl⟩, hb⟩ := h
  obtain ⟨⟨_, _, rfl⟩, hb'⟩ := h'
  exact ⟨⟨_, _, rfl⟩, fun s b => (hb' s b).trans (hb s b)⟩

theorem told_emit (p : Panel) (o : Out) : Told p (p.emit o) := ⟨⟨_, _, rfl⟩, fun _ _ => rfl⟩

theorem told_modBundle (p : Panel) (s b : Nat) (f : BundleEnd → BundleEnd) (h : ∀ x, settled (f x) = settled x) :
    Told p (p.modBundle s b f) := ⟨⟨_, _, rfl⟩, bundle_modBundle_keeps settled p s b f h⟩

theorem told_sendFrame (p : Panel) (s b : Nat) (f : SentFrame) : Told p (p.sendFrame s b f) := by
  unfold Panel.sendFrame
  simp only
  refine told_trans ?_ (told_emit _ _)
  split
  · split
    · exact told_refl p
    · exact told_modBundle p s b _ fun _ => rfl
  · split
    · exact told_refl p
    · exact told_modBundle p s b _ fun _ => rfl

theorem told_sendControlFrame (p : Panel) (s b kind : Nat) : Told p (p.sendControlFrame s b kind) := told_sendFrame _ _ _ _

theorem told_tellPeer (p : Panel) (s b : Nat) : Told p (p.tellPeer s b) := by
  unfold Panel.tellPeer
  split
  · exact told_sendControlFrame _ _ _ _
  · split
    · exact told_sendControlFrame _ _ _ _
    · exact told_refl p

theorem told_returnCredit (p : Panel) (s b buf : Nat) : Told p (p.returnCredit s b buf) :=
  told_trans (told_modBundle p s b (fun x => { x with owed := SMap.modify (fun _ => 0) x.owed buf (· + 1) }) fun _ => rfl)
    (told_tellPeer _ _ _)

section
variable {p q : Panel} (h : Told p q)
include h

theorem told_csr : q.csr = p.csr := by obtain ⟨⟨_, _, rfl⟩, -⟩ := h; rfl
theorem told_tallies : q.tallies = p.tallies := by obtain ⟨⟨_, _, rfl⟩, -⟩ := h; rfl
theorem told_routers : q.routers = p.routers := by obtain ⟨⟨_, _, rfl⟩, -⟩ := h; rfl
theorem told_mesh : q.mesh = p.mesh := by obtain ⟨⟨_, _, rfl⟩, -⟩ := h; rfl
theorem told_meshWire : q.meshWire = p.meshWire := by obtain ⟨⟨_, _, rfl⟩, -⟩ := h; rfl

theorem told_field (x : Nat) (g : Fld) : q.field x g = p.field x g := field_of_csr (told_csr h) x g
theorem told_tallyOf (s : Nat) (f : Fld) : q.tallyOf s f = p.tallyOf s f := tallyOf_of_tallies (told_tallies h) s f
theorem told_router (s : Nat) : q.router s = p.router s := by unfold Panel.router; rw [told_routers h]
theorem told_meshBuf (s b : Nat) : q.meshBuf s b = p.meshBuf s b := by unfold Panel.meshBuf; rw [told_mesh h]
theorem told_wire (s b : Nat) : q.wire s b = p.wire s b := by unfold Panel.wire; rw [told_meshWire h]

theorem told_rxSeq (s b : Nat) : (q.bundle s b).rxSeq = (p.bundle s b).rxSeq :=
  (congrArg BundleEnd.rxSeq (h.2 s b) :)
theorem told_inUse (s b c : Nat) : (q.bundle s b).inUse c = (p.bundle s b).inUse c :=
  (congrArg (fun x : BundleEnd => SMap.get (fun _ => 0) x.used c) (h.2 s b) :)

end

end Sys2Proof.Proofs
end

section
/-! SUPPORT. MESH_WORD_ARRIVE (R78, R80, R295, R331): what a word that leaves the wire does at its end. -/

namespace Sys2Proof.Proofs

open Sys2Proof.Machine Sys2Proof.Laws

/-! ### Registers and faults leave bundle ends and crossings -/

theorem setField_bundle (p : Panel) (s : Nat) (f : Fld) (v s' b : Nat) : (p.setField s f v).bundle s' b = p.bundle s' b := by
  unfold Panel.bundle
  rw [setField_bundles]

theorem setField_meshBuf (p : Panel) (s : Nat) (f : Fld) (v s' b : Nat) : (p.setField s f v).meshBuf s' b = p.meshBuf s' b := by
  unfold Panel.meshBuf
  rw [setField_mesh]

theorem setField_wire (p : Panel) (s : Nat) (f : Fld) (v s' b : Nat) : (p.setField s f v).wire s' b = p.wire s' b := by
  unfold Panel.wire
  rw [setField_meshWire]

theorem raise_bundle (p : Panel) (site code s b : Nat) : (p.raise site code).bundle s b = p.bundle s b := by
  unfold Panel.bundle
  rw [raise_bundles]

theorem raise_meshBuf (p : Panel) (site code s b : Nat) : (p.raise site code).meshBuf s b = p.meshBuf s b := by
  unfold Panel.meshBuf
  rw [raise_mesh]

theorem raise_wire (p : Panel) (site code s b : Nat) : (p.raise site code).wire s b = p.wire s b := by
  unfold Panel.wire
  rw [raise_meshWire]

/-! ### What a word does at its end -/

theorem ackFrame_rxSeq (p : Panel) (s b : Nat) : ((p.ackFrame s b).bundle s b).rxSeq = ((p.bundle s b).rxSeq + 1) % 512 := by
  unfold Panel.ackFrame
  rw [modBundle_same]

section
variable (p : Panel) (s b : Nat) (w : MeshWord)

theorem bufferWord_meshBuf : (p.bufferWord s b w).meshBuf s b = p.meshBuf s b ++ [w] :=
  (setField_meshBuf _ _ _ _ _ _).trans (setMeshBuf_same _ _ _ _)

/-- CLK_XING of the edge keeps the highest occupancy of a buffer that is not full (R78). -/
theorem highWater_le_bufferWord (h : (p.meshBuf s b).length < 16) :
    p.field s (Csr.CLK_XING_HIGH_WATER (b / 16)) ≤ (p.bufferWord s b w).field s (Csr.CLK_XING_HIGH_WATER (b / 16)) := by
  have hword : (Csr.CLK_XING_HIGH_WATER (b / 16)).place.2.2 = 1 := by
    simp only [Fld.place, Csr.CLK_XING_HIGH_WATER]
    omega
  have hlt : p.field s (Csr.CLK_XING_HIGH_WATER (b / 16)) < 2 ^ 5 := field_lt _ _ _
  refine (field_setField_word _ s _ _ hword).symm ▸ ?_
  rw [List.length_append, List.length_singleton]
  change _ ≤ _ % 2 ^ 5
  omega

theorem landWord_buffers (h : p.awaited s b = none ∨ p.meshBuf s b ≠ []) : p.landWord s b w = p.bufferWord s b w := by
  unfold Panel.landWord
  rcases h with h | h
  · simp only [h, ite_self]
  · simp only [List.isEmpty_iff, h, if_false]

theorem landWord_awaited {stamp : Nat} {ka : Bool} (hbuf : p.meshBuf s b = []) (h : p.awaited s b = some (stamp, ka)) :
    p.landWord s b w = if w.stamp ≠ stamp then (p.raise s 0x0303).returnCredit s b 6
      else if w.ka ≠ ka then (p.raise s 0x090D).returnCredit s b 6 else p.bufferWord s b w := by
  simp only [Panel.landWord, hbuf, h, List.isEmpty_nil, if_true]

/-- A discarded word shows its fault, and leaves the buffer. -/
theorem discardWord {code : Nat} {f : Fld} (hf : faultReg code = some f) (hcode : code < 65536) :
    ((p.raise s code).returnCredit s b 6).field s f = code ∧ ((p.raise s code).returnCredit s b 6).meshBuf s b = p.meshBuf s b := by
  have h := told_returnCredit (p.raise s code) s b 6
  exact ⟨(told_field h _ _).trans (raise_field_faultReg p s code hf hcode), (told_meshBuf h _ _).trans (raise_meshBuf _ _ _ _ _)⟩

/-- Landing changes neither the SEQ of its bundle end nor the wire. -/
theorem landWord_keeps : ((p.landWord s b w).bundle s b).rxSeq = (p.bundle s b).rxSeq ∧ (p.landWord s b w).wire s b = p.wire s b := by
  have hbuffer : ((p.bufferWord s b w).bundle s b).rxSeq = (p.bundle s b).rxSeq ∧ (p.bufferWord s b w).wire s b = p.wire s b :=
    ⟨congrArg BundleEnd.rxSeq (setField_bundle _ _ _ _ _ _), setField_wire _ _ _ _ _ _⟩
  have hdiscard (code : Nat) : (((p.raise s code).returnCredit s b 6).bundle s b).rxSeq = (p.bundle s b).rxSeq
      ∧ ((p.raise s code).returnCredit s b 6).wire s b = p.wire s b := by
    have h := told_returnCredit (p.raise s code) s b 6
    exact ⟨(told_rxSeq h s b).trans (congrArg BundleEnd.rxSeq (raise_bundle _ _ _ _ _)), (told_wire h s b).trans (raise_wire _ _ _ _ _)⟩
  unfold Panel.landWord
  split
  · split
    · exact hdiscard _
    · split
      · exact hdiscard _
      · exact hbuffer
  · exact hbuffer

/-- A frame at a tied end: the end's fault and count, and what stays (R331). -/
theorem tiedFrame_counts (buf : Option Nat) :
    (p.tiedFrame s b buf).field s Csr.AZL_FAULT = 0x0A09
      ∧ (p.tiedFrame s b buf).tallyOf s (Csr.AZL_BERR_CRC b)
          = min (2 ^ (Csr.AZL_BERR_CRC b).width - 1) (p.tallyOf s (Csr.AZL_BERR_CRC b) + 1)
      ∧ (p.tiedFrame s b buf).meshBuf s b = p.meshBuf s b ∧ (p.tiedFrame s b buf).wire s b = p.wire s b
      ∧ ((p.tiedFrame s b buf).bundle s b).rxSeq = (p.bundle s b).rxSeq := by
  have htold : Told ((p.tally s (Csr.AZL_BERR_CRC b) 1).raise s 0x0A09) (p.tiedFrame s b buf) := by
    unfold Panel.tiedFrame
    cases buf with
    | none => exact told_tellPeer _ _ _
    | some k => exact told_returnCredit _ _ _ _
  refine ⟨(told_field htold _ _).trans (raise_field_faultReg _ _ _ rfl (by decide)),
    ((told_tallyOf htold _ _).trans (tallyOf_of_tallies (raise_tallies _ _ _) _ _)).trans (tallyOf_tally_same _ _ _ _), ?_, ?_, ?_⟩
  · refine ((told_meshBuf htold s b).trans (raise_meshBuf _ _ _ _ _)).trans ?_
    unfold Panel.meshBuf
    rw [tally_mesh]
  · refine ((told_wire htold s b).trans (raise_wire _ _ _ _ _)).trans ?_
    unfold Panel.wire
    rw [tally_meshWire]
  · refine ((told_rxSeq htold s b).trans (congrArg BundleEnd.rxSeq (raise_bundle _ _ _ _ _))).trans ?_
    unfold Panel.bundle
    rw [tally_bundles]

end

/-! ### A word that leaves the wire -/

section
variable (p : Panel) (site b : Nat) (ws : List MeshWord)

/-- A word has left the wire, and its SEQ is taken. -/
def tookWord : Panel := (p.setWire site b ws).ackFrame site b

theorem tookWord_wire : (tookWord p site b ws).wire site b = ws := setWire_same _ _ _ _

theorem tookWord_rxSeq : ((tookWord p site b ws).bundle site b).rxSeq = ((p.bundle site b).rxSeq + 1) % 512 := ackFrame_rxSeq _ _ _

theorem tookWord_meshBuf : (tookWord p site b ws).meshBuf site b = p.meshBuf site b := rfl

theorem tookWord_field (x : Nat) (g : Fld) : (tookWord p site b ws).field x g = p.field x g :=
  field_of_csr (p := p) (q := tookWord p site b ws) rfl x g

theorem tookWord_tallyOf (x : Nat) (g : Fld) : (tookWord p site b ws).tallyOf x g = p.tallyOf x g :=
  tallyOf_of_tallies (p := p) (q := tookWord p site b ws) rfl x g

end

/-! ### The command -/

section
variable {s : State} {site b : Nat} {w : MeshWord} {ws : List MeshWord}

theorem exec_meshWord_stays (h : s.seen.wire site b = [] ∨ 16 ≤ (s.seen.meshBuf site b).length ∨ s.seen.routes site = false) :
    exec (.meshWordArrive site b) s = .next (s.quiet id) := by
  refine exec_quiet rfl ?_
  simp only
  split
  · rfl
  next w ws hw =>
    refine if_pos ?_
    have h : 16 ≤ (s.seen.meshBuf site b).length ∨ s.seen.routes site = false := h.resolve_left (by simp [hw])
    simpa using h

section
variable (hw : s.seen.wire site b = w :: ws) (hlen : (s.seen.meshBuf site b).length < 16) (hr : s.seen.routes site = true)
include hw hlen hr

theorem exec_meshWord_leaves : exec (.meshWordArrive site b) s = .next (s.quiet fun p =>
    if p.edgeCut site (b / 16) then p.setWire site b ws
    else if p.edgeTied site (b / 16) then (tookWord p site b ws).tiedFrame site b (some 6)
    else ((tookWord p site b ws).landWord site b w).tellPeer site b) := by
  refine exec_quiet rfl ?_
  have hcut : (s.seen.setWire site b ws).edgeCut site (b / 16) = s.seen.edgeCut site (b / 16) := by
    unfold Panel.edgeCut
    rw [setWire_field]
  have htied : (s.seen.setWire site b ws).edgeTied site (b / 16) = s.seen.edgeTied site (b / 16) := by
    unfold Panel.edgeTied
    rw [setWire_field]
  simp only [hw, hr, Nat.not_le.2 hlen, decide_false, Bool.not_true, Bool.or_self, Bool.false_eq_true, if_false, hcut, htied,
    tookWord]

theorem exec_meshWord_cut (hcut : s.seen.edgeCut site (b / 16) = true) :
    exec (.meshWordArrive site b) s = .next (s.quiet fun p => p.setWire site b ws) :=
  exec_quiet (exec_meshWord_leaves hw hlen hr) (if_pos hcut)

theorem exec_meshWord_tied (hcut : s.seen.edgeCut site (b / 16) = false) (htied : s.seen.edgeTied site (b / 16) = true) :
    exec (.meshWordArrive site b) s
      = .next (s.quiet fun p => (tookWord p site b ws).tiedFrame site b (some 6)) :=
  exec_quiet (exec_meshWord_leaves hw hlen hr) ((if_neg (ne_true_of_eq_false hcut)).trans (if_pos htied))

theorem exec_meshWord_lands (hcut : s.seen.edgeCut site (b / 16) = false) (htied : s.seen.edgeTied site (b / 16) = false) :
    exec (.meshWordArrive site b) s
      = .next (s.quiet fun p => ((tookWord p site b ws).landWord site b w).tellPeer site b) :=
  exec_quiet (exec_meshWord_leaves hw hlen hr)
    ((if_neg (ne_true_of_eq_false hcut)).trans (if_neg (ne_true_of_eq_false htied)))

end

end

section
variable (p : Panel) (site b : Nat) (w : MeshWord) (ws : List MeshWord)

/-- A word at a tied edge is discarded and counted with 0x0A09 (R331). -/
theorem wordTied (q : Panel) (hq : (tookWord p site b ws).tiedFrame site b (some 6) = q) :
    q.wire site b = ws ∧ (q.bundle site b).rxSeq = ((p.bundle site b).rxSeq + 1) % 512
      ∧ q.field site Csr.AZL_FAULT = 0x0A09 ∧ q.meshBuf site b = p.meshBuf site b
      ∧ q.tallyOf site (Csr.AZL_BERR_CRC b) = min (2 ^ (Csr.AZL_BERR_CRC b).width - 1) (p.tallyOf site (Csr.AZL_BERR_CRC b) + 1) := by
  obtain ⟨hfault, htally, hbuf, hwire, hseq⟩ := tiedFrame_counts (tookWord p site b ws) site b (some 6)
  rw [hq] at hfault htally hbuf hwire hseq
  rw [hwire, hseq, htally, tookWord_wire, tookWord_rxSeq, tookWord_tallyOf]
  exact ⟨rfl, rfl, hfault, hbuf, rfl⟩

/-- A word at an open edge takes its SEQ and enters the buffer, unless it is awaited and is not the word awaited (R78, R80). -/
theorem wordLands (hlen : (p.meshBuf site b).length < 16) (q : Panel)
    (hq : ((tookWord p site b ws).landWord site b w).tellPeer site b = q) :
    q.wire site b = ws ∧ (q.bundle site b).rxSeq = ((p.bundle site b).rxSeq + 1) % 512
      ∧ ((p.setWire site b ws).awaited site b = none ∨ p.meshBuf site b ≠ [] → q.meshBuf site b = p.meshBuf site b ++ [w]
        ∧ p.field site (Csr.CLK_XING_HIGH_WATER (b / 16)) ≤ q.field site (Csr.CLK_XING_HIGH_WATER (b / 16)))
      ∧ ∀ stamp ka, p.meshBuf site b = [] → (p.setWire site b ws).awaited site b = some (stamp, ka) →
        (w.stamp ≠ stamp → q.field site Csr.CLK_FAULT = 0x0303 ∧ q.meshBuf site b = [])
        ∧ (w.stamp = stamp → w.ka ≠ ka → q.field site Csr.FAB_FAULT = 0x090D ∧ q.meshBuf site b = [])
        ∧ (w.stamp = stamp → w.ka = ka → q.meshBuf site b = [w]) := by
  have htold := told_tellPeer ((tookWord p site b ws).landWord site b w) site b
  rw [hq] at htold
  obtain ⟨hseq, hwire⟩ := landWord_keeps (tookWord p site b ws) site b w
  refine ⟨(told_wire htold _ _).trans (hwire.trans (tookWord_wire _ _ _ _)),
    (told_rxSeq htold _ _).trans (hseq.trans (tookWord_rxSeq _ _ _ _)), fun hopen => ?_, fun stamp ka hempty haw => ?_⟩
  · rw [told_meshBuf htold, told_field htold, landWord_buffers (tookWord p site b ws) site b w hopen, bufferWord_meshBuf,
      ← tookWord_field p site b ws]
    exact ⟨rfl, highWater_le_bufferWord (tookWord p site b ws) site b w hlen⟩
  · rw [told_meshBuf htold, told_field htold, told_field htold, landWord_awaited (tookWord p site b ws) site b w hempty haw]
    refine ⟨fun hne => ?_, fun heq hka => ?_, fun heq hka => ?_⟩
    · rw [if_pos hne]
      obtain ⟨hfault, hkept⟩ := discardWord (tookWord p site b ws) site b (code := 0x0303) rfl (by decide)
      exact ⟨hfault, hkept.trans hempty⟩
    · rw [if_neg (not_not_intro heq), if_pos hka]
      obtain ⟨hfault, hkept⟩ := discardWord (tookWord p site b ws) site b (code := 0x090D) rfl (by decide)
      exact ⟨hfault, hkept.trans hempty⟩
    · rw [if_neg (not_not_intro heq), if_neg (not_not_intro hka), bufferWord_meshBuf, tookWord_meshBuf, hempty]
      rfl

end

end Sys2Proof.Proofs
end

section
/-! SUPPORT. PACKET_HOP (R302 to R310): what a head flit, a data flit and a due TRUNC do at a router. -/

namespace Sys2Proof.Proofs

open Sys2Proof.Machine Sys2Proof.Laws

/-! ### Routers -/

@[simp] theorem queue_setQueue_same (r : Router) (i c : Nat) (l : List QueuedFlit) : (r.setQueue i c l).queue i c = l :=
  smap_get_set_same (fun _ => ([] : List QueuedFlit)) r.queues _ _
@[simp] theorem queue_setOpen (r : Router) (i c : Nat) (o : Option OpenPacket) : (r.setOpen i c o).queue = r.queue := rfl
@[simp] theorem open_setQueue (r : Router) (i c : Nat) (l : List QueuedFlit) : (r.setQueue i c l).open_ = r.open_ := rfl
@[simp] theorem open_setOpen_same (r : Router) (i c : Nat) (o : Option OpenPacket) : (r.setOpen i c o).open_ i c = o :=
  smap_get_set_same (fun _ => (none : Option OpenPacket)) r.sending _ _

/-- REINED alone follows the queues: a change of registers that leaves every word but that of FAB_STATUS (R311). -/
theorem showQueues_eq (p : Panel) (s : Nat) : p.showQueues s = { p with csr := (p.showQueues s).csr } := by
  have hfold (l : List Nat) : ∀ p : Panel, l.foldl (fun p c => p.rein s c (p.longestQueue s c)) p
      = { p with csr := (l.foldl (fun p c => p.rein s c (p.longestQueue s c)) p).csr } := by
    induction l with
    | nil => exact fun _ => rfl
    | cons c l ih =>
      intro p
      have hrein : p.rein s c (p.longestQueue s c) = { p with csr := (p.rein s c (p.longestQueue s c)).csr } := setField_eq _ _ _ _
      rw [List.foldl_cons, ih, hrein]
  exact hfold _ p

theorem showQueues_router (p : Panel) (s x : Nat) : (p.showQueues s).router x = p.router x := by
  rw [showQueues_eq]
  rfl

theorem showQueues_bundle (p : Panel) (s x b : Nat) : (p.showQueues s).bundle x b = p.bundle x b := by
  rw [showQueues_eq]
  rfl

/-- A field that shares no word with REINED stays as the queues are shown. -/
theorem showQueues_field (p : Panel) (s x : Nat) {g : Fld} (hg : FldFits g) (ha : WordsApart Csr.FAB_STATUS_REINED g) :
    (p.showQueues s).field x g = p.field x g := by
  have hfit : FldFits Csr.FAB_STATUS_REINED := by unfold FldFits; decide
  refine List.foldlRecOn (motive := fun q : Panel => q.field x g = p.field x g) _ _ rfl fun q hq c _ => ?_
  exact (field_setField_apart q s _ _ x g hfit hg ha).trans hq

/-! ### Flits that leave -/

section
variable (p : Panel) (s i c : Nat)

theorem popFlit_told : Told (p.modRouter s fun r => r.setQueue i c ((r.queue i c).drop 1)) (p.popFlit s i c) := by
  unfold Panel.popFlit
  simp only
  split
  · exact told_returnCredit _ _ _ _
  · exact told_refl _

theorem popFlit_router : (p.popFlit s i c).router s = ((p.router s).setQueue i c (((p.router s).queue i c).drop 1)) :=
  (told_router (popFlit_told p s i c) s).trans (modRouter_same _ _ _)

/-- The head of a packet has left for an output, and its input's class goes on with the packet. -/
def headPasses (h : PacketHead) (out : Nat) : Panel :=
  (p.modRouter s fun r => r.setOpen i c (if h.len = 0 then none else some ⟨out, h, 1, h.len⟩)).popFlit s i c

theorem headPasses_router (h : PacketHead) (out : Nat) :
    ((headPasses p s i c h out).router s).queue i c = ((p.router s).queue i c).drop 1
      ∧ ((headPasses p s i c h out).router s).open_ i c = if h.len = 0 then none else some ⟨out, h, 1, h.len⟩ := by
  unfold headPasses
  rw [popFlit_router, modRouter_same]
  simp

theorem headPasses_keeps (h : PacketHead) (out x : Nat) (g : Fld) (b k : Nat) :
    (headPasses p s i c h out).field x g = p.field x g
      ∧ ((headPasses p s i c h out).bundle s b).inUse k = (p.bundle s b).inUse k := by
  have htold := popFlit_told (p.modRouter s fun r => r.setOpen i c (if h.len = 0 then none else some ⟨out, h, 1, h.len⟩)) s i c
  exact ⟨(told_field htold x g).trans ((modRouter_field _ _ _ _ _).trans (modRouter_field _ _ _ _ _)), told_inUse htold s b k⟩

/-- A data flit has left, or is discarded, and its input's class goes on with the packet. -/
def flitPasses (o : OpenPacket) : Panel := (p.passFlit s i c o).popFlit s i c

theorem flitPasses_router (o : OpenPacket) :
    ((flitPasses p s i c o).router s).queue i c = ((p.router s).queue i c).drop 1
      ∧ ((flitPasses p s i c o).router s).open_ i c
          = if o.left ≤ 1 then none else some { o with gone := o.gone + 1, left := o.left - 1 } := by
  unfold flitPasses Panel.passFlit
  rw [popFlit_router, modRouter_same]
  simp

theorem flitPasses_keeps (o : OpenPacket) (x : Nat) (g : Fld) (b k : Nat) :
    (flitPasses p s i c o).field x g = p.field x g
      ∧ ((flitPasses p s i c o).bundle s b).inUse k = (p.bundle s b).inUse k := by
  have htold := popFlit_told (p.passFlit s i c o) s i c
  exact ⟨(told_field htold x g).trans ((modRouter_field _ _ _ _ _).trans (modRouter_field _ _ _ _ _)), told_inUse htold s b k⟩

/-- A lost message is gone from the fabric (R304, R310); nothing else changes. -/
theorem loseMessage_eq (h : PacketHead) :
    p.loseMessage h = { p with net := (p.loseMessage h).net, injected := (p.loseMessage h).injected } := by
  unfold Panel.loseMessage
  simp only
  split <;> rfl

theorem dropPacket_router (h : PacketHead) (code : Nat) (counter : Fld) (x : Nat) :
    (p.dropPacket s h code counter).router x = p.router x := by
  unfold Panel.dropPacket Panel.router
  rw [raise_routers, tally_routers, loseMessage_eq]

theorem dropPacket_fault (h : PacketHead) (code : Nat) (counter : Fld) {f : Fld} (hf : faultReg code = some f) (hcode : code < 65536) :
    (p.dropPacket s h code counter).field s f = code := raise_field_faultReg _ _ _ hf hcode

/-- A unit takes a credit of its buffer (R324). -/
theorem sendUnit_inUse (b k : Nat) (u : Flit) : ((p.sendUnit s b k u).bundle s b).inUse k = (p.bundle s b).inUse k + 1 := by
  unfold Panel.sendUnit Panel.sendReplayable
  simp only
  refine (told_inUse (told_sendFrame _ _ _ _) s b k).trans ?_
  rw [modBundle_same, modBundle_same]
  exact smap_get_set_same (fun _ => 0) (p.bundle s b).used k ((p.bundle s b).inUse k + 1)

theorem sendUnit_router (b k : Nat) (u : Flit) (x : Nat) : (p.sendUnit s b k u).router x = p.router x := by
  unfold Panel.sendUnit Panel.sendReplayable
  exact told_router (told_sendFrame _ _ _ _) x

/-- Serving an input's class leaves its queue and its packet. -/
theorem hasServed_router (out : Nat) :
    ((p.hasServed s out i c).router s).queue = (p.router s).queue ∧ ((p.hasServed s out i c).router s).open_ = (p.router s).open_ := by
  unfold Panel.hasServed
  rw [modRouter_same]
  exact ⟨rfl, rfl⟩

/-- The unit that leaves for an output that serves it: onto a bundle, or to the die itself. -/
def unitLeaves (out : Nat) (u : Flit) : Panel :=
  if out = outLocal then p.hasServed s out i c else (p.hasServed s out i c).sendUnit s out c u

theorem unitLeaves_queue (out : Nat) (u : Flit) : ((unitLeaves p s i c out u).router s).queue = (p.router s).queue := by
  unfold unitLeaves
  split
  · exact (hasServed_router p s i c out).1
  · rw [sendUnit_router]
    exact (hasServed_router p s i c out).1

theorem unitLeaves_inUse {out : Nat} (h : out ≠ outLocal) (u : Flit) :
    ((unitLeaves p s i c out u).bundle s out).inUse c = (p.bundle s out).inUse c + 1 := by
  unfold unitLeaves
  rw [if_neg h, sendUnit_inUse]
  rfl

/-! ### A head flit -/

section
variable (h : PacketHead)

theorem headFault_class (hc : typeClass h.type ≠ some h.cls) : p.headFault s h = some (0x0907, Csr.FAB_DROP_LAST_NOROUTE) :=
  if_pos hc

section
variable (hc : typeClass h.type = some h.cls) (hh : h.hops + 1 < 64)
include hc hh

theorem headFault_route (h4 : p.headCode s h ≠ 4) (hf : faceCount s ≤ p.headCode s h) :
    p.headFault s h = some (0x0905, Csr.FAB_DROP_LAST_NOROUTE) := by
  simp only [Panel.headFault, hc, ne_eq, not_true_eq_false, if_false, Nat.not_le.2 hh, h4, hf, if_true]

theorem headFault_down (hf : p.headCode s h < faceCount s) (h4 : p.headCode s h ≠ 4)
    (hd : p.edgeDown s (p.headCode s h) = true ∨ p.edgeTied s (p.headCode s h) = true) :
    p.headFault s h = some (0x0904, Csr.FAB_DROP_LAST_DOWN) := by
  have hd : (p.edgeDown s (p.headCode s h) || p.edgeTied s (p.headCode s h)) = true := by simpa using hd
  simp only [Panel.headFault, hc, ne_eq, not_true_eq_false, if_false, Nat.not_le.2 hh, h4, Nat.not_le.2 hf, hd, if_true]

end

theorem headHop_drops {code : Nat} {counter : Fld} (hf : p.headFault s h = some (code, counter)) :
    p.headHop s i c h = headPasses (p.dropPacket s h code counter) s i c h outNowhere := by
  simp only [Panel.headHop, hf]
  rfl

section
variable (hf : p.headFault s h = none)
include hf

theorem headHop_waits (ht : p.target s i c = none) : p.headHop s i c h = p := by
  simp only [Panel.headHop, hf, ht]

theorem headHop_unserved {out : Nat} (ht : p.target s i c = some out) (hs : p.serves s out i c = false) : p.headHop s i c h = p := by
  simp only [Panel.headHop, hf, ht, hs, Bool.not_false, if_true]

theorem headHop_goes {out : Nat} (ht : p.target s i c = some out) (hs : p.serves s out i c = true) :
    p.headHop s i c h = headPasses (unitLeaves p s i c out (headFlit { h with hops := h.hops + 1 })) s i c h out := by
  simp only [Panel.headHop, hf, ht, hs, Bool.not_true, Bool.false_eq_true, if_false]
  rfl

end

end

/-! ### A data flit -/

section
variable (o : OpenPacket) (f : Flit)

theorem bodyHop_lost (hl : p.outLost s o = true) :
    p.bodyHop s i c o f
      = flitPasses (p.dropPacket s o.head 0x0904 Csr.FAB_DROP_LAST_DOWN) s i c { o with out := outNowhere } := if_pos hl

/-- A packet that goes nowhere has no output to lose. -/
theorem outLost_nowhere (h : outNowhere ≤ o.out) : p.outLost s o = false := by
  have : ¬ o.out < 64 := by unfold outNowhere at h; omega
  simp only [Panel.outLost, this, decide_false, Bool.false_and]

theorem bodyHop_nowhere (h : outNowhere ≤ o.out) : p.bodyHop s i c o f = flitPasses p s i c o :=
  (if_neg (ne_true_of_eq_false (outLost_nowhere p s o h))).trans (if_pos h)

section
variable (hl : p.outLost s o = false) (ho : o.out < outNowhere)
include hl ho

theorem bodyHop_goes {out : Nat} (ht : p.target s i c = some out) (hs : p.serves s out i c = true) :
    p.bodyHop s i c o f = flitPasses (unitLeaves p s i c out f) s i c o := by
  simp only [Panel.bodyHop, hl, Nat.not_le.2 ho, ht, hs, Bool.not_true, Bool.false_eq_true, if_false]
  rfl

theorem bodyHop_waits (h : p.target s i c = none ∨ ∃ out, p.target s i c = some out ∧ p.serves s out i c = false) :
    p.bodyHop s i c o f = p := by
  rcases h with ht | ⟨out, ht, hs⟩
  · simp only [Panel.bodyHop, hl, Nat.not_le.2 ho, ht, Bool.false_eq_true, if_false]
  · simp only [Panel.bodyHop, hl, Nat.not_le.2 ho, ht, hs, Bool.not_false, Bool.false_eq_true, if_false, if_true]

end

end

end

end Sys2Proof.Proofs
end

section
/-! SUPPORT. PACKET_HOP and REIN_ALARM as commands (R302 to R311). -/

namespace Sys2Proof.Proofs

open Sys2Proof.Machine Sys2Proof.Laws

/-- The panel whose flits hop: the die's own input has taken up its oldest message. -/
def sourced (p : Panel) (s i c : Nat) : Panel := if i = ownInput then p.inject s c else p

theorem sourced_bundle (p : Panel) (s i c x b : Nat) : (sourced p s i c).bundle x b = p.bundle x b := by
  unfold sourced
  split
  · unfold Panel.inject
    simp only
    split
    · rfl
    · split <;> rfl
  · rfl

theorem packetHop_off {p : Panel} {s i c : Nat} (h : p.routes s = false ∨ ownInput < i ∨ 5 < c) : p.packetHop s i c = p :=
  if_pos (by simpa [or_assoc] using h)

section
variable {p : Panel} {s i c : Nat} (hr : p.routes s = true) (hi : i ≤ ownInput) (hc : c ≤ 5)
include hr hi hc

theorem packetHop_empty (ho : ((sourced p s i c).router s).open_ i c = none) (hq : ((sourced p s i c).router s).queue i c = []) :
    p.packetHop s i c = (sourced p s i c).showQueues s := by
  unfold sourced at ho hq
  simp only [Panel.packetHop, hr, Nat.not_lt.2 hi, Nat.not_lt.2 hc, ho, hq, decide_false, Bool.not_true, Bool.or_self,
    Bool.false_eq_true, if_false]
  rfl

theorem packetHop_head {q : QueuedFlit} {rest : List QueuedFlit} (ho : ((sourced p s i c).router s).open_ i c = none)
    (hq : ((sourced p s i c).router s).queue i c = q :: rest) (hh : q.head = true) :
    p.packetHop s i c = ((sourced p s i c).headHop s i c (parseHead q.flit.data)).showQueues s := by
  unfold sourced at ho hq
  simp only [Panel.packetHop, hr, Nat.not_lt.2 hi, Nat.not_lt.2 hc, ho, hq, hh, decide_false, Bool.not_true, Bool.or_self,
    Bool.false_eq_true, if_false, if_true]
  rfl

section
variable {o : OpenPacket} (ho : ((sourced p s i c).router s).open_ i c = some o)
include ho

theorem packetHop_body {q : QueuedFlit} {rest : List QueuedFlit} (hl : o.left ≠ 0)
    (hq : ((sourced p s i c).router s).queue i c = q :: rest) :
    p.packetHop s i c = ((sourced p s i c).bodyHop s i c o q.flit).showQueues s := by
  unfold sourced at ho hq
  simp only [Panel.packetHop, hr, Nat.not_lt.2 hi, Nat.not_lt.2 hc, ho, hq, hl, decide_false, Bool.not_true, Bool.or_self,
    Bool.false_eq_true, if_false]
  rfl

theorem packetHop_trunc (hl : o.left = 0) : p.packetHop s i c = ((sourced p s i c).passTrunc s i c o).showQueues s := by
  unfold sourced at ho
  simp only [Panel.packetHop, hr, Nat.not_lt.2 hi, Nat.not_lt.2 hc, ho, hl, decide_false, Bool.not_true, Bool.or_self,
    Bool.false_eq_true, if_false, if_true]
  rfl

end

end

/-! ### What a hop leaves in the state -/

section
variable (s : State) (q : Panel) (site : Nat)

theorem shown_router (x : Nat) : (s.quiet fun _ => q.showQueues site).p.router x = q.router x :=
  (quiet_router _ _ _).trans (showQueues_router q site x)

theorem shown_bundle (x b : Nat) : (s.quiet fun _ => q.showQueues site).p.bundle x b = q.bundle x b :=
  (quiet_bundle _ _ _ _).trans (showQueues_bundle q site x b)

/-- The fabric's fault register does not stand in FAB_STATUS's word. -/
theorem shown_fault : (s.quiet fun _ => q.showQueues site).p.field site Csr.FAB_FAULT = q.field site Csr.FAB_FAULT :=
  (quiet_field _ _ _ _).trans (showQueues_field q site site (by unfold FldFits; decide) (by unfold WordsApart; decide))

end

section
variable {s : State} {site i c : Nat} {q p : Panel}

/-- The state after a head has passed. -/
theorem exec_headPasses {h : PacketHead} {out : Nat} {rest : List QueuedFlit} {first : QueuedFlit}
    (hc : s.seen.packetHop site i c = (headPasses q site i c h out).showQueues site)
    (hq : (q.router site).queue i c = first :: rest) :
    ∃ t, exec (.packetHop site i c) s = .next t ∧ (t.p.router site).queue i c = rest
      ∧ (t.p.router site).open_ i c = (if h.len = 0 then none else some ⟨out, h, 1, h.len⟩)
      ∧ t.mem = s.mem ∧ t.p.time = s.p.time
      ∧ t.p.field site Csr.FAB_FAULT = q.field site Csr.FAB_FAULT
      ∧ ∀ b k, (t.p.bundle site b).inUse k = (q.bundle site b).inUse k := by
  obtain ⟨hqueue, hopen⟩ := headPasses_router q site i c h out
  refine ⟨s.quiet fun _ => (headPasses q site i c h out).showQueues site, exec_quiet rfl hc, ?_, ?_, rfl, rfl, ?_, fun b k => ?_⟩
  · rw [shown_router, hqueue, hq]
    rfl
  · rw [shown_router, hopen]
  · exact (shown_fault _ _ _).trans (headPasses_keeps q site i c h out site _ 0 0).1
  · rw [shown_bundle]
    exact (headPasses_keeps q site i c h out site Csr.FAB_FAULT b k).2

/-- The state after a data flit has passed. -/
theorem exec_flitPasses {o : OpenPacket} {rest : List QueuedFlit} {first : QueuedFlit}
    (hc : s.seen.packetHop site i c = (flitPasses q site i c o).showQueues site)
    (hq : (q.router site).queue i c = first :: rest) :
    ∃ t, exec (.packetHop site i c) s = .next t ∧ (t.p.router site).queue i c = rest ∧ t.mem = s.mem ∧ t.p.time = s.p.time
      ∧ (t.p.field site Csr.FAB_FAULT = q.field site Csr.FAB_FAULT
        ∧ ∀ b k, (t.p.bundle site b).inUse k = (q.bundle site b).inUse k)
      ∧ (t.p.router site).open_ i c = (if o.left ≤ 1 then none else some { o with gone := o.gone + 1, left := o.left - 1 }) := by
  obtain ⟨hqueue, hopen⟩ := flitPasses_router q site i c o
  refine ⟨s.quiet fun _ => (flitPasses q site i c o).showQueues site, exec_quiet rfl hc, ?_, rfl, rfl, ⟨?_, fun b k => ?_⟩, ?_⟩
  · rw [shown_router, hqueue, hq]
    rfl
  · exact (shown_fault _ _ _).trans (flitPasses_keeps q site i c o site _ 0 0).1
  · rw [shown_bundle]
    exact (flitPasses_keeps q site i c o site Csr.FAB_FAULT b k).2
  · rw [shown_router, hopen]

end

/-! ### The parts of the obligation -/

/-- PACKET_HOP for a head flit at the front of a class without a packet under way. -/
theorem packetHop_headFlit {s : State} {site i c : Nat} {p : Panel} (hp : sourced s.seen site i c = p)
    (hr : s.seen.routes site = true) (hi : i ≤ ownInput) (hcls : c ≤ 5) {q : QueuedFlit} {rest : List QueuedFlit}
    (ho : (p.router site).open_ i c = none) (hq : (p.router site).queue i c = q :: rest) (hh : q.head = true) :
    let h := parseHead q.flit.data
    let code := p.headCode site h
    let goes (out : Nat) (more : State → Prop) : Prop := ∃ t, exec (.packetHop site i c) s = .next t
      ∧ (t.p.router site).queue i c = rest ∧ (t.p.router site).open_ i c = (if h.len = 0 then none else some ⟨out, h, 1, h.len⟩)
      ∧ t.mem = s.mem ∧ t.p.time = s.p.time ∧ more t
    (typeClass h.type ≠ some h.cls → goes outNowhere fun t => t.p.field site Csr.FAB_FAULT = 0x0907)
    ∧ (typeClass h.type = some h.cls → h.hops + 1 < 64 →
      (code ≠ 4 → faceCount site ≤ code → goes outNowhere fun t => t.p.field site Csr.FAB_FAULT = 0x0905)
      ∧ (code < faceCount site → code ≠ 4 → p.edgeDown site code = true ∨ p.edgeTied site code = true →
        goes outNowhere fun t => t.p.field site Csr.FAB_FAULT = 0x0904))
    ∧ (p.headFault site h = none → (p.target site i c = none →
        exec (.packetHop site i c) s = .next (s.quiet fun _ => p.showQueues site))
      ∧ ∀ out, p.target site i c = some out → (p.serves site out i c = false →
          exec (.packetHop site i c) s = .next (s.quiet fun _ => p.showQueues site))
        ∧ (p.serves site out i c = true → goes out fun t => out ≠ outLocal →
          (t.p.bundle site out).inUse c = (s.p.bundle site out).inUse c + 1)) := by
  intro h code goes
  have hhop : s.seen.packetHop site i c = (p.headHop site i c h).showQueues site := by
    subst hp
    exact packetHop_head hr hi hcls ho hq hh
  have hdrop {fault : Nat} {counter : Fld} (hf : p.headFault site h = some (fault, counter))
      (hreg : faultReg fault = some Csr.FAB_FAULT) (hlt : fault < 65536) :
      goes outNowhere fun t => t.p.field site Csr.FAB_FAULT = fault := by
    obtain ⟨t, ht, hqueue, hopen, hmem, htime, hfield, -⟩ := exec_headPasses (q := p.dropPacket site h fault counter) (first := q)
      (rest := rest) (hhop.trans (by rw [headHop_drops p site i c h hf])) (by rw [dropPacket_router, hq])
    exact ⟨t, ht, hqueue, hopen, hmem, htime, hfield.trans (dropPacket_fault p site h fault counter hreg hlt)⟩
  refine ⟨fun hc => hdrop (headFault_class p site h hc) rfl (by decide), fun hc hhops => ⟨fun h4 hf => ?_, fun hf h4 hd => ?_⟩,
    fun hf => ⟨fun ht => ?_, fun out ht => ⟨fun hs => ?_, fun hs => ?_⟩⟩⟩
  · exact hdrop (headFault_route p site h hc hhops h4 hf) rfl (by decide)
  · exact hdrop (headFault_down p site h hc hhops hf h4 hd) rfl (by decide)
  · exact exec_quiet rfl (hhop.trans (by rw [headHop_waits p site i c h hf ht]))
  · exact exec_quiet rfl (hhop.trans (by rw [headHop_unserved p site i c h hf ht hs]))
  · obtain ⟨t, ht, hqueue, hopen, hmem, htime, -, huse⟩ := exec_headPasses (first := q) (rest := rest)
      (hhop.trans (by rw [headHop_goes p site i c h hf ht hs])) (by rw [unitLeaves_queue, hq])
    refine ⟨t, ht, hqueue, hopen, hmem, htime, fun hout => ?_⟩
    rw [huse, unitLeaves_inUse p site i c hout, ← hp, sourced_bundle]
    rfl

/-- PACKET_HOP for a data flit of the packet under way. -/
theorem packetHop_dataFlit {s : State} {site i c : Nat} {p : Panel} (hp : sourced s.seen site i c = p)
    (hr : s.seen.routes site = true) (hi : i ≤ ownInput) (hcls : c ≤ 5) {o : OpenPacket} {q : QueuedFlit} {rest : List QueuedFlit}
    (ho : (p.router site).open_ i c = some o) (hleft : o.left ≠ 0) (hq : (p.router site).queue i c = q :: rest) :
    let goes (o : OpenPacket) (more : State → Prop) : Prop := ∃ t, exec (.packetHop site i c) s = .next t
      ∧ (t.p.router site).queue i c = rest ∧ t.mem = s.mem ∧ t.p.time = s.p.time ∧ more t
      ∧ (t.p.router site).open_ i c = (if o.left ≤ 1 then none else some { o with gone := o.gone + 1, left := o.left - 1 })
    (p.outLost site o = true → goes { o with out := outNowhere } fun t => t.p.field site Csr.FAB_FAULT = 0x0904)
    ∧ (outNowhere ≤ o.out → goes o fun _ => True)
    ∧ (p.outLost site o = false → o.out < outNowhere → (∀ out, p.target site i c = some out → p.serves site out i c = true →
        goes o fun t => out ≠ outLocal → (t.p.bundle site out).inUse c = (s.p.bundle site out).inUse c + 1)
      ∧ (p.target site i c = none ∨ (∃ out, p.target site i c = some out ∧ p.serves site out i c = false) →
        exec (.packetHop site i c) s = .next (s.quiet fun _ => p.showQueues site))) := by
  intro goes
  have hhop : s.seen.packetHop site i c = (p.bodyHop site i c o q.flit).showQueues site := by
    subst hp
    exact packetHop_body hr hi hcls ho hleft hq
  refine ⟨fun hl => ?_, fun hout => ?_, fun hl hout => ⟨fun out ht hs => ?_, fun ht => ?_⟩⟩
  · obtain ⟨t, ht, hqueue, hmem, htime, ⟨hfield, -⟩, hopen⟩ := exec_flitPasses (first := q) (rest := rest)
      (hhop.trans (by rw [bodyHop_lost p site i c o q.flit hl])) (by rw [dropPacket_router, hq])
    exact ⟨t, ht, hqueue, hmem, htime, hfield.trans (dropPacket_fault p site o.head 0x0904 _ rfl (by decide)), hopen⟩
  · obtain ⟨t, ht, hqueue, hmem, htime, -, hopen⟩ := exec_flitPasses (first := q) (rest := rest)
      (hhop.trans (by rw [bodyHop_nowhere p site i c o q.flit hout])) hq
    exact ⟨t, ht, hqueue, hmem, htime, trivial, hopen⟩
  · obtain ⟨t, htx, hqueue, hmem, htime, ⟨-, huse⟩, hopen⟩ := exec_flitPasses (first := q) (rest := rest)
      (hhop.trans (by rw [bodyHop_goes p site i c o q.flit hl hout ht hs])) (by rw [unitLeaves_queue, hq])
    refine ⟨t, htx, hqueue, hmem, htime, fun hlocal => ?_, hopen⟩
    rw [huse, unitLeaves_inUse p site i c hlocal, ← hp, sourced_bundle]
    rfl
  · exact exec_quiet rfl (hhop.trans (by rw [bodyHop_waits p site i c o q.flit hl hout ht]))

/-- The alarm of the waiting cycles: class 2 alone, as the count first passes the limit (R311). -/
theorem exec_reinAlarm (s : State) (site cls cycles : Nat) :
    let f := Csr.FAB_REIN_LAST cls
    let before := s.seen.tallyOf site f
    let limit := s.seen.field site Csr.FAB_CTRL_REIN_ALARM
    exec (.reinAlarm site cls cycles) s = .next (s.quiet fun p =>
      (p.tally site f cycles).raiseIf (cls = 2 && before ≤ limit && limit < min (2 ^ 32 - 1) (before + cycles)) site 0x0908) := by
  refine exec_quiet rfl ?_
  simp only [tallyOf_tally_same, field_of_csr (tally_csr _ _ _ _)]
  rfl

theorem reinAlarm_parts (s : State) (site cls cycles : Nat) :
    let f := Csr.FAB_REIN_LAST cls
    let before := s.seen.tallyOf site f
    let after := min (2 ^ 32 - 1) (before + cycles)
    (cls ≠ 2 → exec (.reinAlarm site cls cycles) s = .next (s.quiet fun p => p.tally site f cycles))
    ∧ (cls = 2 → (s.seen.field site Csr.FAB_CTRL_REIN_ALARM < before ∨ after ≤ s.seen.field site Csr.FAB_CTRL_REIN_ALARM) →
      exec (.reinAlarm site cls cycles) s = .next (s.quiet fun p => p.tally site f cycles))
    ∧ (cls = 2 → before ≤ s.seen.field site Csr.FAB_CTRL_REIN_ALARM → s.seen.field site Csr.FAB_CTRL_REIN_ALARM < after →
      exec (.reinAlarm site cls cycles) s = .next (s.quiet fun p => (p.tally site f cycles).raise site 0x0908)) := by
  intro f before after
  refine ⟨fun h => ?_, fun _ h => ?_, fun h hle hlt => ?_⟩
  · exact exec_quiet (exec_reinAlarm s site cls cycles) (if_neg (by simp [h]))
  · exact exec_quiet (exec_reinAlarm s site cls cycles)
      (if_neg fun hall => by 
        simp only [Bool.and_eq_true, decide_eq_true_eq] at hall
        obtain ⟨⟨-, hle⟩, hlt⟩ := hall
        exact h.elim hle.not_gt hlt.not_ge)
  · exact exec_quiet (exec_reinAlarm s site cls cycles)
      (if_pos (by simp only [Bool.and_eq_true, decide_eq_true_eq]; exact ⟨⟨h, hle⟩, hlt⟩))

/-- Settles O29: a mesh word by what its edge and its crossing make of it, a flit by what its router makes of it, and the alarm
by its count. -/
theorem meshAndPackets : Obligations.MeshAndPackets := by
  unfold Obligations.MeshAndPackets
  refine ⟨fun s site b w ws => ⟨exec_meshWord_stays, fun hw hlen hr => ⟨exec_meshWord_cut hw hlen hr, fun hcut => ?_⟩⟩,
    fun s site i c => ?_, reinAlarm_parts⟩
  · rw [← seen_bundle, ← seen_meshBuf, ← seen_tallyOf, ← seen_field]
    cases htied : s.seen.edgeTied site (b / 16)
    case true =>
      refine ⟨_, exec_meshWord_tied hw hlen hr hcut htied, ?_⟩
      rw [quiet_wire, quiet_bundle, quiet_field, quiet_meshBuf, quiet_tallyOf]
      obtain ⟨hwire, hseq, hfault, hbuf, hcount⟩ := wordTied s.seen site b ws _ rfl
      exact ⟨hwire, hseq, rfl, rfl, fun _ => ⟨hfault, hbuf, hcount⟩, nofun⟩
    case false =>
      refine ⟨_, exec_meshWord_lands hw hlen hr hcut htied, ?_⟩
      simp only [quiet_wire, quiet_bundle, quiet_field, quiet_meshBuf]
      obtain ⟨hwire, hseq, hlands, hawaited⟩ := wordLands s.seen site b w ws hlen _ rfl
      exact ⟨hwire, hseq, rfl, rfl, nofun, fun _ => ⟨hlands, hawaited⟩⟩
  · refine ⟨fun hoff => exec_quiet rfl (packetHop_off hoff), fun hr hi hc => ⟨fun ho hq => ?_, fun q rest ho hq hh => ?_,
      fun o q rest ho hl hq => ?_, fun o ho hl => ?_⟩⟩
    · exact exec_quiet rfl (packetHop_empty hr hi hc ho hq)
    · exact packetHop_headFlit rfl hr hi hc ho hq hh
    · exact packetHop_dataFlit rfl hr hi hc ho hl hq
    · exact exec_quiet rfl (packetHop_trunc hr hi hc ho hl)

end Sys2Proof.Proofs
end

section
/-! SUPPORT. A frame that acts at its bundle end (R321, R322), and the end of a bundle number outside 0 to 63 at which it does not arrive. -/

namespace Sys2Proof.Proofs

open Sys2Proof.Machine Sys2Proof.Laws

theorem bitOf_eq_false_of_lt {x n i : Nat} (hx : x < 2 ^ n) (hi : n ≤ i) : bitOf x i = false := by
  rw [bitOf_eq_testBit]
  exact Nat.testBit_lt_two_pow (hx.trans_le (Nat.pow_le_pow_right Nat.two_pos hi))

/-! ### A frame that acts -/

/-- A replayable frame, intact and in its place at an end that listens and is not tied, brings its link control, takes its SEQ and
acts. -/
theorem receive_acts {p : Panel} {f : AzFrame} {kind : Nat} (cls : Nat) (act : Panel → Panel) (hk : f.kind = kind)
    (hi : f.intact = true) (hl : p.listens f.site f.bundle = true) (ht : p.edgeTied f.site (faceOf f.bundle) = false)
    (hp : (p.bundle f.site f.bundle).inPlace f = true) (hr : replays kind = true) :
    p.receive f kind cls act = act (((p.sawFrame f).goodFrame f).ackFrame f.site f.bundle) := by
  have htied : (p.sawFrame f).edgeTied f.site (faceOf f.bundle) = false := ht
  have hplaced : ((p.sawFrame f).bundle f.site f.bundle).inPlace f = true := by
    unfold Panel.sawFrame
    rw [modBundle_same]
    exact hp
  simp only [Panel.receive, hk, hi, hl, htied, hplaced, hr, ne_eq, not_true_eq_false, decide_false, Bool.not_true, Bool.or_self,
    Bool.false_eq_true, if_false, if_true]

/-- A frame that acknowledges more than is outstanding raises 0x0A0A. -/
theorem goodFrame_badAck {p : Panel} {f : AzFrame}
    (h : (p.bundle f.site f.bundle).replay.length < (f.ack + 512 - (p.bundle f.site f.bundle).txAck) % 512) :
    (p.goodFrame f).field f.site Csr.AZL_FAULT = 0x0A0A := by
  unfold Panel.goodFrame
  simp only [Nat.not_le.2 h, decide_false, Bool.not_false, Bool.true_or, Panel.raiseIf, if_true]
  exact raise_field_faultReg _ _ _ rfl (by decide)

theorem raiseIf_routers (p : Panel) (c : Bool) (site code : Nat) : (p.raiseIf c site code).routers = p.routers := by
  unfold Panel.raiseIf
  split
  · exact raise_routers _ _ _
  · rfl

/-- Link control leaves every router. -/
theorem goodFrame_router (p : Panel) (f : AzFrame) (x : Nat) : (p.goodFrame f).router x = p.router x := by
  have h : (p.goodFrame f).routers = p.routers :=
    (raiseIf_routers _ _ _ _).trans (ite_keeps (·.routers) (setField_routers _ _ _ _))
  unfold Panel.router
  rw [h]

/-- A bundle whose role is spare has no buffer. -/
theorem deliverUnit_spare {p : Panel} {s b : Nat} (h : p.rigRole s b = 0) (cls : Nat) (ka : Bool) (u : Flit) :
    p.deliverUnit s b cls ka u = p := by
  simp only [Panel.deliverUnit, h]

theorem ackFrame_router (p : Panel) (s b x : Nat) : (p.ackFrame s b).router x = p.router x := rfl

theorem ackFrame_rigRole (p : Panel) (s b x y : Nat) : (p.ackFrame s b).rigRole x y = p.rigRole x y := by
  unfold Panel.rigRole Panel.ackFrame
  rw [modBundle_field]

theorem sawFrame_router (p : Panel) (f : AzFrame) (x : Nat) : (p.sawFrame f).router x = p.router x := rfl

/-- A DATA frame that finds its bundle without a role once its link control has acted leaves every router as it was. -/
theorem azData_spare {s : State} {f : AzFrame} (cls : Nat) (hk : f.kind = azDataKind) (hi : f.intact = true)
    (hl : s.seen.listens f.site f.bundle = true) (ht : s.seen.edgeTied f.site (faceOf f.bundle) = false)
    (hp : (s.seen.bundle f.site f.bundle).inPlace f = true)
    (hrole : ((s.seen.sawFrame f).goodFrame f).rigRole f.site f.bundle = 0) :
    ∃ t, exec (.azData f cls) s = .next t ∧ ∀ x, t.p.router x = s.seen.router x := by
  have hacts : exec (.azData f cls) s = .next (s.quiet fun p =>
      ((((p.sawFrame f).goodFrame f).ackFrame f.site f.bundle).deliverUnit f.site f.bundle cls false f.flit).tellPeer f.site f.bundle) :=
    exec_quiet rfl (receive_acts cls _ hk hi hl ht hp rfl)
  refine ⟨_, hacts, fun x => ?_⟩
  rw [quiet_router, told_router (told_tellPeer _ _ _), deliverUnit_spare ((ackFrame_rigRole _ _ _ _ _).trans hrole),
    ackFrame_router, goodFrame_router, sawFrame_router]

/-! ### A bundle number whose role is read from the fault register -/

/-- The bundle number whose word of FAB_RIG is that of AZL_FAULT. -/
def strayBundle : Nat := 16 * ((0xf0008 - 0x50040) / 4) + 2

/-- The role of the stray bundle is bits 4 and 5 of AZL_FAULT. -/
theorem strayBundle_role (p : Panel) (s : Nat) : p.rigRole s strayBundle = bitsOf (p.field s Csr.AZL_FAULT) 4 2 := by
  have hrig : (Csr.FAB_RIG (strayBundle / 16)).place = (Csr.AZL_FAULT.place.1, 0, 1) := by decide
  have hfault : Csr.AZL_FAULT.place = (Csr.AZL_FAULT.place.1, 0, 1) := by decide
  change bitsOf (p.field s (Csr.FAB_RIG (strayBundle / 16))) 4 2 = _
  unfold Panel.field
  rw [hrig, hfault]
  change bitsOf (bitsOf (p.words s Csr.AZL_FAULT.place.1 1) 0 32) 4 2 = bitsOf (bitsOf (p.words s Csr.AZL_FAULT.place.1 1) 0 16) 4 2
  generalize p.words s Csr.AZL_FAULT.place.1 1 = w
  unfold bitsOf
  omega

/-- A DATA frame in its place at the stray bundle that acknowledges a frame never sent. -/
def strayFrame : AzFrame := ⟨5, strayBundle, azWires azDataKind 0 0 (azControl azDataKind 0 0 7 0 0)⟩

/-- Die 5 alone has power, its stray bundle is up, and AZL_FAULT makes that bundle a packet bundle. -/
def strayState : State :=
  { pending := [], mem := {},
    p := ((({} : Panel).setField 5 (Csr.PWR_DOM_STATE (logicDomain 5)) domOn).setField 5
      (Csr.AZL_BUNDLE_STATE strayBundle) azUp).setField 5 Csr.AZL_FAULT 0x20 }

section
set_option maxRecDepth 20000
set_option exponentiation.threshold 512

theorem strayFrame_kind : strayFrame.kind = azDataKind := by decide
theorem strayFrame_intact : strayFrame.intact = true := by decide
theorem strayState_routes : strayState.seen.routes strayFrame.site = true := by decide
theorem strayState_up : strayState.seen.azState strayFrame.site strayFrame.bundle = azUp := by decide
theorem strayState_role : strayState.seen.rigRole strayFrame.site strayFrame.bundle = 2 := by decide
theorem strayState_queue : (strayState.seen.router strayFrame.site).queue strayFrame.bundle 0 = [] := by decide
theorem strayState_placed : (strayState.seen.bundle strayFrame.site strayFrame.bundle).inPlace strayFrame = true := by decide

theorem strayFrame_overAcks :
    ((strayState.seen.sawFrame strayFrame).bundle strayFrame.site strayFrame.bundle).replay.length
      < (strayFrame.ack + 512 - ((strayState.seen.sawFrame strayFrame).bundle strayFrame.site strayFrame.bundle).txAck) % 512 := by
  decide

end

theorem strayFrame_notTied (p : Panel) : p.edgeTied strayFrame.site (faceOf strayFrame.bundle) = false :=
  bitOf_eq_false_of_lt (field_lt p strayFrame.site Csr.AZL_STATUS_TIED) (by decide)

theorem strayFrame_notCut (p : Panel) : p.edgeCut strayFrame.site (faceOf strayFrame.bundle) = false :=
  bitOf_eq_false_of_lt (field_lt p strayFrame.site Csr.AZL_STATUS_CUT) (by decide)

theorem strayState_listens : strayState.seen.listens strayFrame.site strayFrame.bundle = true := by
  simp only [Panel.listens, strayState_routes, strayFrame_notCut, strayState_up, decide_true, Bool.true_or, Bool.not_false, Bool.and_self]

/-- The wrong ACK's fault makes the stray bundle spare before its unit is delivered. -/
theorem strayFrame_unrigs :
    ((strayState.seen.sawFrame strayFrame).goodFrame strayFrame).rigRole strayFrame.site strayFrame.bundle = 0 := by
  have hfault := goodFrame_badAck strayFrame_overAcks
  refine (strayBundle_role _ _).trans ?_
  rw [hfault]
  rfl

/-- Refutes O33: bundle numbers are not bounded in its first part. The role of bundle 16 · 163826 + 2 is read from the word of
AZL_FAULT, so a frame whose ACK is wrong changes that role from packet to spare (0x0A0A) before its unit is delivered, and the unit
reaches no queue. -/
theorem not_azrolaneFramesAndControls : ¬ Obligations.AzrolaneFramesAndControls := by
  unfold Obligations.AzrolaneFramesAndControls
  rintro ⟨hall, -⟩
  obtain ⟨-, -, -, -, -, -, -, -, hdata, -⟩ := hall strayState strayFrame 0
  obtain ⟨t, ht, -, -, hqueue, -⟩ := hdata ⟨strayFrame_kind, strayFrame_intact, strayState_listens⟩ (strayFrame_notTied _)
    strayState_placed
  obtain ⟨t', ht', hkept⟩ := azData_spare 0 strayFrame_kind strayFrame_intact strayState_listens (strayFrame_notTied _)
    strayState_placed strayFrame_unrigs
  obtain rfl : t' = t := Host.Outcome.next.inj (ht'.symm.trans ht)
  have hjoined := hqueue strayState_role
  rw [hkept, strayState_queue] at hjoined
  exact absurd hjoined (List.cons_ne_nil _ _).symm

end Sys2Proof.Proofs
end

section
/-! SUPPORT. A feed frame whose rows lie in a send shard of a shard number outside R284's: its copy is counted in the window's own
register. -/

namespace Sys2Proof.Proofs

open Sys2Proof.Machine Sys2Proof.Laws

/-- The shard number whose GAL_SO_LAG of memory die 401 is the word of LNK_F_WIN of link die 402 that holds SIG_HOME. -/
def strayShard : Nat := 0x400000 + (0xc3908 - 0x61200) / 4

/-- A good frame of one row of zeros for address 0. -/
def strayFeed : FeedFrame := { stream := 0, seq := 0, data := List.replicate 64 0 }

def strayFeedWords : List (List Byte) := frameWords (feedBytes strayFeed)

/-- Port 4 is an up feed port whose window signals home 5, index 3; its first KiB lies in the stray send shard. -/
def strayShardState : State :=
  let p := (({} : Panel).setField 402 (Csr.LNK_P_ROLE_ROLE 0) 2).setField 402 (Csr.LNK_P_STATE_STATE 0) 2
  let p := (p.setField 402 (Csr.LNK_F_WIN_LENGTH 0) (2 ^ 32 - 1)).setField 402 (Csr.LNK_F_WIN_VALID 0) 1
  let p := (p.setField 402 (Csr.LNK_F_WIN_SIG_HOME 0) 5).setField 402 (Csr.LNK_F_WIN_SIG_IDX 0) 3
  let p := p.setField 402 (Csr.LNK_F_WIN_SIG_EN 0) 1
  { pending := [], mem := {},
    p := { p with fabric := { shards := [{ region := 0, shard := strayShard, ctx := 0, send := true, base := 0, limit := 1 }] } } }

/-- The state after the frame. -/
def strayShardFed : State := strayShardState.store fun _ p => p.feedIn 4 strayFeed

section
set_option maxRecDepth 20000
set_option exponentiation.threshold 5000000

theorem strayFeedWords_parse : feedFrameOf strayFeedWords = some strayFeed := by decide

theorem strayShardState_port : strayShardState.seen.portRole 4 = 2 ∧ strayShardState.seen.portUp 4 = true := by decide

theorem strayFeed_good : strayFeed.crcOk = true ∧ strayShardState.seen.isSet 402 (Csr.LNK_F_WIN_VALID 0) = true
    ∧ strayFeed.stream = strayShardState.seen.field 402 (Csr.LNK_F_WIN_STREAM 0) ∧ strayFeed.offset % 64 = 0
    ∧ strayFeed.data.length % 64 = 0 ∧ 64 ≤ strayFeed.data.length ∧ strayFeed.data.length ≤ 1024
    ∧ strayFeed.offset % 1024 + strayFeed.data.length ≤ 1024
    ∧ strayFeed.offset + strayFeed.data.length ≤ 1024 * strayShardState.seen.field 402 (Csr.LNK_F_WIN_LENGTH 0)
    ∧ strayFeed.seq = (strayShardState.seen.port 4).feedSeq := by decide

theorem strayShardState_signal : strayShardState.seen.isSet 402 (Csr.LNK_F_WIN_SIG_EN 0) = true
    ∧ strayShardState.seen.field 402 (Csr.LNK_F_WIN_SIG_HOME 0) = 5 ∧ strayShardState.seen.field 402 (Csr.LNK_F_WIN_SIG_IDX 0) = 3
    ∧ strayShardState.seen.portOwner 4 = 0 := by decide

/-- The copy's count carries into SIG_HOME, so that the units signal home 6. -/
theorem strayShardFed_signal : .sadd 512 6 3 1 ∈ strayShardFed.p.net ∧ .sadd 512 5 3 1 ∉ strayShardFed.p.net := by decide

end

theorem exec_strayFeed : exec (.feedFrame 4 strayFeedWords) strayShardState = .next strayShardFed := by
  refine exec_store rfl ?_
  simp only [strayFeedWords_parse]

/-- Refutes O38: shard numbers are not bounded. A frame whose row lies in a send shard of number 0x400000 + 0x189C2 is counted in
GAL_SO_LAG of that number (R286), which is the word of the port's LNK_F_WIN with SIG_HOME; LENGTH's upper bits are all 1, so the count
carries into SIG_HOME and the units go to home 6 instead of 5. -/
theorem not_feedAndEthernet : ¬ Obligations.FeedAndEthernet := by
  unfold Obligations.FeedAndEthernet
  rintro ⟨hfeed, -⟩
  obtain ⟨hrole, hup⟩ := strayShardState_port
  obtain ⟨hgood, -⟩ := (hfeed strayShardState 4 strayFeedWords).2 strayFeed strayFeedWords_parse hrole hup
  obtain ⟨t, ht, -, -, -, -, hsignal⟩ := hgood strayFeed_good
  obtain ⟨hen, hhome, hidx, howner⟩ := strayShardState_signal
  obtain rfl : strayShardFed = t := Host.Outcome.next.inj (exec_strayFeed.symm.trans ht)
  have hsent := hsignal hen (by rw [show linkOfPort 4 = 402 from rfl, show 4 % 4 = 0 from rfl, hhome]; decide)
  rw [show linkOfPort 4 = 402 from rfl, show 4 % 4 = 0 from rfl, hhome, hidx, howner] at hsent
  exact strayShardFed_signal.2 hsent

end Sys2Proof.Proofs
end

section
/-! SUPPORT. Which fields of a die a register write leaves, and one bit of a field. -/

namespace Sys2Proof.Proofs

open Sys2Proof.Machine Sys2Proof.Laws

/-! ### Fields that a write leaves -/

/-- A write of `f` on a die leaves its field `g`: they have no word in common, or the same words and no bit. -/
abbrev Separate (f g : Fld) : Prop :=
  (f.off + (f.lsb + f.width) / 8 + 8 ≤ 0x1000000 ∧ g.off + (g.lsb + g.width) / 8 + 8 ≤ 0x1000000)
    ∧ (WordsApart f g ∨ (g.place.1 = f.place.1 ∧ g.place.2.2 = f.place.2.2)
      ∧ (g.place.2.1 + g.width ≤ f.place.2.1 ∨ f.place.2.1 + f.width ≤ g.place.2.1))

section
variable {f g : Fld} (h : Separate f g) (p : Panel) (s : Nat)
include h

theorem field_setField_separate (v : Nat) : (p.setField s f v).field s g = p.field s g := by
  obtain ⟨⟨hf, hg⟩, hwords | ⟨⟨ho, hn⟩, hbits⟩⟩ := h
  · exact field_setField_apart p s f v s g hf hg hwords
  · exact field_setField_beside p s f v g hf ho hn hbits

theorem field_setFlag_separate (b : Bool) : (p.setFlag s f b).field s g = p.field s g := field_setField_separate h p s _

theorem isSet_setField_separate (v : Nat) : (p.setField s f v).isSet s g = p.isSet s g := by
  unfold Panel.isSet
  rw [field_setField_separate h]

theorem isSet_setFlag_separate (b : Bool) : (p.setFlag s f b).isSet s g = p.isSet s g := isSet_setField_separate h p s _

end

/-! ### One bit of a field -/

/-- A bit put into a field is read there. -/
theorem bitOf_field_putBit (p : Panel) (s : Nat) {f : Fld} (hf : FldFits f) {i : Nat} (hi : i < f.width) (x : Nat) (b : Bool) :
    bitOf ((p.setField s f (putBits x i 1 (flag b))).field s f) i = b := by
  have hbit : bitOf (putBits x i 1 (flag b)) i = b := by
    have h := bitsOf_putBits_same x i 1 (flag b)
    unfold bitsOf at h
    unfold bitOf
    rw [show (2 : Nat) = 2 ^ 1 from rfl, ← pow_mul, one_mul, h]
    cases b <;> rfl
  rw [field_setField_same p s f _ hf, bitOf_eq_testBit, Nat.testBit_mod_two_pow, ← bitOf_eq_testBit, hbit, decide_eq_true hi,
    Bool.true_and]

/-! ### The panel after a command -/

section
variable (s : State) (f : Panel → Panel) (x d : Nat) (g : Fld)

theorem quiet_isSet : (s.quiet f).p.isSet x g = (f s.seen).isSet x g :=
  isSet_of_csr (p := f s.seen) (q := (s.quiet f).p) rfl x g
theorem quiet_tack : (s.quiet f).p.tack = (f s.seen).tack := rfl
theorem quiet_domain : (s.quiet f).p.domain x d = (f s.seen).domain x d := rfl

theorem seen_domain : s.seen.domain x d = s.p.domain x d := rfl

end

section
variable (s : State) (f : Mem → Panel → Panel) (x : Nat) (g : Fld)

theorem store_field : (s.store f).p.field x g = (f s.mem s.seen).field x g :=
  field_of_csr (p := f s.mem s.seen) (q := (s.store f).p) rfl x g
theorem store_isSet : (s.store f).p.isSet x g = (f s.mem s.seen).isSet x g :=
  isSet_of_csr (p := f s.mem s.seen) (q := (s.store f).p) rfl x g
theorem store_boot : (s.store f).p.boot = (f s.mem s.seen).boot := rfl

/-- An effect that lists no write leaves memory. -/
theorem store_mem_of_writes (h : (f s.mem s.seen).writes = []) : (s.store f).mem = s.mem := by
  change s.mem.apply (f s.mem s.seen).writes = s.mem
  rw [h]
  rfl

end

end Sys2Proof.Proofs
end

section
/-! SUPPORT. Power domains (R454 to R460): what a request, an attempt, a header stage, power good and the release of a reservation make
of a domain. -/

namespace Sys2Proof.Proofs

open Sys2Proof.Machine Sys2Proof.Laws

/-! ### The registers of a domain -/

theorem dom_fits : ∀ d < 5, FldFits (Csr.PWR_DOM_STATE d) ∧ FldFits (Csr.PWR_DOM_STAGE d) ∧ FldFits (Csr.PWR_DOM_DEFERRALS d)
    ∧ FldFits (Csr.PWR_DOM_REQ_ON d) ∧ FldFits (Csr.PWR_DOM_REQ_OFF d) := by
  unfold FldFits
  decide

theorem stage_separate_state : ∀ d < 5, Separate (Csr.PWR_DOM_STAGE d) (Csr.PWR_DOM_STATE d) := by decide
theorem reqOn_separate_state : ∀ d < 5, Separate (Csr.PWR_DOM_REQ_ON d) (Csr.PWR_DOM_STATE d) := by decide
theorem reqOn_separate_deferrals : ∀ d < 5, Separate (Csr.PWR_DOM_REQ_ON d) (Csr.PWR_DOM_DEFERRALS d) := by decide
theorem reqOff_separate_reqOn : ∀ d < 5, Separate (Csr.PWR_DOM_REQ_OFF d) (Csr.PWR_DOM_REQ_ON d) := by decide

/-- PWR_STATUS lies apart from PWR_DOM. -/
theorem status_separate_dom : ∀ d < 5, ∀ f ∈ [Csr.PWR_STATUS_SEQ_BUSY, Csr.PWR_STATUS_IO_A_OK, Csr.PWR_STATUS_IO_B_OK],
    Separate f (Csr.PWR_DOM_STATE d) ∧ Separate f (Csr.PWR_DOM_STAGE d) := by decide

theorem isCluster_iff (s d : Nat) : isCluster s d = true ↔ s < 400 ∧ d < 4 := by
  simp [isCluster]

/-- The uncore or core of a die is no cluster (R453). -/
theorem logicDomain_not_cluster (s : Nat) : isCluster s (logicDomain s) = false := by
  unfold isCluster logicDomain
  split <;> simp_all

@[simp] theorem setField_domain (p : Panel) (x : Nat) (f : Fld) (v s d : Nat) : (p.setField x f v).domain s d = p.domain s d := by
  rw [setField_eq]
  rfl

@[simp] theorem setFlag_domain (p : Panel) (x : Nat) (f : Fld) (b : Bool) (s d : Nat) :
    (p.setFlag x f b).domain s d = p.domain s d := setField_domain _ _ _ _ _ _

@[simp] theorem showSeqBusy_domain (p : Panel) (x s d : Nat) : (p.showSeqBusy x).domain s d = p.domain s d :=
  setFlag_domain _ _ _ _ _ _

/-! ### Requests (R457, R460) -/

section
variable {p : Panel} {s d : Nat}

/-- A request for a domain that is requested already, or not dark, withdraws a switch-off only. -/
theorem requestOn_stands (h : (p.domain s d).reqOn = true ∨ p.field s (Csr.PWR_DOM_STATE d) ≠ domDark) :
    p.requestOn s d = p.modDomain s d fun x => { x with reqOff := false } := by
  unfold Panel.requestOn
  rw [if_pos (by simpa using h)]

/-- A new request. -/
theorem requestOn_new (hreq : (p.domain s d).reqOn = false) (hdark : p.field s (Csr.PWR_DOM_STATE d) = domDark) :
    p.requestOn s d = ((p.modDomain s d fun x => { x with reqOn := true, reqOff := false }).setField s
      (Csr.PWR_DOM_DEFERRALS d) 0).setFlag s (Csr.PWR_DOM_REQ_ON d) true := by
  unfold Panel.requestOn
  rw [if_neg (by simp [hreq, hdark])]

theorem requestOn_new_shows (hd : d < 5) (hreq : (p.domain s d).reqOn = false)
    (hdark : p.field s (Csr.PWR_DOM_STATE d) = domDark) :
    ((p.requestOn s d).domain s d).reqOn = true ∧ (p.requestOn s d).field s (Csr.PWR_DOM_DEFERRALS d) = 0
      ∧ (p.requestOn s d).isSet s (Csr.PWR_DOM_REQ_ON d) = true := by
  obtain ⟨-, -, hdefer, hon, -⟩ := dom_fits d hd
  rw [requestOn_new hreq hdark]
  refine ⟨by simp, ?_, isSet_setFlag_same _ _ _ _ hon (Nat.succ_pos 0)⟩
  rw [field_setFlag_separate (reqOn_separate_deferrals d hd), field_setField_same _ _ _ _ hdefer, Nat.zero_mod]

/-- A request to turn on is withdrawn. -/
def withdrawn (p : Panel) (s d : Nat) : Panel :=
  (p.modDomain s d fun x => { x with reqOn := false }).setFlag s (Csr.PWR_DOM_REQ_ON d) false

theorem withdrawn_state (hd : d < 5) : (withdrawn p s d).field s (Csr.PWR_DOM_STATE d) = p.field s (Csr.PWR_DOM_STATE d) := by
  unfold withdrawn
  rw [field_setFlag_separate (reqOn_separate_state d hd), modDomain_field]

/-- A dark domain, and one that is no cluster, heeds no switch-off (R454). -/
theorem requestOff_withdraws (hd : d < 5) (h : p.field s (Csr.PWR_DOM_STATE d) = domDark ∨ isCluster s d = false) :
    p.requestOff s d = withdrawn p s d := by
  unfold Panel.requestOff
  refine if_pos ?_
  have hstate := withdrawn_state (p := p) (s := s) hd
  unfold withdrawn at hstate
  rcases h with h | h <;> simp [hstate, h]

theorem requestOff_heeded (hd : d < 5) (hlit : p.field s (Csr.PWR_DOM_STATE d) ≠ domDark) (hcl : isCluster s d = true) :
    p.requestOff s d
      = ((withdrawn p s d).modDomain s d fun x => { x with reqOff := true }).setFlag s (Csr.PWR_DOM_REQ_OFF d) true := by
  unfold Panel.requestOff
  refine if_neg ?_
  have hstate := withdrawn_state (p := p) (s := s) hd
  unfold withdrawn at hstate
  simp [hstate, hlit, hcl]

theorem requestOff_shows (p : Panel) (s : Nat) (hd : d < 5) :
    ((p.requestOff s d).domain s d).reqOn = false ∧ (p.requestOff s d).isSet s (Csr.PWR_DOM_REQ_ON d) = false
      ∧ (isCluster s d = true → p.field s (Csr.PWR_DOM_STATE d) ≠ domDark → ((p.requestOff s d).domain s d).reqOff = true
        ∧ (p.requestOff s d).isSet s (Csr.PWR_DOM_REQ_OFF d) = true)
      ∧ (isCluster s d = false → ((p.requestOff s d).domain s d).reqOff = (p.domain s d).reqOff) := by
  obtain ⟨-, -, -, hon, hoff⟩ := dom_fits d hd
  have hclear : (withdrawn p s d).isSet s (Csr.PWR_DOM_REQ_ON d) = false := isSet_setFlag_same _ _ _ _ hon (Nat.succ_pos 0)
  by_cases h : p.field s (Csr.PWR_DOM_STATE d) = domDark ∨ isCluster s d = false
  · rw [requestOff_withdraws hd h]
    refine ⟨by simp [withdrawn], hclear, fun hcl hlit => ?_, fun _ => by simp [withdrawn]⟩
    exact absurd h (by simp [hcl, hlit])
  · obtain ⟨hlit, hcl⟩ := not_or.1 h
    rw [requestOff_heeded hd hlit (by simpa using hcl)]
    refine ⟨by simp [withdrawn], ?_, fun _ _ => ⟨by simp, isSet_setFlag_same _ _ _ _ hoff (Nat.succ_pos 0)⟩, fun hno => ?_⟩
    · rw [isSet_setFlag_separate (reqOff_separate_reqOn d hd), modDomain_isSet, hclear]
    · exact absurd hno hcl

end

/-! ### Attempts (R457 to R459) -/

/-- A field of the CSR window beyond STK_STATUS, its first word, in which a die's region stands. -/
def BeyondRegion (f : Fld) : Prop := FldFits f ∧ 4 ≤ f.off

theorem regionOf_setField (p : Panel) (x : Nat) {f : Fld} (hf : BeyondRegion f) (v s : Nat) :
    (p.setField x f v).regionOf s = p.regionOf s := by
  obtain ⟨hfits, hoff⟩ := hf
  have hword : 1 ≤ f.place.1 / 4 := by
    unfold Fld.place
    simp only
    omega
  have keeps (g : Fld) (hg : FldFits g ∧ g.place.1 / 4 + g.place.2.2 ≤ 1) : (p.setField x f v).field s g = p.field s g :=
    field_setField_apart p x f v s g hfits hg.1 (.inl (by omega))
  unfold Panel.regionOf Panel.isSet
  rw [keeps Csr.STK_STATUS_IN_REGION (by unfold FldFits; decide), keeps Csr.STK_STATUS_REGION (by unfold FldFits; decide)]

theorem regionOf_setFlag (p : Panel) (x : Nat) {f : Fld} (hf : BeyondRegion f) (b : Bool) (s : Nat) :
    (p.setFlag x f b).regionOf s = p.regionOf s := regionOf_setField p x hf _ s

theorem regionOf_count (p : Panel) (x : Nat) {f : Fld} (hf : BeyondRegion f) (n s : Nat) :
    (p.count x f n).regionOf s = p.regionOf s := regionOf_setField p x hf _ s

theorem regionOf_modDomain (p : Panel) (x d : Nat) (f : Domain → Domain) (s : Nat) :
    (p.modDomain x d f).regionOf s = p.regionOf s := by
  simp [Panel.regionOf]

theorem dom_beyondRegion : ∀ d < 5, BeyondRegion (Csr.PWR_DOM_STATE d) ∧ BeyondRegion (Csr.PWR_DOM_STAGE d)
    ∧ BeyondRegion (Csr.PWR_DOM_FORCED d) ∧ BeyondRegion (Csr.PWR_DOM_REQ_ON d) := by
  unfold BeyondRegion FldFits
  decide

/-- The ledgers of the rail and of the groups of compute dies, and PWR_STATUS. -/
theorem ledgers_beyondRegion : BeyondRegion Csr.PWR_RAIL_RESERVED ∧ BeyondRegion Csr.PWR_STATUS_SEQ_BUSY
    ∧ ∀ g < 100, BeyondRegion (Csr.PWR_GRP_RESERVED g) := by
  unfold BeyondRegion FldFits
  decide

/-- A compute die's girth group is one of the first hundred (R451). -/
theorem girthGroup_lt {s : Nat} (h : s < 400) : girthGroup s < 100 := by
  unfold girthGroup siteX siteY
  rw [if_pos h]
  omega

/-- A turn-on leaves the die in its region. -/
theorem startTurnOn_regionOf (p : Panel) (s : Nat) {d : Nat} (hd : d < 5) (forced : Bool) :
    (p.startTurnOn s d forced).regionOf s = p.regionOf s := by
  by_cases hs : s < 400
  · obtain ⟨hstate, hstage, hforced, hreq⟩ := dom_beyondRegion d hd
    obtain ⟨hrail, hbusy, hgroup⟩ := ledgers_beyondRegion
    simp only [Panel.startTurnOn, Panel.reserve, Panel.showSeqBusy, regionOf_setFlag _ _ hbusy, regionOf_count _ _ hrail,
      regionOf_count _ _ (hgroup _ (girthGroup_lt hs)), regionOf_modDomain, regionOf_setFlag _ _ hreq, regionOf_setFlag _ _ hforced,
      regionOf_setField _ _ hstage, regionOf_setField _ _ hstate]
  · simp [Panel.regionOf, hs]

section
variable (p : Panel) (s d gp rp : Nat)

/-- The ledgers take the peaks measured. -/
def measured : Panel := (p.setField sitePD (Csr.PWR_GRP_PEAK_LAST (girthGroup s)) gp).setField sitePD Csr.PWR_RAIL_PEAK_LAST rp

/-- A turn-on is asked for, and nothing keeps it from being attempted. -/
def Asked : Prop := (p.domain s d).reqOn = true ∧ p.field s (Csr.PWR_DOM_STATE d) = domDark ∧ p.keptDark s = false
  ∧ p.staging s = false

/-- The turn-on has been deferred as often as DEFER_MAX allows, and the group is not low (R459). -/
def Forced : Prop := p.acting s Csr.PWR_SEQ_CFG_DEFER_MAX ≤ p.field s (Csr.PWR_DOM_DEFERRALS d)
  ∧ p.isSet sitePD (Csr.PWR_GRP_LOW (girthGroup s)) = false

variable {p s d gp rp}

theorem attempt_not_asked (h : ¬ Asked (measured p s gp rp) s d) : p.attempt s d gp rp = measured p s gp rp := by
  unfold Panel.attempt
  refine if_pos ?_
  unfold Asked measured at h
  simp only [Bool.or_eq_true, Bool.not_eq_true', decide_eq_true_eq]
  by_contra hno
  exact h (by simpa [and_assoc] using hno)

theorem attempt_asked (h : Asked (measured p s gp rp) s d) : p.attempt s d gp rp
    = let q := measured p s gp rp
      let n := q.field s (Csr.PWR_DOM_DEFERRALS d)
      if q.acting s Csr.PWR_SEQ_CFG_DEFER_MAX ≤ n && !q.isSet sitePD (Csr.PWR_GRP_LOW (girthGroup s)) then
        (q.startTurnOn s d true).raiseFor q.primary 0x0C08 .notice (q.regionOf s) d s
      else if q.headroom s (q.reservation s d) then q.startTurnOn s d false
      else
        let c := q.count s (Csr.PWR_DOM_DEFERRALS d) 1
        if n = 0 then c.raiseFor c.primary 0x0C07 .notice (c.regionOf s) d s else c := by
  obtain ⟨hreq, hdark, hkept, hstaging⟩ := h
  unfold measured at hreq hdark hkept hstaging ⊢
  unfold Panel.attempt
  exact if_neg (by simp only [hreq, hdark, hkept, hstaging]; decide)

section
variable (h : Asked (measured p s gp rp) s d)
include h

theorem attempt_forced (hd : d < 5) (hf : Forced (measured p s gp rp) s d) : p.attempt s d gp rp
    = let t := (measured p s gp rp).startTurnOn s d true
      t.raiseFor (measured p s gp rp).primary 0x0C08 .notice (t.regionOf s) d s := by
  simp only [startTurnOn_regionOf _ _ hd]
  exact (attempt_asked h).trans (if_pos (by simpa [Forced] using hf))

section
variable (hf : ¬ Forced (measured p s gp rp) s d)
include hf

theorem attempt_unforced : p.attempt s d gp rp
    = let q := measured p s gp rp
      if q.headroom s (q.reservation s d) then q.startTurnOn s d false
      else
        let c := q.count s (Csr.PWR_DOM_DEFERRALS d) 1
        if q.field s (Csr.PWR_DOM_DEFERRALS d) = 0 then c.raiseFor c.primary 0x0C07 .notice (c.regionOf s) d s else c :=
  (attempt_asked h).trans (if_neg (by simpa [Forced] using hf))

theorem attempt_admitted (hroom : (measured p s gp rp).headroom s ((measured p s gp rp).reservation s d) = true) :
    p.attempt s d gp rp = (measured p s gp rp).startTurnOn s d false := (attempt_unforced h hf).trans (if_pos hroom)

theorem attempt_deferred (hroom : (measured p s gp rp).headroom s ((measured p s gp rp).reservation s d) = false) :
    p.attempt s d gp rp
      = let c := (measured p s gp rp).count s (Csr.PWR_DOM_DEFERRALS d) 1
        if (measured p s gp rp).field s (Csr.PWR_DOM_DEFERRALS d) = 0 then c.raiseFor c.primary 0x0C07 .notice (c.regionOf s) d s
        else c := (attempt_unforced h hf).trans (if_neg (by simp [hroom]))

end

end

end

/-! ### Header stages (R456) -/

section
variable {p : Panel} {s d : Nat}

/-- A header stage closes. -/
def staged (p : Panel) (s d : Nat) : Panel :=
  (p.setField s (Csr.PWR_DOM_STAGE d) (p.field s (Csr.PWR_DOM_STAGE d) + 1)).showSeqBusy s

theorem stageStep_idle (h : p.field s (Csr.PWR_DOM_STATE d) ≠ domTurningOn ∨ 4 ≤ p.field s (Csr.PWR_DOM_STAGE d)) (ok : Bool) :
    p.stageStep s d ok = p := by
  unfold Panel.stageStep
  exact if_pos (by simpa using h)

section
variable (hturn : p.field s (Csr.PWR_DOM_STATE d) = domTurningOn) (hstage : p.field s (Csr.PWR_DOM_STAGE d) < 4)
include hturn hstage

theorem stageStep_fails : p.stageStep s d false = (p.raise s 0x0C10).failDomain s d := by
  unfold Panel.stageStep
  rw [if_neg (by simp [hturn, hstage])]
  rfl

theorem stageStep_closes : p.stageStep s d true
    = if ((staged p s d).domain s d).reqOff then ((staged p s d).darken s d).showSeqBusy s else staged p s d := by
  unfold Panel.stageStep
  rw [if_neg (by simp [hturn, hstage])]
  rfl

theorem staged_shows (hd : d < 5) : (staged p s d).field s (Csr.PWR_DOM_STAGE d) = p.field s (Csr.PWR_DOM_STAGE d) + 1
    ∧ (staged p s d).field s (Csr.PWR_DOM_STATE d) = domTurningOn := by
  obtain ⟨-, hfits, -⟩ := dom_fits d hd
  obtain ⟨hstate, hstage'⟩ := status_separate_dom d hd Csr.PWR_STATUS_SEQ_BUSY (by simp)
  unfold staged Panel.showSeqBusy
  rw [field_setFlag_separate hstage', field_setFlag_separate hstate, field_setField_same _ _ _ _ hfits,
    field_setField_separate (stage_separate_state d hd)]
  exact ⟨Nat.mod_eq_of_lt (show _ < 8 by omega), hturn⟩

end

theorem staged_domain (p : Panel) (s d : Nat) : (staged p s d).domain s d = p.domain s d := by
  unfold staged
  rw [showSeqBusy_domain, setField_domain]

end

/-! ### Power good (R456) -/

section
variable {p : Panel} {s d : Nat}

theorem powerGood_idle (h : p.field s (Csr.PWR_DOM_STATE d) ≠ domTurningOn ∨ p.field s (Csr.PWR_DOM_STAGE d) < 4
    ∨ (p.domain s d).good ≠ none) : p.powerGood s d = p := by
  unfold Panel.powerGood
  exact if_pos (by simpa [Option.isSome_iff_ne_none, or_assoc] using h)

/-- A domain has reached power good, and its oscillator runs. -/
def risen (p : Panel) (s d : Nat) : Panel := (p.modDomain s d fun x => { x with good := some p.now }).setDomainUp s d true

/-- A cluster begins its fox-fill (R259). -/
def fills (p : Panel) (s d : Nat) : Panel :=
  let p := p.setField s (Csr.PWR_REG_VOUT d) (p.clusterVolts s d)
  let p := p.modDomain s d fun x => { x with filling := true }
  p.setField s Csr.SPR_STATUS_FILLING (putBits (p.field s Csr.SPR_STATUS_FILLING) d 1 1)

@[simp] theorem setDomainUp_domain (p : Panel) (x k : Nat) (b : Bool) (s d : Nat) :
    (p.setDomainUp x k b).domain s d = p.domain s d := by
  unfold Panel.setDomainUp Panel.each
  exact List.foldlRecOn (motive := fun q : Panel => q.domain s d = p.domain s d) _ _ rfl fun q hq k _ => by
    rw [setField_domain, hq]

theorem risen_domain (p : Panel) (s d : Nat) : (risen p s d).domain s d = { p.domain s d with good := some p.now } := by
  simp [risen]

/-- A PHY or I/O domain is on. -/
def ioOn (p : Panel) (s d : Nat) : Panel :=
  ((p.setField s (Csr.PWR_DOM_STATE d) domOn).setFlag s Csr.PWR_STATUS_IO_A_OK true).setFlag s Csr.PWR_STATUS_IO_B_OK true

/-- What becomes of a domain at power good, its oscillator running. -/
def comesUp (q : Panel) (s d : Nat) : Panel :=
  if (q.domain s d).reqOff then (q.darken s d).showSeqBusy s
  else if isCluster s d then fills q s d
  else
    let q := q.setField s (Csr.PWR_DOM_STATE d) domOn
    if d = logicDomain s then (q.setFlag s Csr.PWR_STATUS_REG_A_OK true).setFlag s Csr.PWR_STATUS_REG_B_OK true
    else (q.setFlag s Csr.PWR_STATUS_IO_A_OK true).setFlag s Csr.PWR_STATUS_IO_B_OK true

section
variable {q : Panel}

theorem comesUp_withdrawn (hoff : (q.domain s d).reqOff = true) : comesUp q s d = (q.darken s d).showSeqBusy s := if_pos hoff

section
variable (hoff : (q.domain s d).reqOff = false)
include hoff

theorem comesUp_cluster (hcl : isCluster s d = true) : comesUp q s d = fills q s d := by
  unfold comesUp
  rw [if_neg (by simp [hoff]), if_pos hcl]

theorem comesUp_io (hcl : isCluster s d = false) (hd : d ≠ logicDomain s) : comesUp q s d = ioOn q s d := by
  unfold comesUp
  rw [if_neg (by simp [hoff]), if_neg (by simp [hcl])]
  exact if_neg hd

end

theorem comesUp_logic (hd : d = logicDomain s) : comesUp q s d
    = if (q.domain s d).reqOff then (q.darken s d).showSeqBusy s
      else ((q.setField s (Csr.PWR_DOM_STATE d) domOn).setFlag s Csr.PWR_STATUS_REG_A_OK true).setFlag s
        Csr.PWR_STATUS_REG_B_OK true := by
  have hcl : isCluster s d = false := hd ▸ logicDomain_not_cluster s
  unfold comesUp
  simp [hcl, ← hd]

end

section
variable (hturn : p.field s (Csr.PWR_DOM_STATE d) = domTurningOn) (hstage : 4 ≤ p.field s (Csr.PWR_DOM_STAGE d))
  (hgood : (p.domain s d).good = none)
include hturn hstage hgood

theorem powerGood_rises :
    p.powerGood s d = comesUp (risen (if d = logicDomain s && s < 464 then (p.freshDie s).revive s else p) s d) s d := by
  unfold Panel.powerGood
  exact if_neg (by simp [hturn, hstage, hgood])

/-- The logic of a compute or edge die comes up afresh (R501). -/
theorem powerGood_logic (hd : d = logicDomain s) (hs : s < 464) :
    p.powerGood s d = comesUp (risen ((p.freshDie s).revive s) s d) s d := by
  rw [powerGood_rises hturn hstage hgood, if_pos (by simp [← hd, hs])]

theorem powerGood_other (hd : d ≠ logicDomain s) : p.powerGood s d = comesUp (risen p s d) s d := by
  rw [powerGood_rises hturn hstage hgood, if_neg (by simp [hd])]

end

end

/-- What a cluster shows as its slice begins to fill. -/
theorem fills_risen_shows (p : Panel) {s d : Nat} (hcl : isCluster s d = true) :
    ((fills (risen p s d) s d).domain s d).filling = true ∧ ((fills (risen p s d) s d).domain s d).good = some p.now
      ∧ bitOf ((fills (risen p s d) s d).field s Csr.CLK_STATUS_DOMAIN_UP) d = true
      ∧ bitOf ((fills (risen p s d) s d).field s Csr.SPR_STATUS_FILLING) d = true := by
  obtain ⟨hs, hd⟩ := (isCluster_iff s d).1 hcl
  refine ⟨by simp [fills], by simp [fills, risen], ?_, ?_⟩
  · have hvout : ∀ d < 4, Separate (Csr.PWR_REG_VOUT d) Csr.CLK_STATUS_DOMAIN_UP := by decide
    have hfill : Separate Csr.SPR_STATUS_FILLING Csr.CLK_STATUS_DOMAIN_UP := by decide
    have hclock : clocksOf s d = [d] := if_neg (by simp; omega)
    unfold fills
    simp only [field_setField_separate hfill, modDomain_field, field_setField_separate (hvout d hd)]
    unfold risen Panel.setDomainUp
    rw [hclock]
    exact bitOf_field_putBit _ s (by unfold FldFits; decide) (show d < 5 by omega) _ true
  · exact bitOf_field_putBit _ s (by unfold FldFits; decide) (show d < 4 from hd) _ true

/-- What a PHY or I/O domain shows as it comes up. -/
theorem io_risen_shows (p : Panel) (s : Nat) {d : Nat} (hd : d < 5) :
    (ioOn (risen p s d) s d).field s (Csr.PWR_DOM_STATE d) = domOn ∧ ((ioOn (risen p s d) s d).domain s d).good = some p.now
      ∧ (ioOn (risen p s d) s d).isSet s Csr.PWR_STATUS_IO_A_OK = true
      ∧ (ioOn (risen p s d) s d).isSet s Csr.PWR_STATUS_IO_B_OK = true := by
  obtain ⟨hstate, -⟩ := dom_fits d hd
  obtain ⟨ha, -⟩ := status_separate_dom d hd Csr.PWR_STATUS_IO_A_OK (by simp)
  obtain ⟨hb, -⟩ := status_separate_dom d hd Csr.PWR_STATUS_IO_B_OK (by simp)
  have hab : Separate Csr.PWR_STATUS_IO_B_OK Csr.PWR_STATUS_IO_A_OK := by decide
  refine ⟨?_, by simp [ioOn, risen], ?_, isSet_setFlag_same _ _ _ _ (by unfold FldFits; decide) (by decide)⟩
  · unfold ioOn
    rw [field_setFlag_separate hb, field_setFlag_separate ha, field_setField_same _ _ _ _ hstate]
    rfl
  · unfold ioOn
    rw [isSet_setFlag_separate hab]
    exact isSet_setFlag_same _ _ _ _ (by unfold FldFits; decide) (by decide)

/-! ### Release (R458) -/

/-- On a die that mirrors no other's registers, a field of one word leaves those of every other word, wherever they stand. -/
theorem field_setField_otherWord (p : Panel) {s : Nat} (hs : s ≠ 467) {f g : Fld} (hf : f.place.2.2 = 1) (hg : g.place.2.2 = 1)
    (h : g.place.1 / 4 ≠ f.place.1 / 4) (v : Nat) : (p.setField s f v).field s g = p.field s g := by
  have hhome (o : Nat) : homeSite s o = s := by simp [homeSite, hs]
  unfold Panel.setField Panel.field
  simp only [hf, hg, Panel.setWords, Panel.words]
  rw [word_setWord_other]
  rw [hhome, hhome]
  unfold csrKey
  omega

/-- The rail's ledger is none of the groups'. -/
theorem field_railReserved (p : Panel) (g v : Nat) :
    (p.setField sitePD (Csr.PWR_GRP_RESERVED g) v).field sitePD Csr.PWR_RAIL_RESERVED = p.field sitePD Csr.PWR_RAIL_RESERVED := by
  have hplace : (Csr.PWR_GRP_RESERVED g).place = (0xb1004 + 16 * g, 0, 1) := by
    unfold Fld.place Csr.PWR_GRP_RESERVED
    simp only [Prod.mk.injEq]
    omega
  by_cases hg : g = 128
  · subst hg
    exact field_setField_separate (by decide) p sitePD v
  · refine field_setField_otherWord p (by decide) (by rw [hplace]) rfl ?_ v
    rw [hplace]
    change 0xb1804 / 4 ≠ (0xb1004 + 16 * g) / 4
    omega

theorem unreserve_shows (p : Panel) (s d : Nat) : ((p.unreserve s d).domain s d).reserved = 0
    ∧ (p.unreserve s d).field sitePD Csr.PWR_RAIL_RESERVED
      = p.field sitePD Csr.PWR_RAIL_RESERVED - (p.domain s d).reserved := by
  refine ⟨by simp [Panel.unreserve], ?_⟩
  have hlt := field_lt p sitePD Csr.PWR_RAIL_RESERVED
  unfold Panel.unreserve
  simp only
  rw [modDomain_field, field_setField_same _ _ _ _ (by unfold FldFits; decide), field_railReserved]
  exact Nat.mod_eq_of_lt (by omega)

/-- Settles O46, clause by clause from what each command makes of a domain. -/
theorem domainPower : Obligations.DomainPower := by
  refine ⟨fun s site d gp rp hd => ?_, fun s site d hd => ?_⟩
  · intro p asked n forced
    refine ⟨fun h => ?stands, fun hreq hdark => ?asks, ?off, fun h => ?notAsked, fun ha hf hroom => ?admitted, fun ha hf => ?forced,
      fun ha hf hroom => ⟨fun hn => ?defers, fun hn => ?notes⟩⟩
    case stands => exact exec_quiet rfl (requestOn_stands h)
    case asks =>
      obtain ⟨hon, hdefer, hshown⟩ := requestOn_new_shows hd hreq hdark
      exact ⟨_, rfl, (congrArg _ (quiet_domain _ _ _ _)).trans hon, (quiet_field _ _ _ _).trans hdefer,
        (quiet_isSet _ _ _ _).trans hshown, quiet_mem _ _, quiet_time _ _⟩
    case off =>
      obtain ⟨hon, hshown, hheeds, hkeeps⟩ := requestOff_shows s.seen site hd
      refine ⟨_, rfl, (congrArg _ (quiet_domain _ _ _ _)).trans hon, (quiet_isSet _ _ _ _).trans hshown, fun hcl hlit => ?_,
        fun hcl => (congrArg _ (quiet_domain _ _ _ _)).trans (hkeeps hcl), quiet_mem _ _, quiet_time _ _⟩
      obtain ⟨hoff, hoffShown⟩ := hheeds hcl hlit
      exact ⟨(congrArg _ (quiet_domain _ _ _ _)).trans hoff, (quiet_isSet _ _ _ _).trans hoffShown⟩
    case notAsked => exact exec_quiet rfl (attempt_not_asked h)
    case admitted => exact exec_quiet rfl (attempt_admitted ha hf hroom)
    case forced => exact exec_quiet rfl (attempt_forced ha hd hf)
    case defers => exact exec_quiet rfl ((attempt_deferred ha hf hroom).trans (if_neg hn))
    case notes => exact exec_quiet rfl ((attempt_deferred ha hf hroom).trans (if_pos hn))
  · intro turning stages
    refine ⟨fun h ok => ?idle, fun ht hs => ⟨?fails, ?early, fun hoff => ?withdrawn, fun hoff => ?closes⟩, fun ht hs hg hoff =>
      ⟨fun hcl => ?cluster, fun hcl hl => ?io, fun hl hsite => ?logic⟩, fun ht hs hg hoff hl => ?dark, fun ht hg => ?late,
      fun h => ⟨?notLate, ?notTurning⟩, fun hg => ?noRelease, fun hg => ?release⟩
    case idle => exact exec_store rfl (stageStep_idle h ok)
    case fails => exact exec_store rfl (stageStep_fails ht hs)
    case early => exact exec_quiet rfl (powerGood_idle (.inr (.inl hs)))
    case withdrawn =>
      refine exec_store rfl ((stageStep_closes ht hs).trans (if_pos ?_))
      rw [staged_domain, hoff]
    case closes =>
      have heq : s.seen.stageStep site d true = staged s.seen site d :=
        (stageStep_closes ht hs).trans (if_neg (by simp [staged_domain, hoff]))
      obtain ⟨hstage, hstate⟩ := staged_shows ht hs hd
      refine ⟨_, exec_store (g := fun _ p => staged p site d) rfl heq, ?_, ?_, rfl⟩
      · exact ((store_field _ _ _ _).trans hstage).trans (congrArg (· + 1) (seen_field s site _))
      · exact (store_field _ _ _ _).trans hstate
    case cluster =>
      have hl : d ≠ logicDomain site := fun h => by simp [h, logicDomain_not_cluster] at hcl
      obtain ⟨hfilling, hsince, hup, hshown⟩ := fills_risen_shows s.seen hcl
      exact ⟨_, exec_quiet (g := fun p => fills (risen p site d) site d) rfl
          ((powerGood_other ht hs hg hl).trans (comesUp_cluster (by rw [risen_domain, hoff]) hcl)),
        (congrArg _ (quiet_domain _ _ _ _)).trans hfilling, (congrArg _ (quiet_domain _ _ _ _)).trans hsince,
        (congrArg (bitOf · d) (quiet_field _ _ _ _)).trans hup,
        (congrArg (bitOf · d) (quiet_field _ _ _ _)).trans hshown, quiet_mem _ _, quiet_time _ _⟩
    case io =>
      obtain ⟨hstate, hsince, ha, hb⟩ := io_risen_shows s.seen site hd
      exact ⟨_, exec_quiet (g := fun p => ioOn (risen p site d) site d) rfl
          ((powerGood_other ht hs hg hl).trans (comesUp_io (by rw [risen_domain, hoff]) hcl hl)),
        (quiet_field _ _ _ _).trans hstate, (congrArg _ (quiet_domain _ _ _ _)).trans hsince,
        (quiet_isSet _ _ _ _).trans ha, (quiet_isSet _ _ _ _).trans hb, quiet_mem _ _, quiet_time _ _⟩
    case logic => exact exec_quiet rfl ((powerGood_logic ht hs hg hl hsite).trans (comesUp_logic hl))
    case dark =>
      exact exec_quiet rfl ((powerGood_other ht hs hg hl).trans (comesUp_withdrawn (by rw [risen_domain, hoff])))
    case late => exact exec_store rfl (if_pos (by simpa [turning, hg] using ht))
    case notLate => exact exec_store rfl (if_neg (by simpa [turning, Option.isNone_iff_eq_none, imp_iff_not_or] using h))
    case notTurning => exact exec_quiet rfl (powerGood_idle (h.imp_right .inr))
    case noRelease => exact exec_quiet rfl (if_neg (by simp [hg]))
    case release =>
      obtain ⟨hfreed, hrail⟩ := unreserve_shows s.seen site d
      have hrun : exec (.reservationRelease site d) s = .next (s.quiet fun p => p.unreserve site d) :=
        exec_quiet rfl (if_pos (Option.isSome_iff_ne_none.2 hg))
      refine ⟨_, hrun, (congrArg _ (quiet_domain _ _ _ _)).trans hfreed, ?_, quiet_mem _ _, quiet_time _ _⟩
      rw [quiet_field, hrail, seen_field, seen_domain]

end Sys2Proof.Proofs
end

section
/-! SUPPORT. What a run over a list, and raising a fault, leave of the registers, bring-up and the tack mesh. -/

namespace Sys2Proof.Proofs

open Sys2Proof.Machine Sys2Proof.Laws

/-- A part of the panel that each round of a run keeps, the run keeps. -/
theorem each_keeps {α β : Type} (part : Panel → β) {f : Panel → α → Panel} (l : List α)
    (h : ∀ p, ∀ x ∈ l, part (f p x) = part p) (p : Panel) : part (p.each l f) = part p := by
  unfold Panel.each
  exact List.foldlRecOn (motive := fun q : Panel => part q = part p) _ _ rfl fun q hq x hx => (h q x hx).trans hq

/-! ### Raising a fault -/

/-- A fault leaves every register word that neither its class's fault register nor an effect of a fault has. -/
theorem raiseFor_field_undisturbed (p : Panel) (site code : Nat) (sev : Severity) (reg : Option Nat) (cluster detail x : Nat)
    {f g : Fld} (hf : faultReg code = some f) (hg : Undisturbed g) (hapart : WordsApart f g) (hreg : ∀ n, reg = some n → n < 16) :
    (p.raiseFor site code sev reg cluster detail).field x g = p.field x g := by
  unfold Panel.raiseFor
  simp only [hf]
  rw [report_field, ite_keeps (·.field x g) (interrupt_field _ _ _ _), ite_keeps (·.field x g) (halt_keeps_undisturbed hg _ _),
    ite_keeps (·.field x g) (modContain_field _ _ _ _), faultEffect_keeps_undisturbed hg _ _ _ hreg,
    field_setField_apart _ _ _ _ _ _ (faultReg_undisturbed hf).1 hg.1 hapart]

section
variable (p : Panel) (site code x : Nat) {f g : Fld} (hf : faultReg code = some f) (hg : Undisturbed g) (hapart : WordsApart f g)
include hf hg hapart

theorem raise_field_undisturbed : (p.raise site code).field x g = p.field x g :=
  raiseFor_field_undisturbed _ _ _ _ _ _ _ _ hf hg hapart fun _ => regionOf_lt

theorem raise_isSet_undisturbed : (p.raise site code).isSet x g = p.isSet x g := by
  unfold Panel.isSet
  rw [raise_field_undisturbed p site code x hf hg hapart]

end

/-- A fault leaves bring-up in its phase. -/
theorem raise_phase (p : Panel) (site code : Nat) : (p.raise site code).boot.phase = p.boot.phase := by
  unfold Panel.raise
  rw [raiseFor_boot]
  split <;> rfl

/-! ### Frames on the tack mesh -/

@[simp] theorem openMark_tack (p : Panel) (m : Mark) : (p.openMark m).tack = p.tack := by
  unfold Panel.openMark
  simp only
  split <;> rw [count_tack, modContain_tack]

@[simp] theorem faultEffect_tack (p : Panel) (r : FaultRec) (reg : Option Nat) : (p.faultEffect r reg).tack = p.tack := by
  cases reg with
  | none => rfl
  | some n =>
    exact ((ite_keeps (·.tack) (setFlag_tack _ _ _ _)).trans (ite_keeps (·.tack) (openMark_tack _ _))).trans
      (ite_keeps (·.tack) (openMark_tack _ _))

@[simp] theorem halt_tack (p : Panel) : p.halt.tack = p.tack := by
  unfold Panel.halt
  refine (each_keeps (·.tack) _ (fun q s _ => setFlag_tack _ _ _ _) _).trans
    ((each_keeps (·.tack) _ (fun q r _ => ?_) _).trans rfl)
  rw [setFlag_tack, setFlag_tack]

@[simp] theorem interrupt_tack (p : Panel) (v : Nat) : (p.interrupt v).tack = p.tack := by rw [interrupt_eq]

/-- A report adds FAULT frames only (R527). -/
theorem report_frames (p : Panel) (r : FaultRec) {t : TackFrame} (h : t ∈ (p.report r).tack.frames) :
    t ∈ p.tack.frames ∨ ∃ d r', t = .fault d r' := by
  have hsent (q : Panel) (a b : Nat) (r' : FaultRec)
      (h : t ∈ ((q.sendTack (.fault a r')).sendTack (.fault b r')).tack.frames) (hq : q.tack.frames = p.tack.frames) :
      t ∈ p.tack.frames ∨ ∃ d r', t = .fault d r' := by
    simp only [sendTack_frames, hq, List.mem_append, List.mem_singleton] at h
    rcases h with (h | h) | h
    · exact .inl h
    · exact .inr ⟨_, _, h⟩
    · exact .inr ⟨_, _, h⟩
  unfold Panel.report at h
  simp only at h
  split at h
  · exact .inl h
  · split at h
    · split at h
      · exact hsent _ _ _ _ h rfl
      · exact .inl h
    · exact hsent _ _ _ _ h rfl

theorem raise_frames (p : Panel) (site code : Nat) {t : TackFrame} (h : t ∈ (p.raise site code).tack.frames) :
    t ∈ p.tack.frames ∨ ∃ d r, t = .fault d r := by
  unfold Panel.raise Panel.raiseFor at h
  have h := report_frames _ _ h
  rw [ite_keeps (·.tack.frames) (by rw [interrupt_tack]), ite_keeps (·.tack.frames) (by rw [halt_tack]),
    ite_keeps (·.tack.frames) (by rw [modContain_tack]), faultEffect_tack] at h
  cases hreg : faultReg code with
  | none => simpa only [hreg] using h
  | some f => simpa only [hreg, setField_tack] using h

end Sys2Proof.Proofs
end

section
/-! SUPPORT. Bring-up (R42 to R44, R494 to R500): AD's image, the end of proof, READY, and a firmware image in the flash. -/

namespace Sys2Proof.Proofs

open Sys2Proof.Machine Sys2Proof.Laws

/-! ### Images in the flash (R494, R542) -/

theorem flashRead_of_flash {p q : Panel} (h : q.flash = p.flash) (a n : Nat) : q.flashRead a n = p.flashRead a n := by
  induction n generalizing a with
  | zero => rfl
  | succ n ih => simp only [Panel.flashRead, ih, h]

/-- The verdict on an image rests on the flash and the fuses alone (R542). -/
theorem imageCode_of_flash {p q : Panel} (hflash : q.flash = p.flash) (hfuses : q.fuses = p.fuses) (img : Nat) :
    q.imageCode img = p.imageCode img := by
  unfold Panel.imageCode Panel.verifyImage Panel.imageHeader Panel.vendorSlot
  simp only [flashRead_of_flash hflash, hfuses]

/-! ### AD's image (R495) -/

theorem flashFree_absent {p : Panel} (h : p.tack.frames.contains .flashFree = false) : p.flashFree = p := by
  unfold Panel.flashFree
  rw [if_pos (by rw [h]; rfl)]

/-- PWR_RST_STATUS lies apart from the fault registers and from what a fault changes. -/
theorem adStandby_undisturbed : Undisturbed Csr.PWR_RST_STATUS_AD_STANDBY := by
  unfold Undisturbed FldFits
  decide

/-- AD takes the flash. -/
def flashTaken (p : Panel) : Panel := p.modTack fun t => { t with frames := t.frames.filter (· ≠ .flashFree) }

/-- The image that PD booted passes AD's check. -/
def bootedOk (p : Panel) : Bool := (p.imageCode (p.field sitePD Csr.PWR_RST_STATUS_IMAGE)).isNone

theorem flashFree_present {p : Panel} (h : p.tack.frames.contains .flashFree = true) : p.flashFree
    = let q := (flashTaken p).setFlag sitePD Csr.PWR_RST_STATUS_AD_STANDBY (bootedOk p)
      if bootedOk p then q else q.raise siteAD 0x0F06 := by
  have hok : ((flashTaken p).imageCode ((flashTaken p).field sitePD Csr.PWR_RST_STATUS_IMAGE)).isNone = bootedOk p := by
    unfold bootedOk
    rw [imageCode_of_flash (p := p) (q := flashTaken p) rfl rfl, field_of_csr (p := p) (q := flashTaken p) rfl]
  unfold Panel.flashFree
  rw [if_neg (by rw [h]; decide), ← hok]
  rfl

/-- The message goes off the mesh, and AD stands by when the image is good. -/
theorem flashFree_shows {p : Panel} (h : p.tack.frames.contains .flashFree = true) :
    .flashFree ∉ p.flashFree.tack.frames ∧ p.flashFree.isSet sitePD Csr.PWR_RST_STATUS_AD_STANDBY = bootedOk p := by
  have hgone : .flashFree ∉ (flashTaken p).tack.frames := by simp [flashTaken]
  have hset : ((flashTaken p).setFlag sitePD Csr.PWR_RST_STATUS_AD_STANDBY (bootedOk p)).isSet sitePD Csr.PWR_RST_STATUS_AD_STANDBY
      = bootedOk p := isSet_setFlag_same _ _ _ _ adStandby_undisturbed.1 (by decide)
  rw [flashFree_present h]
  cases hok : bootedOk p with
  | true =>
    rw [hok] at hset
    exact ⟨by simpa using hgone, hset⟩
  | false =>
    rw [hok] at hset
    refine ⟨fun hmem => ?_, ?_⟩
    · rcases raise_frames _ _ _ hmem with hmem | ⟨d, r, hfault⟩
      · exact hgone (by simpa using hmem)
      · exact TackFrame.noConfusion hfault
    · exact (raise_isSet_undisturbed _ _ _ _ rfl adStandby_undisturbed (by decide)).trans hset

/-! ### Waves and the end of proof (R42, R43, R496) -/

section
variable {p : Panel}

theorem waveSlot_idle (h : p.boot.phase ≠ .waves ∨ 40 ≤ p.boot.slot) (m : Mem) (f c : List (Nat × Nat)) (w : List (Nat × Nat × Nat)) :
    p.waveSlot m f c w = p := by
  unfold Panel.waveSlot
  exact if_pos (by simpa using h)

theorem waveSlot_counts (hph : p.boot.phase = .waves) (hslot : p.boot.slot < 40) (m : Mem) (f c : List (Nat × Nat))
    (w : List (Nat × Nat × Nat)) : (p.waveSlot m f c w).boot.slot = p.boot.slot + 1 := by
  unfold Panel.waveSlot
  simp only
  rw [if_neg (by simp [hph, hslot])]
  rfl

theorem proofDeadline_idle (h : p.boot.phase ≠ .waves ∨ p.boot.slot = 0) : p.proofDeadline = p := by
  unfold Panel.proofDeadline
  exact if_pos (by simpa using h)

theorem endProof_idle (h : p.boot.phase ≠ .waves ∨ p.boot.slot < 40) (r : List (Nat × Nat × Nat)) (d : List (Nat × Nat)) (l : List Nat) :
    p.endProof r d l = p := by
  unfold Panel.endProof
  exact if_pos (by simpa using h)

/-- The verdicts at the end of proof, with steps 8 and 9 of R496 done. -/
def proved (p : Panel) : Panel :=
  let corners := [sitePD, siteHD, siteTD, siteAD]
  let judged := if p.boot.cornerSlot then
      ((p.each corners fun p c => p.foldLog c).collectReports corners).judge allSites
    else p.judge (List.range 464)
  (judged.stepDone 8).stepDone 9

/-- A corner die that can act as the primary is good. -/
def PrimaryLeft (q : Panel) : Prop := q.mergedState sitePD 1 = .good
  ∨ q.mergedState siteAD 1 = .good ∧ q.isSet sitePD Csr.PWR_RST_STATUS_AD_STANDBY = true

section
variable (hph : p.boot.phase = .waves) (hslot : 40 ≤ p.boot.slot) (r : List (Nat × Nat × Nat)) (d : List (Nat × Nat)) (l : List Nat)
include hph hslot

theorem endProof_stops (h : ¬ PrimaryLeft (proved p)) :
    p.endProof r d l = ((proved p).raise (proved p).primary 0x0E0C).bootFailed 9 .stopped := by
  unfold Panel.endProof
  rw [if_neg (by simp [hph, hslot])]
  exact if_pos (by simpa [PrimaryLeft, proved, imp_iff_not_or] using h)

theorem endProof_rigs (h : PrimaryLeft (proved p)) :
    (p.endProof r d l).boot.phase = .rigging ∧ (p.endProof r d l).boot.slot = 41 := by
  unfold Panel.endProof
  rw [if_neg (by simp [hph, hslot])]
  simp only
  rw [if_neg (by simpa [PrimaryLeft, proved, imp_iff_not_or] using h)]
  exact ⟨rfl, rfl⟩

end

end

/-! ### READY (R496 step 15, R499) -/

theorem flashWrite_boot (p : Panel) (a : Nat) (bs : List Byte) : (p.flashWrite a bs).boot = p.boot := by
  induction bs generalizing p a with
  | nil => rfl
  | cons b bs ih => exact ih _ _

theorem writeDesc_boot (p : Panel) (d : BootDesc) : (p.writeDesc d).boot = p.boot := by
  unfold Panel.writeDesc
  split
  rw [flashWrite_boot, flashWrite_boot]

theorem showFuses_boot (p : Panel) : p.showFuses.boot = p.boot := by
  unfold Panel.showFuses
  refine each_keeps (·.boot) _ (fun q s _ => ?_) p
  exact (each_keeps (·.boot) _ (fun q i _ => setField_boot _ _ _ _) _).trans (by simp only [setField_boot])

theorem raiseMinSvn_phase (p : Panel) : p.raiseMinSvn.boot.phase = p.boot.phase := by
  unfold Panel.raiseMinSvn
  simp only
  rw [showFuses_boot]
  exact ite_keeps (·.boot.phase) (raise_phase _ _ _)

theorem settleImage_phase (p : Panel) : p.settleImage.boot.phase = p.boot.phase := by
  unfold Panel.settleImage
  split
  · rw [setFlag_boot, writeDesc_boot]
  · exact raiseMinSvn_phase p

@[simp] theorem noteChange_boot (p : Panel) (b : Nat) : (p.noteChange b).boot = p.boot := interrupt_boot _ _
theorem noteChange_isSet (p : Panel) (b x : Nat) (g : Fld) : (p.noteChange b).isSet x g = p.isSet x g :=
  isSet_of_csr (p := p) (q := p.noteChange b) (interrupt_csr _ _) x g

/-- The end of a reset (R502). -/
theorem endReset_shows (p : Panel) : p.endReset.boot = { p.boot with resetting := none }
    ∧ p.endReset.isSet sitePD Csr.PWR_RST_STATUS_READY = true ∧ p.endReset.isSet sitePD Csr.PWR_RST_STATUS_BUSY = false := by
  have hsep : Separate Csr.PWR_RST_STATUS_READY Csr.PWR_RST_STATUS_BUSY := by decide
  unfold Panel.endReset
  refine ⟨?_, ?_, ?_⟩
  · rw [noteChange_boot, setFlag_boot, setFlag_boot]
    rfl
  · rw [noteChange_isSet]
    exact isSet_setFlag_same _ _ _ _ (by unfold FldFits; decide) (by decide)
  · rw [noteChange_isSet, isSet_setFlag_separate hsep]
    exact isSet_setFlag_same _ _ _ _ (by unfold FldFits; decide) (by decide)

theorem bringUpReady_idle {p : Panel} (h : p.boot.phase ≠ .rigging) : p.bringUpReady = p := if_pos h

/-- READY is set by the end of the reset, from a panel in its last phase. -/
theorem bringUpReady_rigging {p : Panel} (h : p.boot.phase = .rigging) : ∃ q : Panel, q.boot.phase = .ready
    ∧ p.bringUpReady = q.endReset := by
  unfold Panel.bringUpReady
  rw [if_neg (not_not.2 h)]
  exact ⟨_, settleImage_phase _, rfl⟩

/-! ### A firmware image (R494, R535) -/

section
variable {p : Panel} {code : Nat}

theorem recoverBoot_good (h : p.imageCode 0 = none) : p.recoverBoot = p := by
  unfold Panel.recoverBoot
  rw [h]

theorem recoverBoot_bad (h : p.imageCode 0 = some code) : p.recoverBoot = p.raise p.primary code := by
  unfold Panel.recoverBoot
  rw [h]

end

/-- Settles O54, phase by phase of bring-up, and by whether the boot ROM runs. -/
theorem bringUpAndFirmware : Obligations.BringUpAndFirmware := by
  refine ⟨fun s site => ⟨fun h => ?absent, fun h => ?free, fun hph f c w r d l => ?otherPhase, fun hph hslot f c w => ?wave,
    fun hph hslot f c w => ?noWave, fun hph hslot => ?noDeadline, fun hph hslot => ?deadline, fun hph hslot r d l => ?noEnd,
    fun hph hslot r d l => ?endOfProof, rfl, rfl, fun hph => ?notRigging, fun hph => ?ready⟩,
    fun s off d => ⟨fun hph => ?image, fun hph => ?rom⟩⟩
  case absent => exact exec_quiet rfl (flashFree_absent h)
  case free =>
    obtain ⟨hgone, hstandby⟩ := flashFree_shows (p := s.seen) h
    refine ⟨_, rfl, fun hmem => hgone (by rwa [quiet_tack] at hmem), quiet_mem _ _, quiet_time _ _, ?_⟩
    refine ((quiet_isSet _ _ _ _).trans hstandby).trans ?_
    unfold bootedOk
    rw [imageCode_of_flash (p := s.p) (q := s.seen) rfl rfl, seen_field]
  case otherPhase =>
    exact ⟨exec_store rfl (waveSlot_idle (p := s.seen) (.inl hph) _ f c w),
      exec_store rfl (proofDeadline_idle (p := s.seen) (.inl hph)), exec_store rfl (endProof_idle (p := s.seen) (.inl hph) r d l)⟩
  case wave => exact ⟨rfl, _, rfl, (congrArg _ (store_boot _ _)).trans (waveSlot_counts (p := s.seen) hph hslot _ f c w), store_time _ _⟩
  case noWave => exact exec_store rfl (waveSlot_idle (p := s.seen) (.inr hslot) _ f c w)
  case noDeadline => exact exec_store rfl (proofDeadline_idle (p := s.seen) (.inr hslot))
  case deadline => exact exec_store rfl (if_neg (by simp [State.seen, hph, hslot]))
  case noEnd => exact exec_store rfl (endProof_idle (p := s.seen) (.inr hslot) r d l)
  case endOfProof =>
    refine ⟨fun hpd had => exec_store rfl (endProof_stops (p := s.seen) hph hslot r d l (not_or.2 ⟨hpd, had⟩)), fun h => ?_⟩
    obtain ⟨hphase, hend⟩ := endProof_rigs (p := s.seen) hph hslot r d l h
    exact ⟨_, rfl, (congrArg _ (store_boot _ _)).trans hphase, (congrArg _ (store_boot _ _)).trans hend, store_time _ _⟩
  case notRigging => exact exec_store rfl (bringUpReady_idle (p := s.seen) hph)
  case ready =>
    obtain ⟨q, hq, heq⟩ := bringUpReady_rigging (p := s.seen) hph
    obtain ⟨hboot, hready, hbusy⟩ := endReset_shows q
    refine ⟨_, exec_store (g := fun _ _ => q.endReset) rfl heq, ?_, ?_, (store_isSet _ _ _ _).trans hready,
      (store_isSet _ _ _ _).trans hbusy, store_time _ _⟩
    · rw [store_boot, hboot, hq]
    · rw [store_boot, hboot]
  case image => exact ⟨exec_quiet rfl (if_neg hph), exec_quiet rfl (if_neg hph)⟩
  case rom =>
    exact ⟨exec_quiet rfl (if_pos hph), fun hgood => exec_quiet rfl ((if_pos hph).trans (recoverBoot_good hgood)),
      fun code hbad => exec_quiet rfl ((if_pos hph).trans (recoverBoot_bad hbad))⟩

end Sys2Proof.Proofs
end

section
/-! SUPPORT. The test channel (R37, R327 to R329): descriptors, snapshots and frames that fail. -/

namespace Sys2Proof.Proofs

open Sys2Proof.Machine Sys2Proof.Laws

/-! ### Runs that settle something for each element -/

/-- A run gives each element what its round gives it, when the rounds of other elements keep it. -/
theorem each_settles {α : Type} (P : α → Panel → Prop) {f : Panel → α → Panel} (l : List α)
    (hset : ∀ p, ∀ x ∈ l, P x (f p x)) (hkeep : ∀ p, ∀ x ∈ l, ∀ y ∈ l, x ≠ y → P x p → P x (f p y)) (p : Panel) :
    ∀ x ∈ l, P x (p.each l f) := by
  intro x hx
  have holds (q : Panel) (m : List α) (hm : ∀ y ∈ m, y ∈ l) (hq : P x q) : P x (q.each m f) := by
    unfold Panel.each
    refine List.foldlRecOn (motive := P x) _ _ hq fun r hr y hy => ?_
    by_cases hxy : x = y
    · exact hxy ▸ hset r x hx
    · exact hkeep r x hx y (hm y hy) hxy hr
  obtain ⟨a, b, rfl⟩ := List.append_of_mem hx
  unfold Panel.each at holds ⊢
  rw [List.foldl_append, List.foldl_cons]
  exact holds _ b (fun y hy => by simp [hy]) (hset _ x hx)

/-! ### Registers of a bundle end -/

/-- No effect of a fault reaches the AZL block, the last of the CSR window. -/
theorem azl_undisturbed {g : Fld} (hg : FldFits g) (h : 0xf0000 ≤ g.off) : Undisturbed g := by
  have below : ∀ e ∈ effectFlds, FldFits e ∧ e.place.1 / 4 + e.place.2.2 ≤ 0x3c000 := by
    unfold FldFits
    decide
  refine ⟨hg, fun e he => ⟨(below e he).1, .inr ((below e he).2.trans ?_)⟩⟩
  unfold Fld.place
  simp only
  omega

theorem profile_place (k : Nat) : (Csr.AZL_BUNDLE_PROFILE k).place = (0xf0100 + 4 * k, 3, 1) := by
  unfold Fld.place Csr.AZL_BUNDLE_PROFILE
  simp only [Prod.mk.injEq]
  omega

theorem profile_fits {k : Nat} (h : k < 64) : FldFits (Csr.AZL_BUNDLE_PROFILE k) := by
  unfold FldFits Csr.AZL_BUNDLE_PROFILE
  simp only
  omega

/-- AZL_BUNDLE stands above a field. -/
abbrev BelowBundles (g : Fld) : Prop :=
  g.off + (g.lsb + g.width) / 8 + 8 ≤ 0x1000000 ∧ g.place.1 / 4 + g.place.2.2 ≤ 0x3c040

theorem profile_separate {k : Nat} (hk : k < 64) {g : Fld} (hg : BelowBundles g) : Separate (Csr.AZL_BUNDLE_PROFILE k) g := by
  obtain ⟨hfits, hwords⟩ := hg
  refine ⟨⟨profile_fits hk, hfits⟩, .inl (.inl ?_)⟩
  rw [profile_place]
  omega

theorem profiles_apart {j k : Nat} (hj : j < 64) (hk : k < 64) (h : k ≠ j) :
    Separate (Csr.AZL_BUNDLE_PROFILE j) (Csr.AZL_BUNDLE_PROFILE k) := by
  refine ⟨⟨profile_fits hj, profile_fits hk⟩, .inl ?_⟩
  unfold WordsApart
  simp only [profile_place]
  omega

theorem mem_faceBundles_lt {e k : Nat} (he : e < 4) (hk : k ∈ faceBundles e) : k < 64 := by
  unfold faceBundles at hk
  obtain ⟨b, hb, rfl⟩ := List.mem_map.1 hk
  have := List.mem_range.1 hb
  omega

/-! ### Frames of the test channel (R327) -/

theorem leNat_lt (l : List Byte) : leNat l < 256 ^ l.length := by
  induction l with
  | nil => decide
  | cons b l ih =>
    have hb := b.isLt
    rw [List.length_cons, pow_succ]
    simp only [leNat]
    omega

theorem leNat_take_lt (l : List Byte) (n : Nat) : leNat (l.take n) < 256 ^ n :=
  (leNat_lt _).trans_le (Nat.pow_le_pow_right (by decide) (List.length_take_le n l))

theorem tcBody_length (f : List Byte) : (tcBody f).length = 40 := by
  unfold tcBody sliceBytes
  simp only [List.length_append, List.length_replicate, List.length_take]
  omega

/-- An intact frame holds its 48 bytes. -/
theorem ne_nil_of_tcIntact {f : List Byte} (h : tcIntact f = true) : f ≠ [] := by
  rintro rfl
  exact absurd h (by decide)

/-! ### Descriptors (R329) -/

section
variable {p : Panel} {s e : Nat} {d : List Byte}

/-- The edge is untested (R329). -/
def peerRefused (s e : Nat) (p : Panel) : Panel :=
  ((p.setField s Csr.AZL_STATUS_PEER_OK (putBits (p.field s Csr.AZL_STATUS_PEER_OK) e 1 0)).untestedEdge s e).raise s 0x0A06

theorem descriptor_refuses {crcOk : Bool}
    (h : crcOk = false ∨ descProfiles d % 4 = 0 ∨ (isGuest d = true ∧ edgeDie (facing s e).1 = false)) :
    p.descriptor s e d crcOk = peerRefused s e p := by
  unfold Panel.descriptor
  refine if_pos ?_
  rcases h with h | h | ⟨h, h'⟩ <;> simp [*]

/-- The neighbour is named. -/
def peerNamed (s e : Nat) (d : List Byte) (p : Panel) : Panel :=
  let p := p.setField s (Csr.AZL_CAP_PEER e) (leNat (d.take 32))
  let p := p.setField s Csr.AZL_STATUS_PEER_OK (putBits (p.field s Csr.AZL_STATUS_PEER_OK) e 1 (flag true))
  p.setField s Csr.AZL_STATUS_GUEST (putBits (p.field s Csr.AZL_STATUS_GUEST) e 1 (flag (isGuest d)))

/-- The bundles of an edge take a profile. -/
def profiled (s e : Nat) (fast : Bool) (p : Panel) : Panel :=
  p.each (faceBundles e) fun p b => p.setFlag s (Csr.AZL_BUNDLE_PROFILE b) fast

theorem descriptor_names (hlen : 40 ≤ d.length) (hcommon : descProfiles d % 4 ≠ 0)
    (hguest : isGuest d = false ∨ edgeDie (facing s e).1 = true) : p.descriptor s e d true
      = (profiled s e (2 ≤ descProfiles d % 4) (peerNamed s e d p)).raiseIf (!decide (2 ≤ descProfiles d % 4)) s 0x0A05 := by
  unfold Panel.descriptor
  refine if_neg ?_
  rcases hguest with h | h <;> simp [h, hcommon, hlen]

theorem profiled_isSet (he : e < 4) (fast : Bool) :
    ∀ k ∈ faceBundles e, (profiled s e fast p).isSet s (Csr.AZL_BUNDLE_PROFILE k) = fast := by
  refine each_settles (fun k q => q.isSet s (Csr.AZL_BUNDLE_PROFILE k) = fast) _ (fun q k hk => ?_) (fun q k hk j hj hkj hq => ?_) p
  · exact isSet_setFlag_same _ _ _ _ (profile_fits (mem_faceBundles_lt he hk)) (Nat.succ_pos 0)
  · rw [isSet_setFlag_separate (profiles_apart (mem_faceBundles_lt he hj) (mem_faceBundles_lt he hk) hkj), hq]

theorem profiled_field (he : e < 4) (fast : Bool) {g : Fld} (hg : BelowBundles g) :
    (profiled s e fast p).field s g = p.field s g :=
  each_keeps (·.field s g) _ (fun _ _ hk => field_setFlag_separate (profile_separate (mem_faceBundles_lt he hk) hg) _ _ _) p

/-- What the registers of an edge name after a good descriptor: its fields and its GUEST bit, at PEER_OK. -/
theorem peerNamed_shows (p : Panel) (s : Nat) {e : Nat} (d : List Byte) (he : e < 4) :
    (peerNamed s e d p).field s (Csr.AZL_CAP_PEER e) = leNat (d.take 32)
      ∧ bitOf ((peerNamed s e d p).field s Csr.AZL_STATUS_PEER_OK) e = true
      ∧ bitOf ((peerNamed s e d p).field s Csr.AZL_STATUS_GUEST) e = isGuest d := by
  have hcap : ∀ e < 4, FldFits (Csr.AZL_CAP_PEER e) ∧ Separate Csr.AZL_STATUS_PEER_OK (Csr.AZL_CAP_PEER e)
      ∧ Separate Csr.AZL_STATUS_GUEST (Csr.AZL_CAP_PEER e) := by
    unfold FldFits
    decide
  have hguest : Separate Csr.AZL_STATUS_GUEST Csr.AZL_STATUS_PEER_OK := by decide
  obtain ⟨hfits, hpeerSep, hguestSep⟩ := hcap e he
  refine ⟨?_, ?_, bitOf_field_putBit _ s (by unfold FldFits; decide) he _ _⟩
  · unfold peerNamed
    rw [field_setField_separate hguestSep, field_setField_separate hpeerSep, field_setField_same _ _ _ _ hfits]
    exact Nat.mod_eq_of_lt (leNat_take_lt d 32)
  · unfold peerNamed
    rw [field_setField_separate hguest]
    exact bitOf_field_putBit _ s (by unfold FldFits; decide) he _ true

/-- A code 0x0A05 leaves the registers that a descriptor writes. -/
theorem raiseIf_field_azl (p : Panel) (c : Bool) (s : Nat) {g : Fld} (hfits : FldFits g) (hoff : 0xf0000 ≤ g.off)
    (hapart : WordsApart Csr.AZL_FAULT g) : (p.raiseIf c s 0x0A05).field s g = p.field s g :=
  ite_keeps (·.field s g) (raise_field_undisturbed p s 0x0A05 s rfl (azl_undisturbed hfits hoff) hapart)

/-- What an edge shows after a good descriptor of a common profile. -/
theorem descriptor_names_shows (p : Panel) (s : Nat) {e : Nat} {d : List Byte} (he : e < 4) (hlen : 40 ≤ d.length)
    (hcommon : descProfiles d % 4 ≠ 0) (hguest : isGuest d = false ∨ edgeDie (facing s e).1 = true) :
    (p.descriptor s e d true).field s (Csr.AZL_CAP_PEER e) = leNat (d.take 32)
      ∧ bitOf ((p.descriptor s e d true).field s Csr.AZL_STATUS_PEER_OK) e = true
      ∧ bitOf ((p.descriptor s e d true).field s Csr.AZL_STATUS_GUEST) e = isGuest d
      ∧ (∀ k ∈ faceBundles e, (p.descriptor s e d true).isSet s (Csr.AZL_BUNDLE_PROFILE k) = decide (2 ≤ descProfiles d % 4))
      ∧ (descProfiles d % 4 = 1 → (p.descriptor s e d true).field s Csr.AZL_FAULT = 0x0A05) := by
  have hbelow : BelowBundles Csr.AZL_STATUS_PEER_OK ∧ BelowBundles Csr.AZL_STATUS_GUEST := by decide
  have hcap : ∀ e < 4, BelowBundles (Csr.AZL_CAP_PEER e) ∧ WordsApart Csr.AZL_FAULT (Csr.AZL_CAP_PEER e) := by decide
  obtain ⟨hpeer, hguestBit⟩ := hbelow
  obtain ⟨hcapBelow, hcapApart⟩ := hcap e he
  obtain ⟨hnamed, hok, hbit⟩ := peerNamed_shows p s d he
  rw [descriptor_names hlen hcommon hguest]
  refine ⟨?_, ?_, ?_, fun k hk => ?_, fun hslow => ?_⟩
  · rw [raiseIf_field_azl _ _ _ hcapBelow.1 (Nat.le_add_right_of_le (by decide)) hcapApart, profiled_field he _ hcapBelow, hnamed]
  · rw [raiseIf_field_azl _ _ _ hpeer.1 (by decide) (by decide), profiled_field he _ hpeer, hok]
  · rw [raiseIf_field_azl _ _ _ hguestBit.1 (by decide) (by decide), profiled_field he _ hguestBit, hbit]
  · have hk64 := mem_faceBundles_lt he hk
    have hapart : WordsApart Csr.AZL_FAULT (Csr.AZL_BUNDLE_PROFILE k) := by
      refine .inr ?_
      rw [profile_place]
      change 0x3c002 + 1 ≤ (0xf0100 + 4 * k) / 4
      omega
    unfold Panel.isSet
    rw [raiseIf_field_azl _ _ _ (profile_fits hk64) (Nat.le_add_right_of_le (by decide)) hapart]
    exact profiled_isSet he _ k hk
  · unfold Panel.raiseIf
    rw [if_pos (by simp [hslow])]
    exact raise_field_faultReg _ _ _ rfl (by decide)

end

/-! ### TC_DESCRIPTOR (R329) -/

section
variable {p : Panel} {s e : Nat} {f : List Byte}

theorem tcDescriptor_off (h : p.lives s = false ∨ faceCount s ≤ e) : p.tcDescriptor s e f = p := by
  unfold Panel.tcDescriptor
  exact if_pos (by simpa using h)

section
variable (hlives : p.lives s = true) (he : e < faceCount s)
include hlives he

theorem tcDescriptor_on : p.tcDescriptor s e f
    = if f.isEmpty then p.descriptor s e [] false
      else if !tcIntact f then (p.tcFailed s).descriptor s e [] false
      else if tcType f = 1 then p.descriptor s e (tcBody f) true
      else p := by
  unfold Panel.tcDescriptor
  exact if_neg (by simp [hlives, he])

theorem tcDescriptor_missing : p.tcDescriptor s e [] = peerRefused s e p := by
  rw [tcDescriptor_on hlives he, if_pos List.isEmpty_nil]
  exact descriptor_refuses (.inl rfl)

theorem tcDescriptor_failed (hne : f ≠ []) (hbad : tcIntact f = false) :
    p.tcDescriptor s e f = peerRefused s e (p.tcFailed s) := by
  rw [tcDescriptor_on hlives he, if_neg (by simpa using hne), if_pos (by simp [hbad])]
  exact descriptor_refuses (.inl rfl)

section
variable (hok : tcIntact f = true)
include hok

theorem tcDescriptor_intact :
    p.tcDescriptor s e f = if tcType f = 1 then p.descriptor s e (tcBody f) true else p := by
  rw [tcDescriptor_on hlives he, if_neg (by simpa using ne_nil_of_tcIntact hok), if_neg (by simp [hok])]

theorem tcDescriptor_reads (htype : tcType f = 1) : p.tcDescriptor s e f = p.descriptor s e (tcBody f) true := by
  rw [tcDescriptor_intact hlives he hok, if_pos htype]

end

end

end

/-! ### TC_SNAPSHOT (R37) -/

section
variable {p : Panel} {tester target : Nat} {f : List Byte}

/-- A die folds a frame's snapshots into the signatures of the units reported. -/
def foldFrame (f : List Byte) (target t : Nat) (p : Panel) : Panel :=
  p.each (tcSnapshots f) fun p x => p.each (unitsOfBit target x.1) fun p u => p.foldSnapshot t target u x.2

/-- A part of the panel that a fold keeps, a frame keeps. -/
theorem foldFrame_keeps {β : Type} (part : Panel → β) (h : ∀ p t g u x, part (Panel.foldSnapshot p t g u x) = part p)
    (f : List Byte) (target t : Nat) (p : Panel) : part (foldFrame f target t p) = part p :=
  each_keeps part _ (fun _ _ _ => each_keeps part _ (fun _ _ _ => h _ _ _ _ _) _) p

theorem foldFrame_csr (f : List Byte) (target t : Nat) (p : Panel) : (foldFrame f target t p).csr = p.csr :=
  foldFrame_keeps (·.csr) (fun _ _ _ _ _ => rfl) f target t p

theorem foldFrame_selfSeq (f : List Byte) (target t : Nat) (p : Panel) :
    (foldFrame f target t p).plan.selfSeq = p.plan.selfSeq := foldFrame_keeps (·.plan.selfSeq) (fun _ _ _ _ _ => rfl) f target t p

/-- The frame's SEQ is the one that the target folded last. -/
def OwnFolded (p : Panel) (target : Nat) (f : List Byte) : Prop := SMap.get (fun _ => none) p.plan.selfSeq target = some (tcSeq f)

/-- A frame of snapshots that reaches a tester between two live dies. -/
def GoodSnapshot (p : Panel) (tester target : Nat) (f : List Byte) : Prop :=
  p.lives tester = true ∧ p.lives target = true ∧ tcIntact f = true ∧ tcType f = 2

theorem tcSnapshot_ignored (h : ¬ GoodSnapshot p tester target f) : p.tcSnapshot tester target f = p := by
  unfold Panel.tcSnapshot
  refine if_pos ?_
  unfold GoodSnapshot at h
  by_contra hno
  exact h (by simpa [and_assoc] using hno)

/-- The target has folded the frame for its own verdict. -/
def ownFold (f : List Byte) (target : Nat) (p : Panel) : Panel :=
  if SMap.get (fun _ => none) p.plan.selfSeq target = some (tcSeq f) then p
  else foldFrame f target target
    (p.modPlan fun q => { q with selfSeq := SMap.set (fun _ => none) q.selfSeq target (some (tcSeq f)) })

theorem ownFold_shows (f : List Byte) (target : Nat) (p : Panel) :
    OwnFolded (ownFold f target p) target f ∧ (ownFold f target p).csr = p.csr := by
  unfold OwnFolded ownFold
  split
  next h => exact ⟨h, rfl⟩
  next => exact ⟨by simp [foldFrame_selfSeq, Panel.modPlan], foldFrame_csr _ _ _ _⟩

theorem tcSnapshot_good (h : GoodSnapshot p tester target f) : p.tcSnapshot tester target f
    = if tester = target then ownFold f target p else foldFrame f target tester (ownFold f target p) := by
  obtain ⟨ha, hb, hok, htype⟩ := h
  unfold Panel.tcSnapshot
  exact if_neg (by simp [ha, hb, hok, htype])

theorem tcSnapshot_good_shows (h : GoodSnapshot p tester target f) :
    OwnFolded (p.tcSnapshot tester target f) target f ∧ (p.tcSnapshot tester target f).csr = p.csr := by
  obtain ⟨hown, hcsr⟩ := ownFold_shows f target p
  rw [tcSnapshot_good h]
  split
  · exact ⟨hown, hcsr⟩
  · unfold OwnFolded at hown ⊢
    rw [foldFrame_selfSeq, foldFrame_csr]
    exact ⟨hown, hcsr⟩

/-! ### TC_FRAME_CRC_FAIL (R327) -/

/-- What a frame reports for a unit that the tester has not answered for. -/
def lostReports (tester target : Nat) (f : List Byte) (rs : List ProofReport) : List ProofReport :=
  (((List.range 8).filter fun i => bitOf (tcUnits f) i).flatMap (unitsOfBit target)).filterMap fun u =>
    if (outcomeOf rs tester target u).isNone then some ⟨tester, target, u, .noResponse⟩ else none

theorem mem_lostReports {rs : List ProofReport} {i u : Nat} (hi : i < 8) (hbit : bitOf (tcUnits f) i = true)
    (hu : u ∈ unitsOfBit target i) (hnone : (outcomeOf rs tester target u).isNone = true) :
    ⟨tester, target, u, .noResponse⟩ ∈ lostReports tester target f rs := by
  refine List.mem_filterMap.2 ⟨u, List.mem_flatMap.2 ⟨i, ?_, hu⟩, if_pos hnone⟩
  exact List.mem_filter.2 ⟨List.mem_range.2 hi, hbit⟩

theorem tcLost_ignored (h : p.lives tester = false ∨ tcIntact f = true) : p.tcLost tester target f = p := by
  unfold Panel.tcLost
  exact if_pos (by simpa using h)

theorem tcLost_counts (hlives : p.lives tester = true) (hbad : tcIntact f = false) : p.tcLost tester target f
    = if tcType f ≠ 2 then p.tcFailed tester
      else (p.tcFailed tester).modPlan fun q => { q with reports := q.reports ++ lostReports tester target f q.reports } := by
  unfold Panel.tcLost
  exact if_neg (by simp [hlives, hbad])

theorem tcFailed_shows (p : Panel) (s : Nat) : (p.tcFailed s).field s Csr.AZL_FAULT = 0x0A0B
    ∧ SMap.get (fun _ => 0) (p.tcFailed s).fabric.tcErrors s = SMap.get (fun _ => 0) p.fabric.tcErrors s + 1
    ∧ (p.tcFailed s).plan = p.plan := by
  unfold Panel.tcFailed
  refine ⟨raise_field_faultReg _ _ _ rfl (by decide), ?_, raise_plan _ _ _⟩
  rw [raise_fabric]
  exact smap_get_modify_same (fun _ => 0) p.fabric.tcErrors s (· + 1)

/-- What a lost frame leaves: the fault, one more error of the tester, and no response for each unit of a lost snapshot. -/
theorem tcLost_shows (hlives : p.lives tester = true) (hbad : tcIntact f = false) :
    (p.tcLost tester target f).field tester Csr.AZL_FAULT = 0x0A0B
      ∧ SMap.get (fun _ => 0) (p.tcLost tester target f).fabric.tcErrors tester = SMap.get (fun _ => 0) p.fabric.tcErrors tester + 1
      ∧ (tcType f ≠ 2 → (p.tcLost tester target f).plan = p.plan)
      ∧ (tcType f = 2 → ∀ i u, i < 8 → bitOf (tcUnits f) i = true → u ∈ unitsOfBit target i →
          (outcomeOf p.plan.reports tester target u).isNone = true →
          ⟨tester, target, u, .noResponse⟩ ∈ (p.tcLost tester target f).plan.reports) := by
  obtain ⟨hfault, herrors, hplan⟩ := tcFailed_shows p tester
  rw [tcLost_counts hlives hbad]
  split
  next htype => exact ⟨hfault, herrors, fun _ => hplan, fun h => absurd h htype⟩
  next htype =>
    refine ⟨by rw [modPlan_field, hfault], herrors, fun h => absurd h htype, fun _ i u hi hbit hu hnone => ?_⟩
    rw [modPlan_same, hplan]
    exact List.mem_append_right _ (mem_lostReports hi hbit hu hnone)

end

end Sys2Proof.Proofs
end

section
/-! SUPPORT. A domain that goes dark leaves the floor plan (R460). -/

namespace Sys2Proof.Proofs

open Sys2Proof.Machine Sys2Proof.Laws

@[simp] theorem each_plan {α : Type} {f : Panel → α → Panel} (l : List α) (h : ∀ p x, (f p x).plan = p.plan) (p : Panel) :
    (p.each l f).plan = p.plan := each_keeps (·.plan) l (fun p x _ => h p x) p

@[simp] theorem setBoard_plan (p : Panel) (s c : Nat) (l : List SbEntry) : (p.setBoard s c l).plan = p.plan := by
  simp [Panel.setBoard]

@[simp] theorem retire_plan (p : Panel) (s id : Nat) : (p.retire s id).plan = p.plan :=
  each_plan _ (fun _ _ => ite_keeps (·.plan) (setBoard_plan _ _ _ _)) p

@[simp] theorem loseEngine_plan (p : Panel) (s c e : Nat) : (p.loseEngine s c e).plan = p.plan := by
  unfold Panel.loseEngine
  rw [modEngine_plan, each_plan _ fun _ _ => retire_plan _ _ _]

@[simp] theorem engineStatus_plan (p : Panel) (s : Nat) : (p.engineStatus s).plan = p.plan := by
  simp [Panel.engineStatus]

@[simp] theorem closeWindow_plan (p : Panel) (s c i : Nat) : (p.closeWindow s c i).plan = p.plan := by
  simp [Panel.closeWindow]

@[simp] theorem closeWindows_plan (p : Panel) (s c : Nat) : (p.closeWindows s c).plan = p.plan :=
  each_plan _ (fun _ _ => ite_keeps (·.plan) (closeWindow_plan _ _ _ _)) p

@[simp] theorem showCopy_plan (p : Panel) (s c : Nat) : (p.showCopy s c).plan = p.plan := by
  unfold Panel.showCopy
  rw [setField_plan]

/-- Threads are no part of the floor plan. -/
theorem withThreads_plan (p : Panel) (l : SMap Thread) : ({ p with threads := l } : Panel).plan = p.plan := rfl

@[simp] theorem loseCluster_plan (p : Panel) (s c : Nat) : (p.loseCluster s c).plan = p.plan := by
  unfold Panel.loseCluster
  rw [modSeq_plan, withThreads_plan, showCopy_plan, closeWindows_plan, engineStatus_plan, setBoard_plan, modMover_plan,
    loseEngine_plan, loseEngine_plan]

@[simp] theorem unstall_plan (p : Panel) (s : Nat) : (p.unstall s).plan = p.plan := by
  simp [Panel.unstall]

@[simp] theorem setSlot12_plan (p : Panel) (s : Nat) (l : List Slot12Op) : (p.setSlot12 s l).plan = p.plan := by
  simp [Panel.setSlot12]

@[simp] theorem clearMesh_plan (p : Panel) (s : Nat) : (p.clearMesh s).plan = p.plan := by
  unfold Panel.clearMesh
  exact setRunning_plan p s []

@[simp] theorem stopDie_plan (p : Panel) (s : Nat) : (p.stopDie s).plan = p.plan := by
  unfold Panel.stopDie
  rw [clearMesh_plan, setField_plan, setSlot12_plan,
    each_plan _ fun _ _ => (closeWindows_plan _ _ _).trans ((setBoard_plan _ _ _ _).trans (modMover_plan _ _ _ _)),
    withThreads_plan, setField_plan, modSeq_plan, unstall_plan, setFlag_plan]

@[simp] theorem quietDie_plan (p : Panel) (s : Nat) : (p.quietDie s).plan = p.plan := by
  simp [Panel.quietDie]

@[simp] theorem unreserve_plan (p : Panel) (s d : Nat) : (p.unreserve s d).plan = p.plan := by
  unfold Panel.unreserve
  rw [modDomain_plan, setField_plan, setField_plan]

@[simp] theorem setDomainUp_plan (p : Panel) (s d : Nat) (b : Bool) : (p.setDomainUp s d b).plan = p.plan := by
  simp [Panel.setDomainUp]

@[simp] theorem clearRouter_plan (p : Panel) (s : Nat) : (p.clearRouter s).plan = p.plan := by
  unfold Panel.clearRouter
  rw [modRouter_plan]

@[simp] theorem showSeqBusy_plan (p : Panel) (s : Nat) : (p.showSeqBusy s).plan = p.plan := by
  unfold Panel.showSeqBusy
  rw [setFlag_plan]

@[simp] theorem darken_plan (p : Panel) (s d : Nat) : (p.darken s d).plan = p.plan := by
  unfold Panel.darken
  extract_lets released cleared dark staged asked lowered
  have hlowered : lowered.plan = p.plan :=
    calc lowered.plan = asked.plan := setDomainUp_plan _ _ _ _
      _ = staged.plan := (setFlag_plan _ _ _ _).trans (setFlag_plan _ _ _ _)
      _ = dark.plan := setField_plan _ _ _ _
      _ = cleared.plan := setField_plan _ _ _ _
      _ = released.plan := modDomain_plan _ _ _ _
      _ = p.plan := unreserve_plan _ _ _
  clear_value lowered
  rw [← hlowered]
  split
  · rw [setField_plan, setField_plan, loseCluster_plan]
  · split
    · rw [ite_keeps (·.plan) (quietDie_plan _ _), clearRouter_plan, setFlag_plan, setFlag_plan]
    · rw [setFlag_plan, setFlag_plan]

@[simp] theorem darkenBad_plan (p : Panel) : p.darkenBad.plan = p.plan := by
  refine each_plan _ (fun q s => ?_) p
  simp only
  split
  · rfl
  · simp

end Sys2Proof.Proofs
end

section
/-! SUPPORT. The running self-tests of the floor plan: what a merge leaves of them, and how one begins, stops and ends (R50 to R52). -/

namespace Sys2Proof.Proofs

open Sys2Proof.Machine Sys2Proof.Laws

/-! ### The self-tests that run, over a merge (R45 to R49) -/

theorem put_plan (p : Panel) (w : MemWrite) : (p.put w).plan = p.plan := rfl

theorem noteChange_plan (p : Panel) (b : Nat) : (p.noteChange b).plan = p.plan := by
  unfold Panel.noteChange
  rw [interrupt_eq, modTack_plan]

theorem flashWrite_plan (p : Panel) (a : Nat) (bs : List Byte) : (p.flashWrite a bs).plan = p.plan := by
  induction bs generalizing p a with
  | nil => rfl
  | cons b bs ih =>
    unfold Panel.flashWrite
    rw [ih]

theorem appendCopy_plan (p : Panel) (copy : Nat) (e : Errata) : (p.appendCopy copy e).plan = p.plan := by
  unfold Panel.appendCopy
  simp only
  split
  · rw [raise_plan]
  · rw [flashWrite_plan]

theorem appendField_bists (p : Panel) (s u state cause code : Nat) :
    (p.appendField s u state cause code).plan.bists = p.plan.bists := by
  unfold Panel.appendField
  split
  · rfl
  · extract_lets e copied
    have hcopied : copied.plan = p.plan := (appendCopy_plan _ _ _).trans (appendCopy_plan _ _ _)
    clear_value copied
    split
    · rw [hcopied]
    · rw [modPlan_same, hcopied]

theorem badThisBoot_bists (p : Panel) (s u : Nat) : (p.badThisBoot s u).plan.bists = p.plan.bists := by
  unfold Panel.badThisBoot
  split
  · rfl
  · rw [modPlan_same]

theorem mergeUnit_bists (cause : Nat) (p : Panel) (s u : Nat) : (Panel.mergeUnit cause p s u).plan.bists = p.plan.bists := by
  unfold Panel.mergeUnit
  extract_lets f e v fused recorded told st
  have hfused : fused.plan.bists = p.plan.bists := ite_keeps (·.plan.bists) (by rw [raise_plan])
  have hrecorded : recorded.plan.bists = fused.plan.bists :=
    ite_keeps (·.plan.bists) (by rw [raise_plan, appendField_bists])
  have htold : told.plan.bists = recorded.plan.bists := ite_keeps (·.plan.bists) (by rw [raise_plan])
  rw [modPlan_same]
  exact htold.trans (hrecorded.trans hfused)

theorem publishPlan_bists (p : Panel) : p.publishPlan.plan.bists = p.plan.bists := by
  unfold Panel.publishPlan
  rw [noteChange_plan, put_plan, setField_plan, setField_plan, setField_plan, modPlan_same]

theorem mergeDie_bists (cause : Nat) (p : Panel) (s : Nat) :
    (p.each (unitsOf s) fun p u => Panel.mergeUnit cause p s u).plan.bists = p.plan.bists :=
  each_keeps (·.plan.bists) (unitsOf s) (fun q u _ => mergeUnit_bists cause q s u) p

theorem mergeDies_bists (cause : Nat) (l : List Nat) (p : Panel) :
    (p.each l fun p s => p.each (unitsOf s) fun p u => Panel.mergeUnit cause p s u).plan.bists = p.plan.bists :=
  each_keeps (·.plan.bists) l (fun q s _ => mergeDie_bists cause q s) p

theorem merge_bists (p : Panel) (cause : Nat) : (p.merge cause).plan.bists = p.plan.bists := by
  rw [Panel.merge]
  rw [publishPlan_bists, raiseIf_plan, raiseIf_plan, mergeDies_bists]

theorem judge_bists (p : Panel) (sites : List Nat) : (p.judge sites).plan.bists = p.plan.bists := rfl

theorem showReports_plan (p : Panel) (s : Nat) : (p.showReports s).plan = p.plan := by
  unfold Panel.showReports
  exact each_plan _ (fun q e => by rw [setField_plan, setFlag_plan, setField_plan]) p

theorem showResult_plan (p : Panel) (s units : Nat) (st : Nat → UnitState) : (p.showResult s units st).plan = p.plan := by
  unfold Panel.showResult
  rw [setField_plan, setField_plan]

/-! ### Leaving a self-test (R52) -/

theorem underBist_of_bists {p q : Panel} (h : q.plan.bists = p.plan.bists) (s : Nat) : q.underBist s = p.underBist s := by
  unfold Panel.underBist
  rw [h]

theorem underBist_eq_false_iff {p : Panel} {s : Nat} :
    p.underBist s = false ↔ (p.plan.bists.find? fun b => b.site = s) = none := by
  simp [Panel.underBist]

theorem exists_run_of_underBist {p : Panel} {s : Nat} (h : p.underBist s = true) :
    ∃ run, (p.plan.bists.find? fun b => b.site = s) = some run := by
  rw [← Option.isSome_iff_exists, List.find?_isSome]
  simpa [Panel.underBist] using h

theorem setLooped_keeps {β : Type} (part : Panel → β) (h : ∀ p s f v, part (Panel.setField p s f v) = part p) (p : Panel) (s : Nat)
    (bs : List Nat) (was now : Nat) : part (p.setLooped s bs was now) = part p := by
  unfold Panel.setLooped
  exact each_keeps part bs (fun _ _ _ => each_keeps part _ (fun _ _ _ => ite_keeps part (h _ _ _ _)) _) p

theorem leaveBist_underBist (p : Panel) (s : Nat) (reported : Nat → Bool) : (p.leaveBist s reported).underBist s = false := by
  unfold Panel.leaveBist
  split
  next h => exact underBist_eq_false_iff.2 h
  next => simp [Panel.underBist]

/-! ### FIELD_BIST_ABORT (R52) -/

theorem stopBist_off {p : Panel} {s : Nat} (h : p.underBist s = false) : p.stopBist s = p := by
  unfold Panel.stopBist
  exact if_pos (by simp [h])

theorem stopBist_on {p : Panel} {s : Nat} (h : p.underBist s = true) : p.stopBist s
    = (((((p.leaveBist s fun _ => false).setFlag s Csr.BST_STATUS_BUSY false).setFlag s Csr.BST_STATUS_ABORTED true).setField s
        Csr.BST_RESULT 0).raise s 0x0E0D) := by
  unfold Panel.stopBist
  exact if_neg (by simp [h])

theorem stopBist_shows {p : Panel} {s : Nat} (h : p.underBist s = true) :
    (p.stopBist s).underBist s = false ∧ (p.stopBist s).isSet s Csr.BST_STATUS_BUSY = false
      ∧ (p.stopBist s).isSet s Csr.BST_STATUS_ABORTED = true ∧ (p.stopBist s).field s Csr.BST_RESULT = 0 := by
  have hundisturbed : Undisturbed Csr.BST_STATUS_BUSY ∧ Undisturbed Csr.BST_STATUS_ABORTED ∧ Undisturbed Csr.BST_RESULT := by
    unfold Undisturbed FldFits
    decide
  obtain ⟨hbusy, haborted, hresult⟩ := hundisturbed
  have hresultBusy : Separate Csr.BST_RESULT Csr.BST_STATUS_BUSY := by decide
  have hresultAborted : Separate Csr.BST_RESULT Csr.BST_STATUS_ABORTED := by decide
  have habortedBusy : Separate Csr.BST_STATUS_ABORTED Csr.BST_STATUS_BUSY := by decide
  rw [stopBist_on h]
  refine ⟨?_, ?_, ?_, ?_⟩
  · rw [underBist_of_bists (p := p.leaveBist s fun _ => false) (by rw [raise_plan, setField_plan, setFlag_plan, setFlag_plan]),
      leaveBist_underBist]
  · rw [raise_isSet_undisturbed _ _ _ _ rfl hbusy (by decide), isSet_setField_separate hresultBusy, isSet_setFlag_separate habortedBusy]
    exact isSet_setFlag_same _ _ _ _ (by unfold FldFits; decide) (by decide)
  · rw [raise_isSet_undisturbed _ _ _ _ rfl haborted (by decide), isSet_setField_separate hresultAborted]
    exact isSet_setFlag_same _ _ _ _ (by unfold FldFits; decide) (by decide)
  · rw [raise_field_undisturbed _ _ _ _ rfl hresult (by decide), field_setField_same _ _ _ _ hresult.1]
    rfl

/-! ### FIELD_BIST_START (R50) -/

/-- What BST_CTRL asks. -/
def bistAsked (s mode kinds units : Nat) (p : Panel) : Panel :=
  ((p.setField s Csr.BST_CTRL_MODE mode).setField s Csr.BST_CTRL_KIND kinds).setField s Csr.BST_CTRL_UNITS units

/-- A run that is accepted. -/
def acceptedRun (s mode kinds units : Nat) (p : Panel) : BistRun :=
  { site := s, neighbour := mode = 1, kinds := kinds % 8, units := units % 32,
    looped := if bitOf kinds 2 then (List.range (16 * faceCount s)).filter fun b => p.azState s b = azUp else [],
    before := p.plan.reports.filter fun r => r.target = s }

/-- A run begins: it is noted, its die's reports are forgotten, and its bundles leave service. -/
def beginRun (s : Nat) (run : BistRun) (p : Panel) : Panel :=
  ((p.forgetReports [s]).modPlan fun q => { q with bists := q.bists ++ [run] }).setLooped s run.looped azUp azTraining

theorem beginRun_plan (s : Nat) (run : BistRun) (p : Panel) :
    (beginRun s run p).plan = { (p.forgetReports [s]).plan with bists := p.plan.bists ++ [run] } := by
  unfold beginRun
  rw [setLooped_keeps (·.plan) setField_plan, modPlan_same]
  rfl

theorem beginRun_writes (s : Nat) (run : BistRun) (p : Panel) : (beginRun s run p).writes = p.writes := by
  unfold beginRun
  rw [setLooped_keeps (·.writes) setField_writes, modPlan_writes]
  rfl

section
variable {p : Panel} {s mode kinds units : Nat}

theorem startBist_off (h : ¬ (p.lives s = true ∧ p.noPower s = false)) : p.startBist s mode kinds units = p := by
  unfold Panel.startBist
  refine if_pos ?_
  by_contra hno
  exact h (by simpa using hno)

section
variable (h : p.lives s = true ∧ p.noPower s = false)
include h

theorem startBist_refused {code : Nat} (hcode : (bistAsked s mode kinds units p).bistRefusal s = some code) :
    p.startBist s mode kinds units
      = ((bistAsked s mode kinds units p).setFlag s Csr.BST_STATUS_REFUSED true).raise s code := by
  unfold bistAsked at hcode ⊢
  unfold Panel.startBist
  rw [if_neg (by simp [h])]
  simp only [hcode]

theorem startBist_accepted (hnone : (bistAsked s mode kinds units p).bistRefusal s = none) :
    p.startBist s mode kinds units
      = ((((beginRun s (acceptedRun s mode kinds units (bistAsked s mode kinds units p)) (bistAsked s mode kinds units p)).setFlag s
          Csr.BST_STATUS_BUSY true).setFlag s Csr.BST_STATUS_DONE false).setFlag s Csr.BST_STATUS_ABORTED false) := by
  unfold beginRun acceptedRun bistAsked at *
  unfold Panel.startBist
  rw [if_neg (by simp [h])]
  simp only [hnone]

/-- What an accepted start shows. -/
theorem startBist_accepted_shows (hnone : (bistAsked s mode kinds units p).bistRefusal s = none) :
    (p.startBist s mode kinds units).isSet s Csr.BST_STATUS_BUSY = true
      ∧ (p.startBist s mode kinds units).isSet s Csr.BST_STATUS_DONE = false
      ∧ (p.startBist s mode kinds units).isSet s Csr.BST_STATUS_ABORTED = false
      ∧ (∃ run ∈ (p.startBist s mode kinds units).plan.bists, run.site = s ∧ run.neighbour = decide (mode = 1)
        ∧ run.kinds = kinds % 8 ∧ run.units = units % 32)
      ∧ (∀ r ∈ (p.startBist s mode kinds units).plan.reports, r.target ≠ s)
      ∧ (p.startBist s mode kinds units).writes = p.writes := by
  have hfit : FldFits Csr.BST_STATUS_BUSY ∧ FldFits Csr.BST_STATUS_DONE ∧ FldFits Csr.BST_STATUS_ABORTED := by
    unfold FldFits
    decide
  obtain ⟨hbusy, hdone, haborted⟩ := hfit
  have hdoneBusy : Separate Csr.BST_STATUS_DONE Csr.BST_STATUS_BUSY := by decide
  have habortedBusy : Separate Csr.BST_STATUS_ABORTED Csr.BST_STATUS_BUSY := by decide
  have habortedDone : Separate Csr.BST_STATUS_ABORTED Csr.BST_STATUS_DONE := by decide
  rw [startBist_accepted h hnone]
  refine ⟨?_, ?_, isSet_setFlag_same _ _ _ _ haborted (by decide), ?_, ?_, ?_⟩
  · rw [isSet_setFlag_separate habortedBusy, isSet_setFlag_separate hdoneBusy]
    exact isSet_setFlag_same _ _ _ _ hbusy (by decide)
  · rw [isSet_setFlag_separate habortedDone]
    exact isSet_setFlag_same _ _ _ _ hdone (by decide)
  · rw [setFlag_plan, setFlag_plan, setFlag_plan, beginRun_plan]
    exact ⟨acceptedRun s mode kinds units (bistAsked s mode kinds units p), by simp, rfl, rfl, rfl, rfl⟩
  · rw [setFlag_plan, setFlag_plan, setFlag_plan, beginRun_plan]
    intro r hr htarget
    have hkept := (List.mem_filter.1 hr).2
    simp [hasNat, htarget] at hkept
  · rw [setFlag_writes, setFlag_writes, setFlag_writes, beginRun_writes]
    unfold bistAsked
    rw [setField_writes, setField_writes, setField_writes]

end

end

/-! ### FIELD_BIST_DONE (R52) -/

theorem endBist_off {p : Panel} {s : Nat} (h : p.underBist s = false) (l : List Nat) : p.endBist s l = p := by
  unfold Panel.endBist
  rw [underBist_eq_false_iff.1 h]

/-- A defect of each bundle that fails. -/
theorem blamed_bists (p : Panel) (s : Nat) (bad : List Nat) :
    (p.each bad fun p b => ((p.appendField s (64 + b) 2 3 0x0E0E).badThisBoot s (64 + b)).raise s 0x0E0E).plan.bists = p.plan.bists :=
  each_keeps (·.plan.bists) bad (fun q b _ => by rw [raise_plan, badThisBoot_bists, appendField_bists]) p

section
variable {p : Panel} {s : Nat} {run : BistRun} (h : (p.plan.bists.find? fun b => b.site = s) = some run)
include h

theorem endBist_leaves (l : List Nat) : (p.endBist s l).underBist s = false := by
  unfold Panel.endBist
  rw [h]
  simp only
  split
  · rw [Panel.underBist, showResult_plan, setField_plan]
    exact leaveBist_underBist _ _ _
  · rw [Panel.underBist, darkenBad_plan, merge_bists, showResult_plan, showReports_plan, raiseIf_plan, raiseIf_plan,
      blamed_bists, modPlan_same, judge_bists, setField_plan]
    exact leaveBist_underBist _ _ _

/-- What a run of a die's own mode ends with: what its kinds destroy, its reports, and their results. -/
theorem endBist_self (hself : run.neighbour = false) (l : List Nat) : p.endBist s l =
    let q := ((p.setFlag s Csr.BST_STATUS_BUSY false).setFlag s Csr.BST_STATUS_DONE true).bistDestroys s run.kinds run.units
    let q := q.collectReports [s]
    let rs := q.plan.reports
    let bad := if bitOf run.kinds 2 then l else []
    let q := (q.leaveBist s fun _ => false).setField s Csr.BST_BUNDLE_FAIL ((distinct bad).map fun b => 2 ^ b).sum
    q.showResult s run.units fun u => match outcomeOf rs s s u with
      | some .matched => .good
      | some .mismatch => .bad
      | _ => .unproven := by
  unfold Panel.endBist
  rw [h]
  simp only [hself, Bool.false_and]
  exact if_pos rfl

end

/-! ### The test channel and the field self-test -/

/-- Settles O35: each test channel command and each self-test command does what its case of the panel's state asks. -/
theorem testingCommands : Obligations.TestingCommands := by
  refine ⟨fun s site edge frame => ⟨fun h => ?off, fun hlives he => ⟨?missing, fun hne hbad => ?failed, fun hok htype => ?other,
      fun hok htype h => ?refused, fun hok htype hcommon hguest he4 => ?named⟩, fun tester target =>
      ⟨fun h => ?notGood, fun h hown hne => ?folded, fun h => ?snapshot, fun h => ?noLoss, fun hlives hbad => ?lost⟩⟩,
    fun s site mode kinds units => ⟨fun h => ?mayNot, fun code h hcode => ?refusedStart, fun h hnone => ?accepted,
      fun h => ⟨?noAbort, fun l => ?noDone⟩, fun h => ?abort, fun h l => ?done, fun run l hrun hself => ?self⟩⟩
  case off => exact exec_quiet rfl (tcDescriptor_off (p := s.seen) h)
  case missing =>
    rintro rfl
    exact exec_quiet rfl (tcDescriptor_missing (p := s.seen) hlives he)
  case failed => exact exec_quiet rfl (tcDescriptor_failed (p := s.seen) hlives he hne hbad)
  case other => exact exec_quiet rfl ((tcDescriptor_intact (p := s.seen) hlives he hok).trans (if_neg htype))
  case refused =>
    exact exec_quiet rfl ((tcDescriptor_reads (p := s.seen) hlives he hok htype).trans (descriptor_refuses (.inr h)))
  case named =>
    obtain ⟨hcap, hpeer, hbit, hprofile, hslow⟩ :=
      descriptor_names_shows s.seen site he4 (tcBody_length frame).ge hcommon hguest
    refine ⟨_, exec_quiet (g := fun p => p.descriptor site edge (tcBody frame) true) rfl
      (tcDescriptor_reads (p := s.seen) hlives he hok htype), ?_⟩
    simp only [quiet_field, quiet_isSet]
    exact ⟨hcap, hpeer, hbit, hprofile, hslow, quiet_mem _ _, quiet_time _ _⟩
  case notGood => exact exec_quiet rfl (tcSnapshot_ignored (p := s.seen) h)
  case folded =>
    refine exec_quiet (g := foldFrame frame target tester) rfl ?_
    refine (tcSnapshot_good (p := s.seen) h).trans ((if_neg hne).trans (congrArg _ ?_))
    exact if_pos hown
  case snapshot =>
    obtain ⟨hown, hcsr⟩ := tcSnapshot_good_shows (p := s.seen) h
    exact ⟨_, rfl, hown, hcsr, quiet_mem _ _⟩
  case noLoss => exact exec_quiet rfl (tcLost_ignored (p := s.seen) h)
  case lost =>
    obtain ⟨hfault, herrors, hplan, hreports⟩ := tcLost_shows (p := s.seen) (target := target) hlives hbad
    exact ⟨_, rfl, (quiet_field _ _ _ _).trans hfault, quiet_mem _ _, quiet_time _ _, herrors, hplan, hreports⟩
  case mayNot => exact exec_store rfl (startBist_off (p := s.seen) h)
  case refusedStart => exact exec_store rfl (startBist_refused (p := s.seen) h hcode)
  case accepted =>
    obtain ⟨hbusy, hdone, haborted, hrun, hreports, hwrites⟩ := startBist_accepted_shows (p := s.seen) h hnone
    exact ⟨_, rfl, (store_isSet _ _ _ _).trans hbusy, (store_isSet _ _ _ _).trans hdone, (store_isSet _ _ _ _).trans haborted,
      hrun, hreports, store_mem_of_writes _ _ hwrites, store_time _ _⟩
  case noAbort => exact exec_quiet rfl (stopBist_off (p := s.seen) h)
  case noDone => exact exec_store rfl (endBist_off (p := s.seen) h l)
  case abort =>
    obtain ⟨hleft, hbusy, haborted, hresult⟩ := stopBist_shows (p := s.seen) h
    exact ⟨_, rfl, hleft, (quiet_isSet _ _ _ _).trans hbusy, (quiet_isSet _ _ _ _).trans haborted,
      (quiet_field _ _ _ _).trans hresult, quiet_mem _ _, quiet_time _ _⟩
  case done =>
    obtain ⟨run, hrun⟩ := exists_run_of_underBist (p := s.seen) h
    exact ⟨_, rfl, endBist_leaves (p := s.seen) hrun l, store_time _ _⟩
  case self => exact exec_store rfl (endBist_self (p := s.seen) hrun hself l)

end Sys2Proof.Proofs
end

section
/-! SUPPORT. Panel time over a step (R64, R69): one reference cycle never takes it back, and only the disciplining sources and a
cold reset set it. -/

namespace Sys2Proof.Proofs

open Sys2Proof.Machine Sys2Proof.Laws

/-! ### One reference cycle -/

theorem advance_total (t : TimeBase) (rate : Int) :
    (t.advance rate).total = max ((t.total + 8 * 2 ^ 32 : Nat) + rate : Int).toNat t.total := by
  unfold TimeBase.advance TimeBase.total
  exact Nat.div_add_mod' _ _

/-- The count is the whole cycles of panel time. -/
theorem now_le_now_of_total_le {t u : TimeBase} (h : t.total ≤ u.total) (hfrac : u.frac < 2 ^ 32) : t.now ≤ u.now := by
  unfold TimeBase.total at h
  omega

theorem now_le_advance (t : TimeBase) (rate : Int) : t.now ≤ (t.advance rate).now := by
  have hfrac : (t.advance rate).frac < 2 ^ 32 := by
    unfold TimeBase.advance
    exact Nat.mod_lt _ (Nat.two_pow_pos 32)
  refine now_le_now_of_total_le ?_ hfrac
  rw [advance_total]
  exact le_max_right _ _

/-- A rate word that does not turn the cycle back counts in full. -/
theorem advance_total_of_nonneg (t : TimeBase) {rate : Int} (h : 0 ≤ 8 * 2 ^ 32 + rate) :
    ((t.advance rate).total : Int) = t.total + (8 * 2 ^ 32 + rate) := by
  rw [advance_total]
  omega

theorem timeAfter_runs {p : Panel} (h : p.refRuns = true) :
    p.timeAfter = p.time.advance (signed 32 (p.field p.primary Csr.CLK_RATE)) := if_pos h

theorem timeAfter_stands {p : Panel} (h : p.refRuns = false) : p.timeAfter = p.time := if_neg (by simp [h])

theorem now_le_timeAfter (p : Panel) : p.time.now ≤ p.timeAfter.now := by
  cases h : p.refRuns with
  | true => exact timeAfter_runs h ▸ now_le_advance _ _
  | false => exact (timeAfter_stands h).symm ▸ le_rfl

theorem step_idle {s : State} (h : s.pending = []) : step s = .next s.idle := by
  unfold step
  rw [h]

/-- Settles O2: an empty queue leaves the idle cycle, in which the reference runs or stands. -/
theorem emptyQueueRunsReferenceCycle : Obligations.EmptyQueueRunsReferenceCycle := by
  intro s hs
  refine ⟨fun h => ⟨s.idle, step_idle hs, hs, timeAfter_runs h, fun hrate => ?_⟩,
    fun h => ⟨s.idle, step_idle hs, timeAfter_stands h⟩⟩
  rw [idle_time, timeAfter_runs h]
  exact advance_total_of_nonneg _ hrate

/-! ### Every step -/

theorem act_time_cases (s : State) (f : Mem → Panel → Panel) : (s.act f).p.time = s.p.time ∨ (s.act f).p.time = {} := by
  rw [act_time]
  split
  · exact .inr rfl
  · exact .inl rfl

theorem exec_time {c : Instr} {s t : State} (h : exec c s = .next t) : s.p.time.now ≤ t.p.time.now ∨ t.p.time = {} := by
  obtain ⟨f, hf⟩ | ⟨f, hf⟩ | ⟨f, hf⟩ | ⟨f, hf⟩ := exec_shape c s <;> cases h.symm.trans hf
  case inl => exact .inl le_rfl
  case inr.inl => exact .inl (retime_now s f ▸ le_max_left _ _)
  case inr.inr.inl => exact (act_time_cases s f).imp_left fun e => by rw [e]
  case inr.inr.inr => exact .inl le_rfl

/-- Settles O5: a command's effect keeps panel time, steps it forward or begins a cold reset, and a reference cycle never takes
it back. -/
theorem panelTimeNeverDecreases : Obligations.PanelTimeNeverDecreases := by
  intro s t h
  unfold step at h
  split at h
  next =>
    cases h
    exact .inl (now_le_timeAfter s.p)
  next c rest _ => exact exec_time (s := { s with pending := rest }) h

/-! ### Commands that store nothing, and commands that do not set panel time -/

theorem exec_mem_of_not_mayStore {c : Instr} {s t : State} (hc : mayStore c = false) (h : exec c s = .next t) : t.mem = s.mem := by
  cases c
  case ptpMessage | ptpHoldover | timeInEdge =>
    cases h
    exact retime_mem _ _
  all_goals cases hc <;> (cases h; exact quiet_mem _ _)

theorem exec_time_of_not_maySetTime {c : Instr} {s t : State} (hc : maySetTime c = false) (h : exec c s = .next t) :
    t.p.time = s.p.time := by
  cases hstore : mayStore c with
  | false => cases c <;> cases hstore <;> cases hc <;> (cases h; exact quiet_time _ _)
  | true => cases c <;> cases hstore <;> cases hc <;> (cases h; exact store_time _ _)

/-- Settles O7: each command's effect enters the state in a way that keeps what the command may not change. -/
theorem commandsLeaveMemoryAndTime : Obligations.CommandsLeaveMemoryAndTime := by
  intro c s t h
  refine ⟨fun hc => ?_, fun hc => exec_time_of_not_maySetTime hc h⟩
  rw [exec_mem_of_not_mayStore hc h]
  exact ⟨fun _ => rfl, fun _ => rfl, rfl, rfl⟩

end Sys2Proof.Proofs
end

section
/-! SUPPORT. Clock registers, margins and slips, and the skew of a die's domains (R53 to R63). -/

namespace Sys2Proof.Proofs

open Sys2Proof.Machine Sys2Proof.Laws

/-! ### Domain skew (R60) -/

theorem skewed_iff (ix : List Nat) : skewed ix = true ↔ ∃ a ∈ ix, ∃ b ∈ ix, a + 2 < b := by
  simp [skewed]

/-- Settles O12: the comparison of the indices decides whether the fault is raised. -/
theorem domainSkewRaisesFault : Obligations.DomainSkewRaisesFault := by
  intro s site ix
  refine ⟨rfl, fun h => exec_quiet (f := fun p => p.raiseIf (skewed ix) site 0x030C) rfl ?skew,
    fun h => exec_quiet (f := fun p => p.raiseIf (skewed ix) site 0x030C) rfl ?aligned⟩
  case skew => exact if_pos ((skewed_iff ix).2 h)
  case aligned =>
    refine if_neg fun hskew => ?_
    obtain ⟨a, ha, b, hb, hab⟩ := (skewed_iff ix).1 hskew
    exact absurd (h a ha b hb) (by omega)

/-! ### CLK_PERIOD (R55, R62) -/

section
variable (p : Panel) {site v : Nat}

theorem periodWrite_outside (h : v < 64 ∨ 128 < v) (draw : Bool) : p.periodWrite site v draw = p := by
  simp [Panel.periodWrite, h]

theorem periodWrite_locked {r : Nat} (hr : p.regionOf site = some r) (hl : p.lockedUp r = true) : p.periodWrite site v false = p := by
  simp [Panel.periodWrite, hr, hl]

section
variable (hlo : 64 ≤ v) (hhi : v ≤ 128)
include hlo hhi

theorem periodWrite_byDraw : p.periodWrite site v true = p.setField site Csr.CLK_PERIOD v := by
  simp [Panel.periodWrite, Nat.not_lt.2 hlo, Nat.not_lt.2 hhi]

theorem periodWrite_unlocked (h : ∀ r, p.regionOf site = some r → p.lockedUp r = false) (draw : Bool) :
    p.periodWrite site v draw = p.setField site Csr.CLK_PERIOD v := by
  unfold Panel.periodWrite
  cases hr : p.regionOf site with
  | none => simp [Nat.not_lt.2 hlo, Nat.not_lt.2 hhi]
  | some r => simp [h r hr, Nat.not_lt.2 hlo, Nat.not_lt.2 hhi]

end

end

/-! ### Slips (R58 to R61) -/

section
variable (c : ClockDie) (ds : List Nat) (f period n : Nat)

/-- The first stretch of an uncore period: one slip, unless the forced stretch's own periods count it. -/
theorem slip_first (h : ∀ w, c.lastSlip ≠ some (period, w)) :
    (c.slip ds f period n).slips = c.slips + (if f = 0 then 1 else 0)
      ∧ (c.slip ds f period n).slipTime = c.slipTime + (max f n - f) := by
  unfold ClockDie.slip
  cases hlast : c.lastSlip with
  | none => simp
  | some last =>
    obtain ⟨k, m⟩ := last
    have hk : k ≠ period := by
      rintro rfl
      exact h m hlast
    simp [hk]

/-- A further stretch of the same period: only what exceeds the largest so far. -/
theorem slip_again {w : SMap Nat} (h : c.lastSlip = some (period, w)) :
    (c.slip ds f period n).slips = c.slips
      ∧ (c.slip ds f period n).slipTime
        = c.slipTime + (max (w.foldl (fun m x => max m x.2) f) n - w.foldl (fun m x => max m x.2) f) := by
  simp [ClockDie.slip, h]

/-- Changing the entries of some keys leaves the entry of any other. -/
theorem get_foldl_modify_other {α : Type} [DecidableEq α] (d : Nat → α) (g : Nat → α → α) {e : Nat} (l : List Nat) (he : e ∉ l) :
    ∀ m : SMap α, SMap.get d (l.foldl (fun m k => SMap.modify d m k (g k)) m) e = SMap.get d m e := by
  induction l with
  | nil => exact fun _ => rfl
  | cons k l ih =>
    intro m
    obtain ⟨hk, hl⟩ := List.ne_and_not_mem_of_not_mem_cons he
    exact (ih hl _).trans (smap_get_modify_other d m (g k) hk)

theorem slip_stretched_other {e : Nat} (he : e ∉ ds) :
    SMap.get (fun _ => 0) (c.slip ds f period n).stretched e = SMap.get (fun _ => 0) c.stretched e :=
  get_foldl_modify_other _ _ ds he _

end

/-! ### Margins (R56, R57) -/

section
variable (p : Panel) {site d : Nat} (m k period : Nat)

theorem marginStretch_fixedDomain (h : adaptiveClock site d = false) : p.marginStretch site d m k period = p := by
  simp [Panel.marginStretch, h]

section
variable (h : adaptiveClock site d = true)
include h

theorem marginStretch_recorded
    (hm : (p.noteMargin site d m).field site Csr.CLK_MARGIN_CFG_TRIGGER ≤ m
      ∨ (p.noteMargin site d m).isSet site Csr.CLK_CTRL_FIXED = true) :
    p.marginStretch site d m k period = p.noteMargin site d m := by
  unfold Panel.marginStretch
  simp only [h, Bool.not_true, Bool.false_eq_true, if_false]
  refine if_neg ?_
  rcases hm with hm | hm
  · simp [Nat.not_lt.2 hm]
  · simp [hm]

theorem marginStretch_slips (hm : m < (p.noteMargin site d m).field site Csr.CLK_MARGIN_CFG_TRIGGER)
    (hfixed : (p.noteMargin site d m).isSet site Csr.CLK_CTRL_FIXED = false) :
    p.marginStretch site d m k period
      = (p.noteMargin site d m).modClock site fun c =>
          c.slip ((p.noteMargin site d m).coupled site d) ((p.noteMargin site d m).forcedStretch site) period (max 1 (min 8 k)) := by
  unfold Panel.marginStretch
  simp only [h, Bool.not_true, Bool.false_eq_true, if_false]
  exact if_pos (by simp [hm, hfixed])

end

end

theorem exec_marginStretch (s : State) (site d m k period : Nat) :
    exec (.marginStretch site d m k period) s = .next (s.quiet fun p => p.marginStretch site d m k period) := rfl

theorem exec_clkPeriodWrite (s : State) (site v : Nat) (draw : Bool) :
    exec (.clkPeriodWrite site v draw) s = .next (s.quiet fun p => p.periodWrite site v draw) := rfl

/-- Settles O11: what a write of CLK_PERIOD stores, and what one stretch adds to the slips of its period. -/
theorem clockPeriodsAndSlips : Obligations.ClockPeriodsAndSlips := by
  refine ⟨fun s site v => ⟨fun hlo hhi h draw => ?unlocked, fun hlo hhi => ?byDraw, fun r hr hl => ?locked, fun h draw => ?outside, rfl⟩,
    fun s site d m k period => ⟨fun h => ?fixedDomain, fun h hm hfixed => ?slips, fun h hm => ?recorded⟩⟩
  case unlocked => exact exec_quiet (exec_clkPeriodWrite s site v draw) (periodWrite_unlocked s.seen hlo hhi h draw)
  case byDraw => exact exec_quiet (exec_clkPeriodWrite s site v true) (periodWrite_byDraw s.seen hlo hhi)
  case locked => exact exec_quiet (exec_clkPeriodWrite s site v false) (periodWrite_locked s.seen hr hl)
  case outside => exact exec_quiet (exec_clkPeriodWrite s site v draw) (periodWrite_outside s.seen h draw)
  case fixedDomain => exact exec_quiet (exec_marginStretch s site d m k period) (marginStretch_fixedDomain s.seen m k period h)
  case recorded => exact exec_quiet (exec_marginStretch s site d m k period) (marginStretch_recorded s.seen m k period h hm)
  case slips =>
    refine ⟨_, exec_quiet (exec_marginStretch s site d m k period)
      (g := fun _ => (s.seen.noteMargin site d m).modClock site _) (marginStretch_slips s.seen m k period h hm hfixed), ?_⟩
    rw [show (s.quiet fun _ => (s.seen.noteMargin site d m).modClock site _).p.clock site = _ from modClock_same _ _ _]
    exact ⟨fun hlast => slip_first _ _ _ _ _ hlast, fun w hlast => slip_again _ _ _ _ _ hlast,
      fun e he => slip_stretched_other _ _ _ _ _ he, rfl, rfl, rfl⟩

end Sys2Proof.Proofs
end

section
/-! SUPPORT. The panel reference and the time beacons (R54, R64, R65). -/

namespace Sys2Proof.Proofs

open Sys2Proof.Machine Sys2Proof.Laws

/-! ### REF_CLK (R54) -/

/-- The panel whose corner `s` has lost its REF_CLK. -/
def refLost (s : Nat) (p : Panel) : Panel :=
  p.modBoot fun b => if s = sitePD then { b with refPD := false } else { b with refAD := false }

section
variable {p : Panel} {s : Nat}

theorem refLost_primary : (refLost s p).boot.primary = p.boot.primary := by
  unfold refLost
  rw [modBoot_same]
  split <;> rfl

theorem refLoss_last (hPD : (refLost s p).boot.refPD = false) (hAD : (refLost s p).boot.refAD = false) :
    p.refLoss s = (refLost s p).raise p.primary 0x0312 := by
  have hnone : (!(refLost s p).boot.refPD && !(refLost s p).boot.refAD) = true := by simp [hPD, hAD]
  rw [show p.primary = (refLost s p).primary from refLost_primary.symm]
  unfold Panel.refLoss
  exact if_pos hnone

section
variable (h : (refLost s p).boot.refPD = true ∨ (refLost s p).boot.refAD = true)
include h

/-- With a corner left, the tree is driven from the other corner where the one that drove it is lost. -/
theorem refLoss_eq : p.refLoss s = if p.boot.refFrom = s then
    ((refLost s p).modBoot fun b => { b with refFrom := if s = sitePD then siteAD else sitePD }).raise p.primary 0x0311
    else refLost s p := by
  have hleft : ¬ (!(refLost s p).boot.refPD && !(refLost s p).boot.refAD) = true := by
    rcases h with h | h <;> simp [h]
  rw [show p.primary = (refLost s p).primary from refLost_primary.symm]
  unfold Panel.refLoss
  exact if_neg hleft

theorem refLoss_driving (hfrom : p.boot.refFrom = s) : p.refLoss s
    = ((refLost s p).modBoot fun b => { b with refFrom := if s = sitePD then siteAD else sitePD }).raise p.primary 0x0311 :=
  (refLoss_eq h).trans (if_pos hfrom)

theorem refLoss_standby (hfrom : p.boot.refFrom ≠ s) : p.refLoss s = refLost s p := (refLoss_eq h).trans (if_neg hfrom)

end

end

theorem exec_refClkLoss (s : State) (site : Nat) : exec (.refClkLoss site) s = .next (s.quiet fun p => p.refLoss site) := rfl

/-! ### Beacons (R64, R65) -/

/-- A die takes a beacon's rate word, which AD keeps in CLK_RATE. -/
def rated (site rate : Nat) (p : Panel) : Panel :=
  let p := p.modClock site fun c => { c with rate := signed 32 rate }
  if site = siteAD then p.setField siteAD Csr.CLK_RATE rate else p

/-- How far a beacon's value with its tree delay lies from a die's own count. -/
def beaconAway (p : Panel) (site launch : Nat) : Int := launch + p.field site Csr.CLK_TREE_DELAY - p.dieTime site

/-- An invalid die's count takes a beacon's value. -/
def loaded (site : Nat) (away : Int) (p : Panel) : Panel :=
  (p.modClock site fun c => { c with offset := c.offset + away * 2 ^ 32, slew := 0, slewAt := 0, reload := false }).setFlag site
    Csr.CLK_STATUS_PTIME_VALID true

section
variable (p : Panel) (site launch rate : Nat)

@[simp] theorem rated_clock : (rated site rate p).clock site = { p.clock site with rate := signed 32 rate } := by
  have hclocks : (rated site rate p).clocks = (p.modClock site fun c => { c with rate := signed 32 rate }).clocks :=
    ite_keeps (·.clocks) (setField_clocks _ _ _ _)
  unfold Panel.clock
  rw [hclocks]
  exact modClock_same p site _

theorem rated_time : (rated site rate p).time = p.time := ite_keeps (·.time) (setField_time _ _ _ _)

theorem beacon_primary (h : site = p.primary) : p.beacon site launch rate = p := if_pos h

theorem beacon_taken (h : site ≠ p.primary) : p.beacon site launch rate =
    if ((rated site rate p).clock site).reload then loaded site (beaconAway p site launch) (rated site rate p)
    else if (beaconAway p site launch).natAbs ≤ 1 then rated site rate p
    else if (beaconAway p site launch).natAbs ≤ 16 then
      ((rated site rate p).modClock site fun c => { c with slew := beaconAway p site launch, slewAt := 0 }).raise site 0x0307
    else
      (((rated site rate p).modClock site fun c => { c with reload := true }).setFlag site Csr.CLK_STATUS_PTIME_VALID false).raise
        site 0x0308 := if_neg h

theorem beacon_loads (h : site ≠ p.primary) (hreload : (p.clock site).reload = true) :
    p.beacon site launch rate = loaded site (beaconAway p site launch) (rated site rate p) := by
  rw [beacon_taken p site launch rate h, rated_clock]
  exact if_pos hreload

section
variable (h : site ≠ p.primary) (hreload : (p.clock site).reload = false)
include h hreload

/-- A valid die compares the beacon with its own count. -/
theorem beacon_compared : p.beacon site launch rate =
    if (beaconAway p site launch).natAbs ≤ 1 then rated site rate p
    else if (beaconAway p site launch).natAbs ≤ 16 then
      ((rated site rate p).modClock site fun c => { c with slew := beaconAway p site launch, slewAt := 0 }).raise site 0x0307
    else
      (((rated site rate p).modClock site fun c => { c with reload := true }).setFlag site Csr.CLK_STATUS_PTIME_VALID false).raise
        site 0x0308 := by
  rw [beacon_taken p site launch rate h, rated_clock]
  exact if_neg (by simp [hreload])

theorem beacon_near (haway : (beaconAway p site launch).natAbs ≤ 1) : p.beacon site launch rate = rated site rate p :=
  (beacon_compared p site launch rate h hreload).trans (if_pos haway)

theorem beacon_slews (hlo : 1 < (beaconAway p site launch).natAbs) (hhi : (beaconAway p site launch).natAbs ≤ 16) :
    p.beacon site launch rate
      = ((rated site rate p).modClock site fun c => { c with slew := beaconAway p site launch, slewAt := 0 }).raise site 0x0307 :=
  ((beacon_compared p site launch rate h hreload).trans (if_neg (Nat.not_le.2 hlo))).trans (if_pos hhi)

theorem beacon_invalid (haway : 16 < (beaconAway p site launch).natAbs) : p.beacon site launch rate
      = (((rated site rate p).modClock site fun c => { c with reload := true }).setFlag site Csr.CLK_STATUS_PTIME_VALID false).raise
          site 0x0308 :=
  ((beacon_compared p site launch rate h hreload).trans (if_neg (Nat.not_le.2 (haway.trans' (by decide))))).trans
    (if_neg (Nat.not_le.2 haway))

end

theorem loaded_time (away : Int) : (loaded site away p).time = p.time := setFlag_time _ _ _ _

/-- A die that loads a value counts that many cycles further, and is valid. -/
theorem loaded_shows (away : Int) :
    (loaded site away p).dieTime site = p.dieTime site + away ∧ ((loaded site away p).clock site).rate = (p.clock site).rate
      ∧ (loaded site away p).isSet site Csr.CLK_STATUS_PTIME_VALID = true := by
  have hclock : (loaded site away p).clock site
      = { p.clock site with offset := (p.clock site).offset + away * 2 ^ 32, slew := 0, slewAt := 0, reload := false } := by
    unfold loaded Panel.clock
    rw [setFlag_clocks]
    exact modClock_same p site _
  refine ⟨?_, by rw [hclock], isSet_setFlag_same _ _ _ _ (by unfold FldFits; decide) (by decide)⟩
  unfold Panel.dieTime
  rw [hclock, loaded_time]
  simp only [← add_assoc]
  exact Int.add_mul_ediv_right _ _ (by norm_num)

theorem rated_dieTime : (rated site rate p).dieTime site = p.dieTime site := by
  unfold Panel.dieTime
  rw [rated_time, rated_clock]

end

/-- A die's own count after a quiet command whose effect leaves panel time. -/
theorem quiet_dieTime (s : State) (f : Panel → Panel) (x : Nat) (h : (f s.seen).time = s.p.time) :
    (s.quiet f).p.dieTime x = (f s.seen).dieTime x := by
  unfold Panel.dieTime
  rw [h]
  rfl

theorem exec_timeBeacon (s : State) (site launch rate : Nat) :
    exec (.timeBeacon site launch rate) s = .next (s.quiet fun p => p.beacon site launch rate) := rfl

/-- Settles O13: which corner is left decides a loss of the reference, and a die's distance from a beacon what it does with it. -/
theorem referenceAndBeacons : Obligations.ReferenceAndBeacons := by
  refine ⟨fun s => ⟨fun hAD hfrom => ?drivingPD, fun hPD hfrom => ?drivingAD, fun hPD hfrom => ?standbyAD, fun hPD => ?lastAD,
    fun hAD => ?lastPD⟩, fun s site launch rate => ⟨rfl, fun h => ?primary, fun h => ⟨fun hvalid haway => ?near,
    fun hvalid hlo hhi => ?slews, fun hvalid haway => ?invalid, fun hreload => ?loads⟩⟩⟩
  case drivingPD => exact exec_quiet (exec_refClkLoss s _) (refLoss_driving (p := s.seen) (.inr hAD) hfrom)
  case drivingAD => exact exec_quiet (exec_refClkLoss s _) (refLoss_driving (p := s.seen) (.inl hPD) hfrom)
  case standbyAD => exact exec_quiet (exec_refClkLoss s _) (refLoss_standby (p := s.seen) (.inl hPD) (hfrom.trans_ne (by decide)))
  case lastAD => exact exec_quiet (exec_refClkLoss s _) (refLoss_last (p := s.seen) hPD rfl)
  case lastPD => exact exec_quiet (exec_refClkLoss s _) (refLoss_last (p := s.seen) rfl hAD)
  case primary => exact exec_quiet (exec_timeBeacon s site launch rate) (beacon_primary s.seen site launch rate h)
  case near => exact exec_quiet (exec_timeBeacon s site launch rate) (beacon_near s.seen site launch rate h hvalid haway)
  case slews => exact exec_quiet (exec_timeBeacon s site launch rate) (beacon_slews s.seen site launch rate h hvalid hlo hhi)
  case invalid => exact exec_quiet (exec_timeBeacon s site launch rate) (beacon_invalid s.seen site launch rate h hvalid haway)
  case loads =>
    obtain ⟨htime, hrate, hset⟩ := loaded_shows (rated site rate s.seen) site (beaconAway s.seen site launch)
    refine ⟨_, exec_quiet (exec_timeBeacon s site launch rate) (g := fun _ => loaded site _ (rated site rate s.seen))
      (beacon_loads s.seen site launch rate h hreload), ?_, ?_, (quiet_isSet _ _ _ _).trans hset, rfl⟩
    · have hsame : (loaded site (beaconAway s.seen site launch) (rated site rate s.seen)).time = s.p.time :=
        (loaded_time _ _ _).trans (rated_time s.seen site rate)
      refine (quiet_dieTime s (fun _ => loaded site _ (rated site rate s.seen)) site hsame).trans ?_
      rw [htime, rated_dieTime]
      exact add_sub_cancel _ _
    · exact hrate.trans (by rw [rated_clock])

end Sys2Proof.Proofs
end

section
/-! SUPPORT. The PTP servo, stroke lock and TIME_OUT (R70 to R74, R536). -/

namespace Sys2Proof.Proofs

open Sys2Proof.Machine Sys2Proof.Laws

theorem exec_retime {c : Instr} {s : State} {f g : Panel → Panel} (hc : exec c s = .next (s.retime f)) (h : f s.seen = g s.seen) :
    exec c s = .next (s.retime g) := hc.trans (congrArg _ (retime_congr s h))

theorem retime_field (s : State) (f : Panel → Panel) (x : Nat) (g : Fld) : (s.retime f).p.field x g = (f s.seen).field x g :=
  field_of_csr (p := f s.seen) (q := (s.retime f).p) rfl x g

theorem now_le_retime (s : State) (f : Panel → Panel) : s.p.time.now ≤ (s.retime f).p.time.now := by
  rw [retime_now]
  exact le_max_left _ _

/-! ### PTP messages (R70, R71) -/

theorem exec_ptpMessage (s : State) (m : PtpMsg) : exec (.ptpMessage m) s = .next (s.retime fun p => p.ptp m) := rfl

section
variable (p : Panel) (port d : Nat) (i : Int)

theorem ptpValid_interval (h : i < -4 ∨ 0 < i) : p.ptpValid port d i = false := by
  unfold Panel.ptpValid
  rcases h with h | h
  · simp [Int.not_le.2 h]
  · simp [Int.not_le.2 h]

theorem ptp_delay (sent received : Int) (h : p.ptpValid port d 0 = true) :
    p.ptp (.delay port d sent received) = p.modServo fun v => { v with
      delay := (received - sent + (v.delay - signed 64 (p.field siteTD Csr.CLK_PTP_OFFSET))) / 2 } := by
  simp only [Panel.ptp, h, Bool.not_true, Bool.false_eq_true, if_false]

section
variable {m : PtpMsg} (origin received : Int) (hm : m = .sync port d i origin received ∨ m = .followUp port d i origin received)
include hm

theorem ptp_sync : p.ptp m = if p.ptpValid port d i then p.ptpSync i origin received else p := by
  rcases hm with rfl | rfl <;> rfl

theorem ptp_ignored (h : p.ptpValid port d i = false) : p.ptp m = p := by
  rw [ptp_sync p port d i origin received hm, h]
  rfl

theorem ptp_taken (h : p.ptpValid port d i = true) : p.ptp m = p.ptpSync i origin received := by
  rw [ptp_sync p port d i origin received hm, h]
  rfl

end

section
variable (origin received : Int)

theorem ptpSync_offset (h : p.isSet siteTD Csr.CLK_TIME_CTRL_TIN_PPS = false) :
    p.ptpSync i origin received
      = (p.modServo fun v => { v with interval := i }).servoOffset (origin + p.servo.delay - received) := by
  simp only [Panel.ptpSync, modServo_isSet, modServo_same, h, Bool.false_and, Bool.false_eq_true, if_false]

/-- Under a pulse the phase comes from the pulse, and a sync gives time of day alone (R72). -/
theorem ptpSync_timeOfDay (hpps : p.isSet siteTD Csr.CLK_TIME_CTRL_TIN_PPS = true)
    (hlock : p.isSet siteTD Csr.CLK_TIME_CTRL_TIN_LOCK = false) (hedge : p.servo.ppsEdge.isSome = true) :
    p.ptpSync i origin received = (p.modServo fun v => { v with interval := i }).timeStep (origin + p.servo.delay - received) := by
  simp only [Panel.ptpSync, modServo_isSet, modServo_same, hpps, hlock, hedge, Bool.not_false, Bool.and_self, if_true]

end

end

/-! ### Holdover (R71) -/

section
variable (p : Panel) (offset : Int)

theorem timeStep_servo : (p.timeStep offset).servo = p.servo := by
  unfold Panel.timeStep
  refine ite_keeps (·.servo) ?_
  rw [raise_servo, setField_servo]

/-- A step of panel time clears CLK_PTP_OFFSET and raises its fault, and leaves every other register. -/
theorem timeStep_field (x : Nat) {g : Fld} (hg : Undisturbed g) (hfault : WordsApart Csr.CLK_FAULT g)
    (hoffset : WordsApart Csr.CLK_PTP_OFFSET g) : (p.timeStep offset).field x g = p.field x g := by
  unfold Panel.timeStep
  refine ite_keeps (·.field x g) ?_
  rw [raise_field_undisturbed _ _ _ _ (by rfl) hg hfault,
    field_setField_apart _ _ _ _ _ _ (by unfold FldFits; decide) hg.1 hoffset]
  refine field_of_csr (p := p) ?_ x g
  rfl

end

/-- The registers of the servo lie apart from those that a fault of the clocks and a time step write. -/
theorem servoFlds_undisturbed : ∀ g ∈ [Csr.CLK_PTP_STATUS_STATE, Csr.CLK_RATE],
    Undisturbed g ∧ WordsApart Csr.CLK_FAULT g ∧ WordsApart Csr.CLK_PTP_OFFSET g := by
  unfold Undisturbed FldFits
  decide

/-- The servo in holdover: it reads HOLDOVER and counts no offsets. -/
def heldOver (p : Panel) : Panel :=
  (p.setField siteTD Csr.CLK_PTP_STATUS_STATE servoHoldover).modServo fun v => { v with inside := 0, outside := 0 }

/-- PTP_HOLDOVER's effect. -/
def holdover (p : Panel) : Panel :=
  ((heldOver p).raise siteTD 0x030D).timeStep (signed 64 ((heldOver p).field siteTD Csr.CLK_PTP_OFFSET))

theorem exec_ptpHoldover (s : State) : exec .ptpHoldover s = .next (s.retime holdover) := rfl

theorem holdover_servo (p : Panel) : (holdover p).servo = { p.servo with inside := 0, outside := 0 } := by
  unfold holdover
  rw [timeStep_servo, raise_servo]
  unfold heldOver
  rw [modServo_same, setField_servo]

theorem holdover_field (p : Panel) (x : Nat) {g : Fld} (hg : g ∈ [Csr.CLK_PTP_STATUS_STATE, Csr.CLK_RATE]) :
    (holdover p).field x g = (p.setField siteTD Csr.CLK_PTP_STATUS_STATE servoHoldover).field x g := by
  obtain ⟨hundisturbed, hfault, hoffset⟩ := servoFlds_undisturbed g hg
  unfold holdover
  rw [timeStep_field _ _ _ hundisturbed hfault hoffset, raise_field_undisturbed _ _ _ _ (by rfl) hundisturbed hfault]
  exact modServo_field _ _ _ _

theorem holdover_state (p : Panel) : (holdover p).field siteTD Csr.CLK_PTP_STATUS_STATE = 3 := by
  rw [holdover_field p _ (by simp), field_setField_same _ _ _ _ (by unfold FldFits; decide)]
  rfl

theorem holdover_rate (p : Panel) : (holdover p).field siteTD Csr.CLK_RATE = p.field siteTD Csr.CLK_RATE := by
  rw [holdover_field p _ (by simp)]
  exact field_setField_separate (by decide) p siteTD _

/-! ### TIME_IN (R72, R73) -/

theorem exec_timeInEdge (s : State) : exec .timeInEdge s = .next (s.retime fun p => p.timeInEdge) := rfl

/-- The region that stroke lock follows. -/
def lockRegion (p : Panel) : Nat := p.field siteTD Csr.CLK_TIME_CTRL_LOCK_REGION

theorem lockRegion_lt (p : Panel) : lockRegion p < 16 := field_lt p siteTD Csr.CLK_TIME_CTRL_LOCK_REGION

/-- An edge lies in the stroke-lock window, or is the first. -/
def edgeInWindow (p : Panel) : Prop :=
  p.servo.lockEdge = none ∨ inLockWindow (p.effPeriod (lockRegion p)) (p.now - p.servo.lockEdge.getD 0) = true

/-- The panel that has taken a valid edge. -/
def edgeTaken (p : Panel) : Panel := p.modServo fun v => { v with lockEdge := some p.now, missed := 0, fallback := false }

/-- The panel whose locked region has its next tick stamped by the edge. -/
def edgeStamped (p : Panel) : Panel :=
  ((edgeTaken p).setField sitePD (Csr.STK_R_NEXT_TICK (lockRegion p)) (p.now + p.lockOffset)).modServo fun v =>
    { v with edgeReady := false }

section
variable (p : Panel)

theorem timeInEdge_lost (h : p.tackDie = false) : p.timeInEdge = p := by
  simp only [Panel.timeInEdge, h, Bool.not_false, if_true]

section
variable (hTD : p.tackDie = true)
include hTD

theorem timeInEdge_pps (hlock : p.isSet siteTD Csr.CLK_TIME_CTRL_TIN_LOCK = false)
    (hpps : p.isSet siteTD Csr.CLK_TIME_CTRL_TIN_PPS = true) :
    p.timeInEdge = (p.modServo fun v => { v with ppsEdge := some p.now }).servoOffset
      (16 * (if 2 * (p.now % secondCycles) < secondCycles then -((p.now % secondCycles : Nat) : Int)
        else (secondCycles : Int) - (p.now % secondCycles : Nat))) := by
  simp only [Panel.timeInEdge, hTD, hlock, hpps, Bool.not_true, Bool.false_eq_true, if_false, if_true]

section
variable (hlock : p.isSet siteTD Csr.CLK_TIME_CTRL_TIN_LOCK = true)
include hlock

theorem timeInEdge_stopped (hrun : p.running (lockRegion p) = false) :
    p.timeInEdge = p.modServo fun v => { v with lockEdge := some p.now } := by
  unfold lockRegion at hrun
  simp only [Panel.timeInEdge, hTD, hlock, hrun, Bool.not_true, Bool.not_false, Bool.false_eq_true, if_false, if_true]

section
variable (hrun : p.running (lockRegion p) = true)
include hrun

theorem timeInEdge_outside (h : ¬ edgeInWindow p) : p.timeInEdge = p.raise siteTD 0x0310 := by
  unfold edgeInWindow lockRegion at h
  unfold lockRegion at hrun
  cases hedge : p.servo.lockEdge with
  | none => exact absurd (.inl hedge) h
  | some e =>
    simp only [hedge, Option.getD_some, reduceCtorEq, false_or, Bool.not_eq_true] at h
    simp only [Panel.timeInEdge, hTD, hlock, hrun, hedge, h, Bool.not_true, Bool.not_false, Bool.false_eq_true, if_false, if_true]

/-- A valid edge stamps the next tick unless that is sent already, or the region cannot begin by then. -/
theorem timeInEdge_inWindow (h : edgeInWindow p) : p.timeInEdge =
    if (p.region (lockRegion p)).tickSent then edgeTaken p
    else if !(p.region (lockRegion p)).slurOpen
        && (p.region (lockRegion p)).begun + p.effPeriod (lockRegion p) + (p.region (lockRegion p)).extension
          ≤ p.now + p.lockOffset + p.effPeriod (lockRegion p) / 1000 then edgeStamped p
    else (edgeTaken p).modServo fun v => { v with edgeReady := true } := by
  unfold edgeInWindow at h
  unfold lockRegion at h hrun
  cases hedge : p.servo.lockEdge with
  | none =>
    simp only [Panel.timeInEdge, hTD, hlock, hrun, hedge, Bool.not_true, Bool.false_eq_true, if_false, if_true]
    rfl
  | some e =>
    simp only [hedge, Option.getD_some, reduceCtorEq, false_or] at h
    simp only [Panel.timeInEdge, hTD, hlock, hrun, hedge, h, Bool.not_true, Bool.false_eq_true, if_false, if_true]
    rfl

theorem timeInEdge_stamps (h : edgeInWindow p) (htick : (p.region (lockRegion p)).tickSent = false)
    (hslur : (p.region (lockRegion p)).slurOpen = false)
    (hbegun : (p.region (lockRegion p)).begun + p.effPeriod (lockRegion p) + (p.region (lockRegion p)).extension
      ≤ p.now + p.lockOffset + p.effPeriod (lockRegion p) / 1000) : p.timeInEdge = edgeStamped p := by
  rw [timeInEdge_inWindow p hTD hlock hrun h, htick, hslur]
  simp only [Bool.false_eq_true, if_false, Bool.not_false, Bool.true_and, decide_eq_true_eq]
  exact if_pos hbegun

end

end

end

end

theorem edgeStamped_servo (p : Panel) :
    (edgeStamped p).servo = { p.servo with lockEdge := some p.now, missed := 0, fallback := false, edgeReady := false } := by
  unfold edgeStamped
  rw [modServo_same, setField_servo]
  rfl

theorem edgeStamped_nextTick (p : Panel) : (edgeStamped p).field sitePD (Csr.STK_R_NEXT_TICK (lockRegion p))
    = (p.now + p.lockOffset) % 2 ^ (Csr.STK_R_NEXT_TICK (lockRegion p)).width := by
  have hr := lockRegion_lt p
  unfold edgeStamped
  rw [modServo_field]
  refine field_setField_same _ _ _ _ ?_
  simp only [FldFits, Csr.STK_R_NEXT_TICK]
  omega

/-! ### Stroke lock lost, and TIME_OUT (R72, R74) -/

/-- The panel that has fallen back to internal stroke timing. -/
def fallenBack (p : Panel) : Panel :=
  (p.modServo fun v => { v with fallback := true, lockEdge := none, edgeReady := false, missed := 0 }).raise p.primary 0x030F

theorem exec_strokeLockLost (s : State) : exec .strokeLockLost s = .next (s.quiet fallenBack) := rfl

theorem fallenBack_servo (p : Panel) :
    (fallenBack p).servo = { p.servo with fallback := true, lockEdge := none, edgeReady := false, missed := 0 } := raise_servo _ _ _

theorem exec_timeOutPps (s : State) : exec .timeOutPps s = .next (s.quiet fun p =>
    if p.field siteTD Csr.CLK_TIME_CTRL_TOUT_MODE = 1 then p.modServo fun v => { v with timeOut := some (p.now, usCycles 10) }
    else p) := rfl

/-- Settles O14: each message or edge acts on the servo as its kind and the controls of CLK_TIME_CTRL say. -/
theorem timeDisciplineCommands : Obligations.TimeDisciplineCommands := by
  intro s
  refine ⟨fun port d i sent received hvalid => ⟨?delay, fun hi => ?interval⟩,
    fun port d i origin received m hm => ⟨fun hvalid => ?ignored, fun hvalid hpps => ?offset, fun hvalid hpps hlock hedge => ?timeOfDay⟩,
    ?holdover, fun hTD => ?lost, fun hTD hlock hpps => ?pulse,
    fun hTD hlock => ⟨fun hrun => ?stopped, fun hrun hedge hwin => ?outside, fun hrun hwin htick hslur hbegun => ?stamps⟩,
    ?lockLost, fun hmode => ?drives, fun hmode => ?drivesNot⟩
  case delay => exact exec_retime (exec_ptpMessage s _) (ptp_delay s.seen port d sent received hvalid)
  case interval =>
    exact exec_retime (exec_ptpMessage s _)
      (ptp_ignored s.seen port d i sent received (.inl rfl) (ptpValid_interval s.seen port d i hi))
  case ignored => exact exec_retime (exec_ptpMessage s m) (ptp_ignored s.seen port d i origin received hm hvalid)
  case offset =>
    exact exec_retime (exec_ptpMessage s m)
      ((ptp_taken s.seen port d i origin received hm hvalid).trans (ptpSync_offset s.seen i origin received hpps))
  case timeOfDay =>
    exact exec_retime (exec_ptpMessage s m)
      ((ptp_taken s.seen port d i origin received hm hvalid).trans (ptpSync_timeOfDay s.seen i origin received hpps hlock hedge))
  case holdover =>
    have hservo : (s.retime holdover).p.servo = _ := holdover_servo s.seen
    exact ⟨_, exec_ptpHoldover s, by rw [hservo], by rw [hservo], (retime_field _ _ _ _).trans (holdover_state _),
      (retime_field _ _ _ _).trans ((holdover_rate _).trans (seen_field _ _ _)), now_le_retime _ _, rfl, rfl⟩
  case lost => exact exec_retime (exec_timeInEdge s) (timeInEdge_lost s.seen hTD)
  case pulse => exact exec_retime (exec_timeInEdge s) (timeInEdge_pps s.seen hTD hlock hpps)
  case stopped => exact exec_retime (exec_timeInEdge s) (timeInEdge_stopped s.seen hTD hlock hrun)
  case outside =>
    refine exec_retime (exec_timeInEdge s) (timeInEdge_outside s.seen hTD hlock hrun ?_)
    rintro (hnone | hin)
    · exact absurd hedge (by simp [show s.p.servo.lockEdge = none from hnone])
    · exact Bool.false_ne_true (hwin.symm.trans hin)
  case stamps =>
    have hservo : (s.retime fun _ => edgeStamped s.seen).p.servo = _ := edgeStamped_servo s.seen
    exact ⟨_, exec_retime (exec_timeInEdge s) (g := fun _ => edgeStamped s.seen)
        (timeInEdge_stamps s.seen hTD hlock hrun hwin htick hslur hbegun),
      (retime_field _ _ _ _).trans (edgeStamped_nextTick s.seen), by rw [hservo], by rw [hservo], rfl, now_le_retime _ _⟩
  case lockLost =>
    have hservo : (s.quiet fallenBack).p.servo = _ := fallenBack_servo s.seen
    exact ⟨_, exec_strokeLockLost s, by rw [hservo], by rw [hservo], by rw [hservo], rfl, rfl⟩
  case drives => exact exec_quiet (exec_timeOutPps s) (if_pos hmode)
  case drivesNot => exact exec_quiet (exec_timeOutPps s) (if_neg hmode)

end Sys2Proof.Proofs
end

section
/-! SUPPORT. Compositor threads that come up for issue and do not issue (R81, R137, R138, R140). -/

namespace Sys2Proof.Proofs

open Sys2Proof.Machine Sys2Proof.Laws

/-! ### A thread's turn -/

section
variable {p : Panel} {t : ThreadId} (f : Panel → Thread → Panel)

theorem cmpTurn_idle (h : p.threadRuns t = false ∨ (p.thread t).stopped = true ∨ p.holding t.site = true) : p.cmpTurn t f = p := by
  refine if_pos ?_
  rcases h with h | h | h <;> simp [h]

section
variable (hrun : p.threadRuns t = true) (hstop : (p.thread t).stopped = false) (hhold : p.holding t.site = false)
include hrun hstop hhold

theorem cmpTurn_runs : p.cmpTurn t f = if 16383 < (p.thread t).pc then p.cmpFault t 0x022E else f p (p.thread t) :=
  if_neg (by simp [hrun, hstop, hhold])

theorem cmpTurn_beyond (hpc : 16383 < (p.thread t).pc) : p.cmpTurn t f = p.cmpFault t 0x022E :=
  (cmpTurn_runs f hrun hstop hhold).trans (if_pos hpc)

end

section
variable (h : p.threadReady t)
include h

theorem cmpTurn_ready : p.cmpTurn t f = f p (p.thread t) := by
  obtain ⟨hrun, hstop, hhold, hpc⟩ := h
  exact (cmpTurn_runs f hrun hstop hhold).trans (if_neg (Nat.not_lt.2 hpc))

section
variable {op : Nat} {fs : List CmpField}

theorem cmpIssue_otherWord (his : cmpIs (p.cmpWord t) op fs = false) : p.cmpIssue t op fs f = p := by
  unfold Panel.cmpIssue
  rw [cmpTurn_ready _ h, his]
  rfl

theorem cmpIssue_illegal (his : cmpIs (p.cmpWord t) op fs = true) (hlegal : cmpLegal (p.cmpWord t) = false) :
    p.cmpIssue t op fs f = p.cmpFault t 0x022D := by
  unfold Panel.cmpIssue
  rw [cmpTurn_ready _ h, his, hlegal]
  rfl

end

end

end

theorem cmpFault_writes (p : Panel) (t : ThreadId) (code : Nat) : (p.cmpFault t code).writes = p.writes := by
  unfold Panel.cmpFault
  rw [raiseAt_writes, modThread_writes, setField_writes]

/-! ### The commands -/

/-- A command has the effect `E` of some turn that it gives its thread, and may write memory only through the panel's list of writes. -/
def Does (c : Instr) (s : State) (E : (Panel → Thread → Panel) → Panel → Panel) : Prop :=
  (∃ f, exec c s = .next (s.quiet (E f))) ∨ ∃ f : Mem → Panel → Thread → Panel, exec c s = .next (s.store fun m => E (f m))

/-- A compositor command with a word issues by that word's opcode and fields. -/
theorem does_cmpIssue {c : Instr} {t : ThreadId} {op : Nat} {fs : List CmpField} (ht : compositorThread c = some t)
    (hc : cmpCode c = some (op, fs)) (s : State) : Does c s fun f p => p.cmpIssue t op fs f := by
  cases c
  case cmpLw | cmpLbu | cmpSw | cmpSb | cmpVld | cmpVst =>
    cases ht
    cases hc
    exact .inr ⟨_, rfl⟩
  all_goals cases ht <;> cases hc <;> exact .inl ⟨_, rfl⟩

/-- The one compositor command that names no word. -/
theorem eq_cmpIllegal {c : Instr} {t : ThreadId} (ht : compositorThread c = some t) (hc : cmpCode c = none) : c = .cmpIllegal t := by
  cases c <;> cases ht <;> cases hc
  rfl

/-- Every compositor command is a turn of its thread. -/
theorem does_cmpTurn {c : Instr} {t : ThreadId} (ht : compositorThread c = some t) (s : State) :
    Does c s fun f p => p.cmpTurn t f := by
  cases hc : cmpCode c with
  | none =>
    cases eq_cmpIllegal ht hc
    exact .inl ⟨_, rfl⟩
  | some code =>
    obtain ⟨f, hf⟩ | ⟨f, hf⟩ := does_cmpIssue ht hc s
    · exact .inl ⟨_, hf⟩
    · exact .inr ⟨_, hf⟩

/-- An effect that writes no memory is a quiet one. -/
theorem store_eq_quiet (s : State) {f : Mem → Panel → Panel} {g : Panel → Panel} (h : f s.mem s.seen = g s.seen)
    (hw : (g s.seen).writes = []) : s.store f = s.quiet g := by
  have hmem : (s.store f).mem = s.mem := store_mem_of_writes s f (h ▸ hw)
  have hp : (s.store f).p = (s.quiet g).p := by
    change { f s.mem s.seen with time := s.p.time, writes := [] } = _
    rw [h]
    rfl
  calc s.store f = { s with mem := (s.store f).mem, p := (s.store f).p } := rfl
    _ = s.quiet g := by rw [hmem, hp]; rfl

theorem exec_of_does {c : Instr} {s : State} {E : (Panel → Thread → Panel) → Panel → Panel} (hdoes : Does c s E) {g : Panel → Panel}
    (h : ∀ f, E f s.seen = g s.seen) (hw : (g s.seen).writes = []) : exec c s = .next (s.quiet g) := by
  obtain ⟨f, hf⟩ | ⟨f, hf⟩ := hdoes
  · exact exec_quiet hf (h f)
  · exact hf.trans (congrArg _ (store_eq_quiet s (h (f s.mem)) hw))

/-- Settles O22: every compositor command is a turn of its thread, which decides on what the thread and the word at its PC are. -/
theorem compositorThreadThatCannotIssue : Obligations.CompositorThreadThatCannotIssue := by
  intro s t
  have hfault (code : Nat) : (s.seen.cmpFault t code).writes = [] := cmpFault_writes _ _ _
  refine ⟨fun c ht h => ?idle, fun c ht hrun hstop hhold hpc => ?beyond,
    fun c op fs ht hc hready => ⟨fun his => ?otherWord, fun his hlegal => ?illegalWord⟩, fun hready hlegal => ?illegal⟩
  case idle => exact exec_of_does (does_cmpTurn ht s) (fun f => cmpTurn_idle f h) rfl
  case beyond => exact exec_of_does (does_cmpTurn ht s) (fun f => cmpTurn_beyond f hrun hstop hhold hpc) (hfault _)
  case otherWord => exact exec_of_does (does_cmpIssue ht hc s) (fun f => cmpIssue_otherWord f hready his) rfl
  case illegalWord => exact exec_of_does (does_cmpIssue ht hc s) (fun f => cmpIssue_illegal f hready his hlegal) (hfault _)
  case illegal =>
    have hturn := cmpTurn_ready (fun p _ => if cmpLegal (p.cmpWord t) then p else p.cmpFault t 0x022D) hready
    exact exec_quiet (f := fun p => p.cmpTurn t fun p _ => if cmpLegal (p.cmpWord t) then p else p.cmpFault t 0x022D) rfl
      (hturn.trans (if_neg (by simp [hlegal])))

end Sys2Proof.Proofs
end

section
/-! SUPPORT. Stalled lines (R61, R81, R83, R133, R134, R243, R255, R269, R414): the commands that end or bound a wait or a hold, by
whether a line is stalled and what keeps it. -/

namespace Sys2Proof.Proofs

open Sys2Proof.Machine Sys2Proof.Laws

section
variable {s : State} {site : Nat}

/-! ### No stalled line -/

section
variable (h : (s.seen.seq site).stalled = none)
include h

theorem exec_waitPass_unstalled (cycles : Nat) : exec (.waitPass site cycles) s = .next (s.store fun _ p => p) := by
  refine exec_store rfl ?_
  simp only [h]

theorem exec_holdEnd_unstalled (cycles late : Nat) : exec (.holdEnd site cycles late) s = .next (s.store fun _ p => p) := by
  refine exec_store rfl ?_
  simp only [h]

theorem exec_overdrawRetry_unstalled : exec (.overdrawRetry site) s = .next (s.store fun _ p => p) := by
  refine exec_store rfl ?_
  simp only [h]

theorem exec_swaitbBoundExpired_unstalled : exec (.swaitbBoundExpired site) s = .next (s.quiet id) := by
  refine exec_quiet rfl ?_
  simp only [h]
  rfl

theorem exec_syncWaitTimeout_unstalled : exec (.syncWaitTimeout site) s = .next (s.quiet id) := by
  refine exec_quiet rfl ?_
  simp only [h]
  rfl

end

/-! ### A single hold that lasts too long (R83, R255, R269) -/

theorem exec_holdTimeout (s : State) (site : Nat) : exec (.holdTimeout site) s = .next (s.quiet fun p =>
    if !(p.seq site).held then p
    else
      let q := p.seq site
      let p := p.raiseIf (q.holdCause = 1) site 0x0301
      let p := p.raiseIf (q.holdCause = 2) site 0x0302
      let p := p.raiseIf (q.holdBy.any (· < 8)) site 0x0704
      p.raiseIf (q.holdBy.any (16 ≤ ·)) site 0x0803) := rfl

theorem exec_holdTimeout_free (h : (s.seen.seq site).held = false) : exec (.holdTimeout site) s = .next (s.quiet id) :=
  exec_quiet (exec_holdTimeout s site) (if_pos (by simp [h]))

theorem exec_holdTimeout_held (h : (s.seen.seq site).held = true) :
    let q := s.seen.seq site
    exec (.holdTimeout site) s = .next (s.quiet fun p =>
      let p := if q.holdCause = 1 then p.raise site 0x0301 else p
      let p := if q.holdCause = 2 then p.raise site 0x0302 else p
      let p := if q.holdBy.any (· < 8) = true then p.raise site 0x0704 else p
      if q.holdBy.any (16 ≤ ·) = true then p.raise site 0x0803 else p) := by
  refine exec_quiet (exec_holdTimeout s site) ((if_neg (by simp [h])).trans ?_)
  simp only [Panel.raiseIf, decide_eq_true_eq]

/-! ### A stalled line -/

section
variable {l : Line} (hl : (s.seen.seq site).stalled = some l)
include hl

theorem exec_overdrawRetry_overdrawn (h : (s.seen.seq site).holdCause = 6) :
    exec (.overdrawRetry site) s = .next (s.store fun m p => (p.period site 0).retryLine m site l) := by
  refine exec_store rfl ?_
  simp only [hl]
  exact if_pos h

section
variable (hcause : (s.seen.seq site).holdCause = 0) (cycles : Nat)
include hcause

theorem exec_waitPass_waits (h : s.seen.lineWait site (goodOps (s.seen.slotOps s.mem site l)) ≠ 0) :
    exec (.waitPass site cycles) s = .next (s.store fun _ p => p) := by
  refine exec_store rfl ?_
  simp only [hl, hcause, ne_eq, not_true_eq_false, if_false]
  exact if_pos h

theorem exec_waitPass_passes (h : s.seen.lineWait site (goodOps (s.seen.slotOps s.mem site l)) = 0) :
    exec (.waitPass site cycles) s = .next (s.store fun m p =>
      (((p.modSeq site fun q => { q with waitCycles := q.waitCycles + cycles, thisWait := cycles }).idlePeriods site
        cycles).periodsPass site cycles).retryLine m site l) := by
  refine exec_store rfl ?_
  simp only [hl, hcause, ne_eq, not_true_eq_false, if_false]
  exact if_neg (by simp [h])

theorem exec_swaitbBoundExpired_waits (hop : slotOp (slotWord l 13) = 4) (hsync : s.seen.syncPassed site (slotWord l 13) = false) :
    let n := bitsOf (slotWord l 13) 34 16
    exec (.swaitbBoundExpired site) s = .next (s.quiet fun p =>
      ((((p.modSeq site fun q => { q with waitCycles := q.waitCycles + n, thisWait := n }).idlePeriods site n).periodsPass site
        n).unstall site).seqFault site 0x0228) := by
  refine exec_quiet rfl ?_
  simp only [hl]
  exact if_pos (by simp [hcause, hop, hsync])

end

/-! ### Sync waits (R134) -/

theorem exec_syncWaitTimeout_waits (hop : slotOp (slotWord l 13) = 3 ∨ slotOp (slotWord l 13) = 6)
    (hsync : s.seen.syncPassed site (slotWord l 13) = false) :
    exec (.syncWaitTimeout site) s = .next (s.quiet fun p => p.seqFault site 0x0227) := by
  refine exec_quiet rfl ?_
  simp only [hl]
  exact if_pos (by simp [hop, hsync])

section
variable (hsync : s.seen.syncPassed site (slotWord l 13) = true)
include hsync

theorem exec_syncWaitTimeout_passed : exec (.syncWaitTimeout site) s = .next (s.quiet id) := by
  refine exec_quiet rfl ?_
  simp only [hl]
  exact if_neg (by simp [hsync])

theorem exec_swaitbBoundExpired_passed : exec (.swaitbBoundExpired site) s = .next (s.quiet id) := by
  refine exec_quiet rfl ?_
  simp only [hl]
  exact if_neg (by simp [hsync])

end

/-! ### A cause of a hold that ends (R81, R83) -/

/-- What still keeps a line after the cycles of its hold are counted. -/
def stillHeld (s : State) (site cycles late : Nat) (l : Line) : Nat × List Nat :=
  (s.seen.countHold site cycles).lineHold site (goodOps ((s.seen.countHold site cycles).slotOps s.mem site l))
    (s.seen.seq site).stalledRecord late

section
variable (hheld : (s.seen.seq site).held = true) (cycles late : Nat)
include hheld

theorem exec_holdEnd_over (h : (stillHeld s site cycles late l).1 = 0) :
    exec (.holdEnd site cycles late) s = .next (s.store fun m _ => (s.seen.countHold site cycles).retryLine m site l) := by
  refine exec_store rfl ?_
  simp only [hl, hheld, Bool.not_true, Bool.false_eq_true, if_false]
  exact if_neg (not_not.2 h)

theorem exec_holdEnd_goesOn (h : (stillHeld s site cycles late l).1 ≠ 0) :
    exec (.holdEnd site cycles late) s = .next (s.store fun _ _ => (s.seen.countHold site cycles).modSeq site fun q =>
      { q with holdCause := (stillHeld s site cycles late l).1, holdBy := (stillHeld s site cycles late l).2 }) := by
  refine exec_store rfl ?_
  simp only [hl, hheld, Bool.not_true, Bool.false_eq_true, if_false]
  exact if_pos h

end

end

end

/-- Settles O43: whether a line is stalled, and what keeps it, decides what each command does. -/
theorem stalledLinesResume : Obligations.StalledLinesResume := by
  intro s site cycles late
  refine ⟨fun h => ?unstalled, exec_holdTimeout_free, exec_holdTimeout_held, fun l hl => ?stalled⟩
  case unstalled =>
    exact ⟨exec_waitPass_unstalled h cycles, exec_holdEnd_unstalled h cycles late, exec_overdrawRetry_unstalled h,
      exec_swaitbBoundExpired_unstalled h, exec_syncWaitTimeout_unstalled h⟩
  case stalled =>
    exact ⟨exec_overdrawRetry_overdrawn hl, fun hcause => exec_waitPass_waits hl hcause cycles,
      fun hcause => exec_waitPass_passes hl hcause cycles,
      fun hheld => ⟨exec_holdEnd_over hl hheld cycles late, exec_holdEnd_goesOn hl hheld cycles late⟩,
      exec_swaitbBoundExpired_waits hl, exec_syncWaitTimeout_waits hl,
      fun hsync => ⟨exec_syncWaitTimeout_passed hl hsync, exec_swaitbBoundExpired_passed hl hsync⟩⟩

end Sys2Proof.Proofs
end

section
/-! SUPPORT. The regions over an abort and the marks of a stroke (R424, R440): an abort sets its own region's part alone. -/

namespace Sys2Proof.Proofs

open Sys2Proof.Machine Sys2Proof.Laws

/-! ### What leaves every region alone -/

@[simp] theorem each_regions {α : Type} {f : Panel → α → Panel} (l : List α) (h : ∀ p x, (f p x).regions = p.regions) (p : Panel) :
    (p.each l f).regions = p.regions := each_keeps (·.regions) l (fun p x _ => h p x) p

@[simp] theorem setWords_regions (p : Panel) (s o v n : Nat) : (p.setWords s o v n).regions = p.regions := by rw [setWords_eq]

@[simp] theorem showDieMarks_regions (p : Panel) (s : Nat) : (p.showDieMarks s).regions = p.regions := setField_regions _ _ _ _

@[simp] theorem showMarks_regions (p : Panel) (r : Nat) : (p.showMarks r).regions = p.regions := by
  unfold Panel.showMarks
  rw [setField_regions, setField_regions]

@[simp] theorem dropMarks_regions (p : Panel) (r : Nat) (f : Mark → Bool) : (p.dropMarks r f).regions = p.regions := by
  unfold Panel.dropMarks
  rw [each_regions _ showDieMarks_regions, showMarks_regions, modContain_regions]

@[simp] theorem settleStroke_regions (p : Panel) (s r k : Nat) : (p.settleStroke s r k).regions = p.regions := by
  unfold Panel.settleStroke
  rw [dropMarks_regions]
  split
  · rfl
  · exact dropMarks_regions _ _ _

/-! ### What an abort takes away (R275, R348, R359, R430, R518) -/

@[simp] theorem hostRecord_regions (p : Panel) (d : HostDesc) (status code : Nat) :
    (p.hostRecord d status code).regions = p.regions := by
  unfold Panel.hostRecord
  split
  · rfl
  · simp only
    split <;> split <;> rfl

@[simp] theorem complete_regions (p : Panel) (r : Nat) (d : HostDesc) (status code : Nat) :
    (p.complete r d status code).regions = p.regions := by
  unfold Panel.complete
  rw [hostRecord_regions, setField_regions, setRing_regions]

@[simp] theorem endWaits_regions (p : Panel) (r : Nat) : (p.endWaits r).regions = p.regions :=
  each_regions _ (fun p d => complete_regions p r d 4 0) p

@[simp] theorem release_regions (p : Panel) (x : Reprint) : (p.release x).regions = p.regions := by
  unfold Panel.release
  refine (ite_keeps (·.regions) ?_).trans rfl
  unfold Panel.showReserve
  rw [setField_regions, setWords_regions, modContain_regions]

@[simp] theorem endReprint_regions (p : Panel) (x : Reprint) : (p.endReprint x).regions = p.regions := by
  unfold Panel.endReprint Panel.setReprint Panel.showReprint
  rw [setWords_regions, modContain_regions, release_regions]

@[simp] theorem closeWindow_regions (p : Panel) (s c i : Nat) : (p.closeWindow s c i).regions = p.regions := setFlag_regions _ _ _ _

@[simp] theorem closeWindows_regions (p : Panel) (s c : Nat) : (p.closeWindows s c).regions = p.regions :=
  each_regions _ (fun _ _ => ite_keeps (·.regions) (closeWindow_regions _ _ _ _)) p

@[simp] theorem dropGalleys_regions (p : Panel) (s : Nat) : (p.dropGalleys s).regions = p.regions :=
  each_regions _ (fun _ _ => setGalley_regions _ _ _ _) p

@[simp] theorem withdraw_regions (p : Panel) (s : Nat) : (p.withdraw s).regions = p.regions := by
  refine each_regions _ (fun p c => ite_keeps (·.regions) ?_) p
  rw [setField_regions, modDomain_regions]

@[simp] theorem emptyCtx_regions (p : Panel) (c : Nat) : (p.emptyCtx c).regions = p.regions := by
  unfold Panel.emptyCtx Panel.showStore Panel.setCtxField
  rw [setField_regions, setField_regions, setField_regions, modCtx_regions]

@[simp] theorem freshStreams_regions (p : Panel) (r : Nat) : (p.freshStreams r).regions = p.regions :=
  each_regions _ (fun _ _ => emptyCtx_regions _ _) p

@[simp] theorem dropTick_regions (p : Panel) (r : Nat) : (p.dropTick r).regions = p.regions := rfl

/-- The fabric is no part of the regions. -/
theorem withFabric_regions (p : Panel) (f : FabricSide) : ({ p with fabric := f } : Panel).regions = p.regions := rfl

/-- A region depends on the regions alone. -/
theorem region_of_regions {p q : Panel} (h : q.regions = p.regions) (r : Nat) : q.region r = p.region r := by
  unfold Panel.region
  rw [h]

/-! ### An abort (R440) -/

/-- What an abort leaves of its region: no tick is sent, the region is past its first tick, and its last tick stays. -/
theorem beginAbort_region (p : Panel) (r code : Nat) : ((p.beginAbort r code).region r).tickSent = false
    ∧ ((p.beginAbort r code).region r).first = false ∧ ((p.beginAbort r code).region r).tickAt = (p.region r).tickAt := by
  unfold Panel.beginAbort
  simp only [modRegion_same, true_and]
  refine congrArg Region.tickAt (region_of_regions ?_ r)
  rw [dropTick_regions, withFabric_regions, freshStreams_regions, each_regions, each_regions, each_regions, endWaits_regions, dropMarks_regions, setField_regions,
    setField_regions]
  case h => exact endReprint_regions
  case h => exact fun p s => each_regions _ (fun p c => closeWindows_regions p s c) p
  case h => exact fun p s => (modClock_regions _ _ _).trans ((withdraw_regions _ _).trans (dropGalleys_regions _ _))

/-- A region at which the primary die has ticked at `t`. -/
def TickedAt (t : Nat) (g : Region) : Prop := g.tickSent = false ∧ g.first = false ∧ g.tickAt = t

theorem raiseAbort_tickedAt {p : Panel} {r t : Nat} (h : TickedAt t (p.region r)) (code : Nat) :
    TickedAt t ((p.raiseAbort r code).region r) := by
  have hraised : TickedAt t ((p.raiseRegion r code).region r) := by rwa [region_of_regions (raiseRegion_regions p r code)]
  unfold Panel.raiseAbort Panel.abortRegion
  simp only [Bool.and_false, Bool.false_eq_true, if_false]
  split
  · exact hraised
  · split
    · exact hraised
    · obtain ⟨hsent, hfirst, hat⟩ := beginAbort_region ((p.raiseRegion r code).count sitePD (Csr.ERR_R_STATE_ABORTS r) 1) r code
      obtain ⟨-, -, htick⟩ := hraised
      refine ⟨hsent, hfirst, hat.trans ?_⟩
      rwa [region_of_regions (count_regions _ _ _ _)]

end Sys2Proof.Proofs
end

section
/-! SUPPORT. Ticks and strokes (R66, R84, R88 to R96, R472): what a tick sent, a tick that arrives, and the end of a stroke make of
the die and the region. -/

namespace Sys2Proof.Proofs

open Sys2Proof.Machine Sys2Proof.Laws

/-! ### Ticks that PD sends (R66, R91) -/

theorem exec_tickSend (s : State) (r : Nat) : exec (.tickSend r) s = .next (s.store fun _ p =>
    if !p.mayTick r then p
    else
      let p := p.stampTick r
      let stop := p.stopsNext r
      let p := if stop then p else p.drawTick r
      (p.modRegion r fun g => { g with tickSent := true, stopTick := stop }).postTick r) := rfl

section
variable {s : State} {r : Nat}

theorem exec_tickSend_off (h : s.seen.mayTick r = false) : exec (.tickSend r) s = .next (s.store fun _ p => p) :=
  exec_store (exec_tickSend s r) (if_pos (by simp [h]))

section
variable (h : s.seen.mayTick r = true)
include h

theorem exec_tickSend_stops (hstop : (s.seen.stampTick r).stopsNext r = true) : exec (.tickSend r) s = .next (s.store fun _ p =>
    ((p.stampTick r).modRegion r fun g => { g with tickSent := true, stopTick := true }).postTick r) := by
  refine exec_store (exec_tickSend s r) ((if_neg (by simp [h])).trans ?_)
  simp only [hstop, if_true]

theorem exec_tickSend_runs (hstop : (s.seen.stampTick r).stopsNext r = false) : exec (.tickSend r) s = .next (s.store fun _ p =>
    (((p.stampTick r).drawTick r).modRegion r fun g => { g with tickSent := true, stopTick := false }).postTick r) := by
  refine exec_store (exec_tickSend s r) ((if_neg (by simp [h])).trans ?_)
  simp only [hstop, Bool.false_eq_true, if_false]

end

end

theorem postTick_regions (p : Panel) (r : Nat) : (p.postTick r).regions = p.regions := rfl

/-- The region is named by a message of its tick's time. -/
theorem postTick_posts (p : Panel) (r : Nat) :
    ∃ x ∈ (p.postTick r).servo.tickMsgs, x.1 = (p.postTick r).field sitePD (Csr.STK_R_NEXT_TICK r) := by
  have hfield : (p.postTick r).field sitePD (Csr.STK_R_NEXT_TICK r) = p.field sitePD (Csr.STK_R_NEXT_TICK r) :=
    field_of_csr (p := p) (q := p.postTick r) rfl _ _
  rw [hfield]
  unfold Panel.postTick
  simp only [modServo_same]
  split
  next hany =>
    obtain ⟨x, hx, heq⟩ := List.any_eq_true.1 hany
    exact ⟨_, List.mem_map_of_mem hx, by rw [if_pos (by simpa using heq)]⟩
  next => exact ⟨_, List.mem_append_right _ (List.mem_singleton.2 rfl), rfl⟩

theorem stampTick_writes (p : Panel) (r : Nat) : (p.stampTick r).writes = p.writes := by
  unfold Panel.stampTick
  simp only
  split
  · rfl
  · refine (ite_keeps (·.writes) (raiseRegion_writes _ _ _)).trans ?_
    rw [modServo_writes, setField_writes]

/-! ### Ticks at a die (R66, R84, R92, R93) -/

/-- The die has heard the tick `x` of a region. -/
def heardTick (site r : Nat) (x : Nat × Nat) (p : Panel) : Panel :=
  p.modClock site fun k => { k with ticks := k.ticks.filter fun y => !(y.1 = x.1 && bitOf y.2 r) }

section
variable {p : Panel} {site r : Nat} (x : Nat × Nat) (peaks : List Nat)

theorem dieTick_notCompute (h : 400 ≤ site) : p.dieTick site r x.1 peaks
    = ((heardTick site r x p).modMemDie site fun d => { d with slotsFull := false }).each (linkCounts site) fun p f => p.latch site f :=
  if_pos h

section
variable (h : site < 400)
include h

theorem dieTick_otherRegion (hreg : p.regionOf site ≠ some r) : p.dieTick site r x.1 peaks = heardTick site r x p :=
  (if_neg (Nat.not_le.2 h)).trans (if_pos hreg)

section
variable (hreg : p.regionOf site = some r)
include hreg

theorem dieTick_compute : p.dieTick site r x.1 peaks =
    if p.isSet site Csr.STK_STATUS_SLURRING then p
    else
      let p := p.regulatorPeaks site peaks
      if p.isSet site Csr.STK_STATUS_IN_STROKE then
        let p := (p.setFlag site Csr.STK_STATUS_SLURRING true).count site Csr.STK_SLUR_COUNT 1
        p.setField site Csr.STK_GUTTER_MIN 0
      else if p.isSet site Csr.STK_STATUS_ENDED then (heardTick site r x p).nextStroke site r x.1 (x.1 - (p.clock site).strokeEnd)
      else
        let p := ((heardTick site r x p).closeDie site r).tickValues site
        if p.noNextStroke r then p else p.beginStroke site r (p.field site Csr.STK_STROKE) x.1 :=
  (if_neg (Nat.not_le.2 h)).trans (if_neg (not_not.2 hreg))

theorem dieTick_slurring (hslur : p.isSet site Csr.STK_STATUS_SLURRING = true) : p.dieTick site r x.1 peaks = p :=
  (dieTick_compute x peaks h hreg).trans (if_pos hslur)

section
variable (hslur : p.isSet site Csr.STK_STATUS_SLURRING = false)
include hslur

/-- A die that still works slurs. -/
theorem dieTick_works (hin : (p.regulatorPeaks site peaks).isSet site Csr.STK_STATUS_IN_STROKE = true) :
    p.dieTick site r x.1 peaks = (((p.regulatorPeaks site peaks).setFlag site Csr.STK_STATUS_SLURRING true).count site
      Csr.STK_SLUR_COUNT 1).setField site Csr.STK_GUTTER_MIN 0 := by
  rw [dieTick_compute x peaks h hreg, hslur]
  exact if_pos hin

section
variable (hin : (p.regulatorPeaks site peaks).isSet site Csr.STK_STATUS_IN_STROKE = false)
include hin

/-- A die that has ended its stroke begins the next. -/
theorem dieTick_ended (hend : (p.regulatorPeaks site peaks).isSet site Csr.STK_STATUS_ENDED = true) :
    let q := heardTick site r x (p.regulatorPeaks site peaks)
    p.dieTick site r x.1 peaks = q.nextStroke site r x.1 (x.1 - (q.clock site).strokeEnd) := by
  have hclock : ((heardTick site r x (p.regulatorPeaks site peaks)).clock site).strokeEnd
      = ((p.regulatorPeaks site peaks).clock site).strokeEnd := by
    unfold heardTick
    rw [modClock_same]
  rw [dieTick_compute x peaks h hreg, hslur]
  simp only [hin, hend, hclock, Bool.false_eq_true, if_false, if_true]

/-- A die between strokes begins its first. -/
theorem dieTick_between (hend : (p.regulatorPeaks site peaks).isSet site Csr.STK_STATUS_ENDED = false) :
    let q := ((heardTick site r x (p.regulatorPeaks site peaks)).closeDie site r).tickValues site
    p.dieTick site r x.1 peaks = if q.noNextStroke r then q else q.beginStroke site r (q.field site Csr.STK_STROKE) x.1 := by
  rw [dieTick_compute x peaks h hreg, hslur]
  simp only [hin, hend, Bool.false_eq_true, if_false]

end

end

end

end

end

/-! ### TICK_MESSAGE and STROKE_TICK (R66, R92) -/

section
variable {s : State} {site r : Nat}

theorem exec_tickMessage_none (h : (s.p.servo.tickMsgs.find? fun x => bitOf x.2 r) = none) :
    exec (.tickMessage site r) s = .next (s.store fun _ p => p) := by
  have h' : (s.seen.servo.tickMsgs.find? fun x => bitOf x.2 r) = none := h
  refine exec_store rfl ?_
  simp only [h']

section
variable {x : Nat × Nat} (h : (s.p.servo.tickMsgs.find? fun x => bitOf x.2 r) = some x)
include h

/-- The die keeps the tick, and one that comes late acts at once. -/
theorem exec_tickMessage_some : exec (.tickMessage site r) s = .next (s.store fun _ _ =>
    let p := s.seen.modClock site fun k => { k with ticks := k.ticks ++ [x] }
    if (x.1 : Int) < p.dieTime site then (p.raise site 0x0306).dieTick site r x.1 [] else p) := by
  have h' : (s.seen.servo.tickMsgs.find? fun x => bitOf x.2 r) = some x := h
  refine exec_store rfl ?_
  simp only [h']

section
variable {p : Panel} (hp : (s.seen.modClock site fun k => { k with ticks := k.ticks ++ [x] }) = p)
include hp

theorem exec_tickMessage_early (hx : p.dieTime site ≤ x.1) : exec (.tickMessage site r) s = .next (s.store fun _ _ => p) := by
  subst hp
  exact exec_store (exec_tickMessage_some h) (if_neg (Int.not_lt.2 hx))

theorem exec_tickMessage_late (hx : x.1 < p.dieTime site) :
    exec (.tickMessage site r) s = .next (s.store fun _ _ => (p.raise site 0x0306).dieTick site r x.1 []) := by
  subst hp
  exact exec_store (exec_tickMessage_some h) (if_pos hx)

end

end

section
variable (peaks : List Nat)

theorem exec_strokeTick_primary (h : site = s.p.primary) :
    exec (.strokeTick site r peaks) s = .next (s.store fun _ _ => s.seen.primaryTick r) := exec_store rfl (if_pos h)

section
variable (h : site ≠ s.p.primary)
include h

theorem exec_strokeTick_none (hx : ((s.seen.clock site).ticks.find? fun x => bitOf x.2 r) = none) :
    exec (.strokeTick site r peaks) s = .next (s.store fun _ _ => s.seen) := by
  refine exec_store rfl ((if_neg h).trans ?_)
  simp only [hx]

theorem exec_strokeTick_die {x : Nat × Nat} (hx : ((s.seen.clock site).ticks.find? fun x => bitOf x.2 r) = some x) :
    exec (.strokeTick site r peaks) s = .next (s.store fun _ _ => s.seen.dieTick site r x.1 peaks) := by
  refine exec_store rfl ((if_neg h).trans ?_)
  simp only [hx]

end

end

end

/-! ### The region's tick at the acting primary die (R87, R90, R92, R96) -/

theorem primaryTick_idle {p : Panel} {r : Nat} (h : p.boot.halted = true ∨ (p.region r).tickSent = false
    ∨ p.isSet sitePD (Csr.STK_R_CTRL_ENABLE r) = false) : p.primaryTick r = p := by
  refine if_pos ?_
  rcases h with h | h | h <;> simp [h]

/-- The dies whose end the primary die has not heard of at a tick; at a region's first there are none. -/
def owedEnds (g : Region) : List Nat := if g.first then [] else g.sites.filter fun s => !(g.ended.any fun x => x.1 = s)

theorem setExtension_region (p : Panel) (r d : Nat) :
    (p.setExtension r d).region r = { p.region r with extension := p.extensionFor r d } := by
  unfold Panel.setExtension
  simp only
  split
  · exact modRegion_same p r _
  · rw [region_of_regions (setField_regions _ _ _ _)]
    exact modRegion_same p r _

/-- A stroke that closes leaves the tick: an open fox mark aborts the region, and the end of a sheet makes a commit due. -/
theorem closeStroke_tickedAt {p : Panel} {r t : Nat} (h : TickedAt t (p.region r)) (k : Nat) (slurred : Bool) :
    TickedAt t ((p.closeStroke r k slurred).region r) := by
  unfold Panel.closeStroke
  simp only
  generalize hq : (p.each ((p.region r).sites.filter fun s => p.field s Csr.STK_STROKE = k) fun p s => p.settleStroke s r k) = q
  have hsettled : TickedAt t (q.region r) := by
    subst hq
    rwa [region_of_regions (each_regions _ (fun p s => settleStroke_regions p s r k) p)]
  split
  · exact raiseAbort_tickedAt hsettled _
  · split
    · rw [modRegion_same]
      exact hsettled
    · exact hsettled

section
variable {p : Panel} {r : Nat} (hrun : p.boot.halted = false) (hsent : (p.region r).tickSent = true)
  (hen : p.isSet sitePD (Csr.STK_R_CTRL_ENABLE r) = true) (hstop : (p.region r).stopTick = false)
include hrun hsent hen hstop

/-- The region moves to its next stroke, in a slur if an end is owed; with none owed the stroke before closes. -/
theorem primaryTick_moves : ∃ q : Panel, TickedAt (p.field sitePD (Csr.STK_R_NEXT_TICK r)) (q.region r)
    ∧ (q.region r).slurOpen = !(owedEnds (p.region r)).isEmpty
    ∧ p.primaryTick r = if (p.region r).first then q
      else if (owedEnds (p.region r)).isEmpty then (q.modRegion r fun g => { g with slurRun := 0 }).closeStroke r (p.strokeOf r) false
      else q := by
  unfold Panel.primaryTick
  simp only [hrun, hsent, hen, hstop, Bool.not_true, Bool.or_self, Bool.false_and, Bool.false_eq_true, if_false]
  refine ⟨_, ⟨?_, ?_, ?_⟩, ?_, rfl⟩
  · rw [setExtension_region, modRegion_same]
  · rw [setExtension_region, modRegion_same]
  · rw [setExtension_region, modRegion_same]
  · rw [setExtension_region, modRegion_same]
    rfl

/-- After its tick a region is past its first, and at its first it has no slur open. -/
theorem primaryTick_shows : TickedAt (p.field sitePD (Csr.STK_R_NEXT_TICK r)) ((p.primaryTick r).region r)
    ∧ ((p.region r).first = true → ((p.primaryTick r).region r).slurOpen = false) := by
  obtain ⟨q, hq, hslur, heq⟩ := primaryTick_moves hrun hsent hen hstop
  rw [heq]
  cases hfirst : (p.region r).first with
  | true =>
    simp only [if_true]
    exact ⟨hq, fun _ => by rw [hslur, owedEnds, hfirst]; rfl⟩
  | false =>
    simp only [Bool.false_eq_true, if_false, false_implies, and_true]
    split
    · refine closeStroke_tickedAt ?_ _ _
      rw [modRegion_same]
      exact hq
    · exact hq

end

/-! ### The end of a die's stroke (R88, R89, R96) -/

theorem exec_endOfStroke (s : State) (site : Nat) : exec (.endOfStroke site) s = .next (s.store fun _ p => p.endStroke site) := rfl

theorem store_clock (s : State) (f : Mem → Panel → Panel) (x : Nat) : (s.store f).p.clock x = (f s.mem s.seen).clock x := rfl

theorem exec_strokeEndReport (s : State) (site : Nat) : exec (.strokeEndReport site) s = .next (s.quiet fun p => p.endReport site) := rfl

/-- The panel in which a die has noted the end of its stroke and stopped issuing. -/
def strokeEnded (site : Nat) (p : Panel) : Panel :=
  let t := (p.dieTime site).toNat
  let p := p.setField site Csr.STK_END_LAST (min 0xFFFFFFFF (t - (p.clock site).strokeTick))
  let p := p.modClock site fun k => { k with strokeEnd := t, endDue := true }
  let p := (p.setFlag site Csr.STK_STATUS_IN_STROKE false).setFlag site Csr.STK_STATUS_ENDED true
  p.setFlag site Csr.STK_SEQ_STATUS_ISSUING false

/-- The fields that the end of a stroke writes. -/
def strokeEndFlds : List Fld :=
  [Csr.STK_END_LAST, Csr.STK_STATUS_IN_STROKE, Csr.STK_STATUS_ENDED, Csr.STK_SEQ_STATUS_ISSUING]

theorem strokeEndFlds_fit : ∀ f ∈ strokeEndFlds, FldFits f := by
  unfold FldFits
  decide

theorem strokeEndFlds_separate_slurring : ∀ f ∈ strokeEndFlds, Separate f Csr.STK_STATUS_SLURRING := by decide

/-- Each flag that the end of a stroke writes leaves those written before it. -/
theorem strokeEndFlags_separate : Separate Csr.STK_STATUS_ENDED Csr.STK_STATUS_IN_STROKE
    ∧ Separate Csr.STK_SEQ_STATUS_ISSUING Csr.STK_STATUS_IN_STROKE
    ∧ Separate Csr.STK_SEQ_STATUS_ISSUING Csr.STK_STATUS_ENDED := by decide

/-- The panel in which a region has heard of a die's end (R89). -/
def endHeard (site r : Nat) (p : Panel) : Panel :=
  (p.modClock site fun k => { k with endDue := false }).modRegion r fun g =>
    { g with ended := SMap.insert g.ended site (p.clock site).strokeEnd }

theorem endHeard_shows (site r : Nat) (p : Panel) : ((endHeard site r p).clock site).endDue = false
    ∧ ((endHeard site r p).region r).ended = SMap.insert (p.region r).ended site (p.clock site).strokeEnd := by
  unfold endHeard
  exact ⟨congrArg ClockDie.endDue (modClock_same p site fun k => { k with endDue := false }), by rw [modRegion_same]; rfl⟩

/-- The panel in which a die's part of a slur is over (R96). -/
def slurPartOver (site r : Nat) (p : Panel) : Panel :=
  (p.modClock site fun k => { k with endDue := false }).modRegion r fun g =>
    { g with lateEnds := g.lateEnds.filter (· ≠ site), begun := max g.begun (p.clock site).strokeEnd }

section
variable {p : Panel} {site r : Nat}

theorem strokeEnded_slurring : (strokeEnded site p).isSet site Csr.STK_STATUS_SLURRING = p.isSet site Csr.STK_STATUS_SLURRING := by
  have hslur := strokeEndFlds_separate_slurring
  unfold strokeEnded
  rw [isSet_setFlag_separate (hslur _ (by simp [strokeEndFlds])), isSet_setFlag_separate (hslur _ (by simp [strokeEndFlds])),
    isSet_setFlag_separate (hslur _ (by simp [strokeEndFlds])), modClock_isSet,
    isSet_setField_separate (hslur _ (by simp [strokeEndFlds]))]

theorem strokeEnded_shows : (strokeEnded site p).isSet site Csr.STK_STATUS_IN_STROKE = false
    ∧ (strokeEnded site p).isSet site Csr.STK_STATUS_ENDED = true
    ∧ (strokeEnded site p).isSet site Csr.STK_SEQ_STATUS_ISSUING = false ∧ ((strokeEnded site p).clock site).endDue = true := by
  obtain ⟨hin, hissuingIn, hissuingEnd⟩ := strokeEndFlags_separate
  have hfits := strokeEndFlds_fit
  unfold strokeEnded
  refine ⟨?_, ?_, isSet_setFlag_same _ _ _ _ (hfits _ (by simp [strokeEndFlds])) (by decide), ?_⟩
  · rw [isSet_setFlag_separate hissuingIn, isSet_setFlag_separate hin]
    exact isSet_setFlag_same _ _ _ _ (hfits _ (by simp [strokeEndFlds])) (by decide)
  · rw [isSet_setFlag_separate hissuingEnd]
    exact isSet_setFlag_same _ _ _ _ (hfits _ (by simp [strokeEndFlds])) (by decide)
  · unfold Panel.clock
    rw [setFlag_clocks, setFlag_clocks, setFlag_clocks]
    exact congrArg ClockDie.endDue (modClock_same _ site _)

section
variable (hreg : p.regionOf site = none)
include hreg

theorem endStroke_noRegion : p.endStroke site = p := by
  simp only [Panel.endStroke, hreg]

theorem endReport_noRegion : p.endReport site = p := by
  simp only [Panel.endReport, hreg]

end

section
variable (hreg : p.regionOf site = some r)
include hreg

theorem endStroke_works (h : p.isSet site Csr.STK_STATUS_IN_STROKE = false ∨ p.strokeDone site = false) : p.endStroke site = p := by
  simp only [Panel.endStroke, hreg]
  refine if_pos ?_
  rcases h with h | h <;> simp [h]

/-- A die whose stroke is done ends it, and without a slur nothing begins. -/
theorem endStroke_ends (hin : p.isSet site Csr.STK_STATUS_IN_STROKE = true) (hdone : p.strokeDone site = true)
    (hslur : (p.meshFinish site).isSet site Csr.STK_STATUS_SLURRING = false) :
    p.endStroke site = strokeEnded site (p.meshFinish site) := by
  simp only [Panel.endStroke, hreg, hin, hdone, Bool.not_true, Bool.or_self, Bool.false_eq_true, if_false]
  refine if_pos ?_
  change (!(strokeEnded site (p.meshFinish site)).isSet site Csr.STK_STATUS_SLURRING) = true
  rw [strokeEnded_slurring, hslur]
  rfl

theorem endReport_sent (h : (p.clock site).endDue = false) : p.endReport site = p := by
  simp only [Panel.endReport, hreg, h, Bool.not_false, if_true]

section
variable (hdue : (p.clock site).endDue = true)
include hdue

/-- The report of a die that owed none joins the region's ended dies. -/
theorem endReport_joins (h : (p.region r).lateEnds.contains site = false) : p.endReport site = endHeard site r p := by
  have hfree : (!(p.region r).lateEnds.contains site) = true := by rw [h]; rfl
  simp only [Panel.endReport, hreg, hdue, Bool.not_true, Bool.false_eq_true, if_false]
  exact if_pos hfree

theorem endReport_late (h : (p.region r).lateEnds.contains site = true) : p.endReport site =
    if ((slurPartOver site r p).region r).lateEnds.isEmpty then (slurPartOver site r p).slurOver r else slurPartOver site r p := by
  have howed : ¬ (!(p.region r).lateEnds.contains site) = true := by
    rw [h]
    decide
  simp only [Panel.endReport, hreg, hdue, Bool.not_true, Bool.false_eq_true, if_false]
  exact if_neg howed

end

end

end

/-- Settles O50: what is under way at the region and at the die decides what a tick, or the end of a stroke, makes of them. -/
theorem strokeTicks : Obligations.StrokeTicks := by
  refine ⟨fun s r => ⟨exec_tickSend_off, fun hmay hstop => ?sendStops, fun hmay hstop => ?sendRuns⟩,
    fun s site r peaks => ⟨exec_tickMessage_none, fun x hx => ?message, exec_strokeTick_none peaks, fun x hsite hx => ?dieTick,
      fun hsite => ⟨fun h => ?primaryIdle, fun hrun hsent hen hstop => ?primaryTick⟩⟩,
    fun s site r => ⟨fun hreg => ?noRegion, fun hreg h => ?works, fun hreg hin hdone => ⟨exec_endOfStroke s site, fun hslur => ?ends⟩,
      fun hreg h => ?sent, fun hreg hdue h => ?joins, fun hreg hdue h => ?late⟩⟩
  case sendStops =>
    have hexec := exec_tickSend_stops hmay hstop
    generalize hq : ((s.seen.stampTick r).modRegion r fun g => { g with tickSent := true, stopTick := true }) = q
    have hregion : (s.store fun _ _ => q.postTick r).p.region r = q.region r := rfl
    have hwrites : (q.postTick r).writes = [] := by
      subst hq
      exact stampTick_writes s.seen r
    refine ⟨hexec, s.store fun _ _ => q.postTick r, exec_store hexec (by rw [hq]), ?_, ?_, ?_,
      store_mem_of_writes s _ hwrites, rfl⟩
    · rw [hregion, ← hq, modRegion_same]
    · rw [hregion, ← hq, modRegion_same]
    · rw [store_field]
      exact postTick_posts q r
  case sendRuns =>
    have hexec := exec_tickSend_runs hmay hstop
    generalize hq : (((s.seen.stampTick r).drawTick r).modRegion r fun g => { g with tickSent := true, stopTick := false }) = q
    have hregion : (s.store fun _ _ => q.postTick r).p.region r = q.region r := rfl
    refine ⟨hexec, s.store fun _ _ => q.postTick r, exec_store hexec (by rw [hq]), ?_, ?_, rfl⟩
    · rw [hregion, ← hq, modRegion_same]
    · rw [hregion, ← hq, modRegion_same]
  case message => exact ⟨exec_tickMessage_early hx rfl, exec_tickMessage_late hx rfl⟩
  case dieTick =>
    have ticks {q : Panel} (hq : s.seen.dieTick site r x.1 peaks = q) :
        exec (.strokeTick site r peaks) s = .next (s.store fun _ _ => q) := exec_store (exec_strokeTick_die peaks hsite hx) hq
    exact ⟨fun h => ticks (dieTick_notCompute x peaks h), fun h hreg => ticks (dieTick_otherRegion x peaks h hreg),
      fun h hreg hslur => ticks (dieTick_slurring x peaks h hreg hslur), fun h hreg hslur =>
        ⟨fun hin => ticks (dieTick_works x peaks h hreg hslur hin),
          fun hin hend => ticks (dieTick_ended x peaks h hreg hslur hin hend),
          fun hin hend => ticks (dieTick_between x peaks h hreg hslur hin hend)⟩⟩
  case primaryIdle => exact exec_store (exec_strokeTick_primary peaks hsite) (primaryTick_idle h)
  case primaryTick =>
    obtain ⟨⟨hsent', hfirst, hat⟩, hslur⟩ := primaryTick_shows (p := s.seen) hrun hsent hen hstop
    exact ⟨_, exec_strokeTick_primary peaks hsite, hsent', hfirst, hat.trans (seen_field _ _ _), rfl, hslur⟩
  case noRegion =>
    exact ⟨exec_store (exec_endOfStroke s site) (endStroke_noRegion hreg),
      exec_quiet (exec_strokeEndReport s site) (endReport_noRegion hreg)⟩
  case works => exact exec_store (exec_endOfStroke s site) (endStroke_works hreg h)
  case ends =>
    obtain ⟨hin', hend, hissuing, hdue⟩ := strokeEnded_shows (p := s.seen.meshFinish site) (site := site)
    exact ⟨_, exec_store (exec_endOfStroke s site) (g := fun _ _ => strokeEnded site (s.seen.meshFinish site))
        (endStroke_ends hreg hin hdone hslur), (store_isSet _ _ _ _).trans hin', (store_isSet _ _ _ _).trans hend,
      (store_isSet _ _ _ _).trans hissuing, by rw [store_clock, hdue], store_time _ _⟩
  case sent => exact exec_quiet (exec_strokeEndReport s site) (endReport_sent hreg h)
  case joins =>
    obtain ⟨hsent, hended⟩ := endHeard_shows site r s.seen
    exact ⟨_, exec_quiet (exec_strokeEndReport s site) (g := endHeard site r) (endReport_joins hreg hdue h), hsent, hended, rfl,
      rfl, rfl⟩
  case late =>
    have hreport := endReport_late hreg hdue h
    exact ⟨fun hleft => exec_quiet (exec_strokeEndReport s site)
        (hreport.trans (if_neg (mt List.isEmpty_iff.1 hleft))),
      fun hnone => exec_quiet (exec_strokeEndReport s site) (hreport.trans (if_pos (List.isEmpty_iff.2 hnone)))⟩

end Sys2Proof.Proofs
end

section
/-! SUPPORT. Slurs, steps and sheet commits (R94, R97, R99, R286, R287, R289, R409): what a commit makes of the sheet that is due, and
what an acknowledgement makes of the sheets that wait for it. -/

namespace Sys2Proof.Proofs

open Sys2Proof.Machine Sys2Proof.Laws

/-! ### Slurs and steps (R94, R97) -/

theorem exec_slurLimitExpired (s : State) (r : Nat) : exec (.slurLimitExpired r) s = .next (s.quiet fun p =>
    if (p.region r).slurOpen then p.raiseAbort r 0x0202 else p) := rfl

theorem exec_stepAnnounce (s : State) (r d : Nat) : exec (.stepAnnounce r d) s = .next (s.quiet fun p => p.announceStep r d) := rfl

theorem modRegion_other (p : Panel) {r x : Nat} (f : Region → Region) (h : x ≠ r) : (p.modRegion r f).region x = p.region x :=
  smap_get_modify_other _ _ _ h

theorem announceStep_region (p : Panel) (r d : Nat) : ((p.announceStep r d).region r).step = some (d % 2 ^ 24) := by
  unfold Panel.announceStep
  rw [modRegion_same]

theorem announceStep_region_other (p : Panel) {r x : Nat} (d : Nat) (h : x ≠ r) : (p.announceStep r d).region x = p.region x := by
  unfold Panel.announceStep
  rw [modRegion_other _ _ h]
  exact region_of_regions (setField_regions _ _ _ _) x

/-- STK_R_STEP is part of one word, whatever the region's number. -/
theorem announceStep_field (p : Panel) (r d : Nat) : (p.announceStep r d).field sitePD (Csr.STK_R_STEP r)
    = d % 2 ^ (Csr.STK_R_STEP r).width := by
  have hword : (Csr.STK_R_STEP r).place.2.2 = 1 := by
    unfold Fld.place Csr.STK_R_STEP
    simp only
    omega
  unfold Panel.announceStep
  rw [modRegion_field, field_setField_word _ _ _ _ hword]

/-! ### A sheet's commit (R99, R101, R409) -/

theorem exec_sheetCommit (s : State) (r : Nat) (ok : Bool) :
    exec (.sheetCommit r ok) s = .next (s.store fun m p => p.commitSheet m r ok) := rfl

/-- The panel whose region has no commit due any more. -/
def commitTaken (p : Panel) (r : Nat) : Panel := p.modRegion r fun g => { g with commitDue := none }

/-- A mark stands open in a stroke of the sheet `j` of a region, or in one before. -/
def sheetMarked (p : Panel) (r j : Nat) : Bool := p.contain.marks.any fun k => k.region = r && k.stroke < (j + 1) * p.sheetLen r

/-- The panel in which a region's sheet is counted as skipped, and a switch due with it is deferred (R101). -/
def sheetSkipped (p : Panel) (r : Nat) : Panel :=
  ((p.raiseRegion r 0x0204).count sitePD (Csr.ERR_R_STATE_SKIPPED r) 1).deferSwitch r

/-- What a sheet's record says of its region, at the commit of sheet `j` of the panel `p` that leaves `q`. -/
def sheetRecord (p q : Panel) (r j : Nat) : SheetWait :=
  { region := r, sheet := j, ctxs := [], stroke := (j + 1) * p.sheetLen r, imposition := q.impOf r, tick := (p.region r).tickAt }

section
variable {p : Panel} {m : Mem} {r : Nat}

theorem commitSheet_notDue (h : (p.region r).commitDue = none) (ok : Bool) : p.commitSheet m r ok = p := by
  unfold Panel.commitSheet
  simp only [h]

section
variable {j : Nat} (h : (p.region r).commitDue = some j)
include h

theorem commitSheet_due (ok : Bool) : p.commitSheet m r ok =
    if sheetMarked p r j then
      let q := sheetSkipped (commitTaken p r) r
      if q.field sitePD (Csr.ERR_R_CFG_OPEN_SHEETS r) < q.field sitePD (Csr.ERR_R_STATE_SKIPPED r) then q.raiseAbort r 0x1206
      else q.runOn r
    else if !ok || !(commitTaken p r).populated ((commitTaken p r).recordSlot m r) then
      (((commitTaken p r).raiseRegion r 0x0205).deferSwitch r).runOn r
    else
      let q := (commitTaken p r).trySwitch m r
      (q.askPartners m (sheetRecord p q r j)).stopAtCommit r := by
  unfold Panel.commitSheet
  simp only [h]
  rfl

theorem commitSheet_marked (hmarked : sheetMarked p r j = true) (ok : Bool) : p.commitSheet m r ok =
    let q := sheetSkipped (commitTaken p r) r
    if q.field sitePD (Csr.ERR_R_CFG_OPEN_SHEETS r) < q.field sitePD (Csr.ERR_R_STATE_SKIPPED r) then q.raiseAbort r 0x1206
    else q.runOn r :=
  (commitSheet_due h ok).trans (if_pos hmarked)

section
variable (hclean : sheetMarked p r j = false)
include hclean

theorem commitSheet_unmarked (ok : Bool) : p.commitSheet m r ok =
    if !ok || !(commitTaken p r).populated ((commitTaken p r).recordSlot m r) then
      (((commitTaken p r).raiseRegion r 0x0205).deferSwitch r).runOn r
    else
      let q := (commitTaken p r).trySwitch m r
      (q.askPartners m (sheetRecord p q r j)).stopAtCommit r :=
  (commitSheet_due h ok).trans (if_neg (ne_true_of_eq_false hclean))

theorem commitSheet_unwritable {ok : Bool}
    (hbad : ok = false ∨ (commitTaken p r).populated ((commitTaken p r).recordSlot m r) = false) :
    p.commitSheet m r ok = (((commitTaken p r).raiseRegion r 0x0205).deferSwitch r).runOn r :=
  (commitSheet_unmarked h hclean ok).trans (if_pos (by simpa using hbad))

theorem commitSheet_commits {ok : Bool} (hok : ok = true)
    (hslot : (commitTaken p r).populated ((commitTaken p r).recordSlot m r) = true) :
    p.commitSheet m r ok =
      let q := (commitTaken p r).trySwitch m r
      (q.askPartners m (sheetRecord p q r j)).stopAtCommit r :=
  (commitSheet_unmarked h hclean ok).trans (if_neg (by simp [hok, hslot]))

end

end

end

/-! ### The acknowledgement of a sheet (R286, R287, R289) -/

theorem exec_setmarkAck (s : State) (ctx sheet : Nat) :
    exec (.setmarkAck ctx sheet) s = .next (s.store fun m p => p.sheetAcked m ctx sheet) := rfl

/-- The send shards of a context: those that an acknowledgement of the context speaks of. -/
def ackedShards (p : Panel) (ctx : Nat) : List Shard := p.fabric.shards.filter fun h => h.send && !h.stream && h.ctx = ctx

/-- The panel that shows a sheet as acknowledged for each shard of a context. -/
def ackShown (p : Panel) (ctx sheet : Nat) : Panel :=
  p.each (ackedShards p ctx) fun p h => p.setField sitePD (Csr.GAL_SO_ACKED h.shard) sheet

/-- The shards whose resync an acknowledgement ends: it answers the marker sent after the RESYNC, or a later one (R289). -/
def resynced (p : Panel) (ctx sheet : Nat) : List Shard :=
  (ackedShards p ctx).filter fun h => p.fabric.resync.any fun (x : Nat × Option Nat) => x.1 = h.shard && x.2.any (· ≤ sheet)

/-- A shard is mirrored again. -/
def mirrorAgain (p : Panel) (h : Shard) : Panel :=
  let p := { p with fabric := { p.fabric with resync := p.fabric.resync.filter fun (x : Nat × Option Nat) => x.1 ≠ h.shard } }
  (p.setField sitePD Csr.GAL_SO_UNMIRRORED (putBits (p.field sitePD Csr.GAL_SO_UNMIRRORED) h.shard 1 0)).raiseRegion h.region 0x0823

/-- The panel that has taken an acknowledgement for its shards, before any sheet wait ends. -/
def ackTaken (p : Panel) (ctx sheet : Nat) : Panel := (ackShown p ctx sheet).each (resynced p ctx sheet) mirrorAgain

/-- A sheet wait is for a sheet, and a context's acknowledgement is among those it waits for. -/
def awaits (ctx sheet : Nat) (w : SheetWait) : Bool := w.sheet = sheet && w.ctxs.contains ctx

/-- What becomes of the sheet wait, if any, that an acknowledgement answers, in the panel `q` in which the shards `again` are mirrored
again. -/
def ackSettled (m : Mem) (ctx : Nat) (again : List Shard) (q : Panel) : Option SheetWait → Panel
  | some w =>
    let left := (q.stillAwaited w).filter (· ≠ ctx)
    if left.isEmpty then (q.endWait w left).writeRecord m w true else q.endWait w left
  | none => if again.isEmpty then q.raise q.primary 0x0821 else q

theorem mirrorAgain_waits (p : Panel) (h : Shard) : (mirrorAgain p h).fabric.waits = p.fabric.waits := by
  unfold mirrorAgain
  rw [raiseRegion_fabric, setField_fabric]

theorem ackTaken_waits (p : Panel) (ctx sheet : Nat) : (ackTaken p ctx sheet).fabric.waits = p.fabric.waits := by
  unfold ackTaken ackShown
  rw [each_keeps (·.fabric.waits) _ fun p h _ => mirrorAgain_waits p h]
  exact each_keeps (·.fabric.waits) _ (fun _ _ _ => congrArg FabricSide.waits (setField_fabric _ _ _ _)) p

/-- What an acknowledgement does to its shards ends no sheet wait. -/
theorem ackTaken_sheetWait (p : Panel) (ctx sheet : Nat) (f : SheetWait → Bool) :
    (ackTaken p ctx sheet).sheetWait f = p.sheetWait f := congrArg (·.find? f) (ackTaken_waits p ctx sheet)

theorem sheetWait_eq_none_of_no_waits {p : Panel} (h : p.fabric.waits = []) (f : SheetWait → Bool) : p.sheetWait f = none := by
  unfold Panel.sheetWait
  rw [h, List.find?_nil]

section
variable {p : Panel} (h : p.fabric.shards = []) (ctx sheet : Nat)
include h

theorem resynced_of_no_shards : resynced p ctx sheet = [] := by
  unfold resynced ackedShards
  rw [h]
  rfl

theorem ackTaken_of_no_shards : ackTaken p ctx sheet = p := by
  unfold ackTaken ackShown
  rw [resynced_of_no_shards h]
  unfold ackedShards
  rw [h]
  rfl

end

/-- Without a resync under way an acknowledgement mirrors no shard again. -/
theorem resynced_of_no_resync {p : Panel} (h : p.fabric.resync = []) (ctx sheet : Nat) : resynced p ctx sheet = [] := by
  unfold resynced
  simp only [h, List.any_nil, List.filter_false]

theorem ackTaken_of_no_resync {p : Panel} (h : p.fabric.resync = []) (ctx sheet : Nat) :
    ackTaken p ctx sheet = ackShown p ctx sheet := by
  unfold ackTaken
  rw [resynced_of_no_resync h]
  rfl

section
variable {p : Panel} {h : Shard} (hshards : p.fabric.shards = [h]) (hsend : h.send = true) (hstream : h.stream = false)
include hshards hsend hstream

theorem ackedShards_single : ackedShards p h.ctx = [h] := by
  unfold ackedShards
  rw [hshards]
  simp [hsend, hstream]

theorem resynced_single {n sheet : Nat} (hresync : p.fabric.resync = [(h.shard, some n)]) (hn : n ≤ sheet) :
    resynced p h.ctx sheet = [h] := by
  unfold resynced
  rw [ackedShards_single hshards hsend hstream, hresync]
  simp [hn]

theorem ackTaken_single {n sheet : Nat} (hresync : p.fabric.resync = [(h.shard, some n)]) (hn : n ≤ sheet) :
    ackTaken p h.ctx sheet = mirrorAgain (p.setField sitePD (Csr.GAL_SO_ACKED h.shard) sheet) h := by
  unfold ackTaken ackShown
  rw [resynced_single hshards hsend hstream hresync hn, ackedShards_single hshards hsend hstream]
  rfl

end

/-- A shard whose resync is the only one leaves none under way. -/
theorem mirrorAgain_last {p : Panel} {h : Shard} {n : Option Nat} (hresync : p.fabric.resync = [(h.shard, n)]) : mirrorAgain p h =
    let q := { p with fabric := { p.fabric with resync := [] } }
    (q.setField sitePD Csr.GAL_SO_UNMIRRORED (putBits (q.field sitePD Csr.GAL_SO_UNMIRRORED) h.shard 1 0)).raiseRegion h.region
      0x0823 := by
  have hnone : p.fabric.resync.filter (fun x : Nat × Option Nat => x.1 ≠ h.shard) = [] := by
    rw [hresync]
    simp
  unfold mirrorAgain
  rw [hnone]

section
variable {p : Panel} {m : Mem} {ctx sheet : Nat}

theorem sheetAcked_notSent (h : p.net.contains (.setmarkAck ctx sheet) = false) : p.sheetAcked m ctx sheet = p :=
  if_pos (by simp only [h, Bool.not_false])

section
variable (h : p.net.contains (.setmarkAck ctx sheet) = true)
include h

theorem sheetAcked_sent : p.sheetAcked m ctx sheet =
    ackSettled m ctx (resynced (p.arrive (.setmarkAck ctx sheet)) ctx sheet) (ackTaken (p.arrive (.setmarkAck ctx sheet)) ctx sheet)
      ((p.arrive (.setmarkAck ctx sheet)).sheetWait (awaits ctx sheet)) := by
  rw [← ackTaken_sheetWait _ ctx sheet]
  refine (if_neg (by simp only [h, Bool.not_true, Bool.false_eq_true, not_false_eq_true])).trans ?_
  rfl

theorem sheetAcked_awaited {w : SheetWait} (hw : (p.arrive (.setmarkAck ctx sheet)).sheetWait (awaits ctx sheet) = some w) :
    p.sheetAcked m ctx sheet =
      let q := ackTaken (p.arrive (.setmarkAck ctx sheet)) ctx sheet
      let left := (q.stillAwaited w).filter (· ≠ ctx)
      if left.isEmpty then (q.endWait w left).writeRecord m w true else q.endWait w left := by
  rw [sheetAcked_sent h, hw]
  rfl

theorem sheetAcked_unawaited (hw : (p.arrive (.setmarkAck ctx sheet)).sheetWait (awaits ctx sheet) = none) :
    p.sheetAcked m ctx sheet =
      let q := ackTaken (p.arrive (.setmarkAck ctx sheet)) ctx sheet
      if (resynced (p.arrive (.setmarkAck ctx sheet)) ctx sheet).isEmpty then q.raise q.primary 0x0821 else q := by
  rw [sheetAcked_sent h, hw]
  rfl

end

end

/-! ### The end of the wait for the set-off's answers (R287) -/

theorem exec_setoffAckWaitExpired_idle {s : State} {r : Nat} (h : (s.seen.sheetWait fun w => w.region = r) = none) :
    exec (.setoffAckWaitExpired r) s = .next (s.store fun _ p => p) :=
  exec_store rfl (by simp only [h])

theorem exec_setoffAckWaitExpired_waits {s : State} {r : Nat} {w : SheetWait} (h : (s.seen.sheetWait fun w => w.region = r) = some w) :
    exec (.setoffAckWaitExpired r) s = .next (s.store fun m p => (p.endWait w []).writeRecord m w (p.stillAwaited w).isEmpty) :=
  exec_store rfl (by simp only [h])

/-- Settles O51: the region's slur, the sheet that is due, and the shards and sheets that an acknowledgement finds waiting decide what
each command does. -/
theorem slursAndSheets : Obligations.SlursAndSheets := by
  refine ⟨fun s r d => ⟨fun h => ?slurOpen, fun h => ?slurClosed, ?step⟩,
    fun s r ctx sheet => ⟨fun h ok => ?notDue, fun j ok h => ⟨fun hmarked => ?marked, fun hclean hbad => ?unwritable,
        fun hclean hok hslot => ?commits⟩,
      ⟨fun h => ?notSent, fun h hshards hwaits => ?stray, fun w h hresync hw => ?awaited,
        fun h n hnet hshards hsend hstream hctx hresync hn hwaits => ?resynced⟩,
      exec_setoffAckWaitExpired_idle, fun w => exec_setoffAckWaitExpired_waits⟩⟩
  case slurOpen => exact exec_quiet (exec_slurLimitExpired s r) (if_pos h)
  case slurClosed => exact exec_quiet (exec_slurLimitExpired s r) (if_neg (ne_true_of_eq_false h))
  case step =>
    exact ⟨_, exec_stepAnnounce s r d, announceStep_region s.seen r d,
      (quiet_field _ _ _ _).trans (announceStep_field s.seen r d), rfl, rfl, fun q hq => announceStep_region_other s.seen d hq⟩
  case notDue => exact exec_store (exec_sheetCommit s r ok) (commitSheet_notDue h ok)
  case marked => exact exec_store (exec_sheetCommit s r ok) (commitSheet_marked h hmarked ok)
  case unwritable => exact exec_store (exec_sheetCommit s r ok) (commitSheet_unwritable h hclean hbad)
  case commits => exact exec_store (exec_sheetCommit s r ok) (commitSheet_commits h hclean hok hslot)
  case notSent => exact exec_store (exec_setmarkAck s ctx sheet) (sheetAcked_notSent h)
  case stray =>
    refine exec_store (exec_setmarkAck s ctx sheet) ((sheetAcked_unawaited h (sheetWait_eq_none_of_no_waits hwaits _)).trans ?_)
    rw [resynced_of_no_shards (p := s.seen.arrive _) hshards, ackTaken_of_no_shards (p := s.seen.arrive _) hshards]
    rfl
  case awaited =>
    have hacked := sheetAcked_awaited (m := s.mem) h hw
    rw [ackTaken_of_no_resync (p := s.seen.arrive _) hresync] at hacked
    refine ⟨fun hleft => exec_store (exec_setmarkAck s ctx sheet) (hacked.trans ((if_pos (List.isEmpty_iff.2 hleft)).trans ?_)),
      fun hleft => exec_store (exec_setmarkAck s ctx sheet) (hacked.trans (if_neg (mt List.isEmpty_iff.1 hleft)))⟩
    exact congrArg (fun l => (Panel.endWait _ w l).writeRecord s.mem w true) hleft
  case resynced =>
    subst hctx
    have hlast : ((s.seen.arrive (.setmarkAck h.ctx sheet)).setField sitePD (Csr.GAL_SO_ACKED h.shard) sheet).fabric.resync
        = [(h.shard, some n)] := by
      rw [setField_fabric]
      exact hresync
    refine exec_store (exec_setmarkAck s h.ctx sheet) ((sheetAcked_unawaited hnet (sheetWait_eq_none_of_no_waits hwaits _)).trans ?_)
    rw [resynced_single (p := s.seen.arrive _) hshards hsend hstream hresync hn,
      ackTaken_single (p := s.seen.arrive _) hshards hsend hstream hresync hn, mirrorAgain_last hlast]
    rfl

end Sys2Proof.Proofs
end

section
/-! SUPPORT. A compositor thread's registers, scalar and vector (R135, R139). -/

namespace Sys2Proof.Proofs

open Sys2Proof.Machine Sys2Proof.Laws

/-! ### Scalar registers -/

theorem reg_zero (h : Thread) : h.reg 0 = (0, false) := rfl

theorem setReg_zero (h : Thread) (v : Word) (fox : Bool) : h.setReg 0 v fox = h := rfl

theorem reg_setReg_same (h : Thread) {r : RegNo} (hr : r ≠ 0) (v : Word) (fox : Bool) : (h.setReg r v fox).reg r = (v, fox) := by
  have hr0 : r.toNat ≠ 0 := fun h0 => hr (BitVec.toNat_injective h0)
  simp [Thread.setReg, Thread.reg, hr0]

theorem reg_setReg_other (h : Thread) {r q : RegNo} (hq : q ≠ r) (v : Word) (fox : Bool) : (h.setReg r v fox).reg q = h.reg q := by
  have hne : q.toNat ≠ r.toNat := fun he => hq (BitVec.toNat_injective he)
  unfold Thread.setReg
  split
  · rfl
  · simp only [Thread.reg, smap_get_set_other _ _ _ hne]

/-- Settles O18: x0 is no entry of the register map, and every other register is an entry of its own. -/
theorem registerX0ReadsZero : Obligations.RegisterX0ReadsZero := fun h v fox =>
  ⟨reg_zero h, setReg_zero h v fox, fun _ hr => ⟨reg_setReg_same h hr v fox, fun _ hq => reg_setReg_other h hq v fox⟩⟩

/-- Settles O16: at most 2^31 - 1 steps past a target, counted modulo 2^32, is reached (R127). -/
theorem counterReachesTarget : Obligations.CounterReachesTarget := by
  intro v k hv
  unfold reached
  refine ⟨fun hk => decide_eq_true ?_, fun hpos hk => decide_eq_false ?_⟩ <;> omega

end Sys2Proof.Proofs
end

section
/-! SUPPORT. A compositor thread whose instruction issues, and what the scalar instructions then leave (R135, R139, R140). -/

namespace Sys2Proof.Proofs

open Sys2Proof.Machine Sys2Proof.Laws

/-! ### Issue -/

section
variable {s : State} {t : ThreadId} {c : Instr} {op : Nat} {fs : List CmpField} (hc : cmpCode c = some (op, fs))
include hc

/-- The word at the PC of a thread whose instruction issues is that instruction, and legal. -/
theorem cmpIs_and_legal_of_canIssue {p : Panel} (h : p.canIssue t c) :
    cmpIs (p.cmpWord t) op fs = true ∧ cmpLegal (p.cmpWord t) = true := by
  obtain ⟨-, op', fs', hc', his, hlegal⟩ := h
  cases hc.symm.trans hc'
  exact ⟨his, hlegal⟩

/-- An instruction that issues has its effect on the registers that its thread has (R137 to R140). -/
theorem cmpIssue_issues {p : Panel} (h : p.canIssue t c) (f : Panel → Thread → Panel) : p.cmpIssue t op fs f = f p (p.thread t) := by
  obtain ⟨his, hlegal⟩ := cmpIs_and_legal_of_canIssue hc h
  unfold Panel.cmpIssue
  rw [cmpTurn_ready _ h.1, his, hlegal]
  rfl

variable (h : s.seen.canIssue t c)
include h

theorem exec_of_issue {f : Panel → Thread → Panel} {g : Panel → Panel}
    (hx : exec c s = .next (s.quiet fun p => p.cmpIssue t op fs f)) (hfg : f s.seen (s.seen.thread t) = g s.seen) :
    exec c s = .next (s.quiet g) := exec_quiet hx ((cmpIssue_issues hc h f).trans hfg)

theorem exec_of_issue_store {f : Mem → Panel → Thread → Panel} {g : Mem → Panel → Panel}
    (hx : exec c s = .next (s.store fun m p => p.cmpIssue t op fs (f m)))
    (hfg : f s.mem s.seen (s.seen.thread t) = g s.mem s.seen) : exec c s = .next (s.store g) :=
  exec_store hx ((cmpIssue_issues hc h _).trans hfg)

end

/-! ### Free values -/

/-- Drawing free bytes changes nothing but the count of free values drawn. -/
theorem drawBytes_panel (p : Panel) (tag n : Nat) : ∃ k, (p.drawBytes tag n).2 = { p with fresh := k } := by
  induction n generalizing p with
  | zero => exact ⟨p.fresh, rfl⟩
  | succ n ih =>
    obtain ⟨k, hk⟩ := ih { p with fresh := p.fresh + 1 }
    exact ⟨k, hk⟩

@[simp] theorem freeIf_false (p : Panel) (v n : Nat) : p.freeIf false v n = (v, p) := rfl

/-- A value that is defined is the value, and nothing is drawn. -/
theorem freeIf_defined {p : Panel} {fox : Bool} (hfox : fox = false) (v n : Nat) : p.freeIf fox v n = (v, p) := by
  rw [hfox, freeIf_false]

/-- A value that may be free changes nothing but the count of free values drawn. -/
theorem freeIf_panel (p : Panel) (fox : Bool) (v n : Nat) : ∃ k, (p.freeIf fox v n).2 = { p with fresh := k } := by
  cases fox with
  | false => exact ⟨p.fresh, rfl⟩
  | true => exact drawBytes_panel p 139 n

@[simp] theorem freeIf_threads (p : Panel) (fox : Bool) (v n : Nat) : (p.freeIf fox v n).2.threads = p.threads := by
  obtain ⟨k, hk⟩ := freeIf_panel p fox v n
  rw [hk]

@[simp] theorem freeIf_csr (p : Panel) (fox : Bool) (v n : Nat) : (p.freeIf fox v n).2.csr = p.csr := by
  obtain ⟨k, hk⟩ := freeIf_panel p fox v n
  rw [hk]

/-- An instruction that issues and changes its thread's registers alone, on a panel that has the same threads and CSR words. -/
theorem exec_issue_thread {s : State} {t : ThreadId} {c : Instr} {op : Nat} {fs : List CmpField} {f : Panel → Thread → Panel}
    {q : Panel} {g : Thread → Thread} (hc : cmpCode c = some (op, fs)) (h : s.seen.canIssue t c)
    (hx : exec c s = .next (s.quiet fun p => p.cmpIssue t op fs f)) (hf : f s.seen (s.seen.thread t) = q.modThread t g)
    (hthreads : q.threads = s.p.threads) (hcsr : q.csr = s.p.csr) :
    ∃ u, exec c s = .next u ∧ u.p.thread t = g (s.seen.thread t) ∧ u.p.csr = s.p.csr ∧ u.mem = s.mem := by
  have hsame : q.thread t = s.seen.thread t := congrArg (fun l => SMap.get (fun _ => ({} : Thread)) l (t.site * 128 + threadNo t)) hthreads
  exact ⟨_, exec_of_issue (g := fun _ => q.modThread t g) hc h hx hf, (modThread_same q t g).trans (congrArg g hsame), hcsr, rfl⟩

/-! ### The scalar instructions -/

theorem boolWord_slt (a b : Word) : boolWord (a.slt b) = if a.toInt < b.toInt then 1 else 0 := by
  simp [boolWord, BitVec.slt]

theorem boolWord_ult (a b : Word) : boolWord (a.ult b) = if a.toNat < b.toNat then 1 else 0 := by
  simp [boolWord, BitVec.ult]

theorem signedMin_eq (a b : Word) : (if b.slt a then b else a) = if a.toInt ≤ b.toInt then a else b := by
  rcases lt_or_ge b.toInt a.toInt with hlt | hge
  · rw [if_pos (by simpa [BitVec.slt] using hlt), if_neg (Int.not_le.2 hlt)]
  · rw [if_neg (by simpa [BitVec.slt] using hge), if_pos hge]

theorem signedMax_eq (a b : Word) : (if a.slt b then b else a) = if a.toInt ≤ b.toInt then b else a := by
  rcases Int.lt_trichotomy a.toInt b.toInt with hlt | heq | hgt
  · rw [if_pos (by simpa [BitVec.slt] using hlt), if_pos hlt.le]
  · cases BitVec.eq_of_toInt_eq heq
    rw [ite_self, ite_self]
  · rw [if_neg (by simpa [BitVec.slt] using hgt.le), if_neg (Int.not_le.2 hgt)]

section
variable {s : State} {t : ThreadId} {c : Instr} {op : Nat} {rd rs1 rs2 : RegNo} {f : Word → Word → Word}
  (hc : cmpCode c = some (op, fmtR rd rs1 rs2)) (hx : exec c s = .next (s.quiet fun p => p.cmpProduct t op rd rs1 rs2 f))
  (h : s.seen.canIssue t c)
include hc hx h

/-- A product of operands that are not foxed is defined. -/
theorem exec_product_defined (hfox : (((s.seen.thread t).reg rs1).2 || ((s.seen.thread t).reg rs2).2) = false) :
    exec c s = .next (s.quiet fun p => p.modThread t fun g =>
      (g.setReg rd (f ((s.seen.thread t).reg rs1).1 ((s.seen.thread t).reg rs2).1)
        (((s.seen.thread t).reg rs1).2 || ((s.seen.thread t).reg rs2).2)).step) := by
  refine exec_of_issue hc h hx ?_
  simp only [freeIf_defined hfox, BitVec.ofNat_toNat, BitVec.setWidth_eq]

/-- Of a product with a foxed operand the fox is defined, and nothing but the thread is changed. -/
theorem exec_product_foxed (hfox : (((s.seen.thread t).reg rs1).2 || ((s.seen.thread t).reg rs2).2) = true) :
    ∃ u w, exec c s = .next u ∧ u.p.thread t = ((s.seen.thread t).setReg rd w true).step ∧ u.p.csr = s.p.csr ∧ u.mem = s.mem := by
  let v := (f ((s.seen.thread t).reg rs1).1 ((s.seen.thread t).reg rs2).1).toNat
  obtain ⟨u, hu⟩ := exec_issue_thread hc h hx (q := (s.seen.freeIf true v 4).2)
    (g := fun g => (g.setReg rd (BitVec.ofNat 32 (s.seen.freeIf true v 4).1) true).step) (by simp only [hfox, v])
    (freeIf_threads ..) (freeIf_csr ..)
  exact ⟨u, _, hu⟩

end

/-- Settles O17: an instruction that issues has its own effect, and a product is defined unless an operand is foxed. -/
theorem compositorScalarResults : Obligations.CompositorScalarResults := by
  constructor
  case left =>
    intro s t rd rs1 rs2
    refine ⟨?add, ?sub, ?and, ?or, ?xor, ?sll, ?srl, ?sra, ?slt, ?sltu, ?min, ?max, ?mul, ?mulhu⟩
    case slt =>
      intro h
      rw [← boolWord_slt]
      exact exec_of_issue rfl h rfl rfl
    case sltu =>
      intro h
      rw [← boolWord_ult]
      exact exec_of_issue rfl h rfl rfl
    case min =>
      intro h
      rw [← signedMin_eq]
      exact exec_of_issue rfl h rfl rfl
    case max =>
      intro h
      rw [← signedMax_eq]
      exact exec_of_issue rfl h rfl rfl
    case mul =>
      exact ⟨fun hfox h => exec_product_defined (f := fun a b => a * b) rfl rfl h hfox,
        fun hfox h => exec_product_foxed (f := fun a b => a * b) rfl rfl h hfox⟩
    case mulhu =>
      exact ⟨fun hfox h => exec_product_defined (f := fun a b => BitVec.ofNat 32 (a.toNat * b.toNat / 2 ^ 32)) rfl rfl h hfox,
        fun hfox h => exec_product_foxed (f := fun a b => BitVec.ofNat 32 (a.toNat * b.toNat / 2 ^ 32)) rfl rfl h hfox⟩
    all_goals exact fun h => exec_of_issue rfl h rfl rfl
  case right =>
    intro s t rd rs1 imm sh
    refine ⟨?addi, ?andi, ?ori, ?xori, ?slli, ?srli, ?srai, fun h => exec_of_issue rfl h rfl rfl⟩ <;>
      exact fun h => exec_of_issue rfl h rfl (by simp only [Bool.or_false, sext16, zext16])
end Sys2Proof.Proofs
end

section
/-! SUPPORT. Branches, jumps, counters and the end of a compositor thread (R137, R139, R140). -/

namespace Sys2Proof.Proofs

open Sys2Proof.Machine Sys2Proof.Laws

/-! ### Branches and jumps -/

section
variable {s : State} {t : ThreadId} {c : Instr} {op : Nat} {rs1 rs2 : RegNo} {off : BitVec 16} {cond : Word → Word → Bool}
  {taken : Prop} (hc : cmpCode c = some (op, fmtI rs1 rs2 off))
  (hx : exec c s = .next (s.quiet fun p => p.cmpBranch t op rs1 rs2 off cond))
  (htaken : cond ((s.seen.thread t).reg rs1).1 ((s.seen.thread t).reg rs2).1 = true ↔ taken) (h : s.seen.canIssue t c)
include hc hx htaken h

/-- A branch that issues faults on a foxed operand, goes on when it is not taken, and else goes to its target, which must lie in the
instruction memory. -/
theorem exec_branch :
    ((((s.seen.thread t).reg rs1).2 || ((s.seen.thread t).reg rs2).2) = true →
      exec c s = .next (s.quiet fun p => p.cmpFault t 0x022F))
    ∧ ((((s.seen.thread t).reg rs1).2 || ((s.seen.thread t).reg rs2).2) = false → ¬ taken →
      exec c s = .next (s.quiet fun p => p.modThread t fun g => { g with pc := g.pc + 1 }))
    ∧ ((((s.seen.thread t).reg rs1).2 || ((s.seen.thread t).reg rs2).2) = false → taken →
      0 ≤ ((s.seen.thread t).pc : Int) + off.toInt → ((s.seen.thread t).pc : Int) + off.toInt ≤ 16383 →
      exec c s = .next (s.quiet fun p => p.modThread t fun g => { g with pc := (((s.seen.thread t).pc : Int) + off.toInt).toNat }))
    ∧ ((((s.seen.thread t).reg rs1).2 || ((s.seen.thread t).reg rs2).2) = false → taken →
      ((s.seen.thread t).pc : Int) + off.toInt < 0 ∨ 16383 < ((s.seen.thread t).pc : Int) + off.toInt →
      exec c s = .next (s.quiet fun p => p.cmpFault t 0x022E)) := by
  refine ⟨fun hfox => ?_, fun hfox hnot => ?_, fun hfox htake hlow hhigh => ?_, fun hfox htake hout => ?_⟩ <;>
    refine exec_of_issue hc h hx ?_
  · exact if_pos hfox
  · exact (if_neg (ne_true_of_eq_false hfox)).trans (if_neg (mt htaken.1 hnot))
  · have hin : ¬ (decide (((s.seen.thread t).pc : Int) + off.toInt < 0)
        || decide (16383 < ((s.seen.thread t).pc : Int) + off.toInt)) = true := by
      simp only [Bool.or_eq_true, decide_eq_true_eq]
      omega
    exact (if_neg (ne_true_of_eq_false hfox)).trans ((if_pos (htaken.2 htake)).trans (if_neg hin))
  · have hin : (decide (((s.seen.thread t).pc : Int) + off.toInt < 0)
        || decide (16383 < ((s.seen.thread t).pc : Int) + off.toInt)) = true := by
      simpa only [Bool.or_eq_true, decide_eq_true_eq] using hout
    exact (if_neg (ne_true_of_eq_false hfox)).trans ((if_pos (htaken.2 htake)).trans (if_pos hin))

end

/-- Reading panel time as 32-bit halves: the upper half of a 64-bit count is below 2^32 by itself (R140). -/
theorem ofNat_rdsItem (s : State) (t : ThreadId) (item : BitVec 8) (v : Nat)
    (h2 : item = 2 → v = s.seen.field t.site Csr.STK_SEQ_POS_CYCLE) (h3 : item = 3 → v = t.site)
    (h4 : item = 4 → v = threadNo t) (h5 : item = 5 → v = s.seen.field t.site Csr.STK_STROKE % 2 ^ 32)
    (h0 : item = 0 → v = unsigned 64 (s.seen.dieTime t.site) % 2 ^ 32)
    (h1 : item = 1 → v = unsigned 64 (s.seen.dieTime t.site) / 2 ^ 32 % 2 ^ 32) (hbeyond : 6 ≤ item.toNat → v = 0) :
    BitVec.ofNat 32 (s.seen.rdsItem t item.toNat) = BitVec.ofNat 32 v := by
  have hitem {k : Nat} (hk : item.toNat = k) : item = BitVec.ofNat 8 k := by rw [← hk, BitVec.ofNat_toNat, BitVec.setWidth_eq]
  unfold Panel.rdsItem
  split
  case h_1 hk => rw [h0 (hitem hk)]; rfl
  case h_2 hk =>
    rw [h1 (hitem hk)]
    exact BitVec.eq_of_toNat_eq (by simp [Panel.dieStamp])
  case h_3 hk => rw [h2 (hitem hk)]
  case h_4 hk => rw [h3 (hitem hk)]
  case h_5 hk => rw [h4 (hitem hk)]
  case h_6 hk => rw [h5 (hitem hk)]
  case h_7 n0 n1 n2 n3 n4 n5 =>
    have hlarge : 6 ≤ item.toNat := by
      simp only [imp_false] at n0 n1 n2 n3 n4 n5
      omega
    rw [hbeyond hlarge]

/-- Settles O19: a branch by its four outcomes, and each other instruction by the fox of the register that it reads. -/
theorem compositorControlFlow : Obligations.CompositorControlFlow := by
  constructor
  case left =>
    intro s t rs1 rs2 rd off target
    refine ⟨fun h => exec_branch rfl rfl ?_ h, fun h => exec_branch rfl rfl ?_ h, fun h => exec_branch rfl rfl ?_ h,
      fun h => exec_branch rfl rfl ?_ h, fun h => exec_branch rfl rfl ?_ h, fun h => exec_of_issue rfl h rfl rfl,
      fun h hfox => exec_of_issue rfl h rfl (if_neg (ne_true_of_eq_false hfox)),
      fun h hfox => exec_of_issue rfl h rfl (if_pos hfox)⟩
    · exact beq_iff_eq
    · exact bne_iff_ne
    · simp [BitVec.slt]
    · simp [BitVec.slt]
    · simp [BitVec.ult]
  case right =>
    intro s t rs idx imm8
    refine ⟨fun hfox h => exec_of_issue rfl h rfl (if_pos hfox),
      fun hfox h => exec_of_issue rfl h rfl (if_neg (ne_true_of_eq_false hfox)), fun h => exec_of_issue rfl h rfl rfl,
      fun v h2 h3 h4 h5 h0 h1 hbeyond h => exec_of_issue rfl h rfl ?rds, fun hfox h => exec_of_issue rfl h rfl (if_pos hfox),
      fun hfox h => exec_of_issue rfl h rfl ((if_neg (ne_true_of_eq_false hfox)).trans ?ends)⟩
    case rds => simp only [ofNat_rdsItem s t idx v h2 h3 h4 h5 h0 h1 hbeyond]
    case ends =>
      simp only [Bool.and_eq_true, decide_eq_true_eq]
      rfl

end Sys2Proof.Proofs
end

section
/-! SUPPORT. Compositor loads and stores (R138, R139, R256): the address of an access, and a read within one row. -/

namespace Sys2Proof.Proofs

open Sys2Proof.Machine Sys2Proof.Laws

/-! ### The address of an access -/

section
variable {base : Word × Bool} {disp : Word} {n : Nat}

theorem cmpAddr_foxed (hfox : base.2 = true) : cmpAddr base disp n = .error 0x022F := if_pos hfox

theorem cmpAddr_outside (hfox : base.2 = false)
    (hout : sliceBytesTotal ≤ (base.1 + disp).toNat ∨ (base.1 + disp).toNat % n ≠ 0) : cmpAddr base disp n = .error 0x022E :=
  (if_neg (ne_true_of_eq_false hfox)).trans (if_pos (by simpa using hout))

theorem cmpAddr_inside (hfox : base.2 = false) (hin : (base.1 + disp).toNat < sliceBytesTotal)
    (halign : (base.1 + disp).toNat % n = 0) : cmpAddr base disp n = .ok (base.1 + disp).toNat :=
  (if_neg (ne_true_of_eq_false hfox)).trans (if_neg (by simpa using ⟨hin, halign⟩))

end

/-! ### A read within one row -/

/-- A byte of a slice lies in its row as its offset does: a slice begins at a row (R239, R240). -/
theorem sliceAddr_div (s c off : Nat) : sliceAddr s c off / 64 = sliceAddr s c 0 / 64 + off / 64 := by
  unfold sliceAddr
  omega

theorem foxAt_rowStart (m : Mem) (s c off : Nat) : m.foxAt (sliceAddr s c (off / 64 * 64)) = m.foxAt (sliceAddr s c off) := by
  unfold Mem.foxAt
  rw [sliceAddr_div, sliceAddr_div s c off, Nat.mul_div_cancel _ (by decide)]

theorem parityBad_rowStart (m : Mem) (s c off : Nat) :
    m.parityBad (sliceAddr s c (off / 64 * 64)) = m.parityBad (sliceAddr s c off) := by
  unfold Mem.parityBad
  rw [sliceAddr_div, sliceAddr_div s c off, Nat.mul_div_cancel _ (by decide)]

theorem rowsTouched_one {s c off n : Nat} (hn : 0 < n) (hrow : off % 64 + n ≤ 64) : rowsTouched (sliceAddr s c off) n = 1 := by
  rw [rowsTouched, if_neg (by omega)]
  unfold sliceAddr
  omega

/-- A read within one row of good parity delivers its bytes with the row's fox, and changes nothing (R257). -/
theorem sliceRead_goodRow {p : Panel} {m : Mem} {s c off n : Nat} (hw : p.writes = []) (hn : 0 < n) (hrow : off % 64 + n ≤ 64)
    (hpar : m.parityBad (sliceAddr s c off) = false) :
    p.sliceRead m s c off n = ({ data := m.read (sliceAddr s c off) n, fox := m.foxAt (sliceAddr s c off) }, p) := by
  have hmem : p.memory m = m := by rw [Panel.memory, hw]; rfl
  unfold Panel.sliceRead
  simp only [hmem, rowsTouched_one hn hrow, Mem.rowsFoxed, Mem.parityRows, hpar, Bool.or_false, Bool.false_eq_true, if_false,
    List.append_nil]
  rfl

/-! ### The commands -/

/-- An access by the outcome of its address: the fault of a bad one, or the access itself. -/
def cmpAccess (p : Panel) (t : ThreadId) (addr : Except Nat Nat) (act : Nat → Panel) : Panel :=
  match addr with
  | .error code => p.cmpFault t code
  | .ok off => act off

section
variable {s : State} {t : ThreadId} {c : Instr} {op n : Nat} {fs : List CmpField} {rs1 : RegNo} {disp : Word}
  {act : Mem → Panel → Thread → Nat → Panel} {good : Mem → Panel → Panel}

/-- An access that issues faults on a foxed base and on a bad address, and else does its own part at the address. -/
theorem exec_access (hc : cmpCode c = some (op, fs))
    (hx : exec c s = .next (s.store fun m p => p.cmpIssue t op fs fun p h =>
      cmpAccess p t (cmpAddr (h.reg rs1) disp n) (act m p h)))
    (hgood : (((s.seen.thread t).reg rs1).1 + disp).toNat % n = 0 →
      s.mem.parityBad (sliceAddr t.site t.cluster (((s.seen.thread t).reg rs1).1 + disp).toNat) = false →
      act s.mem s.seen (s.seen.thread t) (((s.seen.thread t).reg rs1).1 + disp).toNat = good s.mem s.seen)
    (h : s.seen.canIssue t c) :
    (((s.seen.thread t).reg rs1).2 = true → exec c s = .next (s.store fun _ p => p.cmpFault t 0x022F))
    ∧ (((s.seen.thread t).reg rs1).2 = false →
      sliceBytesTotal ≤ (((s.seen.thread t).reg rs1).1 + disp).toNat ∨ (((s.seen.thread t).reg rs1).1 + disp).toNat % n ≠ 0 →
      exec c s = .next (s.store fun _ p => p.cmpFault t 0x022E))
    ∧ (((s.seen.thread t).reg rs1).2 = false → (((s.seen.thread t).reg rs1).1 + disp).toNat < sliceBytesTotal →
      (((s.seen.thread t).reg rs1).1 + disp).toNat % n = 0 →
      s.mem.parityBad (sliceAddr t.site t.cluster (((s.seen.thread t).reg rs1).1 + disp).toNat) = false →
      exec c s = .next (s.store good)) := by
  refine ⟨fun hfox => ?_, fun hfox hout => ?_, fun hfox hin halign hpar => ?_⟩ <;> refine exec_of_issue_store hc h hx ?_
  · rw [cmpAddr_foxed hfox]
    rfl
  · rw [cmpAddr_outside hfox hout]
    rfl
  · rw [cmpAddr_inside hfox hin halign]
    exact hgood halign hpar

end

/-- Settles O20: the row that an access touches is read, or read and written, and nothing else. -/
theorem compositorMemoryAccess : Obligations.CompositorMemoryAccess := by
  intro s t r rs1 imm imm8
  have hload {n off : Nat} (hn : 0 < n) (hrow : off % 64 + n ≤ 64)
      (hpar : s.mem.parityBad (sliceAddr t.site t.cluster off) = false) :=
    sliceRead_goodRow (p := s.seen) (n := n) rfl hn hrow hpar
  have hstore {off : Nat} (hpar : s.mem.parityBad (sliceAddr t.site t.cluster off) = false) :
      s.seen.sliceRead s.mem t.site t.cluster (off / 64 * 64) 64 =
        ({ data := s.mem.read (sliceAddr t.site t.cluster (off / 64 * 64)) 64, fox := s.mem.foxAt (sliceAddr t.site t.cluster off) },
          s.seen) := by
    rw [sliceRead_goodRow rfl (by decide) (by omega) ((parityBad_rowStart ..).trans hpar), foxAt_rowStart]
  refine ⟨exec_access rfl rfl fun halign hpar => ?lw, exec_access rfl rfl fun _ hpar => ?lbu,
    exec_access rfl rfl fun halign hpar => ?sw, exec_access rfl rfl fun _ hpar => ?sb,
    exec_access rfl rfl fun halign hpar => ?vld, exec_access rfl rfl fun _ _ => rfl⟩
  case lw | lbu | vld => rw [hload (by decide) (by omega) hpar]
  case sw | sb => rw [hstore hpar]

end Sys2Proof.Proofs
end

section
/-! SUPPORT. Vector lanes and the vector compositor instructions (R135, R140, R141, R154). -/

namespace Sys2Proof.Proofs

open Sys2Proof.Machine Sys2Proof.Laws

/-! ### Lanes -/

/-- The lanes of a type fit a vector. -/
theorem laneBits_mul_le {k i : Nat} (hi : i < laneCount k) : laneBits k * i + laneBits k ≤ 512 := by
  unfold laneCount at hi
  split at hi
  · omega
  · calc laneBits k * i + laneBits k = laneBits k * (i + 1) := (Nat.mul_succ ..).symm
      _ ≤ laneBits k * (512 / laneBits k) := Nat.mul_le_mul_left _ hi
      _ ≤ 512 := Nat.mul_div_le ..

theorem bitsOf_mod_two_pow {v l w n : Nat} (h : l + w ≤ n) : bitsOf (v % 2 ^ n) l w = bitsOf v l w := by
  unfold bitsOf
  rw [← Nat.add_sub_cancel' (Nat.le_of_add_right_le h), Nat.pow_add, Nat.mod_mul_right_div_self,
    Nat.mod_mod_of_dvd _ (Nat.pow_dvd_pow 2 (by omega))]

theorem bitsOf_fromLanes {w i : Nat} {xs : List Nat} (hi : i < xs.length) : bitsOf (fromLanes w xs) (w * i) w = xs[i] % 2 ^ w := by
  induction xs generalizing i with
  | nil => exact absurd hi (Nat.not_lt_zero i)
  | cons x xs ih =>
    have hx : x % 2 ^ w < 2 ^ w := Nat.mod_lt _ (Nat.two_pow_pos w)
    cases i with
    | zero => simp [bitsOf, fromLanes]
    | succ i =>
      have hrest : bitsOf (fromLanes w xs) (w * i) w = (x :: xs)[i + 1] % 2 ^ w := ih (Nat.lt_of_succ_lt_succ hi)
      rw [bitsOf, Nat.mul_succ, Nat.add_comm (w * i), Nat.pow_add, ← Nat.div_div_eq_div_mul, fromLanes,
        Nat.add_mul_div_left _ _ (Nat.two_pow_pos w), Nat.div_eq_of_lt hx, Nat.zero_add]
      exact hrest

/-- Each lane of a vector given by its lanes, as a register keeps it (R141). -/
theorem lane_fromLanes {k i : Nat} (f : Nat → Nat) (hi : i < laneCount k) :
    lane k (fromLanes (laneBits k) ((List.range (laneCount k)).map f) % 2 ^ 512) i = f i % 2 ^ laneBits k := by
  have hlen : i < ((List.range (laneCount k)).map f).length := by simpa using hi
  refine (bitsOf_mod_two_pow (laneBits_mul_le hi)).trans ((bitsOf_fromLanes hlen).trans ?_)
  rw [List.getElem_map, List.getElem_range]

/-! ### Vector registers -/

theorem vreg_setVreg_same (h : Thread) (r : RegNo) (v : Nat) (fox : Bool) : (h.setVreg r v fox).vreg r = (v % 2 ^ 512, fox) := by
  simp only [Thread.setVreg, Thread.vreg, smap_get_set_same]

theorem vreg_setVreg_other (h : Thread) {r q : RegNo} (hq : q ≠ r) (v : Nat) (fox : Bool) :
    (h.setVreg r v fox).vreg q = h.vreg q := by
  have hne : q.toNat ≠ r.toNat := fun he => hq (BitVec.toNat_injective he)
  simp only [Thread.setVreg, Thread.vreg, smap_get_set_other _ _ _ hne]

/-! ### The commands -/

section
variable {s : State} {t : ThreadId} {c : Instr} {op : Nat} {fs : List CmpField} {vd vs1 vs2 : RegNo} {ty : BitVec 3}
  {readsVd product : Bool}

/-- A lane-wise instruction that issues sets vd's lanes and fox, and nothing else (R140, R141). -/
theorem exec_lanes (f : Nat → Nat → Nat → Nat → Nat) (hc : cmpCode c = some (op, fs))
    (hx : exec c s = .next (s.quiet fun p => p.cmpV t op fs vd vs1 vs2 ty f readsVd product)) (h : s.seen.canIssue t c) :
    let h := s.seen.thread t
    let k := ty.toNat
    let fox := (h.vreg vs1).2 || (h.vreg vs2).2 || (readsVd && (h.vreg vd).2)
    ∃ u, exec c s = .next u
      ∧ ((fox && product) = false → ∀ i, i < laneCount k → lane k ((u.p.thread t).vreg vd).1 i =
          f k (lane k (h.vreg vd).1 i) (lane k (h.vreg vs1).1 i) (lane k (h.vreg vs2).1 i) % 2 ^ laneBits k)
      ∧ ((u.p.thread t).vreg vd).2 = fox ∧ (u.p.thread t).pc = h.pc + 1 ∧ (u.p.thread t).x = h.x
      ∧ (∀ q : BitVec 5, q ≠ vd → (u.p.thread t).vreg q = h.vreg q) ∧ u.p.csr = s.p.csr ∧ u.mem = s.mem := by
  intro g k fox
  let v := fromLanes (laneBits k) ((List.range (laneCount k)).map fun i =>
    f k (lane k (g.vreg vd).1 i) (lane k (g.vreg vs1).1 i) (lane k (g.vreg vs2).1 i))
  obtain ⟨u, hu, hthread, hcsr, hmem⟩ := exec_issue_thread hc h hx (q := (s.seen.freeIf (fox && product) v 64).2)
    (g := fun g => (g.setVreg vd (s.seen.freeIf (fox && product) v 64).1 fox).step) rfl (freeIf_threads ..) (freeIf_csr ..)
  have hvreg (q : RegNo) : (u.p.thread t).vreg q = (g.setVreg vd (s.seen.freeIf (fox && product) v 64).1 fox).vreg q := by
    rw [hthread]
    rfl
  refine ⟨u, hu, fun hdef i hi => ?lanes, ?fox, by rw [hthread]; rfl, by rw [hthread]; rfl,
    fun q hq => (hvreg q).trans (vreg_setVreg_other _ hq ..), hcsr, hmem⟩
  case lanes => rw [hvreg, vreg_setVreg_same, freeIf_defined hdef, lane_fromLanes _ hi]
  case fox => rw [hvreg, vreg_setVreg_same]

end

/-- An instruction that issues and whose value is not defined: the fox of vd is, and nothing but the thread is changed. -/
theorem exec_issue_foxes {s : State} {t : ThreadId} {c : Instr} {op : Nat} {fs : List CmpField} {f : Panel → Thread → Panel}
    {q : Panel} {fox : Bool} {v n : Nat} {vd : RegNo} (w : Nat → Nat) (hc : cmpCode c = some (op, fs)) (h : s.seen.canIssue t c)
    (hx : exec c s = .next (s.quiet fun p => p.cmpIssue t op fs f))
    (hf : f s.seen (s.seen.thread t) =
      (q.freeIf fox v n).2.modThread t fun g => (g.setVreg vd (w (q.freeIf fox v n).1) true).step)
    (hthreads : q.threads = s.p.threads) (hcsr : q.csr = s.p.csr) :
    ∃ u v, exec c s = .next u ∧ u.p.thread t = ((s.seen.thread t).setVreg vd v true).step ∧ u.p.csr = s.p.csr ∧ u.mem = s.mem := by
  obtain ⟨u, hu⟩ := exec_issue_thread hc h hx hf ((freeIf_threads ..).trans hthreads) ((freeIf_csr ..).trans hcsr)
  exact ⟨u, _, hu⟩

/-- A conversion counts its squashed lanes and changes nothing else (R154, R167). -/
theorem countSquash_threads_csr (p : Panel) (t : ThreadId) (src dst n a : Nat) :
    (p.countSquash t src dst n a).threads = p.threads ∧ (p.countSquash t src dst n a).csr = p.csr := by
  unfold Panel.countSquash
  split
  · exact ⟨tally_threads .., tally_csr ..⟩
  · exact ⟨rfl, rfl⟩

/-- The integer types are the types 0 and 1, of the types that VEXT takes (R141). -/
theorem laneFmt_isNone_iff {k : Nat} (hk : k ≤ 4) : (laneFmt k).isNone = true ↔ k ≤ 1 := by
  interval_cases k <;> decide

/-- The type of a VEXT that issues is one of the first five (R140, R141). -/
theorem vext_type_le {p : Panel} {t : ThreadId} {rd vs1 : RegNo} {ty : BitVec 3} {imm8 : BitVec 8}
    (h : p.canIssue t (.cmpVext t rd vs1 ty imm8)) : ty.toNat ≤ 4 := by
  obtain ⟨his, hlegal⟩ := cmpIs_and_legal_of_canIssue (op := 0x33) rfl h
  simp only [cmpIs, List.all_cons, Bool.and_eq_true, decide_eq_true_eq] at his
  obtain ⟨hop, -, -, hty, -⟩ := his
  simp only [cmpLegal, vectorLegal, hop, hty] at hlegal
  simp at hlegal
  exact hlegal.2.1

/-- Settles O21: a value that rounds is defined unless its source is foxed, and every other effect is the thread's alone. -/
theorem vectorResults : Obligations.VectorResults := by
  constructor
  case left =>
    intro s t vd vs1 vs2 ty op
    exact ⟨exec_lanes (fun k _ a b => laneAdd k a b) rfl rfl, exec_lanes (fun k _ a b => laneSub k a b) rfl rfl,
      exec_lanes (fun k _ a b => laneMax k a b) rfl rfl, exec_lanes (fun _ d a b => if d ≠ 0 then a else b) rfl rfl,
      exec_lanes (fun k _ a b => if laneCmp k op.toNat a b then 2 ^ laneBits k - 1 else 0) rfl rfl,
      exec_lanes (fun k _ a b => laneMul k a b) rfl rfl, exec_lanes (fun k d a b => laneFma k d a b) rfl rfl⟩
  case right =>
    intro s t vd vs1 vs2 ty imm8
    refine ⟨fun hfox h => exec_of_issue rfl h rfl ?cvt, fun hfox h => ?cvtFoxed, fun hdef h => exec_of_issue rfl h rfl ?red,
      fun hfox h => ?redFoxed, fun h => exec_of_issue rfl h rfl rfl,
      fun rs1 => ⟨fun hfox h => exec_of_issue rfl h rfl ?spl, fun hfox h => ?splFoxed⟩,
      fun rd h => exec_of_issue rfl h rfl ?ext⟩
    case cvt => simp only [hfox, freeIf_false]
    case cvtFoxed =>
      obtain ⟨hthreads, hcsr⟩ := countSquash_threads_csr s.seen t ty.toNat (imm8.toNat % 8)
        (min (laneCount ty.toNat) (laneCount (imm8.toNat % 8))) ((s.seen.thread t).vreg vs1).1
      exact exec_issue_foxes (· % 2 ^ (min (laneCount ty.toNat) (laneCount (imm8.toNat % 8)) * laneBits (imm8.toNat % 8)))
        (fox := true) rfl h rfl (by simp only [hfox]; rfl) hthreads hcsr
    case red =>
      have hdef' : (((s.seen.thread t).vreg vs1).2 && (laneFmt ty.toNat).isSome) = false := by
        rcases hdef with hfox | hint
        · rw [hfox, Bool.false_and]
        · rw [hint, Option.isSome_none, Bool.and_false]
      simp only [hdef', freeIf_false]
    case redFoxed =>
      exact exec_issue_foxes id (q := s.seen) (fox := true && (laneFmt ty.toNat).isSome) rfl h rfl (by simp only [hfox]; rfl) rfl rfl
    case spl => simp only [hfox, freeIf_false]
    case splFoxed =>
      exact exec_issue_foxes (fun x => fromLanes (laneBits ty.toNat) (List.replicate (laneCount ty.toNat) x)) (q := s.seen) (fox := true)
        rfl h rfl (by simp only [hfox]; rfl) rfl rfl
    case ext => simp only [laneFmt_isNone_iff (vext_type_le h), laneSigned]

end Sys2Proof.Proofs
end

section
/-! SUPPORT. Sync counters, watches and their messages (R126 to R132). -/

namespace Sys2Proof.Proofs

open Sys2Proof.Machine Sys2Proof.Laws

/-! ### A die that no stalled line keeps -/

section
variable {p : Panel} {site : Nat} (f : Panel → Panel)

theorem unlessFrozen_frozen (h : p.frozen site = true) : p.unlessFrozen site f = p := if_pos h

theorem unlessFrozen_runs (h : p.frozen site = false) : p.unlessFrozen site f = f p := if_neg (ne_true_of_eq_false h)

end

/-! ### Answers to watches -/

/-- A register field that the answers to watches leave (R131, R132). -/
abbrev BesideAnswers (g : Fld) : Prop :=
  Separate Csr.STK_SYNC_WSTATE_PENDING g ∧ Separate Csr.STK_SYNC_WSTATE_READY g ∧ Separate Csr.STK_SEQ_LAST_ARR g

theorem counter_besideAnswers {idx : Nat} (h : idx < 256) : BesideAnswers (Csr.STK_SYNC_CTR idx) := by
  unfold BesideAnswers Separate WordsApart Fld.place Csr.STK_SYNC_CTR Csr.STK_SYNC_WSTATE_PENDING Csr.STK_SYNC_WSTATE_READY
    Csr.STK_SEQ_LAST_ARR
  simp only
  omega

theorem cursor_besideAnswers {idx : Nat} (h : idx < 256) : BesideAnswers (Csr.STK_SYNC_CUR idx) := by
  unfold BesideAnswers Separate WordsApart Fld.place Csr.STK_SYNC_CUR Csr.STK_SYNC_WSTATE_PENDING Csr.STK_SYNC_WSTATE_READY
    Csr.STK_SEQ_LAST_ARR
  simp only
  omega

theorem cursor_separate_counter {idx : Nat} (h : idx < 256) : Separate (Csr.STK_SYNC_CUR idx) (Csr.STK_SYNC_CTR idx) := by
  unfold Separate WordsApart Fld.place Csr.STK_SYNC_CUR Csr.STK_SYNC_CTR
  simp only
  omega

section
variable (p : Panel) (home : Nat)

@[simp] theorem send_csr (m : NetMsg) : (p.send m).csr = p.csr := rfl

@[simp] theorem send_field (m : NetMsg) (x : Nat) (g : Fld) :
    (p.send m).field x g = p.field x g := field_of_csr (send_csr p m) x g

theorem slotReady_pending {w : Nat} (hpending : bitOf (p.field home Csr.STK_SYNC_WSTATE_PENDING) w = true) :
    p.slotReady home w =
      (p.setField home Csr.STK_SYNC_WSTATE_PENDING (putBits (p.field home Csr.STK_SYNC_WSTATE_PENDING) w 1 0)).setField home
        Csr.STK_SYNC_WSTATE_READY (putBits ((p.setField home Csr.STK_SYNC_WSTATE_PENDING
          (putBits (p.field home Csr.STK_SYNC_WSTATE_PENDING) w 1 0)).field home Csr.STK_SYNC_WSTATE_READY) w 1 1) := if_pos hpending

theorem slotReady_watches (w : Nat) : (p.slotReady home w).watches = p.watches := by
  unfold Panel.slotReady
  exact ite_keeps _ (by simp)

theorem answer_watches (w : Watch) : (p.answer home w).watches = p.watches := by
  unfold Panel.answer
  split
  · exact slotReady_watches ..
  · rfl

theorem watchesOf_of_watches {p q : Panel} (h : q.watches = p.watches) (home : Nat) : q.watchesOf home = p.watchesOf home :=
  congrArg (fun l => SMap.get (fun _ => []) l home) h

/-- Answering the watches of a counter leaves those that it has not reached (R131). -/
theorem answerWatches_watchesOf (idx : Nat) : (p.answerWatches home idx).1.watchesOf home =
    (p.watchesOf home).filter fun w => !(w.idx = idx && reached (p.field home (Csr.STK_SYNC_CTR idx)) w.target) := by
  unfold Panel.answerWatches Panel.watchesOf
  simp only
  rw [each_keeps (·.watches) _ fun p w _ => answer_watches p home w]
  exact smap_get_set_same ..

section
variable {g : Fld} (hg : BesideAnswers g)
include hg

theorem slotReady_field (w : Nat) : (p.slotReady home w).field home g = p.field home g := by
  obtain ⟨hpending, hready, -⟩ := hg
  unfold Panel.slotReady
  refine ite_keeps (·.field home g) ?_
  rw [field_setField_separate hready, field_setField_separate hpending]

theorem answer_field (w : Watch) : (p.answer home w).field home g = p.field home g := by
  unfold Panel.answer
  split
  · exact slotReady_field p home hg _
  · exact send_field ..

theorem answerWatches_field (idx : Nat) : (p.answerWatches home idx).1.field home g = p.field home g :=
  (each_keeps (·.field home g) _ (fun p w _ => answer_field p home hg w) _).trans (setWatches_field ..)

end

end

/-! ### Adds and sets -/

section
variable {p : Panel} {home idx : Nat}

theorem addCounter_unallocated (h : p.counterRegion home idx = none) (delta issuer : Nat) :
    p.addCounter home idx delta issuer = p := if_pos (by rw [h]; rfl)

theorem sset_unallocated (h : p.counterRegion home idx = none) (v : Nat) : p.sset home idx v = p := if_pos (by rw [h]; rfl)

/-- The notice of a last arrival leaves the watches and the fields that the answers leave (R132). -/
theorem addCounter_eq_answered (h : (p.counterRegion home idx).isSome = true) (delta issuer : Nat) {g : Fld} (hg : BesideAnswers g) :
    let q := p.setField home (Csr.STK_SYNC_CTR idx) (p.field home (Csr.STK_SYNC_CTR idx) + delta)
    (p.addCounter home idx delta issuer).field home g = (q.answerWatches home idx).1.field home g
      ∧ (p.addCounter home idx delta issuer).watches = (q.answerWatches home idx).1.watches := by
  have hsome : ¬ (p.counterRegion home idx).isNone = true := by rw [← Option.not_isSome, h]; decide
  unfold Panel.addCounter
  rw [if_neg hsome]
  simp only
  split
  · exact ⟨rfl, rfl⟩
  split
  · exact ⟨rfl, rfl⟩
  split
  · exact ⟨field_setField_separate hg.2.2 .., count_watches ..⟩
  · exact ⟨send_field .., rfl⟩

variable (h : (p.counterRegion home idx).isSome = true) (hidx : idx < 256)
include h hidx

/-- An add to an allocated counter gives it the sum, and the watches that it then has not reached stay (R129, R131). -/
theorem addCounter_allocated (delta issuer : Nat) :
    (p.addCounter home idx delta issuer).field home (Csr.STK_SYNC_CTR idx) =
        (p.field home (Csr.STK_SYNC_CTR idx) + delta) % 2 ^ 32
      ∧ (p.addCounter home idx delta issuer).watchesOf home = (p.watchesOf home).filter fun w =>
        !(w.idx = idx && reached ((p.field home (Csr.STK_SYNC_CTR idx) + delta) % 2 ^ 32) w.target) := by
  have hg := counter_besideAnswers hidx
  obtain ⟨hfield, hwatches⟩ := addCounter_eq_answered h delta issuer hg
  have hvalue (v : Nat) : (p.setField home (Csr.STK_SYNC_CTR idx) v).field home (Csr.STK_SYNC_CTR idx) = v % 2 ^ 32 :=
    field_setField_same _ _ _ _ hg.1.1.2
  constructor
  · rw [hfield, answerWatches_field _ _ hg, hvalue]
  · rw [watchesOf_of_watches hwatches, answerWatches_watchesOf, hvalue, watchesOf_of_watches (setField_watches ..)]

/-- A set gives an allocated counter and its cursor the value, and the watches that it has not reached stay (R129, R131). -/
theorem sset_allocated (v : Nat) :
    (p.sset home idx v).field home (Csr.STK_SYNC_CTR idx) = v % 2 ^ 32
      ∧ (p.sset home idx v).field home (Csr.STK_SYNC_CUR idx) = v % 2 ^ 32
      ∧ (p.sset home idx v).watchesOf home = (p.watchesOf home).filter fun w => !(w.idx = idx && reached (v % 2 ^ 32) w.target) := by
  have hctr := counter_besideAnswers hidx
  have hcur := cursor_besideAnswers hidx
  have hsome : ¬ (p.counterRegion home idx).isNone = true := by rw [← Option.not_isSome, h]; decide
  have hvalue : ((p.setField home (Csr.STK_SYNC_CTR idx) v).setField home (Csr.STK_SYNC_CUR idx) v).field home (Csr.STK_SYNC_CTR idx)
      = v % 2 ^ 32 :=
    (field_setField_separate (cursor_separate_counter hidx) ..).trans (field_setField_same _ _ _ _ hctr.1.1.2)
  unfold Panel.sset
  rw [if_neg hsome]
  refine ⟨?_, ?_, ?_⟩
  · rw [answerWatches_field _ _ hctr, hvalue]
  · rw [answerWatches_field _ _ hcur]
    exact field_setField_same _ _ _ _ hcur.1.1.2
  · rw [answerWatches_watchesOf, hvalue, watchesOf_of_watches ((setField_watches ..).trans (setField_watches ..))]

end

/-! ### Watches that arrive -/

section
variable {p : Panel} {home idx target waiter slot : Nat}

theorem watchArrives_refused (hhome : p.homeOk home idx waiter = false) :
    p.watchArrives home idx target waiter slot = p.refuseHome home waiter := if_pos (by rw [hhome]; rfl)

variable (hhome : p.homeOk home idx waiter = true)
include hhome

theorem watchArrives_reached (hreached : reached (p.field home (Csr.STK_SYNC_CTR idx)) target = true) :
    p.watchArrives home idx target waiter slot = p.answer home ⟨idx, target, waiter, slot⟩ :=
  (if_neg (by rw [hhome]; decide)).trans (if_pos hreached)

variable (hreached : reached (p.field home (Csr.STK_SYNC_CTR idx)) target = false)
include hreached

theorem watchArrives_full (hfull : 64 ≤ (p.watchesOf home).length) :
    p.watchArrives home idx target waiter slot = p.raise waiter 0x022A :=
  (if_neg (by rw [hhome]; decide)).trans ((if_neg (ne_true_of_eq_false hreached)).trans (if_pos hfull))

theorem watchArrives_registered (hroom : (p.watchesOf home).length < 64) :
    p.watchArrives home idx target waiter slot = p.setWatches home (p.watchesOf home ++ [⟨idx, target, waiter, slot⟩]) :=
  (if_neg (by rw [hhome]; decide)).trans ((if_neg (ne_true_of_eq_false hreached)).trans (if_neg (Nat.not_le.2 hroom)))

end

/-- Settles O15: each command is its own operation on a die that no stalled line keeps, or on the home that the message names. -/
theorem syncCounterCommands : Obligations.SyncCounterCommands := by
  constructor
  case left =>
    intro s site idx home n left
    have runs {c : Instr} {f g : Panel → Panel} (hc : exec c s = .next (s.quiet fun p => p.unlessFrozen site f))
        (hrun : s.seen.frozen site = false) (h : f s.seen = g s.seen) : exec c s = .next (s.quiet g) :=
      exec_quiet hc ((unlessFrozen_runs f hrun).trans h)
    refine ⟨fun hfrozen => ⟨exec_quiet rfl (unlessFrozen_frozen _ hfrozen), exec_quiet rfl (unlessFrozen_frozen _ hfrozen)⟩,
      fun hrun hhome hnone => runs rfl hrun ((if_pos hhome).trans ?_), fun hrun hhome hsome hidx => ?_,
      fun hrun hhome => runs rfl hrun (if_neg hhome), fun hrun hnone => runs rfl hrun (sset_unallocated hnone n),
      fun hrun hsome hidx => ?_, fun src hok => exec_quiet rfl (if_pos hok),
      fun src hok => exec_quiet rfl (if_neg (ne_true_of_eq_false hok))⟩
    · exact addCounter_unallocated hnone n site
    · obtain ⟨hvalue, hwatches⟩ := addCounter_allocated hsome hidx n site
      rw [seen_field] at hvalue hwatches
      exact ⟨_, runs (g := fun p => p.addCounter site idx n site) rfl hrun (if_pos hhome),
        (quiet_field ..).trans hvalue, hwatches, rfl, rfl⟩
    · obtain ⟨hvalue, hcursor, hwatches⟩ := sset_allocated hsome hidx n
      exact ⟨_, runs (g := fun p => p.sset site idx n) rfl hrun rfl, (quiet_field ..).trans hvalue, (quiet_field ..).trans hcursor,
        hwatches, rfl, rfl⟩
  case right =>
    intro s site idx home slot target abs
    have runs {c : Instr} {f g : Panel → Panel} (hc : exec c s = .next (s.quiet fun p => p.unlessFrozen site f))
        (hrun : s.seen.frozen site = false) (h : f s.seen = g s.seen) : exec c s = .next (s.quiet g) :=
      exec_quiet hc ((unlessFrozen_runs f hrun).trans h)
    refine ⟨fun hfrozen => exec_quiet rfl (unlessFrozen_frozen _ hfrozen), fun hrun hbusy => runs rfl hrun (if_pos ?busy),
      fun hrun hpending hready => ?free, ⟨fun hok => ?_, fun hok hreached hother => ?_, fun hok hreached hself => ?_,
        fun hok hreached hfull => ?_, fun hok hreached hroom => ?_⟩, fun hpending => ?_, exec_quiet rfl ?_⟩
    case busy => exact Bool.or_eq_true_iff.2 hbusy
    case free =>
      have hfree : ¬ (bitOf (s.seen.field site Csr.STK_SYNC_WSTATE_PENDING) slot
          || bitOf (s.seen.field site Csr.STK_SYNC_WSTATE_READY) slot) = true := by rw [hpending, hready]; decide
      exact ⟨fun hother => runs rfl hrun ((if_neg hfree).trans (if_neg hother)), fun hself =>
        runs rfl hrun ((if_neg hfree).trans (if_pos hself))⟩
    · exact exec_quiet rfl (watchArrives_refused hok)
    · exact exec_quiet rfl ((watchArrives_reached hok hreached).trans (if_neg hother))
    · exact exec_quiet rfl ((watchArrives_reached hok hreached).trans ((if_pos hself).trans (by rw [hself])))
    · exact exec_quiet rfl (watchArrives_full hok hreached hfull)
    · exact exec_quiet rfl (watchArrives_registered hok hreached hroom)
    · exact exec_quiet rfl (slotReady_pending _ _ hpending)
    · rfl

end Sys2Proof.Proofs
end

section
/-! SUPPORT. The position to which a loop goes back: the record after its begin marker, not the marker (R118). -/

namespace Sys2Proof.Proofs

open Sys2Proof.Machine Sys2Proof.Laws

/-- A die whose sequencer runs and whose next record, the first of half 0, is a loop begin of depth 0 and count 1. -/
def loopBeginNext : State :=
  { pending := [], mem := {}, p := { csr := [(17, 1#32), (262144, 2147483649#32)] } }

theorem loopBeginNext_runs : loopBeginNext.seen.seqRuns 0 = true := by decide

theorem loopBeginNext_record : loopBeginNext.seen.nextRecord 0 = .loopBegin 0 1 := by decide

/-- The loops open on die 0 after a command. -/
def loopsAfter (o : Host.Outcome State Fault Refusal) : List (Nat × Nat × Nat) :=
  match o with
  | .next t => (t.p.seq 0).loops
  | _ => []

theorem loopsAfter_loopBegin : loopsAfter (exec (.loopBegin 0) loopBeginNext) = [(1, 0, 1)] := by decide

/-- Refutes O42: LOOP_BEGIN opens its loop with the position of the record after the marker, as R118 has it, and the statement with the
position of the marker itself. On a die whose next record is the loop begin at position 0, the loop goes back to 1, not to 0. -/
theorem not_recordsIssue : ¬ Obligations.RecordsIssue := by
  intro h
  obtain ⟨hrecords, -⟩ := h
  obtain ⟨-, hruns, -⟩ := hrecords loopBeginNext 0 0
  obtain ⟨-, -, -, hbegin, -⟩ := hruns loopBeginNext_runs
  obtain ⟨-, hopens⟩ := hbegin 0 1 loopBeginNext_record
  have hloops : loopsAfter (exec (.loopBegin 0) loopBeginNext) = [(0, 0, 1)] :=
    (congrArg loopsAfter (hopens rfl Nat.one_ne_zero)).trans (by decide)
  rw [loopsAfter_loopBegin] at hloops
  exact absurd hloops (by decide)

end Sys2Proof.Proofs
end

section
/-! SUPPORT. The line that holds one slot: its words, its one operation, and the outcomes of its issue (R111 to R113, R125, R133,
R414). -/

namespace Sys2Proof.Proofs

open Sys2Proof.Machine Sys2Proof.Laws

/-! ### The words of the line -/

theorem slotOp_slotWordOf {op : Nat} (hop : op < 64) (w : BitVec 58) : slotOp (slotWordOf op w) = op := by
  have hw : w.toNat < 2 ^ 58 := w.isLt
  unfold slotOp bitsOf slotWordOf
  omega

/-- The word of an XIMM (R125): opcode 1, the slot that it serves and its VALUE. -/
theorem ximm_fields {k : Nat} (hk : k < 16) (v : BitVec 54) :
    slotOp (2 ^ 58 + k * 2 ^ 54 + v.toNat) = 1 ∧ bitsOf (2 ^ 58 + k * 2 ^ 54 + v.toNat) 54 4 = k
      ∧ bitsOf (2 ^ 58 + k * 2 ^ 54 + v.toNat) 0 54 = v.toNat := by
  have hv : v.toNat < 2 ^ 54 := v.isLt
  unfold slotOp bitsOf
  refine ⟨?_, ?_, ?_⟩ <;> omega

section
variable {k op : Nat} {w : BitVec 58} {x : Option (BitVec 54)}

theorem slotWord_oneSlot_same : slotWord (oneSlot k op w x) k = slotWordOf op w := by
  cases x <;> simp [oneSlot, slotWord]

theorem slotWord_oneSlot_other {j : Nat} (hj : j ≠ k) (hj15 : j ≠ 15) : slotWord (oneSlot k op w x) j = 0 := by
  cases x <;> simp [oneSlot, slotWord, Ne.symm hj, Ne.symm hj15]

theorem slotWord_oneSlot_noXimm (hk : k ≠ 15) : slotWord (oneSlot k op w none) 15 = 0 := by simp [oneSlot, slotWord, hk]

theorem slotWord_oneSlot_ximm (hk : k ≠ 15) (v : BitVec 54) :
    slotWord (oneSlot k op w (some v)) 15 = 2 ^ 58 + k * 2 ^ 54 + v.toNat := by simp [oneSlot, slotWord, hk]

section
variable (hk : k < 15)
include hk

/-- Slot 15 of the line holds nothing or an XIMM, and no MARK. -/
theorem slotOp_oneSlot_ximm : slotOp (slotWord (oneSlot k op w x) 15) ≠ 2 := by
  cases x with
  | none =>
    rw [slotWord_oneSlot_noXimm hk.ne]
    decide
  | some v =>
    rw [slotWord_oneSlot_ximm hk.ne, (ximm_fields (Nat.lt_succ_of_lt hk) v).1]
    decide

theorem ximmFor_oneSlot : ximmFor (oneSlot k op w x) k = x.map BitVec.toNat := by
  unfold ximmFor
  cases x with
  | none =>
    rw [slotWord_oneSlot_noXimm hk.ne]
    rfl
  | some v =>
    obtain ⟨hop, hslot, hvalue⟩ := ximm_fields (Nat.lt_succ_of_lt hk) v
    rw [slotWord_oneSlot_ximm hk.ne]
    simp only [hop, hslot, hvalue, decide_true, Bool.and_self, if_true, Option.map_some]

/-- No slot before the line's own is on a crossing end. -/
theorem crossingTaken_oneSlot : crossingTaken (oneSlot k op w x) k = false := by
  have hempty : ∀ j < k, crossingEnd j (slotWord (oneSlot k op w x) j) = none := by
    intro j hj
    rw [slotWord_oneSlot_other (by omega) (by omega)]
    exact if_neg (by simp [slotOp, bitsOf])
  unfold crossingTaken
  split
  · rfl
  · next y hy =>
    refine List.any_eq_false.2 fun j hj => ?_
    rw [hempty j (List.mem_range.1 hj)]
    simp

/-- The slot is the only one of the line that acts. -/
theorem slotOrder_oneSlot (hop0 : op ≠ 0) (hop : op < 64) :
    (slotOrder.filter fun j => slotOp (slotWord (oneSlot k op w x) j) ≠ 0) = [k] := by
  have hown : ∀ j ∈ slotOrder, decide (slotOp (slotWord (oneSlot k op w x) j) ≠ 0) = decide (j = k) := by
    intro j hj
    have hj15 : j ≠ 15 := fun h => absurd (h ▸ hj) (by decide)
    rcases eq_or_ne j k with rfl | hne
    · simp [slotWord_oneSlot_same, slotOp_slotWordOf hop, hop0]
    · simp [slotWord_oneSlot_other hne hj15, hne, slotOp, bitsOf]
  rw [List.filter_congr hown]
  exact (by decide : ∀ k < 15, slotOrder.filter (fun j => decide (j = k)) = [k]) k hk

/-- The line has one operation: the slot's, planned with the VALUE of its XIMM. -/
theorem slotOps_oneSlot (hop0 : op ≠ 0) (hop : op < 64) (p : Panel) (m : Mem) (site : Nat) :
    p.slotOps m site (oneSlot k op w x) =
      [(k, slotWordOf op w, p.planSlot m site k (slotWordOf op w) (x.map BitVec.toNat))] := by
  unfold Panel.slotOps
  rw [slotOrder_oneSlot hk hop0 hop]
  simp only [List.map_cons, List.map_nil, slotWord_oneSlot_same, ximmFor_oneSlot hk, crossingTaken_oneSlot hk, Bool.false_and,
    Bool.false_eq_true, if_false]

end

end

/-! ### The issue of a line of one operation -/

theorem markTrace_other {p : Panel} {site w : Nat} (h : slotOp w ≠ 2) : p.markTrace site w = p := if_neg (by simp [h])

theorem issueLine_malformed {p : Panel} {m : Mem} {site : Nat} {l : Line} (hbad : lineOk l = false) :
    p.issueLine m site l false 0 = p.seqFault site 0x0220 := if_pos (by rw [hbad]; rfl)

section
variable {p : Panel} {m : Mem} {site : Nat} {l : Line} (hline : lineOk l = true) {o : SlotOp} (hops : p.slotOps m site l = [o])
include hline hops

/-- An operation that fails its checks raises its code and does nothing else (R113). -/
theorem issueLine_refused (hmark : slotOp (slotWord l 15) ≠ 2) {code : Nat} (hcode : o.2.2.code = some code)
    (hhold : p.lineHold site [] false 0 = (0, []))
    (hallow : p.charge site + (p.seq site).tokens.sum ≤ p.field site Csr.DRW_TOK_ALLOW_EFFECTIVE) :
    p.issueLine m site l false 0 = p.raiseSlot site o.1 o.2.1 code := by
  have hgood : goodOps [o] = [] := by simp [goodOps, hcode]
  have hbad : ([o].filterMap fun o => o.2.2.code.map fun c => (o.1, o.2.1, c)) = [(o.1, o.2.1, code)] := by simp [hcode]
  have hroom : ¬ p.field site Csr.DRW_TOK_ALLOW_EFFECTIVE < p.charge site + newCharge [] + (p.seq site).tokens.sum :=
    Nat.not_lt.2 hallow
  unfold Panel.issueLine
  simp [hline, hops, hgood, hbad, hhold, hroom, Panel.lineWait, Panel.each, markTrace_other hmark]

variable (hcode : o.2.2.code = none)
include hcode

theorem issueLine_holds (hhold : (p.lineHold site [o] false 0).1 ≠ 0) : p.issueLine m site l false 0 =
    p.beginHold site l false (p.lineHold site [o] false 0).1 (p.lineHold site [o] false 0).2 := by
  have hgood : goodOps [o] = [o] := by simp [goodOps, hcode]
  unfold Panel.issueLine
  simp [hline, hops, hgood, hhold]

variable (hhold : (p.lineHold site [o] false 0).1 = 0)
include hhold

theorem issueLine_waits (hwait : p.slotWait site o.1 o.2.1 ≠ 0) :
    p.issueLine m site l false 0 = p.beginWait site l false (p.slotWait site o.1 o.2.1) := by
  have hgood : goodOps [o] = [o] := by simp [goodOps, hcode]
  unfold Panel.issueLine
  simp [hline, hops, hgood, hhold, Panel.lineWait, hwait]

variable (hwait : p.slotWait site o.1 o.2.1 = 0)
include hwait

theorem issueLine_overdraws
    (hover : p.field site Csr.DRW_TOK_ALLOW_EFFECTIVE < p.charge site + (p.seq site).tokens.sum + newCharge [o]) :
    p.issueLine m site l false 0 = p.overdraw site l false := by
  have hgood : goodOps [o] = [o] := by simp [goodOps, hcode]
  rw [Nat.add_right_comm] at hover
  unfold Panel.issueLine
  simp [hline, hops, hgood, hhold, Panel.lineWait, hwait, hover]

/-- An operation that nothing keeps acts, and nothing else happens. -/
theorem issueLine_acts (hmark : slotOp (slotWord l 15) ≠ 2)
    (hallow : p.charge site + (p.seq site).tokens.sum + newCharge [o] ≤ p.field site Csr.DRW_TOK_ALLOW_EFFECTIVE) :
    p.issueLine m site l false 0 = p.actSlot site o := by
  have hgood : goodOps [o] = [o] := by simp [goodOps, hcode]
  rw [Nat.add_right_comm] at hallow
  unfold Panel.issueLine
  simp [hline, hops, hgood, hcode, hhold, Panel.lineWait, hwait, Nat.not_lt.2 hallow, Panel.each, markTrace_other hmark]

end

end Sys2Proof.Proofs
end

section
/-! SUPPORT. The commands that are one slot operation of a line each come up for issue (R111, R113, R125, R133, R414). -/

namespace Sys2Proof.Proofs

open Sys2Proof.Machine Sys2Proof.Laws

/-- The operation that a command's slot plans on the panel that the command finds. -/
def State.plannedOp (s : State) (site k op : Nat) (w : BitVec 58) (x : Option (BitVec 54)) : SlotOp :=
  (k, slotWordOf op w, s.seen.planSlot s.mem site k (slotWordOf op w) (x.map BitVec.toNat))

section
variable {s : State} {c : Instr} {site k op : Nat} {w : BitVec 58} {x : Option (BitVec 54)}
  (hc : exec c s = s.slot site k op w x)
include hc

/-- A stalled sequencer takes no further line. -/
theorem exec_slot_stalled (hstall : (s.seen.seq site).stalled.isSome = true) : exec c s = .next (s.store fun _ p => p) :=
  exec_store hc (if_pos hstall)

section
variable (hrun : (s.seen.seq site).stalled.isSome = false)
include hrun

/-- A slot command on a die that no stalled line keeps issues its line. -/
theorem exec_slot_line {f : Mem → Panel → Panel} (h : s.seen.issueLine s.mem site (oneSlot k op w x) false 0 = f s.mem s.seen) :
    exec c s = .next (s.store f) := exec_store hc ((if_neg (ne_true_of_eq_false hrun)).trans h)

variable (hk : k < 15) (hop0 : op ≠ 0) (hop : op < 64) (hline : lineOk (oneSlot k op w x) = true)
include hk hop0 hop hline

theorem exec_slot_refused {code : Nat} (hcode : (State.plannedOp s site k op w x).2.2.code = some code)
    (hhold : s.seen.lineHold site [] false 0 = (0, []))
    (hallow : s.seen.charge site + (s.seen.seq site).tokens.sum ≤ s.seen.field site Csr.DRW_TOK_ALLOW_EFFECTIVE) :
    exec c s = .next (s.store fun _ p => p.raiseSlot site k (slotWordOf op w) code) :=
  exec_slot_line hc hrun
    (issueLine_refused (o := State.plannedOp s site k op w x) hline (slotOps_oneSlot hk hop0 hop ..)
      (slotOp_oneSlot_ximm hk) hcode hhold hallow)

section
variable (hcode : (State.plannedOp s site k op w x).2.2.code = none)
include hcode

theorem exec_slot_holds (hhold : (s.seen.lineHold site [State.plannedOp s site k op w x] false 0).1 ≠ 0) :
    exec c s = .next (s.store fun _ p => p.beginHold site (oneSlot k op w x) false
      (s.seen.lineHold site [State.plannedOp s site k op w x] false 0).1
      (s.seen.lineHold site [State.plannedOp s site k op w x] false 0).2) :=
  exec_slot_line hc hrun (issueLine_holds hline (slotOps_oneSlot hk hop0 hop ..) hcode hhold)

variable (hhold : (s.seen.lineHold site [State.plannedOp s site k op w x] false 0).1 = 0)
include hhold

theorem exec_slot_waits (hwait : s.seen.slotWait site k (slotWordOf op w) ≠ 0) : exec c s = .next (s.store fun _ p =>
    p.beginWait site (oneSlot k op w x) false (s.seen.slotWait site k (slotWordOf op w))) :=
  exec_slot_line hc hrun (issueLine_waits (o := State.plannedOp s site k op w x) hline (slotOps_oneSlot hk hop0 hop ..) hcode hhold hwait)

variable (hwait : s.seen.slotWait site k (slotWordOf op w) = 0)
include hwait

theorem exec_slot_overdraws (hover : s.seen.field site Csr.DRW_TOK_ALLOW_EFFECTIVE <
      s.seen.charge site + (s.seen.seq site).tokens.sum + newCharge [State.plannedOp s site k op w x]) :
    exec c s = .next (s.store fun _ p => p.overdraw site (oneSlot k op w x) false) :=
  exec_slot_line hc hrun (issueLine_overdraws (o := State.plannedOp s site k op w x) hline (slotOps_oneSlot hk hop0 hop ..)
    hcode hhold hwait hover)

theorem exec_slot_acts (hallow : s.seen.charge site + (s.seen.seq site).tokens.sum + newCharge [State.plannedOp s site k op w x] ≤
      s.seen.field site Csr.DRW_TOK_ALLOW_EFFECTIVE) :
    exec c s = .next (s.store fun _ p => p.actSlot site (State.plannedOp s site k op w x)) :=
  exec_slot_line hc hrun
    (issueLine_acts (o := State.plannedOp s site k op w x) hline (slotOps_oneSlot hk hop0 hop ..)
      hcode hhold hwait (slotOp_oneSlot_ximm hk) hallow)

end

end

/-- Every outcome of a slot command: stalled, malformed, refused, held, waiting, overdrawn or issued. -/
theorem exec_slot_outcomes (hk : k < 15) (hop0 : op ≠ 0) (hop : op < 64) :
    let o := State.plannedOp s site k op w x
    let l := oneSlot k op w x
    let allow := s.seen.field site Csr.DRW_TOK_ALLOW_EFFECTIVE
    let sum := s.seen.charge site + (s.seen.seq site).tokens.sum
    ((s.seen.seq site).stalled.isSome = true → exec c s = .next (s.store fun _ p => p))
    ∧ ((s.seen.seq site).stalled.isSome = false →
      (lineOk l = false → exec c s = .next (s.store fun _ p => p.seqFault site 0x0220))
      ∧ (lineOk l = true →
        (∀ code, o.2.2.code = some code → s.seen.lineHold site [] false 0 = (0, []) → sum ≤ allow →
          exec c s = .next (s.store fun _ p => p.raiseSlot site k (slotWordOf op w) code))
        ∧ (o.2.2.code = none →
          ((s.seen.lineHold site [o] false 0).1 ≠ 0 →
            exec c s = .next (s.store fun _ p =>
              p.beginHold site l false (s.seen.lineHold site [o] false 0).1 (s.seen.lineHold site [o] false 0).2))
          ∧ ((s.seen.lineHold site [o] false 0).1 = 0 →
            (s.seen.slotWait site k (slotWordOf op w) ≠ 0 → exec c s = .next (s.store fun _ p =>
              p.beginWait site l false (s.seen.slotWait site k (slotWordOf op w))))
            ∧ (s.seen.slotWait site k (slotWordOf op w) = 0 →
              (allow < sum + newCharge [o] → exec c s = .next (s.store fun _ p => p.overdraw site l false))
              ∧ (sum + newCharge [o] ≤ allow → exec c s = .next (s.store fun _ p => p.actSlot site o))))))) :=
  ⟨exec_slot_stalled hc, fun hrun => ⟨fun hbad => exec_slot_line hc hrun (issueLine_malformed hbad), fun hline =>
    ⟨fun _ hcode hhold hallow => exec_slot_refused hc hrun hk hop0 hop hline hcode hhold hallow, fun hcode =>
      ⟨exec_slot_holds hc hrun hk hop0 hop hline hcode, fun hhold =>
        ⟨exec_slot_waits hc hrun hk hop0 hop hline hcode hhold, fun hwait =>
          ⟨exec_slot_overdraws hc hrun hk hop0 hop hline hcode hhold hwait,
            exec_slot_acts hc hrun hk hop0 hop hline hcode hhold hwait⟩⟩⟩⟩⟩⟩

end

end Sys2Proof.Proofs
end

section
/-! SUPPORT. The operations of the sequencer, XIMM, MARK and the empty slot (R111, R112, R120, R124, R125, R128). -/

namespace Sys2Proof.Proofs

open Sys2Proof.Machine Sys2Proof.Laws

theorem seq_of_seqs {p q : Panel} (h : q.seqs = p.seqs) (site : Nat) : q.seq site = p.seq site :=
  congrArg (fun l => SMap.get (fun _ => ({} : Seq)) l site) h

/-! ### A line without operations -/

/-- A line whose slots 0 to 14 are empty has no operation. -/
theorem slotOps_empty {l : Line} (h : ∀ j < 15, slotWord l j = 0) (p : Panel) (m : Mem) (site : Nat) : p.slotOps m site l = [] := by
  have hnone : (slotOrder.filter fun k => slotOp (slotWord l k) ≠ 0) = [] := by
    refine List.filter_eq_nil_iff.2 fun j hj => ?_
    rw [h j ((by decide : ∀ k ∈ slotOrder, k < 15) j hj)]
    decide
  unfold Panel.slotOps
  rw [hnone, List.map_nil]

theorem slotWord_onlyXimm {j w : Nat} (hj : j < 15) : slotWord [(15, w)] j = 0 := by
  have hne : (15 : Nat) ≠ j := by omega
  simp [slotWord, hne]

section
variable {p : Panel} {m : Mem} {site : Nat} {l : Line} (hops : p.slotOps m site l = [])
include hops

/-- A line without operations holds, overdraws or else only marks. -/
theorem issueLine_noOps : p.issueLine m site l false 0 =
    if !lineOk l then p.seqFault site 0x0220
    else if (p.lineHold site [] false 0).1 ≠ 0 then
      p.beginHold site l false (p.lineHold site [] false 0).1 (p.lineHold site [] false 0).2
    else if p.field site Csr.DRW_TOK_ALLOW_EFFECTIVE < p.charge site + (p.seq site).tokens.sum then p.overdraw site l false
    else p.markTrace site (slotWord l 15) := by
  unfold Panel.issueLine
  simp [hops, goodOps, newCharge, Panel.lineWait, Panel.each]

end

/-! ### What the outcomes of such a line leave -/

@[simp] theorem seqFault_writes (p : Panel) (site code : Nat) : (p.seqFault site code).writes = p.writes := by
  simp [Panel.seqFault]

@[simp] theorem seqFault_net (p : Panel) (site code : Nat) : (p.seqFault site code).net = p.net := by simp [Panel.seqFault]

section
variable (p : Panel) (site : Nat) (l : Line) (record : Bool)

@[simp] theorem beginHold_writes (cause : Nat) (held : List Nat) : (p.beginHold site l record cause held).writes = p.writes := by
  simp [Panel.beginHold]

@[simp] theorem beginHold_net (cause : Nat) (held : List Nat) : (p.beginHold site l record cause held).net = p.net := by
  simp [Panel.beginHold]

@[simp] theorem periodsPass_writes (n : Nat) : (p.periodsPass site n).writes = p.writes := by
  unfold Panel.periodsPass
  simp only
  split <;> rfl

@[simp] theorem periodsPass_net (n : Nat) : (p.periodsPass site n).net = p.net := by
  unfold Panel.periodsPass
  simp only
  split <;> rfl

@[simp] theorem overdraw_writes : (p.overdraw site l record).writes = p.writes := by simp [Panel.overdraw]

@[simp] theorem overdraw_net : (p.overdraw site l record).net = p.net := by simp [Panel.overdraw]

end

/-- A line that holds an XIMM alone writes no memory and sends nothing, whatever comes of it (R112, R125). -/
theorem issueLine_onlyXimm (p : Panel) (m : Mem) (site : Nat) {slot : Nat} (hslot : slot < 16) (v : BitVec 54) :
    (p.issueLine m site [(15, 2 ^ 58 + slot * 2 ^ 54 + v.toNat)] false 0).writes = p.writes
      ∧ (p.issueLine m site [(15, 2 ^ 58 + slot * 2 ^ 54 + v.toNat)] false 0).net = p.net := by
  have hmark : slotOp (slotWord [(15, 2 ^ 58 + slot * 2 ^ 54 + v.toNat)] 15) ≠ 2 := by
    change slotOp (2 ^ 58 + slot * 2 ^ 54 + v.toNat) ≠ 2
    rw [(ximm_fields hslot v).1]
    decide
  rw [issueLine_noOps (slotOps_empty (fun _ hj => slotWord_onlyXimm hj) ..), markTrace_other hmark]
  split
  · exact ⟨seqFault_writes .., seqFault_net ..⟩
  split
  · exact ⟨beginHold_writes .., beginHold_net ..⟩
  split
  · exact ⟨overdraw_writes .., overdraw_net ..⟩
  · exact ⟨rfl, rfl⟩

/-! ### Operations without ranges -/

/-- An operation that registers no range, checks none and waits for nothing of its own does not hold a line. -/
theorem lineHold_silent {o : SlotOp} (hhold : o.2.2.hold = 0) (hby : o.2.2.holdBy = []) (hreqs : o.2.2.reqs = [])
    (hchecks : o.2.2.checks = []) (p : Panel) (site : Nat) (record : Bool) (late : Nat) :
    p.lineHold site [o] record late = p.lineHold site [] record late := by
  simp [Panel.lineHold, Panel.boardHold, hhold, hby, hreqs, hchecks]

/-- An operation without ranges registers nothing: it acts under its number. -/
theorem actSlot_silent {o : SlotOp} (hreqs : o.2.2.reqs = []) (p : Panel) (site : Nat) :
    p.actSlot site o = o.2.2.act (p.seq site).nextOp (p.modSeq site fun q => { q with nextOp := (p.seq site).nextOp + 1 }) := by
  unfold Panel.actSlot
  rw [hreqs]
  rfl

/-- The fields of a slot's word below its opcode. -/
theorem bitsOf_slotWordOf {l n : Nat} (h : l + n ≤ 58) (op : Nat) (w : BitVec 58) :
    bitsOf (slotWordOf op w) l n = bitsOf w.toNat l n := by
  have hop : op * 2 ^ 58 = 2 ^ l * (2 ^ n * (op * 2 ^ (58 - l - n))) := by
    rw [show 58 = l + (n + (58 - l - n)) by omega, Nat.pow_add, Nat.pow_add]
    simp only [Nat.add_sub_cancel_left]
    ring
  unfold bitsOf slotWordOf
  rw [hop, Nat.mul_add_div (Nat.two_pow_pos l), Nat.mul_add_mod]

theorem bitOf_slotWordOf {i : Nat} (h : i < 58) (op : Nat) (w : BitVec 58) : bitOf (slotWordOf op w) i = bitOf w.toNat i := by
  have hbit := bitsOf_slotWordOf (l := i) (n := 1) (by omega) op w
  unfold bitsOf at hbit
  unfold bitOf
  rw [Nat.pow_one] at hbit
  rw [hbit]

/-! ### The end of a stream -/

/-- What ENDS does: the stream has ended with its next entry, and issues no more (R124). -/
def endStream (p : Panel) (site w : Nat) : Panel :=
  (p.modSeq site fun q => { q with ended := true, nextEntry := bitsOf w 53 4,
                                   nextPos := if bitsOf w 57 1 = 1 then some (q.pos, q.half) else none }).setFlag site
    Csr.STK_SEQ_STATUS_ISSUING false

section
variable (p : Panel) (site w : Nat)

theorem endStream_isSet : (endStream p site w).isSet site Csr.STK_SEQ_STATUS_ISSUING = false :=
  isSet_setFlag_same _ _ _ _ (by unfold FldFits; decide) (by decide)

theorem endStream_seq : (endStream p site w).seq site =
    { p.seq site with ended := true, nextEntry := bitsOf w 53 4,
                      nextPos := if bitsOf w 57 1 = 1 then some ((p.seq site).pos, (p.seq site).half) else none } :=
  (seq_of_seqs (setFlag_seqs ..) site).trans (modSeq_same ..)

theorem endStream_writes : (endStream p site w).writes = p.writes := setFlag_writes ..

end

/-! ### The plans of the sequencer and of the sync slot -/

section
variable (p : Panel) (m : Mem) (site w : Nat) (x : Option Nat)

theorem planSlot_sequencer : p.planSlot m site 14 w x = p.planSequencer m site w := rfl

theorem planSlot_sync : p.planSlot m site 13 w x = p.planSync site w := rfl

/-- ENDS (R124) is refused inside an open loop, and else ends the stream. -/
theorem planSequencer_ends (hop : slotOp w = 1) : p.planSequencer m site w =
    if !(p.seq site).loops.isEmpty then .bad 0x0226 else { act := fun _ p => endStream p site w } := by
  unfold Panel.planSequencer
  simp only [hop]
  rfl

/-- JUMPP (R120): refused inside an open loop. -/
theorem planSequencer_jumpp_inLoop (hop : slotOp w = 4) (hloops : (p.seq site).loops ≠ []) :
    p.planSequencer m site w = .bad 0x0226 := by
  unfold Panel.planSequencer
  simp only [hop]
  exact if_pos (by simpa using hloops)

/-- SWAIT (R128) moves its cursor to the effective target. -/
theorem planSync_swait (hop : slotOp w = 3) : p.planSync site w =
    { act := fun _ q => q.setField site (Csr.STK_SYNC_CUR (bitsOf w 50 8))
        (effTarget (bitOf w 32) (p.field site (Csr.STK_SYNC_CUR (bitsOf w 50 8))) (bitsOf w 0 32)) } := by
  unfold Panel.planSync
  simp only [hop]

end

/-- A code of the line stream is raised with the record's position (spec/05). -/
theorem raiseSlot_seqFault (p : Panel) (site k w : Nat) {code : Nat} (h : 0x0220 ≤ code ∧ code < 0x0230) :
    p.raiseSlot site k w code = p.seqFault site code := if_pos (by simpa using h)

section
variable {s : State} {c : Instr} {site k op : Nat} {w : BitVec 58} {act : Nat → Panel → Panel}
  (hc : exec c s = s.slot site k op w none) (hrun : (s.seen.seq site).stalled.isSome = false)
  (hhold : s.seen.lineHold site [] false 0 = (0, []))
  (hallow : s.seen.charge site + (s.seen.seq site).tokens.sum ≤ s.seen.field site Csr.DRW_TOK_ALLOW_EFFECTIVE)
  (hk : k < 15) (hk8 : 8 ≤ k) (hop0 : op ≠ 0) (hop : op < 64) (hline : lineOk (oneSlot k op w none) = true)
include hc hrun hhold hallow hk hop0 hop hline

theorem exec_slot_fault {code : Nat} (hplan : s.seen.planSlot s.mem site k (slotWordOf op w) none = .bad code)
    (hcode : 0x0220 ≤ code ∧ code < 0x0230) : exec c s = .next (s.store fun _ p => p.seqFault site code) := by
  have hbad : (State.plannedOp s site k op w none).2.2.code = some code := congrArg OpPlan.code hplan
  rw [exec_slot_refused hc hrun hk hop0 hop hline hbad hhold hallow]
  exact congrArg _ (store_congr s (raiseSlot_seqFault _ _ _ _ hcode))

include hk8

/-- An operation that only acts, and waits for nothing, has its effect on the panel with the next operation number. -/
theorem exec_slot_effect (hplan : s.seen.planSlot s.mem site k (slotWordOf op w) none = { act := act })
    (hwait : s.seen.slotWait site k (slotWordOf op w) = 0) :
    exec c s = .next (s.store fun _ p => act (p.seq site).nextOp
      (p.modSeq site fun q => { q with nextOp := (s.seen.seq site).nextOp + 1 })) := by
  have ho : State.plannedOp s site k op w none = (k, slotWordOf op w, { act := act }) := by
    unfold State.plannedOp
    rw [← hplan]
    rfl
  have hcharge : newCharge [State.plannedOp s site k op w none] = 0 := by
    rw [ho]
    simp [newCharge, Nat.not_lt.2 hk8]
  have hsilent : (s.seen.lineHold site [State.plannedOp s site k op w none] false 0).1 = 0 := by
    rw [ho, lineHold_silent rfl rfl rfl rfl, hhold]
  rw [exec_slot_acts hc hrun hk hop0 hop hline (by rw [ho]) hsilent hwait (by rw [hcharge]; exact hallow)]
  refine congrArg _ (store_congr s ?_)
  rw [ho, actSlot_silent rfl]

end

theorem slotWait_sequencer (p : Panel) (site : Nat) {w : Nat} (hop : slotOp w ≠ 5) : p.slotWait site 14 w = 0 := by
  simp [Panel.slotWait, hop]

theorem slotWait_swait (p : Panel) (site : Nat) {w : Nat} (hpassed : p.syncPassed site w = true) : p.slotWait site 13 w = 0 := by
  simp [Panel.slotWait, hpassed]

/-- MARK's own line: no operation, and the word in slot 15. -/
theorem slotOps_mark (p : Panel) (m : Mem) (site : Nat) (w : BitVec 58) : p.slotOps m site (oneSlot 15 2 w none) = [] :=
  slotOps_empty (fun _ hj => slotWord_oneSlot_other (by omega) (by omega)) ..

/-- A line that writes no memory and sends nothing leaves memory and the fabric. -/
theorem store_issueLine_mem_net {s : State} {site : Nat} {l : Line}
    (h : (s.seen.issueLine s.mem site l false 0).writes = s.seen.writes ∧ (s.seen.issueLine s.mem site l false 0).net = s.seen.net) :
    let t := s.store fun m p => p.issueLine m site l false 0
    t.mem = s.mem ∧ t.p.net = s.p.net ∧ t.p.time = s.p.time := ⟨store_mem_of_writes _ _ h.1, h.2, rfl⟩

theorem exec_ximm {s : State} {site : Nat} (hrun : (s.seen.seq site).stalled.isSome = false) (slot : Nat) (v : BitVec 54) :
    exec (.ximm site slot v) s =
      .next (s.store fun m p => p.issueLine m site [(15, 2 ^ 58 + slot % 16 * 2 ^ 54 + v.toNat)] false 0) :=
  exec_store rfl (if_neg (ne_true_of_eq_false hrun))

/-- Settles O41: an operation that only acts has its effect, ENDS and JUMPP are refused inside a loop, and a line without operations
only marks. -/
theorem sequencerOperations : Obligations.SequencerOperations := by
  constructor
  case left =>
    intro s site w hrun hhold hallow
    have hends : slotOp (slotWordOf 1 w) = 1 := slotOp_slotWordOf (by decide) w
    have hjumpp : slotOp (slotWordOf 4 w) = 4 := slotOp_slotWordOf (by decide) w
    have hswait : slotOp (slotWordOf 3 w) = 3 := slotOp_slotWordOf (by decide) w
    refine ⟨fun hline hnone => ?ends, fun hline hloops => ?endsInLoop, fun hline hloops => ?jumppInLoop, fun hline hpassed => ?swait⟩
    case ends =>
      have hplan := (planSlot_sequencer s.seen s.mem site (slotWordOf 1 w) none).trans (planSequencer_ends _ _ _ _ hends)
      rw [if_neg (by simp [hnone])] at hplan
      refine ⟨_, exec_slot_effect rfl hrun hhold hallow (by decide) (by decide) (by decide) (by decide) hline hplan
        (slotWait_sequencer _ _ (by rw [hends]; decide)), (store_isSet ..).trans (endStream_isSet ..),
        congrArg Seq.ended (endStream_seq ..), (congrArg Seq.nextEntry (endStream_seq ..)).trans (bitsOf_slotWordOf (by decide) 1 w),
        store_mem_of_writes _ _ (endStream_writes ..), rfl⟩
    case endsInLoop =>
      have hplan := (planSlot_sequencer s.seen s.mem site (slotWordOf 1 w) none).trans (planSequencer_ends _ _ _ _ hends)
      rw [if_pos (by simpa using hloops)] at hplan
      exact exec_slot_fault rfl hrun hhold hallow (by decide) (by decide) (by decide) hline hplan (by decide)
    case jumppInLoop =>
      have hplan := (planSlot_sequencer s.seen s.mem site (slotWordOf 4 w) none).trans
        (planSequencer_jumpp_inLoop _ _ _ _ hjumpp hloops)
      exact exec_slot_fault rfl hrun hhold hallow (by decide) (by decide) (by decide) hline hplan (by decide)
    case swait =>
      have hplan := (planSlot_sync s.seen s.mem site (slotWordOf 3 w) none).trans (planSync_swait _ _ _ hswait)
      rw [bitsOf_slotWordOf (by decide), bitsOf_slotWordOf (by decide), bitOf_slotWordOf (by decide), seen_field] at hplan
      have hfits : FldFits (Csr.STK_SYNC_CUR (bitsOf w.toNat 50 8)) := (cursor_besideAnswers (bitsOf_lt ..)).1.1.2
      exact ⟨_, exec_slot_effect rfl hrun hhold hallow (by decide) (by decide) (by decide) (by decide) hline hplan
        (slotWait_swait _ _ hpassed), (store_field ..).trans (field_setField_same _ _ _ _ hfits),
        store_mem_of_writes _ _ (setField_writes ..), rfl⟩
  case right =>
    intro s site slot w v
    refine ⟨rfl, fun hstall => ⟨exec_store rfl (if_pos hstall), exec_slot_stalled rfl hstall⟩, fun hrun => ?ximm,
      fun hrun hline hhold hallow => ?mark⟩
    case ximm =>
      exact ⟨_, exec_ximm hrun slot v, store_issueLine_mem_net (issueLine_onlyXimm _ _ _ (Nat.mod_lt _ (by decide)) v)⟩
    case mark =>
      have hissue : s.seen.issueLine s.mem site (oneSlot 15 2 w none) false 0 = s.seen.markTrace site (slotWordOf 2 w) := by
        rw [issueLine_noOps (slotOps_mark ..), if_neg (by simp [hline]), if_neg (by simp [hhold]), if_neg (Nat.not_lt.2 hallow),
          slotWord_oneSlot_same]
      have hop : slotOp (slotWordOf 2 w) = 2 := slotOp_slotWordOf (by decide) w
      refine ⟨fun htrace => exec_slot_line rfl hrun (hissue.trans ?_), fun htrace => exec_slot_line rfl hrun (hissue.trans ?_)⟩
      · rw [← bitsOf_slotWordOf (l := 0) (n := 32) (by decide) 2 w]
        exact if_pos (by simp [hop, htrace])
      · exact if_neg (by simp [htrace])

end Sys2Proof.Proofs
end

section
/-! SUPPORT. What the bookkeeping of an operation leaves: its registers, counts, faults, scoreboard entries, marks, messages and free
values change neither engines, movers, slot 12, sequencers, threads, galleys, crossings nor power. -/

namespace Sys2Proof.Proofs

open Sys2Proof.Machine Sys2Proof.Laws

/-! ### Bookkeeping that writes no memory -/

/-- `q` differs from `p` at most in bookkeeping: registers, counts, tack, bring-up, marks, scoreboards, messages, free values drawn and
outputs. -/
def Beside (p q : Panel) : Prop :=
  ∃ csr tack boot contain boards tallies net injected fresh out,
    q = { p with csr := csr, tack := tack, boot := boot, contain := contain, boards := boards, tallies := tallies, net := net,
                 injected := injected, fresh := fresh, out := out }

theorem beside_refl (p : Panel) : Beside p p := ⟨_, _, _, _, _, _, _, _, _, _, rfl⟩

theorem beside_trans {p q r : Panel} (h : Beside p q) (h' : Beside q r) : Beside p r := by
  obtain ⟨_, _, _, _, _, _, _, _, _, _, rfl⟩ := h
  obtain ⟨_, _, _, _, _, _, _, _, _, _, rfl⟩ := h'
  exact ⟨_, _, _, _, _, _, _, _, _, _, rfl⟩

theorem beside_of_raised {p q : Panel} (h : Raised p q) : Beside p q := by
  obtain ⟨_, _, _, _, _, rfl⟩ := h
  exact ⟨_, _, _, _, _, _, _, _, _, _, rfl⟩

theorem beside_ite {c : Prop} [Decidable c] {p q r : Panel} (hq : Beside p q) (hr : Beside p r) : Beside p (if c then q else r) := by
  split
  · exact hq
  · exact hr

theorem beside_ite_snd {α : Type} {c : Prop} [Decidable c] {p : Panel} {x y : α × Panel} (hx : Beside p x.2) (hy : Beside p y.2) :
    Beside p (if c then x else y).2 := by
  split
  · exact hx
  · exact hy

theorem beside_each {α : Type} (l : List α) {f : Panel → α → Panel} (h : ∀ p x, Beside p (f p x)) (p : Panel) :
    Beside p (p.each l f) := by
  unfold Panel.each
  exact List.foldlRecOn (motive := Beside p) _ _ (beside_refl p) fun q hq x _ => beside_trans hq (h q x)

section
variable (p : Panel) (s : Nat)

theorem beside_setField (f : Fld) (v : Nat) : Beside p (p.setField s f v) := beside_of_raised (raised_setField ..)

theorem beside_setFlag (f : Fld) (b : Bool) : Beside p (p.setFlag s f b) := beside_of_raised (raised_setFlag ..)

theorem beside_setWords (o v n : Nat) : Beside p (p.setWords s o v n) := by
  rw [setWords_eq]
  exact ⟨_, _, _, _, _, _, _, _, _, _, rfl⟩

theorem beside_tally (f : Fld) (k : Nat) : Beside p (p.tally s f k) := by
  rw [tally_eq]
  exact ⟨_, _, _, _, _, _, _, _, _, _, rfl⟩

theorem beside_modContain (f : Contain → Contain) : Beside p (p.modContain f) := beside_of_raised (raised_modContain ..)

theorem beside_raise (code : Nat) : Beside p (p.raise s code) := beside_of_raised (raised_raise ..)

theorem beside_raiseAt (c code : Nat) : Beside p (p.raiseAt s c code) := beside_of_raised (raised_raiseAt ..)

theorem beside_raiseSev (c code : Nat) (sev : Severity) : Beside p (p.raiseSev s c code sev) := beside_of_raised (raised_raiseSev ..)

theorem beside_raiseIf (b : Bool) (code : Nat) : Beside p (p.raiseIf b s code) := beside_of_raised (raised_raiseIf ..)

theorem beside_openMark (m : Mark) : Beside p (p.openMark m) := beside_of_raised (raised_openMark ..)

theorem beside_send (m : NetMsg) : Beside p (p.send m) := ⟨_, _, _, _, _, _, _, _, _, _, rfl⟩

/-! ### The scoreboard -/

theorem beside_setBoard (c : Nat) (l : List SbEntry) : Beside p (p.setBoard s c l) := by
  have hboards : Beside p { p with boards := SMap.set (fun _ => []) p.boards (s * 4 + c) l } :=
    ⟨_, _, _, _, _, _, _, _, _, _, rfl⟩
  exact beside_trans hboards (beside_setField ..)

theorem beside_retire (id : Nat) : Beside p (p.retire s id) :=
  beside_each _ (fun p _ => beside_ite (beside_setBoard ..) (beside_refl p)) p

theorem beside_touch (c off n : Nat) : Beside p (p.touch s c off n) :=
  beside_trans (beside_modContain ..) (beside_each _ (fun _ _ => beside_setFlag ..) _)

theorem beside_register (id : Nat) (rs : List SbReq) : Beside p (p.register s id rs) :=
  beside_each _ (fun _ _ => beside_ite (beside_setBoard ..) (beside_trans (beside_setBoard ..) (beside_touch ..))) p

/-! ### Engines -/

theorem beside_engineStatus : Beside p (p.engineStatus s) := by
  unfold Panel.engineStatus
  simp only
  iterate 9 refine beside_trans ?_ (beside_setField ..)
  exact beside_setField ..

theorem beside_countDrain (c e : Nat) (vs : List RowVerdict) : Beside p (p.countDrain s c e vs) := by
  unfold Panel.countDrain
  simp only
  iterate 5 refine beside_trans ?_ (beside_tally ..)
  exact beside_tally ..

theorem beside_drainCodes (c e : Nat) (g : CheckCfg) (vs : List RowVerdict) : Beside p (p.drainCodes s c e g vs) := by
  have honce (p : Panel) (b : Bool) (code : Nat) (sev : Severity) : Beside p (if b then p.raiseSev s c code sev else p) :=
    beside_ite (beside_raiseSev ..) (beside_refl p)
  unfold Panel.drainCodes
  simp only
  iterate 7 refine beside_trans ?_ (honce ..)
  exact honce ..

theorem beside_suspectEntry (c e cycle first count cause : Nat) (inj : Bool) :
    Beside p (p.suspectEntry s c e cycle first count cause inj).2 := by
  unfold Panel.suspectEntry
  exact beside_ite_snd (beside_raise ..) (beside_trans (beside_setWords ..) (beside_setField ..))

/-! ### Entry marks and reprints -/

theorem beside_setReprint (slot : Nat) (r : Option Reprint) : Beside p (p.setReprint s slot r) :=
  beside_trans (beside_modContain ..) (beside_setWords ..)

theorem beside_claimNext (r : Reprint) : Beside p (p.claimNext r) := by
  unfold Panel.claimNext
  split
  · exact beside_trans (beside_setReprint ..) (beside_send ..)
  · exact beside_trans (beside_setReprint ..) (beside_raise ..)

theorem beside_startReprint (k : Mark) : Beside p (p.startReprint k) := by
  unfold Panel.startReprint
  refine beside_ite (beside_refl p) (beside_ite (beside_raise ..) ?_)
  split
  · exact beside_raise ..
  · exact beside_claimNext ..

theorem beside_entryMark (c e : Nat) (o : EngineOp) (checksum : Bool) (first : Nat) (load : Option Nat) (code : Nat) :
    Beside p (p.entryMark s c e o checksum first load code) := by
  unfold Panel.entryMark
  split
  · exact beside_refl p
  · exact beside_trans (beside_trans (beside_openMark ..) (beside_of_raised (raised_count ..))) (beside_startReprint ..)

theorem beside_raiseJus (code index cycle c : Nat) : Beside p (p.raiseJus s code index cycle c) :=
  beside_trans (beside_trans (beside_raiseAt ..) (beside_setField ..)) (beside_setField ..)

theorem beside_showCopy (c : Nat) : Beside p (p.showCopy s c) := beside_setField ..

end

section
variable {p q : Panel} (h : Beside p q)
include h

theorem beside_engines : q.engines = p.engines := by
  obtain ⟨_, _, _, _, _, _, _, _, _, _, rfl⟩ := h
  rfl

theorem beside_slot12 : q.slot12 = p.slot12 := by
  obtain ⟨_, _, _, _, _, _, _, _, _, _, rfl⟩ := h
  rfl

theorem beside_writes : q.writes = p.writes := by
  obtain ⟨_, _, _, _, _, _, _, _, _, _, rfl⟩ := h
  rfl

end

end Sys2Proof.Proofs
end

section
/-! SUPPORT. The completions of engine loads, streams, initial loads and slot 12 (R133, R175, R180, R202, R208, R222). -/

namespace Sys2Proof.Proofs

open Sys2Proof.Machine Sys2Proof.Laws

/-- An effect on a die that does nothing where it is not frozen does nothing at all. -/
theorem unlessFrozen_idle {p : Panel} {site : Nat} {f : Panel → Panel} (h : f p = p) : p.unlessFrozen site f = p := by
  unfold Panel.unlessFrozen
  rw [h, ite_self]

/-! ### Values stored at successive keys -/

section
variable {α β : Type} [DecidableEq β] (d : Nat → β) (f : α → β) (first : Nat)

/-- The map with the values of a list stored at successive keys. -/
def storeFrom (l : List (α × Nat)) (m : SMap β) : SMap β := l.foldl (fun m x => SMap.set d m (first + x.2) (f x.1)) m

theorem storeFrom_beside (l : List α) {n k : Nat} (m : SMap β) (h : k < first + n ∨ first + n + l.length ≤ k) :
    SMap.get d (storeFrom d f first (l.zipIdx n) m) k = SMap.get d m k := by
  induction l generalizing n m with
  | nil => rfl
  | cons x l ih =>
    rw [List.length_cons] at h
    have hne : k ≠ first + n := by omega
    exact (ih (n := n + 1) _ (by omega)).trans (smap_get_set_other _ _ _ hne)

theorem storeFrom_stored (l : List α) {n i : Nat} {x : α} (m : SMap β) (h : l[i]? = some x) :
    SMap.get d (storeFrom d f first (l.zipIdx n) m) (first + (n + i)) = f x := by
  induction l generalizing n i m with
  | nil => simp at h
  | cons y l ih =>
    cases i with
    | zero =>
      cases h
      exact (storeFrom_beside d f first l (n := n + 1) _ (by omega)).trans (smap_get_set_same ..)
    | succ i =>
      have hrest := ih (n := n + 1) (i := i) (SMap.set d m (first + n) (f y)) h
      rwa [show n + 1 + i = n + (i + 1) by omega] at hrest

end

/-! ### The engine after an operation -/

theorem engine_of_engines {p q : Panel} (h : q.engines = p.engines) (s c e : Nat) : q.engine s c e = p.engine s c e :=
  congrArg (fun l => SMap.get (fun _ => ({} : Engine)) l (s * 8 + 2 * c + e)) h

theorem beside_engine {p q : Panel} (h : Beside p q) (s c e : Nat) : q.engine s c e = p.engine s c e :=
  engine_of_engines (beside_engines h) s c e

section
variable (p : Panel) (s c e : Nat) (o : EngineOp)

/-- An operation that ends leaves its engine's operations, and nothing else of the engine (R180). -/
theorem endOp_engine : ((p.endOp s c e o).engineStatus s).engine s c e =
    { p.engine s c e with ops := (p.engine s c e).ops.filter fun q => q.id ≠ o.id } := by
  rw [beside_engine (beside_engineStatus ..)]
  unfold Panel.endOp
  rw [beside_engine (beside_retire ..), modEngine_same]

theorem endOp_writes : ((p.endOp s c e o).engineStatus s).writes = p.writes := by
  rw [beside_writes (beside_engineStatus ..)]
  unfold Panel.endOp
  rw [beside_writes (beside_retire ..), modEngine_writes]

end

/-- An engine after a load that passed: its bank is ready, and the load has left (R180, R204). -/
def bankLoaded (g : Engine) (o : EngineOp) : Engine :=
  { g with banks := setNth g.banks o.bank { g.bank o.bank with ready := true, loading := false },
           ops := g.ops.filter fun q => q.id ≠ o.id }

theorem bankReady_engine (p : Panel) (s c e : Nat) (o : EngineOp) :
    (p.bankReady s c e o).engine s c e = bankLoaded (p.engine s c e) o := by
  unfold Panel.bankReady
  simp only [endOp_engine, modEngine_same]
  rfl

theorem nth_setNth_same {α : Type} (l : List α) {i : Nat} (h : i < l.length) (v d : α) : nth (setNth l i v) i d = v := by
  simp [nth, setNth, h]

/-! ### Loads -/

section
variable {p : Panel} {s c : Nat} {o : EngineOp} (h : (p.engine s c 1).oldest .load = some o)
include h

theorem sloadReady_passed (hpass : ((p.engine s c 1).bank o.bank).failed = none) : p.sloadReady s c = p.bankReady s c 1 o := by
  unfold Panel.sloadReady
  simp only [h, hpass]

end

theorem sloadReady_none {p : Panel} {s c : Nat} (h : (p.engine s c 1).oldest .load = none) : p.sloadReady s c = p := by
  unfold Panel.sloadReady
  rw [h]

theorem metaFault_undisturbed : Undisturbed Csr.SPA_META_FAULT_RULE := by
  unfold Undisturbed FldFits
  decide

/-- The code of a metadata rule is the sparse engine's (R208). -/
theorem faultReg_metaRule {rule : Nat} (h : rule < 8) : faultReg (0x0500 + rule) = some Csr.SPA_FAULT := by
  interval_cases rule <;> rfl

/-- SPA_META_FAULT as an SLOAD that failed its checks leaves it (R208). -/
def metaFault (o : EngineOp) (f : MetaFail) (c : Nat) : Nat :=
  o.cycle % 2 ^ 32 + 2 ^ 32 * c + 2 ^ 34 * o.bank + 2 ^ 35 * (f.column % 256) + 2 ^ 43 * (f.group % 64)
    + 2 ^ 49 * f.rule + 2 ^ 52 * flag f.injected

theorem metaFault_rule {o : EngineOp} {f : MetaFail} {c : Nat} (hc : c < 4) (hbank : o.bank < 2) (hrule : f.rule < 8) :
    bitsOf (metaFault o f c / 2 ^ 32 % 2 ^ 32) 17 3 = f.rule := by
  unfold metaFault bitsOf
  omega

/-- The rule field is the upper word's, of the two that SPA_META_FAULT takes. -/
theorem setWords_metaFault_rule (p : Panel) (s v : Nat) :
    (p.setWords s Csr.SPA_META_FAULT_CYCLE.off v 2).field s Csr.SPA_META_FAULT_RULE = bitsOf (v / 2 ^ 32 % 2 ^ 32) 17 3 := by
  have hupper := words_setWords_same (p.setWord s 0xac010 (BitVec.ofNat 32 v)) s 0xac014 (v / 2 ^ 32) 1 (by decide) (by decide)
  exact congrArg (fun x => bitsOf x 17 3) hupper

/-- A failed SLOAD's rule stands in SPA_META_FAULT, and nothing is written (R208). -/
theorem sloadReady_failed {p : Panel} {s c : Nat} {o : EngineOp} {f : MetaFail} (h : (p.engine s c 1).oldest .load = some o)
    (hfail : ((p.engine s c 1).bank o.bank).failed = some f) (hrule : f.rule < 8) (hbank : o.bank < 2) (hc : c < 4) :
    (p.sloadReady s c).field s Csr.SPA_META_FAULT_RULE = f.rule := by
  unfold Panel.sloadReady
  simp only [h, hfail]
  rw [modContain_field]
  unfold Panel.raiseAt
  rw [raiseFor_field_undisturbed _ _ _ _ _ _ _ _ (faultReg_metaRule hrule) metaFault_undisturbed (by decide) fun _ => regionOf_lt,
    field_of_csr (tally_csr ..), setWords_metaFault_rule]
  exact metaFault_rule hc hbank hrule

/-! ### Rows that become valid -/

/-- The engine of a stream or an initial load that is done: its rows stand from its first row on, and it has left (R180). -/
def rowsDone (g : Engine) (o : EngineOp) (parity : Bool) : Engine :=
  { g with rows := storeFrom (fun _ => {}) (fun r => { r with wpar := r.wpar || parity }) o.row o.rows.zipIdx g.rows,
           ops := g.ops.filter fun q => q.id ≠ o.id }

section
variable (g : Engine) (o : EngineOp) (parity : Bool)

theorem rowsDone_stored {i : Nat} {x : Row} (h : o.rows[i]? = some x) :
    SMap.get (fun _ => {}) (rowsDone g o parity).rows (o.row + i) = { x with wpar := x.wpar || parity } := by
  have hstored := storeFrom_stored (fun _ => ({} : Row)) (fun r => { r with wpar := r.wpar || parity }) o.row o.rows (n := 0) g.rows h
  rwa [Nat.zero_add] at hstored

theorem rowsDone_beside {k : Nat} (h : k < o.row ∨ o.row + o.rows.length ≤ k) :
    SMap.get (fun _ => {}) (rowsDone g o parity).rows k = SMap.get (fun _ => {}) g.rows k :=
  storeFrom_beside (fun _ => ({} : Row)) (fun r : Row => { r with wpar := r.wpar || parity }) o.row o.rows (n := 0) g.rows h

end

theorem streamDone_engine {p : Panel} {s c e : Nat} {o : EngineOp} (h : (p.engine s c e).oldest .stream = some o) (parity : Bool) :
    (p.streamDone s c e parity).engine s c e = rowsDone (p.engine s c e) o parity := by
  unfold Panel.streamDone
  simp only [h, endOp_engine, modEngine_same]
  rfl

theorem initDone_engine {p : Panel} {s c e : Nat} {o : EngineOp} (h : (p.engine s c e).oldest .init = some o) :
    (p.initDone s c e).engine s c e = rowsDone (p.engine s c e) o false := by
  unfold Panel.initDone
  simp only [h, endOp_engine, modEngine_same, rowsDone, Bool.or_false]
  rfl

theorem store_engine (s : State) (f : Mem → Panel → Panel) (x c e : Nat) :
    (s.store f).p.engine x c e = (f s.mem s.seen).engine x c e := rfl

theorem store_slot12Ops (s : State) (f : Mem → Panel → Panel) (x : Nat) :
    (s.store f).p.slot12Ops x = (f s.mem s.seen).slot12Ops x := rfl

/-- An effect that lists writes makes them, in their order. -/
theorem store_mem_apply (s : State) (f : Mem → Panel → Panel) {ws : List MemWrite}
    (h : (f s.mem s.seen).writes = s.seen.writes ++ ws) : (s.store f).mem = s.mem.apply ws := congrArg s.mem.apply h

theorem quiet_engine (s : State) (f : Panel → Panel) (x c e : Nat) : (s.quiet f).p.engine x c e = (f s.seen).engine x c e := rfl

theorem exec_bankLoaded {s : State} {c : Instr} {f : Panel → Panel} {site cl e : Nat} {o : EngineOp}
    (hx : exec c s = .next (s.quiet f)) (hf : (f s.seen).engine site cl e = bankLoaded (s.seen.engine site cl e) o)
    (hbank : o.bank < (s.seen.engine site cl e).banks.length) :
    ∃ t, exec c s = .next t
      ∧ ((t.p.engine site cl e).bank o.bank).ready = true ∧ ((t.p.engine site cl e).bank o.bank).loading = false
      ∧ (t.p.engine site cl e).rows = (s.seen.engine site cl e).rows
      ∧ (t.p.engine site cl e).ops = (s.seen.engine site cl e).ops.filter (fun q => q.id ≠ o.id)
      ∧ t.mem = s.mem ∧ t.pending = s.pending := by
  refine ⟨_, hx, ?_⟩
  rw [quiet_engine, hf]
  exact ⟨congrArg (·.ready) (nth_setNth_same _ hbank _ _), congrArg (·.loading) (nth_setNth_same _ hbank _ _), rfl, rfl, rfl, rfl⟩

/-- A command that leaves an engine so stores the rows of its operation and no other row, and writes no memory. -/
theorem exec_rowsDone {s : State} {c : Instr} {f : Panel → Panel} {site cl e : Nat} {o : EngineOp} {parity : Bool}
    (hx : exec c s = .next (s.quiet f)) (hf : (f s.seen).engine site cl e = rowsDone (s.seen.engine site cl e) o parity) :
    ∃ t, exec c s = .next t
      ∧ (∀ i x, o.rows[i]? = some x →
          SMap.get (fun _ => {}) (t.p.engine site cl e).rows (o.row + i) = { x with wpar := x.wpar || parity })
      ∧ (∀ k, k < o.row ∨ o.row + o.rows.length ≤ k →
          SMap.get (fun _ => {}) (t.p.engine site cl e).rows k = SMap.get (fun _ => {}) (s.seen.engine site cl e).rows k)
      ∧ (t.p.engine site cl e).banks = (s.seen.engine site cl e).banks
      ∧ (t.p.engine site cl e).ops = (s.seen.engine site cl e).ops.filter (fun q => q.id ≠ o.id)
      ∧ t.mem = s.mem ∧ t.p.time = s.p.time := by
  refine ⟨_, hx, ?_⟩
  rw [quiet_engine, hf]
  exact ⟨fun _ _ hi => rowsDone_stored _ _ _ hi, fun _ hk => rowsDone_beside _ _ _ hk, rfl, rfl, rfl, rfl⟩

/-! ### Slot 12 -/

theorem each_put_writes {α : Type} (w : α → MemWrite) (l : List α) (p : Panel) :
    (p.each l fun p x => p.put (w x)).writes = p.writes ++ l.map w := by
  induction l generalizing p with
  | nil => simp [Panel.each]
  | cons x l ih =>
    have hrest := ih (p.put (w x))
    rw [put_writes, List.append_assoc] at hrest
    exact hrest

theorem each_each_put_writes {α β : Type} (rows : α → List β) (w : α → β → MemWrite) (l : List α) (p : Panel) :
    (p.each l fun p x => p.each (rows x) fun p y => p.put (w x y)).writes = p.writes ++ l.flatMap fun x => (rows x).map (w x) := by
  induction l generalizing p with
  | nil => simp [Panel.each]
  | cons x l ih =>
    have hrest := ih (p.each (rows x) fun p y => p.put (w x y))
    rw [each_put_writes, List.append_assoc] at hrest
    exact hrest

theorem each_slot12 {α : Type} (l : List α) {f : Panel → α → Panel} (h : ∀ p x, (f p x).slot12 = p.slot12) (p : Panel) :
    (p.each l f).slot12 = p.slot12 := each_keeps (·.slot12) l (fun p x _ => h p x) p

theorem put_slot12 (p : Panel) (w : MemWrite) : (p.put w).slot12 = p.slot12 := rfl

theorem slot12Ops_of_slot12 {p q : Panel} (h : q.slot12 = p.slot12) (s : Nat) : q.slot12Ops s = p.slot12Ops s :=
  congrArg (fun l => SMap.get (fun _ => []) l s) h

/-- JUS_STATUS follows the operations under way; the operations are those stored. -/
theorem setSlot12_beside (p : Panel) (s : Nat) (l : List Slot12Op) :
    Beside { p with slot12 := SMap.set (fun _ => []) p.slot12 s l } (p.setSlot12 s l) := by
  unfold Panel.setSlot12
  simp only
  refine beside_trans ?_ (beside_setField ..)
  iterate 2 refine beside_trans ?_ (beside_setFlag ..)
  exact beside_setFlag ..

theorem setSlot12_same (p : Panel) (s : Nat) (l : List Slot12Op) : (p.setSlot12 s l).slot12Ops s = l :=
  (slot12Ops_of_slot12 (beside_slot12 (setSlot12_beside p s l)) s).trans (smap_get_set_same ..)

theorem setSlot12_writes (p : Panel) (s : Nat) (l : List Slot12Op) : (p.setSlot12 s l).writes = p.writes :=
  (beside_writes (setSlot12_beside p s l)).trans rfl

/-- What follows an operation of slot 12 that has left: its entries retire, it is counted and its codes are raised (R222). -/
theorem slot12_tail (p : Panel) (s : Nat) (o : Slot12Op) : Beside p
    (((((((((p.retire s o.id).tally s Csr.JUS_GATE_LAST_SERVED (nth o.counts 0 0)).tally s Csr.JUS_GATE_LAST_CARRIED
      (nth o.counts 1 0)).tally s Csr.JUS_GATE_LAST_RESIDUAL (nth o.counts 2 0)).tally s Csr.JUS_GATE_LAST_FOXED
      (nth o.counts 3 0)).tally s Csr.JUS_JUST_LAST_WRITTEN (nth o.counts 4 0)).tally s Csr.JUS_JUST_LAST_DROPPED
      (nth o.counts 5 0)).tally s Csr.JUS_MERGE_LAST (nth o.counts 6 0)).each o.codes fun p c =>
        p.raiseJus s c o.index o.cycle (o.ports.headD 0)) := by
  refine beside_trans ?_ (beside_each _ (fun _ _ => beside_raiseJus ..) _)
  iterate 7 refine beside_trans ?_ (beside_tally ..)
  exact beside_retire ..

/-- The operation of a unit that is done writes its rows in order and leaves slot 12 (R222). -/
theorem slot12Done_found {p : Panel} {s unit : Nat} {o : Slot12Op} (h : ((p.slot12Ops s).find? fun o => o.unit = unit) = some o) :
    (p.slot12Done s unit).writes = p.writes ++ (o.writes.flatMap fun x => x.2.2.zipIdx.map fun di =>
        { addr := sliceAddr s x.1 (64 * (x.2.1 + di.2)), data := di.1.data, fox := some di.1.fox })
      ∧ (p.slot12Done s unit).slot12Ops s = (p.slot12Ops s).filter fun q => q.id ≠ o.id := by
  unfold Panel.slot12Done
  simp only [h]
  constructor
  case left =>
    rw [beside_writes (slot12_tail ..), setSlot12_writes]
    exact each_each_put_writes _ _ _ _
  case right =>
    rw [slot12Ops_of_slot12 (beside_slot12 (slot12_tail ..)), setSlot12_same]
    rw [slot12Ops_of_slot12 (each_slot12 _ (fun p x => each_slot12 _ (fun p di => put_slot12 p _) p) p) s]

/-- Settles O24: a completion changes the oldest operation's bank, rows or list, and the rest is bookkeeping. -/
theorem engineCompletions : Obligations.EngineCompletions := by
  refine ⟨fun s site cl o e c hc => ⟨fun hrun hload hpass hbank => ?ready, fun hrun he hload f hfail hrule hbank hcl => ?failed,
    fun hidle => ?idle⟩, fun s site cl e o parity => ⟨fun hfrozen c hc => ?frozen, fun hrun hstream => ?stream,
    fun hrun hinit => ?init⟩, fun s site unit o => ⟨fun hfrozen => exec_store rfl (unlessFrozen_frozen _ hfrozen),
      fun hrun hfind => ?slot12⟩⟩
  case ready =>
    have hx : exec c s = .next (s.quiet fun p => p.bankReady site cl e o) := by
      rcases hc with ⟨rfl, rfl⟩ | ⟨rfl, rfl⟩
      · exact exec_quiet rfl ((unlessFrozen_runs _ hrun).trans (by simp only [hload]))
      · exact exec_quiet rfl ((unlessFrozen_runs _ hrun).trans (sloadReady_passed hload (hpass rfl)))
    exact exec_bankLoaded hx (bankReady_engine ..) hbank
  case failed =>
    obtain ⟨rfl, rfl⟩ : e = 1 ∧ c = .sloadReady site cl := by
      rcases hc with ⟨rfl, -⟩ | h
      · cases he
      · exact h
    exact ⟨_, exec_quiet (g := fun p => p.sloadReady site cl) rfl (unlessFrozen_runs _ hrun),
      (quiet_field ..).trans (sloadReady_failed hload hfail hrule hbank hcl), quiet_mem .., quiet_time ..⟩
  case idle =>
    rcases hc with ⟨rfl, rfl⟩ | ⟨rfl, rfl⟩ <;> rcases hidle with hnone | hfrozen
    · exact exec_quiet rfl (unlessFrozen_idle (by simp only [hnone]))
    · exact exec_quiet rfl (unlessFrozen_frozen _ hfrozen)
    · exact exec_quiet rfl (unlessFrozen_idle (sloadReady_none hnone))
    · exact exec_quiet rfl (unlessFrozen_frozen _ hfrozen)
  case frozen =>
    simp only [List.mem_cons, List.not_mem_nil, or_false] at hc
    rcases hc with rfl | rfl | rfl | rfl <;> exact exec_quiet rfl (unlessFrozen_frozen _ hfrozen)
  case stream =>
    constructor <;> rintro rfl
    · exact exec_rowsDone (exec_quiet (g := fun p => p.streamDone site cl 0 parity) rfl (unlessFrozen_runs _ hrun))
        (streamDone_engine hstream parity)
    · exact exec_rowsDone (exec_quiet (g := fun p => p.streamDone site cl 1 parity) rfl (unlessFrozen_runs _ hrun))
        (streamDone_engine hstream parity)
  case init =>
    constructor <;> rintro rfl
    · exact exec_rowsDone (exec_quiet (g := fun p => p.initDone site cl 0) rfl (unlessFrozen_runs _ hrun)) (initDone_engine hinit)
    · exact exec_rowsDone (exec_quiet (g := fun p => p.initDone site cl 1) rfl (unlessFrozen_runs _ hrun)) (initDone_engine hinit)
  case slot12 =>
    obtain ⟨hwrites, hops⟩ := slot12Done_found hfind
    exact ⟨_, exec_store (g := fun _ p => p.slot12Done site unit) rfl (unlessFrozen_runs _ hrun), store_mem_apply _ _ hwrites,
      (store_slot12Ops ..).trans hops, store_time .., store_pending ..⟩
end Sys2Proof.Proofs
end

section
/-! SUPPORT. A drain's completion (R133, R173, R202). -/

namespace Sys2Proof.Proofs

open Sys2Proof.Machine Sys2Proof.Laws

/-- A row with the bits that a fault of the array inverts in one of its values. -/
def upsetValue (r : Row) (u : Nat × Nat × Nat) : Row :=
  { r with vals := setNth r.vals u.2.1 (Nat.xor (nth r.vals u.2.1 0) u.2.2 % 2 ^ 32) }

/-- The rows of a drain as they are drained. -/
def drainedRows (o : EngineOp) (upset : List (Nat × Nat × Nat)) : List Row :=
  o.rows.zipIdx.map fun x => (upset.filter fun u => u.1 = x.2).foldl upsetValue x.1

/-- The writes of a drain: one for each row, 1,024 B apart (R173). -/
def drainWrites (s c : Nat) (o : EngineOp) (upset : List (Nat × Nat × Nat)) : List MemWrite :=
  (drainedRows o upset).zipIdx.map fun x =>
    { addr := sliceAddr s c (64 * o.addr + 1024 * x.2), data := x.1.image, fox := some x.1.fox }

theorem each_map {α β : Type} (g : α → β) (f : Panel → β → Panel) (l : List α) (p : Panel) :
    p.each (l.map g) f = p.each l fun p x => f p (g x) := List.foldl_map ..

theorem each_put_engines (l : List MemWrite) (p : Panel) : (p.each l Panel.put).engines = p.engines :=
  each_keeps (f := Panel.put) (·.engines) l (fun _ _ _ => rfl) p

/-- A drain writes its rows; what follows is bookkeeping, and the operation's end. -/
theorem drainDone_found {p : Panel} {s c e : Nat} {o : EngineOp} (h : (p.engine s c e).oldest .drain = some o)
    (upset : List (Nat × Nat × Nat)) : ∃ q, Beside (p.each (drainWrites s c o upset) Panel.put) q
      ∧ p.drainDone s c e upset = (q.endOp s c e o).engineStatus s := by
  unfold Panel.drainDone
  simp only [h]
  refine ⟨_, ?_, rfl⟩
  rw [drainWrites, each_map]
  refine beside_trans ?_ (beside_ite (beside_entryMark ..) (beside_refl _))
  refine beside_trans ?_ (beside_ite_snd (beside_refl _) (beside_suspectEntry ..))
  refine beside_trans ?_ (beside_drainCodes ..)
  refine beside_trans ?_ (beside_countDrain ..)
  exact beside_ite (beside_setFlag ..) (beside_refl _)

theorem drainDone_none {p : Panel} {s c e : Nat} (h : (p.engine s c e).oldest .drain = none) (upset : List (Nat × Nat × Nat)) :
    p.drainDone s c e upset = p := by
  unfold Panel.drainDone
  rw [h]

/-- A command that drains so writes the drain's rows and leaves the accumulator rows. -/
theorem exec_drains {s : State} {c : Instr} {site cl e : Nat} {o : EngineOp} {upset : List (Nat × Nat × Nat)}
    (hx : exec c s = .next (s.store fun _ p => p.drainDone site cl e upset))
    (ho : (s.seen.engine site cl e).oldest .drain = some o) :
    ∃ t, exec c s = .next t ∧ t.mem = s.mem.apply (drainWrites site cl o upset)
      ∧ (t.p.engine site cl e).rows = (s.seen.engine site cl e).rows
      ∧ (t.p.engine site cl e).ops = (s.seen.engine site cl e).ops.filter (fun q => q.id ≠ o.id) ∧ t.p.time = s.p.time := by
  obtain ⟨q, hq, hdone⟩ := drainDone_found ho upset
  have hengine : q.engine site cl e = s.seen.engine site cl e :=
    engine_of_engines ((beside_engines hq).trans (each_put_engines ..)) ..
  refine ⟨_, hx, store_mem_apply _ _ ?_, ?_, ?_, store_time ..⟩
  · rw [hdone, endOp_writes, beside_writes hq]
    exact (each_put_writes id _ _).trans (by rw [List.map_id])
  · rw [store_engine, hdone, endOp_engine, hengine]
  · rw [store_engine, hdone, endOp_engine, hengine]

/-- Settles O25: the drain's rows are all it writes, and its checks are bookkeeping. -/
theorem drainWritesRows : Obligations.DrainWritesRows := by
  refine fun s site cl e upset o c hc => ⟨fun hrun ho => ?drains, fun hidle => ?idle⟩
  case drains =>
    rcases hc with ⟨rfl, rfl⟩ | ⟨rfl, rfl⟩ <;> exact exec_drains (exec_store rfl (unlessFrozen_runs _ hrun)) ho
  case idle =>
    rcases hc with ⟨rfl, rfl⟩ | ⟨rfl, rfl⟩ <;> rcases hidle with hnone | hfrozen
    · exact exec_store rfl (unlessFrozen_idle (drainDone_none hnone upset))
    · exact exec_store rfl (unlessFrozen_frozen _ hfrozen)
    · exact exec_store rfl (unlessFrozen_idle (drainDone_none hnone upset))
    · exact exec_store rfl (unlessFrozen_frozen _ hfrozen)

end Sys2Proof.Proofs
end

section
/-! SUPPORT. What lands in a slice, and what a mover's operation leaves (R244, R252, R254, R257). -/

namespace Sys2Proof.Proofs

open Sys2Proof.Machine Sys2Proof.Laws

/-! ### Bookkeeping with writes -/

/-- `q` differs from `p` at most in bookkeeping and in the memory writes listed. -/
def BesideMemory (p q : Panel) : Prop := ∃ ws, Beside { p with writes := ws } q

theorem besideMemory_of_beside {p q : Panel} (h : Beside p q) : BesideMemory p q := ⟨p.writes, h⟩

theorem besideMemory_refl (p : Panel) : BesideMemory p p := besideMemory_of_beside (beside_refl p)

theorem besideMemory_trans {p q r : Panel} (h : BesideMemory p q) (h' : BesideMemory q r) : BesideMemory p r := by
  obtain ⟨_, _, _, _, _, _, _, _, _, _, _, rfl⟩ := h
  obtain ⟨ws, _, _, _, _, _, _, _, _, _, _, rfl⟩ := h'
  exact ⟨ws, _, _, _, _, _, _, _, _, _, _, rfl⟩

theorem besideMemory_put (p : Panel) (w : MemWrite) : BesideMemory p (p.put w) := ⟨_, beside_refl _⟩

theorem besideMemory_ite {c : Prop} [Decidable c] {p q r : Panel} (hq : BesideMemory p q) (hr : BesideMemory p r) :
    BesideMemory p (if c then q else r) := by
  split
  · exact hq
  · exact hr

theorem besideMemory_each {α : Type} (l : List α) {f : Panel → α → Panel} (h : ∀ p x, BesideMemory p (f p x)) (p : Panel) :
    BesideMemory p (p.each l f) := by
  unfold Panel.each
  exact List.foldlRecOn (motive := BesideMemory p) _ _ (besideMemory_refl p) fun q hq x _ => besideMemory_trans hq (h q x)

theorem besideMemory_mover {p q : Panel} (h : BesideMemory p q) (s c : Nat) : q.mover s c = p.mover s c := by
  obtain ⟨_, _, _, _, _, _, _, _, _, _, _, rfl⟩ := h
  rfl

theorem beside_mover {p q : Panel} (h : Beside p q) (s c : Nat) : q.mover s c = p.mover s c :=
  besideMemory_mover (besideMemory_of_beside h) s c

section
variable (p : Panel) (m : Mem) (s c : Nat)

theorem besideMemory_parityNote (noted : Bool) (rows : List Nat) : BesideMemory p (p.parityNote m s c noted rows) := by
  unfold Panel.parityNote
  simp only
  refine besideMemory_ite (besideMemory_refl p) (besideMemory_trans (besideMemory_each _ (fun p a => ?_) p)
    (besideMemory_of_beside (beside_trans (beside_ite (beside_refl _) (beside_raiseAt ..)) (beside_raiseIf ..))))
  refine besideMemory_trans (besideMemory_put p { addr := a, rows := 1, fox := some true, parity := none })
    (besideMemory_of_beside (beside_trans ?_ (beside_tally ..)))
  iterate 3 refine beside_trans ?_ (beside_setField ..)
  exact beside_setField ..

theorem besideMemory_gather (rs : List (Nat × Nat)) : BesideMemory p (p.gather m s c rs).2 := besideMemory_parityNote ..

theorem beside_sendRows (site cl dst : Nat) (rows : List Delivered) : Beside p (p.sendRows s c site cl dst rows) :=
  beside_each _ (fun _ _ => beside_send ..) p

theorem beside_traceRows (site type t src sc row imm : Nat) (units : List Flit) (done : Option GalKey) :
    Beside p (p.traceRows site type t src sc row imm units done) :=
  beside_each _ (fun p _ => beside_each _ (fun _ _ => beside_send ..) p) p

end

/-! ### A mover's oldest operation -/

section
variable {p : Panel} {s c : Nat}

theorem scratchDone_none (h : (p.mover s c).ops = []) : p.scratchDone s c = p := by
  unfold Panel.scratchDone
  rw [h]

/-- The oldest operation of a mover lands its rows and leaves (R248). -/
theorem scratchDone_found {o : MoverOp} {os : List MoverOp} (h : (p.mover s c).ops = o :: os) :
    (p.scratchDone s c).writes = (p.each o.writes fun p x => p.landRows s c x.1 x.2).writes
      ∧ ((p.scratchDone s c).mover s c).ops = os := by
  have hdone : Beside ((p.each o.writes fun p x => p.landRows s c x.1 x.2).modMover s c fun v => { v with ops := os })
      (p.scratchDone s c) := by
    unfold Panel.scratchDone
    simp only [h]
    have hretired := beside_trans (beside_showCopy ((p.each o.writes fun p x => p.landRows s c x.1 x.2).modMover s c
      fun v => { v with ops := os }) s c) (beside_retire _ s o.id)
    split
    · exact beside_trans hretired (beside_raiseAt ..)
    · exact hretired
  exact ⟨(beside_writes hdone).trans (modMover_writes ..), by rw [beside_mover hdone, modMover_same]⟩

/-- The oldest PUT leaves its mover's queue with its rows (R248, R254). -/
theorem leavePut_outbound {q : PutReq} {qs : List PutReq} (m : Mem) (h : (p.mover s c).outbound = q :: qs)
    (hrein : q.trace ≠ 0 ∨ p.reined s 3 = false) : ((p.leavePut m s c).mover s c).outbound = qs := by
  have hout : ¬ (decide (q.trace = 0) && p.reined s 3) = true := by
    rcases hrein with h | h <;> simp [h]
  unfold Panel.leavePut
  simp only [h, hout, if_false, Bool.false_eq_true]
  rw [beside_mover (beside_trans (beside_ite (beside_sendRows ..) (beside_traceRows ..)) (beside_retire ..)), modMover_same]

theorem leavePut_reined {q : PutReq} {qs : List PutReq} (m : Mem) (h : (p.mover s c).outbound = q :: qs)
    (htrace : q.trace = 0) (hrein : p.reined s 3 = true) : p.leavePut m s c = p := by
  unfold Panel.leavePut
  simp [h, htrace, hrein]

end

/-! ### Packets that land (R252) -/

theorem addCounter_writes (p : Panel) (home idx delta issuer : Nat) : (p.addCounter home idx delta issuer).writes = p.writes := by
  have hanswer (p : Panel) (w : Watch) : (p.answer home w).writes = p.writes := by
    unfold Panel.answer Panel.slotReady
    simp only [apply_ite Panel.writes, setField_writes, ite_self]
    exact ite_self _
  have hanswers (p : Panel) : (p.answerWatches home idx).1.writes = p.writes :=
    (each_keeps (·.writes) _ (fun p w _ => hanswer p w) _).trans (setWatches_writes ..)
  have hset := (hanswers (p.setField home (Csr.STK_SYNC_CTR idx) (p.field home (Csr.STK_SYNC_CTR idx) + delta))).trans
    (setField_writes ..)
  have hsent (p : Panel) (m : NetMsg) : (p.send m).writes = p.writes := rfl
  unfold Panel.addCounter
  simp only [apply_ite Panel.writes, count_writes, hsent, hset, ite_self]

theorem closeWindow_writes (p : Panel) (s c i : Nat) : (p.closeWindow s c i).writes = p.writes := setFlag_writes ..

section
variable (p : Panel) (x : Nat) (f : Fld) (k s : Nat)

theorem regionOf_tally : (p.tally x f k).regionOf s = p.regionOf s := by
  rw [tally_eq]
  rfl

theorem regionLive_tally : (p.tally x f k).regionLive s = p.regionLive s := by
  have hrunning (r : Nat) : (p.tally x f k).running r = p.running r := isSet_of_csr (tally_csr ..) _ _
  have hregion (r : Nat) : (p.tally x f k).region r = p.region r := by
    rw [tally_eq]
    rfl
  unfold Panel.regionLive
  simp only [regionOf_tally, hrunning, hregion]

end

section
variable {p : Panel} {src sc s c row : Nat} {rows : List Delivered}

/-- A packet that an open window admits lands its rows, and writes nothing else. -/
theorem landPacket_admitted {i : Nat} (hsome : (p.regionOf s).isSome) (hsame : p.regionOf s = p.regionOf src)
    (hup : p.sliceUp s c = true) (hi : i < 32) (hadmits : p.admits s c i src sc row rows.length = true) :
    (p.landPacket src sc s c row rows).writes = (p.landRows s c row rows).writes := by
  have hfind : ∃ j, (List.range 32).find? (fun i => ((p.regionOf s).isSome && decide (p.regionOf s = p.regionOf src))
      && p.sliceUp s c && p.admits s c i src sc row rows.length) = some j := by
    rw [← Option.isSome_iff_exists, List.find?_isSome]
    exact ⟨i, List.mem_range.mpr hi, by simp [hsome, ← hsame, hup, hadmits]⟩
  obtain ⟨j, hj⟩ := hfind
  unfold Panel.landPacket
  simp only [hj, apply_ite Panel.writes, closeWindow_writes, addCounter_writes, setField_writes, tally_writes, ite_self]

/-- A packet that no window admits is counted, and is a fault where its sender's region runs (R252). -/
theorem landPacket_rejected (hadmits : ∀ i, i < 32 → p.admits s c i src sc row rows.length = false) :
    p.landPacket src sc s c row rows = if p.regionLive src
      then (p.tally s (Csr.SPR_C_REJECT c) 1).raiseFor s 0x0710 (severityOf 0x0710) (p.regionOf src) c src
      else p.tally s (Csr.SPR_C_REJECT c) 1 := by
  have hfind : (List.range 32).find? (fun i => ((p.regionOf s).isSome && decide (p.regionOf s = p.regionOf src))
      && p.sliceUp s c && p.admits s c i src sc row rows.length) = none := by
    rw [List.find?_eq_none]
    exact fun i hi => by simp [hadmits i (List.mem_range.mp hi)]
  unfold Panel.landPacket
  simp only [hfind, regionLive_tally, regionOf_tally]

end
end Sys2Proof.Proofs
end

section
/-! SUPPORT. Scrub accesses, the end of a fox-fill, and the completions of the scratchpads (R252, R254, R258, R259). -/

namespace Sys2Proof.Proofs

open Sys2Proof.Machine Sys2Proof.Laws

/-! ### Writes that only set a row's bits -/

section
variable (m : Mem) (a : Nat)

/-- A write that foxes a row alone. -/
theorem mem_write_foxed : m.write { addr := a, data := [], rows := 1, fox := some true, parity := none } = m.setFox a true 1 := rfl

/-- A write that clears a range alone. -/
theorem mem_write_clear {n : Nat} (hn : n ≠ 0) : m.write { addr := a, clear := n, fox := none, parity := none } = m.clearRange a n := by
  unfold Mem.write
  rw [if_neg hn]
  rfl

theorem setFox_row_bytes (f : Bool) : (m.setFox a f 1).bytes = m.bytes := by
  unfold Mem.setFox Mem.setFox
  simp only
  split <;> rfl

theorem setFox_row_foxAt (f : Bool) : (m.setFox a f 1).foxAt a = f := by
  have hfox : (m.setFox a f 1).fox = SMap.set memFox0 m.fox (a / 64) f := by
    unfold Mem.setFox Mem.setFox
    simp only
    split <;> rfl
  unfold Mem.foxAt
  rw [hfox, smap_get_set_same]

end

/-! ### The scrubber (R258) -/

theorem sliceUp_of_parts {p q : Panel} (hcsr : q.csr = p.csr) (hplan : q.plan = p.plan) (hpower : q.power = p.power) (s c : Nat) :
    q.sliceUp s c = p.sliceUp s c := by
  have hdomain : q.domainUp s c = p.domainUp s c := by
    unfold Panel.domainUp
    rw [field_of_csr hcsr]
  unfold Panel.sliceUp Panel.clusterWorks Panel.domain Panel.unitState
  rw [hdomain, hpower, hplan]

section
variable (p : Panel) (m : Mem) (s c row upset : Nat)

/-- An upset flips the stored parity bits of its row, and nothing else of memory. -/
theorem upsetRow_memory (hw : p.writes = []) :
    let n := m.apply (p.upsetRow m s c row upset).writes
    SMap.get memPar0 n.badParity (sliceAddr s c (64 * row) / 64)
        = Nat.xor (SMap.get memPar0 m.badParity (sliceAddr s c (64 * row) / 64)) (upset % 256)
      ∧ n.bytes = m.bytes ∧ n.fox = m.fox := by
  unfold Panel.upsetRow Panel.memory
  simp only
  split
  case isTrue h =>
    rw [hw, h]
    exact ⟨(Nat.xor_zero _).symm, rfl, rfl⟩
  case isFalse =>
    rw [put_writes, hw]
    exact ⟨smap_get_set_same .., rfl, rfl⟩

theorem put_scrubs (w : MemWrite) : (p.put w).scrubs s c = p.scrubs s c := by
  have hset : (p.put w).isSet s Csr.SPR_CTRL_SCRUB = p.isSet s Csr.SPR_CTRL_SCRUB := isSet_of_csr rfl _ _
  have hslice : (p.put w).sliceUp s c = p.sliceUp s c := sliceUp_of_parts (p := p) (q := p.put w) rfl rfl rfl s c
  unfold Panel.scrubs
  rw [hset, hslice]
  rfl

theorem upsetRow_besideMemory : BesideMemory p (p.upsetRow m s c row upset) :=
  besideMemory_ite (besideMemory_refl p) (besideMemory_put ..)

theorem upsetRow_csr : (p.upsetRow m s c row upset).csr = p.csr := by
  unfold Panel.upsetRow
  simp only [apply_ite Panel.csr]
  exact ite_self _

theorem upsetRow_scrubs : (p.upsetRow m s c row upset).scrubs s c = p.scrubs s c := by
  unfold Panel.upsetRow
  simp only
  split
  · rfl
  · exact put_scrubs ..

end

section
variable {p : Panel} {m : Mem} {s c a : Nat}
  (ha : a = sliceAddr s c (64 * rowAt ((p.mover s c).scrub % 64) ((p.mover s c).scrub / 64)))
include ha

/-- A scrub access of a row with good parity only goes on. -/
theorem scrubStep_good (h : (p.memory m).parityBad a = false) :
    p.scrubStep m s c = p.modMover s c fun v => { v with scrub := ((p.mover s c).scrub + 1) % (64 * bankRows) } := by
  subst ha
  have hmemory (f : Mover → Mover) : (p.modMover s c f).memory m = p.memory m := rfl
  unfold Panel.scrubStep
  simp only [hmemory, h, if_false, Bool.false_eq_true]

/-- A row with bad parity that the scrubber reads is foxed. -/
theorem scrubStep_bad (h : (p.memory m).parityBad a = true) :
    (p.scrubStep m s c).writes = p.writes ++ [{ addr := a, data := [], rows := 1, fox := some true, parity := none }] := by
  subst ha
  have hmemory (f : Mover → Mover) : (p.modMover s c f).memory m = p.memory m := rfl
  unfold Panel.scrubStep
  simp only [hmemory, h, if_true, raiseAt_writes, put_writes, modMover_writes]

end

theorem store_csr (s : State) (f : Mem → Panel → Panel) : (s.store f).p.csr = (f s.mem s.seen).csr := rfl

theorem besideMemory_domain {p q : Panel} (h : BesideMemory p q) (s d : Nat) : q.domain s d = p.domain s d := by
  obtain ⟨_, _, _, _, _, _, _, _, _, _, _, rfl⟩ := h
  rfl

theorem beside_domain {p q : Panel} (h : Beside p q) (s d : Nat) : q.domain s d = p.domain s d :=
  besideMemory_domain (besideMemory_of_beside h) s d

theorem store_domain (s : State) (f : Mem → Panel → Panel) (x d : Nat) : (s.store f).p.domain x d = (f s.mem s.seen).domain x d := rfl

theorem store_mover (s : State) (f : Mem → Panel → Panel) (x c : Nat) : (s.store f).p.mover x c = (f s.mem s.seen).mover x c := rfl

/-- A scrub access of a scrubber that runs, after the upset of a row. -/
theorem exec_scrubs {s : State} {site cl row upset : Nat} (h : s.seen.scrubs site cl = true) :
    let k := (s.seen.mover site cl).scrub
    let a := sliceAddr site cl (64 * rowAt (k % 64) (k / 64))
    let m := s.mem.apply (s.seen.upsetRow s.mem site cl row upset).writes
    ∃ t, exec (.scrubAccess site cl row upset) s = .next t ∧ t.mem.bytes = s.mem.bytes
      ∧ (m.parityBad a = true → t.mem.foxAt a = true)
      ∧ (m.parityBad a = false → t.mem = m ∧ t.p.csr = s.p.csr ∧ (t.p.mover site cl).scrub = (k + 1) % (64 * bankRows)) := by
  intro k a m
  have hmover := besideMemory_mover (upsetRow_besideMemory s.seen s.mem site cl row upset) site cl
  have ha : a = sliceAddr site cl (64 * rowAt (((s.seen.upsetRow s.mem site cl row upset).mover site cl).scrub % 64)
      (((s.seen.upsetRow s.mem site cl row upset).mover site cl).scrub / 64)) := by rw [hmover]
  have hbytes : m.bytes = s.mem.bytes := (upsetRow_memory s.seen s.mem site cl row upset rfl).2.1
  have hx : exec (.scrubAccess site cl row upset) s
      = .next (s.store fun m p => (p.upsetRow m site cl row upset).scrubStep m site cl) :=
    exec_store rfl (if_pos ((upsetRow_scrubs ..).trans h))
  cases hpar : m.parityBad a with
  | true =>
    have hmem : (s.store fun m p => (p.upsetRow m site cl row upset).scrubStep m site cl).mem = m.setFox a true 1 := by
      rw [store_mem]
      change s.mem.apply ((s.seen.upsetRow s.mem site cl row upset).scrubStep s.mem site cl).writes = _
      rw [scrubStep_bad ha hpar, mem_apply_append]
      exact mem_write_foxed m a
    refine ⟨_, hx, ?_, fun _ => ?_, nofun⟩
    · rw [hmem, setFox_row_bytes, hbytes]
    · rw [hmem, setFox_row_foxAt]
  | false =>
    have hgood := scrubStep_good ha hpar
    have hmem : (s.store fun m p => (p.upsetRow m site cl row upset).scrubStep m site cl).mem = m := by
      rw [store_mem]
      change s.mem.apply ((s.seen.upsetRow s.mem site cl row upset).scrubStep s.mem site cl).writes = _
      rw [hgood, modMover_writes]
    refine ⟨_, hx, by rw [hmem, hbytes], nofun, fun _ => ⟨hmem, ?_, ?_⟩⟩
    · rw [store_csr, hgood, modMover_csr]
      exact upsetRow_csr ..
    · rw [store_mover, hgood, modMover_same, hmover]

/-! ### Packets and scoreboard reads -/

theorem store_tallyOf (s : State) (f : Mem → Panel → Panel) (x : Nat) (g : Fld) :
    (s.store f).p.tallyOf x g = (f s.mem s.seen).tallyOf x g := tallyOf_of_tallies (p := f s.mem s.seen) (q := (s.store f).p) rfl x g

theorem store_net (s : State) (f : Mem → Panel → Panel) : (s.store f).p.net = (f s.mem s.seen).net := rfl

theorem store_contain (s : State) (f : Mem → Panel → Panel) : (s.store f).p.contain = (f s.mem s.seen).contain := rfl

/-- What a packet that no window admits leaves. -/
theorem landPacket_rejected_leaves {p : Panel} {src sc s c row : Nat} {rows : List Delivered}
    (hadmits : ∀ i, i < 32 → p.admits s c i src sc row rows.length = false) :
    let q := p.landPacket src sc s c row rows
    q.tallyOf s (Csr.SPR_C_REJECT c) = min (2 ^ 32 - 1) (p.tallyOf s (Csr.SPR_C_REJECT c) + 1)
      ∧ q.writes = p.writes ∧ q.net = p.net ∧ (p.regionLive src = false → q.contain = p.contain) := by
  intro q
  have hq : q = _ := landPacket_rejected hadmits
  rw [hq]
  split
  case isTrue hlive =>
    exact ⟨(tallyOf_of_tallies (raiseFor_tallies ..) ..).trans (tallyOf_tally_same ..), (raiseFor_writes ..).trans (tally_writes ..),
      (raiseFor_net ..).trans (tally_net ..), fun h => absurd hlive (ne_true_of_eq_false h)⟩
  case isFalse =>
    exact ⟨tallyOf_tally_same .., tally_writes .., tally_net .., fun _ => tally_contain ..⟩

/-- A scoreboard read of the oldest PUT makes it leave. -/
theorem exec_scoreboardRetire_oldest {s : State} {site cl : Nat} {q : PutReq} {qs : List PutReq}
    (h : (s.seen.mover site cl).outbound = q :: qs) :
    exec (.scoreboardRetire site cl q.id) s = .next (s.store fun m p => p.leavePut m site cl) := by
  refine exec_store rfl ?_
  simp only [h, if_true]

/-- A scoreboard read of any other operation retires its entries that read. -/
theorem exec_scoreboardRetire_other {s : State} {site cl id : Nat}
    (h : ∀ q qs, (s.seen.mover site cl).outbound = q :: qs → q.id ≠ id) :
    exec (.scoreboardRetire site cl id) s = .next (s.store fun _ p =>
      p.setBoard site cl ((p.board site cl).filter fun e => e.write || e.id ≠ id)) := by
  refine exec_store rfl ?_
  cases hout : (s.seen.mover site cl).outbound with
  | nil => simp only
  | cons q qs => simp only [h q qs hout, if_false]

/-! ### The end of a fox-fill (R259) -/

/-- A filling cluster after its fill: it is on or at keep-warm, and its slice is zero and foxed. -/
def fillEnded (p : Panel) (s c : Nat) : Panel :=
  let p := p.modDomain s c fun d => { d with filling := false }
  let p := p.setField s Csr.SPR_STATUS_FILLING (putBits (p.field s Csr.SPR_STATUS_FILLING) c 1 0)
  let p := if p.field s (Csr.PWR_DOM_STATE c) = domTurningOn then
      p.setField s (Csr.PWR_DOM_STATE c) (if (p.domain s c).warm then domWarm else domOn)
    else p
  p.foxFill s c

theorem exec_foxFillDone (site cl : Nat) (s : State) : exec (.foxFillDone site cl) s = .next (s.store fun _ p =>
    if (p.domain site cl).filling then
      if (fillEnded p site cl).boot.resetting = some (6, site, cl) then (fillEnded p site cl).endReset else fillEnded p site cl
    else p) := rfl

section
variable (p : Panel) (s c : Nat)

theorem fillEnded_writes : (fillEnded p s c).writes =
    p.writes ++ [{ addr := sliceAddr s c 0, clear := sliceBytesTotal, fox := none, parity := none }] := by
  unfold fillEnded Panel.foxFill
  simp only [put_writes, apply_ite Panel.writes, setField_writes, modDomain_writes, ite_self]

theorem fillEnded_boot : (fillEnded p s c).boot = p.boot := by
  have hfill (p : Panel) : (p.foxFill s c).boot = p.boot := rfl
  unfold fillEnded
  simp only [hfill, apply_ite Panel.boot, setField_boot, modDomain_boot, ite_self]

theorem fillEnded_filling : ((fillEnded p s c).domain s c).filling = false := by
  have hended : BesideMemory (p.modDomain s c fun d => { d with filling := false }) (fillEnded p s c) := by
    unfold fillEnded
    simp only
    refine besideMemory_trans (besideMemory_of_beside (beside_trans ?_ (beside_ite (beside_setField ..) (beside_refl _))))
      (besideMemory_put ..)
    exact beside_setField ..
  rw [besideMemory_domain hended, modDomain_same]

theorem beside_endReset : Beside p p.endReset := by
  unfold Panel.endReset Panel.noteChange
  refine beside_trans ?_ (beside_of_raised (raised_trans (raised_modTack ..) (raised_interrupt ..)))
  exact beside_trans (beside_trans (beside_of_raised (raised_modBoot ..)) (beside_setFlag ..)) (beside_setFlag ..)

end

/-- The end of a fill, and of its cluster's reset where one is in progress. -/
theorem exec_fillEnded {s : State} {site cl : Nat} (h : (s.seen.domain site cl).filling = true) :
    ∃ t, exec (.foxFillDone site cl) s = .next t ∧ (t.p.domain site cl).filling = false
      ∧ t.mem = s.mem.clearRange (sliceAddr site cl 0) sliceBytesTotal
      ∧ (s.seen.boot.resetting = some (6, site, cl) → t.p.boot.resetting = none) := by
  have hclear : s.mem.apply (fillEnded s.seen site cl).writes = s.mem.clearRange (sliceAddr site cl 0) sliceBytesTotal := by
    rw [fillEnded_writes, mem_apply_append]
    exact mem_write_clear _ _ (by decide)
  by_cases hreset : (fillEnded s.seen site cl).boot.resetting = some (6, site, cl)
  case pos =>
    have hx : exec (.foxFillDone site cl) s = .next (s.store fun _ p => (fillEnded p site cl).endReset) :=
      exec_store (exec_foxFillDone ..) ((if_pos h).trans (if_pos hreset))
    refine ⟨_, hx, ?_, ?_, fun _ => ?_⟩
    · rw [store_domain, beside_domain (beside_endReset _), fillEnded_filling]
    · rw [← hclear, ← beside_writes (beside_endReset (fillEnded s.seen site cl))]
      exact store_mem ..
    · rw [store_boot, (endReset_shows _).1]
  case neg =>
    have hx : exec (.foxFillDone site cl) s = .next (s.store fun _ p => fillEnded p site cl) :=
      exec_store (exec_foxFillDone ..) ((if_pos h).trans (if_neg hreset))
    refine ⟨_, hx, ?_, (store_mem ..).trans hclear, fun hsome => absurd ?_ hreset⟩
    · rw [store_domain, fillEnded_filling]
    · rw [fillEnded_boot, hsome]

/-- Settles O26: landings and bookkeeping follow the mover, the windows, the scrubber and the fill. -/
theorem scratchpadCompletions : Obligations.ScratchpadCompletions := by
  refine ⟨fun s site cl => ⟨fun o os hrun hops => ?lands, fun hidle => ?idle, fun src sc row rows hadmits => ?rejected,
    fun src sc row rows i hsome hsame hup hi hadmits => ?admitted, fun id hid => ?retires, fun q qs hout => ⟨fun hrein => ?reined,
    fun hrein => ?leaves⟩⟩, fun s site cl row upset => ⟨upsetRow_memory _ _ _ _ _ _ rfl, fun hoff => ?off, exec_scrubs,
    exec_fillEnded, fun hdone => exec_store (exec_foxFillDone ..) (if_neg (ne_true_of_eq_false hdone))⟩⟩
  case lands =>
    obtain ⟨hwrites, hleft⟩ := scratchDone_found hops
    exact ⟨_, exec_store (g := fun _ p => p.scratchDone site cl) rfl (unlessFrozen_runs _ hrun), fun _ => hleft,
      (store_mem ..).trans (congrArg s.mem.apply hwrites), store_time ..⟩
  case idle =>
    rcases hidle with hnone | hfrozen
    · exact exec_store rfl (unlessFrozen_idle (scratchDone_none hnone))
    · exact exec_store rfl (unlessFrozen_frozen _ hfrozen)
  case rejected =>
    obtain ⟨htally, hwrites, hnet, hcontain⟩ := landPacket_rejected_leaves hadmits
    refine ⟨_, rfl, ?_, store_mem_of_writes _ _ hwrites, (store_net ..).trans hnet,
      fun hlive => (store_contain ..).trans (hcontain hlive)⟩
    have hseen : (s.seen.arrive (.put src sc site cl row rows)).tallyOf site (Csr.SPR_C_REJECT cl)
        = s.p.tallyOf site (Csr.SPR_C_REJECT cl) :=
      tallyOf_of_tallies (p := s.p) (q := s.seen.arrive (.put src sc site cl row rows)) rfl ..
    rw [← hseen]
    exact (store_tallyOf ..).trans htally
  case admitted =>
    exact ⟨_, rfl, (store_mem ..).trans (congrArg s.mem.apply (landPacket_admitted hsome hsame hup hi hadmits)), store_time ..⟩
  case retires => exact exec_scoreboardRetire_other hid
  case reined =>
    obtain ⟨htrace, hreined⟩ := hrein
    exact exec_store (exec_scoreboardRetire_oldest hout) (leavePut_reined _ hout htrace hreined)
  case leaves =>
    refine ⟨_, exec_scoreboardRetire_oldest hout, ?_, store_time ..⟩
    rw [store_mover]
    exact leavePut_outbound _ hout hrein
  case off =>
    have hx : exec (.scrubAccess site cl row upset) s = .next (s.store fun m p => p.upsetRow m site cl row upset) :=
      exec_store rfl (if_neg (ne_true_of_eq_false ((upsetRow_scrubs ..).trans hoff)))
    exact ⟨_, hx, store_mem .., (store_csr ..).trans (upsetRow_csr ..)⟩

end Sys2Proof.Proofs
end

section
/-! SUPPORT. What a slot operation that issues leaves: its plan acts under the next number (R111, R133). -/

namespace Sys2Proof.Proofs

open Sys2Proof.Machine Sys2Proof.Laws

/-! ### Plans that break no rule -/

theorem guard_of_code_none {l : List (Bool × Nat)} {plan : OpPlan} (h : (OpPlan.guard l plan).code = none) :
    OpPlan.guard l plan = plan := by
  unfold OpPlan.guard at h ⊢
  split at h
  · cases h
  · rfl

section
variable {p : Panel} {m : Mem} {s k c w : Nat} {x : Option Nat}

/-- A slot of a cluster that plans no refusal is of a slice that is up. -/
theorem sliceUp_of_planSlot (hk : k < 12) (h : (p.planSlot m s k w x).code = none) : p.sliceUp s (k % 4) = true := by
  by_contra hdown
  have hbad : p.planSlot m s k w x = .bad 0x0229 := if_pos (by simp [hk, hdown])
  rw [hbad] at h
  cases h

theorem planSlot_dense (hc : c < 4) (h : (p.planSlot m s c w x).code = none) : p.planSlot m s c w x = p.planDense m s c w x := by
  have hup := sliceUp_of_planSlot (by omega) h
  unfold Panel.planSlot
  simp only [Nat.mod_eq_of_lt hc] at hup ⊢
  rw [hup]
  simp [hc]

theorem planSlot_sparse (hc : c < 4) (h : (p.planSlot m s (4 + c) w x).code = none) :
    p.planSlot m s (4 + c) w x = p.planSparse m s c w x := by
  have hup := sliceUp_of_planSlot (by omega) h
  have hmod : (4 + c) % 4 = c := by omega
  unfold Panel.planSlot
  simp only [hmod] at hup ⊢
  rw [hup]
  simp [show ¬ 4 + c < 4 by omega, show 4 + c < 8 by omega]

theorem planSlot_mover (hc : c < 4) (h : (p.planSlot m s (8 + c) w x).code = none) :
    p.planSlot m s (8 + c) w x = p.planMover m s c w x := by
  have hup := sliceUp_of_planSlot (by omega) h
  have hmod : (8 + c) % 4 = c := by omega
  unfold Panel.planSlot
  simp only [hmod] at hup ⊢
  rw [hup]
  simp [show ¬ 8 + c < 4 by omega, show ¬ 8 + c < 8 by omega, show 8 + c < 12 by omega]

theorem planSlot_slot12 : p.planSlot m s 12 w x = p.planSlot12 m s w x := rfl

end

/-! ### Issue -/

/-- A panel on which an operation issues: the next operation's number follows, and its ranges are registered (R111, R254). -/
def issuing (p : Panel) (site : Nat) (rs : List SbReq) : Panel :=
  (p.modSeq site fun q => { q with nextOp := (p.seq site).nextOp + 1 }).register site (p.seq site).nextOp rs

/-- The state after a slot's plan has acted. -/
def State.issued (s : State) (site : Nat) (plan : OpPlan) : State :=
  s.store fun _ p => plan.act (p.seq site).nextOp (issuing p site plan.reqs)

/-- A command of slot `k` leaves `post` where its operation issues: its line is well formed, neither holds nor waits nor overdraws, and
its plan breaks no rule. -/
def Leaves (s : State) (i : Instr) (site k op : Nat) (w : BitVec 58) (x : Option (BitVec 54)) (post : Nat → State → Prop) : Prop :=
  let o := State.plannedOp s site k op w x
  (s.seen.seq site).stalled = none → lineOk (oneSlot k op w x) = true → o.2.2.code = none →
  (s.seen.lineHold site [o] false 0).1 = 0 → s.seen.slotWait site k (slotWordOf op w) = 0 →
  s.seen.charge site + (s.seen.seq site).tokens.sum + newCharge [o] ≤ s.seen.field site Csr.DRW_TOK_ALLOW_EFFECTIVE →
  ∃ t, exec i s = .next t ∧ t.p.time = s.p.time ∧ post (slotWordOf op w) t

section
variable {s : State} {i : Instr} {site k op : Nat} {w : BitVec 58} {x : Option (BitVec 54)} {plan : OpPlan} {post : Nat → State → Prop}

/-- A slot operation that issues leaves what its plan's effect leaves. -/
theorem leaves_of_plan (hc : exec i s = s.slot site k op w x) (hk : k < 15) (hop0 : op ≠ 0) (hop : op < 64)
    (hplan : (s.seen.planSlot s.mem site k (slotWordOf op w) (x.map BitVec.toNat)).code = none →
      s.seen.planSlot s.mem site k (slotWordOf op w) (x.map BitVec.toNat) = plan)
    (hpost : plan.code = none → post (slotWordOf op w) (State.issued s site plan)) : Leaves s i site k op w x post := by
  intro hstall hline hcode hhold hwait hallow
  have hrun : (s.seen.seq site).stalled.isSome = false := by rw [hstall]; rfl
  have hx := exec_slot_acts hc hrun hk hop0 hop hline hcode hhold hwait hallow
  have hact := hpost (hplan hcode ▸ hcode)
  rw [← hplan hcode] at hact
  exact ⟨_, hx, store_time .., hact⟩

end

/-! ### Engines -/

section
variable (p : Panel) (s c e : Nat)

theorem startOp_engine (o : EngineOp) :
    (p.startOp s c e o).engine s c e = { p.engine s c e with ops := (p.engine s c e).ops ++ [o] } :=
  (beside_engine (beside_engineStatus ..) ..).trans (modEngine_same ..)

theorem startOp_mem (o : EngineOp) : o ∈ ((p.startOp s c e o).engine s c e).ops := by
  rw [startOp_engine]
  exact List.mem_append_right _ (List.mem_singleton_self o)

variable {p s c e} {m : Mem} {w : Nat} {x : Option Nat}

/-- An issued stream is under way under its number (R175). -/
theorem planStream_runs (h : (p.planStream m s c e w x).code = none) (id : Nat) (q : Panel) :
    ∃ o ∈ (((p.planStream m s c e w x).act id q).engine s c e).ops, o.id = id ∧ o.kind = .stream := by
  unfold Panel.planStream at h ⊢
  simp only at h ⊢
  rw [guard_of_code_none h]
  exact ⟨_, startOp_mem .., rfl, rfl⟩

theorem planInit_runs (h : (p.planInit m s c e w).code = none) (id : Nat) (q : Panel) :
    ∃ o ∈ (((p.planInit m s c e w).act id q).engine s c e).ops, o.id = id ∧ o.kind = .init := by
  unfold Panel.planInit at h ⊢
  simp only at h ⊢
  rw [guard_of_code_none h]
  exact ⟨_, startOp_mem .., rfl, rfl⟩

theorem planDrain_runs (h : (p.planDrain s c e w).code = none) (id : Nat) (q : Panel) :
    ∃ o ∈ (((p.planDrain s c e w).act id q).engine s c e).ops, o.id = id ∧ o.kind = .drain := by
  unfold Panel.planDrain at h ⊢
  simp only at h ⊢
  rw [guard_of_code_none h]
  exact ⟨_, startOp_mem .., rfl, rfl⟩

end

end Sys2Proof.Proofs
end

section
/-! SUPPORT. What the operations of engines, movers and slot 12 leave as they issue (R175, R204, R222, R244, R313). -/

namespace Sys2Proof.Proofs

open Sys2Proof.Machine Sys2Proof.Laws

/-! ### Loads -/

theorem besideMemory_engine {p q : Panel} (h : BesideMemory p q) (s c e : Nat) : q.engine s c e = p.engine s c e := by
  obtain ⟨_, _, _, _, _, _, _, _, _, _, _, rfl⟩ := h
  rfl

/-- A load that starts leaves its bank as it took it. -/
theorem startOp_setBank_bank (p : Panel) (s c e : Nat) {i : Nat} (b : Bank) (o : EngineOp) (h : i < (p.engine s c e).banks.length) :
    (((p.setBank s c e i b).startOp s c e o).engine s c e).bank i = b := by
  rw [startOp_engine]
  unfold Panel.setBank
  rw [modEngine_same]
  exact nth_setNth_same _ h _ _

section
variable {p : Panel} {m : Mem} {s c w : Nat} {x : Option Nat}

/-- An issued WLOAD's bank loads, and the load is under way under its number (R180). -/
theorem planWload_loads (h : (p.planWload m s c w x).code = none) (id : Nat) {q : Panel}
    (hbank : (wloadArgs w (x.getD 0)).bank < (q.engine s c 0).banks.length) :
    let r := (p.planWload m s c w x).act id q
    ((r.engine s c 0).bank (wloadArgs w (x.getD 0)).bank).loading = true
      ∧ ∃ o ∈ (r.engine s c 0).ops, o.id = id ∧ o.kind = .load := by
  unfold Panel.planWload at h ⊢
  simp only at h ⊢
  rw [guard_of_code_none h]
  rw [← besideMemory_engine (besideMemory_gather q m s c (wloadArgs w (x.getD 0)).pieces)] at hbank
  exact ⟨congrArg Bank.loading (startOp_setBank_bank _ _ _ _ _ _ hbank), _, startOp_mem .., rfl, rfl⟩

/-- An issued SLOAD's bank loads, and the load is under way under its number (R204). -/
theorem planSload_loads (h : (p.planSload m s c w x).code = none) (id : Nat) {q : Panel}
    (hbank : (sloadArgs w (x.getD 0)).bank < (q.engine s c 1).banks.length) :
    let r := (p.planSload m s c w x).act id q
    ((r.engine s c 1).bank (sloadArgs w (x.getD 0)).bank).loading = true
      ∧ ∃ o ∈ (r.engine s c 1).ops, o.id = id ∧ o.kind = .load := by
  unfold Panel.planSload at h ⊢
  simp only at h ⊢
  rw [guard_of_code_none h]
  rw [← besideMemory_engine (besideMemory_gather q m s c ((sloadArgs w (x.getD 0)).pieces.1 ++ (sloadArgs w (x.getD 0)).pieces.2.1
    ++ (sloadArgs w (x.getD 0)).pieces.2.2))] at hbank
  exact ⟨congrArg Bank.loading (startOp_setBank_bank _ _ _ _ _ _ hbank), _, startOp_mem .., rfl, rfl⟩

/-! ### Scratchpad operations of a mover -/

theorem startMover_mem (p : Panel) (s c : Nat) (o : MoverOp) : o ∈ ((p.startMover s c o).mover s c).ops := by
  unfold Panel.startMover
  rw [beside_mover (beside_showCopy ..), modMover_same]
  exact List.mem_append_right _ (List.mem_singleton_self o)

theorem planCopy_moves (h : (p.planCopy m s c w).code = none) (id : Nat) (q : Panel) :
    ∃ o ∈ (((p.planCopy m s c w).act id q).mover s c).ops, o.id = id := by
  unfold Panel.planCopy at h ⊢
  simp only at h ⊢
  rw [guard_of_code_none h]
  exact ⟨_, startMover_mem .., rfl⟩

/-- An issued ZERO writes its rows of zero (R245). -/
theorem planZero_moves (h : (p.planZero s c w).code = none) (id : Nat) (q : Panel) :
    ∃ o ∈ (((p.planZero s c w).act id q).mover s c).ops, o.id = id
      ∧ o.writes = [(bitsOf w 37 21, List.replicate (bitsOf w 21 16 + 1) ⟨List.replicate 64 0, false⟩)] := by
  unfold Panel.planZero at h ⊢
  simp only at h ⊢
  rw [guard_of_code_none h]
  exact ⟨_, startMover_mem .., rfl, rfl⟩

theorem doStore_moves (p : Panel) (m : Mem) (s c w ximm id t1 : Nat) :
    ∃ o ∈ ((p.doStore m s c w ximm id t1).mover s c).ops, o.id = id := by
  unfold Panel.doStore
  simp only
  split <;> exact ⟨_, startMover_mem .., rfl⟩

theorem planStore_moves (h : (p.planStore m s c w x).code = none) (id : Nat) (q : Panel) :
    ∃ o ∈ (((p.planStore m s c w x).act id q).mover s c).ops, o.id = id := by
  unfold Panel.planStore at h ⊢
  simp only at h ⊢
  rw [guard_of_code_none h]
  exact doStore_moves ..

theorem doCstore_moves (p : Panel) (m : Mem) (s c w id t1 : Nat) :
    ∃ o ∈ ((p.doCstore m s c w id t1).mover s c).ops, o.id = id := by
  unfold Panel.doCstore
  simp only
  split
  · exact ⟨_, startMover_mem .., rfl⟩
  · split <;> exact ⟨_, startMover_mem .., rfl⟩

theorem planCstore_moves (h : (p.planCstore m s c w).code = none) (id : Nat) (q : Panel) :
    ∃ o ∈ (((p.planCstore m s c w).act id q).mover s c).ops, o.id = id := by
  unfold Panel.planCstore at h ⊢
  simp only at h ⊢
  rw [guard_of_code_none h]
  exact doCstore_moves ..

/-! ### What waits to leave -/

theorem holdCopy_outbound (p : Panel) (s c : Nat) : ((p.holdCopy s c).mover s c).outbound = (p.mover s c).outbound := by
  unfold Panel.holdCopy
  rw [beside_mover (beside_showCopy ..), modMover_same]

/-- An issued PUT waits to leave (R248). -/
theorem planPut_waits (h : (p.planPut s c w x).code = none) (id : Nat) (q : Panel) :
    ∃ r ∈ (((p.planPut s c w x).act id q).mover s c).outbound, r.id = id ∧ r.src = bitsOf w 37 21 ∧ r.dst = bitsOf w 16 21
      ∧ r.site = homeOf s (bitsOf w 7 9) ∧ r.cluster = bitsOf w 5 2 := by
  unfold Panel.planPut at h ⊢
  simp only at h ⊢
  rw [guard_of_code_none h]
  rw [holdCopy_outbound, modMover_same]
  exact ⟨_, List.mem_append_right _ (List.mem_singleton_self _), rfl, rfl, rfl, rfl, rfl⟩

/-- An issued TSEND waits to leave (R313). -/
theorem planTsend_waits (h : (p.planTsend s c w).code = none) (id : Nat) (q : Panel) :
    ∃ r ∈ (((p.planTsend s c w).act id q).mover s c).outbound, r.id = id ∧ r.trace = bitsOf w 50 8 ∧ r.src = bitsOf w 29 21
      ∧ r.len = bitsOf w 4 4 + 1 := by
  unfold Panel.planTsend at h ⊢
  simp only at h ⊢
  rw [guard_of_code_none h]
  rw [modMover_same]
  exact ⟨_, List.mem_append_right _ (List.mem_singleton_self _), rfl, rfl, rfl, rfl⟩

/-! ### Slot 12 -/

theorem setSlot12_mem (p : Panel) (s : Nat) (l : List Slot12Op) (o : Slot12Op) : o ∈ (p.setSlot12 s (l ++ [o])).slot12Ops s := by
  rw [setSlot12_same]
  exact List.mem_append_right _ (List.mem_singleton_self o)

theorem planGate_runs (h : (p.planGate m s w x).code = none) (id : Nat) (q : Panel) :
    ∃ o ∈ ((p.planGate m s w x).act id q).slot12Ops s, o.id = id ∧ o.unit = 0 := by
  unfold Panel.planGate at h ⊢
  simp only at h ⊢
  rw [guard_of_code_none h]
  exact ⟨_, setSlot12_mem .., rfl, rfl⟩

theorem doJust_runs (p : Panel) (m : Mem) (s w id t1 : Nat) : ∃ o ∈ (p.doJust m s w id t1).slot12Ops s, o.id = id ∧ o.unit = 1 := by
  unfold Panel.doJust
  simp only
  split
  · exact ⟨_, setSlot12_mem .., rfl, rfl⟩
  · split <;> exact ⟨_, setSlot12_mem .., rfl, rfl⟩

theorem planJust_runs (h : (p.planJust m s w).code = none) (id : Nat) (q : Panel) :
    ∃ o ∈ ((p.planJust m s w).act id q).slot12Ops s, o.id = id ∧ o.unit = 1 := by
  unfold Panel.planJust at h ⊢
  simp only at h ⊢
  rw [guard_of_code_none h]
  exact doJust_runs ..

theorem doMerge_runs (p : Panel) (m : Mem) (s w id t1 : Nat) : ∃ o ∈ (p.doMerge m s w id t1).slot12Ops s, o.id = id ∧ o.unit = 2 := by
  unfold Panel.doMerge
  simp only
  split <;> exact ⟨_, setSlot12_mem .., rfl, rfl⟩

theorem planMerge_runs (h : (p.planMerge m s w).code = none) (id : Nat) (q : Panel) :
    ∃ o ∈ ((p.planMerge m s w).act id q).slot12Ops s, o.id = id ∧ o.unit = 2 := by
  unfold Panel.planMerge at h ⊢
  simp only at h ⊢
  rw [guard_of_code_none h]
  exact doMerge_runs ..

end

end Sys2Proof.Proofs
end

section
/-! SUPPORT. What windows, waits, syncs and the sequencer's operations leave as they issue (R120, R128, R131, R137, R251, R271). -/

namespace Sys2Proof.Proofs

open Sys2Proof.Machine Sys2Proof.Laws

theorem bad_of_code_none {c : Prop} [Decidable c] {code : Nat} {plan : OpPlan} (h : (if c then OpPlan.bad code else plan).code = none) :
    (if c then OpPlan.bad code else plan) = plan := by
  split at h
  · cases h
  · rename_i hc
    exact if_neg hc

/-! ### Windows (R251) -/

theorem window_separate {c i : Nat} (hc : c < 4) (hi : i < 32) :
    Separate Csr.SPR_STATUS_COPY_BUSY (Csr.SPR_WSTATE_OPEN c i) ∧ Separate Csr.SPR_STATUS_COPY_BUSY (Csr.SPR_WSTATE_LANDED c i)
      ∧ Separate (Csr.SPR_WSTATE_OPEN c i) (Csr.SPR_WSTATE_LANDED c i) := by
  unfold Separate WordsApart Fld.place Csr.SPR_STATUS_COPY_BUSY Csr.SPR_WSTATE_OPEN Csr.SPR_WSTATE_LANDED
  simp only
  omega

section
variable (p : Panel) (s c : Nat) {g : Fld} (h : Separate Csr.SPR_STATUS_COPY_BUSY g)

theorem holdCopy_writes : (p.holdCopy s c).writes = p.writes := setField_writes ..

include h

theorem holdCopy_field : (p.holdCopy s c).field s g = p.field s g :=
  (field_setField_separate h _ s _).trans (modMover_field ..)

theorem holdCopy_isSet : (p.holdCopy s c).isSet s g = p.isSet s g := by
  unfold Panel.isSet
  rw [holdCopy_field p s c h]

end

section
variable {p : Panel} {s c w : Nat} (hc : c < 4)
include hc

/-- An issued WOPEN opens its window with nothing landed (R251). -/
theorem planWopen_opens (h : (p.planWopen s c w).code = none) (id : Nat) (q : Panel) :
    let r := (p.planWopen s c w).act id q
    r.isSet s (Csr.SPR_WSTATE_OPEN c (bitsOf w 53 5)) = true ∧ r.field s (Csr.SPR_WSTATE_LANDED c (bitsOf w 53 5)) = 0
      ∧ r.writes = q.writes := by
  obtain ⟨hopen, hlanded, hapart⟩ := window_separate hc (bitsOf_lt w 53 5)
  unfold Panel.planWopen at h ⊢
  simp only at h ⊢
  rw [guard_of_code_none h]
  simp only [holdCopy_isSet _ s c hopen, holdCopy_field _ s c hlanded, holdCopy_writes, field_setFlag_separate hapart,
    setFlag_writes, setField_writes]
  exact ⟨isSet_setFlag_same _ _ _ _ hapart.1.1 Nat.one_pos, (field_setField_same _ _ _ _ hapart.1.2).trans (Nat.zero_mod _), trivial⟩

/-- An issued WCLOSE leaves its window closed (R251). -/
theorem planWclose_closes (h : (p.planWclose s c w).code = none) (id : Nat) (q : Panel) :
    let r := (p.planWclose s c w).act id q
    r.isSet s (Csr.SPR_WSTATE_OPEN c (bitsOf w 53 5)) = false ∧ r.writes = q.writes := by
  obtain ⟨hopen, -, hapart⟩ := window_separate hc (bitsOf_lt w 53 5)
  unfold Panel.planWclose at h ⊢
  rw [guard_of_code_none h]
  simp only [holdCopy_isSet _ s c hopen, holdCopy_writes]
  split
  case isTrue => exact ⟨isSet_setFlag_same _ _ _ _ hapart.1.1 Nat.one_pos, closeWindow_writes ..⟩
  case isFalse hclosed => exact ⟨eq_false_of_ne_true hclosed, rfl⟩

end

/-! ### GWAIT (R271) -/

theorem galleyIndex_lt {c : Nat} (hc : c < 4) (w : Nat) : galIndex c (bitsOf w 56 2) < 16 := by
  have hg : bitsOf w 56 2 < 4 := bitsOf_lt w 56 2
  unfold galIndex
  omega

theorem cursor_fits {i : Nat} (h : i < 16) : FldFits (Csr.GAL_G_CURSOR i) := by
  unfold FldFits Csr.GAL_G_CURSOR
  simp only
  omega

/-- An issued GWAIT's cursor takes the effective target (R271). -/
theorem planGwait_issued {p : Panel} {s c w : Nat} (h : (p.planGwait s c w).code = none) : p.planGwait s c w =
    { act := fun _ q => q.setField s (Csr.GAL_G_CURSOR (galIndex c (bitsOf w 56 2))) (p.gwaitTarget s c w) } := by
  unfold Panel.planGwait at h ⊢
  exact guard_of_code_none h

/-! ### Sync waits (R128, R131) -/

section
variable {p : Panel} {s w : Nat}

/-- SWAITB (R128) moves its cursor as SWAIT does. -/
theorem planSync_swaitb (hop : slotOp w = 4) : p.planSync s w =
    { act := fun _ q => q.setField s (Csr.STK_SYNC_CUR (bitsOf w 50 8))
        (effTarget (bitOf w 32) (p.field s (Csr.STK_SYNC_CUR (bitsOf w 50 8))) (bitsOf w 0 32)) } := by
  unfold Panel.planSync
  simp only [hop]

/-- An issued SWAITW clears its slot's READY bit (R131). -/
theorem planSync_swaitw (hop : slotOp w = 6) (h : (p.planSync s w).code = none) : p.planSync s w =
    { act := fun _ q => q.setField s Csr.STK_SYNC_WSTATE_READY
        (putBits (q.field s Csr.STK_SYNC_WSTATE_READY) (bitsOf w 54 4) 1 0) } := by
  unfold Panel.planSync at h ⊢
  simp only [hop] at h ⊢
  exact bad_of_code_none h

/-! ### The sequencer -/

/-- An issued ENDS ends the stream (R124). -/
theorem planSequencer_ends_issued (m : Mem) (hop : slotOp w = 1) (h : (p.planSequencer m s w).code = none) :
    p.planSequencer m s w = { act := fun _ q => endStream q s w } := by
  rw [planSequencer_ends _ _ _ _ hop] at h ⊢
  exact bad_of_code_none h

/-- An issued LAUNCH starts its thread (R137). -/
theorem planSequencer_launch_issued (m : Mem) (hop : slotOp w = 2) (h : (p.planSequencer m s w).code = none) :
    p.planSequencer m s w =
      { act := fun _ q => q.launch ⟨s, bitsOf w 56 2, bitsOf w 53 3, bitsOf w 51 2⟩ (bitsOf w 37 14) (bitsOf w 0 32) } := by
  unfold Panel.planSequencer at h ⊢
  simp only [hop] at h ⊢
  exact bad_of_code_none h

/-- An issued PAGE loads its page (R120). -/
theorem planSequencer_page_issued (m : Mem) (hop : slotOp w = 3) (h : (p.planSequencer m s w).code = none) :
    p.planSequencer m s w = { act := fun _ q => q.loadPage m s (bitsOf w 57 1) (bitsOf w 41 16) } := by
  unfold Panel.planSequencer at h ⊢
  simp only [hop] at h ⊢
  exact bad_of_code_none h

/-- An issued JUMPP goes on at its target (R120). -/
theorem planSequencer_jumpp_issued (m : Mem) (hop : slotOp w = 4) (h : (p.planSequencer m s w).code = none) :
    p.planSequencer m s w = { act := fun _ q => q.goTo s (bitsOf w 57 1) (bitsOf w 43 14) } := by
  unfold Panel.planSequencer at h ⊢
  simp only [hop] at h ⊢
  have hplan := bad_of_code_none h
  rw [hplan] at h ⊢
  split at h
  · cases h
  · rfl

theorem planSequencer_waitl (m : Mem) (hop : slotOp w = 5) : p.planSequencer m s w = { act := fun _ q => q } := by
  unfold Panel.planSequencer
  simp only [hop]

end

/-- A thread as LAUNCH leaves it (R137). -/
def startedThread (h : Thread) (pc arg : Nat) : Thread := { h.setReg 1 (BitVec.ofNat 32 arg) false with pc := pc, stopped := false }

/-- A launched thread runs from its PC with its argument in register 1 (R137). -/
theorem launch_runs (p : Panel) {t : ThreadId} (ht : threadNo t < 128) (pc arg : Nat) :
    let q := p.launch t pc arg
    q.threadRuns t = true ∧ (q.thread t).pc = pc ∧ (q.thread t).stopped = false
      ∧ ((q.thread t).reg 1).1 = BitVec.ofNat 32 arg ∧ q.writes = p.writes := by
  have hthread : (p.launch t pc arg).thread t = startedThread (p.thread t) pc arg := by
    unfold Panel.launch Panel.markThread Panel.thread
    rw [setField_threads]
    exact smap_get_modify_same (fun _ => ({} : Thread)) p.threads (t.site * 128 + threadNo t) (startedThread · pc arg)
  refine ⟨bitOf_field_putBit _ _ (by unfold FldFits; decide) ht _ true, ?_, ?_, ?_, setField_writes ..⟩ <;> rw [hthread]
  · rfl
  · rfl
  · exact congrArg Prod.fst (reg_setReg_same (p.thread t) (r := 1) (by decide) _ false)

theorem goTo_seq (p : Panel) (s half i : Nat) : ((p.goTo s half i).seq s).half = half ∧ ((p.goTo s half i).seq s).pos = i := by
  have hseq : (p.goTo s half i).seq s = { p.seq s with half := half, pos := i } :=
    (seq_of_seqs (setField_seqs ..) s).trans (modSeq_same ..)
  rw [hseq]
  exact ⟨rfl, rfl⟩

theorem goTo_writes (p : Panel) (s half i : Nat) : (p.goTo s half i).writes = p.writes := setField_writes ..

end Sys2Proof.Proofs
end

section
/-! SUPPORT. What the issue of a galley's request leaves: its sequence numbers, and the pages of a sequencer (R120, R270). -/

namespace Sys2Proof.Proofs

open Sys2Proof.Machine Sys2Proof.Laws

/-! ### Registers -/

/-- The fields that a request writes after its sequence number is taken, beside the effects of a fault. -/
def galleyFlds : List Fld :=
  [Csr.GAL_FAULT, Csr.SPR_FAULT, Csr.SPR_PAR_LOG_ROW, Csr.SPR_PAR_LOG_CLUSTER, Csr.SPR_PAR_LOG_MASK, Csr.SPR_PAR_LOG_CYCLE,
    Csr.SPR_CTRL_PAR_INJECT, Csr.GAL_MD_STATUS_SLOTS] ++ (List.range 16).map Csr.GAL_G_COMPLETED

/-- A field that a request leaves once its sequence number is taken. -/
def BesideGalley (g : Fld) : Prop := Undisturbed g ∧ ∀ f ∈ galleyFlds, FldFits f ∧ WordsApart f g

theorem issued_besideGalley {i : Nat} (hi : i < 16) : BesideGalley (Csr.GAL_G_ISSUED i) := by
  have all : ∀ i < 16, BesideGalley (Csr.GAL_G_ISSUED i) := by
    unfold BesideGalley Undisturbed FldFits
    decide
  exact all i hi

/-! ### What keeps a register and the sequencers -/

/-- `q` has the sequencers of `p` and the field `g` of every die. -/
def Keeps (g : Fld) (p q : Panel) : Prop := (∀ x, q.field x g = p.field x g) ∧ q.seqs = p.seqs

section
variable {g : Fld}

theorem keeps_refl (p : Panel) : Keeps g p p := ⟨fun _ => rfl, rfl⟩

theorem keeps_trans {p q r : Panel} (h : Keeps g p q) (h' : Keeps g q r) : Keeps g p r :=
  ⟨fun x => (h'.1 x).trans (h.1 x), h'.2.trans h.2⟩

theorem keeps_of_csr {p q : Panel} (hcsr : q.csr = p.csr) (hseqs : q.seqs = p.seqs) : Keeps g p q :=
  ⟨fun x => field_of_csr hcsr x g, hseqs⟩

theorem keeps_ite {c : Prop} [Decidable c] {p q r : Panel} (hq : Keeps g p q) (hr : Keeps g p r) : Keeps g p (if c then q else r) := by
  split
  · exact hq
  · exact hr

theorem keeps_each {α : Type} (l : List α) {f : Panel → α → Panel} (h : ∀ p x, Keeps g p (f p x)) (p : Panel) :
    Keeps g p (p.each l f) := by
  unfold Panel.each
  exact List.foldlRecOn (motive := Keeps g p) _ _ (keeps_refl p) fun q hq x _ => keeps_trans hq (h q x)

end

section
variable {g : Fld} (hg : BesideGalley g) (p : Panel) (m : Mem) (s : Nat)

theorem keeps_tally (f : Fld) (n : Nat) : Keeps g p (p.tally s f n) := keeps_of_csr (tally_csr ..) (tally_seqs ..)

theorem keeps_put (w : MemWrite) : Keeps g p (p.put w) := keeps_of_csr rfl rfl

theorem keeps_send (n : NetMsg) : Keeps g p (p.send n) := keeps_of_csr rfl rfl

theorem keeps_setGalley (u : Nat) (l : List GalReq) : Keeps g p (p.setGalley s u l) := keeps_of_csr rfl rfl

theorem keeps_modMemDie (f : MemDie → MemDie) : Keeps g p (p.modMemDie s f) := keeps_of_csr rfl rfl

theorem keeps_drawBytes (tag n : Nat) : Keeps g p (p.drawBytes tag n).2 := by
  obtain ⟨k, hk⟩ := drawBytes_panel p tag n
  rw [hk]
  exact keeps_of_csr rfl rfl

include hg

theorem keeps_setField {f : Fld} (hf : f ∈ galleyFlds) (v : Nat) : Keeps g p (p.setField s f v) :=
  ⟨fun x => field_setField_apart p s f v x g (hg.2 f hf).1 hg.1.1 (hg.2 f hf).2, setField_seqs ..⟩

theorem keeps_raiseFor {code : Nat} {f : Fld} (hcode : faultReg code = some f) (hf : f ∈ galleyFlds) (sev : Severity)
    {reg : Option Nat} (hreg : ∀ n, reg = some n → n < 16) (cluster detail : Nat) :
    Keeps g p (p.raiseFor s code sev reg cluster detail) :=
  ⟨fun x => raiseFor_field_undisturbed p s code sev reg cluster detail x hcode hg.1 (hg.2 f hf).2 hreg, raiseFor_seqs ..⟩

/-- The faults of galleys and scratchpads. -/
theorem keeps_raiseAt {code : Nat} (hcode : code = 0x0720 ∨ code = 0x0805) (c : Nat) : Keeps g p (p.raiseAt s c code) := by
  rcases hcode with rfl | rfl <;>
    exact keeps_raiseFor hg p s rfl (by simp [galleyFlds]) _ (fun _ => regionOf_lt) _ _

theorem keeps_raise {code : Nat} (hcode : code = 0x0722 ∨ code = 0x0816) : Keeps g p (p.raise s code) := by
  rcases hcode with rfl | rfl <;>
    exact keeps_raiseFor hg p s rfl (by simp [galleyFlds]) _ (fun _ => regionOf_lt) _ _

theorem keeps_parityNote (c : Nat) (noted : Bool) (rows : List Nat) : Keeps g p (p.parityNote m s c noted rows) := by
  unfold Panel.parityNote
  simp only
  refine keeps_ite (keeps_refl p) (keeps_trans (keeps_each _ (fun p a => ?_) p)
    (keeps_trans (keeps_ite (keeps_refl _) (keeps_raiseAt hg _ _ (.inl rfl) _)) (keeps_ite (keeps_raise hg _ _ (.inl rfl)) (keeps_refl _))))
  refine keeps_trans (keeps_put p { addr := a, rows := 1, fox := some true, parity := none }) (keeps_trans ?_ (keeps_tally ..))
  iterate 3 refine keeps_trans ?_ (keeps_setField hg _ _ (by simp [galleyFlds]) _)
  exact keeps_setField hg _ _ (by simp [galleyFlds]) _

theorem keeps_readRows (c row n : Nat) : Keeps g p (p.readRows m s c row n).2 := keeps_parityNote hg ..

theorem keeps_landRows (c row : Nat) (rows : List Delivered) : Keeps g p (p.landRows s c row rows) := by
  unfold Panel.landRows
  simp only
  refine List.foldlRecOn (motive := fun q : Panel × Nat × Nat => Keeps g p q.1) _ _ ?_ fun q hq d _ => ?_
  · unfold Panel.parInject
    split
    · split
      · exact keeps_setField hg _ _ (by simp [galleyFlds]) _
      · exact keeps_refl p
    · exact keeps_refl p
  · split <;> exact keeps_trans hq (keeps_put ..)

/-! ### Galleys -/

theorem keeps_galComplete {k : GalKey} (hgal : k.galley < 4) : Keeps g p (p.galComplete k) := by
  have hset := keeps_setGalley (g := g) p k.site k.unit ((p.galley k.site k.unit).filter fun q => q.key ≠ k)
  unfold Panel.galComplete
  simp only
  split
  case isFalse => exact hset
  case isTrue hunit =>
    have hmem : Csr.GAL_G_COMPLETED (galIndex k.unit k.galley) ∈ galleyFlds :=
      List.mem_append_right _ (List.mem_map_of_mem (List.mem_range.mpr (by unfold galIndex; omega)))
    exact keeps_trans hset (keeps_setField hg _ _ hmem _)

theorem keeps_countSlots : Keeps g p (p.countSlots s) := by
  unfold Panel.countSlots
  simp only
  split
  · refine keeps_trans ?_ (keeps_raise hg _ _ (.inr rfl))
    exact keeps_trans (keeps_setField hg _ _ (by simp [galleyFlds]) _) (keeps_modMemDie ..)
  · exact keeps_setField hg _ _ (by simp [galleyFlds]) _

theorem keeps_openMark {k : Mark} (hregion : k.region < 16) : Keeps g p (p.openMark k) :=
  ⟨fun x => openMark_keeps_undisturbed hg.1 p k hregion x, by obtain ⟨_, _, _, _, _, h⟩ := raised_openMark p k; rw [h]⟩

theorem keeps_sendGalley (q : GalReq) : Keeps g p (p.sendGalley m q) := by
  unfold Panel.sendGalley
  simp only
  refine keeps_trans ?_ (keeps_ite (keeps_refl _) (keeps_countSlots hg ..))
  refine keeps_trans (keeps_setGalley ..) (keeps_ite (keeps_trans ?_ (keeps_send ..)) (keeps_send ..))
  have hread := fun p => keeps_readRows hg p m q.key.site q.key.unit q.row q.rows
  split
  case h_1 hregion => exact keeps_trans (hread _) (keeps_ite (keeps_openMark hg _ (regionOf_lt hregion)) (keeps_refl _))
  case h_2 => exact hread _

/-- A read that lands in a slice. -/
theorem keeps_landGalley {q : GalReq} (hunit : q.key.unit < 4) (hgal : q.key.galley < 4) (rows : List Delivered) :
    Keeps g p (p.landGalley q rows) := by
  unfold Panel.landGalley
  simp only [hunit, if_true]
  refine keeps_trans ?_ (keeps_galComplete hg _ hgal)
  exact keeps_ite (keeps_refl p) (keeps_trans (keeps_ite (keeps_tally ..) (keeps_refl p)) (keeps_landRows hg ..))

end

theorem keeps_foxedRows {g : Fld} (p : Panel) (tag n : Nat) : Keeps g p (p.foxedRows tag n).2 := keeps_drawBytes ..

/-- A request of a cluster's galley takes the number ISSUED, which goes on to the next (R270). -/
theorem issueGalley_issued (p : Panel) (m : Mem) {q : GalReq} (hunit : q.key.unit < 4) (hgal : q.key.galley < 4) :
    (p.issueGalley m q).field q.key.site (Csr.GAL_G_ISSUED (galIndex q.key.unit q.key.galley)) = (q.key.seq + 1) % 2 ^ 32 := by
  have hg : BesideGalley (Csr.GAL_G_ISSUED (galIndex q.key.unit q.key.galley)) := issued_besideGalley (by unfold galIndex; omega)
  have hrest : Keeps (Csr.GAL_G_ISSUED (galIndex q.key.unit q.key.galley))
      (p.setField q.key.site (Csr.GAL_G_ISSUED (galIndex q.key.unit q.key.galley)) (q.key.seq + 1)) (p.issueGalley m q) := by
    unfold Panel.issueGalley
    simp only [hunit, if_true]
    generalize hentry : Panel.setGalley _ _ _ _ = p'
    refine keeps_trans (hentry ▸ keeps_setGalley ..) (keeps_ite ?_ ?_)
    · refine keeps_trans (keeps_raiseAt hg p' q.key.site (.inr rfl) q.key.unit) ?_
      exact keeps_ite (keeps_galComplete hg _ hgal) (keeps_trans (keeps_foxedRows ..) (keeps_landGalley hg _ hunit hgal _))
    · exact keeps_ite (keeps_sendGalley hg ..) (keeps_ite (keeps_refl _) (keeps_tally ..))
  exact (hrest.1 _).trans (field_setField_same _ _ _ _ hg.1.1)

/-! ### Pages -/

/-- The pages of a sequencer that load and that are complete stay. -/
def PagesKept (s : Nat) (p q : Panel) : Prop := (q.seq s).loading = (p.seq s).loading ∧ (q.seq s).complete = (p.seq s).complete

section
variable {s : Nat}

theorem pagesKept_trans {p q r : Panel} (h : PagesKept s p q) (h' : PagesKept s q r) : PagesKept s p r :=
  ⟨h'.1.trans h.1, h'.2.trans h.2⟩

theorem pagesKept_of_seqs {p q : Panel} (h : q.seqs = p.seqs) : PagesKept s p q := by
  unfold PagesKept
  rw [seq_of_seqs h]
  exact ⟨rfl, rfl⟩

theorem pagesKept_ite {c : Prop} [Decidable c] {p q r : Panel} (hq : PagesKept s p q) (hr : PagesKept s p r) :
    PagesKept s p (if c then q else r) := by
  split
  · exact hq
  · exact hr

/-- Rows of a page that land in the line buffer leave its half loading (R121). -/
theorem pagesKept_landLine (p : Panel) (row : Nat) (rows : List Delivered) : PagesKept s p (p.landLine s row rows) := by
  have hwords (p : Panel) :
      (p.each rows.zipIdx fun p di => p.setWords s (0x100000 + 64 * (row + di.2)) (leNat di.1.data) 16).seqs = p.seqs :=
    each_keeps (·.seqs) _ (fun p di _ => by rw [setWords_eq]) p
  unfold Panel.landLine PagesKept
  simp only [modSeq_same]
  rw [seq_of_seqs (hwords p)]
  exact ⟨rfl, rfl⟩

theorem pagesKept_landGalley (p : Panel) {q : GalReq} (hsite : q.key.site = s) (hunit : ¬ q.key.unit < 4) (rows : List Delivered) :
    PagesKept s p (p.landGalley q rows) := by
  have hdone (p : Panel) : PagesKept s p (p.galComplete q.key) := by
    unfold Panel.galComplete
    simp only [hunit, if_false]
    exact pagesKept_of_seqs rfl
  unfold Panel.landGalley
  simp only [hunit, if_false]
  refine pagesKept_trans (pagesKept_ite (pagesKept_of_seqs rfl) ?_) (hdone _)
  rw [hsite]
  exact pagesKept_landLine ..

/-- A read of the line galley leaves the pages that load (R120). -/
theorem pagesKept_issueGalley (p : Panel) (m : Mem) {q : GalReq} (hsite : q.key.site = s) (hunit : ¬ q.key.unit < 4)
    (hread : q.write = false) : PagesKept s p (p.issueGalley m q) := by
  have hsend (p : Panel) : (p.sendGalley m q).seqs = p.seqs := (keeps_sendGalley (issued_besideGalley (i := 0) (by decide)) p m q).2
  have hdrawn (p : Panel) (tag n : Nat) : (p.foxedRows tag n).2.seqs = p.seqs := (keeps_foxedRows (g := Csr.GAL_FAULT) p tag n).2
  unfold Panel.issueGalley
  simp only [hunit, hread, if_false, Bool.false_eq_true]
  generalize hentry : Panel.setGalley _ _ _ _ = p'
  have hkept : PagesKept s p p' := hentry ▸ pagesKept_of_seqs rfl
  refine pagesKept_trans hkept (pagesKept_ite ?_ ?_)
  · refine pagesKept_trans (pagesKept_of_seqs (raiseAt_seqs p' q.key.site 0 0x0805)) ?_
    exact pagesKept_trans (pagesKept_of_seqs (hdrawn ..)) (pagesKept_landGalley _ hsite hunit _)
  · exact pagesKept_ite (pagesKept_of_seqs (hsend p')) (pagesKept_ite (pagesKept_of_seqs rfl) (pagesKept_of_seqs (tally_seqs ..)))

theorem nth_setNth_false (l : List Bool) (i : Nat) : nth (setNth l i false) i false = false := by
  by_cases h : i < l.length
  · exact nth_setNth_same l h false false
  · simp [nth, setNth, h]

theorem pagesKept_each {α : Type} (l : List α) {f : Panel → α → Panel} (h : ∀ p x, PagesKept s p (f p x)) (p : Panel) :
    PagesKept s p (p.each l f) := by
  unfold Panel.each
  exact List.foldlRecOn (motive := PagesKept s p) _ _ ⟨rfl, rfl⟩ fun q hq x _ => pagesKept_trans hq (h q x)

theorem seqStatus_seqs (p : Panel) (x : Nat) : (p.seqStatus x).seqs = p.seqs := by
  unfold Panel.seqStatus
  simp only [setField_seqs, setFlag_seqs]

/-- Read `i` of the 64 that load a page (R120). -/
def lineRead (s half base first i : Nat) : GalReq :=
  { key := ⟨s, 4, 0, first + i⟩, write := false, host := false, trace := 0, addr := base + 1024 * i,
    row := 1024 * half + 16 * i, rows := 16 }

/-- A page that loads into a half has that half loading and not complete (R120). -/
theorem loadPage_seq (p : Panel) (m : Mem) (half page : Nat) :
    (half < (p.seq s).loading.length → nth ((p.loadPage m s half page).seq s).loading half false = true)
      ∧ nth ((p.loadPage m s half page).seq s).complete half false = false := by
  have hload : ((p.loadPage m s half page).seq s).loading = setNth (p.seq s).loading half true
      ∧ ((p.loadPage m s half page).seq s).complete = setNth (p.seq s).complete half false := by
    unfold Panel.loadPage
    simp only
    generalize hshown : ite (half = 0) _ _ = p'
    have hseqs : p'.seqs = p.seqs := by
      rw [← hshown]
      split <;> exact setField_seqs ..
    obtain ⟨hloading, hcomplete⟩ := pagesKept_trans (pagesKept_each (List.range 64)
      (fun p i => pagesKept_issueGalley (s := s) p m
        (q := lineRead s half (p'.field s Csr.STK_SEQ_IMAGE + 65536 * page) (p'.seq s).nextOp i)
        rfl (Nat.lt_irrefl 4) rfl)
      (p'.modSeq s fun q =>
        { q with complete := setNth q.complete half false, foxed := setNth q.foxed half false,
                 loading := setNth q.loading half true, readsLeft := setNth q.readsLeft half 64,
                 nextOp := (p'.seq s).nextOp + 64 })) (pagesKept_of_seqs (seqStatus_seqs _ s))
    exact ⟨hloading.trans (by rw [modSeq_same, seq_of_seqs hseqs]), hcomplete.trans (by rw [modSeq_same, seq_of_seqs hseqs])⟩
  rw [hload.1, hload.2]
  exact ⟨fun h => nth_setNth_same _ h _ _, nth_setNth_false _ _⟩

end

end Sys2Proof.Proofs
end

section
/-! SUPPORT. What a galley's request and a mesh operation leave as they issue (R270, R294, R295). -/

namespace Sys2Proof.Proofs

open Sys2Proof.Machine Sys2Proof.Laws

/-- An issued GREAD or GWRITE is a request of its galley under the number ISSUED (R270). -/
theorem planGalley_issues {p : Panel} {m : Mem} {s c w : Nat} {write : Bool} (h : (p.planGalley m s c w write).code = none) (id : Nat)
    (q : Panel) : ∃ (q' : Panel) (r : GalReq), (p.planGalley m s c w write).act id q = q'.issueGalley m r
      ∧ r.key = ⟨s, c, bitsOf w 56 2, p.field s (Csr.GAL_G_ISSUED (galIndex c (bitsOf w 56 2)))⟩ := by
  unfold Panel.planGalley at h ⊢
  simp only at h ⊢
  rw [guard_of_code_none h]
  exact ⟨_, _, rfl, rfl⟩

theorem planGalley_issued {p : Panel} {m : Mem} {s c w : Nat} {write : Bool} (hc : c < 4)
    (h : (p.planGalley m s c w write).code = none) (id : Nat) (q : Panel) :
    ((p.planGalley m s c w write).act id q).field s (Csr.GAL_G_ISSUED (galIndex c (bitsOf w 56 2)))
      = (p.field s (Csr.GAL_G_ISSUED (galIndex c (bitsOf w 56 2))) + 1) % 2 ^ 32 := by
  obtain ⟨q', r, hact, hkey⟩ := planGalley_issues h id q
  have hissued := issueGalley_issued q' m (q := r) (by rw [hkey]; exact hc) (by rw [hkey]; exact bitsOf_lt w 56 2)
  rw [hkey] at hissued
  rw [hact]
  exact hissued

/-! ### Counts -/

section
variable (p : Panel) (s : Nat)

/-- A count leaves the counts in lower words. -/
theorem tallyOf_tally_below {f g : Fld} (h : g.place.1 / 4 + g.place.2.2 ≤ f.place.1 / 4) (k : Nat) :
    (p.tally s f k).tallyOf s g = p.tallyOf s g := by
  have hwords (o n v : Nat) (hn : o / 4 + n ≤ f.place.1 / 4) :
      (p.setTallyWords s f.place.1 v f.place.2.2).tallyWords s o n = p.tallyWords s o n := by
    induction n generalizing o with
    | zero => rfl
    | succ n ih =>
      simp only [Panel.tallyWords]
      rw [ih _ (by omega), tallyWord_setTallyWords_below _ _ _ _ _ _ (by omega)]
  unfold Panel.tallyOf Panel.tally
  simp only [hwords _ _ _ h]

theorem setBoard_tallies (c : Nat) (l : List SbEntry) : (p.setBoard s c l).tallies = p.tallies := setField_tallies ..

theorem retire_tallies (id : Nat) : (p.retire s id).tallies = p.tallies :=
  each_keeps (·.tallies) _ (fun p _ _ => ite_keeps (·.tallies) (setBoard_tallies p s ..)) p

theorem touch_tallies (c off n : Nat) : (p.touch s c off n).tallies = p.tallies :=
  (each_keeps (·.tallies) _ (fun _ _ _ => setFlag_tallies ..) _).trans rfl

theorem register_tallies (id : Nat) (rs : List SbReq) : (p.register s id rs).tallies = p.tallies := by
  refine each_keeps (·.tallies) _ (fun p r _ => ?_) p
  simp only [apply_ite Panel.tallies, touch_tallies, setBoard_tallies, ite_self]

/-- Rows with bad parity are counted in words above the mesh's counts. -/
theorem parityNote_tallyOf (m : Mem) (c : Nat) (noted : Bool) (rows : List Nat) {g : Fld}
    (h : g.place.1 / 4 + g.place.2.2 ≤ 0x70000 / 4) :
    (p.parityNote m s c noted rows).tallyOf s g = p.tallyOf s g := by
  have hnote (p : Panel) : (p.tally s (Csr.SPR_C_PAR c) 1).tallyOf s g = p.tallyOf s g :=
    tallyOf_tally_below p s (by unfold Fld.place Csr.SPR_C_PAR at *; simp only at *; omega) 1
  have hkept {p q : Panel} (hq : q.tallies = p.tallies) : q.tallyOf s g = p.tallyOf s g := tallyOf_of_tallies hq s g
  have hraised (q : Panel) : (if noted then q else q.raiseAt s c 0x0720).tallies = q.tallies := by
    split
    · rfl
    · exact raiseAt_tallies ..
  unfold Panel.parityNote
  simp only
  split
  case isTrue => rfl
  case isFalse =>
    refine (hkept (raiseIf_tallies ..)).trans ((hkept (hraised _)).trans ?_)
    refine each_keeps (·.tallyOf s g) rows (fun p a _ => (hnote _).trans (hkept ?_)) p
    simp only [setField_tallies]
    rfl

end

/-! ### The mesh -/

theorem sendUnit_tallies (p : Panel) (s b k : Nat) (u : Flit) : (p.sendUnit s b k u).tallies = p.tallies := by
  unfold Panel.sendUnit Panel.sendReplayable
  simp only
  exact (told_tallies (told_sendFrame _ _ _ _)).trans rfl

theorem sent_below : Csr.FAB_MESH_LAST_SENT.place.1 / 4 + Csr.FAB_MESH_LAST_SENT.place.2.2 ≤ 0x70000 / 4 := by decide

/-- A row sent is counted once (R294). -/
theorem meshSend_tallyOf (p : Panel) (m : Mem) (s : Nat) (o : MeshOp) :
    (p.meshSend m s o).tallyOf s Csr.FAB_MESH_LAST_SENT
      = min (2 ^ Csr.FAB_MESH_LAST_SENT.width - 1) (p.tallyOf s Csr.FAB_MESH_LAST_SENT + 1) := by
  have hnote := parityNote_tallyOf p s m o.cluster o.noted (p.badRow m s o.cluster (o.row + o.done)) (g := Csr.FAB_MESH_LAST_SENT)
    sent_below
  rw [← hnote, ← tallyOf_tally_same]
  refine tallyOf_of_tallies ?_ _ _
  unfold Panel.meshSend
  simp only
  split
  · rfl
  · exact sendUnit_tallies ..

/-- A row read is counted once (R295). -/
theorem meshRead_tallyOf (p : Panel) (s : Nat) (o : MeshOp) :
    (p.meshRead s o).1.tallyOf s Csr.FAB_MESH_LAST_READ
      = min (2 ^ Csr.FAB_MESH_LAST_READ.width - 1) (p.tallyOf s Csr.FAB_MESH_LAST_READ + 1) := by
  have hcredit (p : Panel) (ws : List MeshWord) : ((p.setMeshBuf s o.bundle ws).returnCredit s o.bundle 6).tallies = p.tallies :=
    (told_tallies (told_returnCredit (p.setMeshBuf s o.bundle ws) s o.bundle 6)).trans rfl
  rw [← tallyOf_tally_same]
  refine tallyOf_of_tallies ?_ _ _
  unfold Panel.meshRead
  simp only
  split
  · rfl
  · split
    · rfl
    · split
      · exact (raiseAt_tallies ..).trans (hcredit ..)
      · split
        · exact (raiseAt_tallies ..).trans (hcredit ..)
        · exact hcredit ..

section
variable {p : Panel} {m : Mem} {s c w : Nat}

theorem setRunning_tallies (p : Panel) (s : Nat) (l : List MeshOp) : (p.setRunning s l).tallies = p.tallies := rfl

/-- An issued MSEND sends its first row (R294). -/
theorem planMesh_sends (h : (p.planMesh m s c w false).code = none) (id : Nat) (q : Panel) :
    ∃ o : MeshOp, ((p.planMesh m s c w false).act id q).tallies = (q.meshSend m s o).tallies := by
  unfold Panel.planMesh at h ⊢
  simp only at h ⊢
  rw [guard_of_code_none h]
  simp only [apply_ite Panel.tallies, retire_tallies, setRunning_tallies, ite_self, Bool.false_eq_true, if_false]
  exact ⟨_, rfl⟩

/-- An issued MRECV reads its first row (R295). -/
theorem planMesh_reads (h : (p.planMesh m s c w true).code = none) (id : Nat) (q : Panel) :
    ∃ o : MeshOp, ((p.planMesh m s c w true).act id q).tallies = (q.meshRead s o).1.tallies := by
  unfold Panel.planMesh at h ⊢
  simp only at h ⊢
  rw [guard_of_code_none h]
  simp only [apply_ite Panel.tallies, retire_tallies, setRunning_tallies, ite_self, if_true]
  exact ⟨_, rfl⟩

end

end Sys2Proof.Proofs
end

section
/-! SUPPORT. How each slot operation issues, and what it leaves (R111, R120 to R124, R128 to R131, R175, R222, R244, R270, R294). -/

namespace Sys2Proof.Proofs

open Sys2Proof.Machine Sys2Proof.Laws

/-! ### Plans by their opcode -/

section
variable {p : Panel} {m : Mem} {s c w : Nat} {x : Option Nat}

theorem planDense_wload (h : slotOp w = 1) : p.planDense m s c w x = p.planWload m s c w x := by
  simp only [Panel.planDense, show bitsOf w 58 6 = 1 from h]

theorem planDense_stream (h : slotOp w = 2) : p.planDense m s c w x = p.planStream m s c 0 w x := by
  simp only [Panel.planDense, show bitsOf w 58 6 = 2 from h]

theorem planDense_drain (h : slotOp w = 3) : p.planDense m s c w x = p.planDrain s c 0 w := by
  simp only [Panel.planDense, show bitsOf w 58 6 = 3 from h]

theorem planDense_ainit (h : slotOp w = 4) : p.planDense m s c w x = p.planInit m s c 0 w := by
  simp only [Panel.planDense, show bitsOf w 58 6 = 4 from h]

theorem planSparse_sload (h : slotOp w = 1) : p.planSparse m s c w x = p.planSload m s c w x := by
  simp only [Panel.planSparse, show bitsOf w 58 6 = 1 from h]

theorem planSparse_sstream (h : slotOp w = 2) : p.planSparse m s c w x = p.planStream m s c 1 w x := by
  simp only [Panel.planSparse, show bitsOf w 58 6 = 2 from h]

theorem planSparse_sdrain (h : slotOp w = 3) : p.planSparse m s c w x = p.planDrain s c 1 w := by
  simp only [Panel.planSparse, show bitsOf w 58 6 = 3 from h]

theorem planSparse_sainit (h : slotOp w = 4) : p.planSparse m s c w x = p.planInit m s c 1 w := by
  simp only [Panel.planSparse, show bitsOf w 58 6 = 4 from h]

theorem planMover_copy (h : slotOp w = 1) : p.planMover m s c w x = p.planCopy m s c w := by
  simp only [Panel.planMover, h, Panel.planScratch, show bitsOf w 58 6 = 1 from h]

theorem planMover_zero (h : slotOp w = 2) : p.planMover m s c w x = p.planZero s c w := by
  simp only [Panel.planMover, h, Panel.planScratch, show bitsOf w 58 6 = 2 from h]

theorem planMover_store (h : slotOp w = 3) : p.planMover m s c w x = p.planStore m s c w x := by
  simp only [Panel.planMover, h, Panel.planScratch, show bitsOf w 58 6 = 3 from h]

theorem planMover_cstore (h : slotOp w = 4) : p.planMover m s c w x = p.planCstore m s c w := by
  simp only [Panel.planMover, h, Panel.planScratch, show bitsOf w 58 6 = 4 from h]

theorem planMover_put (h : slotOp w = 5) : p.planMover m s c w x = p.planPut s c w x := by
  simp only [Panel.planMover, h, Panel.planScratch, show bitsOf w 58 6 = 5 from h]

theorem planMover_wopen (h : slotOp w = 6) : p.planMover m s c w x = p.planWopen s c w := by
  simp only [Panel.planMover, h, Panel.planScratch, show bitsOf w 58 6 = 6 from h]

theorem planMover_wclose (h : slotOp w = 7) : p.planMover m s c w x = p.planWclose s c w := by
  simp only [Panel.planMover, h, Panel.planScratch, show bitsOf w 58 6 = 7 from h]

theorem planMover_gread (h : slotOp w = 0x10) : p.planMover m s c w x = p.planGalley m s c w false := by
  simp only [Panel.planMover, h]

theorem planMover_gwrite (h : slotOp w = 0x11) : p.planMover m s c w x = p.planGalley m s c w true := by
  simp only [Panel.planMover, h]

theorem planMover_gwait (h : slotOp w = 0x12) : p.planMover m s c w x = p.planGwait s c w := by
  simp only [Panel.planMover, h]

theorem planMover_msend (h : slotOp w = 0x20) : p.planMover m s c w x = p.planMesh m s c w false := by
  simp only [Panel.planMover, h]

theorem planMover_mrecv (h : slotOp w = 0x21) : p.planMover m s c w x = p.planMesh m s c w true := by
  simp only [Panel.planMover, h]

theorem planMover_tsend (h : slotOp w = 0x22) : p.planMover m s c w x = p.planTsend s c w := by
  simp only [Panel.planMover, h]

theorem planMover_gdrain (h : slotOp w = 0x13) : p.planMover m s c w x = { act := fun _ q => q } := by
  simp only [Panel.planMover, h]

theorem planSlot12_gate (h : slotOp w = 1) : p.planSlot12 m s w x = p.planGate m s w x := by
  simp only [Panel.planSlot12, show bitsOf w 58 6 = 1 from h]

theorem planSlot12_just (h : slotOp w = 2) : p.planSlot12 m s w x = p.planJust m s w := by
  simp only [Panel.planSlot12, show bitsOf w 58 6 = 2 from h]

theorem planSlot12_merge (h : slotOp w = 3) : p.planSlot12 m s w x = p.planMerge m s w := by
  simp only [Panel.planSlot12, show bitsOf w 58 6 = 3 from h]

end

section
variable {s : State} {i : Instr} {site c op : Nat} {w : BitVec 58} {x : Option (BitVec 54)} {post : Nat → State → Prop} {plan : OpPlan}
  (hop0 : op ≠ 0) (hop : op < 64)
include hop0 hop

section
variable (hc : c < 4) (hpost : plan.code = none → post (slotWordOf op w) (State.issued s site plan))
include hc hpost

theorem leaves_dense (hx : exec i s = s.slot site (0 + c) op w x)
    (hplan : slotOp (slotWordOf op w) = op → s.seen.planDense s.mem site c (slotWordOf op w) (x.map BitVec.toNat) = plan) :
    Leaves s i site c op w x post := by
  rw [Nat.zero_add] at hx
  exact leaves_of_plan hx (by omega) hop0 hop (fun h => (planSlot_dense hc h).trans (hplan (slotOp_slotWordOf hop w))) hpost

theorem leaves_sparse (hx : exec i s = s.slot site (4 + c) op w x)
    (hplan : slotOp (slotWordOf op w) = op → s.seen.planSparse s.mem site c (slotWordOf op w) (x.map BitVec.toNat) = plan) :
    Leaves s i site (4 + c) op w x post :=
  leaves_of_plan hx (by omega) hop0 hop (fun h => (planSlot_sparse hc h).trans (hplan (slotOp_slotWordOf hop w))) hpost

theorem leaves_mover (hx : exec i s = s.slot site (8 + c) op w x)
    (hplan : slotOp (slotWordOf op w) = op → s.seen.planMover s.mem site c (slotWordOf op w) (x.map BitVec.toNat) = plan) :
    Leaves s i site (8 + c) op w x post :=
  leaves_of_plan hx (by omega) hop0 hop (fun h => (planSlot_mover hc h).trans (hplan (slotOp_slotWordOf hop w))) hpost

end

theorem leaves_slot12 (hpost : plan.code = none → post (slotWordOf op w) (State.issued s site plan))
    (hx : exec i s = s.slot site 12 op w x)
    (hplan : slotOp (slotWordOf op w) = op → s.seen.planSlot12 s.mem site (slotWordOf op w) (x.map BitVec.toNat) = plan) :
    Leaves s i site 12 op w x post :=
  leaves_of_plan hx (by decide) hop0 hop (fun _ => planSlot_slot12.trans (hplan (slotOp_slotWordOf hop w))) hpost

section
variable (hpost : post (slotWordOf op w) (State.issued s site plan))
include hpost

theorem leaves_sync (hx : exec i s = s.slot site 13 op w x)
    (hplan : slotOp (slotWordOf op w) = op → (s.seen.planSync site (slotWordOf op w)).code = none →
      s.seen.planSync site (slotWordOf op w) = plan) : Leaves s i site 13 op w x post := by
  refine leaves_of_plan hx (by decide) hop0 hop (fun h => ?_) fun _ => hpost
  rw [planSlot_sync] at h ⊢
  exact hplan (slotOp_slotWordOf hop w) h

theorem leaves_sequencer (hx : exec i s = s.slot site 14 op w x)
    (hplan : slotOp (slotWordOf op w) = op → (s.seen.planSequencer s.mem site (slotWordOf op w)).code = none →
      s.seen.planSequencer s.mem site (slotWordOf op w) = plan) : Leaves s i site 14 op w x post := by
  refine leaves_of_plan hx (by decide) hop0 hop (fun h => ?_) fun _ => hpost
  rw [planSlot_sequencer] at h ⊢
  exact hplan (slotOp_slotWordOf hop w) h

end

end

/-! ### The state after an issue -/

section
variable {s : State} {site : Nat} {plan : OpPlan}

theorem issuing_engine (p : Panel) (rs : List SbReq) (x c e : Nat) : (issuing p site rs).engine x c e = p.engine x c e :=
  (beside_engine (beside_register ..) x c e).trans rfl

theorem issuing_tallies (p : Panel) (rs : List SbReq) : (issuing p site rs).tallies = p.tallies := register_tallies ..

theorem issued_runs {c e : Nat} {k : EngineKind}
    (h : ∀ id q, ∃ o ∈ ((plan.act id q).engine site c e).ops, o.id = id ∧ o.kind = k) :
    ∃ o ∈ ((State.issued s site plan).p.engine site c e).ops, o.id = (s.seen.seq site).nextOp ∧ o.kind = k := h _ _

theorem issued_loads {c e b : Nat} (h : ∀ id (q : Panel), b < (q.engine site c e).banks.length →
      (((plan.act id q).engine site c e).bank b).loading = true
        ∧ ∃ o ∈ ((plan.act id q).engine site c e).ops, o.id = id ∧ o.kind = .load)
    (hbank : b < (s.seen.engine site c e).banks.length) :
    (((State.issued s site plan).p.engine site c e).bank b).loading = true
      ∧ ∃ o ∈ ((State.issued s site plan).p.engine site c e).ops, o.id = (s.seen.seq site).nextOp ∧ o.kind = .load :=
  h _ (issuing s.seen site plan.reqs) (by rwa [issuing_engine])

theorem issued_moves {c : Nat} (h : ∀ id q, ∃ o ∈ ((plan.act id q).mover site c).ops, o.id = id) :
    ∃ o ∈ ((State.issued s site plan).p.mover site c).ops, o.id = (s.seen.seq site).nextOp := h _ _

theorem issued_lands {c : Nat} {good : MoverOp → Prop}
    (h : ∀ id q, ∃ o ∈ ((plan.act id q).mover site c).ops, o.id = id ∧ good o) :
    ∃ o ∈ ((State.issued s site plan).p.mover site c).ops, o.id = (s.seen.seq site).nextOp ∧ good o := h _ _

theorem issued_waits {c : Nat} {good : PutReq → Prop}
    (h : ∀ id q, ∃ r ∈ ((plan.act id q).mover site c).outbound, r.id = id ∧ good r) :
    ∃ r ∈ ((State.issued s site plan).p.mover site c).outbound, r.id = (s.seen.seq site).nextOp ∧ good r := h _ _

theorem issued_twelve {u : Nat} (h : ∀ id q, ∃ o ∈ (plan.act id q).slot12Ops site, o.id = id ∧ o.unit = u) :
    ∃ o ∈ (State.issued s site plan).p.slot12Ops site, o.id = (s.seen.seq site).nextOp ∧ o.unit = u := h _ _

/-- An operation that lists no write leaves memory. -/
theorem issued_mem (h : ∀ id q, (plan.act id q).writes = q.writes) : (State.issued s site plan).mem = s.mem :=
  store_mem_of_writes _ _ ((h _ _).trans ((beside_writes (beside_register ..)).trans rfl))

theorem issued_field (x : Nat) (g : Fld) : (State.issued s site plan).p.field x g =
    (plan.act (s.seen.seq site).nextOp (issuing s.seen site plan.reqs)).field x g := store_field ..

theorem issued_isSet (x : Nat) (g : Fld) : (State.issued s site plan).p.isSet x g =
    (plan.act (s.seen.seq site).nextOp (issuing s.seen site plan.reqs)).isSet x g := store_isSet ..

theorem issued_seq (x : Nat) : (State.issued s site plan).p.seq x =
    (plan.act (s.seen.seq site).nextOp (issuing s.seen site plan.reqs)).seq x := rfl

theorem issued_tallyOf (x : Nat) (g : Fld) : (State.issued s site plan).p.tallyOf x g =
    (plan.act (s.seen.seq site).nextOp (issuing s.seen site plan.reqs)).tallyOf x g := store_tallyOf ..

theorem issued_thread (t : ThreadId) : (State.issued s site plan).p.thread t =
    (plan.act (s.seen.seq site).nextOp (issuing s.seen site plan.reqs)).thread t := rfl

theorem issuing_tallyOf (rs : List SbReq) (x : Nat) (g : Fld) : (issuing s.seen site rs).tallyOf x g = s.p.tallyOf x g :=
  (tallyOf_of_tallies (issuing_tallies ..) x g).trans (seen_tallyOf ..)

end

section
variable {s : State} {site c w : Nat}

theorem issued_opens (hc : c < 4) (h : (s.seen.planWopen site c w).code = none) :
    let t := State.issued s site (s.seen.planWopen site c w)
    t.p.isSet site (Csr.SPR_WSTATE_OPEN c (bitsOf w 53 5)) = true ∧ t.p.field site (Csr.SPR_WSTATE_LANDED c (bitsOf w 53 5)) = 0
      ∧ t.mem = s.mem := by
  have hopens := planWopen_opens hc h
  exact ⟨(issued_isSet ..).trans (hopens _ _).1, (issued_field ..).trans (hopens _ _).2.1, issued_mem fun id q => (hopens id q).2.2⟩

theorem issued_closes (hc : c < 4) (h : (s.seen.planWclose site c w).code = none) :
    let t := State.issued s site (s.seen.planWclose site c w)
    t.p.isSet site (Csr.SPR_WSTATE_OPEN c (bitsOf w 53 5)) = false ∧ t.mem = s.mem := by
  have hcloses := planWclose_closes hc h
  exact ⟨(issued_isSet ..).trans (hcloses _ _).1, issued_mem fun id q => (hcloses id q).2⟩

theorem issued_requests (hc : c < 4) {write : Bool} (h : (s.seen.planGalley s.mem site c w write).code = none) :
    (State.issued s site (s.seen.planGalley s.mem site c w write)).p.field site (Csr.GAL_G_ISSUED (galIndex c (bitsOf w 56 2)))
      = (s.p.field site (Csr.GAL_G_ISSUED (galIndex c (bitsOf w 56 2))) + 1) % 2 ^ 32 := by
  rw [issued_field, planGalley_issued hc h, seen_field]

theorem issued_gwait (hc : c < 4) (h : (s.seen.planGwait site c w).code = none) :
    let t := State.issued s site (s.seen.planGwait site c w)
    t.mem = s.mem ∧ t.p.field site (Csr.GAL_G_CURSOR (galIndex c (bitsOf w 56 2))) = s.seen.gwaitTarget site c w % 2 ^ 32 := by
  rw [planGwait_issued h]
  exact ⟨issued_mem fun _ _ => setField_writes ..,
    (issued_field ..).trans (field_setField_same _ _ _ _ (cursor_fits (galleyIndex_lt hc w)))⟩

theorem issued_sends (h : (s.seen.planMesh s.mem site c w false).code = none) :
    (State.issued s site (s.seen.planMesh s.mem site c w false)).p.tallyOf site Csr.FAB_MESH_LAST_SENT
      = min (2 ^ Csr.FAB_MESH_LAST_SENT.width - 1) (s.p.tallyOf site Csr.FAB_MESH_LAST_SENT + 1) := by
  obtain ⟨o, ho⟩ := planMesh_sends h (s.seen.seq site).nextOp (issuing s.seen site (s.seen.planMesh s.mem site c w false).reqs)
  rw [issued_tallyOf, tallyOf_of_tallies ho, meshSend_tallyOf, issuing_tallyOf]

theorem issued_reads (h : (s.seen.planMesh s.mem site c w true).code = none) :
    (State.issued s site (s.seen.planMesh s.mem site c w true)).p.tallyOf site Csr.FAB_MESH_LAST_READ
      = min (2 ^ Csr.FAB_MESH_LAST_READ.width - 1) (s.p.tallyOf site Csr.FAB_MESH_LAST_READ + 1) := by
  obtain ⟨o, ho⟩ := planMesh_reads h (s.seen.seq site).nextOp (issuing s.seen site (s.seen.planMesh s.mem site c w true).reqs)
  rw [issued_tallyOf, tallyOf_of_tallies ho, meshRead_tallyOf, issuing_tallyOf]

/-- A sync wait that passes moves its cursor to the effective target. -/
theorem issued_cursor {relative : Bool} {target : Nat} :
    let t := State.issued s site
      { act := fun _ q => q.setField site (Csr.STK_SYNC_CUR (bitsOf w 50 8))
                            (effTarget relative (s.seen.field site (Csr.STK_SYNC_CUR (bitsOf w 50 8))) target) }
    t.p.field site (Csr.STK_SYNC_CUR (bitsOf w 50 8))
      = effTarget relative (s.p.field site (Csr.STK_SYNC_CUR (bitsOf w 50 8))) target % 2 ^ 32 := by
  rw [← seen_field]
  exact (issued_field ..).trans (field_setField_same _ _ _ _ (cursor_besideAnswers (bitsOf_lt w 50 8)).1.1.2)

theorem issued_swaitw :
    let t := State.issued s site
      { act := fun _ q => q.setField site Csr.STK_SYNC_WSTATE_READY
                            (putBits (q.field site Csr.STK_SYNC_WSTATE_READY) (bitsOf w 54 4) 1 0) }
    bitOf (t.p.field site Csr.STK_SYNC_WSTATE_READY) (bitsOf w 54 4) = false ∧ t.mem = s.mem := by
  have hclear (q : Panel) := bitOf_field_putBit q site (f := Csr.STK_SYNC_WSTATE_READY) (by unfold FldFits; decide) (bitsOf_lt w 54 4)
    (q.field site Csr.STK_SYNC_WSTATE_READY) false
  exact ⟨(congrArg (bitOf · (bitsOf w 54 4)) (issued_field ..)).trans (hclear _), issued_mem fun _ _ => setField_writes ..⟩

theorem issued_ends : let t := State.issued s site { act := fun _ q => endStream q site w }
    (t.p.seq site).ended = true ∧ (t.p.seq site).nextEntry = bitsOf w 53 4 ∧ t.p.isSet site Csr.STK_SEQ_STATUS_ISSUING = false
      ∧ t.mem = s.mem := by
  refine ⟨?_, ?_, (issued_isSet ..).trans (endStream_isSet ..), issued_mem fun _ _ => endStream_writes ..⟩ <;>
    simp only [issued_seq, endStream_seq]

theorem issued_launch : let h : ThreadId := ⟨site, bitsOf w 56 2, bitsOf w 53 3, bitsOf w 51 2⟩
    let t := State.issued s site { act := fun _ q => q.launch h (bitsOf w 37 14) (bitsOf w 0 32) }
    t.p.threadRuns h = true ∧ (t.p.thread h).pc = bitsOf w 37 14 ∧ (t.p.thread h).stopped = false
      ∧ ((t.p.thread h).reg 1).1 = BitVec.ofNat 32 (bitsOf w 0 32) ∧ t.mem = s.mem := by
  intro h t
  have hno : threadNo h < 128 := by
    have hcluster : bitsOf w 56 2 < 4 := bitsOf_lt w 56 2
    have hcore : bitsOf w 53 3 < 8 := bitsOf_lt w 53 3
    have hthread : bitsOf w 51 2 < 4 := bitsOf_lt w 51 2
    unfold threadNo
    simp only [h]
    omega
  have hruns := fun q => launch_runs q hno (bitsOf w 37 14) (bitsOf w 0 32)
  obtain ⟨hrun, hpc, hstopped, harg, -⟩ := hruns (issuing s.seen site [])
  refine ⟨(congrArg (bitOf · (threadNo h)) (issued_field ..)).trans hrun, ?_, ?_, ?_, issued_mem fun _ q => (hruns q).2.2.2.2⟩
  · exact (congrArg Thread.pc (issued_thread h)).trans hpc
  · exact (congrArg Thread.stopped (issued_thread h)).trans hstopped
  · exact (congrArg (fun g : Thread => (g.reg 1).1) (issued_thread h)).trans harg

theorem issued_page (m : Mem) (half page : Nat) (h : half < (s.seen.seq site).loading.length) :
    let t := State.issued s site { act := fun _ q => q.loadPage m site half page }
    nth (t.p.seq site).loading half false = true ∧ nth (t.p.seq site).complete half false = false := by
  intro t
  have hseq : ((issuing s.seen site []).seq site).loading = (s.seen.seq site).loading := by
    change ((s.seen.modSeq site _).seq site).loading = _
    rw [modSeq_same]
  obtain ⟨hloading, hcomplete⟩ := loadPage_seq (s := site) (issuing s.seen site []) m half page
  exact ⟨(congrArg (fun q : Seq => nth q.loading half false) (issued_seq site)).trans (hloading (by rwa [hseq])),
    (congrArg (fun q : Seq => nth q.complete half false) (issued_seq site)).trans hcomplete⟩

theorem issued_jumpp (half pos : Nat) : let t := State.issued s site { act := fun _ q => q.goTo site half pos }
    (t.p.seq site).half = half ∧ (t.p.seq site).pos = pos ∧ t.mem = s.mem := by
  obtain ⟨hhalf, hpos⟩ := goTo_seq (issuing s.seen site []) site half pos
  exact ⟨(congrArg Seq.half (issued_seq site)).trans hhalf, (congrArg Seq.pos (issued_seq site)).trans hpos,
    issued_mem fun _ q => goTo_writes q ..⟩

/-- A wait that passes with no effect leaves registers and memory. -/
theorem issued_nothing : let t := State.issued s site { act := fun _ q => q }
    t.p.csr = s.p.csr ∧ t.mem = s.mem := ⟨rfl, issued_mem fun _ _ => rfl⟩

end

/-- Settles O40: every slot command is the issue of a line of one operation, whose plan says what it leaves. -/
theorem slotOperationsIssue : Obligations.SlotOperationsIssue := by
  refine ⟨?outcomes, ?effects⟩
  case outcomes =>
    intro s site issues cl w x
    have outcomes {i : Instr} {k op : Nat} {x : Option (BitVec 54)} (hk : k < 15) (hx : exec i s = s.slot site k op w x)
        (hop : op ≠ 0 ∧ op < 64) : issues i k op w x := exec_slot_outcomes hx hk hop.1 hop.2
    have dense {i : Instr} {op : Nat} {x : Option (BitVec 54)} (hx : exec i s = s.slot site (0 + cl % 4) op w x) :=
      outcomes (i := i) (op := op) (x := x) (k := cl % 4) (by omega) (by rwa [Nat.zero_add] at hx)
    have sparse {i : Instr} {op : Nat} {x : Option (BitVec 54)} := outcomes (i := i) (op := op) (x := x) (k := 4 + cl % 4) (by omega)
    have mover {i : Instr} {op : Nat} {x : Option (BitVec 54)} := outcomes (i := i) (op := op) (x := x) (k := 8 + cl % 4) (by omega)
    clear_value issues
    exact ⟨dense rfl (by decide), dense rfl (by decide), dense rfl (by decide), dense rfl (by decide),
      sparse rfl (by decide), sparse rfl (by decide), sparse rfl (by decide), sparse rfl (by decide),
      mover rfl (by decide), mover rfl (by decide), mover rfl (by decide), mover rfl (by decide), mover rfl (by decide),
      mover rfl (by decide), mover rfl (by decide), mover rfl (by decide), mover rfl (by decide), mover rfl (by decide),
      mover rfl (by decide), mover rfl (by decide), mover rfl (by decide), mover rfl (by decide),
      outcomes (by decide) rfl (by decide), outcomes (by decide) rfl (by decide), outcomes (by decide) rfl (by decide),
      outcomes (by decide) rfl (by decide), outcomes (by decide) rfl (by decide), outcomes (by decide) rfl (by decide),
      outcomes (by decide) rfl (by decide), outcomes (by decide) rfl (by decide), outcomes (by decide) rfl (by decide),
      outcomes (by decide) rfl (by decide), outcomes (by decide) rfl (by decide)⟩
  case effects =>
    intro s site cl w x c id acts loads runs moves twelve cursor nothing galley issued counts
    have hacts (i : Instr) (k op : Nat) (x : Option (BitVec 54)) (post : Nat → State → Prop) :
        acts i k op x post = Leaves s i site k op w x post := rfl
    clear_value acts
    simp only [hacts]
    have hc : c < 4 := Nat.mod_lt _ (by decide)
    refine ⟨?wload, ?stream, ?drain, ?ainit, ?sload, ?sstream, ?sdrain, ?sainit, ?copy, ?store, ?cstore, ?zero, ?put, ?tsend, ?wopen,
      ?wclose, ?gread, ?gwrite, ?gwait, ?gdrain, ?msend, ?mrecv, ?gate, ?just, ?merge, ?swait, ?swaitb, ?swaitw, ?ends, ?launch, ?page,
      ?jumpp, ?waitl⟩
    case wload => exact leaves_dense (by decide) (by decide) hc (fun h => issued_loads fun id _ => planWload_loads h id) rfl planDense_wload
    case stream => exact leaves_dense (by decide) (by decide) hc (fun h => issued_runs (planStream_runs h)) rfl planDense_stream
    case drain => exact leaves_dense (by decide) (by decide) hc (fun h => issued_runs (planDrain_runs h)) rfl planDense_drain
    case ainit => exact leaves_dense (by decide) (by decide) hc (fun h => issued_runs (planInit_runs h)) rfl planDense_ainit
    case sload =>
      exact leaves_sparse (by decide) (by decide) hc (fun h => issued_loads fun id _ => planSload_loads h id) rfl planSparse_sload
    case sstream => exact leaves_sparse (by decide) (by decide) hc (fun h => issued_runs (planStream_runs h)) rfl planSparse_sstream
    case sdrain => exact leaves_sparse (by decide) (by decide) hc (fun h => issued_runs (planDrain_runs h)) rfl planSparse_sdrain
    case sainit => exact leaves_sparse (by decide) (by decide) hc (fun h => issued_runs (planInit_runs h)) rfl planSparse_sainit
    case copy => exact leaves_mover (by decide) (by decide) hc (fun h => issued_moves (planCopy_moves h)) rfl planMover_copy
    case store => exact leaves_mover (by decide) (by decide) hc (fun h => issued_moves (planStore_moves h)) rfl planMover_store
    case cstore => exact leaves_mover (by decide) (by decide) hc (fun h => issued_moves (planCstore_moves h)) rfl planMover_cstore
    case zero => exact leaves_mover (by decide) (by decide) hc (fun h => issued_lands (planZero_moves h)) rfl planMover_zero
    case put => exact leaves_mover (by decide) (by decide) hc (fun h => issued_waits (planPut_waits h)) rfl planMover_put
    case tsend => exact leaves_mover (by decide) (by decide) hc (fun h => issued_waits (planTsend_waits h)) rfl planMover_tsend
    case wopen => exact leaves_mover (by decide) (by decide) hc (fun h => issued_opens hc h) rfl planMover_wopen
    case wclose => exact leaves_mover (by decide) (by decide) hc (fun h => issued_closes hc h) rfl planMover_wclose
    case gread => exact leaves_mover (by decide) (by decide) hc (fun h => issued_requests hc h) rfl planMover_gread
    case gwrite => exact leaves_mover (by decide) (by decide) hc (fun h => issued_requests hc h) rfl planMover_gwrite
    case gwait => exact leaves_mover (by decide) (by decide) hc (fun h => issued_gwait hc h) rfl planMover_gwait
    case gdrain => exact leaves_mover (by decide) (by decide) hc (fun _ => issued_nothing) rfl planMover_gdrain
    case msend => exact leaves_mover (by decide) (by decide) hc (fun h => issued_sends h) rfl planMover_msend
    case mrecv => exact leaves_mover (by decide) (by decide) hc (fun h => issued_reads h) rfl planMover_mrecv
    case gate => exact leaves_slot12 (by decide) (by decide) (fun h => issued_twelve (planGate_runs h)) rfl planSlot12_gate
    case just => exact leaves_slot12 (by decide) (by decide) (fun h => issued_twelve (planJust_runs h)) rfl planSlot12_just
    case merge => exact leaves_slot12 (by decide) (by decide) (fun h => issued_twelve (planMerge_runs h)) rfl planSlot12_merge
    case swait => exact leaves_sync (by decide) (by decide) issued_cursor rfl fun h _ => planSync_swait _ _ _ h
    case swaitb => exact leaves_sync (by decide) (by decide) issued_cursor rfl fun h _ => planSync_swaitb h
    case swaitw => exact leaves_sync (by decide) (by decide) issued_swaitw rfl planSync_swaitw
    case ends => exact leaves_sequencer (by decide) (by decide) issued_ends rfl (planSequencer_ends_issued s.mem)
    case launch => exact leaves_sequencer (by decide) (by decide) issued_launch rfl (planSequencer_launch_issued s.mem)
    case page => exact leaves_sequencer (by decide) (by decide) (fun h => issued_page _ _ _ h) rfl (planSequencer_page_issued s.mem)
    case jumpp => exact leaves_sequencer (by decide) (by decide) (issued_jumpp ..) rfl (planSequencer_jumpp_issued s.mem)
    case waitl => exact leaves_sequencer (by decide) (by decide) issued_nothing rfl fun h _ => planSequencer_waitl s.mem h

end Sys2Proof.Proofs
end

section
/-! SUPPORT. The injection commands (R192, R207, R210, R256, R262, R431): a bit and a cluster armed in one CSR word. -/

namespace Sys2Proof.Proofs

open Sys2Proof.Machine Sys2Proof.Laws

/-! ### Words beside a field's register -/

/-- `f` lies in one word of the CSR window, that of offset `off`. -/
abbrev InWord (off : Nat) (f : Fld) : Prop :=
  f.place.1 / 4 = off / 4 ∧ f.place.2.2 = 1 ∧ f.off + (f.lsb + f.width) / 8 + 8 ≤ 0x1000000

section
variable {off o' : Nat} {f : Fld} (hf : InWord off f) (ho' : o' < 0x1000000) (hne : o' / 4 ≠ off / 4) (p : Panel) (s s' : Nat)
include hf ho' hne

theorem word_setField_other (v : Nat) : (p.setField s f v).word s' o' = p.word s' o' := by
  obtain ⟨hoff, hone, hfits⟩ := hf
  obtain ⟨h4, hw, -⟩ := place_bounds f hfits
  have hout : o' / 4 < f.place.1 / 4 ∨ f.place.1 / 4 + f.place.2.2 ≤ o' / 4 := by
    rw [hoff, hone]
    omega
  exact word_setWords_other _ _ _ _ _ _ _ hout hw h4 ho'

theorem word_setFlag_other (b : Bool) : (p.setFlag s f b).word s' o' = p.word s' o' := word_setField_other hf ho' hne p s s' _

end

/-! ### An injection armed -/

/-- `f` is a flag and `cl` a cluster's number beside it in the same word. -/
abbrev InjectionFlds (f cl : Fld) : Prop := Separate f cl ∧ InWord f.off f ∧ InWord f.off cl ∧ f.width = 1 ∧ cl.width = 2

/-- The panel with an injection armed for a cluster. -/
def injecting (site cluster : Nat) (f cl : Fld) (p : Panel) : Panel := (p.setField site cl cluster).setFlag site f true

section
variable {site cluster : Nat} {f cl : Fld} (h : InjectionFlds f cl) (p : Panel)
include h

theorem injecting_isSet : (injecting site cluster f cl p).isSet site f = true := by
  obtain ⟨-, ⟨-, -, hfits⟩, -, hwidth, -⟩ := h
  exact isSet_setFlag_same _ _ _ _ hfits (hwidth ▸ Nat.one_pos)

/-- The bit, armed last, leaves the cluster written before it. -/
theorem injecting_cluster : (injecting site cluster f cl p).field site cl = cluster % 4 := by
  obtain ⟨hsep, -, ⟨-, -, hfits⟩, -, hwidth⟩ := h
  calc (injecting site cluster f cl p).field site cl
    _ = (p.setField site cl cluster).field site cl := field_setFlag_separate hsep _ _ _
    _ = cluster % 2 ^ cl.width := field_setField_same _ _ _ _ hfits
    _ = cluster % 4 := congrArg (cluster % 2 ^ ·) hwidth

theorem injecting_word {s' o' : Nat} (ho' : o' < 0x1000000) (hne : o' / 4 ≠ f.off / 4) :
    (injecting site cluster f cl p).word s' o' = p.word s' o' := by
  obtain ⟨-, hflag, hcl, -, -⟩ := h
  exact (word_setFlag_other hflag ho' hne _ _ _ _).trans (word_setField_other hcl ho' hne _ _ _ _)

theorem exec_injecting {s : State} {c : Instr} (hc : exec c s = .next (s.quiet (injecting site cluster f cl))) :
    ∃ t, exec c s = .next t ∧ t.p.isSet site f = true ∧ t.p.field site cl = cluster % 4
      ∧ (∀ s' o', o' < 0x1000000 → o' / 4 ≠ f.off / 4 → t.p.word s' o' = s.p.word s' o') ∧ t.mem = s.mem ∧ t.p.time = s.p.time :=
  ⟨_, hc, (quiet_isSet ..).trans (injecting_isSet h _), (quiet_field ..).trans (injecting_cluster h _),
    fun _ _ ho' hne => injecting_word h s.seen ho' hne, rfl, rfl⟩

end

/-- Settles O23: each command writes its cluster, then its bit, into one word; ERR_RP_INJECT writes its bit alone. -/
theorem injectionCommandsArm : Obligations.InjectionCommandsArm := by
  intro s site cluster arms
  have hrp : InWord 0xa0000 Csr.ERR_CTRL_RP_INJECT := by decide
  refine ⟨?den, ?spa, ?spaMeta, ?par, ?galCrc, ?errRp⟩
  case den => exact exec_injecting (by decide) rfl
  case spa => exact exec_injecting (by decide) rfl
  case spaMeta => exact exec_injecting (by decide) rfl
  case par => exact exec_injecting (by decide) rfl
  case galCrc => exact exec_injecting (by decide) rfl
  case errRp =>
    exact ⟨_, rfl, (quiet_isSet ..).trans (isSet_setFlag_same _ _ _ _ hrp.2.2 (by decide)),
      fun _ _ ho' hne => word_setFlag_other hrp ho' hne s.seen _ _ _, rfl⟩

end Sys2Proof.Proofs
end

section
/-! SUPPORT. One write to memory byte by byte and row by row (R256, R281). -/

namespace Sys2Proof.Proofs

open Sys2Proof.Machine Sys2Proof.Laws

/-! ### Bytes put one after another -/

theorem smap_get_putBytes_outside (data : List Byte) : ∀ (m : List Host.Cell) (a : Nat) {k : Nat},
    k < a ∨ a + data.length ≤ k → SMap.get memByte0 (putBytes m a data) k = SMap.get memByte0 m k := by
  induction data with
  | nil => intro m a k _; rfl
  | cons x xs ih =>
    intro m a k h
    rw [List.length_cons] at h
    have hne : k ≠ a := by omega
    exact (ih _ _ (by omega)).trans (smap_get_set_other _ _ _ hne)

theorem read_of_bytes_putBytes (m : Mem) (data : List Byte) : ∀ (old : List Host.Cell) (a : Nat),
    m.bytes = putBytes old a data → m.read a data.length = data := by
  induction data with
  | nil => intro old a _; rfl
  | cons x xs ih =>
    intro old a h
    have hfirst : m.byte a = x := by
      unfold Mem.byte
      rw [h]
      exact (smap_get_putBytes_outside xs _ _ (by omega)).trans (smap_get_set_same ..)
    exact congrArg₂ List.cons hfirst (ih _ _ h)

/-! ### The bits of successive rows -/

theorem smap_get_set {α : Type} [DecidableEq α] (d : Nat → α) (m : SMap α) (k j : Nat) (v : α) :
    SMap.get d (SMap.set d m k v) j = if j = k then v else SMap.get d m j := by
  split
  case isTrue h => rw [h, smap_get_set_same]
  case isFalse h => exact smap_get_set_other d m v h

theorem setFox_foxAt (f : Bool) (b n : Nat) : ∀ (m : Mem) (a : Nat),
    (m.setFox a f n).foxAt b = if a / 64 ≤ b / 64 ∧ b / 64 < a / 64 + n then f else m.foxAt b := by
  induction n with
  | zero => intro m a; exact (if_neg (by omega)).symm
  | succ n ih =>
    intro m a
    have hrow (q : Mem) (hq : q.fox = SMap.set memFox0 m.fox (a / 64) f) :
        q.foxAt b = if b / 64 = a / 64 then f else m.foxAt b := by
      unfold Mem.foxAt
      rw [hq, smap_get_set]
    rw [Mem.setFox, ih, hrow _ (by split <;> rfl), ← ite_or]
    exact if_congr (by omega) rfl rfl

theorem setParity_get (v j n : Nat) : ∀ (m : Mem) (a : Nat),
    SMap.get memPar0 (m.setParity a v n).badParity j
      = if a / 64 ≤ j ∧ j < a / 64 + n then v else SMap.get memPar0 m.badParity j := by
  induction n with
  | zero => intro m a; exact (if_neg (by omega)).symm
  | succ n ih =>
    intro m a
    rw [Mem.setParity, ih, smap_get_set, ← ite_or]
    exact if_congr (by omega) rfl rfl

theorem rowTouched_iff (a n j : Nat) :
    (a / 64 ≤ j ∧ j < a / 64 + rowsTouched a n) ↔ n ≠ 0 ∧ a / 64 ≤ j ∧ j ≤ (a + n - 1) / 64 := by
  unfold rowsTouched
  split <;> omega

/-! ### A write of bytes, and of the bits of the rows that they touch -/

section
variable (m : Mem) (a : Nat) (data : List Byte) (f : Bool)

theorem mem_write_data : m.write { addr := a, data := data, fox := some f }
    = (({ m with bytes := putBytes m.bytes a data } : Mem).setParity a 0 (rowsTouched a data.length)).setFox a f
        (rowsTouched a data.length) := by
  unfold Mem.write
  simp only [Nat.max_zero]
  rfl

theorem mem_write_data_bytes : (m.write { addr := a, data := data, fox := some f }).bytes = putBytes m.bytes a data := by
  rw [mem_write_data, setFox_bytes, setParity_bytes]

theorem mem_write_data_foxAt (b : Nat) : (m.write { addr := a, data := data, fox := some f }).foxAt b
    = if a / 64 ≤ b / 64 ∧ b / 64 < a / 64 + rowsTouched a data.length then f else m.foxAt b := by
  rw [mem_write_data, setFox_foxAt]
  unfold Mem.foxAt
  rw [setParity_fox]

theorem mem_write_data_parityBad (b : Nat) : (m.write { addr := a, data := data, fox := some f }).parityBad b
    = if a / 64 ≤ b / 64 ∧ b / 64 < a / 64 + rowsTouched a data.length then false else m.parityBad b := by
  unfold Mem.parityBad
  rw [mem_write_data, setFox_badParity, setParity_get]
  split <;> rfl

end

/-- Settles O8: the bytes by what putting them one after another stores, the rows' bits by whether the row is touched. -/
theorem memoryWriteReadsBack : Obligations.MemoryWriteReadsBack := by
  intro m a data f
  have hbytes := mem_write_data_bytes m a data f
  refine ⟨?readBack, ?otherBytes, ?touchedRows, ?otherRows⟩
  case readBack => exact read_of_bytes_putBytes _ data m.bytes a hbytes
  case otherBytes =>
    intro b hb
    unfold Mem.byte
    rw [hbytes]
    exact smap_get_putBytes_outside data m.bytes a hb
  case touchedRows =>
    intro b hlo hhi
    have htouched := (rowTouched_iff a data.length (b / 64)).2 (by omega)
    exact ⟨(mem_write_data_foxAt ..).trans (if_pos htouched), (mem_write_data_parityBad ..).trans (if_pos htouched)⟩
  case otherRows =>
    intro b hb
    rw [← List.length_eq_zero_iff] at hb
    have huntouched := mt (rowTouched_iff a data.length (b / 64)).1 (by omega)
    exact ⟨(mem_write_data_foxAt ..).trans (if_neg huntouched), (mem_write_data_parityBad ..).trans (if_neg huntouched)⟩

end Sys2Proof.Proofs
end

section
/-! SUPPORT. A sheet-end report into a retry store whose contexts are not listed in canonical form (R287, R345). -/

namespace Sys2Proof.Proofs

open Sys2Proof.Machine Sys2Proof.Laws

/-- A frame for which the retry store has no room is not stored (R345). -/
theorem storeFrame_overfull {p : Panel} {c : Nat} {f : Stored} (h : 0x800000 < p.storeUse (linkOfCtx c) + f.size) :
    (p.storeFrame c f).2 = false ∧ (p.storeFrame c f).1.contexts = p.contexts := by
  have hraised (ld : Nat) (g : LinkDie → LinkDie) : ((p.modLink ld g).raise ld 0x0B09).contexts = p.contexts := raise_contexts ..
  unfold Panel.storeFrame
  simp only [if_pos h]
  split
  · exact ⟨rfl, rfl⟩
  · split
    · split
      · exact ⟨rfl, rfl⟩
      · exact ⟨rfl, hraised ..⟩
    · exact ⟨rfl, hraised ..⟩

/-- The report of a memory die's sheet end is held (R287). -/
def reportHeld (md ctx sheet : Nat) (p : Panel) : Panel :=
  (p.arrive (.sheetEnd md ctx sheet)).modCtx ctx fun x =>
    { x with reports := if x.reports.contains (sheet, md) then x.reports else x.reports ++ [(sheet, md)] }

/-- A sheet-end report adds no MARK to a store that has no room for one. -/
theorem exec_sheetEndReport_overfull {s t : State} {md ctx sheet : Nat}
    (h : 0x800000 < (reportHeld md ctx sheet s.seen).storeUse (linkOfCtx ctx) + 32)
    (ht : exec (.sheetEndReport md ctx sheet) s = .next t) : (t.p.ctx ctx).store = (s.p.ctx ctx).store := by
  obtain ⟨hfails, hcontexts⟩ := storeFrame_overfull (f := { psn := 0, mark := some sheet }) h
  have hx : exec (.sheetEndReport md ctx sheet) s = .next (s.quiet fun _ =>
      if (memDieSites.filter (reportHeld md ctx sheet s.seen).memGood).all fun k =>
          ((reportHeld md ctx sheet s.seen).ctx ctx).reports.contains (sheet, k)
      then ((reportHeld md ctx sheet s.seen).storeFrame ctx { psn := 0, mark := some sheet }).1
      else reportHeld md ctx sheet s.seen) :=
    exec_quiet rfl (if_congr Iff.rfl (if_neg (ne_true_of_eq_false hfails)) rfl)
  obtain rfl := Host.Outcome.next.inj (hx.symm.trans ht)
  have hquiet (q : Panel) : (s.quiet fun _ => q).p.contexts = q.contexts := rfl
  have hheld : ((reportHeld md ctx sheet s.seen).ctx ctx).store = (s.p.ctx ctx).store :=
    (congrArg Context.store (modCtx_same ..)).trans rfl
  rw [← hheld]
  unfold Panel.ctx
  rw [hquiet, apply_ite Panel.contexts, hcontexts, ite_self]

/-- A stored frame that takes more than half of the retry store. -/
def bulkyFrame : Stored := { psn := 0, rows := List.replicate 70000 ⟨[], false⟩ }

theorem bulkyFrame_size : bulkyFrame.size = 4480032 := by
  unfold Stored.size bulkyFrame
  rw [List.length_replicate]

/-- Context 0 holds the bulky frame and every memory die's report of sheet 0. -/
def bulkyCtx : Context := { store := [bulkyFrame], reports := memDieSites.map fun k => (0, k) }

/-- Context 0 can send, and is listed behind context 1. -/
def unsortedState : State :=
  { pending := [], mem := {},
    p := { csr := [(csrKey 400 (Csr.LNK_CTX_VALID 0).off, 1#32)], contexts := [(1, {}), (0, bulkyCtx)] } }

theorem unsortedState_sends : unsortedState.seen.ctxSends 0 = true := by decide

theorem unsortedState_storeUse : unsortedState.seen.storeUse (linkOfCtx 0) = 4480032 := by
  simp [Panel.storeUse, State.seen, unsortedState, linkOfCtx, bulkyCtx, bulkyFrame_size]

/-- The report that changes nothing lists context 0 a second time, in front of context 1. -/
theorem unsortedState_held : (reportHeld 401 0 0 unsortedState.seen).contexts = [(0, bulkyCtx), (1, {}), (0, bulkyCtx)] := by
  rfl

theorem unsortedState_heldUse : (reportHeld 401 0 0 unsortedState.seen).storeUse (linkOfCtx 0) = 8960064 := by
  simp [Panel.storeUse, unsortedState_held, linkOfCtx, bulkyCtx, bulkyFrame_size]

/-- Refutes O39: the list of contexts need not be in canonical form. In a state that lists context 0 behind context 1, with a store of
4,480,032 bytes, a report lists context 0 anew in front, so that its link die counts the store twice (R345): the MARK of the sheet that
every memory die has reported, for which the statement has room, finds the store full and is not stored. -/
theorem not_setoffCommands : ¬ Obligations.SetoffCommands := by
  intro h
  obtain ⟨-, -, -, -, -, -, hmark, -⟩ := h unsortedState 401 0 0 0 0 0 []
  obtain ⟨t, x, ht, hstore, -⟩ := hmark (fun k hk _ => .inr (List.mem_map_of_mem hk))
    ⟨unsortedState_sends, by decide, by rw [unsortedState_storeUse]; decide⟩
  rw [exec_sheetEndReport_overfull (by rw [unsortedState_heldUse]; decide) ht] at hstore
  simpa using congrArg List.length hstore

end Sys2Proof.Proofs
end

section
/-! SUPPORT. What a cold reset leaves (R69, R282, R491, R496, R501): the parts that nothing in it touches once the panel is cleared. -/

namespace Sys2Proof.Proofs

open Sys2Proof.Machine Sys2Proof.Laws

/-! ### The parts that bring-up of the corner dies leaves alone -/

/-- Regions, messages, memory writes, fuses, the mark of a cold reset, and the levels of PWR_GOOD and PANEL_RST. -/
def coldKept (p : Panel) : SMap Region × List NetMsg × List MemWrite × Fuses × Bool × Bool × Bool :=
  (p.regions, p.net, p.writes, p.fuses, p.boot.cold, p.boot.pwrGood, p.boot.rstLow)

section
variable (p : Panel) (s : Nat)

@[simp] theorem setWords_coldKept (o v n : Nat) : coldKept (p.setWords s o v n) = coldKept p := by
  rw [setWords_eq]
  rfl

@[simp] theorem setField_coldKept (f : Fld) (v : Nat) : coldKept (p.setField s f v) = coldKept p := setWords_coldKept ..

@[simp] theorem setFlag_coldKept (f : Fld) (b : Bool) : coldKept (p.setFlag s f b) = coldKept p := setField_coldKept ..

@[simp] theorem modDomain_coldKept (d : Nat) (f : Domain → Domain) : coldKept (p.modDomain s d f) = coldKept p := rfl

theorem modClock_coldKept (f : ClockDie → ClockDie) : coldKept (p.modClock s f) = coldKept p := rfl

@[simp] theorem sendTack_coldKept (f : TackFrame) : coldKept (p.sendTack f) = coldKept p := rfl

@[simp] theorem interrupt_coldKept (v : Nat) : coldKept (p.interrupt v) = coldKept p := by
  rw [interrupt_eq]
  rfl

@[simp] theorem noteChange_coldKept (b : Nat) : coldKept (p.noteChange b) = coldKept p := interrupt_coldKept ..

@[simp] theorem raise_coldKept (code : Nat) : coldKept (p.raise s code) = coldKept p := by
  have hboot : (p.raise s code).boot = _ := raiseFor_boot p s code (severityOf code) _ _ _
  unfold coldKept
  rw [raise_regions, raise_net, raise_writes, raise_fuses, hboot]
  split <;> rfl

@[simp] theorem raiseIf_coldKept (c : Bool) (code : Nat) : coldKept (p.raiseIf c s code) = coldKept p :=
  ite_keeps coldKept (raise_coldKept ..)

/-! ### The flash -/

@[simp] theorem flashWrite_coldKept (a : Nat) (bs : List Byte) : coldKept (p.flashWrite a bs) = coldKept p := by
  induction bs generalizing p a with
  | nil => rfl
  | cons b bs ih => exact (ih _ _).trans rfl

@[simp] theorem writeDesc_coldKept (d : BootDesc) : coldKept (p.writeDesc d) = coldKept p := by
  unfold Panel.writeDesc
  split
  rw [flashWrite_coldKept, flashWrite_coldKept]

@[simp] theorem appendCopy_coldKept (copy : Nat) (e : Errata) : coldKept (p.appendCopy copy e) = coldKept p := by
  unfold Panel.appendCopy
  simp only
  split
  · exact raise_coldKept ..
  · exact flashWrite_coldKept ..

@[simp] theorem repairErrata_coldKept : coldKept p.repairErrata = coldKept p := by
  have happend (copy : Nat) (l : List Errata) (p : Panel) : coldKept (p.each l fun p e => p.appendCopy copy e) = coldKept p :=
    each_keeps coldKept l (fun _ _ _ => appendCopy_coldKept ..) p
  unfold Panel.repairErrata
  simp only
  split
  · rfl
  · rw [raise_coldKept, happend, happend]

@[simp] theorem countBoot_coldKept : coldKept p.countBoot = coldKept p := by
  unfold Panel.countBoot
  simp only [setField_coldKept, writeDesc_coldKept]

@[simp] theorem startImage_coldKept (img : Nat) (onTrial : Bool) : coldKept (p.startImage img onTrial) = coldKept p := by
  unfold Panel.startImage
  simp only [setFlag_coldKept, setField_coldKept]
  rfl

/-- The choice of the image (R494) writes the flash and says what it found. -/
@[simp] theorem selectImage_coldKept : coldKept p.selectImage.2 = coldKept p := by
  unfold Panel.selectImage
  extract_lets d tried
  have htried : coldKept tried = coldKept p := raiseIf_coldKept ..
  clear_value tried
  split
  extract_lets written img
  have hwritten : coldKept written = coldKept p := (ite_keeps coldKept (writeDesc_coldKept ..)).trans htried
  clear_value written
  split
  · rw [startImage_coldKept, hwritten]
  · extract_lets refused
    have hrefused : coldKept refused = coldKept p := (raise_coldKept ..).trans hwritten
    clear_value refused
    split
    · rw [startImage_coldKept, hrefused]
    · rw [raise_coldKept, raise_coldKept, hrefused]

/-! ### The corner dies -/

theorem setDomainUp_coldKept (d : Nat) (b : Bool) : coldKept (p.setDomainUp s d b) = coldKept p :=
  each_keeps coldKept _ (fun _ _ _ => setField_coldKept ..) p

theorem unreserve_coldKept (d : Nat) : coldKept (p.unreserve s d) = coldKept p :=
  (modDomain_coldKept ..).trans ((setField_coldKept ..).trans (setField_coldKept ..))

section
variable {s : Nat} (hs : 464 ≤ s) (d : Nat)
include hs

/-- A domain of a corner die is no cluster. -/
theorem corner_not_cluster : ¬ isCluster s d = true := by
  rw [isCluster_iff]
  omega

theorem darken_coldKept : coldKept (p.darken s d) = coldKept p := by
  unfold Panel.darken
  extract_lets released cleared dark staged asked lowered
  have hlowered : coldKept lowered = coldKept p :=
    calc coldKept lowered = coldKept asked := setDomainUp_coldKept ..
      _ = coldKept staged := (setFlag_coldKept ..).trans (setFlag_coldKept ..)
      _ = coldKept dark := setField_coldKept ..
      _ = coldKept cleared := setField_coldKept ..
      _ = coldKept released := modDomain_coldKept ..
      _ = coldKept p := unreserve_coldKept ..
  clear_value lowered
  have hrouter (q : Panel) : coldKept (q.clearRouter s) = coldKept q := rfl
  rw [if_neg (corner_not_cluster hs d), ← hlowered]
  split
  · rw [if_neg (by omega), hrouter, setFlag_coldKept, setFlag_coldKept]
  · rw [setFlag_coldKept, setFlag_coldKept]

theorem powerGood_coldKept : coldKept (p.powerGood s d) = coldKept p := by
  unfold Panel.powerGood Panel.showSeqBusy
  split
  · rfl
  · extract_lets logic up
    have hup : coldKept up = coldKept p :=
      calc coldKept up = coldKept logic := (setDomainUp_coldKept ..).trans (modDomain_coldKept ..)
        _ = coldKept p := congrArg coldKept (if_neg (by simp; omega))
    clear_value up
    rw [if_neg (corner_not_cluster hs d), ← hup]
    split
    · rw [setFlag_coldKept, darken_coldKept up hs]
    · split <;> rw [setFlag_coldKept, setFlag_coldKept, setField_coldKept]

theorem powerUp_coldKept : coldKept (p.powerUp s d) = coldKept p := by
  unfold Panel.powerUp
  split
  · rfl
  · rw [if_neg (corner_not_cluster hs d), modDomain_coldKept, powerGood_coldKept _ hs, setField_coldKept, setField_coldKept]

/-- A corner die whose domains all reach power good (R328, R456). -/
theorem bootDie_coldKept : coldKept (p.bootDie [] s) = coldKept p := by
  have hdomains (l : List Nat) : coldKept (p.each l fun p d => if List.contains [] (s, d) then p.failAtBoot s d else p.powerUp s d)
      = coldKept p := each_keeps coldKept l (fun p d _ => powerUp_coldKept p hs d) p
  have hsend (q : Panel) (e : Nat) : coldKept (q.sendDescriptor s e) = coldKept q := rfl
  have hsent (q : Panel) (l : List Nat) : coldKept (q.each l fun q e => q.sendDescriptor s e) = coldKept q :=
    each_keeps coldKept l (fun q e _ => hsend q e) q
  unfold Panel.bootDie
  split
  · rfl
  · extract_lets up shown
    have hshown : coldKept shown = coldKept p := (setField_coldKept ..).trans (hdomains _)
    exact (ite_keeps coldKept (hsent ..)).trans hshown

end

/-- A corner die's own BIST fills its log and its signature registers (R43). -/
theorem cornerBist_coldKept (stream : List Nat) : coldKept (p.cornerBist s stream) = coldKept p :=
  have hfold (q : Panel) (l : List Nat) : coldKept (q.foldStream s s l) = coldKept q := rfl
  (hfold ..).trans (each_keeps coldKept _ (fun _ _ _ => setWords_coldKept ..) p)

/-! ### The steps of a cold reset -/

theorem modBoot_coldKept {f : Boot → Boot} (hcold : (f p.boot).cold = p.boot.cold) (hpwr : (f p.boot).pwrGood = p.boot.pwrGood)
    (hrst : (f p.boot).rstLow = p.boot.rstLow) : coldKept (p.modBoot f) = coldKept p := by
  unfold coldKept Panel.modBoot
  rw [hcold, hpwr, hrst]

theorem stepDone_coldKept (n : Nat) : coldKept (p.stepDone n) = coldKept p :=
  (setField_coldKept ..).trans (setField_coldKept ..)

theorem bootFailed_coldKept (step : Nat) (ph : BootPhase) : coldKept (p.bootFailed step ph) = coldKept p :=
  (modBoot_coldKept _ rfl rfl rfl).trans ((setFlag_coldKept ..).trans (setField_coldKept ..))

theorem beginReset_coldKept (scope site cl : Nat) : coldKept (p.beginReset scope site cl) = coldKept p :=
  (noteChange_coldKept ..).trans ((ite_keeps coldKept (setFlag_coldKept ..)).trans ((setField_coldKept ..).trans
    ((setFlag_coldKept ..).trans (modBoot_coldKept _ rfl rfl rfl))))

theorem beginReset_boot (scope site cl : Nat) :
    (p.beginReset scope site cl).boot = { p.boot with resetting := some (scope, site, cl) } := by
  unfold Panel.beginReset
  rw [noteChange_boot, ite_keeps (·.boot) (setFlag_boot ..), setField_boot, setFlag_boot]
  rfl

theorem adBoots_coldKept : coldKept p.adBoots = coldKept p :=
  (noteChange_coldKept ..).trans ((raise_coldKept ..).trans ((setFlag_coldKept ..).trans ((setFlag_coldKept ..).trans
    (modBoot_coldKept _ rfl rfl rfl))))

theorem showFuses_coldKept : coldKept p.showFuses = coldKept p := by
  unfold Panel.showFuses
  refine each_keeps coldKept _ (fun q s _ => ?_) p
  refine (each_keeps coldKept _ (fun q i _ => setField_coldKept ..) _).trans ?_
  simp only [setField_coldKept]

/-- The corner dies come up and test themselves (R43). -/
theorem cornersUp_coldKept (streams : List (Nat × List Nat)) :
    coldKept (p.each [sitePD, siteHD, siteTD, siteAD] fun p s =>
      let p := p.bootDie [] s
      if p.lives s then p.cornerBist s (((streams.find? fun x => x.1 = s).map (·.2)).getD []) else p) = coldKept p := by
  refine each_keeps coldKept _ (fun q s hs => ?_) p
  have hcorner : 464 ≤ s := (by decide : ∀ s ∈ [sitePD, siteHD, siteTD, siteAD], 464 ≤ s) s hs
  exact (ite_keeps coldKept (cornerBist_coldKept ..)).trans (bootDie_coldKept q hcorner)

/-- Bring-up from the image's start to its waves (R496 steps 3 to 6). -/
def firmwareRuns (p : Panel) : Panel :=
  let p := ((p.stepDone 3).stepDone 4).stepDone 5
  let p := p.countBoot.repairErrata
  let p := (if p.primary = sitePD then p.sendTack .flashFree else p).stepDone 6
  let p := p.each [sitePD, siteAD, siteTD] fun p s => p.sendTack (.dist s)
  p.modBoot fun b => { b with phase := .waves, slot := 0, cornerSlot := true }

theorem firmwareRuns_coldKept : coldKept (firmwareRuns p) = coldKept p := by
  unfold firmwareRuns
  extract_lets loaded counted told spread
  have hspread : coldKept spread = coldKept p :=
    calc coldKept spread = coldKept told := each_keeps coldKept _ (fun _ _ _ => sendTack_coldKept ..) _
      _ = coldKept counted := (stepDone_coldKept ..).trans (ite_keeps coldKept (sendTack_coldKept ..))
      _ = coldKept loaded := (repairErrata_coldKept _).trans (countBoot_coldKept _)
      _ = coldKept p := (stepDone_coldKept ..).trans ((stepDone_coldKept ..).trans (stepDone_coldKept ..))
  clear_value spread
  exact (modBoot_coldKept spread rfl rfl rfl).trans hspread

/-- A cold reset leaves what clearing the panel leaves (R282, R501). -/
theorem coldReset_coldKept (streams : List (Nat × List Nat)) : coldKept (p.coldReset [] streams) = coldKept p.coldClear := by
  unfold Panel.coldReset
  extract_lets begun cornered primed shown stepped
  have hstepped : coldKept stepped = coldKept p.coldClear :=
    calc coldKept stepped = coldKept shown := (stepDone_coldKept ..).trans (stepDone_coldKept ..)
      _ = coldKept primed := (modClock_coldKept ..).trans ((setFlag_coldKept ..).trans (showFuses_coldKept _))
      _ = coldKept cornered := by simp only [primed, apply_ite coldKept, adBoots_coldKept, ite_self]
      _ = coldKept begun := cornersUp_coldKept ..
      _ = coldKept p.coldClear := (stepDone_coldKept ..).trans (beginReset_coldKept ..)
  clear_value stepped
  rw [← hstepped]
  split
  · rw [bootFailed_coldKept, raise_coldKept]
  · rw [← selectImage_coldKept stepped]
    obtain ⟨ok, chosen⟩ := stepped.selectImage
    dsimp only
    split
    · exact bootFailed_coldKept ..
    · exact firmwareRuns_coldKept chosen

end

/-! ### The panel after a cold reset -/

/-- What a cold reset writes: the whole memory, with the fox tables of every channel (R282). -/
def coldCleared : List MemWrite := [{ addr := 0, clear := 2 ^ 48, foxChannels := List.range 256, fox := none, parity := none }]

/-- The panel that `p` leaves cleared, as a command that may begin a cold reset shows it. -/
theorem act_coldCleared {s : State} {f : Mem → Panel → Panel} {p : Panel} (hf : coldKept (f s.mem s.seen) = coldKept p.coldClear)
    (hwrites : p.writes = []) (howner : p.fuses.owner = s.p.fuses.owner) :
    let t := s.act f
    t.p.time = {} ∧ t.p.regions = [] ∧ t.p.net = [] ∧ t.mem = s.mem.apply coldCleared ∧ t.p.fuses.owner = s.p.fuses.owner
      ∧ t.p.boot.pwrGood = p.boot.pwrGood ∧ t.p.boot.rstLow = p.boot.rstLow := by
  simp only [coldKept, Panel.coldClear, put_writes, hwrites, List.nil_append, Prod.mk.injEq] at hf
  obtain ⟨hregions, hnet, hmem, hfuses, hcold, hpwr, hrst⟩ := hf
  refine ⟨?_, hregions, hnet, congrArg s.mem.apply hmem, ?_, hpwr, hrst⟩
  · exact (act_time ..).trans (if_pos hcold)
  · exact (congrArg Fuses.owner hfuses).trans howner

/-! ### Requests (R502) -/

section
variable {p : Panel} {src scope region site cl : Nat}

theorem requestReset_refused (h : p.resetAnswer src scope region site cl = 0) (m : Mem) :
    p.requestReset m src scope region site cl = p.setFlag sitePD Csr.PWR_RST_STATUS_REFUSED true := by
  unfold Panel.requestReset
  simp only [h]

theorem requestReset_waits (h : p.resetAnswer src scope region site cl = 2) (m : Mem) :
    p.requestReset m src scope region site cl = p.modBoot fun b => { b with resetWaits := some (scope, site, cl) } := by
  unfold Panel.requestReset
  simp only [h]

/-- What a granted request begins, by its scope. -/
def resetBegun (scope region site cl : Nat) (m : Mem) (p : Panel) : Panel :=
  match scope with
  | 1 => (p.beginReset 1 0 0).modBoot fun b => { b with coldAsked := true }
  | 2 => p.warmReset
  | 3 => p.computeReset m
  | 4 => p.regionReset region
  | 5 => p.beginReset 5 site 0
  | _ => p.clusterReset site cl

theorem requestReset_granted (h : p.resetAnswer src scope region site cl = 1) (m : Mem) :
    p.requestReset m src scope region site cl = resetBegun scope region site cl m p := by
  unfold Panel.requestReset
  simp only [h]
  rfl

end

/-- A command that only makes a request does what the answer to it says; `run` is the reset of its scope. -/
theorem exec_answered {c : Instr} {s : State} {src scope region site cl : Nat} {run : Mem → Panel → Panel}
    (hc : exec c s = .next (s.store fun m p => p.requestReset m src scope region site cl))
    (hrun : s.seen.resetAnswer src scope region site cl = 1 →
      s.seen.requestReset s.mem src scope region site cl = run s.mem s.seen) :
    (s.seen.resetAnswer src scope region site cl = 0 →
        exec c s = .next (s.store fun _ p => p.setFlag sitePD Csr.PWR_RST_STATUS_REFUSED true))
      ∧ (s.seen.resetAnswer src scope region site cl = 1 → exec c s = .next (s.store run))
      ∧ (s.seen.resetAnswer src scope region site cl = 2 →
        exec c s = .next (s.store fun _ p => p.modBoot fun b => { b with resetWaits := some (scope, site, cl) })) :=
  ⟨fun h => exec_store hc (requestReset_refused h _), fun h => exec_store hc (hrun h),
    fun h => exec_store hc (requestReset_waits h _)⟩

section
variable {s : State} {src site : Nat} (failed : List (Nat × Nat)) (reports : List ProofReport) (wires raws : List (Nat × Nat))

/-- The die reset that is in progress is carried out. -/
theorem exec_resetDie_asked (h : s.p.boot.resetting = some (5, site, 0)) :
    exec (.resetDie src site failed reports wires raws) s
      = .next (s.store fun m p => p.dieReset m site failed reports wires raws) := by
  refine exec_store rfl ?_
  have hasked : s.seen.boot.resetting = some (5, site, 0) := h
  simp only [hasked, if_true]

/-- A new request for a die reset leaves `q`, and the reset is carried out when it has begun. -/
theorem exec_resetDie_new (h : s.p.boot.resetting ≠ some (5, site, 0)) {q : Mem → Panel → Panel}
    (hq : s.seen.requestReset s.mem (src % 3) 5 0 site 0 = q s.mem s.seen) :
    exec (.resetDie src site failed reports wires raws) s = .next (s.store fun m p =>
      if (q m p).boot.resetting = some (5, site, 0) then (q m p).dieReset m site failed reports wires raws else q m p) := by
  refine exec_store rfl ?_
  have hnew : ¬ s.seen.boot.resetting = some (5, site, 0) := h
  simp only [hnew, if_false, hq]

end

/-- Settles O53: a cold reset leaves what clearing the panel leaves, and the answer to a request decides what it does. -/
theorem resets : Obligations.Resets := by
  refine ⟨fun s failed streams => ⟨rfl, ?cold, fun hoff => ?unpowered, fun hon => ?held, fun hruns => ?runs,
    fun hruns hno => ?powerless, fun hruns hon hhigh => ?requested⟩, fun s src r site cl => ⟨?warm, ?compute, ?region, ?cluster,
    fun hasked failed reports wires raws => ?dieAsked, fun hnew hans failed reports wires raws => ?dieRefused,
    fun hnew hans failed reports wires raws => ?dieWaits, fun hnew hans failed reports wires raws => ?dieGranted⟩⟩
  case cold =>
    obtain ⟨htime, hregions, hnet, hmem, howner, hpwr, hrst⟩ := act_coldCleared (s := s)
      (f := fun _ p => (p.modBoot fun b => { b with pwrGood := true, rstLow := false }).coldReset [] [])
      (coldReset_coldKept _ _) rfl rfl
    exact ⟨_, rfl, htime, hregions, hnet, hmem, howner, hpwr, hrst, rfl⟩
  case unpowered =>
    have held : (s.seen.modBoot fun b => { b with rstLow := true }).coldClear.boot.pwrGood = false := hoff
    obtain ⟨htime, hregions, hnet, hmem, howner, -, hrst⟩ := act_coldCleared (s := s)
      (f := fun _ p => (p.modBoot fun b => { b with rstLow := true }).coldClear) rfl rfl rfl
    exact ⟨_, exec_act rfl (by simp only [held, if_false, Bool.false_eq_true]), htime, hregions, hnet, hmem, howner, hrst, rfl⟩
  case held => exact exec_act rfl (if_pos hon)
  case runs => exact exec_act rfl (if_pos hruns)
  case powerless =>
    refine exec_act rfl ((if_neg (ne_true_of_eq_false hruns)).trans (if_neg ?_))
    rcases hno with h | h <;> simp [State.seen, h]
  case requested => exact exec_act rfl ((if_neg (ne_true_of_eq_false hruns)).trans (if_pos (by simp [State.seen, hon, hhigh])))
  case warm => exact exec_answered rfl fun h => requestReset_granted h _
  case compute => exact exec_answered rfl fun h => requestReset_granted h _
  case region => exact exec_answered rfl fun h => requestReset_granted h _
  case cluster => exact exec_answered rfl fun h => requestReset_granted h _
  case dieAsked => exact exec_resetDie_asked _ _ _ _ hasked
  case dieRefused =>
    refine exec_store (exec_resetDie_new _ _ _ _ hnew
      (q := fun _ p => p.setFlag sitePD Csr.PWR_RST_STATUS_REFUSED true) (requestReset_refused hans _)) (if_neg ?_)
    rw [setFlag_boot]
    exact hnew
  case dieWaits =>
    exact exec_store (exec_resetDie_new _ _ _ _ hnew
      (q := fun _ p => p.modBoot fun b => { b with resetWaits := some (5, site, 0) }) (requestReset_waits hans _)) (if_neg hnew)
  case dieGranted =>
    refine exec_store (exec_resetDie_new _ _ _ _ hnew (q := fun _ p => p.beginReset 5 site 0) (requestReset_granted hans _)) (if_pos ?_)
    exact congrArg Boot.resetting (beginReset_boot ..)

end Sys2Proof.Proofs
end

section
/-! SUPPORT. Galley requests (R262, R270, R274, R278, R279, R315): what a request leaves as it is sent, as its rows land and as it
completes. -/

namespace Sys2Proof.Proofs

open Sys2Proof.Machine Sys2Proof.Laws

/-! ### A request is sent (R274) -/

section
variable (p : Panel)

theorem countSlots_net (md : Nat) : (p.countSlots md).net = p.net := by
  unfold Panel.countSlots
  simp only
  split
  · rw [raise_net, modMemDie_net, setField_net]
  · exact setField_net ..

theorem countSlots_galleys (md : Nat) : (p.countSlots md).galleys = p.galleys := by
  have hdie (p : Panel) (f : MemDie → MemDie) : (p.modMemDie md f).galleys = p.galleys := rfl
  unfold Panel.countSlots
  simp only
  split
  · rw [raise_galleys, hdie, setField_galleys]
  · exact setField_galleys ..

theorem galley_of_galleys {p q : Panel} (h : q.galleys = p.galleys) (s u : Nat) : q.galley s u = p.galley s u :=
  congrArg (fun l => SMap.get (fun _ => []) l (s * 8 + u)) h

/-- A read travels to its memory die, and its entry is marked as sent. -/
theorem sendGalley_read (m : Mem) {q : GalReq} (hread : q.write = false) :
    (p.sendGalley m q).net = p.net ++ [.grdReq q.key q.addr q.rows q.trace q.row]
      ∧ (p.sendGalley m q).galley q.key.site q.key.unit
        = (p.galley q.key.site q.key.unit).map fun x => if x.key = q.key then { x with sent := true } else x := by
  have hcount (x : Panel) : (if q.host then x else x.countSlots (memSite q.addr)).net = x.net
      ∧ (if q.host then x else x.countSlots (memSite q.addr)).galleys = x.galleys := by
    split
    · exact ⟨rfl, rfl⟩
    · exact ⟨countSlots_net .., countSlots_galleys ..⟩
  unfold Panel.sendGalley
  simp only [hread, if_false, Bool.false_eq_true]
  obtain ⟨hnet, hgalleys⟩ := hcount ((p.setGalley q.key.site q.key.unit ((p.galley q.key.site q.key.unit).map fun x =>
    if x.key = q.key then { x with sent := true } else x)).send (.grdReq q.key q.addr q.rows q.trace q.row))
  exact ⟨hnet, (galley_of_galleys hgalleys ..).trans (setGalley_same ..)⟩

end

/-! ### A request completes (R266, R270) -/

/-- No request of a key stands in its galley. -/
def Gone (k : GalKey) (p : Panel) : Prop := ∀ x ∈ p.galley k.site k.unit, x.key ≠ k

section
variable (p : Panel) (k : GalKey)

/-- Completion shows in COMPLETED alone, beside the galley's entries. -/
theorem galComplete_raised : Raised (p.setGalley k.site k.unit ((p.galley k.site k.unit).filter fun q => q.key ≠ k))
    (p.galComplete k) := raised_ite _ _ (raised_setField ..)

theorem galComplete_gone : Gone k (p.galComplete k) := by
  obtain ⟨_, _, _, _, _, h⟩ := galComplete_raised p k
  intro x hx
  rw [h] at hx
  have hx : x ∈ (p.setGalley k.site k.unit ((p.galley k.site k.unit).filter fun q => q.key ≠ k)).galley k.site k.unit := hx
  rw [setGalley_same] at hx
  simpa using (List.mem_filter.mp hx).2

theorem galComplete_net : (p.galComplete k).net = p.net := by
  obtain ⟨_, _, _, _, _, h⟩ := galComplete_raised p k
  rw [h]
  rfl

theorem galComplete_writes : (p.galComplete k).writes = p.writes := by
  obtain ⟨_, _, _, _, _, h⟩ := galComplete_raised p k
  rw [h]
  rfl

theorem galComplete_out : (p.galComplete k).out = p.out := by
  unfold Panel.galComplete Panel.showCompleted
  split
  · exact setField_out ..
  · rfl

/-- COMPLETED lies apart from the fault register of galleys. -/
theorem galComplete_galFault (hgal : k.galley < 4) (x : Nat) :
    (p.galComplete k).field x Csr.GAL_FAULT = p.field x Csr.GAL_FAULT := by
  have happart : ∀ i < 16, FldFits (Csr.GAL_G_COMPLETED i) ∧ WordsApart (Csr.GAL_G_COMPLETED i) Csr.GAL_FAULT := by
    unfold FldFits
    decide
  unfold Panel.galComplete Panel.showCompleted
  split
  case isTrue hunit =>
    obtain ⟨hfits, hwords⟩ := happart (galIndex k.unit k.galley) (by unfold galIndex; omega)
    exact field_setField_apart _ _ _ _ _ _ hfits (by unfold FldFits; decide) hwords
  case isFalse => rfl

end

/-! ### Rows that land (R121, R256) -/

/-- One row lands at the next row of a slice; the first with data takes an injected parity error. -/
def landRow (s c : Nat) (x : Panel × Nat × Nat) (d : Delivered) : Panel × Nat × Nat :=
  if d.data.isEmpty then
    (x.1.put { addr := sliceAddr s c (64 * x.2.1), data := [], rows := 1, fox := some d.fox, parity := none }, x.2.1 + 1, x.2.2)
  else (x.1.put { addr := sliceAddr s c (64 * x.2.1), data := d.data, fox := some d.fox, parity := some x.2.2 }, x.2.1 + 1, 0)

/-- The parity with which the first row with data lands, and the panel once that is taken (R256). -/
def injected (s c : Nat) (rows : List Delivered) (p : Panel) : Nat × Panel :=
  if rows.any fun d => !d.data.isEmpty then p.parInject s c else (0, p)

theorem landRows_eq (p : Panel) (s c row : Nat) (rows : List Delivered) : p.landRows s c row rows
    = (rows.foldl (landRow s c) ((injected s c rows p).2, row, (injected s c rows p).1)).1 := rfl

section
variable (p : Panel) (s c : Nat) (rows : List Delivered)

theorem injected_writes : (injected s c rows p).2.writes = p.writes := by
  unfold injected Panel.parInject
  simp only [apply_ite Prod.snd, apply_ite Panel.writes, setFlag_writes, ite_self]

/-- The rows that land touch no register; the injection clears its own. -/
theorem landRows_field {g : Fld} (hg : FldFits g) (happart : WordsApart Csr.SPR_CTRL_PAR_INJECT g) (row x : Nat) :
    (p.landRows s c row rows).field x g = p.field x g := by
  rw [landRows_eq]
  refine List.foldlRecOn (motive := fun q : Panel × Nat × Nat => q.1.field x g = p.field x g) _ _ ?_ fun q hq d _ => ?_
  · unfold injected Panel.parInject
    split
    · split
      · exact field_setField_apart _ _ _ _ _ _ (by unfold FldFits; decide) hg happart
      · rfl
    · rfl
  · unfold landRow
    split <;> exact (field_of_csr (put_csr ..) x g).trans hq

/-- Two panels with the same pending writes list the same rows. -/
theorem foldl_landRow_writes {s c : Nat} {rows : List Delivered} {p q : Panel} (h : q.writes = p.writes) (row par : Nat) :
    (rows.foldl (landRow s c) (q, row, par)).1.writes = (rows.foldl (landRow s c) (p, row, par)).1.writes := by
  induction rows generalizing p q row par with
  | nil => exact h
  | cons d rows ih =>
    have hput (w : MemWrite) : (q.put w).writes = (p.put w).writes := congrArg (· ++ [w]) h
    simp only [List.foldl_cons, landRow]
    split
    · exact ih (hput _) _ _
    · exact ih (hput _) _ _

/-- Which rows land, and with which parity, rests on the pending writes and the injection register. -/
theorem landRows_writes_congr {p q : Panel} (hwrites : q.writes = p.writes)
    (hinj : q.field s Csr.SPR_CTRL_PAR_INJECT = p.field s Csr.SPR_CTRL_PAR_INJECT)
    (hcl : q.field s Csr.SPR_CTRL_INJ_CL = p.field s Csr.SPR_CTRL_INJ_CL) (row : Nat) :
    (q.landRows s c row rows).writes = (p.landRows s c row rows).writes := by
  have hpar : (injected s c rows q).1 = (injected s c rows p).1 := by
    unfold injected Panel.parInject Panel.isSet
    simp only [hinj, hcl, apply_ite Prod.fst]
  rw [landRows_eq, landRows_eq, hpar]
  exact foldl_landRow_writes (by rw [injected_writes, injected_writes, hwrites]) _ _

end

/-! ### Rows that land in a line buffer -/

/-- A word of AD's window that follows PD's lies below the end of the register blocks. -/
theorem homeSite_mirror_lt {o : Nat} (h : homeSite 467 o = 464) : o < 0x400000 := by
  by_contra hbeyond
  have hnone : rowOf 464 o = none := by
    have hrows : rowsAt o = [] := by
      unfold rowsAt
      simp only [show ∀ n, n ≤ 0x400000 → ¬ o < n from fun n hn => by omega, Nat.reduceLeDiff, if_false]
    unfold rowOf
    rw [hrows]
    rfl
  unfold homeSite at h
  rw [hnone] at h
  exact absurd h (by decide)

/-- A line buffer's words are not the fault register of galleys of the same die. -/
theorem csrKey_galFault_ne {o : Nat} (ho : 0x100000 ≤ o) (s : Nat) :
    csrKey (homeSite s Csr.GAL_FAULT.off) Csr.GAL_FAULT.off ≠ csrKey (homeSite s o) o := by
  have hoff : Csr.GAL_FAULT.off = 0x60010 := rfl
  by_cases hs : s = 467
  case pos =>
    subst hs
    have hhome : homeSite 467 Csr.GAL_FAULT.off = 467 := by decide
    rw [hhome]
    unfold csrKey
    rcases homeSite_cases 467 o with h | ⟨-, h⟩
    · rw [h]
      omega
    · have hlow := homeSite_mirror_lt h
      rw [h]
      omega
  case neg =>
    have hhome (o : Nat) : homeSite s o = s := if_neg hs
    rw [hhome, hhome]
    unfold csrKey
    omega

theorem setWords_galFault (p : Panel) (s : Nat) {o : Nat} (ho : 0x100000 ≤ o) (v n : Nat) :
    (p.setWords s o v n).word s Csr.GAL_FAULT.off = p.word s Csr.GAL_FAULT.off := by
  induction n generalizing p o v with
  | zero => rfl
  | succ n ih => exact (ih _ (by omega) _).trans (word_setWord_other _ _ _ _ _ _ (csrKey_galFault_ne ho s))

/-- A page's rows that land leave the fault register of their die. -/
theorem landLine_galFault (p : Panel) (s row : Nat) (rows : List Delivered) :
    (p.landLine s row rows).field s Csr.GAL_FAULT = p.field s Csr.GAL_FAULT := by
  have hwords (p : Panel) (l : List (Delivered × Nat)) :
      (p.each l fun p di => p.setWords s (0x100000 + 64 * (row + di.2)) (leNat di.1.data) 16).word s Csr.GAL_FAULT.off
        = p.word s Csr.GAL_FAULT.off :=
    each_keeps (·.word s Csr.GAL_FAULT.off) l (fun p _ _ => setWords_galFault p s (by omega) _ _) p
  have hfield {q : Panel} (h : q.word s Csr.GAL_FAULT.off = p.word s Csr.GAL_FAULT.off) :
      q.field s Csr.GAL_FAULT = p.field s Csr.GAL_FAULT := by
    unfold Panel.field
    exact congrArg (bitsOf · _ _) (congrArg (fun w : Word => w.toNat + 2 ^ 32 * 0) h)
  exact hfield (hwords p rows.zipIdx)

/-! ### A read completes with rows (R270, R275) -/

section
variable (p : Panel) (q : GalReq) (rows : List Delivered)

theorem landGalley_gone : Gone q.key (p.landGalley q rows) := galComplete_gone _ _

theorem landGalley_galFault (hgal : q.key.galley < 4) :
    (p.landGalley q rows).field q.key.site Csr.GAL_FAULT = p.field q.key.site Csr.GAL_FAULT := by
  unfold Panel.landGalley
  rw [galComplete_galFault _ _ hgal]
  split
  · rfl
  · split
    · rw [landRows_field _ _ _ _ (by unfold FldFits; decide) (by decide), ite_keeps (·.field _ _) (field_of_csr (tally_csr ..) _ _)]
    · exact landLine_galFault ..

/-- Rows for a cluster land in its slice, unless the request was discarded. -/
theorem landGalley_writes (hunit : q.key.unit < 4) (hkept : q.dropped = false) :
    (p.landGalley q rows).writes = (p.landRows q.key.site q.key.unit q.row rows).writes := by
  unfold Panel.landGalley
  simp only [galComplete_writes, hunit, hkept, if_true, if_false, Bool.false_eq_true]
  exact landRows_writes_congr _ _ _ (ite_keeps (·.writes) (tally_writes ..))
    (ite_keeps (·.field _ _) (field_of_csr (tally_csr ..) _ _)) (ite_keeps (·.field _ _) (field_of_csr (tally_csr ..) _ _)) _

/-- Rows for a line buffer, and of a discarded request, write no memory. -/
theorem landGalley_noWrites (h : 4 ≤ q.key.unit ∨ q.dropped = true) : (p.landGalley q rows).writes = p.writes := by
  have hline (s row : Nat) : (p.landLine s row rows).writes = p.writes :=
    each_keeps (·.writes) _ (fun p di _ => by rw [setWords_eq]) p
  unfold Panel.landGalley
  rw [galComplete_writes]
  split
  · rfl
  case isFalse hkept =>
    rw [if_neg (by have := h.resolve_right hkept; omega), hline]

end

/-! ### The commands -/

theorem galReq_key {p : Panel} {k : GalKey} {q : GalReq} (h : p.galReq k = some q) : q.key = k := by
  simpa using List.find?_some h

/-- `q` differs from `p` at most in the messages under way. -/
def Delivery (p q : Panel) : Prop := ∃ net taken, q = { p with net := net, injected := taken }

theorem delivery_refl (p : Panel) : Delivery p p := ⟨_, _, rfl⟩

theorem delivery_arrive {p q : Panel} (h : Delivery p q) (m : NetMsg) : Delivery p (q.arrive m) := by
  obtain ⟨_, _, rfl⟩ := h
  exact ⟨_, _, rfl⟩

/-- The rows of a read that have been taken land, and the request completes; where one is bad 0x0810 is raised first, unless the request
was discarded. -/
def landTaken (k : GalKey) (q : GalReq) (bad : Bool) (rows : List Delivered) (p : Panel) : Panel :=
  (if bad && !q.dropped then p.raiseSev k.site (if k.unit < 4 then k.unit else 0) 0x0810 p.galSev else p).landGalley q rows

theorem galReq_delivery {p a : Panel} (h : Delivery p a) (k : GalKey) : a.galReq k = p.galReq k := by
  obtain ⟨_, _, rfl⟩ := h
  rfl

section
variable {s : State} {k : GalKey} {q : GalReq} (hostRows : List Delivered) (noise : List (Nat × Nat))

/-- Rows of a memory die land as their CRCs have them. -/
theorem exec_readDataLand_die {rows : List Delivered} (hq : s.seen.galReq k = some q) (hhost : q.host = false)
    (hrows : s.seen.takeData k = some rows) :
    ∃ (a : Panel) (bad : Bool), Delivery s.seen a ∧ exec (.readDataLand k hostRows noise) s = .next (s.store fun _ _ =>
      landTaken k q bad ((rows.take q.rows).zipIdx.map fun x =>
        landedRow (q.addr + 64 * x.2) (noiseOf noise x.2) ⟨sliceBytes x.1.data 0 64, x.1.fox⟩) a) := by
  have hq' : (s.seen.arrive (.grdRsp k rows)).galReq k = some q := (galReq_delivery (delivery_arrive (delivery_refl _) _) k).trans hq
  refine ⟨s.seen.arrive (.grdRsp k rows),
    ((rows.take q.rows).map fun d => (⟨sliceBytes d.data 0 64, d.fox⟩ : Delivered)).zipIdx.any fun x =>
      !rowPasses (q.addr + 64 * x.2) x.1.data (noiseOf noise x.2) false, delivery_arrive (delivery_refl _) _, exec_store rfl ?_⟩
  simp only [hrows, hq', hhost, if_false, Bool.false_eq_true, List.zipIdx_map, List.map_map]
  rfl

/-- The rows of a read of host memory, as the host returned them. -/
def hostTaken (q : GalReq) : List Delivered := (hostRows.take q.rows).map fun x => ⟨sliceBytes x.data 0 64, x.fox⟩

/-- Rows of host memory land as the host returned them. -/
theorem exec_readDataLand_host (hq : s.seen.galReq k = some q) (hhost : q.host = true) (hsent : q.sent = true) :
    ∃ (a : Panel) (bad : Bool), Delivery s.seen a ∧ exec (.readDataLand k hostRows noise) s = .next (s.store fun _ _ =>
      landTaken k q bad (hostTaken hostRows q) a) := by
  have hq' (rows : List Delivered) : (s.seen.arrive (.grdRsp k rows)).galReq k = some q :=
    (galReq_delivery (delivery_arrive (delivery_refl _) _) k).trans hq
  cases hdata : s.seen.takeData k with
  | none =>
    refine ⟨s.seen.arrive (.grdReq k q.addr q.rows q.trace q.row), (hostTaken hostRows q).any (·.fox),
      delivery_arrive (delivery_refl _) _, exec_store rfl ?_⟩
    simp only [hdata, hq, hhost, hsent, if_true]
    rfl
  | some rows =>
    refine ⟨(s.seen.arrive (.grdRsp k rows)).arrive (.grdReq k q.addr q.rows q.trace q.row),
      (hostTaken hostRows q).any (·.fox), delivery_arrive (delivery_arrive (delivery_refl _) _) _, exec_store rfl ?_⟩
    simp only [hdata, hq', hhost, hsent, if_true]
    rfl

end

section
variable {s : State} {k : GalKey} {q : GalReq} {p a : Panel}

theorem landTaken_gone (hkey : q.key = k) (bad : Bool) (rows : List Delivered) : Gone k (landTaken k q bad rows a) :=
  hkey ▸ landGalley_gone _ _ _

/-- 0x0810 lists no write and leaves the registers of the injection, so the rows land as on the panel before. -/
theorem landTaken_writes (ha : Delivery p a) (hkey : q.key = k) (hunit : k.unit < 4) (hkept : q.dropped = false) (bad : Bool)
    (rows : List Delivered) : (landTaken k q bad rows a).writes = (p.landRows k.site k.unit q.row rows).writes := by
  have hinject : Undisturbed Csr.SPR_CTRL_PAR_INJECT ∧ Undisturbed Csr.SPR_CTRL_INJ_CL := by
    unfold Undisturbed FldFits
    decide
  have hraised {g : Fld} (hg : Undisturbed g) (happart : WordsApart Csr.GAL_FAULT g) (c : Nat) :
      (a.raiseSev k.site c 0x0810 a.galSev).field k.site g = a.field k.site g :=
    raiseFor_field_undisturbed _ _ _ _ _ _ _ _ rfl hg happart fun _ => regionOf_lt
  subst hkey
  obtain ⟨_, _, rfl⟩ := ha
  unfold landTaken
  rw [landGalley_writes _ _ _ hunit hkept]
  refine landRows_writes_congr _ _ _ ?_ ?_ ?_ _
  · exact ite_keeps (·.writes) (raiseSev_writes ..)
  · exact ite_keeps (·.field _ _) (hraised hinject.1 (by decide) _)
  · exact ite_keeps (·.field _ _) (hraised hinject.2 (by decide) _)

theorem landTaken_noWrites (ha : Delivery p a) (hkey : q.key = k) (h : 4 ≤ k.unit ∨ q.dropped = true) (bad : Bool)
    (rows : List Delivered) : (landTaken k q bad rows a).writes = p.writes := by
  subst hkey
  obtain ⟨_, _, rfl⟩ := ha
  unfold landTaken
  rw [landGalley_noWrites _ _ _ h]
  exact ite_keeps (·.writes) (raiseSev_writes ..)

/-- What a read leaves once its rows have been taken. -/
theorem landed_of_landTaken {c : Instr} {bad : Bool} {rows : List Delivered} (ha : Delivery s.seen a) (hkey : q.key = k)
    (hx : exec c s = .next (s.store fun _ _ => landTaken k q bad rows a)) :
    ∃ t, exec c s = .next t ∧ Gone k t.p ∧ t.p.time = s.p.time
      ∧ (k.unit < 4 → q.dropped = false → t.mem = s.mem.apply (s.seen.landRows k.site k.unit q.row rows).writes)
      ∧ (4 ≤ k.unit ∨ q.dropped = true → t.mem = s.mem) := by
  refine ⟨_, hx, ?_, store_time .., fun hunit hkept => ?_, fun h => store_mem_of_writes _ _ (landTaken_noWrites ha hkey h ..)⟩
  · exact landTaken_gone hkey bad rows
  · exact congrArg s.mem.apply (landTaken_writes ha hkey hunit hkept bad rows)

end

/-! ### Timeouts (R278) -/

section
variable {p : Panel} {k : GalKey} {q : GalReq} (hq : p.galReq k = some q) (hsent : q.sent = true)
include hq hsent

/-- Unless it was discarded, a write that times out raises 0x0812 and completes. -/
theorem galTimeout_write (hwrite : q.write = true) :
    p.galTimeout k
      = (if q.dropped then p else p.raiseAt k.site (if k.unit < 4 then k.unit else 0) 0x0812).galComplete k := by
  unfold Panel.galTimeout
  simp only [hq, hsent, hwrite, Bool.not_true, if_true, if_false, Bool.false_eq_true]

/-- A read that times out lands its rows foxed. -/
theorem galTimeout_read (hread : q.write = false) :
    ∃ rows, p.galTimeout k
      = ((if q.dropped then p else p.raiseSev k.site (if k.unit < 4 then k.unit else 0) 0x0811 p.galSev).foxedRows
          0x0811 q.rows).2.landGalley q rows := by
  unfold Panel.galTimeout
  simp only [hq, hsent, hread, Bool.not_true, if_false, Bool.false_eq_true]
  exact ⟨_, rfl⟩

theorem galTimeout_gone : Gone k (p.galTimeout k) := by
  have hkey := galReq_key hq
  cases hwrite : q.write with
  | true =>
    rw [galTimeout_write hq hsent hwrite]
    exact galComplete_gone _ k
  | false =>
    obtain ⟨rows, hread⟩ := galTimeout_read hq hsent hwrite
    rw [hread]
    exact hkey ▸ landGalley_gone _ _ _

theorem galTimeout_dropped_writes (hdropped : q.dropped = true) : (p.galTimeout k).writes = p.writes := by
  have hkey := galReq_key hq
  cases hwrite : q.write with
  | true => rw [galTimeout_write hq hsent hwrite, galComplete_writes, if_pos hdropped]
  | false =>
    obtain ⟨rows, hread⟩ := galTimeout_read hq hsent hwrite
    obtain ⟨n, hdrawn⟩ := drawBytes_panel p 0x0811 (64 * q.rows)
    rw [hread, landGalley_noWrites _ _ _ (.inr hdropped), if_pos hdropped]
    exact (congrArg Panel.writes hdrawn :)

theorem galTimeout_galFault (hgal : k.galley < 4) (hkept : q.dropped = false) (hwrite : q.write = false) :
    (p.galTimeout k).field k.site Csr.GAL_FAULT = 0x0811 := by
  obtain ⟨rows, hread⟩ := galTimeout_read hq hsent hwrite
  obtain rfl := galReq_key hq
  rw [hread, landGalley_galFault _ _ _ hgal, (keeps_foxedRows ..).1, hkept]
  exact raiseFor_field_faultReg _ _ _ _ _ _ _ rfl (by decide) fun _ => regionOf_lt

end

/-- Settles O27: which request is there, and whether it was sent, discarded or for host memory, decide what each command does. -/
theorem galleyRequests : Obligations.GalleyRequests := by
  refine ⟨fun s site cl => ⟨fun q hq hmay => ⟨?sends, fun hread hsite hunit => ?reads⟩, fun q hq hmay => ?waits, fun hnone => ?noneLeft⟩,
    fun s k q hgal hq => ⟨fun rows hostRows noise hhost hdata => ?lands, fun hostRows noise hhost hsent => ?landsHost,
      fun hhost hack => ?acked, fun a rows inj hhost hwrite => ?hostWritten, fun hdone => ?traceDone,
      fun hsent hkept hwrite => ?writeLate, fun hsent hkept hread => ?readLate, fun hsent hdropped => ?discarded,
      fun hsent => ?unsent⟩⟩
  case sends => exact exec_store rfl (by simp only [hq, hmay, if_true])
  case reads =>
    subst hsite hunit
    obtain ⟨hnet, hgalley⟩ := sendGalley_read s.seen s.mem hread
    exact ⟨_, exec_store (g := fun m p => p.sendGalley m q) rfl (by simp only [hq, hmay, if_true]), hnet, hgalley⟩
  case waits => exact exec_store rfl (by simp only [hq, hmay, if_false, Bool.false_eq_true])
  case noneLeft => exact exec_store rfl (by simp only [hnone])
  case lands =>
    obtain ⟨a, bad, ha, hx⟩ := exec_readDataLand_die hostRows noise hq hhost hdata
    exact landed_of_landTaken ha (galReq_key hq) hx
  case landsHost =>
    obtain ⟨a, bad, ha, hx⟩ := exec_readDataLand_host hostRows noise hq hhost hsent
    exact landed_of_landTaken ha (galReq_key hq) hx
  case acked =>
    exact ⟨_, exec_quiet (g := fun p => (p.arrive (.gwrAck k)).galComplete k) rfl
      (by simp only [hq, hhost, hack, if_true, if_false, Bool.false_eq_true]),
      galComplete_gone _ k, galComplete_net _ k, rfl, galComplete_out _ k⟩
  case hostWritten =>
    exact ⟨_, exec_quiet (g := fun p => ((p.arrive (.gwrReq k a rows inj)).emit
        (.hostWrite a (rows.flatMap fun d : Delivered => d.data) (rows.any fun d : Delivered => d.fox))).galComplete k) rfl
      (by simp only [hq, hhost, hwrite, if_true]),
      galComplete_gone _ k, galComplete_net _ k, rfl, galComplete_out _ k⟩
  case traceDone =>
    exact ⟨_, exec_quiet (g := fun p => (p.arrive (.gtrDone k)).galComplete k) rfl (by simp only [hdone, if_true]),
      galComplete_gone _ k, galComplete_net _ k, rfl⟩
  case writeLate =>
    refine exec_store rfl ((galTimeout_write hq hsent hwrite).trans ?_)
    rw [hkept]
    rfl
  case readLate =>
    refine ⟨_, rfl, ?_, ?_⟩
    · exact galTimeout_galFault hq hsent hgal hkept hread
    · exact galTimeout_gone hq hsent
  case discarded =>
    refine ⟨_, rfl, galTimeout_gone hq hsent, store_mem_of_writes _ _ (galTimeout_dropped_writes hq hsent hdropped)⟩
  case unsent =>
    refine exec_store rfl ?_
    unfold Panel.galTimeout
    simp only [hq, hsent, Bool.not_false, if_true]

end Sys2Proof.Proofs
end


section
/-! SUPPORT. What a memory die does with a read (R262, R279, R281, R313). -/

namespace Sys2Proof.Proofs

open Sys2Proof.Machine Sys2Proof.Laws

/-! ### Rows that a memory die reads -/

/-- One row of a read: its bytes with their bit of the fox table, or foxed with free bytes where its retries fail. -/
def rowServed (m : Mem) (a : Nat) (bad foxed : List Nat) (q : List Delivered × Panel) (i : Nat) : List Delivered × Panel :=
  if bad.contains i then (q.1 ++ [⟨(q.2.drawBytes 0x0810 64).1, true⟩], (q.2.drawBytes 0x0810 64).2)
  else (q.1 ++ [⟨m.read (a + 64 * i) 64, foxed.contains i⟩], q.2)

/-- The rows of a read whose bits of the fox table are set. -/
def tableFoxed (m : Mem) (a n : Nat) : List Nat := (List.range n).filter fun i => m.tableFox (a + 64 * i)

def rowsServed (p : Panel) (m : Mem) (a n : Nat) (bad : List Nat) : List Delivered × Panel :=
  (List.range n).foldl (rowServed m a bad (tableFoxed m a n)) ([], p)

/-- A read's rows go back to the die that asked, or on the trace that the request names. -/
def rowsAnswered (p : Panel) (k : GalKey) (a t row : Nat) (rows : List Delivered) : Panel :=
  if t = 0 then p.send (.grdRsp k rows)
  else p.traceRows (memSite a) 0x11 t k.site k.unit row a
    (rows.zipIdx.map fun x => plainUnit x.1 (some (rowCrc (a + 64 * x.2) x.1.data)) 0) (some k)

theorem countSlots_writes (p : Panel) (md : Nat) : (p.countSlots md).writes = p.writes := by
  unfold Panel.countSlots
  simp only
  split
  · rw [raise_writes, modMemDie_writes, setField_writes]
  · exact setField_writes ..

section
variable {p : Panel} {m : Mem} {k : GalKey} {a n t row : Nat}

/-- A ready memory die takes the request, reads its rows and answers; a row whose retries fail raises 0x0810. -/
theorem serveRead_ready (hlpddr : isLpddr a = true) (hready : p.memReady (memSite a) = true) (hread : p.takeRead k = some (a, n, t, row))
    (corrected retries : Nat) (failed : List Nat) :
    ∃ q, q.net = p.net.erase (.grdReq k a n t row) ∧ q.writes = p.writes
      ∧ p.serveRead m k corrected retries failed
        = let served := rowsServed q m a n (failed.filter (· < n))
          rowsAnswered (if (failed.filter (· < n)).isEmpty then served.2
            else served.2.raiseFor (memSite a) 0x0810 served.2.galSev (served.2.regionOf k.site) k.unit k.site) k a t row served.1 := by
  unfold Panel.serveRead
  simp only [hread, hlpddr, hready, Bool.not_true, Bool.or_self, if_false, Bool.false_eq_true]
  refine ⟨_, ?_, ?_, rfl⟩
  · simp only [tally_net, countSlots_net]
    rfl
  · simp only [tally_writes, countSlots_writes]
    rfl

end

/-! ### The rows of one read -/

section
variable (m : Mem) (a : Nat) (bad foxed : List Nat)

theorem rowServed_drawn (q : List Delivered × Panel) (i : Nat) : ∃ n, (rowServed m a bad foxed q i).2 = { q.2 with fresh := n } := by
  unfold rowServed
  split
  · exact drawBytes_panel q.2 0x0810 64
  · exact ⟨_, rfl⟩

theorem rowServed_fox (q : List Delivered × Panel) (i : Nat) :
    (rowServed m a bad foxed q i).1.map (·.fox) = q.1.map (·.fox) ++ [bad.contains i || foxed.contains i] := by
  unfold rowServed
  split
  case isTrue h => simp only [List.map_append, List.map_cons, List.map_nil, h, Bool.true_or]
  case isFalse h => simp only [List.map_append, List.map_cons, List.map_nil, h, Bool.false_or]

theorem foldl_rowServed_fox (l : List Nat) (q : List Delivered × Panel) :
    (l.foldl (rowServed m a bad foxed) q).1.map (·.fox)
      = q.1.map (·.fox) ++ l.map fun i => bad.contains i || foxed.contains i := by
  induction l generalizing q with
  | nil => simp
  | cons i l ih => rw [List.foldl_cons, ih, rowServed_fox, List.append_assoc]; rfl

theorem foldl_rowServed_stored (l : List Nat) (q : List Delivered × Panel) :
    l.foldl (rowServed m a [] foxed) q = (q.1 ++ l.map fun i => ⟨m.read (a + 64 * i) 64, foxed.contains i⟩, q.2) := by
  induction l generalizing q with
  | nil => simp
  | cons i l ih => rw [List.foldl_cons, ih]; simp [rowServed]

end

section
variable (p : Panel) (m : Mem) (a n : Nat) (bad : List Nat)

/-- Reading rows draws free values for those that fail, and changes nothing else. -/
theorem rowsServed_drawn : ∃ f, (rowsServed p m a n bad).2 = { p with fresh := f } := by
  refine List.foldlRecOn (motive := fun q : List Delivered × Panel => ∃ f, q.2 = { p with fresh := f }) _ _ ⟨_, rfl⟩ ?_
  rintro q ⟨f, hq⟩ i -
  obtain ⟨f', h⟩ := rowServed_drawn m a bad (tableFoxed m a n) q i
  exact ⟨f', h.trans (by rw [hq])⟩

theorem rowsServed_foxes : (rowsServed p m a n bad).1.map (·.fox)
    = (List.range n).map fun i => bad.contains i || (tableFoxed m a n).contains i := foldl_rowServed_fox ..

theorem rowsServed_length : (rowsServed p m a n bad).1.length = n := by
  simpa using congrArg List.length (rowsServed_foxes p m a n bad)

/-- A row that fails its retries is delivered foxed. -/
theorem rowsServed_fox {i : Nat} (hi : i < n) (hbad : i ∈ bad) : (nth (rowsServed p m a n bad).1 i ⟨[], false⟩).fox = true := by
  have hrow := congrArg (·[i]?) (rowsServed_foxes p m a n bad)
  simp only [List.getElem?_map, List.getElem?_range hi, Option.map_some, List.contains_iff_mem.mpr hbad, Bool.true_or] at hrow
  obtain ⟨d, hd, hfox⟩ := Option.map_eq_some_iff.mp hrow
  rw [nth, hd]
  exact hfox

/-- Rows of which none fails are delivered as they are stored. -/
theorem rowsServed_stored : rowsServed p m a n []
    = ((List.range n).map fun i => ⟨m.read (a + 64 * i) 64, m.tableFox (a + 64 * i)⟩, p) := by
  refine (foldl_rowServed_stored m a _ _ _).trans (congrArg (·, p) ?_)
  refine (List.nil_append _).trans (List.map_congr_left fun i hi => ?_)
  have hfox : (tableFoxed m a n).contains i = m.tableFox (a + 64 * i) := by
    unfold tableFoxed
    rw [Bool.eq_iff_iff]
    simp [List.mem_range.mp hi]
  rw [hfox]

end

/-! ### Rows on a trace (R312, R314) -/

/-- `q` is `p` with flits of a trace that it sends from a site. -/
def TraceSent (site t : Nat) (p q : Panel) : Prop :=
  ∃ l, q = { p with net := p.net ++ l } ∧ ∀ x ∈ l, ∃ h i f d, x = .traceFlit site 64 h i f d ∧ h.trace = t

section
variable {site t : Nat}

theorem traceSent_refl (p : Panel) : TraceSent site t p p := ⟨[], by rw [List.append_nil], nofun⟩

theorem traceSent_trans {p q r : Panel} (h : TraceSent site t p q) (h' : TraceSent site t q r) : TraceSent site t p r := by
  obtain ⟨l, rfl, hl⟩ := h
  obtain ⟨l', rfl, hl'⟩ := h'
  exact ⟨l ++ l', by rw [List.append_assoc], fun x hx => (List.mem_append.mp hx).elim (hl x) (hl' x)⟩

theorem traceSent_each {α : Type} (l : List α) {f : Panel → α → Panel} (h : ∀ p x, TraceSent site t p (f p x)) (p : Panel) :
    TraceSent site t p (p.each l f) := by
  unfold Panel.each
  exact List.foldlRecOn (motive := TraceSent site t p) _ _ (traceSent_refl p) fun q hq x _ => traceSent_trans hq (h q x)

theorem traceSent_send (p : Panel) (h : PacketHead) (hh : h.trace = t) (i : Nat) (f : Flit) (d : Option GalKey) :
    TraceSent site t p (p.send (.traceFlit site 64 h i f d)) :=
  ⟨_, rfl, fun _ hx => ⟨h, i, f, d, List.mem_singleton.mp hx, hh⟩⟩

theorem traceSent_tracePacket (p : Panel) (h : PacketHead) (hh : h.trace = t) (units : List Flit) (done : Option GalKey) :
    TraceSent site t p (p.tracePacket site h units done) :=
  traceSent_each _ (fun p _ => traceSent_send p h hh _ _ _) p

theorem traceSent_traceRows (p : Panel) (type src sc row imm : Nat) (units : List Flit) (done : Option GalKey) :
    TraceSent site t p (p.traceRows site type t src sc row imm units done) := by
  unfold Panel.traceRows
  refine traceSent_each _ (fun p i => ?_) p
  refine traceSent_tracePacket p _ ?_ _ _
  rfl

end

/-! ### The answer -/

section
variable {s : State} {k : GalKey} {a n t row : Nat}

/-- Rows of which none fails its retries go back as they are stored, or on the trace. -/
theorem serveRead_stored {p : Panel} {m : Mem} (hlpddr : isLpddr a = true) (hready : p.memReady (memSite a) = true)
    (hread : p.takeRead k = some (a, n, t, row)) (corrected retries : Nat) {failed : List Nat} (hgood : ∀ i ∈ failed, n ≤ i) :
    ∃ q, q.net = p.net.erase (.grdReq k a n t row) ∧ q.writes = p.writes ∧ p.serveRead m k corrected retries failed
      = rowsAnswered q k a t row ((List.range n).map fun i => ⟨m.read (a + 64 * i) 64, m.tableFox (a + 64 * i)⟩) := by
  have hnone : failed.filter (· < n) = [] := List.filter_eq_nil_iff.mpr fun i hi => by simpa using hgood i hi
  obtain ⟨q, hnet, hwrites, hserve⟩ := serveRead_ready (m := m) hlpddr hready hread corrected retries failed
  refine ⟨q, hnet, hwrites, ?_⟩
  rw [hserve, hnone, rowsServed_stored]
  rfl

theorem exec_mdReadRequest_stored (hlpddr : isLpddr a = true) (hready : s.seen.memReady (memSite a) = true)
    (hread : s.seen.takeRead k = some (a, n, t, row)) (corrected retries : Nat) {failed : List Nat} (hgood : ∀ i ∈ failed, n ≤ i) :
    ∃ u, exec (.mdReadRequest k corrected retries failed) s = .next u
      ∧ (t = 0 → u.p.net = s.p.net.erase (.grdReq k a n 0 row)
          ++ [.grdRsp k ((List.range n).map fun i => ⟨s.mem.read (a + 64 * i) 64, s.mem.tableFox (a + 64 * i)⟩)])
      ∧ (t ≠ 0 → ∃ l, u.p.net = s.p.net.erase (.grdReq k a n t row) ++ l
          ∧ ∀ x ∈ l, ∃ h i f d, x = .traceFlit (memSite a) 64 h i f d ∧ h.trace = t)
      ∧ u.mem = s.mem ∧ u.p.time = s.p.time := by
  obtain ⟨q, hnet, hwrites, hserve⟩ := serveRead_stored (m := s.mem) hlpddr hready hread corrected retries hgood
  have hnet : q.net = s.p.net.erase (.grdReq k a n t row) := hnet
  refine ⟨_, rfl, fun ht => ?plain, fun ht => ?traced, store_mem_of_writes _ _ ?kept, store_time ..⟩
  case plain =>
    subst ht
    refine (congrArg Panel.net hserve).trans ?_
    exact congrArg (· ++ _) hnet
  case traced =>
    obtain ⟨l, hsent, hl⟩ := traceSent_traceRows (site := memSite a) (t := t) q 0x11 k.site k.unit row a
      ((((List.range n).map fun i => ⟨s.mem.read (a + 64 * i) 64, s.mem.tableFox (a + 64 * i)⟩) : List Delivered).zipIdx.map fun x =>
        plainUnit x.1 (some (rowCrc (a + 64 * x.2) x.1.data)) 0) (some k)
    refine ⟨l, (congrArg Panel.net (hserve.trans ((if_neg ht).trans hsent))).trans ?_, hl⟩
    exact congrArg (· ++ _) hnet
  case kept =>
    refine (congrArg Panel.writes hserve).trans ?_
    unfold rowsAnswered
    split
    · exact hwrites
    · exact (beside_writes (beside_traceRows ..)).trans hwrites

/-- A row whose retries fail is delivered foxed, and 0x0810 is raised at the memory die. -/
theorem exec_mdReadRequest_failed (hlpddr : isLpddr a = true) (hready : s.seen.memReady (memSite a) = true)
    (hread : s.seen.takeRead k = some (a, n, 0, row)) (corrected retries : Nat) {failed : List Nat} {i : Nat} (hbad : i ∈ failed)
    (hi : i < n) :
    ∃ t, exec (.mdReadRequest k corrected retries failed) s = .next t ∧ t.mem = s.mem
      ∧ t.p.field (memSite a) Csr.GAL_FAULT = 0x0810
      ∧ ∃ rows : List Delivered, t.p.net = s.p.net.erase (.grdReq k a n 0 row) ++ [.grdRsp k rows] ∧ rows.length = n
        ∧ (nth rows i ⟨[], false⟩).fox = true := by
  have hmem : i ∈ failed.filter (· < n) := List.mem_filter.mpr ⟨hbad, by simpa using hi⟩
  have hsome : (failed.filter (· < n)).isEmpty = false := by simpa using List.ne_nil_of_mem hmem
  obtain ⟨q, hnet, hwrites, hserve⟩ := serveRead_ready (m := s.mem) hlpddr hready hread corrected retries failed
  obtain ⟨f, hdrawn⟩ := rowsServed_drawn q s.mem a n (failed.filter (· < n))
  rw [hsome] at hserve
  refine ⟨_, rfl, store_mem_of_writes _ _ ?kept, ?fault,
    (rowsServed q s.mem a n (failed.filter (· < n))).1, ?sent, rowsServed_length .., rowsServed_fox _ _ _ _ _ hi hmem⟩
  case kept =>
    refine (congrArg Panel.writes hserve).trans ((raiseFor_writes ..).trans ?_)
    rw [hdrawn]
    exact hwrites
  case fault =>
    refine (store_field ..).trans ((congrArg (fun r : Panel => r.field (memSite a) Csr.GAL_FAULT) hserve).trans ?_)
    exact raiseFor_field_faultReg (rowsServed q s.mem a n (failed.filter (· < n))).2 (memSite a) 0x0810 _ _ _ _ rfl (by decide) fun _ => regionOf_lt
  case sent =>
    refine (congrArg Panel.net hserve).trans (congrArg (· ++ _) ((raiseFor_net ..).trans ?_))
    rw [hdrawn]
    exact hnet

end

end Sys2Proof.Proofs
end

section
/-! SUPPORT. What a memory die does with a write (R262, R279, R281). -/

namespace Sys2Proof.Proofs

open Sys2Proof.Machine Sys2Proof.Laws

/-! ### Copies list no write -/

section
variable (p : Panel)

theorem stopCopies_writes (shard : Nat) : (p.stopCopies shard).writes = p.writes := by
  unfold Panel.stopCopies Panel.showBuffer
  refine (each_keeps (·.writes) _ (fun p md _ => ?_) _).trans rfl
  rw [setField_writes, ite_keeps (·.writes) (modMemDie_writes ..)]
  split
  · rfl
  · exact modMemDie_writes ..

theorem unmirror_writes (shard region : Nat) : (p.unmirror shard region).writes = p.writes := by
  unfold Panel.unmirror
  simp only
  split
  · exact stopCopies_writes ..
  · exact (raiseRegion_writes ..).trans ((setField_writes ..).trans (stopCopies_writes ..))

theorem lag_writes (md shard region : Nat) : (p.lag md shard region).writes = p.writes := by
  unfold Panel.lag Panel.count
  exact (ite_keeps (·.writes) (unmirror_writes ..)).trans (setField_writes ..)

theorem copyOut_writes (md : Nat) (h : Shard) (a : Nat) (rows : List Delivered) : (p.copyOut md h a rows).writes = p.writes := by
  unfold Panel.copyOut Panel.showBuffer
  split
  · rfl
  · refine (setField_writes ..).trans ?_
    have hfull (q : Panel) : (match (q.memDie md).copies with
        | c :: cs => if 512 ≤ cs.length + 1 then q.unmirror c.shard (q.shardRegion c.shard h.region) else q
        | [] => q).writes = q.writes := by
      split
      · exact ite_keeps (·.writes) (unmirror_writes ..)
      · rfl
    exact (hfull _).trans (lag_writes ..)

end

/-! ### Rows that a memory die accepts -/

/-- The writes of rows one after another from an address. -/
def rowWrites (a : Nat) (rows : List Delivered) : List MemWrite :=
  rows.zipIdx.map fun x => { addr := a + 64 * x.2, data := x.1.data, rows := 1, fox := some x.1.fox }

section
variable (p : Panel) (a : Nat) (rows : List Delivered) (k : Option GalKey)

theorem acceptRows_writes : (p.acceptRows a rows k).1.writes = p.writes ++ rowWrites a rows := by
  have hput := each_put_writes (fun x : Delivered × Nat =>
    { addr := a + 64 * x.2, data := x.1.data, rows := 1, fox := some x.1.fox }) rows.zipIdx p
  unfold Panel.acceptRows
  simp only
  split
  · exact hput
  · split
    · exact hput
    · exact (copyOut_writes ..).trans hput

/-- Outside the shards rows are stored, and nothing is copied or withheld. -/
theorem acceptRows_plain (h : p.shardAt a = none) :
    (p.acceptRows a rows k).2 = false ∧ (p.acceptRows a rows k).1.net = p.net ∧ (p.acceptRows a rows k).1.csr = p.csr := by
  have hput {α : Type} (part : Panel → α) (hpart : ∀ p w, part (p.put w) = part p) :
      part (p.each rows.zipIdx fun p di => p.put { addr := a + 64 * di.2, data := di.1.data, rows := 1, fox := some di.1.fox })
        = part p := each_keeps part _ (fun p _ _ => hpart p _) p
  have hshard := (hput (fun q : Panel => q.shardAt a) fun _ _ => rfl).trans h
  unfold Panel.acceptRows
  simp only [hshard]
  exact ⟨trivial, hput Panel.net fun _ _ => rfl, hput Panel.csr fun _ _ => rfl⟩

end

/-! ### A write's rows and their CRCs (R262, R279) -/

section
variable (m : Mem) (a : Nat) (rows : List Delivered) (inj : List Nat) (noise : List (Nat × Nat))

/-- The CRC of a write's row holds as it arrives. -/
def writePasses (x : Delivered × Nat) : Bool := rowPasses (a + 64 * x.2) x.1.data (noiseOf noise x.2) (inj.contains x.2)

/-- The rows of a write as they are stored: one whose CRC fails keeps its bytes, foxed. -/
def writeRows : List Delivered :=
  rows.zipIdx.map fun x => if !writePasses a inj noise x then ⟨m.read (a + 64 * x.2) 64, true⟩
    else ⟨noisyRow (noiseOf noise x.2) x.1.data, x.1.fox⟩

/-- The writes of a write's rows. -/
theorem rowWrites_writeRows : rowWrites a (writeRows m a rows inj noise) = rows.zipIdx.map fun x =>
    { addr := a + 64 * x.2,
      data := if writePasses a inj noise x = true then noisyRow (noiseOf noise x.2) x.1.data else m.read (a + 64 * x.2) 64, rows := 1,
      fox := some (!writePasses a inj noise x || x.1.fox) } := by
  unfold rowWrites writeRows
  refine List.ext_getElem? fun i => ?_
  simp only [List.getElem?_map, List.getElem?_zipIdx, Option.map_map]
  refine congrArg (Option.map · rows[i]?) (funext fun d => ?_)
  simp only [Function.comp_apply, Nat.zero_add]
  cases writePasses a inj noise (d, i) <;> rfl

end

/-- A die counts the rows whose CRC fails and raises 0x0813. -/
def crcChecked (md j : Nat) (k : GalKey) (bad : List (Delivered × Nat)) (p : Panel) : Panel :=
  if bad.isEmpty then p
  else (p.tally md (Csr.GAL_CH_CRC j) bad.length).raiseFor md 0x0813 p.galSev (p.regionOf k.site) k.unit k.site

section
variable (md j : Nat) (k : GalKey) (bad : List (Delivered × Nat)) (p : Panel)

theorem crcChecked_keeps {α : Type} (part : Panel → α) (htally : ∀ p s f n, part (Panel.tally p s f n) = part p)
    (hraise : ∀ p s c v r l d, part (Panel.raiseFor p s c v r l d) = part p) : part (crcChecked md j k bad p) = part p := by
  unfold crcChecked
  split
  · rfl
  · exact (hraise ..).trans (htally ..)

theorem crcChecked_fault (h : bad ≠ []) : (crcChecked md j k bad p).field md Csr.GAL_FAULT = 0x0813 := by
  unfold crcChecked
  rw [if_neg (by simpa using h)]
  exact raiseFor_field_faultReg _ _ _ _ _ _ _ rfl (by decide) fun _ => regionOf_lt

end

theorem shardAt_of_fabric {p q : Panel} (h : q.fabric = p.fabric) (a : Nat) : q.shardAt a = p.shardAt a := by
  unfold Panel.shardAt
  rw [h]

theorem countSlots_fabric (p : Panel) (md : Nat) : (p.countSlots md).fabric = p.fabric := by
  have hdie (p : Panel) (f : MemDie → MemDie) : (p.modMemDie md f).fabric = p.fabric := rfl
  unfold Panel.countSlots
  simp only
  split
  · rw [raise_fabric, hdie, setField_fabric]
  · exact setField_fabric ..

section
variable {p : Panel} {k : GalKey} {a : Nat} {rows : List Delivered} {inj : List Nat}

/-- A ready memory die takes the write, raises 0x0813 where a row's CRC fails, and accepts its rows. -/
theorem serveWrite_ready (hlpddr : isLpddr a = true) (hready : p.memReady (memSite a) = true)
    (hwrite : p.takeWrite k = some (a, rows, inj)) (hnone : p.writes = []) (m : Mem) (noise : List (Nat × Nat)) :
    ∃ q : Panel, q.net = p.net.erase (.gwrReq k a rows inj) ∧ q.writes = [] ∧ q.shardAt a = p.shardAt a
      ∧ (rows.zipIdx.any (fun x => !writePasses a inj noise x) = true → q.field (memSite a) Csr.GAL_FAULT = 0x0813)
      ∧ p.serveWrite m k noise = if (q.acceptRows a (writeRows m a rows inj noise) (some k)).2 then
          (q.acceptRows a (writeRows m a rows inj noise) (some k)).1
        else (q.acceptRows a (writeRows m a rows inj noise) (some k)).1.send (.gwrAck k) := by
  have hwrites : ((p.arrive (.gwrReq k a rows inj)).countSlots (memSite a)).writes = [] := (countSlots_writes ..).trans hnone
  have hmem : ((p.arrive (.gwrReq k a rows inj)).countSlots (memSite a)).memory m = m := by
    unfold Panel.memory
    rw [hwrites]
    rfl
  unfold Panel.serveWrite
  simp only [hwrite, hlpddr, hready, hmem, Bool.not_true, Bool.or_self, if_false, Bool.false_eq_true]
  refine ⟨crcChecked (memSite a) (memChannel a) k (rows.zipIdx.filter fun x => !writePasses a inj noise x)
    ((p.arrive (.gwrReq k a rows inj)).countSlots (memSite a)), ?net, ?writes, ?shards, fun hbad => ?fault, rfl⟩
  case net => exact (crcChecked_keeps _ _ _ _ _ Panel.net tally_net raiseFor_net).trans (countSlots_net ..)
  case writes => exact (crcChecked_keeps _ _ _ _ _ Panel.writes tally_writes raiseFor_writes).trans hwrites
  case shards =>
    refine shardAt_of_fabric ?_ a
    exact (crcChecked_keeps _ _ _ _ _ Panel.fabric tally_fabric raiseFor_fabric).trans (countSlots_fabric ..)
  case fault =>
    obtain ⟨x, hx, hfails⟩ := List.any_eq_true.mp hbad
    exact crcChecked_fault _ _ _ _ _ (List.ne_nil_of_mem (List.mem_filter.mpr ⟨hx, hfails⟩))

end

/-! ### A write's end -/

section
variable {s : State} {k : GalKey} {a : Nat} {rows : List Delivered} {inj : List Nat} (hlpddr : isLpddr a = true)
  (hready : s.seen.memReady (memSite a) = true) (hwrite : s.seen.takeWrite k = some (a, rows, inj)) (noise : List (Nat × Nat))
include hlpddr hready hwrite

/-- Every write that a ready die takes is stored; outside the shards it is accepted at once. -/
theorem exec_mdWriteRequest : ∃ u, exec (.mdWriteRequest k noise) s = .next u
    ∧ u.mem = s.mem.apply (rowWrites a (writeRows s.mem a rows inj noise))
    ∧ (s.seen.shardAt a = none → u.p.net = s.p.net.erase (.gwrReq k a rows inj) ++ [.gwrAck k]
      ∧ (rows.zipIdx.any (fun x => !writePasses a inj noise x) = true → u.p.field (memSite a) Csr.GAL_FAULT = 0x0813)) := by
  obtain ⟨q, hnet, hwrites, hshard, hfault, hserve⟩ := serveWrite_ready hlpddr hready hwrite rfl s.mem noise
  have hlisted := acceptRows_writes q a (writeRows s.mem a rows inj noise) (some k)
  refine ⟨_, rfl, congrArg s.mem.apply ((congrArg Panel.writes hserve).trans ?stored), fun hplain => ?accepted⟩
  case stored =>
    rw [hwrites, List.nil_append] at hlisted
    split
    · exact hlisted
    · exact hlisted
  case accepted =>
    obtain ⟨hheld, hkept, hcsr⟩ := acceptRows_plain q a (writeRows s.mem a rows inj noise) (some k) (hshard.trans hplain)
    rw [hheld] at hserve
    refine ⟨(congrArg Panel.net hserve).trans (congrArg (· ++ _) (hkept.trans hnet)), fun hbad => ?_⟩
    refine (store_field ..).trans ((congrArg (fun r : Panel => r.field (memSite a) Csr.GAL_FAULT) hserve).trans ?_)
    exact (field_of_csr hcsr ..).trans (hfault hbad)

end

/-! ### A row that keeps its bytes -/

theorem putBytes_read_get (m : Mem) (n j : Nat) : ∀ (b : List Host.Cell) (a : Nat),
    SMap.get memByte0 b j = m.byte j → SMap.get memByte0 (putBytes b a (m.read a n)) j = m.byte j := by
  induction n with
  | zero => intro b a h; exact h
  | succ n ih =>
    intro b a h
    refine ih _ _ ?_
    rw [smap_get_set]
    split
    case isTrue hj => rw [hj]
    case isFalse => exact h

theorem read_length (m : Mem) (n : Nat) : ∀ a, (m.read a n).length = n := by
  induction n with
  | zero => intro a; rfl
  | succ n ih => intro a; exact congrArg (· + 1) (ih _)

theorem read_congr {m m' : Mem} (h : ∀ j, m'.byte j = m.byte j) (n : Nat) : ∀ a, m'.read a n = m.read a n := by
  induction n with
  | zero => intro a; rfl
  | succ n ih => intro a; exact congrArg₂ List.cons (h a) (ih _)

theorem rowsTouched_row_pos (a : Nat) : 1 ≤ rowsTouched a 64 := by
  unfold rowsTouched
  exact Nat.le_add_left ..

/-- A row written with its own bytes and foxed reads as before, foxed. -/
theorem mem_write_kept (m : Mem) (a : Nat) :
    let m' := m.write { addr := a, data := m.read a 64, rows := 1, fox := some true }
    (∀ b n, m'.read b n = m.read b n) ∧ m'.foxAt a = true := by
  have hsame : m.write { addr := a, data := m.read a 64, rows := 1, fox := some true }
      = m.write { addr := a, data := m.read a 64, fox := some true } := by
    have hmax : max (rowsTouched a (m.read a 64).length) 1 = max (rowsTouched a (m.read a 64).length) 0 := by
      rw [read_length, max_eq_left (rowsTouched_row_pos a), Nat.max_zero]
    unfold Mem.write
    simp only [hmax]
  rw [hsame]
  refine ⟨fun b n => read_congr (fun j => ?_) n b, ?_⟩
  · unfold Mem.byte
    rw [mem_write_data_bytes]
    exact putBytes_read_get m 64 j _ _ rfl
  · rw [mem_write_data_foxAt, read_length]
    exact if_pos ⟨le_rfl, Nat.lt_add_of_pos_right (rowsTouched_row_pos a)⟩

/-- A write of one row whose CRC fails. -/
theorem exec_mdWriteRequest_failed {s : State} {k : GalKey} {a : Nat} {row : Delivered} {inj : List Nat} {noise : List (Nat × Nat)}
    (hlpddr : isLpddr a = true) (hready : s.seen.memReady (memSite a) = true) (hwrite : s.seen.takeWrite k = some (a, [row], inj))
    (hplain : s.seen.shardAt a = none) (hfails : rowPasses a row.data (noiseOf noise 0) (inj.contains 0) = false) :
    ∃ t, exec (.mdWriteRequest k noise) s = .next t ∧ (∀ b n, t.mem.read b n = s.mem.read b n) ∧ t.mem.foxAt a = true
      ∧ t.p.field (memSite a) Csr.GAL_FAULT = 0x0813 := by
  obtain ⟨u, hx, hmem, haccepted⟩ := exec_mdWriteRequest hlpddr hready hwrite noise
  have hpasses : writePasses a inj noise (row, 0) = false := hfails
  have hrows : writeRows s.mem a [row] inj noise = [⟨s.mem.read a 64, true⟩] := by
    unfold writeRows
    simp only [List.zipIdx_cons, List.zipIdx_nil, List.map_cons, List.map_nil, hpasses, Bool.not_false, if_true]
    rfl
  obtain ⟨hread, hfox⟩ := mem_write_kept s.mem a
  rw [hrows] at hmem
  have hmem : u.mem = s.mem.write { addr := a, data := s.mem.read a 64, rows := 1, fox := some true } := hmem
  refine ⟨u, hx, hmem ▸ hread, hmem ▸ hfox, (haccepted hplain).2 ?_⟩
  simp [hpasses]

/-! ### CRCs (R262) -/

theorem rowPasses_plain (a : Nat) (bs : List Byte) : rowPasses a bs 0 false = true := rfl

theorem rowPasses_inverted (a : Nat) (bs : List Byte) : rowPasses a bs 0 true = false := by
  have hbits : bitsOf 0 512 16 = 0 := by
    unfold bitsOf
    rw [Nat.zero_div, Nat.zero_mod]
  have hnoise : noisyRow 0 bs = bs := if_pos (Nat.zero_mod _)
  have hcrc : rowCrc a bs ^^^ 0 ^^^ 0xFFFF ≠ rowCrc a bs := by
    intro h
    have hmask := congrArg (rowCrc a bs ^^^ ·) h
    simp only [Nat.xor_zero, Nat.xor_self, Nat.xor_xor_cancel_left] at hmask
    exact absurd hmask (by decide)
  unfold rowPasses
  rw [hbits, hnoise]
  exact decide_eq_false hcrc

end Sys2Proof.Proofs
end

section
/-! SUPPORT. The sweep of the fox summaries and the counts of a memory die's channels (R261, R281). -/

namespace Sys2Proof.Proofs

open Sys2Proof.Machine Sys2Proof.Laws

/-! ### The sweep (R281) -/

theorem mem_write_clean (m : Mem) (key : Nat) :
    m.write { fox := none, parity := none, clean := some key } = { m with summary := SMap.set memSum0 m.summary key false } := rfl

/-- The sweep of a channel goes on past the segment that it scanned. -/
def swept (md j g : Nat) (p : Panel) : Panel :=
  p.modMemDie md fun d => { d with sweep := SMap.set (fun _ => 0) d.sweep j ((g + 1) % segmentCount) }

theorem swept_sweep (md j g : Nat) (p : Panel) :
    SMap.get (fun _ => 0) ((swept md j g p).memDie md).sweep j = (g + 1) % segmentCount := by
  unfold swept
  rw [modMemDie_same]
  exact smap_get_set_same _ _ _ _

/-- A segment with no foxed row has its summary bit cleared; another is left as it is. -/
theorem exec_foxSummarySweep_found {s : State} {md channel g : Nat}
    (hnext : nextSegment s.mem (8 * ((md - 401) / 2) + channel % 8) segmentCount
      (SMap.get (fun _ => 0) (s.seen.memDie md).sweep (channel % 8)) = some g) :
    ∃ t, exec (.foxSummarySweep md channel) s = .next t ∧ t.mem.bytes = s.mem.bytes ∧ t.mem.fox = s.mem.fox
      ∧ SMap.get (fun _ => 0) (t.p.memDie md).sweep (channel % 8) = (g + 1) % segmentCount
      ∧ (segmentClean s.mem (8 * ((md - 401) / 2) + channel % 8) g = true →
        SMap.get memSum0 t.mem.summary ((8 * ((md - 401) / 2) + channel % 8) * segmentCount + g) = false)
      ∧ (segmentClean s.mem (8 * ((md - 401) / 2) + channel % 8) g = false → t.mem = s.mem) := by
  cases hclean : segmentClean s.mem (8 * ((md - 401) / 2) + channel % 8) g with
  | true =>
    refine ⟨_, exec_store (g := fun _ p => (swept md (channel % 8) g p).put
      { fox := none, parity := none, clean := some ((8 * ((md - 401) / 2) + channel % 8) * segmentCount + g) }) rfl ?_,
      rfl, rfl, swept_sweep .., fun _ => ?_, nofun⟩
    · simp only [hnext, hclean, if_true]
      rfl
    · refine (congrArg (fun m : Mem => SMap.get memSum0 m.summary _) (mem_write_clean s.mem _)).trans ?_
      exact smap_get_set_same memSum0 s.mem.summary _ false
  | false =>
    refine ⟨_, exec_store (g := fun _ p => swept md (channel % 8) g p) rfl ?_, rfl, rfl, swept_sweep .., nofun, fun _ => rfl⟩
    simp only [hnext, hclean, if_false, Bool.false_eq_true]
    rfl

theorem exec_foxSummarySweep_none {s : State} {md channel : Nat}
    (hnext : nextSegment s.mem (8 * ((md - 401) / 2) + channel % 8) segmentCount
      (SMap.get (fun _ => 0) (s.seen.memDie md).sweep (channel % 8)) = none) :
    exec (.foxSummarySweep md channel) s = .next (s.store fun _ p => p) := exec_store rfl (by simp only [hnext])

/-! ### Counts that are latched -/

section
variable (p : Panel) (s : Nat)

theorem tallyWord_setTallyWords_apart (o v n o' : Nat) (h : o' / 4 < o / 4 ∨ o / 4 + n ≤ o' / 4) :
    (p.setTallyWords s o v n).tallyWord s o' = p.tallyWord s o' := by
  induction n generalizing p o v with
  | zero => rfl
  | succ n ih => exact (ih _ _ _ (by omega)).trans (smap_get_set_other _ _ _ (by unfold csrKey; omega))

theorem tallyOf_setTallyWords_apart {f g : Fld} (h : WordsApart f g) (v : Nat) :
    (p.setTallyWords s f.place.1 v f.place.2.2).tallyOf s g = p.tallyOf s g := by
  have hwords (o n : Nat) (hn : o / 4 + n ≤ f.place.1 / 4 ∨ f.place.1 / 4 + f.place.2.2 ≤ o / 4) :
      (p.setTallyWords s f.place.1 v f.place.2.2).tallyWords s o n = p.tallyWords s o n := by
    induction n generalizing o with
    | zero => rfl
    | succ n ih =>
      simp only [Panel.tallyWords]
      rw [ih _ (by omega), tallyWord_setTallyWords_apart _ _ _ _ _ _ (by omega)]
  unfold Panel.tallyOf
  exact congrArg (bitsOf · _ _) (hwords _ _ h)

theorem latch_eq (f : Fld) : ∃ v, p.latch s f = (p.setField s f (p.tallyOf s f)).setTallyWords s f.place.1 v f.place.2.2 := ⟨_, rfl⟩

theorem setTallyWords_field (o v n : Nat) (g : Fld) : (p.setTallyWords s o v n).field s g = p.field s g :=
  field_of_csr (p := p) (by rw [setTallyWords_eq]) s g

theorem latch_field_apart {f g : Fld} (hf : FldFits f) (hg : FldFits g) (h : WordsApart f g) :
    (p.latch s f).field s g = p.field s g := by
  obtain ⟨v, hv⟩ := latch_eq p s f
  rw [hv, setTallyWords_field]
  exact field_setField_apart _ _ _ _ _ _ hf hg h

theorem latch_tallyOf_apart {f g : Fld} (h : WordsApart f g) : (p.latch s f).tallyOf s g = p.tallyOf s g := by
  obtain ⟨v, hv⟩ := latch_eq p s f
  rw [hv, tallyOf_setTallyWords_apart _ _ h]
  exact tallyOf_of_tallies (setField_tallies ..) ..

/-- A count that is latched begins again (R261). -/
theorem latch_tallyOf_same (f : Fld) : (p.latch s f).tallyOf s f = 0 := by
  have hb : f.place.2.1 + f.width ≤ 32 * f.place.2.2 := by
    unfold Fld.place
    simp only
    omega
  unfold Panel.latch Panel.tallyOf
  simp only
  rw [tallyWords_setTallyWords_same, Nat.mod_eq_of_lt (putBits_lt _ _ _ _ _ (tallyWords_lt _ _ _ _) hb), bitsOf_putBits_same,
    Nat.zero_mod]

end

/-! ### A channel that is polled (R261) -/

/-- The counts of a channel are latched. -/
def countsLatched (md j : Nat) (p : Panel) : Panel :=
  (((p.latch md (Csr.GAL_CH_LECC j)).latch md (Csr.GAL_CH_RETRY j)).latch md (Csr.GAL_CH_CRC j)).latch md (Csr.GAL_CH_FOXRD j)

/-- The readings of a channel show. -/
def readingsShown (md j odecc refresh temp : Nat) (p : Panel) : Panel :=
  ((p.setField md (Csr.GAL_CH_ODECC j) odecc).setField md (Csr.GAL_CH_REFCOL j) refresh).setField md (Csr.GAL_CH_TEMP j) temp

/-- A poll of one channel: its counts restart, its readings show, and too many errors raise 0x0814 and 0x0815. -/
def channelPolled (md : Nat) (odecc refresh temp : List Nat) (p : Panel) (j : Nat) : Panel :=
  let q := readingsShown md j (nth odecc j (p.field md (Csr.GAL_CH_ODECC j))) (nth refresh j 0) (nth temp j 0) (countsLatched md j p)
  let q := q.raiseIf (1024 < p.tallyOf md (Csr.GAL_CH_LECC j)) md 0x0814
  q.raiseIf (p.field md (Csr.GAL_CH_ODECC j) < q.field md (Csr.GAL_CH_ODECC j)) md 0x0815

theorem exec_odeccPoll (md : Nat) (odecc refresh temp : List Nat) (s : State) :
    exec (.odeccPoll md odecc refresh temp) s = .next (s.quiet fun p => p.each (List.range 8) (channelPolled md odecc refresh temp)) :=
  rfl

/-- The registers of a channel that a poll writes. -/
def polledFlds (j : Nat) : List Fld :=
  [Csr.GAL_CH_LECC j, Csr.GAL_CH_RETRY j, Csr.GAL_CH_CRC j, Csr.GAL_CH_FOXRD j, Csr.GAL_CH_ODECC j, Csr.GAL_CH_REFCOL j,
    Csr.GAL_CH_TEMP j]

/-- `g` lies apart from the registers that a poll of channel `j` writes. -/
def BesidePoll (j : Nat) (g : Fld) : Prop := ∀ f ∈ polledFlds j, FldFits f ∧ WordsApart f g

theorem polledFlds_apart : ∀ i < 8, ∀ j < 8, i ≠ j → ∀ g ∈ polledFlds i, BesidePoll j g := by
  unfold BesidePoll FldFits
  decide

/-- No effect of a fault reaches the registers of a channel. -/
theorem polledFlds_undisturbed : ∀ j < 8, ∀ g ∈ polledFlds j, Undisturbed g ∧ WordsApart Csr.GAL_FAULT g := by
  unfold Undisturbed FldFits
  decide

section
variable {j : Nat} {g : Fld} (p : Panel) (md : Nat)

theorem countsLatched_field (hg : FldFits g) (h : BesidePoll j g) : (countsLatched md j p).field md g = p.field md g := by
  have hlatch (p : Panel) {f : Fld} (hf : f ∈ polledFlds j) : (p.latch md f).field md g = p.field md g :=
    latch_field_apart _ _ (h f hf).1 hg (h f hf).2
  unfold countsLatched
  rw [hlatch _ (by simp [polledFlds]), hlatch _ (by simp [polledFlds]), hlatch _ (by simp [polledFlds]),
    hlatch _ (by simp [polledFlds])]

theorem countsLatched_tallyOf (h : BesidePoll j g) : (countsLatched md j p).tallyOf md g = p.tallyOf md g := by
  have hlatch (p : Panel) {f : Fld} (hf : f ∈ polledFlds j) : (p.latch md f).tallyOf md g = p.tallyOf md g :=
    latch_tallyOf_apart _ _ (h f hf).2
  unfold countsLatched
  rw [hlatch _ (by simp [polledFlds]), hlatch _ (by simp [polledFlds]), hlatch _ (by simp [polledFlds]),
    hlatch _ (by simp [polledFlds])]

/-- The counts of a channel restart. -/
theorem countsLatched_restart (hj : j < 8) :
    (countsLatched md j p).tallyOf md (Csr.GAL_CH_LECC j) = 0 ∧ (countsLatched md j p).tallyOf md (Csr.GAL_CH_CRC j) = 0 := by
  obtain ⟨hretry, hcrc, hfoxrd, hfoxrd'⟩ : WordsApart (Csr.GAL_CH_RETRY j) (Csr.GAL_CH_LECC j)
      ∧ WordsApart (Csr.GAL_CH_CRC j) (Csr.GAL_CH_LECC j) ∧ WordsApart (Csr.GAL_CH_FOXRD j) (Csr.GAL_CH_LECC j)
      ∧ WordsApart (Csr.GAL_CH_FOXRD j) (Csr.GAL_CH_CRC j) := by
    revert j
    decide
  unfold countsLatched
  constructor
  · rw [latch_tallyOf_apart _ _ hfoxrd, latch_tallyOf_apart _ _ hcrc, latch_tallyOf_apart _ _ hretry, latch_tallyOf_same]
  · rw [latch_tallyOf_apart _ _ hfoxrd', latch_tallyOf_same]

variable (odecc refresh temp : Nat)

theorem readingsShown_field (hg : FldFits g) (h : BesidePoll j g) :
    (readingsShown md j odecc refresh temp p).field md g = p.field md g := by
  have hset (p : Panel) (v : Nat) {f : Fld} (hf : f ∈ polledFlds j) : (p.setField md f v).field md g = p.field md g :=
    field_setField_apart _ _ _ _ _ _ (h f hf).1 hg (h f hf).2
  unfold readingsShown
  rw [hset _ _ (by simp [polledFlds]), hset _ _ (by simp [polledFlds]), hset _ _ (by simp [polledFlds])]

theorem readingsShown_shows (hj : j < 8) :
    (readingsShown md j odecc refresh temp p).field md (Csr.GAL_CH_REFCOL j) = refresh % 2 ^ 32
      ∧ (readingsShown md j odecc refresh temp p).field md (Csr.GAL_CH_TEMP j) = temp % 2 ^ 32 := by
  have hfits : FldFits (Csr.GAL_CH_REFCOL j) ∧ FldFits (Csr.GAL_CH_TEMP j)
      ∧ WordsApart (Csr.GAL_CH_TEMP j) (Csr.GAL_CH_REFCOL j) := by
    unfold FldFits
    revert j
    decide
  obtain ⟨hrefcol, htemp, happart⟩ := hfits
  unfold readingsShown
  constructor
  · rw [field_setField_apart _ _ _ _ _ _ htemp hrefcol happart, field_setField_same _ _ _ _ hrefcol]
    rfl
  · rw [field_setField_same _ _ _ _ htemp]
    rfl

theorem readingsShown_tallies : (readingsShown md j odecc refresh temp p).tallies = p.tallies := by
  unfold readingsShown
  rw [setField_tallies, setField_tallies, setField_tallies]

end

section
variable {j : Nat} {g : Fld} (p : Panel) (md : Nat) (odecc refresh temp : List Nat)

/-- The faults of a poll leave the readings and the counts. -/
theorem channelPolled_field_raised (hg : Undisturbed g) (happart : WordsApart Csr.GAL_FAULT g) :
    (channelPolled md odecc refresh temp p j).field md g
      = (readingsShown md j (nth odecc j (p.field md (Csr.GAL_CH_ODECC j))) (nth refresh j 0) (nth temp j 0)
          (countsLatched md j p)).field md g := by
  unfold channelPolled Panel.raiseIf
  simp only
  rw [ite_keeps (·.field md g) (raise_field_undisturbed _ _ _ _ rfl hg happart),
    ite_keeps (·.field md g) (raise_field_undisturbed _ _ _ _ rfl hg happart)]

theorem channelPolled_tallyOf_raised : (channelPolled md odecc refresh temp p j).tallyOf md g = (countsLatched md j p).tallyOf md g := by
  refine tallyOf_of_tallies ?_ _ _
  unfold channelPolled
  simp only [raiseIf_tallies, readingsShown_tallies]

/-- What a poll leaves in the registers of a channel. -/
def ChannelRead (md : Nat) (refresh temp : List Nat) (j : Nat) (p : Panel) : Prop :=
  p.field md (Csr.GAL_CH_REFCOL j) = nth refresh j 0 % 2 ^ 32 ∧ p.field md (Csr.GAL_CH_TEMP j) = nth temp j 0 % 2 ^ 32
    ∧ p.tallyOf md (Csr.GAL_CH_LECC j) = 0 ∧ p.tallyOf md (Csr.GAL_CH_CRC j) = 0

theorem channelPolled_reads (hj : j < 8) : ChannelRead md refresh temp j (channelPolled md odecc refresh temp p j) := by
  have hund := polledFlds_undisturbed j hj
  obtain ⟨hrefcol, htemp⟩ := readingsShown_shows (countsLatched md j p) md (nth odecc j (p.field md (Csr.GAL_CH_ODECC j)))
    (nth refresh j 0) (nth temp j 0) hj
  obtain ⟨hlecc, hcrc⟩ := countsLatched_restart p md hj
  obtain ⟨hrefcol', happart⟩ := hund (Csr.GAL_CH_REFCOL j) (by simp [polledFlds])
  obtain ⟨htemp', happart'⟩ := hund (Csr.GAL_CH_TEMP j) (by simp [polledFlds])
  exact ⟨(channelPolled_field_raised _ _ _ _ _ hrefcol' happart).trans hrefcol,
    (channelPolled_field_raised _ _ _ _ _ htemp' happart').trans htemp, (channelPolled_tallyOf_raised ..).trans hlecc,
    (channelPolled_tallyOf_raised ..).trans hcrc⟩

/-- A poll of another channel leaves a channel's registers. -/
theorem channelPolled_keeps {i : Nat} (hi : i < 8) (hj : j < 8) (hij : i ≠ j) (h : ChannelRead md refresh temp i p) :
    ChannelRead md refresh temp i (channelPolled md odecc refresh temp p j) := by
  have hfield {g : Fld} (hg : g ∈ polledFlds i) : (channelPolled md odecc refresh temp p j).field md g = p.field md g := by
    obtain ⟨hund, happart⟩ := polledFlds_undisturbed i hi g hg
    have hbeside := polledFlds_apart i hi j hj hij g hg
    rw [channelPolled_field_raised _ _ _ _ _ hund happart, readingsShown_field _ _ _ _ _ hund.1 hbeside,
      countsLatched_field _ _ hund.1 hbeside]
  have htally {g : Fld} (hg : g ∈ polledFlds i) : (channelPolled md odecc refresh temp p j).tallyOf md g = p.tallyOf md g :=
    (channelPolled_tallyOf_raised ..).trans (countsLatched_tallyOf _ _ (polledFlds_apart i hi j hj hij g hg))
  unfold ChannelRead at h ⊢
  rwa [hfield (by simp [polledFlds]), hfield (by simp [polledFlds]), htally (by simp [polledFlds]), htally (by simp [polledFlds])]

end

/-- Settles O28: a die that is ready takes the request; whether a row fails decides the answer and what is stored. -/
theorem memoryDies : Obligations.MemoryDies := by
  refine ⟨fun s k a hlpddr => ⟨fun hready => ⟨?stored, ?written⟩, fun hdown => ⟨?readWaits, ?writeWaits⟩⟩,
    fun s k a hlpddr hready => ⟨?rowRefused, ?rowLost, rfl, rowPasses_plain a, rowPasses_inverted a⟩,
    fun s md channel => ⟨fun g hnext => exec_foxSummarySweep_found hnext, exec_foxSummarySweep_none,
      fun odecc refresh temp j hj => ?polled⟩⟩
  case stored =>
    intro n t row corrected retries failed hgood hread
    exact exec_mdReadRequest_stored hlpddr hready hread corrected retries hgood
  case written =>
    intro rows inj noise hwrite
    obtain ⟨u, hx, hmem, haccepted⟩ := exec_mdWriteRequest hlpddr hready hwrite noise
    exact ⟨u, hx, hmem.trans (congrArg s.mem.apply (rowWrites_writeRows ..)), fun hplain => (haccepted hplain).1⟩
  case readWaits =>
    intro x corrected retries failed hread
    refine exec_store rfl ?_
    unfold Panel.serveRead
    simp only [hread, hdown, Bool.not_false, Bool.or_true, if_true]
  case writeWaits =>
    intro x noise hwrite
    refine exec_store rfl ?_
    unfold Panel.serveWrite
    simp only [hwrite, hdown, Bool.not_false, Bool.or_true, if_true]
  case rowRefused =>
    intro row inj noise hwrite hplain hfails
    exact exec_mdWriteRequest_failed hlpddr hready hwrite hplain hfails
  case rowLost =>
    intro n row corrected retries failed i hbad hi hread
    exact exec_mdReadRequest_failed hlpddr hready hread corrected retries hbad hi
  case polled =>
    have hread := each_settles (ChannelRead md refresh temp) (f := channelPolled md odecc refresh temp) (List.range 8)
      (fun p i hi => channelPolled_reads p md odecc refresh temp (List.mem_range.mp hi))
      (fun p i hi j hj hij h => channelPolled_keeps p md odecc refresh temp (List.mem_range.mp hi) (List.mem_range.mp hj) hij h)
      s.seen j (List.mem_range.mpr hj)
    obtain ⟨hrefcol, htemp, hlecc, hcrc⟩ := hread
    exact ⟨_, exec_odeccPoll .., (quiet_field ..).trans hrefcol, (quiet_field ..).trans htemp, (quiet_tallyOf ..).trans hlecc,
      (quiet_tallyOf ..).trans hcrc, rfl⟩

end Sys2Proof.Proofs
end

section
/-! SUPPORT. The replay buffers of a router's bundles as a head leaves or is discarded (R304, R310, R322, R325). -/

namespace Sys2Proof.Proofs

open Sys2Proof.Machine Sys2Proof.Laws

/-! ### Replay buffers -/

/-- Telling a peer something is no replayable frame (R321). -/
theorem told_replay {p q : Panel} (h : Told p q) (s b : Nat) : (q.bundle s b).replay = (p.bundle s b).replay :=
  (congrArg BundleEnd.replay (h.2 s b) :)

section
variable (p : Panel) (s i c : Nat) (h : PacketHead)

/-- A unit that is not KA-packed leaves in a DATA frame of the next SEQ, which the replay buffer keeps (R322, R325). -/
theorem sendUnit_replay (b k : Nat) {u : Flit} (hu : sideKa u.side = false) :
    ((p.sendUnit s b k u).bundle s b).replay = (p.bundle s b).replay
      ++ [⟨((p.bundle s b).txSeq + 1) % 512, azDataKind, leNat (u.data.take 64), u.side, 7⟩] := by
  unfold Panel.sendUnit Panel.sendReplayable
  simp only [hu, Bool.false_eq_true, if_false]
  refine (told_replay (told_sendFrame _ _ _ _) s b).trans ?_
  rw [modBundle_same, modBundle_same]

theorem headPasses_replay (out b : Nat) : ((headPasses p s i c h out).bundle s b).replay = (p.bundle s b).replay := by
  unfold headPasses
  exact told_replay (popFlit_told ..) s b

/-- A discarded packet leaves every bundle end as it is (R304). -/
theorem dropPacket_bundle (code : Nat) (counter : Fld) (b : Nat) : (p.dropPacket s h code counter).bundle s b = p.bundle s b := by
  unfold Panel.dropPacket
  rw [raise_bundle]
  unfold Panel.bundle
  rw [tally_bundles, loseMessage_eq]

/-- A head that leaves on a bundle goes as a DATA frame (R299, R322). -/
theorem unitLeaves_replay {b : Nat} (hb : b ≠ outLocal) (g : PacketHead) :
    ((unitLeaves p s i c b (headFlit g)).bundle s b).replay = (p.bundle s b).replay
      ++ [⟨((p.bundle s b).txSeq + 1) % 512, azDataKind, leNat ((headBytes g).take 64), 0, 7⟩] := by
  unfold unitLeaves
  rw [if_neg hb]
  exact sendUnit_replay (p.hasServed s b i c) s b c (by decide : sideKa 0 = false)

/-- A packet's 64th hop is one too many (R304). -/
theorem headFault_hops (hc : typeClass h.type = some h.cls) (hh : 64 ≤ h.hops + 1) :
    p.headFault s h = some (0x0906, Csr.FAB_DROP_LAST_DOWN) :=
  (if_neg (not_not_intro hc)).trans (if_pos hh)

end

/-! ### The command -/

section
variable {s : State} {site i c : Nat} {q : Panel} {h : PacketHead} {out : Nat}

/-- The replay buffers after a head has passed are those with which it passed. -/
theorem exec_headPasses_replay (hc : s.seen.packetHop site i c = (headPasses q site i c h out).showQueues site) {t : State}
    (ht : exec (.packetHop site i c) s = .next t) (b : Nat) : (t.p.bundle site b).replay = (q.bundle site b).replay := by
  obtain rfl := Host.Outcome.next.inj ((exec_quiet (g := fun _ => (headPasses q site i c h out).showQueues site) rfl hc).symm.trans ht)
  rw [shown_bundle, headPasses_replay]

end

/-- Settles O30: a head at its 64th hop is dropped with 0x0906 before any frame is sent, and any other leaves with one hop more. -/
theorem hopLimitDiscards : Obligations.HopLimitDiscards := by
  unfold Obligations.HopLimitDiscards
  intro s site i c q rest p h
  refine ⟨rfl, fun hr hi hc ho hq hh hclass => ?_⟩
  have hp : sourced s.seen site i c = p := rfl
  have hhop : s.seen.packetHop site i c = (p.headHop site i c h).showQueues site := packetHop_head hr hi hc ho hq hh
  have hbundle (b : Nat) : p.bundle site b = s.p.bundle site b := by rw [← hp, sourced_bundle, seen_bundle]
  refine ⟨fun hhops => ?discarded, fun b hf ht hb hs => ?leaves⟩
  case discarded =>
    have hdrop := hhop.trans (by rw [headHop_drops p site i c h (headFault_hops p site h hclass hhops)])
    obtain ⟨t, hx, hqueue, hopen, hmem, htime, hfault, -⟩ :=
      exec_headPasses (first := q) (rest := rest) hdrop (by rw [dropPacket_router, hq])
    refine ⟨t, hx, hfault.trans (dropPacket_fault p site h 0x0906 _ rfl (by decide)), hqueue, hopen, fun b => ?_, hmem, htime⟩
    rw [exec_headPasses_replay hdrop hx, dropPacket_bundle, hbundle]
  case leaves =>
    have hgo := hhop.trans (by rw [headHop_goes p site i c h hf ht hs])
    refine ⟨_, rfl, ?_⟩
    rw [exec_headPasses_replay hgo rfl, unitLeaves_replay p site i c hb,
      hbundle]

end Sys2Proof.Proofs
end

section
/-! SUPPORT. What frames, faults and copies of a link die leave: contexts, the list of writes and the floor plan. -/

namespace Sys2Proof.Proofs

open Sys2Proof.Machine Sys2Proof.Laws

/-- `q` differs from `p` at most in bookkeeping, in the ports' notes, and in the copies that memory dies hold. -/
def Routed (p q : Panel) : Prop :=
  ∃ ports fabric memDies, Beside { p with ports := ports, fabric := fabric, memDies := memDies } q

theorem routed_of_beside {p q : Panel} (h : Beside p q) : Routed p q := ⟨p.ports, p.fabric, p.memDies, h⟩

theorem routed_of_raised {p q : Panel} (h : Raised p q) : Routed p q := routed_of_beside (beside_of_raised h)

theorem routed_refl (p : Panel) : Routed p p := routed_of_beside (beside_refl p)

theorem routed_trans {p q r : Panel} (h : Routed p q) (h' : Routed q r) : Routed p r := by
  obtain ⟨_, _, _, _, _, _, _, _, _, _, _, _, _, rfl⟩ := h
  obtain ⟨ports, fabric, memDies, _, _, _, _, _, _, _, _, _, _, rfl⟩ := h'
  exact ⟨ports, fabric, memDies, _, _, _, _, _, _, _, _, _, _, rfl⟩

theorem routed_ite {c : Prop} [Decidable c] {p q r : Panel} (hq : Routed p q) (hr : Routed p r) : Routed p (if c then q else r) := by
  split
  · exact hq
  · exact hr

theorem routed_each {α : Type} (l : List α) {f : Panel → α → Panel} (h : ∀ p x, Routed p (f p x)) (p : Panel) :
    Routed p (p.each l f) := by
  unfold Panel.each
  exact List.foldlRecOn (motive := Routed p) _ _ (routed_refl p) fun q hq x _ => routed_trans hq (h q x)

section
variable {p q : Panel} (h : Routed p q)
include h

theorem routed_ctx (c : Nat) : q.ctx c = p.ctx c := by
  obtain ⟨_, _, _, _, _, _, _, _, _, _, _, _, _, rfl⟩ := h
  rfl

theorem routed_writes : q.writes = p.writes := by
  obtain ⟨_, _, _, _, _, _, _, _, _, _, _, _, _, rfl⟩ := h
  rfl

theorem routed_plan : q.plan = p.plan := by
  obtain ⟨_, _, _, _, _, _, _, _, _, _, _, _, _, rfl⟩ := h
  rfl

end

section
variable (p : Panel)

theorem routed_tally (s : Nat) (f : Fld) (k : Nat) : Routed p (p.tally s f k) := routed_of_beside (beside_tally ..)

theorem routed_send (m : NetMsg) : Routed p (p.send m) := routed_of_beside (beside_send ..)

theorem routed_raise (site code : Nat) : Routed p (p.raise site code) := routed_of_raised (raised_raise ..)

theorem routed_setField (s : Nat) (f : Fld) (v : Nat) : Routed p (p.setField s f v) := routed_of_raised (raised_setField ..)

theorem routed_setCtxField (c : Nat) (f : Nat → Fld) (v : Nat) : Routed p (p.setCtxField c f v) := routed_setField ..

theorem routed_modPort (q : Nat) (f : Port → Port) : Routed p (p.modPort q f) :=
  ⟨_, _, _, beside_refl _⟩

theorem routed_modMemDie (md : Nat) (f : MemDie → MemDie) : Routed p (p.modMemDie md f) :=
  ⟨_, _, _, beside_refl _⟩

/-! ### Frames (R341, R351) -/

theorem routed_emitFrame (port : Nat) (f : PlFrame) : Routed p (p.emitFrame port f) := by
  unfold Panel.emitFrame Panel.emitBytes Panel.draw
  refine routed_trans (routed_of_beside ?_) (routed_trans (routed_tally ..) (routed_of_raised (raised_emit ..)))
  exact ⟨_, _, _, _, _, _, _, _, _, _, rfl⟩

theorem routed_routeFrame (ld : Nat) (entry : Option Nat) (f : PlFrame) : Routed p (p.routeFrame ld entry f) := by
  have hdrop (code : Nat) : Routed p ((match entry with
      | some q => p.tally ld (Csr.LNK_P_DROP (q % 4)) 1
      | none => p).raise ld code) := by
    refine routed_trans ?_ (routed_raise ..)
    split
    · exact routed_tally ..
    · exact routed_refl p
  unfold Panel.routeFrame
  simp only
  refine routed_ite (hdrop _) (routed_ite (routed_send ..) ?_)
  split
  · exact hdrop _
  · have hnoted (q : Nat) : Routed p ((p.modPort q fun x => { x with altNoted := true }).raisePort q 0x0B03) :=
      routed_trans (routed_modPort ..) (routed_of_raised (raised_raiseFor ..))
    have hout (q : Panel) (o : Nat) (m n : NetMsg) (g : PlFrame) :
        Routed q (if o = 0xFE then q.send m else if linkOfPort o = ld then q.emitFrame o g else q.send n) :=
      routed_ite (routed_send ..) (routed_ite (routed_emitFrame ..) (routed_send ..))
    exact routed_trans (routed_ite (hnoted _) (routed_refl p)) (hout ..)

/-! ### Copies (R285, R286, R348) -/

theorem routed_stopCopies (shard : Nat) : Routed p (p.stopCopies shard) := by
  unfold Panel.stopCopies Panel.showBuffer
  have hforgotten (fabric : FabricSide) (net : List NetMsg) : Routed p { p with fabric := fabric, net := net } :=
    ⟨p.ports, fabric, p.memDies, _, _, _, _, _, _, net, _, _, _, rfl⟩
  refine routed_trans (hforgotten _ _) (routed_each _ (fun p md => ?_) _)
  simp only
  refine routed_trans ?_ (routed_setField ..)
  exact routed_trans (routed_ite (routed_refl p) (routed_modMemDie ..)) (routed_ite (routed_modMemDie ..) (routed_refl _))

theorem routed_unmirror (shard region : Nat) : Routed p (p.unmirror shard region) := by
  unfold Panel.unmirror
  simp only
  exact routed_trans (routed_stopCopies ..) (routed_ite (routed_refl _) (routed_trans (routed_setField ..) (routed_of_raised (raised_raiseFor ..))))

theorem routed_lag (md shard region : Nat) : Routed p (p.lag md shard region) := by
  unfold Panel.lag
  simp only
  exact routed_trans (routed_of_raised (raised_count ..)) (routed_ite (routed_unmirror ..) (routed_refl _))

theorem routed_copyOut (md : Nat) (h : Shard) (a : Nat) (rows : List Delivered) : Routed p (p.copyOut md h a rows) := by
  have hcopied : Routed p (((p.modMemDie md fun d => { d with copies := d.copies ++ [⟨h.shard, h.ctx, a⟩] }).send
      (.setoff md h.ctx h.shard a rows)).lag md h.shard h.region) :=
    routed_trans (routed_modMemDie ..) (routed_trans (routed_send ..) (routed_lag ..))
  unfold Panel.copyOut
  refine routed_ite (routed_refl p) (routed_trans (routed_trans hcopied ?_) (routed_setField ..))
  split
  · exact routed_ite (routed_unmirror ..) (routed_refl _)
  · exact routed_refl _

theorem routed_failCtx (c : Nat) : Routed p (p.failCtx c) := by
  have hfailed (sev : Severity) (reg : Option Nat) :
      Routed p ((p.setCtxField c Csr.LNK_CTX_FAILED 1).raiseFor (linkOfCtx c) 0x0B08 sev reg 0 c) :=
    routed_trans (routed_setCtxField ..) (routed_of_raised (raised_raiseFor ..))
  unfold Panel.failCtx
  simp only
  refine routed_ite (routed_refl p) (routed_ite (hfailed ..) ?_)
  exact routed_trans (hfailed ..) (routed_each _ (fun _ _ => routed_unmirror ..) _)

end

/-! ### Rows that a link die writes (R17, R346) -/

section
variable (p : Panel) (a : Nat) (rows : List Delivered)

theorem acceptRows_plan (k : Option GalKey) : (p.acceptRows a rows k).1.plan = p.plan := by
  unfold Panel.acceptRows
  have hput : (p.each rows.zipIdx fun p di =>
      p.put { addr := a + 64 * di.2, data := di.1.data, rows := 1, fox := some di.1.fox }).plan = p.plan :=
    each_keeps (·.plan) _ (fun q _ _ => (rfl : (q.put _).plan = q.plan)) p
  simp only
  split
  · exact hput
  · split
    · exact hput
    · exact (routed_plan (routed_copyOut ..)).trans hput

/-- Whether an address is populated is read from the floor plan alone. -/
theorem populated_of_plan {p q : Panel} (h : q.plan = p.plan) (a : Nat) : q.populated a = p.populated a := by
  unfold Panel.populated Panel.memGood Panel.dieState Panel.usable Panel.logicGood Panel.unitState
  rw [h]

/-- Of pieces of rows those at populated addresses are written, in order. -/
theorem foldl_acceptRows_writes (l : List (Nat × List Delivered)) (x : Panel × Bool) :
    (l.foldl (fun x y => if x.1.populated y.1 then ((x.1.acceptRows y.1 y.2 none).1, x.2) else (x.1, true)) x).1.writes
      = x.1.writes ++ (l.filter fun y => x.1.populated y.1).flatMap fun y => rowWrites y.1 y.2 := by
  induction l generalizing x with
  | nil => simp
  | cons y l ih =>
    rw [List.foldl_cons, ih]
    cases hy : x.1.populated y.1
    case false => simp [hy]
    case true =>
      simp only [if_true, List.filter_cons, hy, List.flatMap_cons, acceptRows_writes, List.append_assoc,
        populated_of_plan (acceptRows_plan x.1 y.1 y.2 none)]

theorem linkRows_writes : (p.linkRows a rows).1.writes = p.writes
    ++ ((granulePieces (rows.length + 1) a rows).filter fun x => p.populated x.1).flatMap fun x => rowWrites x.1 x.2 :=
  foldl_acceptRows_writes _ (p, false)

end

end Sys2Proof.Proofs
end

section
/-! SUPPORT. PL_FRAME_ROUTE and TRANSIT_PACKET (R311, R341, R351, R352, R354): a frame that enters from a port, and one that a link die
looks up. -/

namespace Sys2Proof.Proofs

open Sys2Proof.Machine Sys2Proof.Laws

/-! ### Looking a frame up (R351) -/

/-- The frame that a link die passes on: one hop more, under the port table's version. -/
def passedFrame (p : Panel) (ld : Nat) (f : PlFrame) : PlFrame :=
  { f with epoch := p.field ld Csr.LNK_STATUS_PEPOCH, hops := f.hops + 1 }

section
variable (p : Panel) (ld port : Nat) (f : PlFrame)

theorem routeFrame_worn (hhops : 15 ≤ f.hops) :
    p.routeFrame ld (some port) f = (p.tally ld (Csr.LNK_P_DROP (port % 4)) 1).raise ld 0x0B05 :=
  if_pos (Nat.succ_le_succ hhops)

section
variable (hhops : f.hops < 15)
include hhops

theorem routeFrame_here (entry : Option Nat) (hdst : f.dst = p.panelId ld) :
    p.routeFrame ld entry f = p.send (.linkLocal (linkOfCtx (f.ctx % 4096)) (passedFrame p ld f)) :=
  (if_neg (by simpa using hhops)).trans (if_pos hdst)

section
variable (hdst : f.dst ≠ p.panelId ld)
include hdst

theorem routeFrame_lost (he : p.egress ld f.dst = none) :
    p.routeFrame ld (some port) f = (p.tally ld (Csr.LNK_P_DROP (port % 4)) 1).raise ld 0x0B04 := by
  refine (if_neg (by simpa using hhops)).trans ((if_neg hdst).trans ?_)
  simp only [he]

/-- A frame leaves on the first output of its entry, here or on another link die. -/
theorem routeFrame_leaves (entry : Option Nat) {o : Nat} (he : p.egress ld f.dst = some o) (ho : o < 128)
    (hprimary : o = bitsOf (p.field ld (Csr.LNK_PT (f.dst % 4096))) (16 * p.field ld Csr.LNK_STATUS_PEPOCH) 8) :
    p.routeFrame ld entry f = if linkOfPort o = ld then p.emitFrame o (passedFrame p ld f)
      else p.send (.transit ld (linkOfPort o) o (passedFrame p ld f)) := by
  refine (if_neg (by simpa using hhops)).trans ((if_neg hdst).trans ?_)
  have hFE : o ≠ 0xFE := by omega
  simp only [he, ← hprimary, ne_eq, not_true_eq_false, decide_false, Bool.false_and, Bool.false_eq_true, if_false, hFE]
  rfl

end

end

end

/-! ### A frame at a port (R341, R342, R354) -/

section
variable (p : Panel) (port : Nat) (f : PlFrame)

/-- A frame of a defined type (R342). -/
abbrev FrameKnown (f : PlFrame) : Prop := 1 ≤ f.type ∧ f.type ≤ 6

/-- An intact frame of a defined type may bring its port up (R354). -/
def portWoken : Panel := if FrameKnown f ∧ f.crcOk = true then p.portAlive port f.src else p

/-- An up port counts a frame, and one that is not intact or of no defined type also as bad (R342). -/
def frameCounted : Panel :=
  let r := (portWoken p port f).tally (linkOfPort port) (Csr.LNK_P_RX (port % 4)) 1
  if FrameKnown f ∧ f.crcOk = true then r else r.tally (linkOfPort port) (Csr.LNK_P_CRC (port % 4)) 1

/-- A frame that its link die looks up: none of an undefined type, no KEEPALIVE, and no bad one for this panel (R342, R352). -/
abbrev Passes : Prop :=
  FrameKnown f ∧ f.type ≠ 6 ∧ (f.crcOk = true ∨ f.dst ≠ (frameCounted p port f).panelId (linkOfPort port))

theorem frameIn_eq : p.frameIn port f
    = if (portWoken p port f).portUp port = false ∨ (portWoken p port f).portRole port ≠ 1 then portWoken p port f
      else if Passes p port f then (frameCounted p port f).routeFrame (linkOfPort port) (some port) f else frameCounted p port f := by
  have hknown : (decide (1 ≤ f.type) && decide (f.type ≤ 6)) = decide (FrameKnown f) := (Bool.decide_and _ _).symm
  have hgood : (decide (FrameKnown f) && f.crcOk) = true ↔ FrameKnown f ∧ f.crcOk = true := by
    rw [Bool.and_eq_true, decide_eq_true_iff]
  have hpasses : (!decide (FrameKnown f) || decide (f.type = 6)
      || !f.crcOk && decide (f.dst = (frameCounted p port f).panelId (linkOfPort port))) = true ↔ ¬ Passes p port f := by
    simp only [Passes, Bool.or_eq_true, Bool.and_eq_true, Bool.not_eq_true', decide_eq_true_eq, ← Bool.not_eq_true]
    tauto
  unfold Panel.frameIn
  simp only [hknown, hgood]
  exact if_congr (by simp [portWoken]) rfl ((if_congr hpasses rfl rfl).trans (ite_not ..))

end

/-! ### The commands -/

section
variable {s : State} {port : Nat} {ws : List (List Byte)} {f : PlFrame}

theorem exec_plFrameRoute_none (h : plFrameOf ws = none) : exec (.plFrameRoute port ws) s = .next (s.quiet id) :=
  exec_quiet rfl (by simp only [h]; rfl)

section
variable (h : plFrameOf ws = some f)
include h

theorem exec_plFrameRoute_some {q : Panel} (hq : s.seen.frameIn port f = q) :
    exec (.plFrameRoute port ws) s = .next (s.quiet fun _ => q) :=
  exec_quiet rfl (by simp only [h, hq])

theorem exec_plFrameRoute_refused
    (hport : (portWoken s.seen port f).portUp port = false ∨ (portWoken s.seen port f).portRole port ≠ 1) :
    exec (.plFrameRoute port ws) s = .next (s.quiet fun _ => portWoken s.seen port f) :=
  exec_plFrameRoute_some h ((frameIn_eq ..).trans (if_pos hport))

section
variable (hup : (portWoken s.seen port f).portUp port = true) (hrole : (portWoken s.seen port f).portRole port = 1)
include hup hrole

theorem exec_plFrameRoute_counted (hpass : ¬ Passes s.seen port f) :
    exec (.plFrameRoute port ws) s = .next (s.quiet fun _ => frameCounted s.seen port f) :=
  exec_plFrameRoute_some h ((frameIn_eq ..).trans ((if_neg (by simp [hup, hrole])).trans (if_neg hpass)))

theorem exec_plFrameRoute_routed (hpass : Passes s.seen port f) {q : Panel}
    (hq : (frameCounted s.seen port f).routeFrame (linkOfPort port) (some port) f = q) :
    exec (.plFrameRoute port ws) s = .next (s.quiet fun _ => q) :=
  exec_plFrameRoute_some h ((frameIn_eq ..).trans ((if_neg (by simp [hup, hrole])).trans ((if_pos hpass).trans hq)))

end

end

end

/-! ### Transit (R352) -/

section
variable {s : State} {src port : Nat} {f : PlFrame}

/-- A transit frame that its link die has not put onto the fabric waits while P4 is reined there (R311). -/
abbrev TransitWaits (p : Panel) (src port : Nat) (f : PlFrame) : Prop :=
  p.reined src 4 = true ∧ p.net.contains (.transit src (linkOfPort port) port f) = true
    ∧ p.injected.contains (.transit src (linkOfPort port) port f) = false

/-- The panel as a transit frame has arrived. -/
abbrev transited (p : Panel) (src port : Nat) (f : PlFrame) : Panel := p.arrive (.transit src (linkOfPort port) port f)

theorem exec_transitPacket : exec (.transitPacket src port f) s = .next (s.quiet fun p =>
    if TransitWaits p src port f then p
    else if (transited p src port f).portUp port = true ∧ (transited p src port f).portRole port = 1 then
      (transited p src port f).emitFrame port f
    else ((transited p src port f).tally (linkOfPort port) (Csr.LNK_P_DROP (port % 4)) 1).raise (linkOfPort port) 0x0B04) :=
  exec_quiet rfl (if_congr (by simp [and_assoc]) rfl (if_congr (by simp) rfl rfl))

theorem exec_transitPacket_waits (h : TransitWaits s.seen src port f) :
    exec (.transitPacket src port f) s = .next (s.quiet id) := exec_quiet exec_transitPacket (if_pos h)

section
variable (h : ¬ TransitWaits s.seen src port f)
include h

theorem exec_transitPacket_leaves (hup : (transited s.seen src port f).portUp port = true)
    (hrole : (transited s.seen src port f).portRole port = 1) :
    exec (.transitPacket src port f) s = .next (s.quiet fun _ => (transited s.seen src port f).emitFrame port f) :=
  exec_quiet exec_transitPacket ((if_neg h).trans (if_pos ⟨hup, hrole⟩))

theorem exec_transitPacket_dropped
    (hport : (transited s.seen src port f).portUp port = false ∨ (transited s.seen src port f).portRole port ≠ 1) :
    exec (.transitPacket src port f) s = .next (s.quiet fun _ =>
      ((transited s.seen src port f).tally (linkOfPort port) (Csr.LNK_P_DROP (port % 4)) 1).raise (linkOfPort port) 0x0B04) :=
  exec_quiet exec_transitPacket ((if_neg h).trans (if_neg fun hboth => hport.elim (by simp [hboth.1]) (absurd hboth.2)))

end

end

end Sys2Proof.Proofs
end

section
/-! SUPPORT. PL_DATA and PL_MARK (R17, R342, R346, R347, R349): what a receive context makes of a frame, and the rows that it stores. -/

namespace Sys2Proof.Proofs

open Sys2Proof.Machine Sys2Proof.Laws

/-- The panel as a frame has come to its context's link die, which notes the panel that an intact one comes from. -/
def landed (p : Panel) (f : PlFrame) : Panel := (p.arrive (.linkLocal (linkOfCtx (f.ctx % 4096)) f)).meet (f.ctx % 4096) f

section
variable (p : Panel) (f : PlFrame)

theorem landed_writes : (landed p f).writes = p.writes := ite_keeps (·.writes) rfl

theorem landed_plan : (landed p f).plan = p.plan := ite_keeps (·.plan) rfl

end

/-! ### What leaves the list of writes -/

section
variable (p : Panel) (c panel : Nat)

theorem sendAck_writes (type reason : Nat) : (p.sendAck c type reason panel).writes = p.writes := by
  unfold Panel.sendAck
  exact (routed_writes (routed_routeFrame ..)).trans (ite_keeps (·.writes) rfl)

theorem answerMarks_writes : (p.answerMarks c panel).writes = p.writes := by
  unfold Panel.answerMarks
  exact (routed_writes (routed_each _ (fun _ _ => routed_routeFrame ..) _)).trans rfl

theorem received_writes (psn : Nat) : (p.received c psn panel).writes = p.writes := by
  unfold Panel.received
  simp only
  refine (ite_keeps (·.writes) (sendAck_writes ..)).trans ((answerMarks_writes ..).trans ?_)
  exact (modCtx_writes ..).trans (routed_writes (routed_setCtxField ..))

theorem nakGap_writes (d : Nat) : (p.nakGap c d panel).writes = p.writes := ite_keeps (·.writes) (sendAck_writes ..)

theorem signalFrame_writes (n : Nat) (signal : Bool) : (p.signalFrame c n signal).writes = p.writes := by
  unfold Panel.signalFrame Panel.signalUnits
  refine ite_keeps (·.writes) ?_
  split <;> rfl

end

/-! ### A DATA frame (R346, R347) -/

/-- The rows of a frame lie in the context's window. -/
abbrev InWindow (p : Panel) (f : PlFrame) : Prop :=
  let base := 1024 * p.ctxField (f.ctx % 4096) Csr.LNK_CTX_LBASE
  f.addr % 64 = 0 ∧ base ≤ f.addr ∧ f.addr + 64 * f.rows.length ≤ base + 1024 * p.ctxField (f.ctx % 4096) Csr.LNK_CTX_LLIMIT

/-- The memory die of a frame's address is in self-refresh. -/
abbrev MemoryBusy (p : Panel) (f : PlFrame) : Prop := isLpddr f.addr = true ∧ (p.memDie (memSite f.addr)).selfRefresh = true

/-- A mirror context stores the rows, signals them and counts the frame as received. -/
def mirrorData (p : Panel) (f : PlFrame) (d : Nat) : Panel :=
  (((((p.linkRows f.addr f.rows).1.raiseIf (p.linkRows f.addr f.rows).2 (linkOfCtx (f.ctx % 4096)) 0x0B07).signalFrame
    (f.ctx % 4096) f.rows.length f.signal).received (f.ctx % 4096) (f.psn % 2 ^ 32) f.src).nakGap (f.ctx % 4096) d f.src)

theorem mirrorData_writes (p : Panel) (f : PlFrame) (d : Nat) :
    (mirrorData p f d).writes = (p.linkRows f.addr f.rows).1.writes := by
  unfold mirrorData
  rw [nakGap_writes, received_writes, signalFrame_writes, raiseIf_writes]

/-- A DATA frame that its context takes, by the place of its PSN. -/
def takeData (p : Panel) (f : PlFrame) : PsnPlace → Panel
  | .old => p.sendAck (f.ctx % 4096) 2 0 f.src
  | .far => p.sendAck (f.ctx % 4096) 3 0 f.src
  | .new d =>
    if p.ctxField (f.ctx % 4096) Csr.LNK_CTX_KIND = 0 then
      (p.send (.setoffIn (f.ctx % 4096) f.psn f.addr f.rows f.signal)).nakGap (f.ctx % 4096) d f.src
    else mirrorData p f d

section
variable {p : Panel} {f : PlFrame}

theorem plData_bad (h : f.crcOk = false) : p.plData f = landed p f := if_pos (by simp [h])

section
variable (h : f.crcOk = true)
include h

theorem plData_unserved (hr : (landed p f).ctxReceives (f.ctx % 4096) = false) :
    p.plData f = ((landed p f).sendAck (f.ctx % 4096) 3 3 f.src).raise (linkOfCtx (f.ctx % 4096)) 0x0B07 :=
  (if_neg (by simp [h])).trans (if_pos (congrArg (!·) hr))

theorem plData_served (hr : (landed p f).ctxReceives (f.ctx % 4096) = true) :
    p.plData f = if InWindow (landed p f) f then
        if MemoryBusy (landed p f) f then (landed p f).sendAck (f.ctx % 4096) 3 1 f.src
        else takeData (landed p f) f ((landed p f).placePsn (f.ctx % 4096) f.psn)
      else ((landed p f).sendAck (f.ctx % 4096) 3 2 f.src).raise (linkOfCtx (f.ctx % 4096)) 0x0B07 := by
  have hlanded : (p.arrive (.linkLocal (linkOfCtx (f.ctx % 4096)) f)).meet (f.ctx % 4096) f = landed p f := rfl
  unfold Panel.plData
  simp only [hlanded, h, hr, Bool.not_true, Bool.false_eq_true, if_false]
  refine Eq.trans ?_ (ite_not ..)
  refine if_congr ?_ rfl (if_congr (by simp) rfl ?_)
  · simp only [InWindow, Bool.or_eq_true, decide_eq_true_eq]
    omega
  · cases (landed p f).placePsn (f.ctx % 4096) f.psn <;> simp only [takeData, mirrorData]

end

end

/-! ### A MARK frame (R349) -/

/-- A MARK frame that its context takes, by the place of its PSN. -/
def takeMark (p : Panel) (f : PlFrame) : PsnPlace → Panel
  | .old => p.routeFrame (linkOfCtx (f.ctx % 4096)) none { p.ctxFrame (f.ctx % 4096) 5 with dst := f.src, psn := f.psn, addr := f.addr }
  | .far => p.sendAck (f.ctx % 4096) 3 0 f.src
  | .new d =>
    ((p.modCtx (f.ctx % 4096) fun x => { x with marks := x.marks ++ [(f.psn % 2 ^ 32, f.addr)] }).received (f.ctx % 4096)
      (f.psn % 2 ^ 32) f.src).nakGap (f.ctx % 4096) d f.src

section
variable {p : Panel} {f : PlFrame}

theorem plMark_bad (h : f.crcOk = false) : p.plMark f = landed p f := if_pos (by simp [h])

section
variable (h : f.crcOk = true)
include h

theorem plMark_unserved (hr : (landed p f).ctxReceives (f.ctx % 4096) = false) :
    p.plMark f = ((landed p f).sendAck (f.ctx % 4096) 3 3 f.src).raise (linkOfCtx (f.ctx % 4096)) 0x0B07 :=
  (if_neg (by simp [h])).trans (if_pos (congrArg (!·) hr))

theorem plMark_served (hr : (landed p f).ctxReceives (f.ctx % 4096) = true) : 
    p.plMark f = takeMark (landed p f) f ((landed p f).placePsn (f.ctx % 4096) f.psn) := by
  have hlanded : (p.arrive (.linkLocal (linkOfCtx (f.ctx % 4096)) f)).meet (f.ctx % 4096) f = landed p f := rfl
  unfold Panel.plMark
  simp only [hlanded, h, hr, Bool.not_true, Bool.false_eq_true, if_false]
  cases (landed p f).placePsn (f.ctx % 4096) f.psn <;> simp only [takeMark]

end

end

end Sys2Proof.Proofs
end

section
/-! SUPPORT. The retry store of a send context (R345, R347 to R349): what ACK and NAK free, and what is sent again. -/

namespace Sys2Proof.Proofs

open Sys2Proof.Machine Sys2Proof.Laws

/-! ### Frames freed and sent again (R348) -/

section
variable (p : Panel) (c : Nat)

/-- The frames that an ACK or NAK covers leave the store; the rest is bookkeeping. -/
theorem freeFrames_store (f : PlFrame) :
    ((p.freeFrames c f).ctx c).store = (p.ctx c).store.filter fun x => !frameAcks f x.psn := by
  unfold Panel.freeFrames Panel.showStore
  simp only
  rw [routed_ctx (routed_setField ..), routed_ctx (routed_setCtxField ..),
    routed_ctx (routed_each _ (fun q x => routed_ite (routed_setField ..) (routed_refl q)) _), modCtx_same]

/-- One more resend of a stored frame, at this time. -/
def resentStore (now psn : Nat) (l : List Stored) : List Stored :=
  l.map fun y => if y.psn = psn then { y with resends := y.resends + 1, sentAt := now } else y

theorem resentStore_psns (now psn : Nat) (l : List Stored) : (resentStore now psn l).map (·.psn) = l.map (·.psn) := by
  unfold resentStore
  rw [List.map_map]
  refine List.map_congr_left fun y _ => ?_
  simp only [Function.comp_apply]
  split <;> rfl

/-- The timers of a context's stored frames start again. -/
def restarted (now : Nat) : Panel :=
  p.modCtx c fun x => { x with store := x.store.map fun y => { y with sentAt := now } }

theorem restarted_store (now : Nat) :
    ((restarted p c now).ctx c).store = (p.ctx c).store.map fun y => { y with sentAt := now } := by
  unfold restarted
  rw [modCtx_same]

theorem restarted_csr (now : Nat) : (restarted p c now).csr = p.csr := modCtx_csr ..

variable {p c}
variable {psn : Nat}

theorem resend_idle (h : ((p.ctx c).store.find? fun x => x.psn = psn) = none ∨ p.ctxSends c = false) : p.resend c psn = p := by
  unfold Panel.resend
  split
  · rfl
  next x hx =>
    have h : p.ctxSends c = false := h.resolve_left (by simp [hx])
    exact if_pos (by simp [h])

section
variable {x : Stored} (hfind : ((p.ctx c).store.find? fun x => x.psn = psn) = some x) (hsends : p.ctxSends c = true)
include hfind hsends

theorem resend_fails (hlimit : p.acting (linkOfCtx c) (Csr.LNK_CTX_MAX_RETRY (ctxIx c)) ≤ x.resends) :
    p.resend c psn = p.failCtx c := by
  simp only [Panel.resend, hfind, hsends, hlimit, Bool.not_true, Bool.false_eq_true, if_false, if_true]

theorem resend_store (hlimit : x.resends < p.acting (linkOfCtx c) (Csr.LNK_CTX_MAX_RETRY (ctxIx c))) :
    ((p.resend c psn).ctx c).store = resentStore p.now psn (p.ctx c).store := by
  simp only [Panel.resend, hfind, hsends, Nat.not_le.2 hlimit, Bool.not_true, Bool.false_eq_true, if_false]
  rw [routed_ctx (routed_routeFrame ..)]
  split
  · rw [routed_ctx (routed_ite (routed_tally ..) (routed_refl _)), modCtx_same]
    rfl
  · rw [modCtx_same]
    rfl

end

/-- Sending again keeps the frames that are stored, failed context or not. -/
theorem resend_psns (p : Panel) (c psn : Nat) :
    ((p.resend c psn).ctx c).store.map (·.psn) = (p.ctx c).store.map (·.psn) := by
  cases hfind : (p.ctx c).store.find? fun x => x.psn = psn with
  | none => rw [resend_idle (.inl hfind)]
  | some x =>
    cases hsends : p.ctxSends c with
    | false => rw [resend_idle (.inr hsends)]
    | true =>
      by_cases hlimit : p.acting (linkOfCtx c) (Csr.LNK_CTX_MAX_RETRY (ctxIx c)) ≤ x.resends
      · rw [resend_fails hfind hsends hlimit, routed_ctx (routed_failCtx ..)]
      · rw [resend_store hfind hsends (Nat.lt_of_not_le hlimit), resentStore_psns]

end

/-! ### ACK, NAK and MARK_ACK at a send context (R348, R349) -/

section
variable {s : State} {f : PlFrame}

/-- The panel as a frame has come to its context's link die. -/
abbrev reachedLink (p : Panel) (f : PlFrame) : Panel := p.arrive (.linkLocal (linkOfCtx (f.ctx % 4096)) f)

/-- A bad frame, or one for a context that does not send, does nothing more. -/
theorem exec_plAck_ignored (h : f.crcOk = false ∨ (reachedLink s.seen f).ctxField (f.ctx % 4096) Csr.LNK_CTX_DIR ≠ 0) :
    exec (.plAck f) s = .next (s.quiet fun _ => reachedLink s.seen f) :=
  exec_quiet rfl (if_neg (by rcases h with h | h <;> simp [h]))

theorem exec_plNak_ignored (h : f.crcOk = false ∨ (reachedLink s.seen f).ctxField (f.ctx % 4096) Csr.LNK_CTX_DIR ≠ 0) :
    exec (.plNak f) s = .next (s.quiet fun _ => reachedLink s.seen f) :=
  exec_quiet rfl (if_pos (by rcases h with h | h <;> simp [h]))

section
variable (hok : f.crcOk = true) (hdir : (reachedLink s.seen f).ctxField (f.ctx % 4096) Csr.LNK_CTX_DIR = 0)
include hok hdir

theorem exec_plAck_frees :
    exec (.plAck f) s = .next (s.quiet fun _ => (reachedLink s.seen f).freeFrames (f.ctx % 4096) f) :=
  exec_quiet rfl (if_pos (by simp [hok, hdir]))

/-- A gap resends what the bitmap lacks below its highest PSN (R348). -/
def gapResent (p : Panel) (f : PlFrame) : Panel :=
  let p := p.freeFrames (f.ctx % 4096) f
  let top := (List.range 64).foldl (fun t i => if bitOf f.addr i then i + 1 else t) 0
  p.each ((p.ctx (f.ctx % 4096)).store.map (·.psn)) fun p q =>
    if (q + 2 ^ 32 - f.psn) % 2 ^ 32 < top then p.resend (f.ctx % 4096) q else p

omit hok hdir in
theorem gapResent_psns (p : Panel) (f : PlFrame) : ((gapResent p f).ctx (f.ctx % 4096)).store.map (·.psn)
    = ((p.ctx (f.ctx % 4096)).store.map (·.psn)).filter fun q => !frameAcks f q := by
  refine (each_keeps (fun q => (q.ctx (f.ctx % 4096)).store.map (·.psn)) _
    (fun q psn _ => ite_keeps (fun q => (q.ctx (f.ctx % 4096)).store.map (·.psn)) (resend_psns ..)) _).trans ?_
  rw [freeFrames_store, List.filter_map]
  rfl

theorem exec_plNak_gap (hreason : f.reason = 0) :
    exec (.plNak f) s = .next (s.quiet fun _ => gapResent (reachedLink s.seen f) f) :=
  exec_quiet rfl ((if_neg (by simp [hok, hdir])).trans (if_pos hreason))

theorem exec_plNak_busy (hreason : f.reason = 1) : exec (.plNak f) s
    = .next (s.quiet fun _ => restarted (reachedLink s.seen f) (f.ctx % 4096) (reachedLink s.seen f).now) :=
  exec_quiet rfl ((if_neg (by simp [hok, hdir])).trans ((if_neg (by omega)).trans (if_pos hreason)))

theorem exec_plNak_fails (hreason : 1 < f.reason) :
    exec (.plNak f) s = .next (s.quiet fun _ => (reachedLink s.seen f).failCtx (f.ctx % 4096)) :=
  exec_quiet rfl ((if_neg (by simp [hok, hdir])).trans ((if_neg (by omega)).trans (if_neg (by omega))))

end

end

end Sys2Proof.Proofs
end

section
/-! SUPPORT. The commands of panel-link frames (R341 to R352): a context's frames, answers and timers. -/

namespace Sys2Proof.Proofs

open Sys2Proof.Machine Sys2Proof.Laws

/-! ### DATA and MARK -/

section
variable {s : State} {f : PlFrame}

theorem exec_plData {q : Panel} (h : s.seen.plData f = q) : exec (.plData f) s = .next (s.store fun _ _ => q) := exec_store rfl h

theorem exec_plMark {q : Panel} (h : s.seen.plMark f = q) : exec (.plMark f) s = .next (s.quiet fun _ => q) := exec_quiet rfl h

section
variable (hok : f.crcOk = true) (hr : (landed s.seen f).ctxReceives (f.ctx % 4096) = true)
include hok hr

theorem exec_plMark_placed {place : PsnPlace} (hp : (landed s.seen f).placePsn (f.ctx % 4096) f.psn = place) {q : Panel}
    (hq : takeMark (landed s.seen f) f place = q) : exec (.plMark f) s = .next (s.quiet fun _ => q) :=
  exec_plMark ((plMark_served hok hr).trans (by rw [hp, hq]))

theorem exec_plData_outside (hin : ¬ InWindow (landed s.seen f) f) : exec (.plData f) s = .next (s.store fun _ _ =>
    ((landed s.seen f).sendAck (f.ctx % 4096) 3 2 f.src).raise (linkOfCtx (f.ctx % 4096)) 0x0B07) :=
  exec_plData ((plData_served hok hr).trans (if_neg hin))

theorem exec_plData_busy (hin : InWindow (landed s.seen f) f) (hbusy : MemoryBusy (landed s.seen f) f) :
    exec (.plData f) s = .next (s.store fun _ _ => (landed s.seen f).sendAck (f.ctx % 4096) 3 1 f.src) :=
  exec_plData ((plData_served hok hr).trans ((if_pos hin).trans (if_pos hbusy)))

theorem exec_plData_placed (hin : InWindow (landed s.seen f) f) (hbusy : ¬ MemoryBusy (landed s.seen f) f) {place : PsnPlace}
    (hp : (landed s.seen f).placePsn (f.ctx % 4096) f.psn = place) {q : Panel} (hq : takeData (landed s.seen f) f place = q) :
    exec (.plData f) s = .next (s.store fun _ _ => q) :=
  exec_plData ((plData_served hok hr).trans ((if_pos hin).trans ((if_neg hbusy).trans (by rw [hp, hq]))))

end

/-- A stream context's rows are stored where memory is populated (R17, R346). -/
theorem mirrorData_mem (d : Nat) : (s.store fun _ _ => mirrorData (landed s.seen f) f d).mem
    = s.mem.apply (((granulePieces (f.rows.length + 1) f.addr f.rows).filter fun x => s.seen.populated x.1).flatMap fun x =>
        rowWrites x.1 x.2) := by
  refine congrArg s.mem.apply ?_
  rw [mirrorData_writes, linkRows_writes, landed_writes]
  simp only [populated_of_plan (landed_plan s.seen f)]
  rfl

end

/-! ### MARK_ACK and the timers (R347 to R349) -/

section
variable {s : State} {f : PlFrame}

theorem exec_plMarkAck : exec (.plMarkAck f) s = .next (s.quiet fun p =>
    if f.crcOk = true ∧ (reachedLink p f).ctxField (f.ctx % 4096) Csr.LNK_CTX_VALID = 1
        ∧ (reachedLink p f).ctxField (f.ctx % 4096) Csr.LNK_CTX_DIR = 0
        ∧ (reachedLink p f).ctxField (f.ctx % 4096) Csr.LNK_CTX_KIND = 0 then
      (reachedLink p f).send (.setmarkAck (f.ctx % 4096) f.addr)
    else reachedLink p f) :=
  exec_quiet rfl (if_congr (by simp [and_assoc]) rfl rfl)

theorem exec_plAckTimer (ctx : Nat) : exec (.plAckTimer ctx) s = .next (s.quiet fun p =>
    if p.ctxReceives ctx = true ∧ 0 < (p.ctx ctx).unacked then p.sendAck ctx 2 0 (p.ackPanel ctx) else p) :=
  exec_quiet rfl (if_congr (by simp) rfl rfl)

theorem exec_plGapTimeout (ctx : Nat) : exec (.plGapTimeout ctx) s = .next (s.quiet fun p =>
    if p.ctxReceives ctx = true ∧ (p.ctx ctx).received ≠ [] then p.sendAck ctx 3 0 (p.ackPanel ctx) else p) :=
  exec_quiet rfl (if_congr (by simp) rfl rfl)

end

/-- Settles O36: a frame is looked up or taken by what its port, its context and its PSN allow, and the rest of each command is
bookkeeping that leaves contexts and memory. -/
theorem linkFrames : Obligations.LinkFrames := by
  unfold Obligations.LinkFrames
  refine ⟨fun s port ws => ⟨exec_plFrameRoute_none, fun f hf => ?frame, fun src f => ?transit⟩, fun s f => ?taken, fun s f => ?answered⟩
  case frame =>
    intro known p r₀ r v g passes gives
    refine ⟨exec_plFrameRoute_refused hf, fun hup hrole => ⟨exec_plFrameRoute_counted hf hup hrole, fun hpass hhops => ?worn,
      fun hpass hhops hdst => ?here, fun hpass hhops hdst => ⟨fun he => ?lost, fun o he ho hentry => ?leaves⟩⟩⟩
    case worn => exact exec_plFrameRoute_routed hf hup hrole hpass (routeFrame_worn _ _ _ _ hhops)
    case here => exact exec_plFrameRoute_routed hf hup hrole hpass (routeFrame_here _ _ _ hhops _ hdst)
    case lost => exact exec_plFrameRoute_routed hf hup hrole hpass (routeFrame_lost _ _ _ _ hhops hdst he)
    case leaves =>
      have hleaves := routeFrame_leaves _ _ _ hhops hdst (some port) he ho hentry
      exact ⟨fun hld => exec_plFrameRoute_routed hf hup hrole hpass (hleaves.trans (if_pos hld)),
        fun hld => exec_plFrameRoute_routed hf hup hrole hpass (hleaves.trans (if_neg hld))⟩
  case transit => exact ⟨exec_transitPacket_waits, exec_transitPacket_leaves, exec_transitPacket_dropped⟩
  case taken =>
    refine ⟨fun hbad => ⟨exec_plData (plData_bad hbad), exec_plMark (plMark_bad hbad)⟩,
      fun hok hr => ⟨exec_plData (plData_unserved hok hr), exec_plMark (plMark_unserved hok hr)⟩,
      fun hok hr => ⟨exec_plData_outside hok hr, exec_plData_busy hok hr, fun hin hbusy => ?data, ?mark⟩⟩
    case data =>
      refine ⟨fun hp => ?old, fun hp => ?far, fun d hp hkind => ?mirror, fun d hp hkind => ?stream⟩
      case old => exact exec_plData_placed hok hr hin hbusy hp (by simp only [takeData]; rfl)
      case far => exact exec_plData_placed hok hr hin hbusy hp (by simp only [takeData]; rfl)
      case mirror => exact exec_plData_placed hok hr hin hbusy hp (by simp only [takeData]; exact if_pos hkind)
      case stream =>
        exact ⟨_, exec_plData_placed hok hr hin hbusy hp (by simp only [takeData]; exact if_neg hkind), rfl, mirrorData_mem d⟩
    case mark =>
      exact ⟨fun hp => exec_plMark_placed hok hr hp (by simp only [takeMark]; rfl),
        fun hp => exec_plMark_placed hok hr hp (by simp only [takeMark]; rfl),
        fun d hp => exec_plMark_placed hok hr hp (by simp only [takeMark]; rfl)⟩
  case answered =>
    refine ⟨fun h => ⟨exec_plAck_ignored h, exec_plNak_ignored h⟩, fun hok hdir => ⟨?ack, fun hreason => ?gap, fun hreason => ?busy,
      exec_plNak_fails hok hdir⟩, ⟨fun hgood => ?markAck, fun hbad => ?markAckIgnored⟩, fun ctx psn x hfind hsends => ⟨?fails, ?again⟩,
      fun ctx psn h => exec_quiet rfl (resend_idle h), fun ctx => ⟨fun hr hdue => ?acks, fun h => ?noAck, fun hr hgap => ?naks,
      fun h => ?noNak⟩⟩
    case ack => exact ⟨_, exec_plAck_frees hok hdir, freeFrames_store .., rfl, rfl⟩
    case gap => exact ⟨_, exec_plNak_gap hok hdir hreason, rfl, rfl, gapResent_psns ..⟩
    case busy =>
      have hstore := restarted_store (reachedLink s.seen f) (f.ctx % 4096) (reachedLink s.seen f).now
      exact ⟨_, exec_plNak_busy hok hdir hreason, hstore, (quiet_csr ..).trans (restarted_csr ..), quiet_mem ..⟩
    case markAck => exact exec_quiet exec_plMarkAck (if_pos hgood)
    case markAckIgnored => exact exec_quiet exec_plMarkAck (if_neg hbad)
    case fails => exact fun hlimit => exec_quiet rfl (resend_fails hfind hsends hlimit)
    case again => exact fun hlimit => ⟨_, rfl, rfl, rfl, resend_store (p := s.seen) hfind hsends hlimit⟩
    case acks => exact exec_quiet (exec_plAckTimer ctx) (if_pos ⟨hr, hdue⟩)
    case noAck => exact exec_quiet (exec_plAckTimer ctx) (if_neg fun hboth => h.elim (by simp [hboth.1]) hboth.2.ne')
    case naks => exact exec_quiet (exec_plGapTimeout ctx) (if_pos ⟨hr, hgap⟩)
    case noNak => exact exec_quiet (exec_plGapTimeout ctx) (if_neg fun hboth => h.elim (by simp [hboth.1]) hboth.2)

end Sys2Proof.Proofs
end

section
/-! SUPPORT. Frames and messages along the broadcast tree (R316): what sending them leaves, and which registers name the tree. -/

namespace Sys2Proof.Proofs

open Sys2Proof.Machine Sys2Proof.Laws

/-! ### Units and messages that leave -/

/-- `q` is `p` with units that left on bundles, and with messages put onto the fabric. -/
def SentOn (msgs : List NetMsg) (p q : Panel) : Prop :=
  ∃ bundles out, q = { p with bundles := bundles, out := out, net := p.net ++ msgs }

theorem sentOn_refl (p : Panel) : SentOn [] p p := ⟨p.bundles, p.out, by rw [List.append_nil]⟩

theorem sentOn_trans {l l' : List NetMsg} {p q r : Panel} (h : SentOn l p q) (h' : SentOn l' q r) : SentOn (l ++ l') p r := by
  obtain ⟨_, _, rfl⟩ := h
  obtain ⟨bundles, out, rfl⟩ := h'
  exact ⟨bundles, out, by rw [List.append_assoc]⟩

theorem sentOn_of_told {p q : Panel} (h : Told p q) : SentOn [] p q := by
  obtain ⟨⟨bundles, out, rfl⟩, -⟩ := h
  exact ⟨bundles, out, by rw [List.append_nil]⟩

theorem sentOn_send (p : Panel) (m : NetMsg) : SentOn [m] p (p.send m) := ⟨p.bundles, p.out, rfl⟩

theorem sentOn_modBundle (p : Panel) (s b : Nat) (f : BundleEnd → BundleEnd) : SentOn [] p (p.modBundle s b f) :=
  ⟨(p.modBundle s b f).bundles, p.out, by rw [List.append_nil]; rfl⟩

theorem sentOn_sendUnit (p : Panel) (s b k : Nat) (u : Flit) : SentOn [] p (p.sendUnit s b k u) := by
  unfold Panel.sendUnit Panel.sendReplayable
  exact sentOn_trans (sentOn_trans (sentOn_modBundle ..) (sentOn_modBundle ..)) (sentOn_of_told (told_sendFrame ..))

/-- A round for each element puts the element's messages onto the fabric, in order. -/
theorem sentOn_each {α : Type} {f : Panel → α → Panel} {msgs : α → List NetMsg} (h : ∀ p x, SentOn (msgs x) p (f p x)) (l : List α) :
    ∀ p, SentOn (l.flatMap msgs) p (p.each l f) := by
  induction l with
  | nil => exact sentOn_refl
  | cons x l ih => exact fun p => sentOn_trans (h p x) (ih (f p x))

/-- A packet goes to each child with its message (R316). -/
theorem sentOn_treeSend (p : Panel) (s : Nat) (h : PacketHead) (units : List Flit) (msg : Nat → NetMsg) :
    SentOn ((p.treeEdges s).map fun e => msg (facing s e).1) p (p.treeSend s h units msg) := by
  have hunits (l : List Flit) (b : Nat) (q : Panel) : SentOn [] q (q.each l fun q f => q.sendUnit s b h.cls f) := by
    have := sentOn_each (fun q f => sentOn_sendUnit q s b h.cls f) l q
    rwa [List.flatMap_eq_nil_iff.mpr fun _ _ => rfl] at this
  rw [List.map_eq_flatMap]
  refine sentOn_each (fun q e => ?_) (p.treeEdges s) p
  refine sentOn_trans (l := []) ?_ (sentOn_send ..)
  split
  · exact hunits ..
  · exact sentOn_refl q

section
variable {l : List NetMsg} {p q : Panel} (h : SentOn l p q)
include h

theorem sentOn_net : q.net = p.net ++ l := by
  obtain ⟨_, _, rfl⟩ := h
  rfl

theorem sentOn_csr : q.csr = p.csr := by
  obtain ⟨_, _, rfl⟩ := h
  rfl

theorem sentOn_fabric : q.fabric = p.fabric := by
  obtain ⟨_, _, rfl⟩ := h
  rfl

theorem sentOn_writes : q.writes = p.writes := by
  obtain ⟨_, _, rfl⟩ := h
  rfl

end

/-- The acting primary die's own message goes along the tree at once, or waits (R309). -/
theorem sentOn_rootSend (p : Panel) (waits : NetMsg) {f : Panel → Panel} {l : List NetMsg} (h : SentOn l p (f p)) :
    ∃ l', SentOn l' p (p.rootSend waits f) := by
  unfold Panel.rootSend
  split
  · exact ⟨l, h⟩
  · exact ⟨_, sentOn_send ..⟩

/-! ### The registers that name the tree -/

/-- A field outside FAB_STATUS's word. -/
abbrev OutsideStatus (g : Fld) : Prop := FldFits g ∧ WordsApart Csr.FAB_STATUS_EPOCH g

theorem treeFlds_outside : OutsideStatus Csr.FAB_BTREE_VALID ∧ OutsideStatus Csr.FAB_BTREE_CHILD ∧ OutsideStatus Csr.AZL_STATUS_CUT
    ∧ OutsideStatus Csr.AZL_STATUS_TIED := by
  unfold OutsideStatus FldFits
  decide

theorem rig_outside {e : Nat} (he : e < 4) : OutsideStatus (Csr.FAB_RIG e) := by
  have all : ∀ e < 4, OutsideStatus (Csr.FAB_RIG e) := by
    unfold OutsideStatus FldFits
    decide
  exact all e he

theorem bundleState_outside {b : Nat} (hb : b < 64) : OutsideStatus (Csr.AZL_BUNDLE_STATE b) := by
  have all : ∀ b < 64, OutsideStatus (Csr.AZL_BUNDLE_STATE b) := by
    unfold OutsideStatus FldFits
    decide
  exact all b hb

theorem faceCount_le (s : Nat) : faceCount s ≤ 4 := by
  unfold faceCount
  split <;> decide

section
variable {p q : Panel} {s : Nat} (hplan : q.plan = p.plan) (hfield : ∀ g, OutsideStatus g → q.field s g = p.field s g)

section
include hplan

theorem bundleGood_of_plan (u : Nat) : q.bundleGood s u = p.bundleGood s u := by
  unfold Panel.bundleGood Panel.logicGood Panel.unitState
  rw [hplan]

end

section
include hfield

theorem packetBundles_outside {e : Nat} (he : e < 4) : q.packetBundles s e = p.packetBundles s e := by
  unfold Panel.packetBundles
  refine List.filter_congr fun b hb => ?_
  obtain ⟨k, hk, rfl⟩ := List.mem_map.1 hb
  have hk := List.mem_range.1 hk
  unfold Panel.rigRole
  rw [hfield _ (rig_outside (by omega))]

end

include hplan hfield

theorem edgeDown_outside {e : Nat} (he : e < 4) : q.edgeDown s e = p.edgeDown s e := by
  have hbundles : (p.packetBundles s e).all (fun b => q.azState s b = azBad || !q.bundleGood s (64 + b))
      = (p.packetBundles s e).all fun b => p.azState s b = azBad || !p.bundleGood s (64 + b) := by
    rw [Bool.eq_iff_iff, List.all_eq_true, List.all_eq_true]
    refine forall₂_congr fun b hb => ?_
    obtain ⟨k, hk, rfl⟩ := List.mem_map.1 (List.mem_filter.1 hb).1
    have hk := List.mem_range.1 hk
    unfold Panel.azState
    rw [hfield _ (bundleState_outside (by omega)), bundleGood_of_plan hplan]
  obtain ⟨-, -, hcut, -⟩ := treeFlds_outside
  unfold Panel.edgeDown Panel.edgeCut
  simp only [packetBundles_outside hfield he, hbundles, hfield _ hcut]

/-- The tree's edges are named by registers outside FAB_STATUS, and by the floor plan. -/
theorem treeEdges_outside : q.treeEdges s = p.treeEdges s := by
  obtain ⟨hvalid, hchild, -, htied⟩ := treeFlds_outside
  unfold Panel.treeEdges Panel.isSet
  rw [hfield _ hvalid]
  split
  · refine List.filter_congr fun e he => ?_
    have he : e < 4 := (List.mem_range.1 he).trans_le (faceCount_le s)
    unfold Panel.edgeTied
    rw [hfield _ hchild, hfield _ htied, edgeDown_outside hplan hfield he]
  · rfl

end

theorem treeEdges_of_csr {p q : Panel} (hcsr : q.csr = p.csr) (hplan : q.plan = p.plan) (s : Nat) : q.treeEdges s = p.treeEdges s :=
  treeEdges_outside hplan fun g _ => field_of_csr hcsr s g

end Sys2Proof.Proofs
end

section
/-! SUPPORT. The routing epoch (R307 to R309): its flip, the messages that carry it, the drain reports, and the drain notice. -/

namespace Sys2Proof.Proofs

open Sys2Proof.Machine Sys2Proof.Laws

theorem statusFlds_separate : Separate Csr.FAB_STATUS_EPOCH Csr.FAB_STATUS_FLIPPING
    ∧ Separate Csr.FAB_STATUS_EPOCH Csr.FAB_STATUS_OLD_DRAINED ∧ Separate Csr.FAB_STATUS_OLD_DRAINED Csr.FAB_STATUS_FLIPPING
    ∧ Separate Csr.FAB_STATUS_FLIPPING Csr.FAB_STATUS_EPOCH ∧ Separate Csr.FAB_STATUS_OLD_DRAINED Csr.FAB_STATUS_EPOCH := by
  decide

theorem statusFlds_fit : FldFits Csr.FAB_STATUS_EPOCH ∧ FldFits Csr.FAB_STATUS_FLIPPING ∧ FldFits Csr.FAB_STATUS_OLD_DRAINED := by
  unfold FldFits
  decide

theorem quiet_fabric (s : State) (f : Panel → Panel) : (s.quiet f).p.fabric = (f s.seen).fabric := rfl
theorem quiet_net (s : State) (f : Panel → Panel) : (s.quiet f).p.net = (f s.seen).net := rfl

/-! ### A die takes an epoch (R308, R309) -/

section
variable (p : Panel) (site v : Nat)

theorem takeEpoch_csr : (p.takeEpoch site v).csr = (p.setField site Csr.FAB_STATUS_EPOCH v).csr := rfl

theorem takeEpoch_field (hv : v < 2) : (p.takeEpoch site v).field site Csr.FAB_STATUS_EPOCH = v :=
  (field_of_csr (takeEpoch_csr ..) _ _).trans
    ((field_setField_same p site _ v statusFlds_fit.1).trans (Nat.mod_eq_of_lt hv))

/-- Taking an epoch writes FAB_STATUS.EPOCH of the die and no other register. -/
theorem takeEpoch_isSet {g : Fld} (hg : Separate Csr.FAB_STATUS_EPOCH g) :
    (p.takeEpoch site v).isSet site g = p.isSet site g :=
  (isSet_of_csr (takeEpoch_csr ..) _ _).trans (isSet_setField_separate hg p site v)

theorem takeEpoch_notIdle : site ∈ (p.takeEpoch site v).fabric.notIdle := by
  unfold Panel.takeEpoch
  simp

theorem takeEpoch_net : (p.takeEpoch site v).net = p.net := setField_net ..

theorem takeEpoch_treeEdges : (p.takeEpoch site v).treeEdges site = p.treeEdges site := by
  refine treeEdges_outside (setField_plan ..) fun g hg => ?_
  obtain ⟨hfits, hapart⟩ := hg
  exact (field_of_csr (takeEpoch_csr ..) _ _).trans
    (field_setField_apart p site _ v site g statusFlds_fit.1 hfits hapart)

/-- A die that an epoch reaches, unless it has it already. -/
def epochTaken : Panel := if p.field site Csr.FAB_STATUS_EPOCH = v then p else p.takeEpoch site v

theorem epochTaken_field (hv : v < 2) : (epochTaken p site v).field site Csr.FAB_STATUS_EPOCH = v := by
  unfold epochTaken
  split
  case isTrue h => exact h
  case isFalse => exact takeEpoch_field p site v hv

theorem epochTaken_notIdle (h : p.field site Csr.FAB_STATUS_EPOCH ≠ v) : site ∈ (epochTaken p site v).fabric.notIdle := by
  unfold epochTaken
  rw [if_neg h]
  exact takeEpoch_notIdle ..

theorem epochTaken_net : (epochTaken p site v).net = p.net := by
  unfold epochTaken
  split
  · rfl
  · exact takeEpoch_net ..

theorem epochTaken_treeEdges : (epochTaken p site v).treeEdges site = p.treeEdges site := by
  unfold epochTaken
  split
  · rfl
  · exact takeEpoch_treeEdges ..

end

/-! ### The flip (R309, R388) -/

/-- FLIPPING and OLD_DRAINED of the acting primary die. -/
def flipFlags (p : Panel) (flipping drained : Bool) : Panel :=
  (p.setFlag p.primary Csr.FAB_STATUS_FLIPPING flipping).setFlag p.primary Csr.FAB_STATUS_OLD_DRAINED drained

section
variable (p : Panel) (flipping drained : Bool)

theorem flipFlags_primary : (flipFlags p flipping drained).primary = p.primary := by
  unfold flipFlags Panel.primary
  rw [setFlag_boot, setFlag_boot]

theorem flipFlags_fabric : (flipFlags p flipping drained).fabric = p.fabric := by
  unfold flipFlags
  rw [setFlag_fabric, setFlag_fabric]

theorem flipFlags_isSet : (flipFlags p flipping drained).isSet p.primary Csr.FAB_STATUS_FLIPPING = flipping
    ∧ (flipFlags p flipping drained).isSet p.primary Csr.FAB_STATUS_OLD_DRAINED = drained := by
  obtain ⟨-, hflipping, hdrained⟩ := statusFlds_fit
  obtain ⟨-, -, hbeside, -⟩ := statusFlds_separate
  unfold flipFlags
  exact ⟨(isSet_setFlag_separate hbeside ..).trans (isSet_setFlag_same _ _ _ _ hflipping (by decide)),
    isSet_setFlag_same _ _ _ _ hdrained (by decide)⟩

end

/-- The acting primary die notes a flip: no die has reported yet. -/
def flipNoted (p : Panel) : Panel := { flipFlags p true false with fabric := { (flipFlags p true false).fabric with drainedBy := [] } }

/-- The epoch that a flip takes up. -/
abbrev nextEpoch (p : Panel) : Nat := (p.field p.primary Csr.FAB_STATUS_EPOCH + 1) % 2

/-- The acting primary die as a flip starts. -/
def flipStarted (p : Panel) : Panel := (flipNoted p).takeEpoch (flipNoted p).primary (nextEpoch p)

section
variable (p : Panel)

theorem flipNoted_csr : (flipNoted p).csr = (flipFlags p true false).csr := rfl

theorem flipNoted_primary : (flipNoted p).primary = p.primary :=
  (congrArg _ (rfl : (flipNoted p).boot = (flipFlags p true false).boot)).trans (flipFlags_primary p true false)

theorem flipStarted_registers : (flipStarted p).field p.primary Csr.FAB_STATUS_EPOCH = nextEpoch p
    ∧ (flipStarted p).isSet p.primary Csr.FAB_STATUS_FLIPPING = true
    ∧ (flipStarted p).isSet p.primary Csr.FAB_STATUS_OLD_DRAINED = false := by
  obtain ⟨hflipping, hdrained⟩ := flipFlags_isSet p true false
  obtain ⟨hf, hd, -⟩ := statusFlds_separate
  unfold flipStarted
  rw [flipNoted_primary]
  exact ⟨takeEpoch_field _ _ _ (Nat.mod_lt _ (by decide)),
    (takeEpoch_isSet _ _ _ hf).trans ((isSet_of_csr (flipNoted_csr p) _ _).trans hflipping),
    (takeEpoch_isSet _ _ _ hd).trans ((isSet_of_csr (flipNoted_csr p) _ _).trans hdrained)⟩

/-- A flip that starts sends its epoch along the tree, and no more. -/
theorem flipRoutes_sent (h : p.isSet p.primary Csr.FAB_STATUS_FLIPPING = false) :
    ∃ l, SentOn l (flipStarted p) p.flipRoutes := by
  have hstarts : p.flipRoutes = (flipStarted p).rootSend (.epoch (flipNoted p).primary (nextEpoch p))
      fun q => q.forwardEpoch q.primary (nextEpoch p) := by
    unfold Panel.flipRoutes
    exact if_neg (ne_true_of_eq_false h)
  rw [hstarts]
  exact sentOn_rootSend _ _ (f := fun q => q.forwardEpoch q.primary _) (sentOn_treeSend ..)

end

section
variable {s : State}

theorem exec_fabFlip_refused (h : s.seen.isSet s.seen.primary Csr.FRM_STATUS_BUSY = true) :
    exec .fabFlip s = .next (s.quiet fun p => p.raise p.primary 0x0110) := exec_quiet rfl (if_pos h)

section
variable (h : s.seen.isSet s.seen.primary Csr.FRM_STATUS_BUSY = false)
include h

theorem exec_fabFlip_underWay (hflip : s.seen.isSet s.seen.primary Csr.FAB_STATUS_FLIPPING = true) :
    exec .fabFlip s = .next (s.quiet id) :=
  exec_quiet rfl ((if_neg (ne_true_of_eq_false h)).trans (if_pos hflip))

theorem exec_fabFlip_starts (hflip : s.seen.isSet s.seen.primary Csr.FAB_STATUS_FLIPPING = false) :
    ∃ t, exec .fabFlip s = .next t
      ∧ t.p.field s.seen.primary Csr.FAB_STATUS_EPOCH = (s.p.field s.seen.primary Csr.FAB_STATUS_EPOCH + 1) % 2
      ∧ t.p.isSet s.seen.primary Csr.FAB_STATUS_FLIPPING = true ∧ t.p.isSet s.seen.primary Csr.FAB_STATUS_OLD_DRAINED = false
      ∧ t.mem = s.mem ∧ t.p.time = s.p.time := by
  obtain ⟨_, hsent⟩ := flipRoutes_sent s.seen hflip
  obtain ⟨hepoch, hflipping, hdrained⟩ := flipStarted_registers s.seen
  have hasked : s.seen.askFlip = s.seen.flipRoutes := if_neg (ne_true_of_eq_false h)
  have hcsr : (s.quiet fun _ => s.seen.flipRoutes).p.csr = (flipStarted s.seen).csr := (quiet_csr ..).trans (sentOn_csr hsent)
  refine ⟨s.quiet fun _ => s.seen.flipRoutes, exec_quiet rfl hasked, ?_, (isSet_of_csr hcsr ..).trans hflipping,
    (isSet_of_csr hcsr ..).trans hdrained, quiet_mem .., quiet_time ..⟩
  rw [← seen_field]
  exact (field_of_csr hcsr ..).trans hepoch

end

end

/-! ### Messages along the tree (R309, R316) -/

/-- A die takes the drain notice: its other version is idle. -/
def noticeTaken (p : Panel) (site : Nat) : Panel :=
  let p := p.arrive (.drained site)
  { p with fabric := { p.fabric with notIdle := p.fabric.notIdle.filter (· ≠ site) } }

theorem noticeTaken_parts (p : Panel) (site : Nat) : (noticeTaken p site).csr = p.csr
    ∧ (noticeTaken p site).net = p.net.erase (.drained site)
    ∧ (noticeTaken p site).fabric.notIdle = p.fabric.notIdle.filter (· ≠ site) := ⟨rfl, rfl, rfl⟩

section
variable {s : State} {site v : Nat}

theorem exec_epochFlipMsg_waits (h : s.seen.routes site = false ∨ s.seen.treeReady site 0 1 = false) :
    exec (.epochFlipMsg site v) s = .next (s.quiet id) :=
  exec_quiet rfl (if_pos (by rcases h with h | h <;> simp [h]))

theorem exec_drainNotice_waits (h : s.seen.routes site = false ∨ s.seen.treeReady site 0 1 = false) :
    exec (.drainNotice site) s = .next (s.quiet id) :=
  exec_quiet rfl (if_pos (by rcases h with h | h <;> simp [h]))

section
variable (hr : s.seen.routes site = true) (hready : s.seen.treeReady site 0 1 = true)
include hr hready

theorem exec_epochFlipMsg : exec (.epochFlipMsg site v) s
    = .next (s.quiet fun p => (epochTaken (p.arrive (.epoch site v)) site (v % 2)).forwardEpoch site (v % 2)) :=
  exec_quiet rfl (if_neg (by simp [hr, hready]))

theorem exec_drainNotice : exec (.drainNotice site) s = .next (s.quiet fun p => (noticeTaken p site).forwardDrain site) :=
  exec_quiet rfl (if_neg (by simp [hr, hready]))

end

/-- A die that takes an epoch passes it on to its children. -/
theorem forwardEpoch_taken (p : Panel) (site v : Nat) :
    SentOn ((p.treeEdges site).map fun e => .epoch (facing site e).1 (v % 2)) (epochTaken (p.arrive (.epoch site v)) site (v % 2))
      ((epochTaken (p.arrive (.epoch site v)) site (v % 2)).forwardEpoch site (v % 2)) := by
  rw [← treeEdges_of_csr (p := p) (q := p.arrive (.epoch site v)) rfl rfl, ← epochTaken_treeEdges _ site (v % 2)]
  exact sentOn_treeSend ..

/-- A die that takes the drain notice passes it on to its children. -/
theorem forwardDrain_taken (p : Panel) (site : Nat) :
    SentOn ((p.treeEdges site).map fun e => .drained (facing site e).1) (noticeTaken p site)
      ((noticeTaken p site).forwardDrain site) := by
  rw [← treeEdges_of_csr (p := p) (q := noticeTaken p site) rfl rfl]
  exact sentOn_treeSend ..

section
variable (hr : s.seen.routes site = true) (hready : s.seen.treeReady site 0 1 = true)
include hr hready

theorem exec_epochFlipMsg_takes : ∃ t, exec (.epochFlipMsg site v) s = .next t ∧ t.p.field site Csr.FAB_STATUS_EPOCH = v % 2
    ∧ (s.p.field site Csr.FAB_STATUS_EPOCH ≠ v % 2 → site ∈ t.p.fabric.notIdle)
    ∧ t.p.net = s.p.net.erase (.epoch site v) ++ (s.seen.treeEdges site).map (fun e => .epoch (facing site e).1 (v % 2))
    ∧ t.mem = s.mem := by
  have hsent := forwardEpoch_taken s.seen site v
  refine ⟨_, exec_epochFlipMsg hr hready, ?_, fun hnew => ?_, ?_, quiet_mem ..⟩
  · exact (quiet_field ..).trans ((field_of_csr (sentOn_csr hsent) ..).trans (epochTaken_field _ site _ (Nat.mod_lt _ (by decide))))
  · rw [quiet_fabric, sentOn_fabric hsent]
    exact epochTaken_notIdle _ site _ fun h => hnew ((field_of_csr (p := s.p) rfl ..).symm.trans h)
  · rw [quiet_net, sentOn_net hsent, epochTaken_net]
    rfl

theorem exec_drainNotice_takes : ∃ t, exec (.drainNotice site) s = .next t ∧ site ∉ t.p.fabric.notIdle ∧ t.p.csr = s.p.csr
    ∧ t.mem = s.mem ∧ t.p.net = s.p.net.erase (.drained site) ++ (s.seen.treeEdges site).map fun e => .drained (facing site e).1 := by
  have hsent := forwardDrain_taken s.seen site
  obtain ⟨hcsr, hnet, hidle⟩ := noticeTaken_parts s.seen site
  refine ⟨s.quiet fun p => (noticeTaken p site).forwardDrain site, exec_drainNotice hr hready, ?_,
    (quiet_csr ..).trans ((sentOn_csr hsent).trans hcsr), quiet_mem .., ?_⟩
  · rw [quiet_fabric, sentOn_fabric hsent, hidle]
    simp
  · rw [quiet_net, sentOn_net hsent, hnet]
    rfl

end

end

/-! ### Drain reports (R309) -/

/-- The dies that have reported, with one more. -/
abbrev reportedBy (p : Panel) (site : Nat) : List Nat := (p.fabric.drainedBy.filter (· ≠ site)) ++ [site]

/-- A die's report counts: a flip is under way, the die has taken its epoch, and it holds no flit of the old one. -/
abbrev DrainReports (p : Panel) (site : Nat) : Prop :=
  p.isSet p.primary Csr.FAB_STATUS_FLIPPING = true
    ∧ p.field site Csr.FAB_STATUS_EPOCH = p.field p.primary Csr.FAB_STATUS_EPOCH ∧ p.holdsNoOld site = true

/-- The dies whose report a flip awaits are told by registers, the floor plan and the regions. -/
theorem drainDies_of_parts {p q : Panel} (hcsr : q.csr = p.csr) (hplan : q.plan = p.plan) (hregions : q.regions = p.regions) :
    q.drainDies = p.drainDies := by
  unfold Panel.drainDies Panel.routerDies Panel.tiedDie Panel.logicGood Panel.unitState Panel.region
  simp only [field_of_csr hcsr, hplan, hregions]

/-- A report is noted. -/
def drainNoted (p : Panel) (site : Nat) : Panel := { p with fabric := { p.fabric with drainedBy := reportedBy p site } }

/-- The last report ends the flip on the acting primary die. -/
def flipEnded (p : Panel) : Panel :=
  let q := flipFlags p false true
  { q with fabric := { q.fabric with drainedBy := [], notIdle := q.fabric.notIdle.filter (· ≠ q.primary) } }

theorem flipEnded_fabric (p : Panel) : (flipEnded p).fabric
    = { p.fabric with drainedBy := [], notIdle := p.fabric.notIdle.filter (· ≠ p.primary) } := by
  unfold flipEnded
  simp only [flipFlags_fabric, flipFlags_primary]

section
variable {p : Panel} {site : Nat}

theorem routerDrained_ignored (h : ¬ DrainReports p site) : p.routerDrained site = p := by
  refine if_pos ?_
  by_contra hn
  exact h (by simpa [and_assoc] using hn)

section
variable (h : DrainReports p site)
include h

theorem routerDrained_noted (hmore : p.drainDies.all (reportedBy p site).contains = false) :
    p.routerDrained site = drainNoted p site := by
  obtain ⟨hflip, hepoch, hold⟩ := h
  rw [← drainDies_of_parts (p := p) (q := drainNoted p site) rfl rfl rfl] at hmore
  refine (if_neg ?_).trans (if_neg (ne_true_of_eq_false hmore))
  simp [hflip, hepoch, hold]

/-- The last report ends the flip, and the drain notice goes along the tree. -/
theorem routerDrained_ends (hall : p.drainDies.all (reportedBy p site).contains = true) (havoid : p.fabric.avoid = []) :
    ∃ l, SentOn l (flipEnded (drainNoted p site)) (p.routerDrained site) := by
  obtain ⟨hflip, hepoch, hold⟩ := h
  rw [← drainDies_of_parts (p := p) (q := drainNoted p site) rfl rfl rfl] at hall
  obtain ⟨l, hsent⟩ := sentOn_rootSend (flipEnded (drainNoted p site)) (.drained (flipEnded (drainNoted p site)).primary)
    (f := fun q => q.forwardDrain q.primary) (sentOn_treeSend ..)
  refine ⟨l, ?_⟩
  have hends : p.routerDrained site = ((flipEnded (drainNoted p site)).rootSend (.drained (flipEnded (drainNoted p site)).primary)
      fun q => q.forwardDrain q.primary).reroute :=
    (if_neg (by simp [hflip, hepoch, hold])).trans (if_pos hall)
  rw [hends]
  unfold Panel.reroute
  rw [if_pos]
  · exact hsent
  · rw [sentOn_fabric hsent, flipEnded_fabric]
    simp [drainNoted, havoid]

end

end

theorem flipEnded_isSet (p : Panel) : (flipEnded p).isSet p.primary Csr.FAB_STATUS_FLIPPING = false
    ∧ (flipEnded p).isSet p.primary Csr.FAB_STATUS_OLD_DRAINED = true := by
  have hcsr : (flipEnded p).csr = (flipFlags p false true).csr := rfl
  obtain ⟨hflipping, hdrained⟩ := flipFlags_isSet p false true
  exact ⟨(isSet_of_csr hcsr ..).trans hflipping, (isSet_of_csr hcsr ..).trans hdrained⟩

section
variable {s : State} {site : Nat}

theorem exec_routerDrainReport_ignored (h : ¬ DrainReports s.seen site) : exec (.routerDrainReport site) s = .next (s.quiet id) :=
  exec_quiet rfl (routerDrained_ignored h)

section
variable (h : DrainReports s.seen site)
include h

theorem exec_routerDrainReport_noted (hmore : s.seen.drainDies.all (reportedBy s.seen site).contains = false) :
    ∃ t, exec (.routerDrainReport site) s = .next t ∧ t.p.fabric.drainedBy = reportedBy s.seen site ∧ t.p.csr = s.p.csr
      ∧ t.mem = s.mem :=
  ⟨s.quiet fun _ => drainNoted s.seen site, exec_quiet rfl (routerDrained_noted h hmore), rfl, quiet_csr .., quiet_mem ..⟩

theorem exec_routerDrainReport_ends (hall : s.seen.drainDies.all (reportedBy s.seen site).contains = true)
    (havoid : s.seen.fabric.avoid = []) :
    ∃ t, exec (.routerDrainReport site) s = .next t ∧ t.p.isSet s.seen.primary Csr.FAB_STATUS_FLIPPING = false
      ∧ t.p.isSet s.seen.primary Csr.FAB_STATUS_OLD_DRAINED = true ∧ s.seen.primary ∉ t.p.fabric.notIdle
      ∧ t.p.fabric.drainedBy = [] ∧ t.mem = s.mem := by
  obtain ⟨_, hsent⟩ := routerDrained_ends h hall havoid
  obtain ⟨hflipping, hdrained⟩ := flipEnded_isSet (drainNoted s.seen site)
  refine ⟨s.quiet fun _ => s.seen.routerDrained site, exec_quiet rfl rfl, ?_, ?_, ?_, ?_, quiet_mem ..⟩
  · exact (quiet_isSet ..).trans ((isSet_of_csr (sentOn_csr hsent) ..).trans hflipping)
  · exact (quiet_isSet ..).trans ((isSet_of_csr (sentOn_csr hsent) ..).trans hdrained)
  · rw [quiet_fabric, sentOn_fabric hsent, flipEnded_fabric]
    change s.seen.primary ∉ (drainNoted s.seen site).fabric.notIdle.filter (· ≠ s.seen.primary)
    simp
  · rw [quiet_fabric, sentOn_fabric hsent, flipEnded_fabric]

end

end

end Sys2Proof.Proofs
end

section
/-! SUPPORT. Routing tables (R308): a version that is in use keeps its half of every entry. -/

namespace Sys2Proof.Proofs

open Sys2Proof.Machine Sys2Proof.Laws

theorem routeFld_fits {dst : Nat} (h : dst < siteCount) : FldFits (Csr.FAB_RT dst) := by
  have h : dst < 468 := h
  unfold FldFits Csr.FAB_RT
  simp only
  omega

/-- A fault of the fabric leaves the routing tables. -/
theorem routeFld_undisturbed {dst : Nat} (h : dst < siteCount) : Undisturbed (Csr.FAB_RT dst) ∧ WordsApart Csr.FAB_FAULT (Csr.FAB_RT dst) := by
  have h : dst < 468 := h
  have around : ∀ e ∈ effectFlds, FldFits e ∧ (e.place.1 / 4 + e.place.2.2 ≤ 0x14400 ∨ 0x14475 ≤ e.place.1 / 4) := by
    unfold FldFits
    decide
  have hwords : 0x14400 ≤ (Csr.FAB_RT dst).place.1 / 4 ∧ (Csr.FAB_RT dst).place.1 / 4 + (Csr.FAB_RT dst).place.2.2 ≤ 0x14475 := by
    unfold Fld.place Csr.FAB_RT
    simp only
    omega
  obtain ⟨hlow, hhigh⟩ := hwords
  refine ⟨⟨routeFld_fits h, fun e he => ?_⟩, .inr (le_trans (by decide) hlow)⟩
  obtain ⟨hfits, hbelow | habove⟩ := around e he
  · exact ⟨hfits, .inr (hbelow.trans hlow)⟩
  · exact ⟨hfits, .inl (hhigh.trans habove)⟩

section
variable {p : Panel} {site dst value : Nat}

/-- While a die's other version is not idle, neither version of its table is. -/
theorem versionIdle_of_notIdle (h : p.fabric.notIdle.contains site = true) (v : Nat) : p.versionIdle site v = false := by
  unfold Panel.versionIdle
  rw [h, Bool.not_true, Bool.and_false]

/-- Otherwise the version that the epoch does not name is idle. -/
theorem versionIdle_of_idle (h : p.fabric.notIdle.contains site = false) (v : Nat) :
    p.versionIdle site v = decide (p.field site Csr.FAB_STATUS_EPOCH ≠ v) := by
  unfold Panel.versionIdle
  rw [h, Bool.not_false, Bool.and_true]

theorem writeRoute_outside (h : siteCount ≤ dst) : p.writeRoute site dst value = p := if_pos h

/-- The two halves of an entry make it up. -/
theorem halves_of_byte {x : Nat} (h : x < 256) : bitsOf x 0 4 + 16 * bitsOf x 4 4 = x := by
  unfold bitsOf
  omega

/-- An entry keeps its value while neither version is idle. -/
theorem writeRoute_notIdle (hd : dst < siteCount) (h : p.fabric.notIdle.contains site = true) :
    (p.writeRoute site dst value).field site (Csr.FAB_RT dst) = p.field site (Csr.FAB_RT dst) := by
  obtain ⟨hundisturbed, hapart⟩ := routeFld_undisturbed hd
  have hbyte : p.field site (Csr.FAB_RT dst) < 256 := field_lt p site (Csr.FAB_RT dst)
  have hold : (p.setField site (Csr.FAB_RT dst) (p.field site (Csr.FAB_RT dst))).field site (Csr.FAB_RT dst)
      = p.field site (Csr.FAB_RT dst) :=
    (field_setField_same p site _ _ (routeFld_fits hd)).trans (Nat.mod_eq_of_lt hbyte)
  unfold Panel.writeRoute Panel.raiseIf
  rw [if_neg (Nat.not_le.2 hd)]
  simp only [versionIdle_of_notIdle h, Bool.false_eq_true, if_false, Nat.mul_zero, Nat.mul_one, halves_of_byte hbyte]
  rw [ite_keeps (·.field site (Csr.FAB_RT dst)) (raise_field_undisturbed _ site 0x090B site (f := Csr.FAB_FAULT) rfl hundisturbed hapart), hold]

/-- The entry that a write leaves while the epoch is `e`: the half in use stays. -/
abbrev keptRoute (p : Panel) (site dst value e : Nat) : Nat :=
  let old := p.field site (Csr.FAB_RT dst)
  if e = 0 then bitsOf old 0 4 + 16 * bitsOf value 4 4 else bitsOf value 0 4 + 16 * bitsOf old 4 4

/-- A write to the idle half takes effect, and one that would change the half in use raises 0x090B. -/
theorem writeRoute_idle {e : Nat} (he : e < 2) (hd : dst < siteCount) (hepoch : p.field site Csr.FAB_STATUS_EPOCH = e)
    (h : p.fabric.notIdle.contains site = false) :
    p.writeRoute site dst value = (p.setField site (Csr.FAB_RT dst) (keptRoute p site dst value e)).raiseIf
      (decide (bitsOf value (4 * e) 4 ≠ bitsOf (p.field site (Csr.FAB_RT dst)) (4 * e) 4)) site 0x090B := by
  unfold Panel.writeRoute keptRoute
  rw [if_neg (Nat.not_le.2 hd)]
  interval_cases e <;> simp [versionIdle_of_idle h, hepoch, List.range_succ]

end

section
variable {s : State} {site dst value : Nat}

theorem exec_fabRtWrite_outside (h : siteCount ≤ dst) : exec (.fabRtWrite site dst value) s = .next (s.quiet id) :=
  exec_quiet rfl (writeRoute_outside h)

theorem exec_fabRtWrite_notIdle (hd : dst < siteCount) (h : s.seen.fabric.notIdle.contains site = true) :
    ∃ t, exec (.fabRtWrite site dst value) s = .next t
      ∧ t.p.field site (Csr.FAB_RT dst) = s.p.field site (Csr.FAB_RT dst) ∧ t.mem = s.mem :=
  ⟨_, rfl, (quiet_field ..).trans ((writeRoute_notIdle hd h).trans (seen_field ..)), quiet_mem ..⟩

section
variable {e : Nat} (he : e < 2) (hd : dst < siteCount) (hepoch : s.seen.field site Csr.FAB_STATUS_EPOCH = e)
  (h : s.seen.fabric.notIdle.contains site = false)
include he hd hepoch h

theorem exec_fabRtWrite_kept (hsame : bitsOf value (4 * e) 4 = bitsOf (s.seen.field site (Csr.FAB_RT dst)) (4 * e) 4) :
    exec (.fabRtWrite site dst value) s
      = .next (s.quiet fun p => p.setField site (Csr.FAB_RT dst) (keptRoute s.seen site dst value e)) :=
  exec_quiet rfl ((writeRoute_idle he hd hepoch h).trans (if_neg (by simp [hsame])))

theorem exec_fabRtWrite_refused (hdiffers : bitsOf value (4 * e) 4 ≠ bitsOf (s.seen.field site (Csr.FAB_RT dst)) (4 * e) 4) :
    exec (.fabRtWrite site dst value) s
      = .next (s.quiet fun p => (p.setField site (Csr.FAB_RT dst) (keptRoute s.seen site dst value e)).raise site 0x090B) :=
  exec_quiet rfl ((writeRoute_idle he hd hepoch h).trans (if_pos (decide_eq_true hdiffers)))

end

end

end Sys2Proof.Proofs
end

section
/-! SUPPORT. Traces (R312 to R315): the flit that is due at a die, its way on, and the discard of one that no entry names. -/

namespace Sys2Proof.Proofs

open Sys2Proof.Machine Sys2Proof.Laws

/-- A code raised at region-abort reads in its class's fault register, whichever region it names, unless it opens a check mark. -/
theorem raiseFor_field_regionAbort (p : Panel) (site code : Nat) (reg : Option Nat) (cluster detail : Nat) {f : Fld}
    (hf : faultReg code = some f) (hcode : code < 65536) (hcheck : opensCheck code .regionAbort = false) :
    (p.raiseFor site code .regionAbort reg cluster detail).field site f = code := by
  have hu := faultReg_undisturbed hf
  have heffect (q : Panel) (r : FaultRec) (hsev : r.sev = .regionAbort) (hopens : opensCheck r.code .regionAbort = false) :
      (q.faultEffect r reg).field site f = q.field site f := by
    cases reg with
    | none => rfl
    | some n =>
      unfold Panel.faultEffect
      simp only [hopens, hsev, reduceCtorEq, if_false, Bool.false_eq_true]
      exact ite_keeps (·.field site f) (setFlag_keeps_undisturbed hu _ _ issuing_mem_effectFlds _ site)
  have hset : (p.setField site f code).field site f = code := by
    rw [field_setField_same p site f code hu.1, faultReg_width hf]
    exact Nat.mod_eq_of_lt hcode
  unfold Panel.raiseFor
  simp only [hf]
  rw [report_field, ite_keeps (·.field site f) (interrupt_field _ _ _ _), ite_keeps (·.field site f) (halt_keeps_undisturbed hu _ _),
    ite_keeps (·.field site f) (modContain_field _ _ _ _), heffect _ _ rfl hcheck, hset]

/-! ### The entry of a trace (R312) -/

theorem traceOuts_of_csr {p q : Panel} (h : q.csr = p.csr) (site trace : Nat) : q.traceOuts site trace = p.traceOuts site trace := by
  unfold Panel.traceOuts
  simp only [isSet_of_csr h, field_of_csr h]

theorem traceClusters_of_csr {p q : Panel} (h : q.csr = p.csr) (site trace : Nat) :
    q.traceClusters site trace = p.traceClusters site trace := by
  unfold Panel.traceClusters
  simp only [field_of_csr h]

/-! ### A flit that leaves a die (R314) -/

/-- The flit that is due, with the bits that the die inverts; a head flit is not touched. -/
def noisyDue (d : DueFlit) (noise : Nat) : DueFlit := if d.index = 0 then d else { d with flit := noisyFlit noise d.flit }

theorem noisyDue_parts (d : DueFlit) (noise : Nat) : (noisyDue d noise).head = d.head ∧ (noisyDue d noise).index = d.index
    ∧ (noisyDue d noise).flit = (if d.index = 0 then d.flit else noisyFlit noise d.flit) ∧ (noisyDue d noise).done = d.done := by
  unfold noisyDue
  split
  · exact ⟨rfl, rfl, rfl, rfl⟩
  · exact ⟨rfl, rfl, rfl, rfl⟩

/-- The message of a flit that leaves on a bundle. -/
abbrev tracePassed (site : Nat) (d : DueFlit) (b : Nat) : NetMsg :=
  .traceFlit (farBundle site b).1 (farBundle site b).2 d.head d.index d.flit none

theorem tracePassed_noisyDue (site : Nat) (d : DueFlit) (noise : Nat) : tracePassed site (noisyDue d noise) = fun b =>
    .traceFlit (farBundle site b).1 (farBundle site b).2 d.head d.index
      (if d.index = 0 then d.flit else noisyFlit noise d.flit) none := by
  obtain ⟨hhead, hindex, hflit, -⟩ := noisyDue_parts d noise
  funext b
  rw [tracePassed, hhead, hindex, hflit]

/-- A copy leaves on a bundle. -/
def traceCopy (site : Nat) (d : DueFlit) (p : Panel) (b : Nat) : Panel := (p.sendUnit site b 6 d.flit).send (tracePassed site d b)

theorem sentOn_traceCopies (site : Nat) (d : DueFlit) (outs : List Nat) (p : Panel) :
    SentOn (outs.map (tracePassed site d)) p (p.each outs (traceCopy site d)) := by
  rw [List.map_eq_flatMap]
  exact sentOn_each (fun q b => sentOn_trans (sentOn_sendUnit q site b 6 d.flit) (sentOn_send ..)) outs p

/-- The issuer of a GREAD is told when it is done (R315). -/
def doneMsgs : Option GalKey → List NetMsg
  | some k => [.gtrDone k]
  | none => []

def traceDone (p : Panel) : Option GalKey → Panel
  | some k => p.send (.gtrDone k)
  | none => p

theorem sentOn_traceDone (p : Panel) (done : Option GalKey) : SentOn (doneMsgs done) p (traceDone p done) := by
  cases done with
  | some k => exact sentOn_send ..
  | none => exact sentOn_refl p

theorem sentOn_traceCredit (p : Panel) (site b : Nat) : SentOn [] p (if b < ownInput then p.returnCredit site b 6 else p) := by
  split
  · exact sentOn_of_told (told_returnCredit ..)
  · exact sentOn_refl p

theorem traceStep_eq (p : Panel) (site b : Nat) (d : DueFlit) (noise : Nat) :
    let q := p.arrive (.traceFlit site b d.head d.index d.flit d.done)
    let e := noisyDue d noise
    let q := (q.each (q.traceOuts site e.head.trace) (traceCopy site e)).traceLand site e
    p.traceStep site b d noise = traceDone (if b < ownInput then q.returnCredit site b 6 else q) e.done := rfl

theorem traceLand_nowhere {p : Panel} {site : Nat} {d : DueFlit} (h : p.traceClusters site d.head.trace = []) :
    p.traceLand site d = p := if_pos (by rw [h]; rfl)

/-- A flit that lands in no cluster of a die leaves it on each output, and its issuer is told. -/
theorem traceStep_sent {p : Panel} {site b : Nat} {d : DueFlit} {noise : Nat} (h : p.traceClusters site d.head.trace = []) :
    SentOn ((p.traceOuts site d.head.trace).map (tracePassed site (noisyDue d noise)) ++ doneMsgs d.done)
      (p.arrive (.traceFlit site b d.head d.index d.flit d.done)) (p.traceStep site b d noise) := by
  obtain ⟨hhead, -, -, hdone⟩ := noisyDue_parts d noise
  have hcopies := sentOn_traceCopies site (noisyDue d noise) (p.traceOuts site d.head.trace)
    (p.arrive (.traceFlit site b d.head d.index d.flit d.done))
  have hclusters := (traceClusters_of_csr ((sentOn_csr hcopies).trans (rfl : _ = p.csr)) site (noisyDue d noise).head.trace).trans
    (by rw [hhead, h])
  rw [traceStep_eq, hhead, traceOuts_of_csr (p := p) (q := p.arrive _) rfl, traceLand_nowhere hclusters, hdone]
  have hcredit := sentOn_trans hcopies (sentOn_traceCredit _ site b)
  rw [List.append_nil] at hcredit
  exact sentOn_trans hcredit (sentOn_traceDone ..)

/-- A flit that no entry names is discarded (R313). -/
def traceDiscarded (p : Panel) (site b trace : Nat) (d : DueFlit) : Panel :=
  (p.arrive (.traceFlit site b d.head d.index d.flit d.done)).raiseFor site 0x090A .regionAbort (some d.head.region) 0 trace

section
variable {s : State} {site b trace noise : Nat}

theorem exec_traceFlit_waits (h : s.seen.dueFlit site b trace = none ∨ s.seen.routes site = false) :
    exec (.traceFlit site b trace noise) s = .next (s.store fun _ p => p) := by
  refine exec_store rfl ?_
  cases hdue : s.seen.dueFlit site b trace with
  | none => rfl
  | some d =>
    have hroutes := h.resolve_left (by rw [hdue]; exact Option.some_ne_none d)
    exact if_pos (by rw [hroutes]; rfl)

section
variable {d : DueFlit} (hdue : s.seen.dueFlit site b trace = some d) (hroutes : s.seen.routes site = true)
include hdue hroutes

theorem exec_traceFlit_discards (hnames : s.seen.traceNames site b trace = false) :
    ∃ t, exec (.traceFlit site b trace noise) s = .next t ∧ t.p.field site Csr.FAB_FAULT = 0x090A
      ∧ t.p.net = (s.seen.arrive (.traceFlit site b d.head d.index d.flit d.done)).net ∧ t.mem = s.mem := by
  have hsent := sentOn_traceCredit (traceDiscarded s.seen site b trace d) site b
  refine ⟨_, exec_store (g := fun _ _ => if b < ownInput then (traceDiscarded s.seen site b trace d).returnCredit site b 6
    else traceDiscarded s.seen site b trace d) rfl ?_, ?_, ?_, ?_⟩
  · simp only [hdue, hroutes, hnames, Bool.not_true, Bool.not_false, Bool.false_eq_true, if_false, if_true]
    rfl
  · exact ((store_field ..).trans (field_of_csr (sentOn_csr hsent) ..)).trans
      (raiseFor_field_regionAbort _ site 0x090A _ 0 trace rfl (by decide) rfl)
  · exact ((store_net ..).trans (sentOn_net hsent)).trans ((List.append_nil _).trans (raiseFor_net ..))
  · exact store_mem_of_writes _ _ ((sentOn_writes hsent).trans (raiseFor_writes ..))

section
variable (hnames : s.seen.traceNames site b trace = true)
include hnames

theorem exec_traceFlit_held (hready : s.seen.traceReady site trace = false) :
    exec (.traceFlit site b trace noise) s = .next (s.store fun _ p => p) := by
  refine exec_store rfl ?_
  simp only [hdue, hroutes, hnames, hready, Bool.not_true, Bool.false_eq_true, if_false]

theorem exec_traceFlit_steps (hready : s.seen.traceReady site trace = true) :
    exec (.traceFlit site b trace noise) s = .next (s.store fun _ p => p.traceStep site b d (noise % 2 ^ 528)) := by
  refine exec_store rfl ?_
  simp only [hdue, hroutes, hnames, hready, Bool.not_true, Bool.false_eq_true, if_false, if_true]

end

end

/-- A step that lands nowhere is told by the messages it leaves. -/
theorem traceStep_passes {d : DueFlit} (h : s.seen.traceClusters site d.head.trace = []) :
    let t := s.store fun _ p => p.traceStep site b d (noise % 2 ^ 528)
    t.p.net = (s.seen.arrive (.traceFlit site b d.head d.index d.flit d.done)).net
        ++ ((s.seen.traceOuts site d.head.trace).map (tracePassed site (noisyDue d (noise % 2 ^ 528))) ++ doneMsgs d.done)
      ∧ t.mem = s.mem ∧ t.p.time = s.p.time := by
  have hsent := traceStep_sent (b := b) (noise := noise % 2 ^ 528) h
  exact ⟨(store_net ..).trans (sentOn_net hsent), store_mem_of_writes _ _ (sentOn_writes hsent), store_time ..⟩

end

end Sys2Proof.Proofs
end

section
/-! SUPPORT. The firmware broadcast at a die (R316, R317), and the obligation about epochs, traces and the broadcast tree. -/

namespace Sys2Proof.Proofs

open Sys2Proof.Machine Sys2Proof.Laws

section
variable {s : State} {site : Nat}

section
variable {off : Nat} {data : List Byte}

/-- A die forwards a flit of the broadcast to its children. -/
def bcastForwarded (p : Panel) (site off : Nat) (data : List Byte) : Panel :=
  let q := (p.arrive (.bcast site off data)).keepImage site off data
  let units := (byteRows data).map fun d => plainUnit d none 0
  q.treeSend site (treeHead q 0x2B units.length off 0) units (.bcast · off data)

theorem exec_bcast_dark (h : s.seen.routes site = false) : exec (.bcast site off data) s = .next (s.quiet id) :=
  exec_quiet rfl (if_pos (by rw [h]; rfl))

section
variable (hr : s.seen.routes site = true)
include hr

theorem exec_bcast_again (h : s.seen.net.contains (.bcastAgain site off data) = true) :
    exec (.bcast site off data) s = .next (s.quiet fun p => (p.arrive (.bcastAgain site off data)).bcastTake site off data) :=
  exec_quiet rfl ((if_neg (by simp [hr])).trans (if_pos h))

section
variable (h : s.seen.net.contains (.bcastAgain site off data) = false)
include h

theorem exec_bcast_held (hready : s.seen.treeReady site 5 2 = false) : exec (.bcast site off data) s = .next (s.quiet id) :=
  exec_quiet rfl ((if_neg (by simp [hr])).trans ((if_neg (ne_true_of_eq_false h)).trans (if_pos (by rw [hready]; rfl))))

theorem exec_bcast_forwards (hready : s.seen.treeReady site 5 2 = true) :
    exec (.bcast site off data) s = .next (s.quiet fun _ =>
      if (bcastForwarded s.seen site off data).bcastLocal site = true then (bcastForwarded s.seen site off data).bcastTake site off data
      else bcastForwarded s.seen site off data) :=
  exec_quiet rfl ((if_neg (by simp [hr])).trans ((if_neg (ne_true_of_eq_false h)).trans (if_neg (by simp [hready]))))

end

end

end

section
variable {crc : Nat}

/-- The acting primary die notes the end of the image that it broadcast. -/
def bcastEndNoted (p : Panel) (site crc : Nat) : Panel :=
  let q := p.arrive (.bcastEnd site crc)
  if site = q.primary then { q with fabric := { q.fabric with bcastEnded := some crc } } else q

/-- A die forwards the end of the broadcast to its children. -/
def bcastEndForwarded (p : Panel) (site crc : Nat) : Panel :=
  (bcastEndNoted p site crc).treeSend site (treeHead (bcastEndNoted p site crc) 0x2C 0 0 (crc % 2 ^ 32)) [] (.bcastEnd · crc)

theorem exec_bcastEnd_dark (h : s.seen.routes site = false) : exec (.bcastEnd site crc) s = .next (s.quiet id) :=
  exec_quiet rfl (if_pos (by rw [h]; rfl))

section
variable (hr : s.seen.routes site = true)
include hr

theorem exec_bcastEnd_again (h : s.seen.net.contains (.bcastEndAgain site crc) = true) :
    exec (.bcastEnd site crc) s = .next (s.quiet fun p => (p.arrive (.bcastEndAgain site crc)).bcastCheck site crc) :=
  exec_quiet rfl ((if_neg (by simp [hr])).trans (if_pos h))

section
variable (h : s.seen.net.contains (.bcastEndAgain site crc) = false)
include h

theorem exec_bcastEnd_held (hready : s.seen.treeReady site 5 1 = false) : exec (.bcastEnd site crc) s = .next (s.quiet id) :=
  exec_quiet rfl ((if_neg (by simp [hr])).trans ((if_neg (ne_true_of_eq_false h)).trans (if_pos (by rw [hready]; rfl))))

theorem exec_bcastEnd_forwards (hready : s.seen.treeReady site 5 1 = true) :
    exec (.bcastEnd site crc) s = .next (s.quiet fun _ =>
      if (bcastEndForwarded s.seen site crc).bcastLocal site = true then (bcastEndForwarded s.seen site crc).bcastCheck site crc
      else bcastEndForwarded s.seen site crc) :=
  exec_quiet rfl ((if_neg (by simp [hr])).trans ((if_neg (ne_true_of_eq_false h)).trans (if_neg (by simp [hready]))))

end

end

end

end

/-- Settles O31: the flip, the notice and the reports by what a die takes and passes on along the tree, the write of a route by the
version in use, the flit of a trace by its die's entry, and the broadcast by the copy that reaches the die. -/
theorem epochsTracesAndBroadcast : Obligations.EpochsTracesAndBroadcast := by
  unfold Obligations.EpochsTracesAndBroadcast
  refine ⟨fun s site v dst value => ⟨exec_fabFlip_refused, exec_fabFlip_underWay, exec_fabFlip_starts,
      fun h => ⟨exec_epochFlipMsg_waits h, exec_drainNotice_waits h⟩,
      fun hr hready => ⟨exec_epochFlipMsg_takes hr hready, exec_drainNotice_takes hr hready⟩, exec_routerDrainReport_ignored,
      exec_routerDrainReport_noted, exec_routerDrainReport_ends, exec_fabRtWrite_outside, exec_fabRtWrite_notIdle,
      fun e he hd hepoch hidle =>
        ⟨exec_fabRtWrite_kept he hd hepoch hidle, exec_fabRtWrite_refused he hd hepoch hidle⟩⟩,
    fun s site b tr noise => ⟨exec_traceFlit_waits, fun d hdue hr => ⟨exec_traceFlit_discards hdue hr, exec_traceFlit_held hdue hr,
      fun hnames hready => ⟨exec_traceFlit_steps hdue hr hnames hready, fun hnone => ?passes⟩⟩, rfl⟩,
    fun s site off crc data => ⟨fun hr => ⟨exec_bcast_dark hr, exec_bcastEnd_dark hr⟩, fun hr => ⟨exec_bcast_again hr,
      fun h => ⟨exec_bcast_held hr h, exec_bcast_forwards hr h⟩, exec_bcastEnd_again hr,
      fun h => ⟨exec_bcastEnd_held hr h, exec_bcastEnd_forwards hr h⟩⟩⟩⟩
  case passes =>
    obtain ⟨hnet, hkept⟩ := traceStep_passes (b := b) (noise := noise) hnone
    refine ⟨_, exec_traceFlit_steps hdue hr hnames hready, ?_, hkept⟩
    rw [hnet, ← List.append_assoc, tracePassed_noisyDue]
    cases d.done <;> rfl

end Sys2Proof.Proofs
end

section
/-! SUPPORT. The registers of bundle ends (R326) under the writes of other dies and under faults, and outputs, which only grow. -/

namespace Sys2Proof.Proofs

open Sys2Proof.Machine Sys2Proof.Laws

/-! ### One field at two dies -/

/-- A field of one word stays under a write into that word at another die, or the two dies share the word (R447, R458). -/
theorem field_setField_site (p : Panel) (x : Nat) (f : Fld) (v s : Nat) {g : Fld} (hword : g.place.2.2 = 1)
    (ho : g.place.1 = f.place.1) (hn : g.place.2.2 = f.place.2.2) :
    (p.setField x f v).field s g = p.field s g ∨ ∀ q : Panel, q.field s g = q.field x g := by
  have hf : f.place.2.2 = 1 := hn.symm.trans hword
  by_cases h : homeSite s f.place.1 = homeSite x f.place.1
  · refine .inr fun q => ?_
    unfold Panel.field
    simp only [hword, ho, Panel.words, Panel.word, h]
  · refine .inl ?_
    have hkey : csrKey (homeSite s f.place.1) f.place.1 ≠ csrKey (homeSite x f.place.1) f.place.1 := by
      unfold csrKey
      omega
    unfold Panel.setField Panel.field
    simp only [hword, hf, ho, Panel.words, Panel.setWords]
    rw [word_setWord_other _ _ _ _ _ _ hkey]

/-- A write of a field leaves a field of one word that is separate from it, at every die. -/
theorem field_setField_everywhere {f g : Fld} (h : Separate f g) (hword : g.place.2.2 = 1) (p : Panel) (x v s : Nat) :
    (p.setField x f v).field s g = p.field s g := by
  obtain ⟨⟨hf, hg⟩, hwords | ⟨⟨ho, hn⟩, hbits⟩⟩ := h
  · exact field_setField_apart p x f v s g hf hg hwords
  · rcases field_setField_site p x f v s hword ho hn with hkept | hshared
    · exact hkept
    · rw [hshared, hshared, field_setField_beside p x f v g hf ho hn hbits]

/-! ### AZL_BUNDLE (R326) -/

/-- A field of the AZL_BUNDLE register of a bundle. -/
abbrev bundleFld (k lsb width : Nat) : Fld := ⟨0xf0100 + 0x4 * k, lsb, width, 0, 0⟩

section
variable {j k l w l' w' : Nat}

theorem bundleFld_place (hw : 0 < w) (hlw : l + w ≤ 32) : (bundleFld k l w).place = (0xf0100 + 4 * k, l, 1) := by
  unfold Fld.place
  simp only [Prod.mk.injEq]
  omega

theorem bundleFld_fits (hk : k < 80) (hlw : l + w ≤ 32) : FldFits (bundleFld k l w) := by
  unfold FldFits
  simp only
  omega

/-- Fields of two bundles, or of different bits of one bundle, are separate. -/
theorem bundleFlds_separate (hj : j < 80) (hk : k < 80) (hw : 0 < w) (hlw : l + w ≤ 32) (hw' : 0 < w') (hlw' : l' + w' ≤ 32)
    (h : j ≠ k ∨ l' + w' ≤ l ∨ l + w ≤ l') : Separate (bundleFld j l w) (bundleFld k l' w') := by
  refine ⟨⟨bundleFld_fits hj hlw, bundleFld_fits hk hlw'⟩, ?_⟩
  unfold WordsApart
  rw [bundleFld_place hw hlw, bundleFld_place hw' hlw']
  dsimp only
  by_cases hjk : j = k
  · subst hjk
    exact .inr ⟨⟨rfl, rfl⟩, h.resolve_left (fun h => h rfl)⟩
  · exact .inl (by omega)

theorem bundleFld_separate_below {g : Fld} (hk : k < 80) (hw : 0 < w) (hlw : l + w ≤ 32) (hg : BelowBundles g) :
    Separate (bundleFld k l w) g ∧ Separate g (bundleFld k l w) := by
  obtain ⟨hfits, hwords⟩ := hg
  refine ⟨⟨⟨bundleFld_fits hk hlw, hfits⟩, .inl (.inl ?_)⟩, ⟨⟨hfits, bundleFld_fits hk hlw⟩, .inl (.inr ?_)⟩⟩ <;>
    rw [bundleFld_place hw hlw] <;> dsimp only <;> omega

end

/-! ### The state of a bundle -/

section
variable (p : Panel) (s : Nat) {j k v : Nat} (hj : j < 80)
include hj

theorem azState_setState (hv : v < 2 ^ 3) : (p.setField s (Csr.AZL_BUNDLE_STATE j) v).azState s j = v :=
  (field_setField_same p s (Csr.AZL_BUNDLE_STATE j) v (bundleFld_fits hj (by decide))).trans (Nat.mod_eq_of_lt hv)

theorem state_separate_state (hk : k < 80) (h : j ≠ k) : Separate (Csr.AZL_BUNDLE_STATE j) (Csr.AZL_BUNDLE_STATE k) :=
  bundleFlds_separate hj hk (by decide) (by decide) (by decide) (by decide) (.inl h)

theorem azState_setState_other (hk : k < 80) (h : j ≠ k) :
    (p.setField s (Csr.AZL_BUNDLE_STATE j) v).azState s k = p.azState s k :=
  field_setField_separate (state_separate_state hj hk h) p s v

theorem edgeCut_setState (e : Nat) : (p.setField s (Csr.AZL_BUNDLE_STATE j) v).edgeCut s e = p.edgeCut s e := by
  have hsep : Separate (Csr.AZL_BUNDLE_STATE j) Csr.AZL_STATUS_CUT :=
    (bundleFld_separate_below hj (by decide) (by decide) (by decide)).1
  unfold Panel.edgeCut
  rw [field_setField_separate hsep]

end

/-! ### Faults -/

/-- A field that no fault changes: neither a class's fault register nor an effect of a fault has its word. -/
def FaultsLeave (g : Fld) : Prop := Undisturbed g ∧ ∀ f ∈ faultRegs, WordsApart f g

theorem bundleFld_faultsLeave {k l w : Nat} (hk : k < 80) (hw : 0 < w) (hlw : l + w ≤ 32) : FaultsLeave (bundleFld k l w) := by
  have below : ∀ f ∈ faultRegs, f.place.1 / 4 + f.place.2.2 ≤ 0x3c040 := by decide
  refine ⟨azl_undisturbed (bundleFld_fits hk hlw) (Nat.le_add_right_of_le (by decide)), fun f hf => .inr ?_⟩
  have := below f hf
  rw [bundleFld_place hw hlw]
  dsimp only
  omega

/-- The fields of AZL_CTRL and AZL_STATUS that tie and cut an edge. -/
theorem edgeFlds_faultsLeave : ∀ g ∈ [Csr.AZL_STATUS_CUT, Csr.AZL_STATUS_TIED, Csr.AZL_CTRL_TIE_MASK], FaultsLeave g := by
  have all : ∀ g ∈ [Csr.AZL_STATUS_CUT, Csr.AZL_STATUS_TIED, Csr.AZL_CTRL_TIE_MASK],
      FldFits g ∧ 0xf0000 ≤ g.off ∧ ∀ f ∈ faultRegs, WordsApart f g := by
    unfold FldFits
    decide
  intro g hg
  obtain ⟨hfits, hoff, hapart⟩ := all g hg
  exact ⟨azl_undisturbed hfits hoff, hapart⟩

section
variable {g f : Fld} (hg : FaultsLeave g) (p : Panel) (site : Nat) {code : Nat} (hf : faultReg code = some f) (x : Nat)
include hg hf

theorem raiseFor_field_left (sev : Severity) {reg : Option Nat} (hreg : ∀ n, reg = some n → n < 16) (cluster detail : Nat) :
    (p.raiseFor site code sev reg cluster detail).field x g = p.field x g :=
  raiseFor_field_undisturbed p site code sev reg cluster detail x hf hg.1 (hg.2 f (faultReg_mem hf)) hreg

theorem raise_field_left : (p.raise site code).field x g = p.field x g :=
  raiseFor_field_left hg p site hf x _ (fun _ => regionOf_lt) _ _

theorem raiseIf_field_left (c : Bool) : (p.raiseIf c site code).field x g = p.field x g :=
  ite_keeps (·.field x g) (raise_field_left hg p site hf x)

end

theorem raiseIf_bundle (p : Panel) (c : Bool) (site code s b : Nat) : (p.raiseIf c site code).bundle s b = p.bundle s b :=
  ite_keeps (·.bundle s b) (raise_bundle p site code s b)

/-! ### Outputs -/

theorem openMark_out (p : Panel) (m : Mark) : (p.openMark m).out = p.out := by
  unfold Panel.openMark
  simp only
  split <;> rw [count_out, modContain_out]

theorem faultEffect_out (p : Panel) (r : FaultRec) (reg : Option Nat) : (p.faultEffect r reg).out = p.out := by
  cases reg with
  | none => rfl
  | some n =>
    exact ((ite_keeps (·.out) (setFlag_out _ _ _ _)).trans (ite_keeps (·.out) (openMark_out _ _))).trans
      (ite_keeps (·.out) (openMark_out _ _))

theorem halt_out (p : Panel) : p.halt.out = p.out := by
  unfold Panel.halt
  refine (each_keeps (·.out) _ (fun q s _ => setFlag_out _ _ _ _) _).trans
    ((each_keeps (·.out) _ (fun q r _ => ?_) _).trans rfl)
  rw [setFlag_out, setFlag_out]

theorem out_subset_interrupt (p : Panel) (v : Nat) : p.out ⊆ (p.interrupt v).out := by
  unfold Panel.interrupt
  split
  · exact List.subset_append_left _ _
  · exact List.Subset.refl _

theorem out_subset_ite {c : Prop} [Decidable c] {p q r : Panel} (hq : p.out ⊆ q.out) (hr : p.out ⊆ r.out) :
    p.out ⊆ (if c then q else r).out := by
  split
  · exact hq
  · exact hr

/-- A fault drives at most an interrupt (R520). -/
theorem out_subset_raise (p : Panel) (site code : Nat) : p.out ⊆ (p.raise site code).out := by
  unfold Panel.raise Panel.raiseFor
  rw [report_keeps (·.out) (fun _ _ _ => rfl) (fun _ _ => rfl)]
  refine List.Subset.trans (fun o ho => ?_) (out_subset_ite (out_subset_interrupt _ _) (List.Subset.refl _))
  rw [ite_keeps (·.out) (halt_out _), ite_keeps (·.out) (modContain_out _ _), faultEffect_out]
  split
  · rwa [setField_out]
  · exact ho

theorem out_subset_raiseIf (p : Panel) (c : Bool) (site code : Nat) : p.out ⊆ (p.raiseIf c site code).out :=
  out_subset_ite (out_subset_raise p site code) (List.Subset.refl _)

/-- A frame that leaves is driven on the wires of its bundle (R319). -/
theorem sendFrame_out (p : Panel) (s b : Nat) (f : SentFrame) :
    ∃ control, (p.sendFrame s b f).out = p.out ++ [.azFrame s b (azWires f.kind f.payload f.side control)] := by
  unfold Panel.sendFrame
  refine ⟨_, (emit_out _ _).trans (congrArg (· ++ _) ?_)⟩
  split <;> rfl

theorem out_subset_sendFrame (p : Panel) (s b : Nat) (f : SentFrame) : p.out ⊆ (p.sendFrame s b f).out := by
  obtain ⟨control, h⟩ := sendFrame_out p s b f
  rw [h]
  exact List.subset_append_left _ _

theorem sendControlFrame_out (p : Panel) (s b kind : Nat) :
    ∃ control, .azFrame s b (azWires kind 0 0 control) ∈ (p.sendControlFrame s b kind).out := by
  obtain ⟨control, h⟩ := sendFrame_out p s b ⟨(p.bundle s b).txSeq, kind, 0, 0, 7⟩
  refine ⟨control, ?_⟩
  unfold Panel.sendControlFrame
  rw [h]
  exact List.mem_append_right _ (List.mem_singleton.2 rfl)

theorem out_subset_tellPeer (p : Panel) (s b : Nat) : p.out ⊆ (p.tellPeer s b).out := by
  unfold Panel.tellPeer
  exact out_subset_ite (out_subset_sendFrame _ _ _ _) (out_subset_ite (out_subset_sendFrame _ _ _ _) (List.Subset.refl _))

theorem told_writes {p q : Panel} (h : Told p q) : q.writes = p.writes := by
  obtain ⟨⟨_, _, rfl⟩, -⟩ := h
  rfl

end Sys2Proof.Proofs
end

section
/-! SUPPORT. A frame that is not intact (R325), a bundle in trouble (R326), and an edge that is cut (R333). -/

namespace Sys2Proof.Proofs

open Sys2Proof.Machine Sys2Proof.Laws

theorem told_discarding {p q : Panel} (h : Told p q) (s b : Nat) : (q.bundle s b).discarding = (p.bundle s b).discarding :=
  (congrArg BundleEnd.discarding (h.2 s b) :)

/-! ### A frame that is not intact (R325) -/

section
variable (p : Panel) (f : AzFrame)

theorem crcFailed_ignored (h : f.intact = true ∨ p.listens f.site f.bundle = false) : p.crcFailed f = p :=
  if_pos (by simpa using h)

section
variable {p f} (hbad : f.intact = false) (hl : p.listens f.site f.bundle = true)
include hbad hl

theorem crcFailed_tied (ht : p.edgeTied f.site (faceOf f.bundle) = true) :
    p.crcFailed f = p.tiedFrame f.site f.bundle none := by
  simp only [Panel.crcFailed, hbad, hl, ht, Bool.not_true, Bool.or_self, Bool.false_eq_true, if_false, if_true]

/-- The end counts the frame, discards what follows and asks for a replay. -/
theorem crcFailed_asks (ht : p.edgeTied f.site (faceOf f.bundle) = false) :
    ((p.crcFailed f).bundle f.site f.bundle).discarding = true
      ∧ (p.crcFailed f).tallyOf f.site (Csr.AZL_BERR_CRC f.bundle)
          = min (2 ^ (Csr.AZL_BERR_CRC f.bundle).width - 1) (p.tallyOf f.site (Csr.AZL_BERR_CRC f.bundle) + 1)
      ∧ ∃ control, .azFrame f.site f.bundle (azWires azNakKind 0 0 control) ∈ (p.crcFailed f).out := by
  unfold Panel.crcFailed
  simp only [hbad, hl, ht, Bool.not_true, Bool.or_self, Bool.false_eq_true, if_false]
  have hasked (q : Panel) (c : Bool) :
      ((((q.modBundle f.site f.bundle fun x => { x with discarding := true }).sendControlFrame f.site f.bundle azNakKind).raiseIf
        c f.site 0x0A01).bundle f.site f.bundle).discarding = true := by
    rw [raiseIf_bundle, told_discarding (told_sendControlFrame _ _ _ _), modBundle_same]
  refine ⟨hasked _ _, ?_, ?_⟩
  · refine (tallyOf_of_tallies (ite_keeps (·.tallies) (raise_tallies _ _ _)) _ _).trans ?_
    refine ((told_tallyOf (told_sendControlFrame _ _ _ _) _ _).trans (tallyOf_of_tallies ?_ _ _)).trans
      (tallyOf_tally_same p f.site (Csr.AZL_BERR_CRC f.bundle) 1)
    rfl
  · obtain ⟨control, h⟩ := sendControlFrame_out
      ((p.tally f.site (Csr.AZL_BERR_CRC f.bundle) 1).modBundle f.site f.bundle fun x => { x with discarding := true })
      f.site f.bundle azNakKind
    exact ⟨control, out_subset_raiseIf _ _ _ _ h⟩

end

end

/-! ### A bundle in trouble (R326) -/

section
variable {p : Panel} {s b : Nat}

/-- A bundle that stays as it is in trouble: it is cut or bad, or its die does not route. -/
abbrev TrainsNot (p : Panel) (s b : Nat) : Prop := p.azState s b = azCut ∨ p.azState s b = azBad ∨ p.routes s = false

theorem retrain_stays (h : TrainsNot p s b) : p.retrain s b = p :=
  if_pos (by simpa [or_assoc] using h)

theorem retrain_trains (hb : b < 64) (hcut : p.azState s b ≠ azCut) (hbad : p.azState s b ≠ azBad) (hr : p.routes s = true) :
    (p.retrain s b).azState s b = azTraining
      ∧ (p.retrain s b).field s (Csr.AZL_BUNDLE_RETRAINS b)
          = min (2 ^ (Csr.AZL_BUNDLE_RETRAINS b).width - 1) (p.field s (Csr.AZL_BUNDLE_RETRAINS b) + 1) := by
  have htrains : p.retrain s b = (p.count s (Csr.AZL_BUNDLE_RETRAINS b) 1).setField s (Csr.AZL_BUNDLE_STATE b) azTraining :=
    if_neg (by simp [hcut, hbad, hr])
  have hsep : Separate (Csr.AZL_BUNDLE_STATE b) (Csr.AZL_BUNDLE_RETRAINS b) :=
    bundleFlds_separate (by omega) (by omega) (by decide) (by decide) (by decide) (by decide) (.inr (.inr (by decide)))
  rw [htrains]
  refine ⟨azState_setState _ _ (by omega) (by decide), ?_⟩
  rw [field_setField_separate hsep]
  refine (field_setField_same p s (Csr.AZL_BUNDLE_RETRAINS b) _ (bundleFld_fits (by omega) (by decide))).trans ?_
  exact Nat.mod_eq_of_lt (by change min (2 ^ 6 - 1) _ < 2 ^ 6; omega)

end

/-! ### The registers that name a die's edge and bundle (AZL_CTRL) -/

section
variable (p : Panel) (s : Nat) {f : Fld} (hf : f = Csr.AZL_CTRL_EDGE ∨ f = Csr.AZL_CTRL_BUNDLE) (v : Nat)
include hf

theorem ctrl_belowBundles : BelowBundles f := by
  rcases hf with rfl | rfl <;> decide

theorem setCtrl_azState {k : Nat} (hk : k < 64) : (p.setField s f v).azState s k = p.azState s k :=
  field_setField_separate
    (bundleFld_separate_below (by omega) (by decide) (by decide) (ctrl_belowBundles hf)).2 p s v

theorem setCtrl_bundleFld {k l w : Nat} (hk : k < 64) (hw : 0 < w) (hlw : l + w ≤ 32) :
    (p.setField s f v).field s (bundleFld k l w) = p.field s (bundleFld k l w) :=
  field_setField_separate (bundleFld_separate_below (by omega) hw hlw (ctrl_belowBundles hf)).2 p s v

theorem setCtrl_edgeCut (e : Nat) : (p.setField s f v).edgeCut s e = p.edgeCut s e := by
  have hsep : Separate f Csr.AZL_STATUS_CUT := by rcases hf with rfl | rfl <;> decide
  unfold Panel.edgeCut
  rw [field_setField_separate hsep]

theorem setCtrl_routes : (p.setField s f v).routes s = p.routes s := by
  have hsep : ∀ d < 5, Separate f (Csr.PWR_DOM_STATE d) := by rcases hf with rfl | rfl <;> decide
  have hlogic : logicDomain s < 5 := by
    unfold logicDomain
    split <;> decide
  unfold Panel.routes Panel.lives Panel.domainUp Panel.logicGood Panel.unitState
  rw [field_setField_separate (hsep _ hlogic), setField_plan]

end

/-! ### Packets that end at a cut (R333) -/

theorem mem_faceBundles_div {e k : Nat} (hk : k ∈ faceBundles e) : k / 16 = e := by
  unfold faceBundles at hk
  obtain ⟨b, hb, rfl⟩ := List.mem_map.1 hk
  have := List.mem_range.1 hb
  omega

/-- `q` is `p` after packets of an edge's bundles have ended: registers outside FAB_STATUS stay, outputs are added, and while the edge is
cut its replay buffers stay. -/
def Ended (s e : Nat) (p q : Panel) : Prop :=
  (∀ x g, OutsideStatus g → q.field x g = p.field x g) ∧ p.out ⊆ q.out
    ∧ (p.edgeCut s e = true → ∀ k ∈ faceBundles e, (q.bundle s k).replay = (p.bundle s k).replay)

section
variable {s e : Nat}

theorem ended_refl (p : Panel) : Ended s e p p := ⟨fun _ _ _ => rfl, List.Subset.refl _, fun _ _ _ => rfl⟩

theorem ended_edgeCut {p q : Panel} (h : Ended s e p q) : q.edgeCut s e = p.edgeCut s e := by
  obtain ⟨-, -, hcut, -⟩ := treeFlds_outside
  unfold Panel.edgeCut
  rw [h.1 s _ hcut]

theorem ended_trans {p q r : Panel} (h : Ended s e p q) (h' : Ended s e q r) : Ended s e p r := by
  obtain ⟨hfields', hout', hreplay'⟩ := h'
  have hcut := ended_edgeCut h
  obtain ⟨hfields, hout, hreplay⟩ := h
  exact ⟨fun x g hg => (hfields' x g hg).trans (hfields x g hg), List.Subset.trans hout hout',
    fun hc k hk => (hreplay' (hcut.trans hc) k hk).trans (hreplay hc k hk)⟩

theorem ended_each {α : Type} (l : List α) {f : Panel → α → Panel} (h : ∀ p x, Ended s e p (f p x)) (p : Panel) :
    Ended s e p (p.each l f) := by
  unfold Panel.each
  exact List.foldlRecOn (motive := Ended s e p) _ _ (ended_refl p) fun q hq x _ => ended_trans hq (h q x)

theorem ended_ite {c : Prop} [Decidable c] {p q r : Panel} (hq : Ended s e p q) (hr : Ended s e p r) :
    Ended s e p (if c then q else r) := by
  split
  · exact hq
  · exact hr

/-- A change of neither registers nor bundle ends that drives nothing. -/
theorem ended_of_parts {p q : Panel} (hcsr : q.csr = p.csr) (hbundles : q.bundles = p.bundles) (hout : q.out = p.out) :
    Ended s e p q :=
  ⟨fun x g _ => field_of_csr hcsr x g, fun o ho => hout ▸ ho, fun _ k _ => by unfold Panel.bundle; rw [hbundles]⟩

theorem ended_of_told {p q : Panel} (h : Told p q) (hout : p.out ⊆ q.out) : Ended s e p q :=
  ⟨fun x g _ => told_field h x g, hout, fun _ k _ => told_replay h s k⟩

theorem ended_modRouter (p : Panel) (x : Nat) (f : Router → Router) : Ended s e p (p.modRouter x f) :=
  ended_of_parts rfl rfl rfl

theorem ended_loseMessage (p : Panel) (h : PacketHead) : Ended s e p (p.loseMessage h) := by
  rw [loseMessage_eq]
  exact ended_of_parts rfl rfl rfl

theorem ended_returnCredits (p : Panel) (x b c n : Nat) : Ended s e p (p.returnCredits x b c n) :=
  ended_each _ (fun p _ => ended_of_told (told_returnCredit p x b c) fun _ ho => out_subset_tellPeer _ _ _ ho) p

theorem ended_showQueues (p : Panel) (x : Nat) : Ended s e p (p.showQueues x) := by
  refine ⟨fun y g hg => showQueues_field p x y hg.1 hg.2, fun o ho => ?_, fun _ k _ => congrArg BundleEnd.replay (showQueues_bundle ..)⟩
  rw [showQueues_eq]
  exact ho

/-- A frame that takes a place in a replay buffer leaves those of the other bundle ends. -/
theorem sendReplayable_replay_other (p : Panel) {x b y k : Nat} (h : bundleKey y k ≠ bundleKey x b) (kind payload side cvc : Nat) :
    ((p.sendReplayable x b kind payload side cvc).bundle y k).replay = (p.bundle y k).replay := by
  unfold Panel.sendReplayable
  rw [told_replay (told_sendFrame _ _ _ _), bundle_modBundle_other _ _ h]

/-- A TRUNC goes on by no bundle of a cut edge: an output there is lost (R310, R333). -/
theorem outLost_of_edgeCut {p : Panel} {o : OpenPacket} (hcut : p.edgeCut s e = true) (ho : o.out ∈ faceBundles e) (he : e < 4) :
    p.outLost s o = true := by
  have hlt := mem_faceBundles_lt he ho
  have hdown : p.edgeDown s e = true := by
    unfold Panel.edgeDown
    simp only [hcut, Bool.true_or]
  unfold Panel.outLost
  simp only [mem_faceBundles_div ho, hlt, hdown, decide_true, Bool.true_or, Bool.true_and]

theorem ended_passTrunc (he : e < 4) (p : Panel) (i c : Nat) (o : OpenPacket) : Ended s e p (p.passTrunc s i c o) := by
  unfold Panel.passTrunc
  simp only
  split
  next => exact ended_modRouter _ _ _
  next hgone =>
    refine ended_ite (ended_trans ⟨fun x g _ => ?_, ?_, fun hcut k hk => ?_⟩ (ended_modRouter _ _ _)) (ended_refl p)
    · unfold Panel.sendReplayable
      rw [told_field (told_sendFrame _ _ _ _), modBundle_field]
    · exact fun _ ho => out_subset_sendFrame _ _ _ _ ho
    · refine sendReplayable_replay_other p (fun hkey => hgone ?_) _ _ _ _
      obtain rfl : k = o.out := by
        unfold bundleKey at hkey
        omega
      simp only [outLost_of_edgeCut hcut hk he, Bool.or_true]

/-- The packet under way at a class of a bundle ends: its flits are discarded, and a TRUNC goes on. -/
def endsUnderWay (s b c : Nat) (cut : Bool) (r : Router) (p : Panel) : Panel :=
  let body := (r.queue b c).takeWhile fun x => !x.head
  match r.open_ b c with
  | some o =>
    if 0 < o.left && (cut || body.length < o.left) then
      let o := { o with left := 0 }
      (((p.loseMessage o.head).modRouter s fun r' => (r'.setQueue b c ((r.queue b c).dropWhile fun x => !x.head)).setOpen b c
        (some o)).returnCredits s b c body.length).passTrunc s b c o
    else p
  | none => p

/-- The last packet of a queue, which has not wholly arrived, is discarded. -/
def endsWaiting (s b c : Nat) (r : Router) (p : Panel) : Panel :=
  let rest := (r.queue b c).dropWhile fun x => !x.head
  if r.due b c = 0 || rest.isEmpty then p
  else
    let p := match (splitLast rest).2 with
      | h :: _ => p.loseMessage (parseHead h.flit.data)
      | [] => p
    (p.modRouter s fun r => r.setQueue b c (((r.queue b c).takeWhile fun x => !x.head) ++ (splitLast rest).1)).returnCredits s b c
      (splitLast rest).2.length

theorem truncate_eq (p : Panel) (s b c : Nat) (cut : Bool) : p.truncate s b c cut
    = (endsWaiting s b c (p.router s) (endsUnderWay s b c cut (p.router s) (p.modRouter s fun r => r.setDue b c 0))).showQueues s := rfl

theorem ended_endsUnderWay (he : e < 4) (p : Panel) (b c : Nat) (cut : Bool) (r : Router) :
    Ended s e p (endsUnderWay s b c cut r p) := by
  unfold endsUnderWay
  simp only
  split
  · exact ended_ite (ended_trans (ended_trans (ended_trans (ended_loseMessage _ _) (ended_modRouter _ _ _))
      (ended_returnCredits _ _ _ _ _)) (ended_passTrunc he _ _ _ _)) (ended_refl p)
  · exact ended_refl p

theorem ended_endsWaiting (p : Panel) (b c : Nat) (r : Router) : Ended s e p (endsWaiting s b c r p) := by
  unfold endsWaiting
  simp only
  refine ended_ite (ended_refl p) (ended_trans (ended_trans ?_ (ended_modRouter _ _ _)) (ended_returnCredits _ _ _ _ _))
  split
  · exact ended_loseMessage _ _
  · exact ended_refl p

theorem ended_truncate (he : e < 4) (p : Panel) (b c : Nat) (cut : Bool) : Ended s e p (p.truncate s b c cut) := by
  rw [truncate_eq]
  exact ended_trans (ended_trans (ended_trans (ended_modRouter _ _ _) (ended_endsUnderWay he _ _ _ _ _)) (ended_endsWaiting _ _ _ _))
    (ended_showQueues _ _)

end

/-! ### An edge that is cut (R333) -/

section
variable {s e : Nat}

/-- A bundle end of a cut edge before its packets end: its state is cut, and it holds nothing. -/
def severedEnd (s b : Nat) (p : Panel) : Panel :=
  (((p.setField s (Csr.AZL_BUNDLE_STATE b) azCut).setMeshBuf s b []).setWire s b []).freshBundle s b

/-- A bundle end of a cut edge. -/
def severedBundle (s : Nat) (p : Panel) (b : Nat) : Panel :=
  (severedEnd s b p).each (List.range 6) fun p c => p.truncate s b c true

theorem severEdge_eq (p : Panel) (s e : Nat) : p.severEdge s e
    = (p.setField s Csr.AZL_STATUS_CUT (putBits (p.field s Csr.AZL_STATUS_CUT) e 1 (flag true))).each (faceBundles e) (severedBundle s) :=
  rfl

section
variable (p : Panel) (s b : Nat)

theorem severedEnd_field (x : Nat) (g : Fld) :
    (severedEnd s b p).field x g = (p.setField s (Csr.AZL_BUNDLE_STATE b) azCut).field x g := by
  unfold severedEnd Panel.freshBundle
  rw [modBundle_field, setWire_field, setMeshBuf_field]

theorem severedEnd_edgeCut (hb : b < 64) (e : Nat) : (severedEnd s b p).edgeCut s e = p.edgeCut s e := by
  rw [← edgeCut_setState p s (j := b) (v := azCut) (by omega) e]
  unfold Panel.edgeCut
  rw [severedEnd_field]

theorem severedEnd_out : (severedEnd s b p).out = p.out := setField_out p s (Csr.AZL_BUNDLE_STATE b) azCut

theorem severedEnd_replay : ((severedEnd s b p).bundle s b).replay = [] := by
  unfold severedEnd Panel.freshBundle
  rw [modBundle_same]

theorem severedEnd_bundle_other {k : Nat} (h : k ≠ b) : (severedEnd s b p).bundle s k = p.bundle s k := by
  unfold severedEnd Panel.freshBundle
  rw [bundle_modBundle_other _ _ (by unfold bundleKey; omega)]
  exact setField_bundle _ _ _ _ _ _

end

section
variable (he : e < 4) (p : Panel) {b : Nat}
include he

theorem ended_severedBundle : Ended s e (severedEnd s b p) (severedBundle s p b) :=
  ended_each _ (fun p c => ended_truncate he p b c true) _

theorem out_subset_severedBundle : p.out ⊆ (severedBundle s p b).out := by
  obtain ⟨-, hout, -⟩ := ended_severedBundle (s := s) (b := b) he p
  rwa [severedEnd_out] at hout

variable (hb : b ∈ faceBundles e)
include hb

theorem severedBundle_edgeCut : (severedBundle s p b).edgeCut s e = p.edgeCut s e :=
  (ended_edgeCut (ended_severedBundle he p)).trans (severedEnd_edgeCut p s b (mem_faceBundles_lt he hb) e)

/-- A bundle end of a cut edge is cut, and holds no frame to replay. -/
theorem severedBundle_severs (hcut : p.edgeCut s e = true) :
    (severedBundle s p b).azState s b = azCut ∧ ((severedBundle s p b).bundle s b).replay = [] := by
  have hb64 := mem_faceBundles_lt he hb
  obtain ⟨hfields, -, hreplay⟩ := ended_severedBundle (s := s) (b := b) he p
  refine ⟨(hfields s _ (bundleState_outside hb64)).trans ((severedEnd_field ..).trans (azState_setState p s (by omega) (by decide))),
    (hreplay ?_ b hb).trans (severedEnd_replay p s b)⟩
  rwa [severedEnd_edgeCut p s b hb64]

/-- The other bundle ends of a cut edge stay as one of them is cut. -/
theorem severedBundle_keeps_other {k : Nat} (hk : k ∈ faceBundles e) (h : k ≠ b) (hcut : p.edgeCut s e = true) :
    (severedBundle s p b).azState s k = p.azState s k
      ∧ ((severedBundle s p b).bundle s k).replay = (p.bundle s k).replay := by
  have hb64 := mem_faceBundles_lt he hb
  have hk64 := mem_faceBundles_lt he hk
  obtain ⟨hfields, -, hreplay⟩ := ended_severedBundle (s := s) (b := b) he p
  refine ⟨(hfields s _ (bundleState_outside hk64)).trans
      ((severedEnd_field ..).trans (azState_setState_other p s (by omega) (by omega) h.symm)),
    (hreplay ?_ k hk).trans (by rw [severedEnd_bundle_other p s b h])⟩
  rwa [severedEnd_edgeCut p s b hb64]

end

/-- Every bundle end of an edge that is cut is severed in its own round. -/
theorem each_severedBundle (he : e < 4) (p : Panel) (hcut : p.edgeCut s e = true) :
    (p.each (faceBundles e) (severedBundle s)).edgeCut s e = true
      ∧ (∀ k ∈ faceBundles e, (p.each (faceBundles e) (severedBundle s)).azState s k = azCut
        ∧ ((p.each (faceBundles e) (severedBundle s)).bundle s k).replay = [])
      ∧ p.out ⊆ (p.each (faceBundles e) (severedBundle s)).out := by
  have hcut' : (p.each (faceBundles e) (severedBundle s)).edgeCut s e = true :=
    (each_keeps (·.edgeCut s e) _ (fun q b hb => severedBundle_edgeCut he q hb) p).trans hcut
  refine ⟨hcut', fun k hk => ?_, ?_⟩
  · refine each_settles (fun k q => q.edgeCut s e = true → q.azState s k = azCut ∧ (q.bundle s k).replay = []) _
      (fun q b hb hc => ?_) (fun q b hb j hj hbj hq hc => ?_) p k hk hcut'
    · exact severedBundle_severs he q hb ((severedBundle_edgeCut he q hb).symm.trans hc)
    · have hc := (severedBundle_edgeCut he q hj).symm.trans hc
      obtain ⟨hstate, hreplay⟩ := severedBundle_keeps_other he q hj hb hbj hc
      rw [hstate, hreplay]
      exact hq hc
  · unfold Panel.each
    exact List.foldlRecOn (motive := fun q : Panel => p.out ⊆ q.out) _ _ (List.Subset.refl _)
      fun q hq b _ => List.Subset.trans hq (out_subset_severedBundle he q)

theorem severEdge_cuts (he : e < 4) (p : Panel) : (p.severEdge s e).edgeCut s e = true
    ∧ (∀ k ∈ faceBundles e, (p.severEdge s e).azState s k = azCut ∧ ((p.severEdge s e).bundle s k).replay = [])
    ∧ p.out ⊆ (p.severEdge s e).out := by
  rw [severEdge_eq, ← setField_out p s Csr.AZL_STATUS_CUT (putBits (p.field s Csr.AZL_STATUS_CUT) e 1 (flag true))]
  exact each_severedBundle he _ (bitOf_field_putBit p s (by unfold FldFits; decide) he _ true)

/-- A control frame of a kind has left on a bundle. -/
def ControlSent (s kind b : Nat) (p : Panel) : Prop := ∃ control, .azFrame s b (azWires kind 0 0 control) ∈ p.out

/-- A die that cuts an edge has sent CUT on its bundles. -/
theorem each_controlSent (p : Panel) (s kind : Nat) (l : List Nat) :
    ∀ k ∈ l, ControlSent s kind k (p.each l fun p b => p.sendControlFrame s b kind) := by
  refine each_settles (ControlSent s kind) l (fun q k _ => sendControlFrame_out q s k kind) (fun q k _ j _ _ hsent => ?_) p
  obtain ⟨control, h⟩ := hsent
  exact ⟨control, out_subset_sendFrame _ _ _ _ h⟩

/-- What a cut leaves of an edge that was not cut: CUT on every bundle, every bundle cut with nothing to replay, and the code. -/
theorem cutEdge_cuts {p : Panel} (he : e < 4) (hopen : p.edgeCut s e = false) (hr : p.routes s = true) {code : Nat}
    (hcode : faultReg code = some Csr.AZL_FAULT) (hlt : code < 65536) :
    (p.cutEdge s e code).edgeCut s e = true ∧ (p.cutEdge s e code).field s Csr.AZL_FAULT = code
      ∧ ∀ k ∈ faceBundles e, (p.cutEdge s e code).azState s k = azCut ∧ ((p.cutEdge s e code).bundle s k).replay = []
        ∧ ∃ control, .azFrame s k (azWires azCutKind 0 0 control) ∈ (p.cutEdge s e code).out := by
  have hcuts : p.cutEdge s e code
      = ((p.each (faceBundles e) fun p b => p.sendControlFrame s b azCutKind).severEdge s e).raise s code :=
    if_neg (by simp [hopen, hr])
  have hsent := each_controlSent p s azCutKind (faceBundles e)
  rw [hcuts]
  revert hsent
  generalize (p.each (faceBundles e) fun p b => p.sendControlFrame s b azCutKind) = q
  intro hsent
  obtain ⟨hcut, hbundles, hout⟩ := severEdge_cuts (s := s) he q
  refine ⟨?_, raise_field_faultReg _ _ _ hcode hlt, fun k hk => ?_⟩
  · unfold Panel.edgeCut
    rwa [raise_field_left (edgeFlds_faultsLeave _ (by simp)) _ _ hcode]
  · obtain ⟨hstate, hempty⟩ := hbundles k hk
    obtain ⟨control, hmem⟩ := hsent k hk
    refine ⟨?_, ?_, control, out_subset_raise _ _ _ (hout hmem)⟩
    · exact (raise_field_left (bundleFld_faultsLeave (Nat.lt_trans (mem_faceBundles_lt he hk) (by decide)) (by decide) (by decide)) _ _
        hcode s).trans hstate
    · rw [raise_bundle, hempty]

theorem cutEdge_stays {p : Panel} {code : Nat} (h : p.edgeCut s e = true ∨ p.routes s = false) : p.cutEdge s e code = p :=
  if_pos (by simpa using h)

end

end Sys2Proof.Proofs
end

section
/-! SUPPORT. Training of a bundle (R76, R326, R330): the wires that fail, what a training that ends well leaves, and one that fails. -/

namespace Sys2Proof.Proofs

open Sys2Proof.Machine Sys2Proof.Laws

/-! ### Parts that a fault leaves -/

section
variable {p q : Panel} (h : Raised p q)
include h

theorem raised_writes : q.writes = p.writes := by obtain ⟨_, _, _, _, _, rfl⟩ := h; rfl
theorem raised_bundle (s b : Nat) : q.bundle s b = p.bundle s b := by obtain ⟨_, _, _, _, _, rfl⟩ := h; rfl
theorem raised_unitState (s u : Nat) : q.unitState s u = p.unitState s u := by obtain ⟨_, _, _, _, _, rfl⟩ := h; rfl
theorem raised_dieTime (s : Nat) : q.dieTime s = p.dieTime s := by obtain ⟨_, _, _, _, _, rfl⟩ := h; rfl

end

/-- A crossing's registered latency follows its profile (R75). -/
theorem latency_of_field {p q : Panel} {s b : Nat}
    (h : q.field s (Csr.AZL_BUNDLE_PROFILE b) = p.field s (Csr.AZL_BUNDLE_PROFILE b)) : q.latency s b = p.latency s b := by
  unfold Panel.latency Panel.isSet
  rw [h]

section
variable (p : Panel) (s b : Nat)

theorem freshBundle_csr : (p.freshBundle s b).csr = p.csr := rfl

theorem freshBundle_field (x : Nat) (g : Fld) : (p.freshBundle s b).field x g = p.field x g := modBundle_field ..

theorem freshBundle_fresh :
    ((p.freshBundle s b).bundle s b).rxSeq = 511 ∧ ((p.freshBundle s b).bundle s b).replay = [] := by
  unfold Panel.freshBundle
  rw [modBundle_same]
  exact ⟨rfl, rfl⟩

end

/-! ### Wires that fail (R330 step 4) -/

section
variable (p : Panel) (s b : Nat) (tx rx : List Nat)

/-- The failed wires of a direction that are not on its repair wire. -/
def newTx : List Nat := newWires (p.isSet s (Csr.AZL_BUNDLE_REPAIR_TX_V b)) (p.field s (Csr.AZL_BUNDLE_REPAIR_TX b)) tx
def newRx : List Nat := newWires (p.isSet s (Csr.AZL_BUNDLE_REPAIR_RX_V b)) (p.field s (Csr.AZL_BUNDLE_REPAIR_RX b)) rx

/-- Each direction's repair wire suffices. -/
def WiresFit : Prop :=
  (newTx p s b tx = [] ∨ (newTx p s b tx).length + flag (p.isSet s (Csr.AZL_BUNDLE_REPAIR_TX_V b)) ≤ 1)
    ∧ (newRx p s b rx = [] ∨ (newRx p s b rx).length + flag (p.isSet s (Csr.AZL_BUNDLE_REPAIR_RX_V b)) ≤ 1)

end

/-- The repair map of a direction, with its wire `fw` and its flag `fv`, takes the wire that fails. -/
def repairKept (s : Nat) (fw fv : Fld) (ws : List Nat) (p : Panel) : Panel :=
  match ws with
  | w :: _ => (p.setField s fw w).setFlag s fv true
  | [] => p

/-- The repair map of a bundle takes the wires that fail, with 0x0A04. -/
def repairsKept (s b : Nat) (nt nr : List Nat) (p : Panel) : Panel :=
  (repairKept s (Csr.AZL_BUNDLE_REPAIR_RX b) (Csr.AZL_BUNDLE_REPAIR_RX_V b) nr
    (repairKept s (Csr.AZL_BUNDLE_REPAIR_TX b) (Csr.AZL_BUNDLE_REPAIR_TX_V b) nt p)).raiseIf (!nt.isEmpty || !nr.isEmpty) s 0x0A04

/-- A bundle with a second failed wire in a direction is bad, with 0x0E0E. -/
def wireBad (s b : Nat) (p : Panel) : Panel :=
  ((p.setField s (Csr.AZL_BUNDLE_STATE b) azBad).badThisBoot s (64 + b)).raise s 0x0E0E

section
variable {p : Panel} {s b : Nat} {tx rx : List Nat}

/-- A direction overflows its repair wire when it has a second failed wire. -/
theorem overflows_iff (ws : List Nat) (v : Bool) :
    (decide (2 ≤ ws.length + flag v) && !ws.isEmpty) = true ↔ ¬ (ws = [] ∨ ws.length + flag v ≤ 1) := by
  cases ws with
  | nil => simp
  | cons w l =>
    simp only [List.length_cons, List.isEmpty_cons, Bool.not_false, Bool.and_true, decide_eq_true_eq, reduceCtorEq, false_or]
    omega

theorem wiresFit_iff : WiresFit p s b tx rx ↔
    ¬ ((decide (2 ≤ (newTx p s b tx).length + flag (p.isSet s (Csr.AZL_BUNDLE_REPAIR_TX_V b))) && !(newTx p s b tx).isEmpty
      || decide (2 ≤ (newRx p s b rx).length + flag (p.isSet s (Csr.AZL_BUNDLE_REPAIR_RX_V b))) && !(newRx p s b rx).isEmpty)
        = true) := by
  rw [Bool.or_eq_true, overflows_iff, overflows_iff, not_or, not_not, not_not]
  rfl

theorem repairWires_fit (h : WiresFit p s b tx rx) :
    p.repairWires s b tx rx = repairsKept s b (newTx p s b tx) (newRx p s b rx) p := by
  unfold Panel.repairWires
  exact if_neg (wiresFit_iff.1 h)

theorem repairWires_unfit (h : ¬ WiresFit p s b tx rx) : p.repairWires s b tx rx = wireBad s b p := by
  unfold Panel.repairWires
  exact if_pos (by_contra fun hno => h (wiresFit_iff.2 hno))

end

section
variable (s : Nat) (ws : List Nat) (p : Panel)

theorem raised_repairKept (fw fv : Fld) : Raised p (repairKept s fw fv ws p) := by
  unfold repairKept
  split
  · exact raised_trans (raised_setField ..) (raised_setFlag ..)
  · exact raised_refl p

theorem repairKept_field {fw fv g : Fld} (hw : Separate fw g) (hv : Separate fv g) (hword : g.place.2.2 = 1) (x : Nat) :
    (repairKept s fw fv ws p).field x g = p.field x g := by
  unfold repairKept
  split
  · exact (field_setField_everywhere hv hword _ _ _ _).trans (field_setField_everywhere hw hword _ _ _ _)
  · rfl

/-- A failed wire stands in the repair map of its direction (R330). -/
theorem repairKept_cons {fw fv : Fld} (hfw : FldFits fw) (hfv : FldFits fv) (hv : 0 < fv.width) (hsep : Separate fv fw) (w : Nat) :
    (repairKept s fw fv (w :: ws) p).isSet s fv = true ∧ (repairKept s fw fv (w :: ws) p).field s fw = w % 2 ^ fw.width := by
  refine ⟨isSet_setFlag_same _ _ _ _ hfv hv, (field_setFlag_separate hsep _ _ _).trans (field_setField_same _ _ _ _ hfw)⟩

end

section
variable (s b : Nat) (nt nr : List Nat) (p : Panel)

theorem raised_repairsKept : Raised p (repairsKept s b nt nr p) :=
  raised_trans (raised_trans (raised_repairKept ..) (raised_repairKept ..)) (raised_raiseIf ..)

/-- The repair map leaves the other fields that no fault has: those of other registers, and of the bundle's other bits. -/
theorem repairsKept_field {g : Fld} (hg : FaultsLeave g) (hword : g.place.2.2 = 1)
    (hsep : ∀ f ∈ [Csr.AZL_BUNDLE_REPAIR_TX b, Csr.AZL_BUNDLE_REPAIR_TX_V b, Csr.AZL_BUNDLE_REPAIR_RX b, Csr.AZL_BUNDLE_REPAIR_RX_V b],
      Separate f g) (x : Nat) : (repairsKept s b nt nr p).field x g = p.field x g := by
  unfold repairsKept
  rw [raiseIf_field_left hg _ _ rfl, repairKept_field _ _ _ (hsep _ (by simp)) (hsep _ (by simp)) hword,
    repairKept_field _ _ _ (hsep _ (by simp)) (hsep _ (by simp)) hword]

variable {b} (hb : b < 80)
include hb

/-- The fields of a repair map are separate from the fields of one word below AZL_BUNDLE. -/
theorem repairs_separate_below {g : Fld} (hg : BelowBundles g) :
    ∀ f ∈ [Csr.AZL_BUNDLE_REPAIR_TX b, Csr.AZL_BUNDLE_REPAIR_TX_V b, Csr.AZL_BUNDLE_REPAIR_RX b, Csr.AZL_BUNDLE_REPAIR_RX_V b],
      Separate f g := by
  simp only [List.mem_cons, List.not_mem_nil, or_false, forall_eq_or_imp, forall_eq]
  exact ⟨(bundleFld_separate_below hb (by decide) (by decide) hg).1, (bundleFld_separate_below hb (by decide) (by decide) hg).1,
    (bundleFld_separate_below hb (by decide) (by decide) hg).1, (bundleFld_separate_below hb (by decide) (by decide) hg).1⟩

/-- They are separate from the low six bits of every AZL_BUNDLE: state, profile and role. -/
theorem repairs_separate_low {k l w : Nat} (hk : k < 80) (hw : 0 < w) (hlw : l + w ≤ 6) :
    ∀ f ∈ [Csr.AZL_BUNDLE_REPAIR_TX b, Csr.AZL_BUNDLE_REPAIR_TX_V b, Csr.AZL_BUNDLE_REPAIR_RX b, Csr.AZL_BUNDLE_REPAIR_RX_V b],
      Separate f (bundleFld k l w) := by
  have hsep {l' w' : Nat} (hl : 6 ≤ l') (hw' : 0 < w') (hlw' : l' + w' ≤ 32) : Separate (bundleFld b l' w') (bundleFld k l w) :=
    bundleFlds_separate hb hk hw' hlw' hw (by omega) (.inr (.inl (by omega)))
  simp only [List.mem_cons, List.not_mem_nil, or_false, forall_eq_or_imp, forall_eq]
  exact ⟨hsep (by decide) (by decide) (by decide), hsep (by decide) (by decide) (by decide), hsep (by decide) (by decide) (by decide),
    hsep (by decide) (by decide) (by decide)⟩

theorem repairsKept_lowFld {k l w : Nat} (hk : k < 80) (hw : 0 < w) (hlw : l + w ≤ 6) (x : Nat) :
    (repairsKept s b nt nr p).field x (bundleFld k l w) = p.field x (bundleFld k l w) :=
  repairsKept_field s b nt nr p (bundleFld_faultsLeave hk hw (by omega)) (by rw [bundleFld_place hw (by omega)])
    (repairs_separate_low hb hk hw hlw) x

theorem repairsKept_azState {k : Nat} (hk : k < 80) (x : Nat) : (repairsKept s b nt nr p).azState x k = p.azState x k :=
  repairsKept_lowFld s nt nr p hb hk (by decide) (by decide) x

theorem repairsKept_latency : (repairsKept s b nt nr p).latency s b = p.latency s b :=
  latency_of_field (repairsKept_lowFld s nt nr p hb hb (by decide) (by decide) s)

theorem repairsKept_statusFld {g : Fld} (hg : g ∈ [Csr.AZL_STATUS_CUT, Csr.AZL_STATUS_TIED]) (x : Nat) :
    (repairsKept s b nt nr p).field x g = p.field x g := by
  have hfld : ∀ g ∈ [Csr.AZL_STATUS_CUT, Csr.AZL_STATUS_TIED], BelowBundles g ∧ g.place.2.2 = 1 := by decide
  obtain ⟨hbelow, hword⟩ := hfld g hg
  have hmem : g ∈ [Csr.AZL_STATUS_CUT, Csr.AZL_STATUS_TIED, Csr.AZL_CTRL_TIE_MASK] := List.mem_append_left [_] hg
  exact repairsKept_field s b nt nr p (edgeFlds_faultsLeave g hmem) hword (repairs_separate_below hb hbelow) x

/-- What the repair map shows of the wires that fail (R330). -/
theorem repairsKept_shows :
    (∀ w l, nt = w :: l → (repairsKept s b nt nr p).isSet s (Csr.AZL_BUNDLE_REPAIR_TX_V b) = true
        ∧ (repairsKept s b nt nr p).field s (Csr.AZL_BUNDLE_REPAIR_TX b) = w % 2 ^ (Csr.AZL_BUNDLE_REPAIR_TX b).width)
      ∧ ∀ w l, nr = w :: l → (repairsKept s b nt nr p).isSet s (Csr.AZL_BUNDLE_REPAIR_RX_V b) = true
        ∧ (repairsKept s b nt nr p).field s (Csr.AZL_BUNDLE_REPAIR_RX b) = w % 2 ^ (Csr.AZL_BUNDLE_REPAIR_RX b).width := by
  have hleft {l w : Nat} (hw : 0 < w) (hlw : l + w ≤ 32) (q : Panel) (c : Bool) :
      (q.raiseIf c s 0x0A04).field s (bundleFld b l w) = q.field s (bundleFld b l w) :=
    raiseIf_field_left (bundleFld_faultsLeave hb hw hlw) q s rfl s c
  have hset {l w : Nat} (hw : 0 < w) (hlw : l + w ≤ 32) (q : Panel) (c : Bool) :
      (q.raiseIf c s 0x0A04).isSet s (bundleFld b l w) = q.isSet s (bundleFld b l w) := by
    unfold Panel.isSet
    rw [hleft hw hlw]
  have hsep {l w l' w' : Nat} (hw : 0 < w) (hlw : l + w ≤ 32) (hw' : 0 < w') (hlw' : l' + w' ≤ 32) (h : l' + w' ≤ l) :
      Separate (bundleFld b l w) (bundleFld b l' w') := bundleFlds_separate hb hb hw hlw hw' hlw' (.inr (.inl h))
  have hrx {l w : Nat} (hw : 0 < w) (hlw : l + w ≤ 12) (q : Panel) :
      (repairKept s (Csr.AZL_BUNDLE_REPAIR_RX b) (Csr.AZL_BUNDLE_REPAIR_RX_V b) nr q).field s (bundleFld b l w)
        = q.field s (bundleFld b l w) :=
    repairKept_field s nr q (hsep (by decide) (by decide) hw (by omega) hlw)
      (hsep (by decide) (by decide) hw (by omega) (by omega)) (by rw [bundleFld_place hw (by omega)]) s
  refine ⟨fun w l hnt => ?_, fun w l hnr => ?_⟩
  · subst hnt
    obtain ⟨hv, hwire⟩ := repairKept_cons s l p (fw := Csr.AZL_BUNDLE_REPAIR_TX b) (fv := Csr.AZL_BUNDLE_REPAIR_TX_V b)
      (bundleFld_fits hb (by decide)) (bundleFld_fits hb (by decide)) (Nat.succ_pos 0)
      (hsep (by decide) (by decide) (by decide) (by decide) (by decide)) w
    refine ⟨(hset (by decide) (by decide) _ _).trans (Eq.trans ?_ hv), (hleft (by decide) (by decide) _ _).trans
      ((hrx (by decide) (by decide) _).trans hwire)⟩
    exact congrArg (· != 0) (hrx (by decide) (by decide) _)
  · subst hnr
    obtain ⟨hv, hwire⟩ := repairKept_cons s l
      (repairKept s (Csr.AZL_BUNDLE_REPAIR_TX b) (Csr.AZL_BUNDLE_REPAIR_TX_V b) nt p) (fw := Csr.AZL_BUNDLE_REPAIR_RX b)
      (fv := Csr.AZL_BUNDLE_REPAIR_RX_V b) (bundleFld_fits hb (by decide)) (bundleFld_fits hb (by decide)) (Nat.succ_pos 0)
      (hsep (by decide) (by decide) (by decide) (by decide) (by decide)) w
    exact ⟨(hset (by decide) (by decide) _ _).trans hv, (hleft (by decide) (by decide) _ _).trans hwire⟩

end

/-! ### A bundle that is bad for this boot -/

theorem badThisBoot_csr (p : Panel) (s u : Nat) : (p.badThisBoot s u).csr = p.csr := by
  unfold Panel.badThisBoot
  split <;> rfl

theorem mem_bootBad_badThisBoot (p : Panel) (s u : Nat) : (s, u) ∈ (p.badThisBoot s u).plan.bootBad := by
  unfold Panel.badThisBoot
  split
  next h => exact List.contains_iff_mem.1 h
  next => exact List.mem_append_right _ (List.mem_singleton.2 rfl)

theorem wireBad_shows (p : Panel) {s b : Nat} (hb : b < 80) : (wireBad s b p).azState s b = azBad
    ∧ (s, 64 + b) ∈ (wireBad s b p).plan.bootBad ∧ (wireBad s b p).field s Csr.BST_FAULT = 0x0E0E := by
  refine ⟨?_, ?_, raise_field_faultReg _ _ _ rfl (by decide)⟩
  · refine (raise_field_left (bundleFld_faultsLeave hb (by decide) (by decide)) _ _ rfl s).trans
      ((field_of_csr (badThisBoot_csr _ _ _) _ _).trans (azState_setState p s hb (by decide)))
  · unfold wireBad
    rw [raise_plan]
    exact mem_bootBad_badThisBoot _ _ _

/-! ### Training (R330) -/

/-- A bundle end comes up after its wires are repaired (R330 steps 5 and 6). -/
def comesUpFresh (s b : Nat) (p : Panel) : Panel :=
  let p := (p.freshBundle s b).setField s (Csr.AZL_BUNDLE_ROLE b) (p.rigRole s b)
  (p.setField s (Csr.AZL_BUNDLE_STATE b) (if p.edgeTied s (faceOf b) then azTied else azUp)).tellPeer s b

section
variable {p : Panel} {s b : Nat} {tx rx : List Nat}

theorem trainBundle_bad (h : p.azState s b = azBad ∨ p.unitState s (64 + b) = .bad) :
    p.trainBundle s b tx rx = p.setField s (Csr.AZL_BUNDLE_STATE b) azBad :=
  if_pos (by simpa using h)

theorem trainBundle_good (h : p.azState s b ≠ azBad) (hu : p.unitState s (64 + b) ≠ .bad) : p.trainBundle s b tx rx
    = if (p.repairWires s b tx rx).azState s b = azBad then p.repairWires s b tx rx
      else comesUpFresh s b (p.repairWires s b tx rx) :=
  if_neg (by simp [h, hu])

theorem trainBundle_fit (hb : b < 80) (h : p.azState s b ≠ azBad) (hu : p.unitState s (64 + b) ≠ .bad)
    (hfit : WiresFit p s b tx rx) :
    p.trainBundle s b tx rx = comesUpFresh s b (repairsKept s b (newTx p s b tx) (newRx p s b rx) p) := by
  rw [trainBundle_good h hu, repairWires_fit hfit]
  exact if_neg (by rwa [repairsKept_azState s _ _ p hb hb])

/-- Coming up leaves a field that is separate from the bundle's state and role. -/
theorem comesUpFresh_field {g : Fld} (hstate : Separate (Csr.AZL_BUNDLE_STATE b) g) (hrole : Separate (Csr.AZL_BUNDLE_ROLE b) g)
    (hword : g.place.2.2 = 1) (x : Nat) : (comesUpFresh s b p).field x g = p.field x g := by
  unfold comesUpFresh
  rw [told_field (told_tellPeer _ _ _), field_setField_everywhere hstate hword, field_setField_everywhere hrole hword,
    freshBundle_field]

theorem comesUpFresh_writes : (comesUpFresh s b p).writes = p.writes := by
  unfold comesUpFresh
  rw [told_writes (told_tellPeer _ _ _), setField_writes, setField_writes]
  rfl

theorem comesUpFresh_latency (hb : b < 80) : (comesUpFresh s b p).latency s b = p.latency s b := by
  have hstate : Separate (Csr.AZL_BUNDLE_STATE b) (Csr.AZL_BUNDLE_PROFILE b) :=
    bundleFlds_separate hb hb (by decide) (by decide) (by decide) (by decide) (.inr (.inr (by decide)))
  have hrole : Separate (Csr.AZL_BUNDLE_ROLE b) (Csr.AZL_BUNDLE_PROFILE b) :=
    bundleFlds_separate hb hb (by decide) (by decide) (by decide) (by decide) (.inr (.inl (by decide)))
  exact latency_of_field (comesUpFresh_field hstate hrole (by rw [profile_place]) s)

/-- A bundle end that comes up is up, or tied at a tied edge, with fresh counters. -/
theorem comesUpFresh_shows (hb : b < 80) :
    (comesUpFresh s b p).azState s b = (if p.edgeTied s (faceOf b) then azTied else azUp)
      ∧ ((comesUpFresh s b p).bundle s b).rxSeq = 511 ∧ ((comesUpFresh s b p).bundle s b).replay = [] := by
  have htied : ((p.freshBundle s b).setField s (Csr.AZL_BUNDLE_ROLE b) (p.rigRole s b)).edgeTied s (faceOf b)
      = p.edgeTied s (faceOf b) := by
    have hsep : Separate (Csr.AZL_BUNDLE_ROLE b) Csr.AZL_STATUS_TIED :=
      (bundleFld_separate_below hb (by decide) (by decide) (by decide)).1
    unfold Panel.edgeTied
    rw [field_setField_separate hsep, freshBundle_field]
  obtain ⟨hseq, hempty⟩ := freshBundle_fresh p s b
  unfold comesUpFresh
  simp only [htied]
  refine ⟨?_, ?_, ?_⟩
  · refine (told_field (told_tellPeer _ _ _) _ _).trans (azState_setState _ s hb ?_)
    split <;> decide
  · rw [told_rxSeq (told_tellPeer _ _ _), setField_bundle, setField_bundle, hseq]
  · rw [told_replay (told_tellPeer _ _ _), setField_bundle, setField_bundle, hempty]

end

/-! ### A retrain that ends (R326) -/

section
variable (p : Panel) (s b : Nat)

theorem traceRegion_lt {n : Nat} (h : p.traceRegion s b = some n) : n < 16 := by
  unfold Panel.traceRegion at h
  obtain ⟨t, -, rfl⟩ := Option.map_eq_some_iff.1 h
  exact field_lt _ _ _

theorem raised_retrainNote : Raised p (p.retrainNote s b) := by
  unfold Panel.retrainNote
  split
  · exact raised_raise _ _ _
  · exact raised_raiseFor _ _ _ _ _ _ _
  · exact raised_raise _ _ _

theorem retrainNote_field {g : Fld} (hg : FaultsLeave g) (x : Nat) : (p.retrainNote s b).field x g = p.field x g := by
  unfold Panel.retrainNote
  split
  · exact raise_field_left hg _ _ rfl x
  · exact raiseFor_field_left hg _ _ rfl x _ (fun _ => traceRegion_lt p s b) _ _
  · exact raise_field_left hg _ _ rfl x

theorem retrainNote_bundleFld {k l w : Nat} (hk : k < 80) (hw : 0 < w) (hlw : l + w ≤ 32) :
    (p.retrainNote s b).field s (bundleFld k l w) = p.field s (bundleFld k l w) :=
  retrainNote_field p s b (bundleFld_faultsLeave hk hw hlw) s

theorem raiseFor_primary (site code : Nat) (sev : Severity) (reg : Option Nat) (cluster detail : Nat) :
    (p.raiseFor site code sev reg cluster detail).boot.primary = p.boot.primary := by
  rw [raiseFor_boot]
  split <;> rfl

/-- Panel time is read as before the note. -/
theorem retrainNote_now : (p.retrainNote s b).now = p.now := by
  have hprimary : (p.retrainNote s b).boot.primary = p.boot.primary := by
    unfold Panel.retrainNote
    split <;> exact raiseFor_primary ..
  unfold Panel.now
  rw [hprimary, raised_dieTime (raised_retrainNote p s b)]

variable {b} (hb : b < 80)
include hb

theorem retrainNote_azState : (p.retrainNote s b).azState s b = p.azState s b :=
  retrainNote_bundleFld p s b hb (by decide) (by decide)

theorem retrainNote_latency : (p.retrainNote s b).latency s b = p.latency s b :=
  latency_of_field (retrainNote_bundleFld p s b hb (by decide) (by decide))

theorem retrainNote_wiresFit (tx rx : List Nat) : WiresFit (p.retrainNote s b) s b tx rx ↔ WiresFit p s b tx rx := by
  have htx : (p.retrainNote s b).field s (Csr.AZL_BUNDLE_REPAIR_TX b) = p.field s (Csr.AZL_BUNDLE_REPAIR_TX b) :=
    retrainNote_bundleFld p s b hb (by decide) (by decide)
  have htxV : (p.retrainNote s b).field s (Csr.AZL_BUNDLE_REPAIR_TX_V b) = p.field s (Csr.AZL_BUNDLE_REPAIR_TX_V b) :=
    retrainNote_bundleFld p s b hb (by decide) (by decide)
  have hrx : (p.retrainNote s b).field s (Csr.AZL_BUNDLE_REPAIR_RX b) = p.field s (Csr.AZL_BUNDLE_REPAIR_RX b) :=
    retrainNote_bundleFld p s b hb (by decide) (by decide)
  have hrxV : (p.retrainNote s b).field s (Csr.AZL_BUNDLE_REPAIR_RX_V b) = p.field s (Csr.AZL_BUNDLE_REPAIR_RX_V b) :=
    retrainNote_bundleFld p s b hb (by decide) (by decide)
  unfold WiresFit newTx newRx Panel.isSet
  rw [htx, htxV, hrx, hrxV]

end

/-- `q` shows a bundle of `p` that has trained: up, or tied at a tied edge, with fresh counters and no write under way. -/
def TrainedUp (s b : Nat) (p q : Panel) : Prop :=
  q.azState s b = (if p.edgeTied s (faceOf b) then azTied else azUp)
    ∧ (q.bundle s b).rxSeq = 511 ∧ (q.bundle s b).replay = [] ∧ q.writes = p.writes

section
variable {p : Panel} {s b raw : Nat} {tx rx : List Nat}

/-- CLK_XING shows the latency of a crossing (R76). -/
def crossingShown (s b raw : Nat) (p : Panel) : Panel :=
  let p := p.modClock s fun c => { c with raw := SMap.set (fun _ => 0) c.raw b raw }
  let p := p.setField s (Csr.CLK_XING_LAT (b / 16)) (p.latency s b)
  p.setField s (Csr.CLK_XING_RAW (b / 16))
    (((faceBundles (b / 16)).map fun x => min 31 (SMap.get (fun _ => 0) (p.clock s).raw x)).foldl max 0)

theorem crossingShown_bundleFld (hb : b < 64) {l w : Nat} (hw : 0 < w) (hlw : l + w ≤ 32) :
    (crossingShown s b raw p).field s (bundleFld b l w) = p.field s (bundleFld b l w) := by
  have hxing : ∀ e < 4, BelowBundles (Csr.CLK_XING_LAT e) ∧ BelowBundles (Csr.CLK_XING_RAW e) := by decide
  obtain ⟨hlat, hraw⟩ := hxing (b / 16) (by omega)
  unfold crossingShown
  simp only
  rw [field_setField_separate (bundleFld_separate_below (by omega) hw hlw hraw).2,
    field_setField_separate (bundleFld_separate_below (by omega) hw hlw hlat).2, modClock_field]

theorem crossingShown_azState (hb : b < 64) : (crossingShown s b raw p).azState s b = p.azState s b :=
  crossingShown_bundleFld hb (by decide) (by decide)

theorem crossingShown_latency (hb : b < 64) : (crossingShown s b raw p).latency s b = p.latency s b :=
  latency_of_field (crossingShown_bundleFld hb (by decide) (by decide))

theorem crossingShown_bundle : (crossingShown s b raw p).bundle s b = p.bundle s b :=
  (setField_bundle _ _ _ _ _ _).trans (setField_bundle _ _ _ _ _ _)

theorem crossingShown_writes : (crossingShown s b raw p).writes = p.writes := by
  unfold crossingShown
  rw [setField_writes, setField_writes, modClock_writes]

/-- A crossing whose raw latency leaves a cycle of its registered one is registered: CLK_XING alone shows it (R76). -/
theorem registerBundle_fits (hb : b < 64) (hraw : raw + 1 ≤ p.latency s b) : p.registerBundle s b raw = crossingShown s b raw p :=
  if_pos (hraw.trans_eq (crossingShown_latency hb).symm)

theorem trainedUp_crossingShown {q : Panel} (hb : b < 64) (h : TrainedUp s b p q) : TrainedUp s b p (crossingShown s b raw q) := by
  obtain ⟨hstate, hseq, hempty, hwrites⟩ := h
  exact ⟨(crossingShown_azState hb).trans hstate, by rw [crossingShown_bundle, hseq], by rw [crossingShown_bundle, hempty],
    crossingShown_writes.trans hwrites⟩

/-- The training of a bundle in training, after its retrain is noted. -/
theorem trainBundle_noted (hb : b < 80) (hstate : p.azState s b = azTraining) (hu : p.unitState s (64 + b) ≠ .bad)
    (hfit : WiresFit p s b tx rx) : TrainedUp s b p ((p.retrainNote s b).trainBundle s b tx rx)
      ∧ ((p.retrainNote s b).trainBundle s b tx rx).latency s b = p.latency s b := by
  have hnote := raised_retrainNote p s b
  have hgood : (p.retrainNote s b).azState s b ≠ azBad := by
    rw [retrainNote_azState p s hb, hstate]
    decide
  rw [trainBundle_fit hb hgood (by rwa [raised_unitState hnote]) ((retrainNote_wiresFit p s hb tx rx).2 hfit)]
  obtain ⟨hup, hseq, hempty⟩ := comesUpFresh_shows (s := s) (b := b) (p := repairsKept s b
    (newTx (p.retrainNote s b) s b tx) (newRx (p.retrainNote s b) s b rx) (p.retrainNote s b)) hb
  refine ⟨⟨hup.trans ?_, hseq, hempty, ?_⟩, ?_⟩
  · unfold Panel.edgeTied
    rw [repairsKept_statusFld s _ _ _ hb (by simp), retrainNote_field p s b (edgeFlds_faultsLeave _ (by simp))]
  · rw [comesUpFresh_writes, raised_writes (raised_repairsKept ..), raised_writes hnote]
  · rw [comesUpFresh_latency hb, repairsKept_latency s _ _ _ hb, retrainNote_latency p s hb]

/-- A training that ends well leaves its bundle up, and a mesh bundle registered (R76, R326). -/
theorem retrained_up (hb : b < 64) (hstate : p.azState s b = azTraining) (hu : p.unitState s (64 + b) ≠ .bad)
    (hfit : WiresFit p s b tx rx) (hraw : p.rigRole s b = 1 → raw + 1 ≤ p.latency s b) :
    TrainedUp s b p (p.retrained s b true tx rx raw) := by
  obtain ⟨hup, hlatency⟩ := trainBundle_noted (by omega) hstate hu hfit
  unfold Panel.retrained
  simp only [if_true]
  revert hup hlatency
  generalize (p.retrainNote s b).trainBundle s b tx rx = q
  intro hup hlatency
  have hgood : q.azState s b ≠ azBad := by
    rw [hup.1]
    split <;> decide
  rw [if_neg hgood]
  split
  next hrole =>
    have hfits : raw + 1 ≤ q.latency s b := hlatency ▸ hraw hrole
    rw [registerBundle_fits hb hfits, if_pos (hfits.trans_eq (crossingShown_latency hb).symm)]
    exact trainedUp_crossingShown hb hup
  next => exact hup

/-- The retrains that have failed within the last second, with one that fails now. -/
def failedRetrains (p : Panel) (s b : Nat) : List Nat :=
  ((p.bundle s b).retrainAt.filter fun t => p.now < t + 1250000000) ++ [p.now]

/-- A retrain that fails is noted, until the third within a second. -/
theorem retrained_fails (hb : b < 64) (h : (failedRetrains p s b).length < 3) :
    ((p.retrained s b false tx rx raw).bundle s b).retrainAt = failedRetrains p s b
      ∧ (p.retrained s b false tx rx raw).azState s b = p.azState s b ∧ (p.retrained s b false tx rx raw).writes = p.writes := by
  have hnote := raised_retrainNote p s b
  have hfails : failedRetrains (p.retrainNote s b) s b = failedRetrains p s b := by
    unfold failedRetrains
    rw [raised_bundle hnote, retrainNote_now]
  have hretrained : p.retrained s b false tx rx raw
      = (p.retrainNote s b).modBundle s b fun x => { x with retrainAt := failedRetrains (p.retrainNote s b) s b } := by
    unfold Panel.retrained
    simp only [Bool.false_eq_true, if_false]
    exact if_pos (by rw [← hfails] at h; exact h)
  rw [hretrained, hfails, modBundle_same]
  exact ⟨rfl, (modBundle_field ..).trans (retrainNote_azState p s (by omega)), (modBundle_writes ..).trans (raised_writes hnote)⟩

end

end Sys2Proof.Proofs
end

section
/-! SUPPORT. A cut edge that rejoins (R328 to R330, R334), and ties (R331). -/

namespace Sys2Proof.Proofs

open Sys2Proof.Machine Sys2Proof.Laws

/-! ### The die beyond a face -/

theorem faceIndex_le (c s e : Nat) : faceIndex c s e ≤ 4 := by
  refine (List.findIdx_le_length).trans ?_
  unfold cornerFaces
  split <;> decide

theorem beyond_face_le (s e : Nat) : (beyond s e).2 ≤ 4 := by
  unfold beyond
  split
  · simp only
    split
    · exact Nat.zero_le _
    · exact faceIndex_le _ _ _
  · split <;> simp

theorem cornerFaces_face_le (s : Nat) : ∀ f ∈ cornerFaces s, f.2 ≤ 4 := by
  unfold cornerFaces
  split <;> decide

theorem facing_face_le (s e : Nat) : (facing s e).2 ≤ 4 := by
  unfold facing
  split
  · exact beyond_face_le s e
  · split
    · unfold edgeDieNeighbour edgeSide
      omega
    · unfold nth
      cases h : (cornerFaces s)[e]? with
      | none => exact Nat.zero_le _
      | some f => exact cornerFaces_face_le s f (List.mem_of_getElem? h)

theorem farBundle_lt (s b : Nat) : (farBundle s b).2 < 80 := by
  have hback (e : Nat) : (if edgeDie (facing s e).1 then 0 else (facing s e).2) ≤ 4 := by
    split
    · exact Nat.zero_le _
    · exact facing_face_le s e
  have := hback (if edgeDie s then 0 else b / 16)
  unfold farBundle
  simp only
  omega

/-! ### What cuts nothing -/

/-- `q` has every edge cut that `p` has and no other, and no bundle cut that is not cut in `p`. -/
def CutsNothing (p q : Panel) : Prop :=
  (∀ x, q.field x Csr.AZL_STATUS_CUT = p.field x Csr.AZL_STATUS_CUT)
    ∧ ∀ x k, k < 64 → p.azState x k ≠ azCut → q.azState x k ≠ azCut

theorem cutsNothing_refl (p : Panel) : CutsNothing p p := ⟨fun _ => rfl, fun _ _ _ h => h⟩

theorem cutsNothing_trans {p q r : Panel} (h : CutsNothing p q) (h' : CutsNothing q r) : CutsNothing p r :=
  ⟨fun x => (h'.1 x).trans (h.1 x), fun x k hk hp => h'.2 x k hk (h.2 x k hk hp)⟩

theorem cutsNothing_each {α : Type} (l : List α) {f : Panel → α → Panel} (h : ∀ p, ∀ x ∈ l, CutsNothing p (f p x))
    (p : Panel) : CutsNothing p (p.each l f) := by
  unfold Panel.each
  exact List.foldlRecOn (motive := CutsNothing p) _ _ (cutsNothing_refl p) fun q hq x hx => cutsNothing_trans hq (h q x hx)

theorem cutsNothing_ite {c : Prop} [Decidable c] {p q r : Panel} (hq : CutsNothing p q) (hr : CutsNothing p r) :
    CutsNothing p (if c then q else r) := by
  split
  · exact hq
  · exact hr

theorem cutsNothing_of_fields {p q : Panel} (hcut : ∀ x, q.field x Csr.AZL_STATUS_CUT = p.field x Csr.AZL_STATUS_CUT)
    (hstate : ∀ x k, k < 64 → q.azState x k = p.azState x k) : CutsNothing p q :=
  ⟨hcut, fun x k hk h => by rwa [hstate x k hk]⟩

theorem cutsNothing_of_csr {p q : Panel} (h : q.csr = p.csr) : CutsNothing p q :=
  cutsNothing_of_fields (fun x => field_of_csr h x _) fun x _ _ => field_of_csr h x _

theorem state_word (k : Nat) : (Csr.AZL_BUNDLE_STATE k).place.2.2 = 1 :=
  (congrArg (fun x => x.2.2) (bundleFld_place (k := k) (l := 0) (w := 3) (by decide) (by decide)) :)

theorem cutsNothing_setField (p : Panel) (s : Nat) {f : Fld} (hcut : Separate f Csr.AZL_STATUS_CUT)
    (hstate : ∀ k < 64, Separate f (Csr.AZL_BUNDLE_STATE k)) (v : Nat) : CutsNothing p (p.setField s f v) :=
  cutsNothing_of_fields (fun x => field_setField_everywhere hcut (by decide) p s v x)
    fun x k hk => field_setField_everywhere (hstate k hk) (state_word k) p s v x

/-- A field of AZL_STATUS or below AZL_BUNDLE beside the cuts. -/
theorem cutsNothing_setBelow (p : Panel) (s : Nat) {f : Fld} (hcut : Separate f Csr.AZL_STATUS_CUT) (hbelow : BelowBundles f) (v : Nat) :
    CutsNothing p (p.setField s f v) :=
  cutsNothing_setField p s hcut (fun _ hk => (bundleFld_separate_below (by omega) (by decide) (by decide) hbelow).2) v

/-- A field of AZL_BUNDLE above its state. -/
theorem cutsNothing_setHigh (p : Panel) (s : Nat) {j l w : Nat} (hj : j < 80) (hl : 3 ≤ l) (hw : 0 < w) (hlw : l + w ≤ 32) (v : Nat) :
    CutsNothing p (p.setField s (bundleFld j l w) v) :=
  cutsNothing_setField p s (bundleFld_separate_below hj hw hlw (by decide)).1
    (fun _ hk => bundleFlds_separate hj (by omega) hw hlw (by decide) (by decide) (.inr (.inl hl))) v

/-- A bundle that takes another state than cut, at this die or beyond it. -/
theorem cutsNothing_setState (p : Panel) (s : Nat) {j v : Nat} (hj : j < 80) (hv : v < 2 ^ 3) (hne : v ≠ azCut) :
    CutsNothing p (p.setField s (Csr.AZL_BUNDLE_STATE j) v) := by
  have hcut : Separate (Csr.AZL_BUNDLE_STATE j) Csr.AZL_STATUS_CUT :=
    (bundleFld_separate_below hj (by decide) (by decide) (by decide)).1
  refine ⟨fun x => field_setField_everywhere hcut (by decide) p s v x, fun x k hk h => ?_⟩
  unfold Panel.azState at h ⊢
  by_cases hkj : j = k
  · subst hkj
    rcases field_setField_site p s (Csr.AZL_BUNDLE_STATE j) v x (state_word j) rfl rfl with hkept | hshared
    · rwa [hkept]
    · rw [hshared]
      exact (azState_setState p s hj hv).trans_ne hne
  · rwa [field_setField_everywhere (state_separate_state hj (by omega) hkj) (state_word k)]

theorem cutsNothing_raise (p : Panel) (s : Nat) {code : Nat} {f : Fld} (hf : faultReg code = some f) : CutsNothing p (p.raise s code) :=
  cutsNothing_of_fields (fun x => raise_field_left (edgeFlds_faultsLeave _ (by simp)) p s hf x)
    fun x _ hk => raise_field_left (bundleFld_faultsLeave (by omega) (by decide) (by decide)) p s hf x

theorem cutsNothing_raiseIf (p : Panel) (c : Bool) (s : Nat) {code : Nat} {f : Fld} (hf : faultReg code = some f) :
    CutsNothing p (p.raiseIf c s code) := cutsNothing_ite (cutsNothing_raise p s hf) (cutsNothing_refl p)

/-! ### Descriptors (R328, R329) -/

theorem untestedEdge_csr (p : Panel) (s e : Nat) : (p.untestedEdge s e).csr = p.csr :=
  each_keeps (·.csr) _ (fun _ _ _ => by split <;> rfl) p

theorem sendDescriptor_csr (p : Panel) (s e : Nat) : (p.sendDescriptor s e).csr = p.csr := rfl

theorem cutsNothing_peerRefused (p : Panel) (s e : Nat) : CutsNothing p (peerRefused s e p) :=
  cutsNothing_trans (cutsNothing_trans (cutsNothing_setBelow p s (f := Csr.AZL_STATUS_PEER_OK) (by decide) (by decide) _)
    (cutsNothing_of_csr (untestedEdge_csr _ _ _))) (cutsNothing_raise _ _ rfl)

/-- A descriptor is refused, or names the neighbour. -/
theorem descriptor_eq (p : Panel) (s e : Nat) (d : List Byte) (crcOk : Bool) : p.descriptor s e d crcOk
    = if !crcOk || d.length < 40 || descProfiles d % 4 = 0 || (isGuest d && !edgeDie (facing s e).1) then peerRefused s e p
      else (profiled s e (2 ≤ descProfiles d % 4) (peerNamed s e d p)).raiseIf (!decide (2 ≤ descProfiles d % 4)) s 0x0A05 := rfl

/-- A die whose logic has power sends its descriptor. -/
def descriptorSent (s e : Nat) (p : Panel) : Panel := if p.lives s then p.sendDescriptor s e else p

/-- A die whose logic has power takes the descriptor of the die beyond, or misses it. -/
def descriptorTaken (s e far : Nat) (p : Panel) : Panel :=
  if p.lives s then p.descriptor s e (if p.lives far then p.ownDescriptor far else []) (p.lives far) else p

theorem exchange_eq (p : Panel) (s e : Nat) : p.exchange s e
    = descriptorTaken (facing s e).1 (facing s e).2 s (descriptorTaken s e (facing s e).1
        (descriptorSent (facing s e).1 (facing s e).2 (descriptorSent s e p))) := rfl

theorem cutsNothing_descriptorSent (p : Panel) (s e : Nat) : CutsNothing p (descriptorSent s e p) :=
  cutsNothing_ite (cutsNothing_of_csr (sendDescriptor_csr p s e)) (cutsNothing_refl p)

section
variable {s e : Nat} (he : e ≤ 4) (p : Panel)
include he

theorem mem_faceBundles_lt_far {k : Nat} (hk : k ∈ faceBundles e) : k < 80 := by
  have := mem_faceBundles_div hk
  omega

theorem cutsNothing_peerNamed (d : List Byte) : CutsNothing p (peerNamed s e d p) := by
  have hcap : ∀ e ≤ 4, Separate (Csr.AZL_CAP_PEER e) Csr.AZL_STATUS_CUT ∧ BelowBundles (Csr.AZL_CAP_PEER e) := by decide
  obtain ⟨hcut, hbelow⟩ := hcap e he
  exact cutsNothing_trans (cutsNothing_trans (cutsNothing_setBelow p s hcut hbelow _) (cutsNothing_setBelow _ s (by decide) (by decide) _))
    (cutsNothing_setBelow _ s (by decide) (by decide) _)

theorem cutsNothing_profiled (fast : Bool) : CutsNothing p (profiled s e fast p) :=
  cutsNothing_each _ (fun q _ hk => cutsNothing_setHigh q s (mem_faceBundles_lt_far he hk) (by decide) (by decide) (by decide) _) p

theorem cutsNothing_descriptor (d : List Byte) (crcOk : Bool) : CutsNothing p (p.descriptor s e d crcOk) := by
  rw [descriptor_eq]
  exact cutsNothing_ite (cutsNothing_peerRefused p s e) (cutsNothing_trans (cutsNothing_trans (cutsNothing_peerNamed he p d)
    (cutsNothing_profiled he _ _)) (cutsNothing_raiseIf _ _ _ rfl))

theorem cutsNothing_descriptorTaken (far : Nat) : CutsNothing p (descriptorTaken s e far p) :=
  cutsNothing_ite (cutsNothing_descriptor he p _ _) (cutsNothing_refl p)

theorem cutsNothing_exchange : CutsNothing p (p.exchange s e) := by
  rw [exchange_eq]
  exact cutsNothing_trans (cutsNothing_trans (cutsNothing_trans (cutsNothing_descriptorSent _ _ _) (cutsNothing_descriptorSent _ _ _))
    (cutsNothing_descriptorTaken he _ _)) (cutsNothing_descriptorTaken (facing_face_le s e) _ _)

end

/-! ### Training cuts nothing -/

section
variable (p : Panel) (s : Nat) {b : Nat} (hb : b < 80)
include hb

theorem cutsNothing_repairsKept (nt nr : List Nat) : CutsNothing p (repairsKept s b nt nr p) :=
  cutsNothing_of_fields (fun x => repairsKept_statusFld s nt nr p hb (by simp) x)
    fun x _ hk => repairsKept_azState s nt nr p hb (by omega) x

theorem cutsNothing_wireBad : CutsNothing p (wireBad s b p) :=
  cutsNothing_trans (cutsNothing_trans (cutsNothing_setState p s hb (by decide) (by decide)) (cutsNothing_of_csr (badThisBoot_csr _ _ _)))
    (cutsNothing_raise _ _ rfl)

theorem cutsNothing_repairWires (tx rx : List Nat) : CutsNothing p (p.repairWires s b tx rx) := by
  by_cases h : WiresFit p s b tx rx
  · rw [repairWires_fit h]
    exact cutsNothing_repairsKept p s hb _ _
  · rw [repairWires_unfit h]
    exact cutsNothing_wireBad p s hb

theorem cutsNothing_comesUpFresh : CutsNothing p (comesUpFresh s b p) := by
  unfold comesUpFresh
  refine cutsNothing_trans (cutsNothing_trans (cutsNothing_trans (cutsNothing_of_csr (freshBundle_csr p s b))
    (cutsNothing_setHigh _ s hb (by decide) (by decide) (by decide) _)) (cutsNothing_setState _ s hb ?_ ?_))
    (cutsNothing_of_csr (told_csr (told_tellPeer _ _ _)))
  · split <;> decide
  · split <;> decide

theorem cutsNothing_trainBundle (tx rx : List Nat) : CutsNothing p (p.trainBundle s b tx rx) := by
  by_cases h : p.azState s b = azBad ∨ p.unitState s (64 + b) = .bad
  · rw [trainBundle_bad h]
    exact cutsNothing_setState p s hb (by decide) (by decide)
  · obtain ⟨hstate, hunit⟩ := not_or.1 h
    rw [trainBundle_good hstate hunit]
    have hrepaired := cutsNothing_repairWires p s hb tx rx
    exact cutsNothing_ite hrepaired (cutsNothing_trans hrepaired (cutsNothing_comesUpFresh _ s hb))

end

/-! ### A cut edge that rejoins (R334) -/

section
variable {p : Panel} {s e : Nat} {wires : List (Nat × Nat)}

theorem rejoinEdge_stays (h : p.edgeCut s e = false ∨ p.routes s = false) : p.rejoinEdge s e wires = p :=
  if_pos (by simpa using h)

/-- An edge that is no longer cut, its bundles down, before it trains. -/
def reopened (s e : Nat) (p : Panel) : Panel :=
  (p.setField s Csr.AZL_STATUS_CUT (putBits (p.field s Csr.AZL_STATUS_CUT) e 1 (flag false))).each (faceBundles e) fun p b =>
    p.setField s (Csr.AZL_BUNDLE_STATE b) azDown

theorem reopened_open (he : e < 4) :
    (reopened s e p).edgeCut s e = false ∧ ∀ k ∈ faceBundles e, (reopened s e p).azState s k = azDown := by
  have hlt {k : Nat} (hk : k ∈ faceBundles e) : k < 80 := mem_faceBundles_lt_far he.le hk
  refine ⟨?_, each_settles (fun k q => q.azState s k = azDown) _ (fun q k hk => azState_setState q s (hlt hk) (by decide))
    (fun q k hk j hj hkj hq => (azState_setState_other q s (hlt hj) (hlt hk) hkj.symm).trans hq) _⟩
  exact (each_keeps (·.edgeCut s e) _ (fun q b hb => edgeCut_setState q s (hlt hb) e) _).trans
    (bitOf_field_putBit p s (by unfold FldFits; decide) he _ false)

/-- The bundles of an edge train at both ends, with the receive wires that fail. -/
def edgeTrained (s e : Nat) (wires : List (Nat × Nat)) (p : Panel) : Panel :=
  p.each (faceBundles e) fun p b =>
    let failed := (wires.filter fun x => x.1 = b).map (·.2)
    (p.trainBundle s b [] failed).trainBundle (farBundle s b).1 (farBundle s b).2 failed []

theorem cutsNothing_edgeTrained (he : e < 4) (p : Panel) : CutsNothing p (edgeTrained s e wires p) :=
  cutsNothing_each _ (fun q _ hk => cutsNothing_trans (cutsNothing_trainBundle q s (mem_faceBundles_lt_far he.le hk) _ _)
    (cutsNothing_trainBundle _ _ (farBundle_lt _ _) _ _)) p

/-- A cut edge that rejoins is open, and none of its bundles is cut. -/
theorem rejoinEdge_opens (he : e < 4) (hcut : p.edgeCut s e = true) (hr : p.routes s = true) :
    (p.rejoinEdge s e wires).edgeCut s e = false ∧ ∀ k ∈ faceBundles e, (p.rejoinEdge s e wires).azState s k ≠ azCut := by
  have hnothing : CutsNothing (reopened s e p) (p.rejoinEdge s e wires) := by
    unfold Panel.rejoinEdge
    rw [if_neg (by simp [hcut, hr])]
    have hexchanged := cutsNothing_exchange (s := s) he.le (reopened s e p)
    exact cutsNothing_trans hexchanged (cutsNothing_ite (cutsNothing_refl _) (cutsNothing_edgeTrained he _))
  obtain ⟨hopen, hdown⟩ := reopened_open (s := s) (p := p) he
  refine ⟨?_, fun k hk => hnothing.2 s k (mem_faceBundles_lt he hk) ?_⟩
  · unfold Panel.edgeCut at hopen ⊢
    rw [hnothing.1, hopen]
  · rw [hdown k hk]
    decide

end

/-! ### Runs in which one round turns a value -/

/-- A run turns a value as the round of one element does, when the rounds of the others keep it. -/
theorem each_turns {α β : Type} (val : Panel → β) (turn : β → β) {f : Panel → α → Panel} {l : List α} (hl : l.Nodup) {x : α}
    (hx : x ∈ l) (hturn : ∀ p, val (f p x) = turn (val p)) (hkeep : ∀ p, ∀ y ∈ l, y ≠ x → val (f p y) = val p) (p : Panel) :
    val (p.each l f) = turn (val p) := by
  obtain ⟨a, b, rfl⟩ := List.append_of_mem hx
  obtain ⟨-, hb, hab⟩ := List.nodup_append.1 hl
  have ha (q : Panel) : val (q.each a f) = val q :=
    each_keeps val a (fun q y hy => hkeep q y (by simp [hy]) (hab y hy x (by simp))) q
  have hb (q : Panel) : val (q.each b f) = val q :=
    each_keeps val b (fun q y hy => hkeep q y (by simp [hy]) fun h => (List.nodup_cons.1 hb).1 (h ▸ hy)) q
  unfold Panel.each at ha hb ⊢
  rw [List.foldl_append, List.foldl_cons, hb, hturn, ha]

/-! ### Ties (R331) -/

theorem faceBundles_nodup (e : Nat) : (faceBundles e).Nodup :=
  List.nodup_range.map fun a b h => by simpa using h

theorem bitOf_mod_sixteen (mask : Nat) {e : Nat} (he : e < 4) : bitOf (mask % 16) e = bitOf mask e := by
  rw [bitOf_eq_testBit, bitOf_eq_testBit, show (16 : Nat) = 2 ^ 4 from rfl, Nat.testBit_mod_two_pow, decide_eq_true he, Bool.true_and]

/-- The state that a bundle takes under a tie mask that names its edge, or does not. -/
def tiedState (named : Bool) (st : Nat) : Nat :=
  if named && st = azUp then azTied else if !named && st = azTied then azUp else st

/-- A bundle under a tie mask that names its edge, or does not. -/
def tieBundle (s : Nat) (named : Bool) (p : Panel) (b : Nat) : Panel :=
  let st := p.azState s b
  if named && st = azUp then (p.setField s (Csr.AZL_BUNDLE_STATE b) azTied).tellPeer s b
  else if !named && st = azTied then (p.setField s (Csr.AZL_BUNDLE_STATE b) azUp).tellPeer s b
  else p

theorem tieMask_eq (p : Panel) (s mask : Nat) : p.tieMask s mask
    = ((p.setField s Csr.AZL_CTRL_TIE_MASK mask).setField s Csr.AZL_STATUS_TIED mask).each (List.range (faceCount s))
        fun p e => p.each (faceBundles e) (tieBundle s (bitOf mask e)) := rfl

section
variable (p : Panel) (s : Nat) (named : Bool) {b : Nat}

theorem tieBundle_field {g : Fld} (hsep : Separate (Csr.AZL_BUNDLE_STATE b) g) : (tieBundle s named p b).field s g = p.field s g := by
  unfold tieBundle
  simp only
  split
  · rw [told_field (told_tellPeer _ _ _), field_setField_separate hsep]
  · split
    · rw [told_field (told_tellPeer _ _ _), field_setField_separate hsep]
    · rfl

variable (hb : b < 64)
include hb

theorem tieBundle_azState : (tieBundle s named p b).azState s b = tiedState named (p.azState s b) := by
  have hset (v : Nat) (hv : v < 2 ^ 3) : ((p.setField s (Csr.AZL_BUNDLE_STATE b) v).tellPeer s b).azState s b = v :=
    (told_field (told_tellPeer _ _ _) _ _).trans (azState_setState p s (by omega) hv)
  unfold tieBundle tiedState
  simp only
  split
  · exact hset _ (by decide)
  · split
    · exact hset _ (by decide)
    · rfl

theorem tieBundle_azState_other {k : Nat} (hk : k < 64) (h : b ≠ k) : (tieBundle s named p b).azState s k = p.azState s k :=
  tieBundle_field p s named (state_separate_state (by omega) (by omega) h)

end

/-- A tie mask leaves a field below AZL_BUNDLE once its own fields are written. -/
theorem tieEdges_field (p : Panel) (s mask : Nat) {g : Fld} (hg : BelowBundles g) :
    (p.each (List.range (faceCount s)) fun p e => p.each (faceBundles e) (tieBundle s (bitOf mask e))).field s g = p.field s g := by
  refine each_keeps (·.field s g) _ (fun q e he => each_keeps (·.field s g) _ (fun r b hb => ?_) q) p
  have hb64 := mem_faceBundles_lt ((List.mem_range.1 he).trans_le (faceCount_le s)) hb
  exact tieBundle_field r s _ (bundleFld_separate_below (by omega) (by decide) (by decide) hg).1

/-- Each bundle of a die takes the state of its edge's bit, and no other bundle's round changes it. -/
theorem tieEdges_azState (p : Panel) {s mask e k : Nat} (he : e < faceCount s) (hk : k ∈ faceBundles e) :
    (p.each (List.range (faceCount s)) fun p e => p.each (faceBundles e) (tieBundle s (bitOf mask e))).azState s k
      = tiedState (bitOf mask e) (p.azState s k) := by
  have hlt {e' j : Nat} (he' : e' ∈ List.range (faceCount s)) (hj : j ∈ faceBundles e') : j < 64 :=
    mem_faceBundles_lt ((List.mem_range.1 he').trans_le (faceCount_le s)) hj
  have hface : e ∈ List.range (faceCount s) := List.mem_range.2 he
  have hk64 := hlt hface hk
  refine each_turns (·.azState s k) (tiedState (bitOf mask e)) List.nodup_range hface (fun q => ?_) (fun q e' he' hne => ?_) p
  · exact each_turns (·.azState s k) _ (faceBundles_nodup e) hk (fun r => tieBundle_azState r s _ hk64)
      (fun r j hj hjk => tieBundle_azState_other r s _ (hlt hface hj) hk64 hjk) q
  · refine each_keeps (·.azState s k) _ (fun r j hj => tieBundle_azState_other r s _ (hlt he' hj) hk64 ?_) q
    rintro rfl
    exact hne ((mem_faceBundles_div hj).symm.trans (mem_faceBundles_div hk))

/-- What a tie mask leaves: its own registers, and the bundles of the edges tied and released (R331). -/
theorem tieMask_shows (p : Panel) (s mask : Nat) (hmask : mask < 16) :
    (p.tieMask s mask).field s Csr.AZL_CTRL_TIE_MASK = mask ∧ (p.tieMask s mask).field s Csr.AZL_STATUS_TIED = mask
      ∧ ∀ e k, e < faceCount s → k ∈ faceBundles e →
        (p.tieMask s mask).azState s k = tiedState (bitOf mask e) (p.azState s k) := by
  have hsep : Separate Csr.AZL_STATUS_TIED Csr.AZL_CTRL_TIE_MASK := by decide
  have hfits : FldFits Csr.AZL_CTRL_TIE_MASK ∧ FldFits Csr.AZL_STATUS_TIED := by
    unfold FldFits
    decide
  rw [tieMask_eq]
  refine ⟨?_, ?_, fun e k he hk => ?_⟩
  · rw [tieEdges_field _ _ _ (by decide), field_setField_separate hsep, field_setField_same _ _ _ _ hfits.1]
    exact Nat.mod_eq_of_lt hmask
  · rw [tieEdges_field _ _ _ (by decide), field_setField_same _ _ _ _ hfits.2]
    exact Nat.mod_eq_of_lt hmask
  · have hk64 := mem_faceBundles_lt (he.trans_le (faceCount_le s)) hk
    have hbelow {f : Fld} (hf : BelowBundles f) : Separate f (Csr.AZL_BUNDLE_STATE k) :=
      (bundleFld_separate_below (by omega) (by decide) (by decide) hf).2
    rw [tieEdges_azState _ he hk]
    unfold Panel.azState
    rw [field_setField_separate (hbelow (by decide)), field_setField_separate (hbelow (by decide))]

end Sys2Proof.Proofs
end

section
/-! SUPPORT. The commands of Azrolane failures, training, cuts and ties (R76, R325, R326, R330 to R334), and their obligation. -/

namespace Sys2Proof.Proofs

open Sys2Proof.Machine Sys2Proof.Laws

section
variable {s : State} {site b edge : Nat}

/-! ### AZ_CRC_FAIL (R325) -/

theorem exec_azCrcFail_ignored {f : AzFrame} (h : f.intact = true ∨ s.seen.listens f.site f.bundle = false) :
    exec (.azCrcFail f) s = .next (s.quiet id) := exec_quiet rfl (crcFailed_ignored _ _ h)

theorem exec_azCrcFail_tied {f : AzFrame} (hbad : f.intact = false) (hl : s.seen.listens f.site f.bundle = true)
    (ht : s.seen.edgeTied f.site (faceOf f.bundle) = true) :
    exec (.azCrcFail f) s = .next (s.quiet fun p => p.tiedFrame f.site f.bundle none) :=
  exec_quiet rfl (crcFailed_tied hbad hl ht)

theorem exec_azCrcFail_asks {f : AzFrame} (hbad : f.intact = false) (hl : s.seen.listens f.site f.bundle = true)
    (ht : s.seen.edgeTied f.site (faceOf f.bundle) = false) :
    ∃ t, exec (.azCrcFail f) s = .next t ∧ (t.p.bundle f.site f.bundle).discarding = true
      ∧ t.p.tallyOf f.site (Csr.AZL_BERR_CRC f.bundle)
          = min (2 ^ (Csr.AZL_BERR_CRC f.bundle).width - 1) (s.p.tallyOf f.site (Csr.AZL_BERR_CRC f.bundle) + 1)
      ∧ (∃ control, .azFrame f.site f.bundle (azWires azNakKind 0 0 control) ∈ t.p.out)
      ∧ t.mem = s.mem ∧ t.p.time = s.p.time := by
  obtain ⟨hdiscards, hcount, hnak⟩ := crcFailed_asks hbad hl ht
  refine ⟨_, rfl, hdiscards, ?_, hnak, rfl, rfl⟩
  exact (quiet_tallyOf ..).trans (hcount.trans (by rw [seen_tallyOf]))

/-! ### AZ_NO_GOOD_FRAME and AZ_RETRAIN (R326) -/

/-- A command that retrains a bundle of the panel `q`, which counts as many retrains of it as the panel before. -/
theorem exec_retrains {c : Instr} {q : Panel} (hc : exec c s = .next (s.quiet fun _ => q.retrain site b)) (hb : b < 64)
    (hcut : q.azState site b ≠ azCut) (hbad : q.azState site b ≠ azBad) (hr : q.routes site = true)
    (hcount : q.field site (Csr.AZL_BUNDLE_RETRAINS b) = s.p.field site (Csr.AZL_BUNDLE_RETRAINS b)) :
    ∃ t, exec c s = .next t ∧ t.p.azState site b = azTraining
      ∧ t.p.field site (Csr.AZL_BUNDLE_RETRAINS b) = min (2 ^ (Csr.AZL_BUNDLE_RETRAINS b).width - 1)
          (s.p.field site (Csr.AZL_BUNDLE_RETRAINS b) + 1)
      ∧ t.mem = s.mem ∧ t.p.time = s.p.time := by
  obtain ⟨hstate, hretrains⟩ := retrain_trains hb hcut hbad hr
  rw [hcount] at hretrains
  exact ⟨_, hc, (quiet_field ..).trans hstate, (quiet_field ..).trans hretrains, rfl, rfl⟩

theorem exec_azNoGoodFrame : exec (.azNoGoodFrame site b) s = .next (s.quiet fun _ => s.seen.retrain site b) :=
  exec_quiet (f := fun p => p.retrain site b) rfl rfl

theorem exec_azNoGoodFrame_stays (h : TrainsNot s.seen site b) : exec (.azNoGoodFrame site b) s = .next (s.quiet id) :=
  exec_quiet rfl (retrain_stays h)

/-- A panel whose AZL_CTRL names an edge and a bundle. -/
def bundleNamed (site edge k : Nat) (p : Panel) : Panel :=
  (p.setField site Csr.AZL_CTRL_EDGE edge).setField site Csr.AZL_CTRL_BUNDLE k

theorem bundleNamed_azState (p : Panel) (edge k : Nat) (hb : b < 64) : (bundleNamed site edge k p).azState site b = p.azState site b :=
  (setCtrl_azState _ _ (.inr rfl) _ hb).trans (setCtrl_azState _ _ (.inl rfl) _ hb)

theorem bundleNamed_routes (p : Panel) (edge k : Nat) : (bundleNamed site edge k p).routes site = p.routes site :=
  (setCtrl_routes _ _ (.inr rfl) _).trans (setCtrl_routes _ _ (.inl rfl) _)

theorem bundleNamed_retrains (p : Panel) (edge k : Nat) (hb : b < 64) :
    (bundleNamed site edge k p).field site (Csr.AZL_BUNDLE_RETRAINS b) = p.field site (Csr.AZL_BUNDLE_RETRAINS b) :=
  (setCtrl_bundleFld _ _ (.inr rfl) _ hb (by decide) (by decide)).trans
    (setCtrl_bundleFld _ _ (.inl rfl) _ hb (by decide) (by decide))

section
variable (he : edge < 4) (k : Nat)
include he

theorem exec_azRetrain : exec (.azRetrain site edge k) s
    = .next (s.quiet fun _ => (bundleNamed site edge k s.seen).retrain site (16 * edge + k % 16)) := by
  refine exec_quiet rfl ?_
  simp only [Nat.mod_eq_of_lt he]
  rfl

theorem exec_azRetrain_trains (hcut : s.seen.azState site (16 * edge + k % 16) ≠ azCut)
    (hbad : s.seen.azState site (16 * edge + k % 16) ≠ azBad) (hr : s.seen.routes site = true) :
    ∃ t, exec (.azRetrain site edge k) s = .next t ∧ t.p.azState site (16 * edge + k % 16) = azTraining
      ∧ t.p.field site (Csr.AZL_BUNDLE_RETRAINS (16 * edge + k % 16))
          = min (2 ^ (Csr.AZL_BUNDLE_RETRAINS (16 * edge + k % 16)).width - 1)
              (s.p.field site (Csr.AZL_BUNDLE_RETRAINS (16 * edge + k % 16)) + 1)
      ∧ t.mem = s.mem ∧ t.p.time = s.p.time := by
  have hb : 16 * edge + k % 16 < 64 := by omega
  exact exec_retrains (exec_azRetrain he k) hb (by rwa [bundleNamed_azState _ _ _ hb]) (by rwa [bundleNamed_azState _ _ _ hb])
    (by rwa [bundleNamed_routes]) ((bundleNamed_retrains _ _ _ hb).trans (seen_field ..))

theorem exec_azRetrain_stays (h : TrainsNot s.seen site (16 * edge + k % 16)) :
    exec (.azRetrain site edge k) s = .next (s.quiet (bundleNamed site edge k)) := by
  have hb : 16 * edge + k % 16 < 64 := by omega
  refine exec_quiet (exec_azRetrain he k) (retrain_stays ?_)
  unfold TrainsNot
  rwa [bundleNamed_azState _ _ _ hb, bundleNamed_routes]

end

/-! ### AZ_CUT_TIMEOUT, AZ_CUT_ORDER and AZ_REJOIN (R332 to R334) -/

/-- A command that cuts an edge of the panel `q`. -/
theorem exec_cuts {c : Instr} {q : Panel} {code : Nat} (hc : exec c s = .next (s.quiet fun _ => q.cutEdge site edge code)) (he : edge < 4)
    (hopen : q.edgeCut site edge = false) (hr : q.routes site = true) (hcode : faultReg code = some Csr.AZL_FAULT) (hlt : code < 65536) :
    ∃ t, exec c s = .next t ∧ t.p.edgeCut site edge = true ∧ t.p.field site Csr.AZL_FAULT = code
      ∧ (∀ k ∈ faceBundles edge, t.p.azState site k = azCut ∧ (t.p.bundle site k).replay = []
        ∧ ∃ control, .azFrame site k (azWires azCutKind 0 0 control) ∈ t.p.out)
      ∧ t.mem = s.mem ∧ t.p.time = s.p.time := by
  obtain ⟨hcut, hfault, hbundles⟩ := cutEdge_cuts he hopen hr hcode hlt
  refine ⟨_, hc, ?_, (quiet_field ..).trans hfault, fun k hk => ?_, rfl, rfl⟩
  · unfold Panel.edgeCut at hcut ⊢
    rwa [quiet_field]
  · obtain ⟨hstate, hempty, hsent⟩ := hbundles k hk
    exact ⟨(quiet_field ..).trans hstate, hempty, hsent⟩

theorem exec_azCutTimeout_heard (h : s.seen.edgeSilent site edge = false) :
    exec (.azCutTimeout site edge) s = .next (s.quiet id) := exec_quiet rfl (if_neg (ne_true_of_eq_false h))

theorem exec_azCutTimeout_silent (h : s.seen.edgeSilent site edge = true) :
    exec (.azCutTimeout site edge) s = .next (s.quiet fun _ => s.seen.cutEdge site edge 0x0A07) := exec_quiet rfl (if_pos h)

section
variable (he : edge < 4)
include he

theorem exec_azCutOrder : exec (.azCutOrder site edge) s
    = .next (s.quiet fun _ => (s.seen.setField site Csr.AZL_CTRL_EDGE edge).cutEdge site edge 0x0A08) := by
  refine exec_quiet rfl ?_
  simp only [Nat.mod_eq_of_lt he]

theorem exec_azCutOrder_stays (h : s.seen.edgeCut site edge = true ∨ s.seen.routes site = false) :
    exec (.azCutOrder site edge) s = .next (s.quiet fun p => p.setField site Csr.AZL_CTRL_EDGE edge) := by
  refine exec_quiet (exec_azCutOrder he) (cutEdge_stays ?_)
  rwa [setCtrl_edgeCut _ _ (.inl rfl), setCtrl_routes _ _ (.inl rfl)]

theorem exec_azRejoin (wires : List (Nat × Nat)) : exec (.azRejoin site edge wires) s
    = .next (s.quiet fun _ => (s.seen.setField site Csr.AZL_CTRL_EDGE edge).rejoinEdge site edge wires) := by
  refine exec_quiet rfl ?_
  simp only [Nat.mod_eq_of_lt he]

theorem exec_azRejoin_opens (wires : List (Nat × Nat)) (hcut : s.seen.edgeCut site edge = true) (hr : s.seen.routes site = true) :
    ∃ t, exec (.azRejoin site edge wires) s = .next t ∧ t.p.edgeCut site edge = false ∧ t.mem = s.mem ∧ t.p.time = s.p.time
      ∧ ∀ k ∈ faceBundles edge, t.p.azState site k ≠ azCut := by
  obtain ⟨hopen, hstates⟩ := rejoinEdge_opens (p := s.seen.setField site Csr.AZL_CTRL_EDGE edge) (wires := wires) he
    (by rwa [setCtrl_edgeCut _ _ (.inl rfl)]) (by rwa [setCtrl_routes _ _ (.inl rfl)])
  refine ⟨_, exec_azRejoin he wires, ?_, rfl, rfl, fun k hk => ?_⟩
  · unfold Panel.edgeCut at hopen ⊢
    rwa [quiet_field]
  · exact (quiet_field ..).trans_ne (hstates k hk)

theorem exec_azRejoin_stays (wires : List (Nat × Nat)) (h : s.seen.edgeCut site edge = false ∨ s.seen.routes site = false) :
    exec (.azRejoin site edge wires) s = .next (s.quiet fun p => p.setField site Csr.AZL_CTRL_EDGE edge) := by
  refine exec_quiet (exec_azRejoin he wires) (rejoinEdge_stays ?_)
  rwa [setCtrl_edgeCut _ _ (.inl rfl), setCtrl_routes _ _ (.inl rfl)]

end

/-! ### AZ_RETRAIN_DONE (R76, R326) -/

section
variable {ok : Bool} {tx rx : List Nat} {raw : Nat}

theorem exec_azRetrainDone_untrained (h : s.seen.azState site b ≠ azTraining) :
    exec (.azRetrainDone site b ok tx rx raw) s = .next (s.store fun _ p => p) := exec_store rfl (if_neg h)

theorem exec_azRetrainDone_trained (h : s.seen.azState site b = azTraining) :
    exec (.azRetrainDone site b ok tx rx raw) s = .next (s.store fun _ _ => s.seen.retrained site b ok tx rx raw) :=
  exec_store rfl (if_pos h)

theorem exec_azRetrainDone_up (hb : b < 64) (hstate : s.seen.azState site b = azTraining) (hu : s.seen.unitState site (64 + b) ≠ .bad)
    (hfit : WiresFit s.seen site b tx rx) (hraw : s.seen.rigRole site b = 1 → raw + 1 ≤ s.seen.latency site b) :
    ∃ t, exec (.azRetrainDone site b true tx rx raw) s = .next t
      ∧ t.p.azState site b = (if s.seen.edgeTied site (faceOf b) then azTied else azUp)
      ∧ (t.p.bundle site b).rxSeq = 511 ∧ (t.p.bundle site b).replay = [] ∧ t.mem = s.mem ∧ t.p.time = s.p.time := by
  obtain ⟨hup, hseq, hempty, hwrites⟩ := retrained_up hb hstate hu hfit hraw
  exact ⟨_, exec_azRetrainDone_trained hstate, (store_field ..).trans hup, hseq, hempty, store_mem_of_writes _ _ hwrites, rfl⟩

theorem exec_azRetrainDone_failed (hb : b < 64) (hstate : s.seen.azState site b = azTraining)
    (hfew : (failedRetrains s.seen site b).length < 3) :
    ∃ t, exec (.azRetrainDone site b false tx rx raw) s = .next t ∧ (t.p.bundle site b).retrainAt = failedRetrains s.seen site b
      ∧ t.p.azState site b = azTraining ∧ t.mem = s.mem := by
  obtain ⟨hfails, hkept, hwrites⟩ := retrained_fails (tx := tx) (rx := rx) (raw := raw) hb hfew
  exact ⟨_, exec_azRetrainDone_trained hstate, hfails, (store_field ..).trans (hkept.trans hstate), store_mem_of_writes _ _ hwrites⟩

end

/-! ### TC_LOOPBACK (R330) and TIE_MASK_WRITE (R331) -/

section
variable {tx rx : List Nat}

theorem exec_tcLoopback_dark (h : s.seen.lives site = false) : exec (.tcLoopback site b tx rx) s = .next (s.quiet id) :=
  exec_quiet rfl (if_neg (ne_true_of_eq_false h))

theorem exec_tcLoopback_alive (h : s.seen.lives site = true) :
    exec (.tcLoopback site b tx rx) s = .next (s.quiet fun _ => s.seen.repairWires site b tx rx) := exec_quiet rfl (if_pos h)

theorem exec_tcLoopback_fit (hb : b < 64) (hl : s.seen.lives site = true) (hfit : WiresFit s.seen site b tx rx) :
    ∃ t, exec (.tcLoopback site b tx rx) s = .next t
      ∧ (∀ w l, newTx s.seen site b tx = w :: l → t.p.isSet site (Csr.AZL_BUNDLE_REPAIR_TX_V b) = true
          ∧ t.p.field site (Csr.AZL_BUNDLE_REPAIR_TX b) = w % 2 ^ (Csr.AZL_BUNDLE_REPAIR_TX b).width)
      ∧ (∀ w l, newRx s.seen site b rx = w :: l → t.p.isSet site (Csr.AZL_BUNDLE_REPAIR_RX_V b) = true
          ∧ t.p.field site (Csr.AZL_BUNDLE_REPAIR_RX b) = w % 2 ^ (Csr.AZL_BUNDLE_REPAIR_RX b).width)
      ∧ t.p.azState site b = s.p.azState site b ∧ t.mem = s.mem ∧ t.p.time = s.p.time := by
  have hb80 : b < 80 := by omega
  have hc := exec_tcLoopback_alive (b := b) (tx := tx) (rx := rx) hl
  rw [repairWires_fit hfit] at hc
  obtain ⟨htx, hrx⟩ := repairsKept_shows site (newTx s.seen site b tx) (newRx s.seen site b rx) s.seen hb80
  have hstate := repairsKept_azState site (newTx s.seen site b tx) (newRx s.seen site b rx) s.seen hb80 hb80 site
  refine ⟨_, hc, fun w l h => ?_, fun w l h => ?_, ?_, rfl, rfl⟩
  · rw [quiet_isSet, quiet_field]
    exact htx w l h
  · rw [quiet_isSet, quiet_field]
    exact hrx w l h
  · exact (quiet_field ..).trans (hstate.trans (seen_field ..))

theorem exec_tcLoopback_unfit (hb : b < 64) (hl : s.seen.lives site = true) (hfit : ¬ WiresFit s.seen site b tx rx) :
    ∃ t, exec (.tcLoopback site b tx rx) s = .next t ∧ t.p.azState site b = azBad
      ∧ (site, 64 + b) ∈ t.p.plan.bootBad ∧ t.p.field site Csr.BST_FAULT = 0x0E0E ∧ t.mem = s.mem := by
  have hc := exec_tcLoopback_alive (b := b) (tx := tx) (rx := rx) hl
  rw [repairWires_unfit hfit] at hc
  obtain ⟨hstate, hbad, hfault⟩ := wireBad_shows s.seen (s := site) (b := b) (by omega)
  exact ⟨_, hc, (quiet_field ..).trans hstate, hbad, (quiet_field ..).trans hfault, rfl⟩

end

theorem exec_tieMaskWrite (mask : Nat) : ∃ t, exec (.tieMaskWrite site mask) s = .next t
    ∧ t.p.field site Csr.AZL_CTRL_TIE_MASK = mask % 16 ∧ t.p.field site Csr.AZL_STATUS_TIED = mask % 16
    ∧ t.mem = s.mem ∧ t.p.time = s.p.time
    ∧ ∀ e k, e < faceCount site → k ∈ faceBundles e →
      (bitOf mask e = true → s.seen.azState site k = azUp → t.p.azState site k = azTied)
      ∧ (bitOf mask e = false → s.seen.azState site k = azTied → t.p.azState site k = azUp) := by
  obtain ⟨hmask, htied, hstates⟩ := tieMask_shows s.seen site (mask % 16) (Nat.mod_lt _ (by decide))
  refine ⟨_, rfl, (quiet_field ..).trans hmask, (quiet_field ..).trans htied, rfl, rfl, fun e k he hk => ?_⟩
  have hstate := hstates e k he hk
  rw [bitOf_mod_sixteen mask (he.trans_le (faceCount_le site))] at hstate
  refine ⟨fun hbit hup => ?_, fun hbit htied => ?_⟩
  · exact (quiet_field ..).trans (hstate.trans (by rw [hbit, hup]; rfl))
  · exact (quiet_field ..).trans (hstate.trans (by rw [hbit, htied]; rfl))

end

/-- Settles O34: a cut leaves nothing to replay, since a TRUNC that a cut packet owes goes on by no bundle of the cut edge; a rejoin writes
no state cut at either end; a training's wires fit the repair wires; and each bundle's state is written in its own round of a tie mask. -/
theorem azrolaneTraining : Obligations.AzrolaneTraining := by
  unfold Obligations.AzrolaneTraining
  refine ⟨fun s site b edge wires hb he => ⟨fun f hsite hbundle => ?crcFail,
      fun hcut hbad hr => exec_retrains exec_azNoGoodFrame hb hcut hbad hr (seen_field ..), exec_azNoGoodFrame_stays,
      fun k => ⟨exec_azRetrain_trains he k, exec_azRetrain_stays he k⟩, exec_azCutTimeout_heard,
      fun hsilent hopen hr => exec_cuts (exec_azCutTimeout_silent hsilent) he hopen hr rfl (by decide), fun hopen hr => ?cutOrder,
      exec_azCutOrder_stays he, exec_azRejoin_opens he wires, exec_azRejoin_stays he wires⟩,
    fun s site b raw tx rx hb => ⟨fun h _ => exec_azRetrainDone_untrained h, exec_azRetrainDone_up hb, exec_azRetrainDone_failed hb,
      exec_tcLoopback_dark, exec_tcLoopback_fit hb, exec_tcLoopback_unfit hb, exec_tieMaskWrite⟩⟩
  case crcFail =>
    subst hsite hbundle
    exact ⟨exec_azCrcFail_ignored, exec_azCrcFail_tied, exec_azCrcFail_asks⟩
  case cutOrder =>
    exact exec_cuts (exec_azCutOrder he) he ((setCtrl_edgeCut _ _ (.inl rfl) _ _).trans hopen)
      ((setCtrl_routes _ _ (.inl rfl) _).trans hr) rfl (by decide)

end Sys2Proof.Proofs
end
